-- ==== Sys2Proof/Word.lean ====
section
/-! DEFINITION. The machine's plainest types: the 32-bit register word of BAR0 and the byte of the BAR2 window and of frames. -/

namespace Sys2Proof

/-- One 32-bit register word (00_scope.md, "Registers"). -/
abbrev Word := BitVec 32

/-- One byte of a frame, of an image or of the BAR2 window. -/
abbrev Byte := BitVec 8

end Sys2Proof
end

