-- ==== Sys2Proof/Syntax.lean ====
section
/-! DEFINITION. The commands: one constructor of `Instr` for each row of spec/opcode_table.json, with the data that the environment or the
host supplies as operands. -/

namespace Sys2Proof

/-- What candidate n's inputs show at a selection tick (R55): whether its clock edges, or its Announce and Sync messages, keep arriving
(`live`), whether its frame pulses keep arriving within 1 µs of prediction (`pulse`), the clockClass of its grandmaster, and its frequency
offset against XO_IN's nominal, in units of 2^-40. -/
structure CandObs where
  live : Bool := false
  pulse : Bool := false
  clockClass : Nat := 255
  freq : Int := 0
  deriving DecidableEq, Repr

/-- What the Blotter's check of its protected words finds (R458): how many single-bit errors in the sticky and raw arrays, uncorrectable sticky
words and how many raw ones, severity words whose parity fails, and how many control registers. -/
structure BltObs where
  corrected : Nat := 0
  badSticky : List Nat := []
  badRaw : Nat := 0
  badSev : List Nat := []
  badCtrl : Nat := 0
  deriving DecidableEq, Repr

/-- What of a stored frame can no longer be read (R288, R295, R330): its surface, its number in the order of writing there, a block of its full-size
picture (`what` 0), ½-size (1) or ¼-size proxy (2) in raster order, or its buffer header (3). -/
structure BadData where
  surf : Nat := 0
  num : Nat := 0
  what : Nat := 0
  block : Nat := 0
  deriving DecidableEq, Repr

/-- What a channel's error correction finds while its codewords are read (R329, R330): codewords corrected, the channel byte addresses of
uncorrectable ones, and what those held. -/
structure EccObs where
  channel : Nat := 0
  ce : Nat := 0
  ues : List Nat := []
  bad : List BadData := []
  deriving DecidableEq, Repr

/-- What the device's inputs show at a tick: the six candidates in index order, whether XO_IN toggles, what the Blotter's check finds, and what the
Inkwell's traffic has lost since the last tick (R294, R295): per DRAM channel the blocks shed or replaced, which they were,
and reads that overtook their writer; and per MAC how many received frames and transmit timestamps firmware has taken from its queues since then (R230, R239). -/
structure TickObs where
  cands : List CandObs := []
  xo : Bool := true
  blt : BltObs := {}
  shed : List (Nat × Nat) := []
  bad : List BadData := []
  overtakes : Nat := 0
  taken : List (Nat × Nat × Nat) := []
  deriving DecidableEq, Repr

/-- One word of a register request (R530): its data, that all its byte enables are set, and that its parity holds. -/
structure Beat where
  data : Nat := 0
  enabled : Bool := true
  parity : Bool := true
  deriving DecidableEq, Repr

/-- An entry of the Pattern's format table: R34's picture parameters, the sampling (0 4:2:2, 1 4:4:4, 2 RGB), the bits per component, the
colour space by number, and the SDI interface of R202 (0 none, 1 SD, 2 HD, 3 3G level A, 4 3G level B-DL, 5 dual-link 3G, 6 quad-link 3G, 7 6G,
8 12G, 9 quad-link 12G, 10 24G) with its division (square, or two-sample interleave). -/
structure Fmt where
  lines : Nat := 0
  samples : Nat := 0
  activeLines : Nat := 0
  activeSamples : Nat := 0
  firstActive : Nat := 0
  scan : Nat := 0
  field2Line : Nat := 0
  sampling : Nat := 0
  depth : Nat := 10
  cspace : Nat := 0
  iface : Nat := 0
  square : Bool := false
  deriving DecidableEq, Repr

/-- One take record as its four words (R115). -/
structure RecWords where
  w0 : Nat := 0
  w1 : Nat := 0
  w2 : Nat := 0
  w3 : Nat := 0
  deriving DecidableEq, Repr

/-- A salvo as posted: the eight header words (R114) and the records. -/
structure Salvo where
  hdr : List Nat := []
  recs : List RecWords := []
  deriving DecidableEq, Repr

/-- One leg of a receive or transmit descriptor (R244, R265). -/
structure Leg where
  mac : Nat := 0
  vlan : Option Nat := none
  pcp : Nat := 0
  v6 : Bool := false
  dst : Nat := 0
  src : Option Nat := none
  dport : Nat := 0
  sport : Option Nat := none
  dscp : Nat := 0
  ttl : Nat := 64
  dmac : Option Nat := none
  deriving DecidableEq, Repr

/-- A receive descriptor (R244). `kind`: 0 -20, 1 -30, 2 -31, 3 -40, 4 2022-6, 5 opaque, 6 control; a field the Pattern omits is none. -/
structure RxDesc where
  kind : Nat := 0
  source : Nat := 0
  role : Nat := 0
  legs : List Leg := []
  ssrc : Option Nat := none
  fmt : Option Nat := none
  fam : Option Nat := none
  npackets : Option Nat := none
  rxType : Option Nat := none
  troAdj : Nat := 0
  window : Nat := 0
  rate : Option Nat := none
  channels : Option Nat := none
  encoding : Option Nat := none
  spp : Option Nat := none
  dra : Option Nat := none
  peak : Option Nat := none
  drOp : Option Nat := none
  resident : Bool := false
  deriving DecidableEq, Repr

/-- A transmit descriptor (R265); kinds as in `RxDesc`. -/
structure TxDesc where
  kind : Nat := 0
  legs : List Leg := []
  ssrc : Option Nat := none
  pt : Option Nat := none
  payloadMax : Option Nat := none
  shapingW : Option Bool := none
  spp : Option Nat := none
  encoding : Option Nat := none
  channels : Option Nat := none
  deriving DecidableEq, Repr

/-- What makes a source (R104, R107, R243, R369, R401): the SDI lanes it comes from (the first is its input), its receive descriptors, a Quilt head's output, an
audio input port (0-7 TDM, 8-15 AIN) with its channels, or a mix. -/
inductive Producer where
  | sdi (lanes : List Nat)
  | flows
  | head (h : Nat)
  | port (p : Nat)
  | mix (firstOutput : Nat)
  deriving DecidableEq, Repr

/-- A source of the Pattern. `stream`: 0 raster, 1 ANC-only, 2 opaque, 3 audio-only; `halfClass`: charge class k = 0.5 (R162); `rate`: index of
the channel group's sample rate (0 44.1, 1 48, 2 88.2, 3 96 kHz); `peak`: an opaque flow's rate in bit/s. -/
structure SrcDesc where
  num : Nat := 0
  member : Nat := 0
  producer : Producer := .flows
  stream : Nat := 0
  fam : Nat := 0
  fmt : Nat := 0
  channels : Nat := 0
  rate : Nat := 1
  halfClass : Bool := false
  psidReq : Bool := false
  peak : Nat := 0
  rx : List RxDesc := []
  deriving DecidableEq, Repr

/-- A destination of the Pattern (R108). `kind` as XPT_DST_ID.kind: 1 SDI, 2 ST 2110 raster, 3 ST 2022-6, 4 audio sender, 5 ANC sender,
6 opaque, 7 port group; `port`: the audio port (0-7 TDM, 8-15 AOUT, 16 Gather) of a port group, `columns`: a Gather feed's default columns by
channel, as (output, entry) pairs (R400), with `portCh` its first channel there;
`lanes`: the lanes of an SDI output, the first its SDI_OUT index;
`delay`: frames of a delay line (R304), 0 for none. -/
structure DstDesc where
  num : Nat := 0
  member : Nat := 0
  index : Nat := 0
  kind : Nat := 1
  lanes : List Nat := []
  port : Nat := 0
  portCh : Nat := 0
  fam : Nat := 0
  fmt : Nat := 0
  doNib : Nat := 0
  direct : Bool := false
  policy : Nat := 0
  secondary : Nat := 0
  prot : Nat := 65535
  revert : Bool := false
  revertFrames : Nat := 1
  safeHold : Bool := false
  priority : Nat := 2
  channels : Nat := 0
  rate : Nat := 1
  delay : Nat := 0
  tx : List TxDesc := []
  columns : List (List (Nat × Nat)) := []
  deriving DecidableEq, Repr

/-- A placement pin (R159). `what`: 0 destination slot or gang, 1 source slot or gang, 2 ingest surface channel, 3 hold-store channel,
4 layer scaler, 5 conversion head, 6 spine; `item`: destination number, source number or layer; `value`: the resource index. -/
structure Pin where
  what : Nat := 0
  item : Nat := 0
  value : Nat := 0
  hard : Bool := false
  deriving DecidableEq, Repr

/-- One section of the Pattern: its table row (R470), whether it decrypts, and the register writes it makes, in order, as (BAR0 offset, word);
enables are among them. -/
structure PatSection where
  type : Nat := 0
  critical : Bool := false
  encrypted : Bool := false
  opens : Bool := true
  offset : Nat := 0
  stored : Nat := 0
  writes : List (Nat × Nat) := []
  deriving DecidableEq, Repr

/-- A link of a fabric member (R415): its Seam link, its lanes, and the neighbour's member number and link. -/
structure FabLink where
  link : Nat := 0
  lanes : Nat := 8
  peer : Nat := 0
  peerLink : Nat := 0
  deriving DecidableEq, Repr

/-- A member of the fabric section (R415): its role (0 alone, 1 leaf, 2 spine, 3 twin) and its links. -/
structure FabMember where
  num : Nat := 0
  role : Nat := 0
  links : List FabLink := []
  deriving DecidableEq, Repr

/-- The settings of a DRAM data lane: read and write delay and reference voltage code (R337). -/
structure LaneDly where
  rd : Nat := 0
  wr : Nat := 0
  vref : Nat := 0
  deriving DecidableEq, Repr

/-- What a sub-step of a DRAM channel's training ends with (R317): whether it found no working setting, whether it was the last of its step,
and the settings found so far. -/
structure TrainObs where
  failed : Bool := false
  stepDone : Bool := true
  dq : List LaneDly := []
  dqs : List (Nat × Nat) := []
  ca : List (Nat × Nat) := []
  deriving DecidableEq, Repr

/-- The delay set of a fixed-delay channel (R323): its speed and the values of every field of DRC_DLY_DQ (rd, wr, vref), DRC_DLY_DQS and
DRC_DLY_CA. -/
structure DelaySet where
  channel : Nat := 0
  speed : Nat := 0
  dq : List (Nat × Nat × Nat) := []
  dqs : List (Nat × Nat) := []
  ca : List (Nat × Nat) := []
  deriving DecidableEq, Repr

/-- What a member has to place on (R160, R161): its DRAM channels (number, fixed-delay, speed in MT/s, MiB for surfaces), its conversion pool in
the Pattern's order, its MACs with their port rates in bit/s, its Gather inputs, its heads with an overlay (head, family, format entry, gang),
the channel of its capture surface (R308), and the synthesiser sources of its quads (quad, source; R176). -/
structure MemberRes where
  num : Nat := 0
  drams : List (Nat × Bool × Nat × Nat) := []
  pool : List Nat := []
  macs : List (Nat × Nat) := []
  gather : Nat := 1024
  overlays : List (Nat × Nat × Nat × Bool) := []
  capture : Option Nat := none
  synths : List (Nat × Nat) := []
  deriving DecidableEq, Repr

/-- The in-band control flow (R541): the legs of its receive entry, and for each control key its slot and the permitted peers (none: any). -/
structure CtlFlow where
  legs : List Leg := []
  keys : List (Nat × Option (List Nat)) := []
  deriving DecidableEq, Repr

/-- The Pattern as validation and application read it, beside its register writes: everything its sections define that is not a register. -/
structure Pat where
  version : Nat := 0
  digest : Nat := 0
  sections : List PatSection := []
  members : List FabMember := []
  master : Nat := 0
  standby : Nat := 0
  annLead : Nat := 2
  topo : Nat := 0
  formats : List (Nat × Fmt) := []
  sources : List SrcDesc := []
  dests : List DstDesc := []
  pins : List Pin := []
  directTol : Nat := 1323
  res : List MemberRes := []
  conv : List (Nat × Nat × Nat × Nat × Nat) := []
  layers : List (Nat × List Nat) := []
  delaySets : List DelaySet := []
  control : Option CtlFlow := none
  deriving DecidableEq, Repr

/-- What firmware finds when it reads the Pattern of the booted slot (R466 step 2): whether the flash could be read, whether the signature
verifies, and what its sections hold once decrypted. -/
structure PatView where
  readOk : Bool := true
  sigOk : Bool := true
  pat : Pat := {}
  deriving DecidableEq, Repr

/-- A pixel: luma or first component, then the two others. -/
structure Px where
  a : Nat := 0
  b : Nat := 0
  c : Nat := 0
  deriving DecidableEq, Repr

/-- An ST 291 packet: its line, data stream, whether it lies in horizontal blanking, its DID and SDID, its size in words, its payload words, and
whether its checksum and parity hold (R213, R214). -/
structure AncPkt where
  line : Nat := 0
  stream : Nat := 0
  horiz : Bool := false
  did : Nat := 0
  sdid : Nat := 0
  words : List Nat := []
  ok : Bool := true
  deriving DecidableEq, Repr

/-- One audio data packet of a link: its group (1 to 8), and for each of its four channels the 24-bit sample, its channel-status bit and
whether it begins a channel-status block (R215, R216, R218). -/
structure AudPkt where
  group : Nat := 1
  samples : List Int := []
  status : List Bool := []
  block : Bool := false
  deriving DecidableEq, Repr

/-- One line of one link as the SDI framer sees it (R209 to R218): its lane, its line number, the nib at which its EAV arrives and at which
its S0 arrives, whether EAV and SAV stand at the declared positions and its line-number words hold, the detected samples per line where the
spacing can be measured, on line 1 the lines counted in the frame that ended and the scan its TRS show, whether a line CRC failed (HD and above)
or a field CRC (SD), its ANC packets, audio data packets, and the groups whose control packet declares a rate (true: 48 kHz). -/
structure SdiLine where
  line : Nat := 1
  eav : Nat := 0
  s0 : Nat := 0
  trsOk : Bool := true
  lnOk : Bool := true
  samples : Option Nat := none
  lines : Option Nat := none
  scan : Option Nat := none
  crcErr : Bool := false
  edhErr : Bool := false
  anc : List AncPkt := []
  audio : List AudPkt := []
  control : List (Nat × Bool) := []
  picture : List Px := []
  deriving DecidableEq, Repr

/-- A received ST 352 payload as the standard decodes it (R203, R205): its four bytes, its link number (1 to 4), interface (`Fmt.iface`), scan,
sampling, depth, square division and 3G level B-DL. -/
structure Psid where
  raw : Nat := 0
  link : Nat := 1
  iface : Nat := 0
  scan : Nat := 0
  sampling : Nat := 0
  depth : Nat := 10
  square : Bool := false
  levelB : Bool := false
  deriving DecidableEq, Repr

/-- One sample row data segment of a -20 packet (R258): row within the field or frame, second field, first pixel, pixels. -/
structure VidRow where
  row : Nat := 0
  second : Bool := false
  offset : Nat := 0
  pixels : List Px := []
  deriving DecidableEq, Repr

/-- What an RTP packet carries: -20 rows with the high 16 bits of the sequence number; audio as one list of samples per channel, with the
channels whose AM824 status block says non-audio; RFC 8331 packets of a frame or field; the SDI lines that an ST 2022-6 payload completes, with the ST 352 packet among
them; or bytes that
are not parsed. -/
inductive RtpPayload where
  | video (seqHi : Nat) (rows : List VidRow)
  | audio (samples : List (List Int)) (nonAudio : List Nat)
  | anc (second : Bool) (pkts : List AncPkt)
  | sdi (lines : List SdiLine) (psid : Option Psid)
  | bytes (size : Nat)
  deriving DecidableEq, Repr

/-- An RTP version 2 packet. -/
structure RtpPkt where
  ssrc : Nat := 0
  seq : Nat := 0
  ts : Nat := 0
  marker : Bool := false
  payload : RtpPayload := .bytes 0
  deriving DecidableEq, Repr

/-- An IP packet as R245 looks at it. -/
structure IpPkt where
  v6 : Bool := false
  hdrOk : Bool := true
  fragment : Bool := false
  udp : Bool := true
  sumOk : Bool := true
  src : Nat := 0
  dst : Nat := 0
  sport : Nat := 0
  dport : Nat := 0
  rtp : Option RtpPkt := none
  update : Bool := false
  deriving DecidableEq, Repr

/-- A frame at an audio port (R378 to R388): whether it is valid, the nib at which it ends, its samples by slot or subframe, the subframes whose
parity fails, their channel-status bits, whether it begins a channel-status block, and, for the frame that completes one, whether its CRC holds. -/
structure PortFrame where
  valid : Bool := true
  at_ : Nat := 0
  samples : List Int := []
  parity : List Bool := []
  status : List Bool := []
  block : Bool := false
  crcOk : Bool := true
  deriving DecidableEq, Repr

/-- What stands behind the tags of a received frame: MAC control with its opcode and quanta, ARP, ICMP or neighbour discovery, a PTP message
(event or general), an IGMP or MLD query (for one group, or general) of a version, IP, or something no consumer knows. -/
inductive FrameBody where
  | control (opcode quanta : Nat)
  | arp
  | icmp
  | ptp (event : Bool)
  | query (group : Option Nat) (version : Nat)
  | ip (p : IpPkt)
  | other
  deriving DecidableEq, Repr

/-- A received frame (R227 to R231): its length, an FCS or coding error, its destination address, its tags and VLAN, its body, the nib at
which its timestamp point crosses the pins before rx_adj, and per lane of the port the symbols corrected since the frame before (R197). -/
structure RxFrame where
  syms : List Nat := []
  len : Nat := 64
  bad : Bool := false
  dmac : Nat := 0
  tags : Nat := 0
  vlan : Nat := 0
  body : FrameBody := .other
  arrival : Nat := 0
  deriving DecidableEq, Repr

/-- The control codeword of a Seam frame (R418); `txTime` and `echoTime` are whole nibs since the epoch. -/
structure SeamCtl where
  version : Nat := 1
  member : Nat := 0
  link : Nat := 0
  lane : Nat := 0
  rxOk : Nat := 0
  txLanes : Nat := 0
  txTime : Nat := 0
  echoTime : Nat := 0
  echoFrame : Nat := 0
  origin : Nat := 0
  hop : Nat := 255
  originCount : Nat := 0
  timeValid : Bool := false
  claim : Bool := false
  deriving DecidableEq, Repr

/-- A payload segment (R419): its Seam slot, its kind (0 video, 1 ANC, 2 audio sidecar, 3 opaque, 4 channel group, 5 lost), the line and word of
its first word, its pixels (none where an uncorrectable codeword lost them), ANC packets, one list of samples per channel, or bytes. -/
structure SeamSeg where
  slot : Nat := 0
  kind : Nat := 0
  line : Nat := 0
  word : Nat := 0
  px : List (Option Px) := []
  anc : List AncPkt := []
  samples : List (List (Int × Bool)) := []
  bytes : Nat := 0
  deriving DecidableEq, Repr

/-- A frame received on a Seam lane (R417 to R421): its control codeword where it could be corrected, whether its marker stands at the spacing
of R417, the nib at which the marker arrived, the lane's skew against the earliest working lane, codewords corrected and uncorrectable,
symbols corrected (R197), and the segments that begin on this lane. -/
structure SeamRx where
  ctl : Option SeamCtl := none
  spaced : Bool := true
  arrival : Nat := 0
  skew : Nat := 0
  corrected : Nat := 0
  symbols : Nat := 0
  uncorrected : Nat := 0
  segs : List SeamSeg := []
  deriving DecidableEq, Repr

/-- A training frame on a Seam lane (R422): the request field where its CRC holds, and the status field likewise. A request: member, link,
bundle lane, initial condition, five taps (0 hold, 1 increment, 2 decrement), rx_ready, identifier; a status: five answers and an
identifier; and what this device's own receiver wants of its partner next. -/
structure TrainReq where
  member : Nat := 0
  link : Nat := 0
  lane : Nat := 0
  init : Bool := false
  taps : List Nat := []
  ready : Bool := false
  id : Nat := 0
  deriving DecidableEq, Repr

structure TrainRx where
  req : Option TrainReq := none
  status : Option (List Nat × Nat) := none
  want : TrainReq := {}
  deriving DecidableEq, Repr

/-- A placement input (R144): a salvo with the member and bank that posted it and its posting instant, a layer's placement settings, or a
health record; and the answer that goes back to the member that forwarded a salvo (`slot` its bank) or a layer (2 + its number). -/
inductive PInput where
  | salvo (member bank posted : Nat) (s : Salvo)
  | layer (member layer : Nat) (words : List Nat)
  | health (member kind num value : Nat)
  | answer (member slot code firstBad at_ hops : Nat)
  deriving DecidableEq, Repr

/-- One item of the placement map (06_tailor.md). `kind`: 0 source slots, 1 destination slots, 2 ingest surface, 3 frame synchroniser, 4 delay
line, 5 conversion head, 6 hold surface, 7 receive entry, 8 transmit entry, 9 Gather input, 10 Seam path, 11 scaler of a layer part, 12
source-channel run, 13 destination-channel run, 14 overlay surface, 15 read of a surface for a layer. `member`: where it lies; `key`: what it
serves, as a source number, 65,536 + the number of the item whose output it takes, a destination number, a head or a layer; `fam`, `fmt`,
`doNib`: the format it works in; `unit`, `width`: the first slot, surface, entry, input, channel, scaler or head and how many; `slot`: the first
slot of a surface's writer or of a head's output; `surf`: the surface read; `ch` (plus 1), `bank`: its DRAM channel; `load`: its rate in bit/s, or
pixels per frame for a scaler; `num`: 16ths of the rate that it reads; `half`: class 0.5; `via`: further numbers, said where the item is made;
`since`: the nib from which it exists; `live`: this device has put it into effect; `dead`:
what it needs has failed, so that it is charged nothing and shared no more; `users`: what needs it, each with the nib from which it no
longer does (0 while it does) and what it needs of a surface. -/
structure TItem where
  id : Nat := 0
  kind : Nat := 0
  member : Nat := 0
  key : Nat := 0
  fam : Nat := 0
  fmt : Nat := 0
  doNib : Nat := 0
  unit : Nat := 0
  width : Nat := 1
  slot : Nat := 0
  surf : Nat := 0
  ch : Nat := 0
  bank : Nat := 0
  load : Nat := 0
  num : Nat := 16
  half : Bool := false
  hard : Bool := false
  via : List Nat := []
  since : Nat := 0
  live : Bool := false
  dead : Bool := false
  users : List (Nat × Nat × Nat) := []
  deriving DecidableEq, Repr

/-- A path in the placement map: its source, whether it is placed or waits unplaced, its kind as in R152 step 1 (0 none, 1 frame synchroniser,
2 conversion head, 3 delay line, 4 direct), the item whose output feeds the destination, its spine (plus 1), the nib from which its readers may
start, the nib of its switch point, and its latency. -/
structure TPath where
  src : Nat := 65535
  placed : Bool := false
  unplaced : Bool := false
  kind : Nat := 0
  item : Nat := 0
  spine : Nat := 0
  since : Nat := 0
  swAt : Nat := 0
  lat : Nat := 0
  deriving DecidableEq, Repr

/-- What the placement map holds of a destination: its loss policy, family and format as of the latest input, its paths, the channels that
follow no video as (channel, source, placed) and with the source channel as (channel, 64 source + source channel + 1), whether its hold surface is unplaced, and whether a pin was missed. -/
structure TDest where
  policy : Nat := 0
  secondary : Nat := 0
  revert : Nat := 0
  revertFrames : Nat := 1
  fam : Nat := 0
  fmt : Nat := 0
  prim : TPath := {}
  prot : TPath := {}
  shuf : List (Nat × Nat × Bool) := []
  chans : List (Nat × Nat) := []
  holdDown : Bool := false
  missed : Bool := false
  epoch : Nat := 0
  deriving DecidableEq, Repr

/-- What the placement map holds of a layer: its placement settings as of the latest input (en, src, key, cx, cy, cw, ch, rx, ry, rw, rh,
filter, field, taps of its bank, head, the head's family and format entry, gang, conversion), whether it is placed or unplaced, and the nib from
which its surfaces are written. -/
structure TLayer where
  words : List Nat := []
  placed : Bool := false
  unplaced : Bool := false
  epoch : Nat := 0
  deriving DecidableEq, Repr

/-- A migration (R165): the item, its new channel (plus 1) and bank, its new first unit or its
new Seam path, W, C and the end of C + P in nib, and its stage: 0
waiting for one of the 64 places, 1 planned, 2 dual writing, 3 switched. -/
structure Mig where
  item : Nat := 0
  toCh : Nat := 0
  toBank : Nat := 0
  toUnit : Nat := 0
  w : Nat := 0
  c : Nat := 0
  endAt : Nat := 0
  via : List Nat := []
  stage : Nat := 0
  deriving DecidableEq, Repr

/-- What STATE messages carry once complete (R434): the Pattern digest, the placement map (items, destinations with their sources and settings,
layers, usable resources, working lanes, absent members, migrations), epoch, last sequence number and the index of the latest input applied. -/
structure StateImage where
  digest : Nat := 0
  items : List TItem := []
  nextId : Nat := 1
  map : List (Nat × TDest) := []
  layers : List (Nat × TLayer) := []
  up : List Nat := []
  lanes : List (Nat × Nat) := []
  away : List Nat := []
  migs : List Mig := []
  epoch : Nat := 0
  lastSeq : Nat := 0
  accepted : Bool := false
  index : Nat := 0
  deriving DecidableEq, Repr

/-! ### What flash and the OTP hold (18_pattern_and_startup.md, 19_thimble_and_update.md) -/

/-- One item of the route memory (R478): `kind` 0 salvo record (its four words), 1 layer settings, 2 coefficient bank or colour program,
3 Gather entry, 4 TDM mask; `data` its address and words; `at_` the instant of its event in device time while it is not yet durable; `fmt` the
settings format it declares (R515). -/
structure JItem where
  kind : Nat := 0
  data : List Nat := []
  at_ : Nat := 0
  fmt : Nat := 0
  deriving DecidableEq, Repr

/-- The route memory of a slot (R478 to R480): its durable items, oldest first, and whether a usable checkpoint holds. -/
structure Route where
  items : List JItem := []
  usable : Bool := false
  deriving DecidableEq, Repr

/-- A stored image (R493): the 64 words of its update header, and its pieces by index. -/
structure Img where
  hdr : List Nat := []
  data : List (Nat × List Nat) := []
  deriving DecidableEq, Repr

/-- A slot of the flash (R464). -/
structure Slot where
  fw : Option Img := none
  pat : Option Img := none
  route : Route := {}
  deriving DecidableEq, Repr

/-- An update session (R497, R498): the words of its header, its target slot, its start second (none until time is set), its state, the pieces
held by index, whether the table has passed, the sources that offered it (0 PCIe, 1 + an address in band), and a key record as the
final check decoded it (slot, revoke, key_id). An ended session keeps its pieces until the next offer, with `state` 0. -/
structure Sess where
  hdr : List Nat := []
  target : Nat := 0
  start : Option Nat := none
  state : Nat := 0
  pieces : List (Nat × List Nat) := []
  tableOk : Bool := false
  sources : List Nat := []
  rec_ : Nat × Bool × Nat := (0, false, 0)
  deriving DecidableEq, Repr

/-- What outlasts the loss of power: the OTP (R489) with whether the key region holds keys, serial number, certificate chain, owner slots 0 to 3
as (key_id, valid, revoked), the two counters and the two flags; the boot record (R506) with the slot that its outcome concerns and whether
FS0278 is owed (R508, R514); the two slots; the session. `known`: the contents have been found by a ROM (MODEL FIELD). -/
structure Nv where
  known : Bool := false
  keys : Bool := false
  serial : Nat := 0
  cert : List Nat := []
  owners : List (Nat × Bool × Bool) := []
  rbFw : Nat := 0
  rbPat : Nat := 0
  eraseStarted : Bool := false
  testOpen : Bool := false
  generation : Nat := 0
  active : Nat := 0
  trial : Bool := false
  trialBoots : Nat := 0
  prevState : Nat := 0
  windowS : Nat := 120
  hostGate : Bool := false
  outcome : Nat := 0
  outcomeSlot : Nat := 0
  owesFallback : Bool := false
  slotA : Slot := {}
  slotB : Slot := {}
  sess : Option Sess := none
  deriving DecidableEq, Repr

/-- What the boot ROM finds (R466, R508): what flash and OTP hold, where no ROM has read them yet, and whether the firmware image of slot A and
of slot B passes the checks that need the Thimble's engines: its ROM key, its signature, its decryption and digest. -/
structure RomView where
  found : Nv := {}
  okA : Bool := true
  okB : Bool := true
  deriving DecidableEq, Repr

/-! ### In-band requests (20_host_and_interconnect.md) -/

/-- One operation of a control request (R543): its code, its count of words, its offset and its data words. -/
structure CtlOp where
  code : Nat := 0
  count : Nat := 1
  offset : Nat := 0
  data : List Nat := []
  deriving DecidableEq, Repr

/-- A datagram at the control entry (R542): the MAC and the address it came from, whether its magic, version, reserved bytes and length are
right, its kind, key slot, sequence number and boot identifier, whether its tag verifies, and its operations. -/
structure CtlReq where
  mac : Nat := 0
  src : Nat := 0
  v6 : Bool := false
  formOk : Bool := true
  kind : Nat := 1
  key : Nat := 0
  seq : Nat := 0
  boot : Nat := 0
  tagOk : Bool := true
  ops : List CtlOp := []
  deriving DecidableEq, Repr

/-- A burst that an event cuts off: the offset of its piece in flight, its direction, and its target as ICN_ERR_INFO numbers them (R540). -/
structure Cut where
  offset : Nat := 0
  write : Bool := false
  target : Nat := 0
  deriving DecidableEq, Repr

/-- What the Thimble's engines find about an offer (R496): whether key_id names a ROM key of the kind that its type needs, whether the signature
verifies, and whether the flash of the target slot answers. -/
structure OfferView where
  romKey : Bool := true
  sigOk : Bool := true
  flash : Bool := true
  deriving DecidableEq, Repr

/-- A decoded key record (R492): its owner slot, and whether it revokes the slot or fills it with a key_id. -/
structure KeyRec where
  slot : Nat := 0
  revoke : Bool := false
  key : Nat := 0
  deriving DecidableEq, Repr

/-- The commands and events of the table, in its order. -/
inductive Instr where
  /-- PORST_N (R463): Assertion and release of the power-on reset pin resets everything, samples MEMBER_ID and restarts the DCO in FREE with the NTW at zero. -/
  | porstN (memberId : Nat)
  /-- SRST_N (R463): Assertion and release of the soft reset pin resets all but the Ruling, kept Blotter fields and reset cause, and reruns the boot sequence. -/
  | srstN
  /-- LOCKSTEP_MISMATCH (R486): A Scribe lockstep mismatch fires FS0258 and causes an internal soft reset. -/
  | lockstepMismatch
  /-- WATCHDOG_EXPIRY (R486): Expiry of the 1 s Scribe watchdog fires FS0259 and causes an internal soft reset. -/
  | watchdogExpiry
  /-- SUPPLY_DETECTOR (R554): A supply below its detector threshold for more than 2 µs holds the device as though PORST_N were asserted until 10 ms after recovery. -/
  | supplyDetector
  /-- SUPPLY_EXCURSION (R554): A supply outside its operating range for 10 µs without crossing its threshold fires FS0020 or FS0021 and sets its excursion bit. -/
  | supplyExcursion (supply : Nat)
  /-- THERMAL_TRIP (R560): A sensor reading of 172 °C asserts THERMTRIP_N and FAULT_N, idles transmitters, resets DRAM and stops every clock until a power-on reset. -/
  | thermalTrip
  /-- TEMPERATURE_SAMPLE (R559): Every 1 ms each sensor is sampled, TOP_TEMP is updated and the temperature fault sources change raw state at their thresholds with 5 °C hysteresis. -/
  | temperatureSample (sensors : List (Option Int)) (coreMv : Nat) (inRange : Nat)
  /-- PLL_LOSS_OF_LOCK (R578): The control-domain PLL or a DRAM channel PLL losing lock fires FS0023. -/
  | pllLossOfLock
  /-- CORE_VID_VALID (R552): Within 500 µs of PORST_N release the Thimble drives the unit's OTP core-voltage code on CORE_VID and raises CORE_VID_VALID. -/
  | coreVidValid
  /-- ROM_VERIFY_DONE (R466): The boot ROM completes verification of the active slot's firmware, falls back to the other slot if needed, and starts the Scribe or ends in ROM_FAIL. -/
  | romVerifyDone (view : RomView)
  /-- PATTERN_APPLY_DONE (R471): Firmware completes reading, verifying, decrypting, validating and applying the Pattern sections, or refuses the Pattern and leaves the device unconfigured. -/
  | patternApplyDone (view : PatView)
  /-- START_UP_INPUT (R475): At the first tick at which every enabled DRAM channel and octet has left STARTING, the Tailor applies the start-up input of resident items and restored records. -/
  | startUpInput
  /-- SERVE_TIMEOUT (R476): A device not serving within 60 s of being configured fires FS0265 once. -/
  | serveTimeout
  /-- FABRIC_WAIT_TIMEOUT (R477): A fabric member that has waited 60 s for the master's state fires FS0264 and goes on waiting. -/
  | fabricWaitTimeout
  /-- STATE_TRANSFER_START (R477): A non-master fabric member starts the state transfer of R434 by itself once it has an upstream. -/
  | stateTransferStart
  /-- TICK (R90): At every NTW instant whose nib field is a multiple of 52,920,000 the device evaluates the Ruling and launches the 1 ms event classes. -/
  | tick (obs : TickObs)
  /-- HOLD_OFF_EXPIRY (R56): A candidate's jump hold-off of holdoff_s ends and it may begin to qualify again. -/
  | holdOffExpiry (cand : Nat)
  /-- REF_FRAME_PULSE (R52): An active frame-pulse edge on an external candidate is timestamped, compensated and compared with the NTW. -/
  | refFramePulse (cand : Nat) (arrival : Nat)
  /-- SYNC (R53): At each PTP Sync message firmware passes a filtered offset estimate of the PTP candidate to the Ruling. -/
  | sync (cand : Nat) (sec : Nat) (ns : Nat) (rx : Nat)
  /-- XO_IN_LOST (R71): Loss of XO_IN holds the DCO and PLLs on the internal oscillator, disqualifies every candidate, sets xo_lost and fires FS0040. -/
  | xoInLost
  /-- STEP (R69): A write of step to RUL_CMD requests an NTW step from RUL_NTW_SET or the best time-bearing candidate at the next tick. -/
  | step (src : Bool)
  /-- CLR_HOLDOFF (R56): A write of clr_holdoff to RUL_CMD ends the named candidates' hold-off. -/
  | clrHoldoff (mask : Nat)
  /-- CANDIDATE_CONFIG_WRITE (R57): A host write to a candidate's type-specific configuration register disqualifies it and restarts qualification under the new configuration. -/
  | candidateConfigWrite (off : Nat) (word : Nat)
  /-- PPS_OUT_PULSE (R74): At every NTW instant whose nib field is 0 PPS_OUT begins a pulse, subject to enable, squelch and advance. -/
  | ppsOutPulse
  /-- PULSE_WIDTH_END (R74): The configured width of a REF_OUT_FP or PPS_OUT pulse expires and the pin returns inactive. -/
  | pulseWidthEnd (pps : Bool)
  /-- DOORBELL (R113): A write to XPT_DOORBELL records P and moves an IDLE or DONE bank to POSTED, or is ignored with ring_err on a POSTED bank. -/
  | doorbell (ring0 : Bool) (ring1 : Bool)
  /-- MAILBOX_WRITE (R113): A write to a bank's header or records is kept while the bank is IDLE or DONE and is ignored with wr_busy while it is POSTED. -/
  | mailboxWrite (bank : Nat) (record : Option Nat) (word : Nat) (value : Nat)
  /-- SALVO_ACCEPTANCE (R153): The Tailor completes its decision on the next salvo in order, committing the whole placement and fixing L or refusing it with a code. -/
  | salvoAcceptance (us : Nat)
  /-- LAUNCH (R82): At L the Ductus applies the salvo's takes to the stitch table in ascending sequence number. -/
  | launch
  /-- SWITCH_POINT (R79): At a destination's switch point its output takes the source the stitch table holds, its pending policy and format changes apply, and loss is evaluated. -/
  | switchPoint (dst : Nat)
  /-- AUDIO_GRID_SAMPLE (R45): At each sample instant of a rate's epoch-aligned grid the channel space, ports, rings and Gather move one sample. -/
  | audioGridSample (rate : Nat)
  /-- CROSSFADE_COMPLETE (R129): A running 64-sample crossfade ends and any switch waiting for it begins its own crossfade. -/
  | crossfadeComplete (dst : Nat) (channel : Nat)
  /-- FRAME_BOUNDARY (R36): At each frame boundary of a raster family the family's frame-bound events are launched. -/
  | frameBoundary (fam : Nat) (reads : List EccObs)
  /-- DUAL_WRITE_START (R165): At W a migrating item is written or fed to both locations and stored frames are copied in background. -/
  | dualWriteStart
  /-- MIGRATION_COMPLETION (R165): At C readers switch to the new location of a migrated item. -/
  | migrationCompletion
  /-- MIGRATION_RELEASE (R165): At C + P the old location of a migrated item is released and its charge removed. -/
  | migrationRelease
  /-- RESOURCE_RELEASE (R154): A released resource returns to its pool at its release instant R. -/
  | resourceRelease
  /-- SAFE_STATE_ENTRY (R449): At the core cycle after a SAFE-severity source fires the device enters safe state, freezing stitches, idling Ethernet and Seam and reporting queued salvos NOT_EXECUTED. -/
  | safeStateEntry
  /-- SAFE_STATE_EXIT (R455): At the first tick after the quiet period has run in full the device leaves safe state automatically and fires FS0003. -/
  | safeStateExit
  /-- SAFE_RELEASE (R457): A write of safe_release clears the latch, empties the exit window and leaves safe state at the next tick if no SAFE source stands. -/
  | safeRelease
  /-- PIN_RELEASE (R448): A write of pin_release clears the FAULT_N pin latch at the end of its minimum-width timer. -/
  | pinRelease
  /-- FAULT_N_TIMER_EXPIRY (R448): The FAULT_N minimum-width timer expires and a pending release clears the pin latch. -/
  | faultNTimerExpiry
  /-- FIRE (R460): A write of fire to BLT_INJ fires the chosen source in factory test mode only. -/
  | fire (word : Nat)
  /-- RETRAINING_PAUSE (R320): At its pause slot an ACTIVE non-fixed DRAM channel stops issuing commands and retrains read and write centring. -/
  | retrainingPause (ch : Nat)
  /-- PAUSE_EVALUATION (R322): The pause's settings are evaluated and applied as a whole, or the last good setting is kept, degraded set and fail_count advanced. -/
  | pauseEvaluation (ch : Nat) (lanes : List (Nat × Nat))
  /-- PAUSE_END (R320): The pause ends within 63,504 nib and postponed refreshes and queued traffic resume. -/
  | pauseEnd (ch : Nat)
  /-- EVACUATION (R168): At E the Tailor releases and re-places every item that depends on a resource made unusable, leaving unplaceable items unplaced. -/
  | evacuation
  /-- PLACEMENT_GAP_TIMEOUT (R147): A missing placement-input index for longer than 2 × P0 fires FS0085 and the member requests the announcement. -/
  | placementGapTimeout
  /-- DIGEST_SNAPSHOT (R432): Every 100 ms of NTW each fabric or twin member computes and sends its configuration digest. -/
  | digestSnapshot
  /-- DIGEST_TIMEOUT (R432): No digest from an up neighbour within 100 µs of a snapshot clears digest_ok, counts a mismatch and fires FS0245. -/
  | digestTimeout
  /-- SIGNAL_DETECT (R185): A running receiver's input rising above the signal-detect threshold sets sig and starts SDI rate hunting. -/
  | signalDetect (lane : Nat)
  /-- HUNT_DWELL_END (R186): At the end of a 20 µs dwell an SDI receiver reports lock at that rate or moves to the next enabled rate. -/
  | huntDwellEnd (lane : Nat) (rate : Nat) (div : Bool) (freq : Int)
  /-- LOSS_OF_LOCK (R185): A receiver declares loss, clears lock, sets lol, counts lol_events, informs its adapter and fires FS0096. -/
  | lossOfLock (lane : Nat) (below : Bool)
  /-- SYNTHESISER_LOCK (R181): When every synthesiser in use of a STARTING octet is locked the octet enters RUNNING and its transmitters leave idle. -/
  | synthesiserLock (octet : Nat) (mask : Nat)
  /-- OCTET_START_TIMEOUT (R181): An octet whose synthesisers in use are not locked within 10 ms enters FAILED and fires FS0098. -/
  | octetStartTimeout (octet : Nat)
  /-- OCTET_STOPPED (R182): A STOPPING octet completes its shut-down and reaches STOPPED within 1 ms. -/
  | octetStopped (octet : Nat)
  /-- TRAINING_COMPLETE (R190): An Ethernet lane finishes auto-negotiation and link training, and the PCS starts alignment once all port lanes are trained. -/
  | trainingComplete (lane : Nat) (m3 : Int) (m2 : Int) (m1 : Int) (c0 : Int) (p1 : Int)
  /-- TRAINING_TIMEOUT (R192): Lane training not complete within the clause's limit sets train_fail, counts and fires FS0097. -/
  | trainingTimeout (lane : Nat)
  /-- TRAINING_RETRY (R192): One second after a training failure the lane starts training again. -/
  | trainingRetry (lane : Nat)
  /-- FREQUENCY_OUT_OF_RANGE (R187): A locked lane whose measured offset exceeds ±100 ppm sets freq_oor and fires FS0101. -/
  | frequencyOutOfRange (lane : Nat) (freq : Int)
  /-- SCAN_START (R195): A write of start to LNS_EYE_CTRL begins a single-point or opening eye scan, or is ignored with eye_busy. -/
  | scanStart (lane : Nat) (word : Nat)
  /-- SCAN_DONE (R195): An eye scan completes and reports its counts and openings, or ends void. -/
  | scanDone (lane : Nat) (errors : Nat) (h : Nat) (v : Nat) (moved : Bool)
  /-- ETH_REFCLK_LOSS (R199): An Ethernet lane reference that stops or leaves ±100 ppm unlocks its synthesisers, idles its lanes, sets ref_lost and fires FS0099. -/
  | ethRefclkLoss (ref : Nat)
  /-- ETH_REFCLK_RETURN (R199): A returning Ethernet lane reference lets its synthesisers relock and its lanes train again. -/
  | ethRefclkReturn (ref : Nat)
  /-- SYNTHESISER_UNLOCK (R199): A DCO-sourced synthesiser in use losing lock idles its lanes, sets synth_unlock and fires FS0098. -/
  | synthesiserUnlock (octet : Nat) (synth : Nat)
  /-- SDI_LINE (R209): At each line of each link the SDI framer checks TRS and line numbers, CRC, ANC and audio, and advances its acquisition state. -/
  | sdiLine (lane : Nat) (line : SdiLine)
  /-- ST352_PACKET (R210): A received ST 352 packet is compared with the declaration and a disagreement declares loss at its end. -/
  | st352Packet (lane : Nat) (psid : Psid)
  /-- LINK_UP (R225): A RUNNING MAC's link comes up once lanes, PCS and FEC lock, and firmware re-sends membership reports. -/
  | linkUp (mac : Nat)
  /-- LINK_DOWN (R226): A link going down discards transmit queues, ends any pause, and unless in safe state sets link_down and fires FS0128. -/
  | linkDown (mac : Nat) (rfault : Bool)
  /-- RECEIVE_FRAME (R228): A received Ethernet frame is tested in order for runt, oversize, FCS and pause, and is passed to its consumer or dropped. -/
  | receiveFrame (mac : Nat) (frame : RxFrame)
  /-- PAUSE_EXPIRY (R235): A pause's time expires, paused clears and transmission resumes with the management queue first. -/
  | pauseExpiry (mac : Nat)
  /-- PAUSE_EN_WRITE (R235): A write of 0 to pause_en ends a pause in force within 1 µs. -/
  | pauseEnWrite (mac : Nat) (en : Bool)
  /-- TRANSMIT_FRAME (R232): At each frame boundary on the wire the MAC takes the next frame, management queue first, pads, adds FCS and records a marked timestamp. -/
  | transmitFrame (mac : Nat) (handed : List (Nat × Option Nat))
  /-- PACKET_OFFER (R269): The flow engine offers a transmit packet at its shaped instant and the media queue stores or drops it. -/
  | packetOffer (entry : Nat)
  /-- PACKET_RELEASE (R250): At its release instant a received packet's content enters its source slot or channels and the merged stream is checked for missing packets. -/
  | packetRelease (entry : Nat)
  /-- OPAQUE_FLOW_TIMEOUT (R263): An opaque flow with no packet for 2 × P of its family is declared lost. -/
  | opaqueFlowTimeout (entry : Nat)
  /-- OPAQUE_MARKER_TIMEOUT (R125): An old opaque source that sends no marker within two frame periods of the armed instant stops at once. -/
  | opaqueMarkerTimeout (dst : Nat)
  /-- REPORT_REPEAT (R277): A state-change report is repeated at the unsolicited report interval, robustness − 1 times. -/
  | reportRepeat (report : Nat)
  /-- SYNC_OUTPUT_FRAME (R298): At t_out a frame synchroniser chooses the stored frame for the output frame, dropping or repeating whole frames. -/
  | syncOutputFrame (slot : Nat) (reads : List EccObs)
  /-- FLIP (R307): A write of flip to INK_OVL requests an overlay buffer exchange and sets pending. -/
  | flip (head : Nat)
  /-- OVERLAY_EXCHANGE (R307): At the next frame boundary of the head's family the overlay's front and back buffers exchange and pending clears. -/
  | overlayExchange (head : Nat)
  /-- CAPTURE_START (R308): A write of start to INK_CAP_CTRL selects a surface and picture and starts a capture, or fails with cap_err. -/
  | captureStart (picture : Nat) (surf : Nat)
  /-- CAPTURE_DONE (R308): The capture engine finishes decoding the first completed buffer into the capture surface and sets done. -/
  | captureDone
  /-- BAR2_ACCESS (R306): An access through a BAR2 aperture reaches its overlay or capture target at lowest priority, waking the channel if needed. -/
  | bar2Access (master : Nat) (off : Nat) (size : Nat) (bytes : Option (List (Nat × Nat)))
  /-- TRAINING_SUBSTEP_END (R317): A DRAM training sub-step completes, advancing the training, restarting it at a new target speed or entering FAILED or RUNNING. -/
  | trainingSubstepEnd (ch : Nat) (obs : TrainObs)
  /-- SPEED_TARGET_WRITE (R318): A write to DRC_SPEED.target is used at the next start, restarts training in STARTING, or sets target_pending. -/
  | speedTargetWrite (ch : Nat) (target : Nat)
  /-- CHANNEL_STOPPED (R319): Once its last item is released a STOPPING channel enters self-refresh, asserts reset, stops its clocks and enters STOPPED. -/
  | channelStopped (ch : Nat)
  /-- DRIFT_TRACKING (R325): Every 1 ms a fixed-delay channel reads its strobe oscillators and moves write settings by at most one step, up to 16 steps. -/
  | driftTracking (ch : Nat) (drift : List Int)
  /-- IDLE_TIMEOUT (R326): An ACTIVE channel idle for idle_us with sr_en set begins ENTERING self-refresh. -/
  | idleTimeout (ch : Nat)
  /-- SELF_REFRESH_ENTERED (R326): ENTERING completes within 1 µs and the channel is in SELF_REFRESH. -/
  | selfRefreshEntered (ch : Nat)
  /-- WAKE_COMPLETE (R327): A waking channel finishes restarting, calibrating and retraining and becomes ACTIVE within 31 µs. -/
  | wakeComplete (ch : Nat) (lanes : List (Nat × Nat))
  /-- PATROL_SCRUB (R331): Every scrub_h hours a patrol scrub reads every codeword of an ACTIVE channel and writes back corrected ones. -/
  | patrolScrub (ch : Nat) (ce : Nat) (ues : List Nat)
  /-- REFRESH_RATE_READ (R332): Every 1 ms the controller reads each device's refresh-rate register, adjusts refresh and reports high temperature. -/
  | refreshRateRead (ch : Nat) (rates : List Nat) (high : Bool)
  /-- COMMIT (R346): A write of commit to a layer makes it PENDING and sends a changed placement to the Tailor as a layer input. -/
  | commit (layer : Nat)
  /-- LAYER_INPUT (R144): The Tailor places or refuses a layer commit that changes a placement attribute. -/
  | layerInput (layer : Nat) (us : Nat)
  /-- COMMIT_LANDING (R347): At the first frame boundary after the latch at which its surfaces are complete a commit lands whole and becomes DONE. -/
  | commitLanding (layer : Nat)
  /-- SHADOW_WRITE (R346): A write to a layer's shadow registers is kept, or ignored with busy and FS0197 while the layer is PENDING. -/
  | shadowWrite (layer : Nat) (word : Nat) (value : Nat)
  /-- BANK_PROGRAM_WRITE (R348): A write to a coefficient bank or colour program is kept, or ignored with inuse_write and FS0195 while it is in use. -/
  | bankProgramWrite (off : Nat) (value : Nat)
  /-- PORT_FRAME (R378): A TDM frame sync or AES3 frame is received, checked for validity and written into the elastic buffer, advancing the lock state. -/
  | portFrame (port : Nat) (frame : PortFrame)
  /-- PORT_CLOCK_LOSS (R379): A missing bit clock, frame sync or preamble for its limit loses the side, ramps its channels to absent and fires FS0208. -/
  | portClockLoss (port : Nat)
  /-- PORT_STOP_COMPLETE (R390): After its 5 ms ramp and a frame a STOPPING port stops driving and enters STOPPED. -/
  | portStopComplete (port : Nat)
  /-- GAIN_WRITE (R403): A write to the gain-table window enters the pending queue while Gather runs, or is ignored with q_full when it is full. -/
  | gainWrite (node : Nat) (word : Nat)
  /-- BIQUAD_COEFFICIENT_WRITE (R409): Coefficient writes are held until a2 is written and take effect together at the next tick. -/
  | biquadCoefficientWrite (output : Nat) (biquad : Nat) (coef : Nat) (word : Nat)
  /-- GATHER_STOP_COMPLETE (R412): A STOPPING Gather finishes ramping its outputs to zero over 5 ms and enters STOPPED. -/
  | gatherStopComplete
  /-- SEAM_FRAME (R418): A received Seam frame delivers payload segments, control fields, time samples and message bytes, or is discarded. -/
  | seamFrame (link : Nat) (lane : Nat) (frame : SeamRx)
  /-- SEAM_FRAME_TRANSMIT (R419): At every 52,920-nib instant each Seam lane starts a frame filled by the two-pass payload scheduler. -/
  | seamFrameTransmit (link : Nat)
  /-- TRAINING_FRAME (R423): A received Seam training frame's request is applied to the taps and answered, and mutual rx_ready for 8 frames starts Seam frames. -/
  | trainingFrame (link : Nat) (lane : Nat) (frame : TrainRx)
  /-- LANE_REJOIN (R425): A retrained lane rejoins tx_lanes at the first frame at least 8 µs after rx_ok, raising a health record. -/
  | laneRejoin (link : Nat) (lane : Nat)
  /-- ACK (R430): An ACK message confirms receipt of messages by number. -/
  | ack (link : Nat) (nums : List Nat)
  /-- FORWARD (R96): A salvo, layer input or health record raised on a member is forwarded to and handled by the acting master. -/
  | forward (link : Nat) (num : Nat) (input : PInput)
  /-- ANNOUNCE (R98): An announced input with its index and L or E is forwarded once and applied by the member in index order. -/
  | announce (link : Nat) (num : Nat) (index : Nat) (instant : Nat) (input : PInput)
  /-- REQUEST (R431): A REQUEST for a missing placement-input index is answered with its ANNOUNCE by the first neighbour that holds it. -/
  | request (link : Nat) (num : Nat) (index : Nat)
  /-- DIGEST (R432): A neighbour's digest is compared with the receiver's own, setting digest_ok or counting a mismatch. -/
  | digest (link : Nat) (num : Nat) (value : Nat) (instant : Nat)
  /-- TWIN_SYNC (R436): A twin applies its partner's buffer choices and transmit sequence state. -/
  | twinSync (link : Nat) (num : Nat) (choices : List (Nat × Nat)) (seqs : List (Nat × Nat))
  /-- STATE (R434): STATE pieces carry the acting master's placement map, epoch, sequence number and live settings for resync. -/
  | state (link : Nat) (num : Nat) (image : Option StateImage)
  /-- MESSAGE_RESEND (R430): A message without an ACK within 20 µs is sent again, and the 16th resend takes the link down. -/
  | messageResend (link : Nat)
  /-- TAKEOVER (R435): A standby whose received origin_count has not advanced for takeover_ms becomes acting master and fires FS0247. -/
  | takeover
  /-- TIME_VALID_EXPIRY (R426): A device that has not had SEAM selected for hold_ms stops sending time_valid. -/
  | timeValidExpiry
  /-- RESYNC (R434): A write of resync to SEA_CMD fetches the acting master's state by STATE messages. -/
  | resync
  /-- RESYNC_APPLY (R434): At Er the fetched state is applied as one input, or a failed transfer sets resync_fail. -/
  | resyncApply
  /-- HANDOVER (R435): A write of handover on the acting standby returns mastership at the first snapshot whose digests agree. -/
  | handover
  /-- JOURNAL_ENTRY (R479): A route-memory journal entry becomes durable in flash and TOP_ROUTE_SEQ advances. -/
  | journalEntry (ok : Bool)
  /-- CHECKPOINT (R479): Firmware writes and verifies a new checkpoint when entries since the last exceed 4 MiB, then retires superseded blocks. -/
  | checkpoint (ok : Bool)
  /-- DURABILITY_LAG (R479): An item not durable after 1 s fires FS0262. -/
  | durabilityLag
  /-- ATTESTATION_START (R491): A write of start to THM_ATT_CTRL begins signing the nonce and identity data, or is ignored while busy. -/
  | attestationStart
  /-- ATTESTATION_DONE (R491): The Thimble shows the signature and signed NTW and sets done, or sets err on a unit without keys. -/
  | attestationDone
  /-- OFFER (R496): A write of offer to UPD_CMD checks the staged header and opens or joins a session, or refuses it. -/
  | offer (view : OfferView)
  /-- PUT (R499): A write of put to UPD_CMD delivers the staged piece to the session. -/
  | put (fails : Bool)
  /-- OFFER_DATAGRAM (R504): An in-band OFFER message is checked as an offer and answered with a REPLY. -/
  | offerDatagram (mac : Nat) (addr : Nat) (v6 : Bool) (header : List Nat) (view : OfferView)
  /-- PIECE (R504): An in-band PIECE message delivers one piece to the session without a reply. -/
  | piece (digest : Nat) (index : Nat) (bytes : List Nat) (fails : Bool)
  /-- QUERY (R504): An in-band QUERY message is answered with a REPLY of session state and piece bitmap. -/
  | query (mac : Nat) (addr : Nat) (v6 : Bool) (digest : Nat) (first : Nat)
  /-- FINAL_CHECK_DONE (R502): The final image check of a VERIFYING session completes and enters READY or ends the session with IMAGE. -/
  | finalCheckDone (ok : Bool) (view : PatView) (key : KeyRec)
  /-- ABORT (R503): A write of abort to UPD_CMD ends the session without effect and fires FS0275. -/
  | abort
  /-- SESSION_EXPIRY (R503): A session 30 days after or a day before its start second expires and fires FS0275. -/
  | sessionExpiry
  /-- ACTIVATE (R509): A write of activate to UPD_CMD starts activation of a READY session, or is refused with TRIAL or SETTINGS_INCOMPATIBLE. -/
  | activate
  /-- COPY_FORWARD_DONE (R509): The copy of the other image and route memory into the target slot completes within 30 s. -/
  | copyForwardDone (ok : Bool)
  /-- ACTIVATION_INSTANT (R509): At UPD_ACT_AT the journal tail is appended, the boot record written in TRIAL and the device restarts. -/
  | activationInstant
  /-- APPROVE (R512): A write of approve to UPD_CMD allows confirmation under host_gate while a health window is open. -/
  | approve
  /-- HEALTH_CONFIRM (R513): A confirm within the health window writes the boot record CONFIRMED and programs the anti-rollback counters. -/
  | healthConfirm
  /-- HEALTH_WINDOW_EXPIRY (R514): A health window that ends without a confirm makes the Thimble fall back to the previous slot and restart. -/
  | healthWindowExpiry
  /-- UNLOCK (R520): Each 32-bit word shifted through the UNLOCK instruction with TEST_EN high advances the test-access sequence. -/
  | unlock (word : Nat)
  /-- TEST_EN_FALL (R520): A fall of TEST_EN restarts the unlock sequence and resets test access. -/
  | testEnFall (cut : Option Cut)
  /-- UNLOCK_TIMEOUT (R520): More than 1 s between the first and last unlock word restarts the sequence. -/
  | unlockTimeout
  /-- REGISTER_WRITE (R8): A host write to a register with no row of its own takes effect by its access type, with RWP writes rejected under R12. -/
  | registerWrite (master : Nat) (off : Nat) (beats : List Beat) (blt : BltObs)
  /-- CLEAR_ON_READ (R8): A read of an RC field returns its value and then clears it, with coinciding events winning under R10. -/
  | clearOnRead (master : Nat) (off : Nat) (words : Nat) (enabled : Bool) (parity : Bool) (blt : BltObs)
  /-- SNAPSHOT_READ (R11): A read of the lowest register of a wide value copies the whole value into the reading master's holding register. -/
  | snapshotRead (master : Nat) (off : Nat) (words : Nat) (enabled : Bool) (parity : Bool) (blt : BltObs)
  /-- ACCESS_TIMEOUT (R539): An access unanswered within 10 ms receives an error response, sets timeout and fires FS0291. -/
  | accessTimeout (master : Nat) (off : Nat) (target : Nat) (write : Bool) (late : List Nat)
  /-- PCIE_PERST_N (R531): Assertion of PCIE_PERST_N resets the link, configuration space, MSI-X table and TOP_IRQ_EN and ends the PCIe master's accesses. -/
  | pciePerstN (low : Bool) (cut : Option Cut)
  /-- HOT_RESET (R531): A hot reset or link down resets the PCIe side as PCIE_PERST_N does and fires FS0292 if the link was up. -/
  | hotReset (hot : Bool) (cut : Option Cut)
  /-- FUNCTION_LEVEL_RESET (R531): A function level reset resets the configuration space, MSI-X table and TOP_IRQ_EN with the link kept up. -/
  | functionLevelReset (cut : Option Cut)
  /-- HOLDOFF_END (R535): A vector's holdoff expires and an owed, unmasked message is sent. -/
  | holdoffEnd (vector : Nat)
  /-- VECTOR_UNMASK (R535): Unmasking the function or a vector with an owed flag sends its message unless a holdoff runs. -/
  | vectorUnmask (vector : Option Nat)
  /-- CONTROL_REQUEST (R544): An in-band control datagram is checked, authenticated and deduplicated, its operations executed in order and a reply queued. -/
  | controlRequest (request : CtlReq)
  /-- READ (R543): A READ operation reads BAR0 words from an offset upwards. -/
  | read (off : Nat) (words : Nat)
  /-- WRITE (R543): A WRITE operation writes BAR0 words from an offset upwards. -/
  | write (off : Nat) (data : List Nat)
  /-- WIN_READ (R543): A WIN_READ operation reads BAR2 bytes from an offset. -/
  | winRead (off : Nat) (words : Nat)
  /-- WIN_WRITE (R543): A WIN_WRITE operation writes BAR2 bytes from an offset. -/
  | winWrite (off : Nat) (data : List Nat)
  /-- RECEIVER_LOCK (R185): A running Ethernet or Seam receiver's clock and data recovery gains track of its input, sets lock and starts adaptation and training. -/
  | receiverLock (lane : Nat) (freq : Int) (ctle : Nat) (snr : Nat) (dfe : Nat)
  /-- UPD_REVERT (R517): A write of revert to UPD_CMD activates the previous slot after the route-memory copy forward and starts its trial, or is refused with STATE or ROLLBACK. -/
  | updRevert
  /-- SUPPLY_RECOVERY (R554): 10 ms after every supply is back above its detector threshold with PORST_N high, the detector releases the device as a PORST_N release does. -/
  | supplyRecovery (memberId : Nat)
  /-- CONFIGURATION_REQUEST (R528): A PCIe configuration request is answered with retry status until 100 ms after reset release, and otherwise sets configuration state such as MSI-X Enable, Bus Master Enable and the D-state. -/
  | configurationRequest (set : Option (Bool × Bool × Bool × Bool))
  /-- PCIE_LINK_UP (R531): The PCIe link trains to L0 after PCIE_PERST_N release, a hot reset or a link down, and link_up is set. -/
  | pcieLinkUp (speed : Nat) (width : Nat)
  /-- SHUT_DOWN_FINISHED (R484): A STOPPING MAC or Seam link completes its shut-down, reaches STOPPED and starts again at the next launch if en is 1. -/
  | shutDownFinished (seam : Bool) (number : Nat)
  /-- TEST_RESET (R540): Application of the IEEE 1149.1 test reset ends the test-access master's accesses in flight, counts a reset abort and fires FS0290. -/
  | testReset (cut : Option Cut)
  deriving DecidableEq, Repr

end Sys2Proof
end

