-- ==== Sys2Proof/Config.lean ====
section
/-! DEFINITION. What an implementation fixes: the constants of the time base, and the FREE VALUES, opaque constants with no body
standing for whatever the spec leaves open. Nothing in Lean can evaluate one or prove a value of one. -/

namespace Sys2Proof

/-- Nibs in a second (R4). -/
def Config.nibsPerSec : Nat := 52920000000

/-- The fraction units of one nib (R5): instants are counted in units of 2^-44 nib. -/
def Config.fracPerNib : Nat := 17592186044416

/-- FREE VALUE: a number the spec leaves open, told apart by what it is for (`tag`) and by how many free numbers were taken before
(`n`, the counter `Dev.freeCtr`). No property of it can be proved. -/
opaque Config.freeNat (tag n : Nat) : Nat

/-- FREE VALUE: the unit's own OTP core-voltage code (R552: 0 to 20, fixed per unit at manufacture). -/
opaque Config.otpCoreVid : Nat

/-- FREE VALUE: the SHA-384 digest of a byte string, as 48 bytes most significant first. The spec names the published algorithm and
does not print it. -/
opaque Config.sha384 : List Nat → Nat

/-- FREE VALUE: the signature the Thimble makes over a byte string with the unit's identity key (R491). -/
opaque Config.ecdsaSign : List Nat → Nat

end Sys2Proof
end

