-- ==== Sys2Proof/Machine/Fields.lean ====
section
/-! DEFINITION. What a register field and a register are, as data: the columns of the spec's register tables (00_scope.md, R8 to R11). -/

namespace Sys2Proof.Machine

/-- The access types of R8. -/
inductive Acc where
  | rw | ro | rc | w1c | w1s | wo | rwp
  deriving DecidableEq, Repr

/-- One field of a register: its number in the register map, the BAR0 offset of the register's first instance, the (stride, count) of each of its indices, the lowest
bit and the width within the register, the access type, the value after PORST_N for an index, and the range a written value is brought
into where the chapter says that values outside it take the nearer limit (a signed range when the lower limit is negative). -/
structure Fld where
  no : Nat
  base : Nat
  dims : List (Nat × Nat)
  lo : Nat
  w : Nat
  acc : Acc
  reset : List Nat → Nat
  lim : Option (Int × Int) := none

/-- One register, possibly replicated and possibly wider than 32 bits: `words` 32-bit words at ascending offsets, bits [31:0] lowest. -/
structure RegD where
  base : Nat
  dims : List (Nat × Nat)
  words : Nat
  flds : List Fld

end Sys2Proof.Machine
end

