-- ==== Sys2Proof/Machine/Tables.lean ====
section
/-! DEFINITION. The spec's tables that are not registers: fault sources and severities, periods, switching lines, organisations. -/

namespace Sys2Proof.Machine

/-- The listed fault sources with their reset severities (the "Fault sources" tables of 03 to 21; 0 IGNORE, 1 RECORD, 2 DEGRADE, 3 SAFE). -/
def sourceTable : List (Nat × Nat) :=
  [(0, 3), (1, 2), (2, 1), (3, 1), (16, 2), (17, 2), (18, 3), (19, 2), (20, 2), (21, 2), (22, 1), (23, 2), (32, 1), (33, 1)] ++
  [(34, 1), (35, 2), (36, 2), (37, 2), (38, 2), (39, 1), (40, 3), (41, 2), (48, 1), (49, 1), (50, 2), (51, 1), (52, 1), (53, 2)] ++
  [(64, 1), (65, 2), (66, 1), (67, 1), (68, 2), (69, 1), (70, 2), (80, 1), (81, 1), (82, 2), (83, 2), (84, 1), (85, 2), (96, 1)] ++
  [(97, 1), (98, 2), (99, 2), (100, 1), (101, 1), (102, 2), (112, 1), (113, 2), (114, 1), (115, 1), (116, 2), (117, 1), (118, 1), (119, 1)] ++
  [(128, 1), (129, 2), (130, 1), (131, 1), (132, 2), (133, 1), (144, 1), (145, 2), (146, 1), (147, 1), (148, 1), (149, 2), (160, 2), (161, 2)] ++
  [(162, 1), (163, 1), (164, 1), (165, 1), (166, 1), (176, 1), (177, 2), (178, 2), (179, 1), (180, 1), (181, 2), (182, 2), (183, 1), (192, 2)] ++
  [(193, 1), (194, 2), (195, 1), (196, 1), (197, 1), (198, 1), (208, 2), (209, 1), (210, 1), (211, 2), (212, 1), (213, 1), (214, 2), (224, 1)] ++
  [(225, 2), (226, 1), (227, 2), (228, 1), (229, 1), (240, 1), (241, 2), (242, 2), (243, 1), (244, 1), (245, 2), (246, 2), (247, 2), (248, 2)] ++
  [(249, 1), (250, 2), (251, 1), (252, 2), (256, 2), (257, 2), (258, 1), (259, 1), (260, 2), (261, 1), (262, 2), (263, 2), (264, 2), (265, 2)] ++
  [(272, 1), (273, 1), (274, 1), (275, 1), (276, 2), (277, 1), (278, 2), (279, 2), (280, 1), (281, 2), (282, 2), (288, 1), (289, 1), (290, 1)] ++
  [(291, 2), (292, 1), (293, 1), (294, 1), (295, 2)]

/-- A listed source (R442: every other number is reserved). -/
def sourceListed (n : Nat) : Bool := sourceTable.any (fun p => p.1 == n)

/-- The reset severity of a source; reserved sources read 0 (R442). -/
def sourceSeverity (n : Nat) : Nat := ((sourceTable.find? (fun p => p.1 == n)).map (·.2)).getD 0

/-- Reset value of BLT_SEV[r]: the severity of source 16r + j in bits [2j + 1:2j] (R462). -/
def sevResetWord (r : Nat) : Nat :=
  (List.range 16).foldl (fun acc j => acc + sourceSeverity (16 * r + j) * 4 ^ j) 0

end Sys2Proof.Machine
end

