-- ==== Sys2Proof/Machine/Registers.lean ====
section
/-! DEFINITION. The register map: every register and field of the register tables of spec/ (03 to 21), with its BAR0 offset, its index
strides, its bits, its access type (R8), its value after PORST_N and, where its chapter says that a value outside the stated range
takes the nearer limit, that range. A field's docstring is its line of the spec's table. -/

namespace Sys2Proof.Machine

/-! ### TOP: the registers of R488, R546, R579 -/

/-- TOP_ID.part [31:16]: Part number (R3) -/
def TOP_ID_part : Fld := { no := 0, base := 0x0, dims := [], lo := 16, w := 16, acc := .ro, reset := fun _ => 0x2416 }

/-- TOP_ID.letter [15:8]: Stepping letter, counted from A = 0x0A -/
def TOP_ID_letter : Fld := { no := 1, base := 0x0, dims := [], lo := 8, w := 8, acc := .ro, reset := fun _ => 11 }

/-- TOP_ID.digit [7:0]: Stepping digit -/
def TOP_ID_digit : Fld := { no := 2, base := 0x0, dims := [], lo := 0, w := 8, acc := .ro, reset := fun _ => 1 }

/-- The register TOP_ID. -/
def TOP_ID : RegD := { base := 0x0, dims := [], words := 1, flds := [TOP_ID_part, TOP_ID_letter, TOP_ID_digit] }

/-- TOP_SCRATCH.value [31:0]: No effect on the device -/
def TOP_SCRATCH_value : Fld := { no := 3, base := 0x4, dims := [], lo := 0, w := 32, acc := .rw, reset := fun _ => 0 }

/-- The register TOP_SCRATCH. -/
def TOP_SCRATCH : RegD := { base := 0x4, dims := [], words := 1, flds := [TOP_SCRATCH_value] }

/-- TOP_PCIE_ST.speed [2:0]: 0 down, 1 2.5, 2 5.0, 3 8.0, 4 16.0 GT/s -/
def TOP_PCIE_ST_speed : Fld := { no := 4, base := 0x10, dims := [], lo := 0, w := 3, acc := .ro, reset := fun _ => 0 }

/-- TOP_PCIE_ST.width [6:4]: Negotiated lanes: 1, 2 or 4 -/
def TOP_PCIE_ST_width : Fld := { no := 5, base := 0x10, dims := [], lo := 4, w := 3, acc := .ro, reset := fun _ => 0 }

/-- TOP_PCIE_ST.link_up [8]: Link in L0 -/
def TOP_PCIE_ST_link_up : Fld := { no := 6, base := 0x10, dims := [], lo := 8, w := 1, acc := .ro, reset := fun _ => 0 }

/-- TOP_PCIE_ST.bme [9]: Bus Master Enable -/
def TOP_PCIE_ST_bme : Fld := { no := 7, base := 0x10, dims := [], lo := 9, w := 1, acc := .ro, reset := fun _ => 0 }

/-- TOP_PCIE_ST.msix_en [10]: MSI-X Enable -/
def TOP_PCIE_ST_msix_en : Fld := { no := 8, base := 0x10, dims := [], lo := 10, w := 1, acc := .ro, reset := fun _ => 0 }

/-- TOP_PCIE_ST.msix_fmask [11]: MSI-X Function Mask -/
def TOP_PCIE_ST_msix_fmask : Fld := { no := 9, base := 0x10, dims := [], lo := 11, w := 1, acc := .ro, reset := fun _ => 0 }

/-- TOP_PCIE_ST.dstate [13:12]: 0 D0, 3 D3hot -/
def TOP_PCIE_ST_dstate : Fld := { no := 10, base := 0x10, dims := [], lo := 12, w := 2, acc := .ro, reset := fun _ => 0 }

/-- The register TOP_PCIE_ST. -/
def TOP_PCIE_ST : RegD := { base := 0x10, dims := [], words := 1, flds := [TOP_PCIE_ST_speed, TOP_PCIE_ST_width, TOP_PCIE_ST_link_up, TOP_PCIE_ST_bme, TOP_PCIE_ST_msix_en, TOP_PCIE_ST_msix_fmask, TOP_PCIE_ST_dstate] }

/-- TOP_PCIE_STICKY.link_down [0]: The link went down (R531) -/
def TOP_PCIE_STICKY_link_down : Fld := { no := 11, base := 0x14, dims := [], lo := 0, w := 1, acc := .w1c, reset := fun _ => 0 }

/-- TOP_PCIE_STICKY.perst [1]: PCIE_PERST_N was asserted -/
def TOP_PCIE_STICKY_perst : Fld := { no := 12, base := 0x14, dims := [], lo := 1, w := 1, acc := .w1c, reset := fun _ => 0 }

/-- TOP_PCIE_STICKY.flr [2]: A function level reset occurred -/
def TOP_PCIE_STICKY_flr : Fld := { no := 13, base := 0x14, dims := [], lo := 2, w := 1, acc := .w1c, reset := fun _ => 0 }

/-- TOP_PCIE_STICKY.hot_reset [3]: A hot reset occurred -/
def TOP_PCIE_STICKY_hot_reset : Fld := { no := 14, base := 0x14, dims := [], lo := 3, w := 1, acc := .w1c, reset := fun _ => 0 }

/-- The register TOP_PCIE_STICKY. -/
def TOP_PCIE_STICKY : RegD := { base := 0x14, dims := [], words := 1, flds := [TOP_PCIE_STICKY_link_down, TOP_PCIE_STICKY_perst, TOP_PCIE_STICKY_flr, TOP_PCIE_STICKY_hot_reset] }

/-- TOP_PCIE_CNT.link_downs [15:0]: Link losses, saturating -/
def TOP_PCIE_CNT_link_downs : Fld := { no := 15, base := 0x18, dims := [], lo := 0, w := 16, acc := .rc, reset := fun _ => 0 }

/-- TOP_PCIE_CNT.ca_sent [31:16]: Completions sent with Completer Abort status, saturating -/
def TOP_PCIE_CNT_ca_sent : Fld := { no := 16, base := 0x18, dims := [], lo := 16, w := 16, acc := .rc, reset := fun _ => 0 }

/-- The register TOP_PCIE_CNT. -/
def TOP_PCIE_CNT : RegD := { base := 0x18, dims := [], words := 1, flds := [TOP_PCIE_CNT_link_downs, TOP_PCIE_CNT_ca_sent] }

/-- TOP_IRQ_ST.raised [15:0]: Bit v is set by each raise of vector v (R535) -/
def TOP_IRQ_ST_raised : Fld := { no := 17, base := 0x20, dims := [], lo := 0, w := 16, acc := .w1c, reset := fun _ => 0 }

/-- The register TOP_IRQ_ST. -/
def TOP_IRQ_ST : RegD := { base := 0x20, dims := [], words := 1, flds := [TOP_IRQ_ST_raised] }

/-- TOP_IRQ_EN.en [15:0]: Bit v lets vector v send messages. Cleared by the events of R531 -/
def TOP_IRQ_EN_en : Fld := { no := 18, base := 0x24, dims := [], lo := 0, w := 16, acc := .rw, reset := fun _ => 0 }

/-- The register TOP_IRQ_EN. -/
def TOP_IRQ_EN : RegD := { base := 0x24, dims := [], words := 1, flds := [TOP_IRQ_EN_en] }

/-- TOP_IRQ_HOLD.us [15:0]: Holdoff of vector v in µs, 0 to 65,535. We recommend 100 for vector 1 -/
def TOP_IRQ_HOLD_us : Fld := { no := 19, base := 0x40, dims := [(0x4, 16)], lo := 0, w := 16, acc := .rw, reset := fun _ => 0 }

/-- The register TOP_IRQ_HOLD. -/
def TOP_IRQ_HOLD : RegD := { base := 0x40, dims := [(0x4, 16)], words := 1, flds := [TOP_IRQ_HOLD_us] }

/-- TOP_RESET_CAUSE.cause [2:0]: 0 PORST_N, 1 SRST_N, 2 lockstep, 3 watchdog, 4 activation restart. Kept through SRST_N -/
def TOP_RESET_CAUSE_cause : Fld := { no := 20, base := 0x1000, dims := [], lo := 0, w := 3, acc := .ro, reset := fun _ => 0 }

/-- TOP_RESET_CAUSE.soft_count [31:16]: Resets other than PORST_N since PORST_N, saturating. Kept through SRST_N -/
def TOP_RESET_CAUSE_soft_count : Fld := { no := 21, base := 0x1000, dims := [], lo := 16, w := 16, acc := .rc, reset := fun _ => 0 }

/-- The register TOP_RESET_CAUSE. -/
def TOP_RESET_CAUSE : RegD := { base := 0x1000, dims := [], words := 1, flds := [TOP_RESET_CAUSE_cause, TOP_RESET_CAUSE_soft_count] }

/-- TOP_BOOT_ST.phase [3:0]: 0 ROM, 1 loading Pattern, 2 applying, 3 start-up input pending, 4 restoring, 5 configured, 6 SERVING, 8 NO_PATTERN, 9 ROM_FAIL, 10 FABRIC_WAIT -/
def TOP_BOOT_ST_phase : Fld := { no := 22, base := 0x1004, dims := [], lo := 0, w := 4, acc := .ro, reset := fun _ => 0 }

/-- TOP_BOOT_ST.slot [4]: Slot booted: 0 A, 1 B -/
def TOP_BOOT_ST_slot : Fld := { no := 23, base := 0x1004, dims := [], lo := 4, w := 1, acc := .ro, reset := fun _ => 0 }

/-- TOP_BOOT_ST.fallback [5]: The ROM booted the other slot (R466) -/
def TOP_BOOT_ST_fallback : Fld := { no := 24, base := 0x1004, dims := [], lo := 5, w := 1, acc := .ro, reset := fun _ => 0 }

/-- TOP_BOOT_ST.restore_src [9:8]: 0 route memory, 1 Pattern alone, 2 acting master (R477, R480) -/
def TOP_BOOT_ST_restore_src : Fld := { no := 25, base := 0x1004, dims := [], lo := 8, w := 2, acc := .ro, reset := fun _ => 0 }

/-- The register TOP_BOOT_ST. -/
def TOP_BOOT_ST : RegD := { base := 0x1004, dims := [], words := 1, flds := [TOP_BOOT_ST_phase, TOP_BOOT_ST_slot, TOP_BOOT_ST_fallback, TOP_BOOT_ST_restore_src] }

/-- TOP_FW_VER.version [31:0]: Firmware version, as covered by the configuration digest -/
def TOP_FW_VER_version : Fld := { no := 26, base := 0x1008, dims := [], lo := 0, w := 32, acc := .ro, reset := fun _ => 0 }

/-- The register TOP_FW_VER. -/
def TOP_FW_VER : RegD := { base := 0x1008, dims := [], words := 1, flds := [TOP_FW_VER_version] }

/-- TOP_PAT_ID.pat_version [63:0]: pat_version of the applied Pattern. Read under R11 -/
def TOP_PAT_ID_pat_version : Fld := { no := 27, base := 0x1010, dims := [], lo := 0, w := 64, acc := .ro, reset := fun _ => 0 }

/-- The register TOP_PAT_ID. -/
def TOP_PAT_ID : RegD := { base := 0x1010, dims := [], words := 2, flds := [TOP_PAT_ID_pat_version] }

/-- TOP_PAT_ERR.code [7:0]: 0 none, 1 header, 2 part or stepping, 3 firmware too old, 4 unknown key, 5 signature, 6 section table, 7 decryption, 8 unknown critical or missing required section, 9 validation, 10 flash read -/
def TOP_PAT_ERR_code : Fld := { no := 28, base := 0x1018, dims := [], lo := 0, w := 8, acc := .ro, reset := fun _ => 0 }

/-- TOP_PAT_ERR.section [23:8]: Position in the section table of the section concerned (R472), counting from 0, or 0xFFFF for the whole image -/
def TOP_PAT_ERR_section : Fld := { no := 29, base := 0x1018, dims := [], lo := 8, w := 16, acc := .ro, reset := fun _ => 0 }

/-- The register TOP_PAT_ERR. -/
def TOP_PAT_ERR : RegD := { base := 0x1018, dims := [], words := 1, flds := [TOP_PAT_ERR_code, TOP_PAT_ERR_section] }

/-- TOP_ROUTE_SEQ.durable_seq [31:0]: Last durable sequence number (R479) -/
def TOP_ROUTE_SEQ_durable_seq : Fld := { no := 30, base := 0x1020, dims := [], lo := 0, w := 32, acc := .ro, reset := fun _ => 0 }

/-- The register TOP_ROUTE_SEQ. -/
def TOP_ROUTE_SEQ : RegD := { base := 0x1020, dims := [], words := 1, flds := [TOP_ROUTE_SEQ_durable_seq] }

/-- TOP_ROUTE_ST.lag_ms [15:0]: Age of the oldest item not yet durable, in ms, saturating -/
def TOP_ROUTE_ST_lag_ms : Fld := { no := 31, base := 0x1024, dims := [], lo := 0, w := 16, acc := .ro, reset := fun _ => 0 }

/-- TOP_ROUTE_ST.retired [23:16]: Blocks retired after flash errors, saturating -/
def TOP_ROUTE_ST_retired : Fld := { no := 32, base := 0x1024, dims := [], lo := 16, w := 8, acc := .ro, reset := fun _ => 0 }

/-- The register TOP_ROUTE_ST. -/
def TOP_ROUTE_ST : RegD := { base := 0x1024, dims := [], words := 1, flds := [TOP_ROUTE_ST_lag_ms, TOP_ROUTE_ST_retired] }

/-- TOP_ROUTE_CNT.restored [15:0]: Records restored at the last start -/
def TOP_ROUTE_CNT_restored : Fld := { no := 33, base := 0x1028, dims := [], lo := 0, w := 16, acc := .ro, reset := fun _ => 0 }

/-- TOP_ROUTE_CNT.dropped [31:16]: Records dropped at the last start (R480) -/
def TOP_ROUTE_CNT_dropped : Fld := { no := 34, base := 0x1028, dims := [], lo := 16, w := 16, acc := .ro, reset := fun _ => 0 }

/-- The register TOP_ROUTE_CNT. -/
def TOP_ROUTE_CNT : RegD := { base := 0x1028, dims := [], words := 1, flds := [TOP_ROUTE_CNT_restored, TOP_ROUTE_CNT_dropped] }

/-- TOP_SERVE_AT.ntw [127:0]: NTW at which the device began to serve (R476). Read under R11 -/
def TOP_SERVE_AT_ntw : Fld := { no := 35, base := 0x1030, dims := [], lo := 0, w := 128, acc := .ro, reset := fun _ => 0 }

/-- The register TOP_SERVE_AT. -/
def TOP_SERVE_AT : RegD := { base := 0x1030, dims := [], words := 4, flds := [TOP_SERVE_AT_ntw] }

/-- TOP_STICKY.pat_fail [0]: The Pattern was refused -/
def TOP_STICKY_pat_fail : Fld := { no := 36, base := 0x1040, dims := [], lo := 0, w := 1, acc := .w1c, reset := fun _ => 0 }

/-- TOP_STICKY.route_lost [1]: The restore used the Pattern alone -/
def TOP_STICKY_route_lost : Fld := { no := 37, base := 0x1040, dims := [], lo := 1, w := 1, acc := .w1c, reset := fun _ => 0 }

/-- TOP_STICKY.restore_drop [2]: A restored record was dropped -/
def TOP_STICKY_restore_drop : Fld := { no := 38, base := 0x1040, dims := [], lo := 2, w := 1, acc := .w1c, reset := fun _ => 0 }

/-- TOP_STICKY.route_lag [3]: Durability lagged by more than 1 s -/
def TOP_STICKY_route_lag : Fld := { no := 39, base := 0x1040, dims := [], lo := 3, w := 1, acc := .w1c, reset := fun _ => 0 }

/-- TOP_STICKY.flash_err [4]: A flash operation failed -/
def TOP_STICKY_flash_err : Fld := { no := 40, base := 0x1040, dims := [], lo := 4, w := 1, acc := .w1c, reset := fun _ => 0 }

/-- TOP_STICKY.fabric_wait [5]: FS0264 fired -/
def TOP_STICKY_fabric_wait : Fld := { no := 41, base := 0x1040, dims := [], lo := 5, w := 1, acc := .w1c, reset := fun _ => 0 }

/-- The register TOP_STICKY. -/
def TOP_STICKY : RegD := { base := 0x1040, dims := [], words := 1, flds := [TOP_STICKY_pat_fail, TOP_STICKY_route_lost, TOP_STICKY_restore_drop, TOP_STICKY_route_lag, TOP_STICKY_flash_err, TOP_STICKY_fabric_wait] }

/-- TOP_FUNC.state [2:0]: 0 STOPPED, 1 STARTING, 2 RUNNING, 3 STOPPING, 4 FAILED -/
def TOP_FUNC_state : Fld := { no := 42, base := 0x1400, dims := [(0x4, 165)], lo := 0, w := 3, acc := .ro, reset := fun _ => 0 }

/-- TOP_FUNC.en [4]: Current value of the function's en -/
def TOP_FUNC_en : Fld := { no := 43, base := 0x1400, dims := [(0x4, 165)], lo := 4, w := 1, acc := .ro, reset := fun _ => 0 }

/-- TOP_FUNC.queued [5]: An enable waits for the end of STOPPING (R484) -/
def TOP_FUNC_queued : Fld := { no := 44, base := 0x1400, dims := [(0x4, 165)], lo := 5, w := 1, acc := .ro, reset := fun _ => 0 }

/-- The register TOP_FUNC. -/
def TOP_FUNC : RegD := { base := 0x1400, dims := [(0x4, 165)], words := 1, flds := [TOP_FUNC_state, TOP_FUNC_en, TOP_FUNC_queued] }

/-- TOP_TEMP.tj [10:0]: Highest valid sensor reading, signed, in units of 0.25 °C (R559) -/
def TOP_TEMP_tj : Fld := { no := 45, base := 0x2000, dims := [], lo := 0, w := 11, acc := .ro, reset := fun _ => 0 }

/-- TOP_TEMP.tj_peak [26:16]: Largest value of tj since the last read, signed, in units of 0.25 °C. A read returns the value and then loads the field with the current tj, in place of zero, so that tracking restarts from the present temperature -/
def TOP_TEMP_tj_peak : Fld := { no := 46, base := 0x2000, dims := [], lo := 16, w := 11, acc := .rc, reset := fun _ => 0 }

/-- TOP_TEMP.sensor [31:28]: Sensor giving tj, 0 to 15 -/
def TOP_TEMP_sensor : Fld := { no := 47, base := 0x2000, dims := [], lo := 28, w := 4, acc := .ro, reset := fun _ => 0 }

/-- The register TOP_TEMP. -/
def TOP_TEMP : RegD := { base := 0x2000, dims := [], words := 1, flds := [TOP_TEMP_tj, TOP_TEMP_tj_peak, TOP_TEMP_sensor] }

/-- TOP_TEMP_CFG.tj_warn [7:0]: Threshold of FS0016 in °C, 100 to 150; other values take the nearer limit -/
def TOP_TEMP_CFG_tj_warn : Fld := { no := 48, base := 0x2004, dims := [], lo := 0, w := 8, acc := .rw, reset := fun _ => 140, lim := some (100, 150) }

/-- TOP_TEMP_CFG.sensor_ok [31:16]: Bit n is 1 while sensor n passes its self-check -/
def TOP_TEMP_CFG_sensor_ok : Fld := { no := 49, base := 0x2004, dims := [], lo := 16, w := 16, acc := .ro, reset := fun _ => 0xffff }

/-- The register TOP_TEMP_CFG. -/
def TOP_TEMP_CFG : RegD := { base := 0x2004, dims := [], words := 1, flds := [TOP_TEMP_CFG_tj_warn, TOP_TEMP_CFG_sensor_ok] }

/-- TOP_SUPPLY.in_range [6:0]: Bit s is 1 while supply s lies within its operating range (R550) -/
def TOP_SUPPLY_in_range : Fld := { no := 50, base := 0x2008, dims := [], lo := 0, w := 7, acc := .ro, reset := fun _ => 127 }

/-- TOP_SUPPLY.excursion [22:16]: Bit s is set when supply s leaves its range for 10 µs (R554) -/
def TOP_SUPPLY_excursion : Fld := { no := 51, base := 0x2008, dims := [], lo := 16, w := 7, acc := .w1c, reset := fun _ => 0 }

/-- The register TOP_SUPPLY. -/
def TOP_SUPPLY : RegD := { base := 0x2008, dims := [], words := 1, flds := [TOP_SUPPLY_in_range, TOP_SUPPLY_excursion] }

/-- TOP_VID.code [4:0]: VDD_CORE code c on CORE_VID[4:0] (R552) -/
def TOP_VID_code : Fld := { no := 52, base := 0x200c, dims := [], lo := 0, w := 5, acc := .ro, reset := fun _ => Config.otpCoreVid }

/-- TOP_VID.valid [8]: CORE_VID_VALID is high -/
def TOP_VID_valid : Fld := { no := 53, base := 0x200c, dims := [], lo := 8, w := 1, acc := .ro, reset := fun _ => 0 }

/-- TOP_VID.core_mv [27:16]: VDD_CORE at the sense pins in mV, updated every 1 ms -/
def TOP_VID_core_mv : Fld := { no := 54, base := 0x200c, dims := [], lo := 16, w := 12, acc := .ro, reset := fun _ => 0 }

/-- The register TOP_VID. -/
def TOP_VID : RegD := { base := 0x200c, dims := [], words := 1, flds := [TOP_VID_code, TOP_VID_valid, TOP_VID_core_mv] }

/-- TOP_MON_STICKY.warn [0]: FS0016 fired -/
def TOP_MON_STICKY_warn : Fld := { no := 55, base := 0x2010, dims := [], lo := 0, w := 1, acc := .w1c, reset := fun _ => 0 }

/-- TOP_MON_STICKY.over150 [1]: FS0017 fired -/
def TOP_MON_STICKY_over150 : Fld := { no := 56, base := 0x2010, dims := [], lo := 1, w := 1, acc := .w1c, reset := fun _ => 0 }

/-- TOP_MON_STICKY.over160 [2]: FS0018 fired -/
def TOP_MON_STICKY_over160 : Fld := { no := 57, base := 0x2010, dims := [], lo := 2, w := 1, acc := .w1c, reset := fun _ => 0 }

/-- TOP_MON_STICKY.under40 [3]: FS0019 fired -/
def TOP_MON_STICKY_under40 : Fld := { no := 58, base := 0x2010, dims := [], lo := 3, w := 1, acc := .w1c, reset := fun _ => 0 }

/-- TOP_MON_STICKY.sensor_fail [4]: FS0022 fired -/
def TOP_MON_STICKY_sensor_fail : Fld := { no := 59, base := 0x2010, dims := [], lo := 4, w := 1, acc := .w1c, reset := fun _ => 0 }

/-- TOP_MON_STICKY.pll_unlock [5]: FS0023 fired -/
def TOP_MON_STICKY_pll_unlock : Fld := { no := 60, base := 0x2010, dims := [], lo := 5, w := 1, acc := .w1c, reset := fun _ => 0 }

/-- The register TOP_MON_STICKY. -/
def TOP_MON_STICKY : RegD := { base := 0x2010, dims := [], words := 1, flds := [TOP_MON_STICKY_warn, TOP_MON_STICKY_over150, TOP_MON_STICKY_over160, TOP_MON_STICKY_under40, TOP_MON_STICKY_sensor_fail, TOP_MON_STICKY_pll_unlock] }

/-- Every register of the TOP block. -/
def regsTop : List RegD :=
  [TOP_ID, TOP_SCRATCH, TOP_PCIE_ST, TOP_PCIE_STICKY, TOP_PCIE_CNT, TOP_IRQ_ST, TOP_IRQ_EN, TOP_IRQ_HOLD, TOP_RESET_CAUSE, TOP_BOOT_ST, TOP_FW_VER, TOP_PAT_ID, TOP_PAT_ERR, TOP_ROUTE_SEQ, TOP_ROUTE_ST, TOP_ROUTE_CNT, TOP_SERVE_AT, TOP_STICKY, TOP_FUNC, TOP_TEMP] ++
  [TOP_TEMP_CFG, TOP_SUPPLY, TOP_VID, TOP_MON_STICKY]

/-! ### Ruling: the registers of R78 -/

/-- RUL_STATUS.state [2:0]: State, encoded as R60 gives -/
def RUL_STATUS_state : Fld := { no := 61, base := 0x100000, dims := [], lo := 0, w := 3, acc := .ro, reset := fun _ => 0 }

/-- RUL_STATUS.sel [6:4]: Selected candidate, or 0b111 for none -/
def RUL_STATUS_sel : Fld := { no := 62, base := 0x100000, dims := [], lo := 4, w := 3, acc := .ro, reset := fun _ => 7 }

/-- RUL_STATUS.time_set [8]: Time has been set since PORST_N (R68) -/
def RUL_STATUS_time_set : Fld := { no := 63, base := 0x100000, dims := [], lo := 8, w := 1, acc := .ro, reset := fun _ => 0 }

/-- RUL_STATUS.hold_valid [9]: A LOCKED average exists (R65) -/
def RUL_STATUS_hold_valid : Fld := { no := 64, base := 0x100000, dims := [], lo := 9, w := 1, acc := .ro, reset := fun _ => 0 }

/-- RUL_STATUS.slewing [10]: The slew component is non-zero -/
def RUL_STATUS_slewing : Fld := { no := 65, base := 0x100000, dims := [], lo := 10, w := 1, acc := .ro, reset := fun _ => 0 }

/-- RUL_STATUS.xo_lost [11]: XO_IN is lost (R71) -/
def RUL_STATUS_xo_lost : Fld := { no := 66, base := 0x100000, dims := [], lo := 11, w := 1, acc := .ro, reset := fun _ => 0 }

/-- RUL_STATUS.disagree [12]: Equal-rank candidates disagree (R59) -/
def RUL_STATUS_disagree : Fld := { no := 67, base := 0x100000, dims := [], lo := 12, w := 1, acc := .ro, reset := fun _ => 0 }

/-- RUL_STATUS.qual [21:16]: Bit n is 1 while candidate n is qualified -/
def RUL_STATUS_qual : Fld := { no := 68, base := 0x100000, dims := [], lo := 16, w := 6, acc := .ro, reset := fun _ => 0 }

/-- The register RUL_STATUS. -/
def RUL_STATUS : RegD := { base := 0x100000, dims := [], words := 1, flds := [RUL_STATUS_state, RUL_STATUS_sel, RUL_STATUS_time_set, RUL_STATUS_hold_valid, RUL_STATUS_slewing, RUL_STATUS_xo_lost, RUL_STATUS_disagree, RUL_STATUS_qual] }

/-- RUL_CTRL.open [0]: 1 opens the loop (R73) -/
def RUL_CTRL_open : Fld := { no := 69, base := 0x100004, dims := [], lo := 0, w := 1, acc := .rw, reset := fun _ => 0 }

/-- RUL_CTRL.revertive [1]: 1 lets a better candidate pre-empt the selected one (R58) -/
def RUL_CTRL_revertive : Fld := { no := 70, base := 0x100004, dims := [], lo := 1, w := 1, acc := .rw, reset := fun _ => 1 }

/-- The register RUL_CTRL. -/
def RUL_CTRL : RegD := { base := 0x100004, dims := [], words := 1, flds := [RUL_CTRL_open, RUL_CTRL_revertive] }

/-- RUL_CMD.step [0]: 1 requests a step (R69) -/
def RUL_CMD_step : Fld := { no := 71, base := 0x100008, dims := [], lo := 0, w := 1, acc := .wo, reset := fun _ => 0 }

/-- RUL_CMD.step_src [1]: Source for the step: 0 RUL_NTW_SET, 1 the best time-bearing candidate -/
def RUL_CMD_step_src : Fld := { no := 72, base := 0x100008, dims := [], lo := 1, w := 1, acc := .wo, reset := fun _ => 0 }

/-- RUL_CMD.clr_holdoff [13:8]: A 1 in bit 8 + n ends candidate n's hold-off -/
def RUL_CMD_clr_holdoff : Fld := { no := 73, base := 0x100008, dims := [], lo := 8, w := 6, acc := .wo, reset := fun _ => 0 }

/-- The register RUL_CMD. -/
def RUL_CMD : RegD := { base := 0x100008, dims := [], words := 1, flds := [RUL_CMD_step, RUL_CMD_step_src, RUL_CMD_clr_holdoff] }

/-- RUL_CMD_ST.step_done [0]: A step was applied -/
def RUL_CMD_ST_step_done : Fld := { no := 74, base := 0x10000c, dims := [], lo := 0, w := 1, acc := .w1c, reset := fun _ => 0 }

/-- RUL_CMD_ST.step_refused [1]: A step was refused -/
def RUL_CMD_ST_step_refused : Fld := { no := 75, base := 0x10000c, dims := [], lo := 1, w := 1, acc := .w1c, reset := fun _ => 0 }

/-- The register RUL_CMD_ST. -/
def RUL_CMD_ST : RegD := { base := 0x10000c, dims := [], words := 1, flds := [RUL_CMD_ST_step_done, RUL_CMD_ST_step_refused] }

/-- RUL_TIMING.qual_s [5:0]: Qualification time in s, 1 to 60. Other values act as the nearer limit -/
def RUL_TIMING_qual_s : Fld := { no := 76, base := 0x100010, dims := [], lo := 0, w := 6, acc := .rw, reset := fun _ => 5, lim := some (1, 60) }

/-- RUL_TIMING.hold_avg_s [25:16]: Holdover averaging time in s, 1 to 1,000 -/
def RUL_TIMING_hold_avg_s : Fld := { no := 77, base := 0x100010, dims := [], lo := 16, w := 10, acc := .rw, reset := fun _ => 30, lim := some (1, 1000) }

/-- The register RUL_TIMING. -/
def RUL_TIMING : RegD := { base := 0x100010, dims := [], words := 1, flds := [RUL_TIMING_qual_s, RUL_TIMING_hold_avg_s] }

/-- RUL_JUMP.thresh_ns [13:0]: Jump threshold in ns, 50 to 10,000 -/
def RUL_JUMP_thresh_ns : Fld := { no := 78, base := 0x100014, dims := [], lo := 0, w := 14, acc := .rw, reset := fun _ => 200, lim := some (50, 10000) }

/-- RUL_JUMP.holdoff_s [25:16]: Hold-off in s, 1 to 600 -/
def RUL_JUMP_holdoff_s : Fld := { no := 79, base := 0x100014, dims := [], lo := 16, w := 10, acc := .rw, reset := fun _ => 10, lim := some (1, 600) }

/-- The register RUL_JUMP. -/
def RUL_JUMP : RegD := { base := 0x100014, dims := [], words := 1, flds := [RUL_JUMP_thresh_ns, RUL_JUMP_holdoff_s] }

/-- RUL_SLEW.rate_ns [13:0]: Slew limit in ns/s, 10 to 10,000 -/
def RUL_SLEW_rate_ns : Fld := { no := 80, base := 0x100018, dims := [], lo := 0, w := 14, acc := .rw, reset := fun _ => 1000, lim := some (10, 10000) }

/-- RUL_SLEW.slope_ppb [29:16]: Slope limit in ppb/s, 10 to 10,000 -/
def RUL_SLEW_slope_ppb : Fld := { no := 81, base := 0x100018, dims := [], lo := 16, w := 14, acc := .rw, reset := fun _ => 500, lim := some (10, 10000) }

/-- The register RUL_SLEW. -/
def RUL_SLEW : RegD := { base := 0x100018, dims := [], words := 1, flds := [RUL_SLEW_rate_ns, RUL_SLEW_slope_ppb] }

/-- RUL_REACH.reach_us [19:0]: Reach in µs, 1 to 1,000,000 -/
def RUL_REACH_reach_us : Fld := { no := 82, base := 0x10001c, dims := [], lo := 0, w := 20, acc := .rw, reset := fun _ => 1000, lim := some (1, 1000000) }

/-- The register RUL_REACH. -/
def RUL_REACH : RegD := { base := 0x10001c, dims := [], words := 1, flds := [RUL_REACH_reach_us] }

/-- RUL_TIME_WAIT.wait_s [9:0]: Start-up wait in s, 0 to 600 -/
def RUL_TIME_WAIT_wait_s : Fld := { no := 83, base := 0x100020, dims := [], lo := 0, w := 10, acc := .rw, reset := fun _ => 10, lim := some (0, 600) }

/-- The register RUL_TIME_WAIT. -/
def RUL_TIME_WAIT : RegD := { base := 0x100020, dims := [], words := 1, flds := [RUL_TIME_WAIT_wait_s] }

/-- RUL_CAND_CFG.en [0]: Candidate enabled -/
def RUL_CAND_CFG_en : Fld := { no := 84, base := 0x100040, dims := [(0x4, 6)], lo := 0, w := 1, acc := .rw, reset := fun _ => 0 }

/-- RUL_CAND_CFG.rank [6:4]: Rank, 0 most preferred -/
def RUL_CAND_CFG_rank : Fld := { no := 85, base := 0x100040, dims := [(0x4, 6)], lo := 4, w := 3, acc := .rw, reset := fun _ => 7 }

/-- RUL_CAND_CFG.capture_ppm [14:8]: Capture range in ppm, 1 to 100 -/
def RUL_CAND_CFG_capture_ppm : Fld := { no := 86, base := 0x100040, dims := [(0x4, 6)], lo := 8, w := 7, acc := .rw, reset := fun _ => 20, lim := some (1, 100) }

/-- RUL_CAND_CFG.bw_mhz [31:16]: Loop bandwidth while the candidate is selected, in mHz, 1 to 10,000 -/
def RUL_CAND_CFG_bw_mhz : Fld := { no := 87, base := 0x100040, dims := [(0x4, 6)], lo := 16, w := 16, acc := .rw, reset := fun _ => 100, lim := some (1, 10000) }

/-- The register RUL_CAND_CFG. -/
def RUL_CAND_CFG : RegD := { base := 0x100040, dims := [(0x4, 6)], words := 1, flds := [RUL_CAND_CFG_en, RUL_CAND_CFG_rank, RUL_CAND_CFG_capture_ppm, RUL_CAND_CFG_bw_mhz] }

/-- RUL_REF_CFG.clk_sel [2:0]: Clock frequency (R51) -/
def RUL_REF_CFG_clk_sel : Fld := { no := 88, base := 0x100060, dims := [(0x4, 2)], lo := 0, w := 3, acc := .rw, reset := fun _ => 0 }

/-- RUL_REF_CFG.fp_pol [4]: Frame-pulse active edge: 0 rising, 1 falling -/
def RUL_REF_CFG_fp_pol : Fld := { no := 89, base := 0x100060, dims := [(0x4, 2)], lo := 4, w := 1, acc := .rw, reset := fun _ => 0 }

/-- The register RUL_REF_CFG. -/
def RUL_REF_CFG : RegD := { base := 0x100060, dims := [(0x4, 2)], words := 1, flds := [RUL_REF_CFG_clk_sel, RUL_REF_CFG_fp_pol] }

/-- RUL_REF_FP_PERIOD.period [63:0]: Frame-pulse period in nib (R52). Read and written under R11 -/
def RUL_REF_FP_PERIOD_period : Fld := { no := 90, base := 0x100070, dims := [(0x8, 2)], lo := 0, w := 64, acc := .rw, reset := fun _ => 0 }

/-- The register RUL_REF_FP_PERIOD. -/
def RUL_REF_FP_PERIOD : RegD := { base := 0x100070, dims := [(0x8, 2)], words := 2, flds := [RUL_REF_FP_PERIOD_period] }

/-- RUL_REF_FP_OFFSET.offset [31:0]: Signed compensation in nib -/
def RUL_REF_FP_OFFSET_offset : Fld := { no := 91, base := 0x100080, dims := [(0x4, 2)], lo := 0, w := 32, acc := .rw, reset := fun _ => 0 }

/-- The register RUL_REF_FP_OFFSET. -/
def RUL_REF_FP_OFFSET : RegD := { base := 0x100080, dims := [(0x4, 2)], words := 1, flds := [RUL_REF_FP_OFFSET_offset] }

/-- RUL_PTP_CFG.mac [5:0]: MAC00 to MAC47. Values above 47 make the candidate permanently absent -/
def RUL_PTP_CFG_mac : Fld := { no := 92, base := 0x100090, dims := [(0x4, 2)], lo := 0, w := 6, acc := .rw, reset := fun _ => 0 }

/-- RUL_PTP_CFG.domain [15:8]: PTP domain number -/
def RUL_PTP_CFG_domain : Fld := { no := 93, base := 0x100090, dims := [(0x4, 2)], lo := 8, w := 8, acc := .rw, reset := fun _ => 127 }

/-- RUL_PTP_CFG.class_max [23:16]: Highest acceptable grandmaster clockClass -/
def RUL_PTP_CFG_class_max : Fld := { no := 94, base := 0x100090, dims := [(0x4, 2)], lo := 16, w := 8, acc := .rw, reset := fun _ => 7 }

/-- RUL_PTP_CFG.p2p [24]: Delay mechanism: 0 end-to-end, 1 peer-to-peer -/
def RUL_PTP_CFG_p2p : Fld := { no := 95, base := 0x100090, dims := [(0x4, 2)], lo := 24, w := 1, acc := .rw, reset := fun _ => 0 }

/-- RUL_PTP_CFG.vlan_en [25]: PTP messages carry an 802.1Q tag -/
def RUL_PTP_CFG_vlan_en : Fld := { no := 96, base := 0x100090, dims := [(0x4, 2)], lo := 25, w := 1, acc := .rw, reset := fun _ => 0 }

/-- The register RUL_PTP_CFG. -/
def RUL_PTP_CFG : RegD := { base := 0x100090, dims := [(0x4, 2)], words := 1, flds := [RUL_PTP_CFG_mac, RUL_PTP_CFG_domain, RUL_PTP_CFG_class_max, RUL_PTP_CFG_p2p, RUL_PTP_CFG_vlan_en] }

/-- RUL_PTP_VLAN.vid [11:0]: VLAN identifier -/
def RUL_PTP_VLAN_vid : Fld := { no := 97, base := 0x100098, dims := [(0x4, 2)], lo := 0, w := 12, acc := .rw, reset := fun _ => 0 }

/-- RUL_PTP_VLAN.pcp [14:12]: Priority code point on transmitted messages -/
def RUL_PTP_VLAN_pcp : Fld := { no := 98, base := 0x100098, dims := [(0x4, 2)], lo := 12, w := 3, acc := .rw, reset := fun _ => 0 }

/-- The register RUL_PTP_VLAN. -/
def RUL_PTP_VLAN : RegD := { base := 0x100098, dims := [(0x4, 2)], words := 1, flds := [RUL_PTP_VLAN_vid, RUL_PTP_VLAN_pcp] }

/-- RUL_CAND_ST.present [0]: Presence criteria met (R55) -/
def RUL_CAND_ST_present : Fld := { no := 99, base := 0x100100, dims := [(0x20, 6)], lo := 0, w := 1, acc := .ro, reset := fun _ => 0 }

/-- RUL_CAND_ST.qualified [1]: Qualified -/
def RUL_CAND_ST_qualified : Fld := { no := 100, base := 0x100100, dims := [(0x20, 6)], lo := 1, w := 1, acc := .ro, reset := fun _ => 0 }

/-- RUL_CAND_ST.holdoff [2]: In jump hold-off -/
def RUL_CAND_ST_holdoff : Fld := { no := 101, base := 0x100100, dims := [(0x20, 6)], lo := 2, w := 1, acc := .ro, reset := fun _ => 0 }

/-- RUL_CAND_ST.far [3]: Qualified and beyond reach (R58) -/
def RUL_CAND_ST_far : Fld := { no := 102, base := 0x100100, dims := [(0x20, 6)], lo := 3, w := 1, acc := .ro, reset := fun _ => 0 }

/-- RUL_CAND_ST.qual_elapsed_s [13:8]: Seconds counted towards qualification -/
def RUL_CAND_ST_qual_elapsed_s : Fld := { no := 103, base := 0x100100, dims := [(0x20, 6)], lo := 8, w := 6, acc := .ro, reset := fun _ => 0 }

/-- RUL_CAND_ST.jumps [23:16]: Jumps detected, saturating at 255 -/
def RUL_CAND_ST_jumps : Fld := { no := 104, base := 0x100100, dims := [(0x20, 6)], lo := 16, w := 8, acc := .rc, reset := fun _ => 0 }

/-- The register RUL_CAND_ST. -/
def RUL_CAND_ST : RegD := { base := 0x100100, dims := [(0x20, 6)], words := 1, flds := [RUL_CAND_ST_present, RUL_CAND_ST_qualified, RUL_CAND_ST_holdoff, RUL_CAND_ST_far, RUL_CAND_ST_qual_elapsed_s, RUL_CAND_ST_jumps] }

/-- RUL_CAND_PHASE.phase [63:0]: Signed phase error in nib (R54). 0 for XO. Read under R11 -/
def RUL_CAND_PHASE_phase : Fld := { no := 105, base := 0x100104, dims := [(0x20, 6)], lo := 0, w := 64, acc := .ro, reset := fun _ => 0 }

/-- The register RUL_CAND_PHASE. -/
def RUL_CAND_PHASE : RegD := { base := 0x100104, dims := [(0x20, 6)], words := 2, flds := [RUL_CAND_PHASE_phase] }

/-- RUL_CAND_FREQ.freq [31:0]: Signed frequency offset from the NTW rate, in units of 2^−40 -/
def RUL_CAND_FREQ_freq : Fld := { no := 106, base := 0x10010c, dims := [(0x20, 6)], lo := 0, w := 32, acc := .ro, reset := fun _ => 0 }

/-- The register RUL_CAND_FREQ. -/
def RUL_CAND_FREQ : RegD := { base := 0x10010c, dims := [(0x20, 6)], words := 1, flds := [RUL_CAND_FREQ_freq] }

/-- RUL_DCO_SET.value [31:0]: Open-loop target steering (R73). Loaded with S on entry to OPEN -/
def RUL_DCO_SET_value : Fld := { no := 107, base := 0x100200, dims := [], lo := 0, w := 32, acc := .rw, reset := fun _ => 0 }

/-- The register RUL_DCO_SET. -/
def RUL_DCO_SET : RegD := { base := 0x100200, dims := [], words := 1, flds := [RUL_DCO_SET_value] }

/-- RUL_DCO_ACT.value [31:0]: Steering S in use (R70) -/
def RUL_DCO_ACT_value : Fld := { no := 108, base := 0x100204, dims := [], lo := 0, w := 32, acc := .ro, reset := fun _ => 0 }

/-- The register RUL_DCO_ACT. -/
def RUL_DCO_ACT : RegD := { base := 0x100204, dims := [], words := 1, flds := [RUL_DCO_ACT_value] }

/-- RUL_HOLD_FREQ.value [31:0]: Holdover frequency (R66) -/
def RUL_HOLD_FREQ_value : Fld := { no := 109, base := 0x100208, dims := [], lo := 0, w := 32, acc := .ro, reset := fun _ => 0 }

/-- The register RUL_HOLD_FREQ. -/
def RUL_HOLD_FREQ : RegD := { base := 0x100208, dims := [], words := 1, flds := [RUL_HOLD_FREQ_value] }

/-- RUL_SLEW_ACT.value [31:0]: Slew component (R63) -/
def RUL_SLEW_ACT_value : Fld := { no := 110, base := 0x10020c, dims := [], lo := 0, w := 32, acc := .ro, reset := fun _ => 0 }

/-- The register RUL_SLEW_ACT. -/
def RUL_SLEW_ACT : RegD := { base := 0x10020c, dims := [], words := 1, flds := [RUL_SLEW_ACT_value] }

/-- RUL_NTW.ntw [127:0]: Current NTW, read under R11 -/
def RUL_NTW_ntw : Fld := { no := 111, base := 0x100210, dims := [], lo := 0, w := 128, acc := .ro, reset := fun _ => 0 }

/-- The register RUL_NTW. -/
def RUL_NTW : RegD := { base := 0x100210, dims := [], words := 4, flds := [RUL_NTW_ntw] }

/-- RUL_NTW_SET.ntw [127:0]: Value for a step with step_src 0. A malformed value (R6) refuses the step -/
def RUL_NTW_SET_ntw : Fld := { no := 112, base := 0x100220, dims := [], lo := 0, w := 128, acc := .rw, reset := fun _ => 0 }

/-- The register RUL_NTW_SET. -/
def RUL_NTW_SET : RegD := { base := 0x100220, dims := [], words := 4, flds := [RUL_NTW_SET_ntw] }

/-- RUL_OUT_CFG.clk_sel [2:0]: REF_OUT_CLK frequency (R74) -/
def RUL_OUT_CFG_clk_sel : Fld := { no := 113, base := 0x100240, dims := [], lo := 0, w := 3, acc := .rw, reset := fun _ => 0 }

/-- RUL_OUT_CFG.fp_fam [7:4]: Family for REF_OUT_FP -/
def RUL_OUT_CFG_fp_fam : Fld := { no := 114, base := 0x100240, dims := [], lo := 4, w := 4, acc := .rw, reset := fun _ => 0 }

/-- RUL_OUT_CFG.fp_en [8]: REF_OUT_FP enabled -/
def RUL_OUT_CFG_fp_en : Fld := { no := 115, base := 0x100240, dims := [], lo := 8, w := 1, acc := .rw, reset := fun _ => 0 }

/-- RUL_OUT_CFG.fp_pol [9]: REF_OUT_FP active level: 0 high, 1 low -/
def RUL_OUT_CFG_fp_pol : Fld := { no := 116, base := 0x100240, dims := [], lo := 9, w := 1, acc := .rw, reset := fun _ => 0 }

/-- RUL_OUT_CFG.pps_en [10]: PPS_OUT enabled -/
def RUL_OUT_CFG_pps_en : Fld := { no := 117, base := 0x100240, dims := [], lo := 10, w := 1, acc := .rw, reset := fun _ => 0 }

/-- RUL_OUT_CFG.clk_en [11]: REF_OUT_CLK enabled -/
def RUL_OUT_CFG_clk_en : Fld := { no := 118, base := 0x100240, dims := [], lo := 11, w := 1, acc := .rw, reset := fun _ => 0 }

/-- RUL_OUT_CFG.squelch [13:12]: Squelch mode (R75). The value 3 acts as 2 -/
def RUL_OUT_CFG_squelch : Fld := { no := 119, base := 0x100240, dims := [], lo := 12, w := 2, acc := .rw, reset := fun _ => 0 }

/-- The register RUL_OUT_CFG. -/
def RUL_OUT_CFG : RegD := { base := 0x100240, dims := [], words := 1, flds := [RUL_OUT_CFG_clk_sel, RUL_OUT_CFG_fp_fam, RUL_OUT_CFG_fp_en, RUL_OUT_CFG_fp_pol, RUL_OUT_CFG_pps_en, RUL_OUT_CFG_clk_en, RUL_OUT_CFG_squelch] }

/-- RUL_OUT_WIDTH.fp_width_us [15:0]: REF_OUT_FP width in µs, 1 to 65,535 -/
def RUL_OUT_WIDTH_fp_width_us : Fld := { no := 120, base := 0x100244, dims := [], lo := 0, w := 16, acc := .rw, reset := fun _ => 10, lim := some (1, 65535) }

/-- RUL_OUT_WIDTH.pps_width_ms [25:16]: PPS_OUT width in ms, 1 to 500 -/
def RUL_OUT_WIDTH_pps_width_ms : Fld := { no := 121, base := 0x100244, dims := [], lo := 16, w := 10, acc := .rw, reset := fun _ => 100, lim := some (1, 500) }

/-- The register RUL_OUT_WIDTH. -/
def RUL_OUT_WIDTH : RegD := { base := 0x100244, dims := [], words := 1, flds := [RUL_OUT_WIDTH_fp_width_us, RUL_OUT_WIDTH_pps_width_ms] }

/-- RUL_OUT_ADV.adv [31:0]: Signed advance of all outputs, in nib -/
def RUL_OUT_ADV_adv : Fld := { no := 122, base := 0x100248, dims := [], lo := 0, w := 32, acc := .rw, reset := fun _ => 0 }

/-- The register RUL_OUT_ADV. -/
def RUL_OUT_ADV : RegD := { base := 0x100248, dims := [], words := 1, flds := [RUL_OUT_ADV_adv] }

/-- Every register of the RUL block. -/
def regsRul : List RegD :=
  [RUL_STATUS, RUL_CTRL, RUL_CMD, RUL_CMD_ST, RUL_TIMING, RUL_JUMP, RUL_SLEW, RUL_REACH, RUL_TIME_WAIT, RUL_CAND_CFG, RUL_REF_CFG, RUL_REF_FP_PERIOD, RUL_REF_FP_OFFSET, RUL_PTP_CFG, RUL_PTP_VLAN, RUL_CAND_ST, RUL_CAND_PHASE, RUL_CAND_FREQ, RUL_DCO_SET, RUL_DCO_ACT] ++
  [RUL_HOLD_FREQ, RUL_SLEW_ACT, RUL_NTW, RUL_NTW_SET, RUL_OUT_CFG, RUL_OUT_WIDTH, RUL_OUT_ADV]

/-! ### Ductus: the registers of R101 to R104 -/

/-- DUC_STATUS.late [0]: A salvo was flagged late (R85) -/
def DUC_STATUS_late : Fld := { no := 123, base := 0x200000, dims := [], lo := 0, w := 1, acc := .w1c, reset := fun _ => 0 }

/-- DUC_STATUS.refused_late [1]: A salvo was refused with LATE -/
def DUC_STATUS_refused_late : Fld := { no := 124, base := 0x200000, dims := [], lo := 1, w := 1, acc := .w1c, reset := fun _ => 0 }

/-- DUC_STATUS.deferred [2]: A salvo was deferred (R86) -/
def DUC_STATUS_deferred : Fld := { no := 125, base := 0x200000, dims := [], lo := 2, w := 1, acc := .w1c, reset := fun _ => 0 }

/-- DUC_STATUS.ann_short [3]: An announcement arrived with a short lead (R97) -/
def DUC_STATUS_ann_short : Fld := { no := 126, base := 0x200000, dims := [], lo := 3, w := 1, acc := .w1c, reset := fun _ => 0 }

/-- DUC_STATUS.fabric_missed [4]: A fabric deadline was missed (R99) -/
def DUC_STATUS_fabric_missed : Fld := { no := 127, base := 0x200000, dims := [], lo := 4, w := 1, acc := .w1c, reset := fun _ => 0 }

/-- DUC_STATUS.rej_write [5]: An RWP write was rejected (R12) -/
def DUC_STATUS_rej_write : Fld := { no := 128, base := 0x200000, dims := [], lo := 5, w := 1, acc := .w1c, reset := fun _ => 0 }

/-- The register DUC_STATUS. -/
def DUC_STATUS : RegD := { base := 0x200000, dims := [], words := 1, flds := [DUC_STATUS_late, DUC_STATUS_refused_late, DUC_STATUS_deferred, DUC_STATUS_ann_short, DUC_STATUS_fabric_missed, DUC_STATUS_rej_write] }

/-- DUC_QUEUE.used [12:0]: Queue entries occupied, 0 to 4,096 -/
def DUC_QUEUE_used : Fld := { no := 129, base := 0x200004, dims := [], lo := 0, w := 13, acc := .ro, reset := fun _ => 0 }

/-- DUC_QUEUE.high_water [28:16]: Largest value of used since the last read -/
def DUC_QUEUE_high_water : Fld := { no := 130, base := 0x200004, dims := [], lo := 16, w := 13, acc := .rc, reset := fun _ => 0 }

/-- The register DUC_QUEUE. -/
def DUC_QUEUE : RegD := { base := 0x200004, dims := [], words := 1, flds := [DUC_QUEUE_used, DUC_QUEUE_high_water] }

/-- DUC_LAST_SEQ.seq [31:0]: Take sequence number of the last take launched -/
def DUC_LAST_SEQ_seq : Fld := { no := 131, base := 0x200008, dims := [], lo := 0, w := 32, acc := .ro, reset := fun _ => 0 }

/-- The register DUC_LAST_SEQ. -/
def DUC_LAST_SEQ : RegD := { base := 0x200008, dims := [], words := 1, flds := [DUC_LAST_SEQ_seq] }

/-- DUC_LATE_CNT.late [15:0]: Salvos flagged late, saturating -/
def DUC_LATE_CNT_late : Fld := { no := 132, base := 0x20000c, dims := [], lo := 0, w := 16, acc := .rc, reset := fun _ => 0 }

/-- DUC_LATE_CNT.refused [31:16]: Salvos refused with LATE, saturating -/
def DUC_LATE_CNT_refused : Fld := { no := 133, base := 0x20000c, dims := [], lo := 16, w := 16, acc := .rc, reset := fun _ => 0 }

/-- The register DUC_LATE_CNT. -/
def DUC_LATE_CNT : RegD := { base := 0x20000c, dims := [], words := 1, flds := [DUC_LATE_CNT_late, DUC_LATE_CNT_refused] }

/-- DUC_NEXT_L.ntw [127:0]: L of the earliest queued salvo, or 0 when the queue is empty. Read under R11 -/
def DUC_NEXT_L_ntw : Fld := { no := 134, base := 0x200010, dims := [], lo := 0, w := 128, acc := .ro, reset := fun _ => 0 }

/-- The register DUC_NEXT_L. -/
def DUC_NEXT_L : RegD := { base := 0x200010, dims := [], words := 4, flds := [DUC_NEXT_L_ntw] }

/-- DUC_PAUSE_CFG.interval_ms [6:0]: Pause interval in ms, 12 to 100 (R93, R95). Other values take the nearer limit -/
def DUC_PAUSE_CFG_interval_ms : Fld := { no := 135, base := 0x200030, dims := [], lo := 0, w := 7, acc := .rw, reset := fun _ => 50, lim := some (12, 100) }

/-- The register DUC_PAUSE_CFG. -/
def DUC_PAUSE_CFG : RegD := { base := 0x200030, dims := [], words := 1, flds := [DUC_PAUSE_CFG_interval_ms] }

/-- DUC_PAUSE_ST.last_ch [3:0]: Channel of the most recent pause -/
def DUC_PAUSE_ST_last_ch : Fld := { no := 136, base := 0x200034, dims := [], lo := 0, w := 4, acc := .ro, reset := fun _ => 0 }

/-- DUC_PAUSE_ST.active [4]: A pause is in progress -/
def DUC_PAUSE_ST_active : Fld := { no := 137, base := 0x200034, dims := [], lo := 4, w := 1, acc := .ro, reset := fun _ => 0 }

/-- DUC_PAUSE_ST.count [31:16]: Pauses launched, saturating -/
def DUC_PAUSE_ST_count : Fld := { no := 138, base := 0x200034, dims := [], lo := 16, w := 16, acc := .rc, reset := fun _ => 0 }

/-- The register DUC_PAUSE_ST. -/
def DUC_PAUSE_ST : RegD := { base := 0x200034, dims := [], words := 1, flds := [DUC_PAUSE_ST_last_ch, DUC_PAUSE_ST_active, DUC_PAUSE_ST_count] }

/-- DUC_FABRIC.role [1:0]: 0 alone, 1 member, 2 timing master, 3 standby master -/
def DUC_FABRIC_role : Fld := { no := 139, base := 0x200040, dims := [], lo := 0, w := 2, acc := .ro, reset := fun _ => 0 }

/-- DUC_FABRIC.ann_lead [7:4]: Announcement lead in FAM00 frames, 1 to 15 (R97) -/
def DUC_FABRIC_ann_lead : Fld := { no := 140, base := 0x200040, dims := [], lo := 4, w := 4, acc := .ro, reset := fun _ => 2 }

/-- The register DUC_FABRIC. -/
def DUC_FABRIC : RegD := { base := 0x200040, dims := [], words := 1, flds := [DUC_FABRIC_role, DUC_FABRIC_ann_lead] }

/-- DUC_ANN_ST.rx [15:0]: Announcements accepted, saturating -/
def DUC_ANN_ST_rx : Fld := { no := 141, base := 0x200044, dims := [], lo := 0, w := 16, acc := .rc, reset := fun _ => 0 }

/-- DUC_ANN_ST.short [31:16]: Announcements with a short lead, saturating -/
def DUC_ANN_ST_short : Fld := { no := 142, base := 0x200044, dims := [], lo := 16, w := 16, acc := .rc, reset := fun _ => 0 }

/-- The register DUC_ANN_ST. -/
def DUC_ANN_ST : RegD := { base := 0x200044, dims := [], words := 1, flds := [DUC_ANN_ST_rx, DUC_ANN_ST_short] }

/-- DUC_FAM_CTRL.en [0]: 1 requests start, 0 requests stop, launched under R90. A family starts only once time_set is 1 (R68) -/
def DUC_FAM_CTRL_en : Fld := { no := 143, base := 0x200100, dims := [(0x40, 16)], lo := 0, w := 1, acc := .rw, reset := fun _ => 0 }

/-- The register DUC_FAM_CTRL. -/
def DUC_FAM_CTRL : RegD := { base := 0x200100, dims := [(0x40, 16)], words := 1, flds := [DUC_FAM_CTRL_en] }

/-- DUC_FAM_STATUS.state [2:0]: 0 STOPPED, 1 STARTING, 2 RUNNING, 3 STOPPING, 4 FAILED -/
def DUC_FAM_STATUS_state : Fld := { no := 144, base := 0x200104, dims := [(0x40, 16)], lo := 0, w := 3, acc := .ro, reset := fun _ => 0 }

/-- DUC_FAM_STATUS.pre_align [4]: NTW is before the alignment point (R37) -/
def DUC_FAM_STATUS_pre_align : Fld := { no := 145, base := 0x200104, dims := [(0x40, 16)], lo := 4, w := 1, acc := .ro, reset := fun _ => 0 }

/-- DUC_FAM_STATUS.start_err [5]: A start request failed its check -/
def DUC_FAM_STATUS_start_err : Fld := { no := 146, base := 0x200104, dims := [(0x40, 16)], lo := 5, w := 1, acc := .w1c, reset := fun _ => 0 }

/-- The register DUC_FAM_STATUS. -/
def DUC_FAM_STATUS : RegD := { base := 0x200104, dims := [(0x40, 16)], words := 1, flds := [DUC_FAM_STATUS_state, DUC_FAM_STATUS_pre_align, DUC_FAM_STATUS_start_err] }

/-- DUC_FAM_PERIOD.period [63:0]: Frame period P in nib (R34). Written under R11 -/
def DUC_FAM_PERIOD_period : Fld := { no := 147, base := 0x200108, dims := [(0x40, 16)], lo := 0, w := 64, acc := .rwp, reset := fun _ => 0 }

/-- The register DUC_FAM_PERIOD. -/
def DUC_FAM_PERIOD : RegD := { base := 0x200108, dims := [(0x40, 16)], words := 2, flds := [DUC_FAM_PERIOD_period] }

/-- DUC_FAM_GEOM.lines [13:0]: Total lines, 2 to 8,192 -/
def DUC_FAM_GEOM_lines : Fld := { no := 148, base := 0x200110, dims := [(0x40, 16)], lo := 0, w := 14, acc := .rwp, reset := fun _ => 0 }

/-- DUC_FAM_GEOM.samples [30:16]: Total samples per line, 64 to 32,767 -/
def DUC_FAM_GEOM_samples : Fld := { no := 149, base := 0x200110, dims := [(0x40, 16)], lo := 16, w := 15, acc := .rwp, reset := fun _ => 0 }

/-- The register DUC_FAM_GEOM. -/
def DUC_FAM_GEOM : RegD := { base := 0x200110, dims := [(0x40, 16)], words := 1, flds := [DUC_FAM_GEOM_lines, DUC_FAM_GEOM_samples] }

/-- DUC_FAM_ACTIVE.active_lines [13:0]: Active lines -/
def DUC_FAM_ACTIVE_active_lines : Fld := { no := 150, base := 0x200114, dims := [(0x40, 16)], lo := 0, w := 14, acc := .rwp, reset := fun _ => 0 }

/-- DUC_FAM_ACTIVE.active_samples [30:16]: Active samples -/
def DUC_FAM_ACTIVE_active_samples : Fld := { no := 151, base := 0x200114, dims := [(0x40, 16)], lo := 16, w := 15, acc := .rwp, reset := fun _ => 0 }

/-- The register DUC_FAM_ACTIVE. -/
def DUC_FAM_ACTIVE : RegD := { base := 0x200114, dims := [(0x40, 16)], words := 1, flds := [DUC_FAM_ACTIVE_active_lines, DUC_FAM_ACTIVE_active_samples] }

/-- DUC_FAM_TIMING.first_active [14:0]: Sample of the first active sample -/
def DUC_FAM_TIMING_first_active : Fld := { no := 152, base := 0x200118, dims := [(0x40, 16)], lo := 0, w := 15, acc := .rwp, reset := fun _ => 0 }

/-- DUC_FAM_TIMING.scan [17:16]: 0 progressive, 1 interlaced, 2 segmented frame; 3 fails the start check -/
def DUC_FAM_TIMING_scan : Fld := { no := 153, base := 0x200118, dims := [(0x40, 16)], lo := 16, w := 2, acc := .rwp, reset := fun _ => 0 }

/-- DUC_FAM_TIMING.field2_line [31:18]: First line of field or segment 2 -/
def DUC_FAM_TIMING_field2_line : Fld := { no := 154, base := 0x200118, dims := [(0x40, 16)], lo := 18, w := 14, acc := .rwp, reset := fun _ => 0 }

/-- The register DUC_FAM_TIMING. -/
def DUC_FAM_TIMING : RegD := { base := 0x200118, dims := [(0x40, 16)], words := 1, flds := [DUC_FAM_TIMING_first_active, DUC_FAM_TIMING_scan, DUC_FAM_TIMING_field2_line] }

/-- DUC_FAM_ALIGN.align_sec [47:0]: Alignment second (R36). Written under R11 -/
def DUC_FAM_ALIGN_align_sec : Fld := { no := 155, base := 0x200120, dims := [(0x40, 16)], lo := 0, w := 48, acc := .rwp, reset := fun _ => 0 }

/-- The register DUC_FAM_ALIGN. -/
def DUC_FAM_ALIGN : RegD := { base := 0x200120, dims := [(0x40, 16)], words := 2, flds := [DUC_FAM_ALIGN_align_sec] }

/-- DUC_FAM_FRAME.frame [47:0]: Current frame F. Reads 0 when pre_align is 1 or the family is not RUNNING. Read under R11 -/
def DUC_FAM_FRAME_frame : Fld := { no := 156, base := 0x200128, dims := [(0x40, 16)], lo := 0, w := 48, acc := .ro, reset := fun _ => 0 }

/-- The register DUC_FAM_FRAME. -/
def DUC_FAM_FRAME : RegD := { base := 0x200128, dims := [(0x40, 16)], words := 2, flds := [DUC_FAM_FRAME_frame] }

/-- Every register of the DUC block. -/
def regsDuc : List RegD :=
  [DUC_STATUS, DUC_QUEUE, DUC_LAST_SEQ, DUC_LATE_CNT, DUC_NEXT_L, DUC_PAUSE_CFG, DUC_PAUSE_ST, DUC_FABRIC, DUC_ANN_ST, DUC_FAM_CTRL, DUC_FAM_STATUS, DUC_FAM_PERIOD, DUC_FAM_GEOM, DUC_FAM_ACTIVE, DUC_FAM_TIMING, DUC_FAM_ALIGN, DUC_FAM_FRAME]

/-! ### Stitches: the registers of R141 to R143 -/

/-- XPT_STATUS.wr_busy [0]: A write to a POSTED bank was ignored -/
def XPT_STATUS_wr_busy : Fld := { no := 157, base := 0x300000, dims := [], lo := 0, w := 1, acc := .w1c, reset := fun _ => 0 }

/-- XPT_STATUS.ring_err [1]: A doorbell on a POSTED bank was ignored -/
def XPT_STATUS_ring_err : Fld := { no := 158, base := 0x300000, dims := [], lo := 1, w := 1, acc := .w1c, reset := fun _ => 0 }

/-- XPT_STATUS.refused [2]: A salvo was refused -/
def XPT_STATUS_refused : Fld := { no := 159, base := 0x300000, dims := [], lo := 2, w := 1, acc := .w1c, reset := fun _ => 0 }

/-- XPT_STATUS.not_exec [3]: A salvo was reported NOT_EXECUTED -/
def XPT_STATUS_not_exec : Fld := { no := 160, base := 0x300000, dims := [], lo := 3, w := 1, acc := .w1c, reset := fun _ => 0 }

/-- The register XPT_STATUS. -/
def XPT_STATUS : RegD := { base := 0x300000, dims := [], words := 1, flds := [XPT_STATUS_wr_busy, XPT_STATUS_ring_err, XPT_STATUS_refused, XPT_STATUS_not_exec] }

/-- XPT_SEQ.seq [31:0]: Last sequence number of the last salvo accepted (R117) -/
def XPT_SEQ_seq : Fld := { no := 161, base := 0x300004, dims := [], lo := 0, w := 32, acc := .ro, reset := fun _ => 0 }

/-- The register XPT_SEQ. -/
def XPT_SEQ : RegD := { base := 0x300004, dims := [], words := 1, flds := [XPT_SEQ_seq] }

/-- XPT_NX.tag [31:0]: Tag of the latest salvo reported NOT_EXECUTED -/
def XPT_NX_tag : Fld := { no := 162, base := 0x300008, dims := [], lo := 0, w := 32, acc := .ro, reset := fun _ => 0 }

/-- The register XPT_NX. -/
def XPT_NX : RegD := { base := 0x300008, dims := [], words := 1, flds := [XPT_NX_tag] }

/-- XPT_NX_CNT.count [15:0]: Salvos reported NOT_EXECUTED, saturating -/
def XPT_NX_CNT_count : Fld := { no := 163, base := 0x30000c, dims := [], lo := 0, w := 16, acc := .rc, reset := fun _ => 0 }

/-- The register XPT_NX_CNT. -/
def XPT_NX_CNT : RegD := { base := 0x30000c, dims := [], words := 1, flds := [XPT_NX_CNT_count] }

/-- XPT_DOORBELL.ring0 [0]: 1 posts bank 0 -/
def XPT_DOORBELL_ring0 : Fld := { no := 164, base := 0x300010, dims := [], lo := 0, w := 1, acc := .wo, reset := fun _ => 0 }

/-- XPT_DOORBELL.ring1 [1]: 1 posts bank 1 -/
def XPT_DOORBELL_ring1 : Fld := { no := 165, base := 0x300010, dims := [], lo := 1, w := 1, acc := .wo, reset := fun _ => 0 }

/-- The register XPT_DOORBELL. -/
def XPT_DOORBELL : RegD := { base := 0x300010, dims := [], words := 1, flds := [XPT_DOORBELL_ring0, XPT_DOORBELL_ring1] }

/-- XPT_MBX_RES.state [1:0]: 0 IDLE, 1 POSTED, 2 DONE -/
def XPT_MBX_RES_state : Fld := { no := 166, base := 0x300020, dims := [(0x4, 2)], lo := 0, w := 2, acc := .ro, reset := fun _ => 0 }

/-- XPT_MBX_RES.code [7:4]: Status code (R119) -/
def XPT_MBX_RES_code : Fld := { no := 167, base := 0x300020, dims := [(0x4, 2)], lo := 4, w := 4, acc := .ro, reset := fun _ => 0 }

/-- XPT_MBX_RES.late [8]: Flagged late (R85) -/
def XPT_MBX_RES_late : Fld := { no := 168, base := 0x300020, dims := [(0x4, 2)], lo := 8, w := 1, acc := .ro, reset := fun _ => 0 }

/-- XPT_MBX_RES.deferred [9]: Deferred (R86) -/
def XPT_MBX_RES_deferred : Fld := { no := 169, base := 0x300020, dims := [(0x4, 2)], lo := 9, w := 1, acc := .ro, reset := fun _ => 0 }

/-- XPT_MBX_RES.switched [10]: Every record has taken effect. Each TAKE counts at the switch point at which the output changes, which is the later switch point of R157 where the new path waits for a surface. Each other record counts at its switch point of R116 -/
def XPT_MBX_RES_switched : Fld := { no := 170, base := 0x300020, dims := [(0x4, 2)], lo := 10, w := 1, acc := .ro, reset := fun _ => 0 }

/-- XPT_MBX_RES.first_bad [28:16]: Record index of the failure, or 0x1FFF (R118) -/
def XPT_MBX_RES_first_bad : Fld := { no := 171, base := 0x300020, dims := [(0x4, 2)], lo := 16, w := 13, acc := .ro, reset := fun _ => 0 }

/-- The register XPT_MBX_RES. -/
def XPT_MBX_RES : RegD := { base := 0x300020, dims := [(0x4, 2)], words := 1, flds := [XPT_MBX_RES_state, XPT_MBX_RES_code, XPT_MBX_RES_late, XPT_MBX_RES_deferred, XPT_MBX_RES_switched, XPT_MBX_RES_first_bad] }

/-- XPT_MBX_HDR.word [31:0]: Word w of bank b's salvo header (R114) -/
def XPT_MBX_HDR_word : Fld := { no := 172, base := 0x300100, dims := [(0x20, 2), (0x4, 8)], lo := 0, w := 32, acc := .rw, reset := fun _ => 0 }

/-- The register XPT_MBX_HDR. -/
def XPT_MBX_HDR : RegD := { base := 0x300100, dims := [(0x20, 2), (0x4, 8)], words := 1, flds := [XPT_MBX_HDR_word] }

/-- XPT_MBX_A.ntw [127:0]: Acceptance instant A. Read under R11 -/
def XPT_MBX_A_ntw : Fld := { no := 173, base := 0x300180, dims := [(0x20, 2)], lo := 0, w := 128, acc := .ro, reset := fun _ => 0 }

/-- The register XPT_MBX_A. -/
def XPT_MBX_A : RegD := { base := 0x300180, dims := [(0x20, 2)], words := 4, flds := [XPT_MBX_A_ntw] }

/-- XPT_MBX_L.ntw [127:0]: Launch instant L. Read under R11 -/
def XPT_MBX_L_ntw : Fld := { no := 174, base := 0x300190, dims := [(0x20, 2)], lo := 0, w := 128, acc := .ro, reset := fun _ => 0 }

/-- The register XPT_MBX_L. -/
def XPT_MBX_L : RegD := { base := 0x300190, dims := [(0x20, 2)], words := 4, flds := [XPT_MBX_L_ntw] }

/-- XPT_STITCH.src_slot [10:0]: Source slot feeding DSLn -/
def XPT_STITCH_src_slot : Fld := { no := 175, base := 0x310000, dims := [(0x4, 1536)], lo := 0, w := 11, acc := .ro, reset := fun _ => 0 }

/-- XPT_STITCH.valid [15]: The entry holds a source -/
def XPT_STITCH_valid : Fld := { no := 176, base := 0x310000, dims := [(0x4, 1536)], lo := 15, w := 1, acc := .ro, reset := fun _ => 0 }

/-- XPT_STITCH.gang [17:16]: 0 single, 1 gang of two, 2 gang of four -/
def XPT_STITCH_gang : Fld := { no := 177, base := 0x310000, dims := [(0x4, 1536)], lo := 16, w := 2, acc := .ro, reset := fun _ => 0 }

/-- XPT_STITCH.member [18]: A gang member other than the lowest slot -/
def XPT_STITCH_member : Fld := { no := 178, base := 0x310000, dims := [(0x4, 1536)], lo := 18, w := 1, acc := .ro, reset := fun _ => 0 }

/-- XPT_STITCH.dst [30:20]: Local destination index using the slot -/
def XPT_STITCH_dst : Fld := { no := 179, base := 0x310000, dims := [(0x4, 1536)], lo := 20, w := 11, acc := .ro, reset := fun _ => 0 }

/-- The register XPT_STITCH. -/
def XPT_STITCH : RegD := { base := 0x310000, dims := [(0x4, 1536)], words := 1, flds := [XPT_STITCH_src_slot, XPT_STITCH_valid, XPT_STITCH_gang, XPT_STITCH_member, XPT_STITCH_dst] }

/-- XPT_SSL_ST.kind [1:0]: 0 unused, 1 raster, 2 ANC-only, 3 opaque -/
def XPT_SSL_ST_kind : Fld := { no := 180, base := 0x320000, dims := [(0x4, 1536)], lo := 0, w := 2, acc := .ro, reset := fun _ => 0 }

/-- XPT_SSL_ST.gang [5:4]: As in XPT_STITCH -/
def XPT_SSL_ST_gang : Fld := { no := 181, base := 0x320000, dims := [(0x4, 1536)], lo := 4, w := 2, acc := .ro, reset := fun _ => 0 }

/-- XPT_SSL_ST.lost [8]: Loss declared (R130) -/
def XPT_SSL_ST_lost : Fld := { no := 182, base := 0x320000, dims := [(0x4, 1536)], lo := 8, w := 1, acc := .ro, reset := fun _ => 0 }

/-- XPT_SSL_ST.producer [14:12]: 0 SDI framer, 1 flow engine, 2 Seam, 3 Inkwell, 4 Quilt head -/
def XPT_SSL_ST_producer : Fld := { no := 183, base := 0x320000, dims := [(0x4, 1536)], lo := 12, w := 3, acc := .ro, reset := fun _ => 0 }

/-- XPT_SSL_ST.e_nib [31:16]: Arrival error e, signed, in units of 40 nib, saturating -/
def XPT_SSL_ST_e_nib : Fld := { no := 184, base := 0x320000, dims := [(0x4, 1536)], lo := 16, w := 16, acc := .ro, reset := fun _ => 0 }

/-- The register XPT_SSL_ST. -/
def XPT_SSL_ST : RegD := { base := 0x320000, dims := [(0x4, 1536)], words := 1, flds := [XPT_SSL_ST_kind, XPT_SSL_ST_gang, XPT_SSL_ST_lost, XPT_SSL_ST_producer, XPT_SSL_ST_e_nib] }

/-- XPT_DST_ID.num [15:0]: Destination number, or 0xFFFF when the index is unused -/
def XPT_DST_ID_num : Fld := { no := 185, base := 0x340000, dims := [(0x20, 1536)], lo := 0, w := 16, acc := .ro, reset := fun _ => 0xffff }

/-- XPT_DST_ID.kind [19:16]: 1 SDI, 2 ST 2110 raster, 3 ST 2022-6, 4 audio sender, 5 ANC sender, 6 opaque, 7 port group -/
def XPT_DST_ID_kind : Fld := { no := 186, base := 0x340000, dims := [(0x20, 1536)], lo := 16, w := 4, acc := .ro, reset := fun _ => 0 }

/-- The register XPT_DST_ID. -/
def XPT_DST_ID : RegD := { base := 0x340000, dims := [(0x20, 1536)], words := 1, flds := [XPT_DST_ID_num, XPT_DST_ID_kind] }

/-- XPT_DST_SRC.src [15:0]: Primary source -/
def XPT_DST_SRC_src : Fld := { no := 187, base := 0x340004, dims := [(0x20, 1536)], lo := 0, w := 16, acc := .ro, reset := fun _ => 0xffff }

/-- XPT_DST_SRC.prot [31:16]: Protect source -/
def XPT_DST_SRC_prot : Fld := { no := 188, base := 0x340004, dims := [(0x20, 1536)], lo := 16, w := 16, acc := .ro, reset := fun _ => 0xffff }

/-- The register XPT_DST_SRC. -/
def XPT_DST_SRC : RegD := { base := 0x340004, dims := [(0x20, 1536)], words := 1, flds := [XPT_DST_SRC_src, XPT_DST_SRC_prot] }

/-- XPT_DST_POLICY.policy [1:0]: As R115 -/
def XPT_DST_POLICY_policy : Fld := { no := 189, base := 0x340008, dims := [(0x20, 1536)], lo := 0, w := 2, acc := .ro, reset := fun _ => 0 }

/-- XPT_DST_POLICY.secondary [5:4]: As R115 -/
def XPT_DST_POLICY_secondary : Fld := { no := 190, base := 0x340008, dims := [(0x20, 1536)], lo := 4, w := 2, acc := .ro, reset := fun _ => 0 }

/-- XPT_DST_POLICY.revert [8]: As R115 -/
def XPT_DST_POLICY_revert : Fld := { no := 191, base := 0x340008, dims := [(0x20, 1536)], lo := 8, w := 1, acc := .ro, reset := fun _ => 0 }

/-- XPT_DST_POLICY.revert_frames [27:16]: As R115 -/
def XPT_DST_POLICY_revert_frames : Fld := { no := 192, base := 0x340008, dims := [(0x20, 1536)], lo := 16, w := 12, acc := .ro, reset := fun _ => 0 }

/-- The register XPT_DST_POLICY. -/
def XPT_DST_POLICY : RegD := { base := 0x340008, dims := [(0x20, 1536)], words := 1, flds := [XPT_DST_POLICY_policy, XPT_DST_POLICY_secondary, XPT_DST_POLICY_revert, XPT_DST_POLICY_revert_frames] }

/-- XPT_DST_FMT.fam [3:0]: Family -/
def XPT_DST_FMT_fam : Fld := { no := 193, base := 0x34000c, dims := [(0x20, 1536)], lo := 0, w := 4, acc := .ro, reset := fun _ => 0 }

/-- XPT_DST_FMT.fmt [15:8]: Format table entry -/
def XPT_DST_FMT_fmt : Fld := { no := 194, base := 0x34000c, dims := [(0x20, 1536)], lo := 8, w := 8, acc := .ro, reset := fun _ => 0 }

/-- XPT_DST_FMT.direct [16]: Direct destination (R140) -/
def XPT_DST_FMT_direct : Fld := { no := 195, base := 0x34000c, dims := [(0x20, 1536)], lo := 16, w := 1, acc := .ro, reset := fun _ => 0 }

/-- The register XPT_DST_FMT. -/
def XPT_DST_FMT : RegD := { base := 0x34000c, dims := [(0x20, 1536)], words := 1, flds := [XPT_DST_FMT_fam, XPT_DST_FMT_fmt, XPT_DST_FMT_direct] }

/-- XPT_DST_DELAY.do_nib [31:0]: Do in nib, bits [31:0] (R137) -/
def XPT_DST_DELAY_do_nib : Fld := { no := 196, base := 0x340010, dims := [(0x20, 1536)], lo := 0, w := 32, acc := .ro, reset := fun _ => 0 }

/-- The register XPT_DST_DELAY. -/
def XPT_DST_DELAY : RegD := { base := 0x340010, dims := [(0x20, 1536)], words := 1, flds := [XPT_DST_DELAY_do_nib] }

/-- XPT_DST_ST.slot [10:0]: Lowest destination slot -/
def XPT_DST_ST_slot : Fld := { no := 197, base := 0x340014, dims := [(0x20, 1536)], lo := 0, w := 11, acc := .ro, reset := fun _ => 0 }

/-- XPT_DST_ST.gang [13:12]: As in XPT_STITCH -/
def XPT_DST_ST_gang : Fld := { no := 198, base := 0x340014, dims := [(0x20, 1536)], lo := 12, w := 2, acc := .ro, reset := fun _ => 0 }

/-- XPT_DST_ST.lost [16]: The source on air is lost -/
def XPT_DST_ST_lost : Fld := { no := 199, base := 0x340014, dims := [(0x20, 1536)], lo := 16, w := 1, acc := .ro, reset := fun _ => 0 }

/-- XPT_DST_ST.on_protect [17]: The protect source is on air -/
def XPT_DST_ST_on_protect : Fld := { no := 200, base := 0x340014, dims := [(0x20, 1536)], lo := 17, w := 1, acc := .ro, reset := fun _ => 0 }

/-- XPT_DST_ST.both_lost [18]: Secondary policy in force (R135) -/
def XPT_DST_ST_both_lost : Fld := { no := 201, base := 0x340014, dims := [(0x20, 1536)], lo := 18, w := 1, acc := .ro, reset := fun _ => 0 }

/-- XPT_DST_ST.sync [19]: A frame synchroniser is inserted -/
def XPT_DST_ST_sync : Fld := { no := 202, base := 0x340014, dims := [(0x20, 1536)], lo := 19, w := 1, acc := .ro, reset := fun _ => 0 }

/-- XPT_DST_ST.conv [20]: A conversion head is inserted -/
def XPT_DST_ST_conv : Fld := { no := 203, base := 0x340014, dims := [(0x20, 1536)], lo := 20, w := 1, acc := .ro, reset := fun _ => 0 }

/-- XPT_DST_ST.hold_ready [21]: A hold frame exists (R133) -/
def XPT_DST_ST_hold_ready : Fld := { no := 204, base := 0x340014, dims := [(0x20, 1536)], lo := 21, w := 1, acc := .ro, reset := fun _ => 0 }

/-- The register XPT_DST_ST. -/
def XPT_DST_ST : RegD := { base := 0x340014, dims := [(0x20, 1536)], words := 1, flds := [XPT_DST_ST_slot, XPT_DST_ST_gang, XPT_DST_ST_lost, XPT_DST_ST_on_protect, XPT_DST_ST_both_lost, XPT_DST_ST_sync, XPT_DST_ST_conv, XPT_DST_ST_hold_ready] }

/-- XPT_DST_CNT.switches [15:0]: Changes of what the output carries, saturating (R112). A change to another source counts, whether primary or protect, and so does a change from a source to a loss or safe fill and from a fill back to a source -/
def XPT_DST_CNT_switches : Fld := { no := 205, base := 0x340018, dims := [(0x20, 1536)], lo := 0, w := 16, acc := .rc, reset := fun _ => 0 }

/-- XPT_DST_CNT.losses [31:16]: Loss declarations, saturating -/
def XPT_DST_CNT_losses : Fld := { no := 206, base := 0x340018, dims := [(0x20, 1536)], lo := 16, w := 16, acc := .rc, reset := fun _ => 0 }

/-- The register XPT_DST_CNT. -/
def XPT_DST_CNT : RegD := { base := 0x340018, dims := [(0x20, 1536)], words := 1, flds := [XPT_DST_CNT_switches, XPT_DST_CNT_losses] }

/-- XPT_DST_DELAY_HI.do_nib_hi [3:0]: Do in nib, bits [35:32] -/
def XPT_DST_DELAY_HI_do_nib_hi : Fld := { no := 207, base := 0x34001c, dims := [(0x20, 1536)], lo := 0, w := 4, acc := .ro, reset := fun _ => 0 }

/-- The register XPT_DST_DELAY_HI. -/
def XPT_DST_DELAY_HI : RegD := { base := 0x34001c, dims := [(0x20, 1536)], words := 1, flds := [XPT_DST_DELAY_HI_do_nib_hi] }

/-- XPT_MBX_REC.word [31:0]: Word w of record r of bank b (R115) -/
def XPT_MBX_REC_word : Fld := { no := 208, base := 0x380000, dims := [(0x10000, 2), (0x10, 4096), (0x4, 4)], lo := 0, w := 32, acc := .rw, reset := fun _ => 0 }

/-- The register XPT_MBX_REC. -/
def XPT_MBX_REC : RegD := { base := 0x380000, dims := [(0x10000, 2), (0x10, 4096), (0x4, 4)], words := 1, flds := [XPT_MBX_REC_word] }

/-- Every register of the XPT block. -/
def regsXpt : List RegD :=
  [XPT_STATUS, XPT_SEQ, XPT_NX, XPT_NX_CNT, XPT_DOORBELL, XPT_MBX_RES, XPT_MBX_HDR, XPT_MBX_A, XPT_MBX_L, XPT_STITCH, XPT_SSL_ST, XPT_DST_ID, XPT_DST_SRC, XPT_DST_POLICY, XPT_DST_FMT, XPT_DST_DELAY, XPT_DST_ST, XPT_DST_CNT, XPT_DST_DELAY_HI, XPT_MBX_REC]

/-! ### Tailor: the registers of R170 -/

/-- TLR_STATUS.refused [0]: A salvo or layer input was refused -/
def TLR_STATUS_refused : Fld := { no := 209, base := 0x400000, dims := [], lo := 0, w := 1, acc := .w1c, reset := fun _ => 0 }

/-- TLR_STATUS.flow_refused [1]: A flow was refused (R163) -/
def TLR_STATUS_flow_refused : Fld := { no := 210, base := 0x400000, dims := [], lo := 1, w := 1, acc := .w1c, reset := fun _ => 0 }

/-- TLR_STATUS.pin_missed [2]: A soft pin was not honoured -/
def TLR_STATUS_pin_missed : Fld := { no := 211, base := 0x400000, dims := [], lo := 2, w := 1, acc := .w1c, reset := fun _ => 0 }

/-- TLR_STATUS.mig_abort [3]: A migration was aborted -/
def TLR_STATUS_mig_abort : Fld := { no := 212, base := 0x400000, dims := [], lo := 3, w := 1, acc := .w1c, reset := fun _ => 0 }

/-- TLR_STATUS.unplaced [4]: An item became unplaced -/
def TLR_STATUS_unplaced : Fld := { no := 213, base := 0x400000, dims := [], lo := 4, w := 1, acc := .w1c, reset := fun _ => 0 }

/-- TLR_STATUS.gap [5]: A placement-input gap exceeded 2 × P0 -/
def TLR_STATUS_gap : Fld := { no := 214, base := 0x400000, dims := [], lo := 5, w := 1, acc := .w1c, reset := fun _ => 0 }

/-- The register TLR_STATUS. -/
def TLR_STATUS : RegD := { base := 0x400000, dims := [], words := 1, flds := [TLR_STATUS_refused, TLR_STATUS_flow_refused, TLR_STATUS_pin_missed, TLR_STATUS_mig_abort, TLR_STATUS_unplaced, TLR_STATUS_gap] }

/-- TLR_EPOCH.epoch [63:0]: Placement epoch (R146). Read under R11 -/
def TLR_EPOCH_epoch : Fld := { no := 215, base := 0x400008, dims := [], lo := 0, w := 64, acc := .ro, reset := fun _ => 0 }

/-- The register TLR_EPOCH. -/
def TLR_EPOCH : RegD := { base := 0x400008, dims := [], words := 2, flds := [TLR_EPOCH_epoch] }

/-- TLR_PLACE_TIME.last_us [15:0]: Decision time of the last input, in µs, saturating -/
def TLR_PLACE_TIME_last_us : Fld := { no := 216, base := 0x400010, dims := [], lo := 0, w := 16, acc := .ro, reset := fun _ => 0 }

/-- TLR_PLACE_TIME.max_us [31:16]: Largest decision time since the last read, in µs, saturating -/
def TLR_PLACE_TIME_max_us : Fld := { no := 217, base := 0x400010, dims := [], lo := 16, w := 16, acc := .rc, reset := fun _ => 0 }

/-- The register TLR_PLACE_TIME. -/
def TLR_PLACE_TIME : RegD := { base := 0x400010, dims := [], words := 1, flds := [TLR_PLACE_TIME_last_us, TLR_PLACE_TIME_max_us] }

/-- TLR_LAST_REF.code [3:0]: Status code (R119) -/
def TLR_LAST_REF_code : Fld := { no := 218, base := 0x400014, dims := [], lo := 0, w := 4, acc := .ro, reset := fun _ => 0 }

/-- TLR_LAST_REF.budget [7:4]: 0 source slots, 1 destination slots, 2 Inkwell bandwidth, 3 Inkwell capacity, 4 scaler, 5 conversion head, 6 Seam, 7 MAC, 8 receive entries, 9 receive bucket, 10 transmit entries, 11 Gather, 12 path, 13 format, 14 hard pin -/
def TLR_LAST_REF_budget : Fld := { no := 219, base := 0x400014, dims := [], lo := 4, w := 4, acc := .ro, reset := fun _ => 0 }

/-- TLR_LAST_REF.index [19:8]: Resource index concerned: channel, scaler, link, MAC or bucket way group; 0xFFF when none -/
def TLR_LAST_REF_index : Fld := { no := 220, base := 0x400014, dims := [], lo := 8, w := 12, acc := .ro, reset := fun _ => 0 }

/-- TLR_LAST_REF.record [31:20]: Record index, or 0xFFF for a layer input -/
def TLR_LAST_REF_record : Fld := { no := 221, base := 0x400014, dims := [], lo := 20, w := 12, acc := .ro, reset := fun _ => 0 }

/-- The register TLR_LAST_REF. -/
def TLR_LAST_REF : RegD := { base := 0x400014, dims := [], words := 1, flds := [TLR_LAST_REF_code, TLR_LAST_REF_budget, TLR_LAST_REF_index, TLR_LAST_REF_record] }

/-- TLR_FLOW.rx_used [14:0]: Receive entries in use -/
def TLR_FLOW_rx_used : Fld := { no := 222, base := 0x400020, dims := [], lo := 0, w := 15, acc := .ro, reset := fun _ => 0 }

/-- TLR_FLOW.tx_used [30:16]: Transmit entries in use -/
def TLR_FLOW_tx_used : Fld := { no := 223, base := 0x400020, dims := [], lo := 16, w := 15, acc := .ro, reset := fun _ => 0 }

/-- The register TLR_FLOW. -/
def TLR_FLOW : RegD := { base := 0x400020, dims := [], words := 1, flds := [TLR_FLOW_rx_used, TLR_FLOW_tx_used] }

/-- TLR_FLOW_REF.rx_refused [15:0]: Receive flows refused, saturating -/
def TLR_FLOW_REF_rx_refused : Fld := { no := 224, base := 0x400024, dims := [], lo := 0, w := 16, acc := .rc, reset := fun _ => 0 }

/-- TLR_FLOW_REF.tx_refused [31:16]: Transmit flows refused, saturating -/
def TLR_FLOW_REF_tx_refused : Fld := { no := 225, base := 0x400024, dims := [], lo := 16, w := 16, acc := .rc, reset := fun _ => 0 }

/-- The register TLR_FLOW_REF. -/
def TLR_FLOW_REF : RegD := { base := 0x400024, dims := [], words := 1, flds := [TLR_FLOW_REF_rx_refused, TLR_FLOW_REF_tx_refused] }

/-- TLR_SLOTS.ssl_used [10:0]: Source slots in use -/
def TLR_SLOTS_ssl_used : Fld := { no := 226, base := 0x400028, dims := [], lo := 0, w := 11, acc := .ro, reset := fun _ => 0 }

/-- TLR_SLOTS.dsl_used [26:16]: Destination slots in use -/
def TLR_SLOTS_dsl_used : Fld := { no := 227, base := 0x400028, dims := [], lo := 16, w := 11, acc := .ro, reset := fun _ => 0 }

/-- The register TLR_SLOTS. -/
def TLR_SLOTS : RegD := { base := 0x400028, dims := [], words := 1, flds := [TLR_SLOTS_ssl_used, TLR_SLOTS_dsl_used] }

/-- TLR_GATHER.used [10:0]: Gather inputs in use -/
def TLR_GATHER_used : Fld := { no := 228, base := 0x40002c, dims := [], lo := 0, w := 11, acc := .ro, reset := fun _ => 0 }

/-- The register TLR_GATHER. -/
def TLR_GATHER : RegD := { base := 0x40002c, dims := [], words := 1, flds := [TLR_GATHER_used] }

/-- TLR_MIG.active [6:0]: Migrations in flight, 0 to 64 -/
def TLR_MIG_active : Fld := { no := 229, base := 0x400030, dims := [], lo := 0, w := 7, acc := .ro, reset := fun _ => 0 }

/-- TLR_MIG.waiting [27:16]: Migrations waiting for a slot, saturating -/
def TLR_MIG_waiting : Fld := { no := 230, base := 0x400030, dims := [], lo := 16, w := 12, acc := .ro, reset := fun _ => 0 }

/-- The register TLR_MIG. -/
def TLR_MIG : RegD := { base := 0x400030, dims := [], words := 1, flds := [TLR_MIG_active, TLR_MIG_waiting] }

/-- TLR_MIG_CNT.done [15:0]: Migrations completed, saturating -/
def TLR_MIG_CNT_done : Fld := { no := 231, base := 0x400034, dims := [], lo := 0, w := 16, acc := .rc, reset := fun _ => 0 }

/-- TLR_MIG_CNT.aborted [31:16]: Migrations aborted, saturating -/
def TLR_MIG_CNT_aborted : Fld := { no := 232, base := 0x400034, dims := [], lo := 16, w := 16, acc := .rc, reset := fun _ => 0 }

/-- The register TLR_MIG_CNT. -/
def TLR_MIG_CNT : RegD := { base := 0x400034, dims := [], words := 1, flds := [TLR_MIG_CNT_done, TLR_MIG_CNT_aborted] }

/-- TLR_UNPLACED.count [11:0]: Items currently unplaced -/
def TLR_UNPLACED_count : Fld := { no := 233, base := 0x400038, dims := [], lo := 0, w := 12, acc := .ro, reset := fun _ => 0 }

/-- The register TLR_UNPLACED. -/
def TLR_UNPLACED : RegD := { base := 0x400038, dims := [], words := 1, flds := [TLR_UNPLACED_count] }

/-- TLR_PIN.missed [15:0]: Soft pins not honoured, saturating -/
def TLR_PIN_missed : Fld := { no := 234, base := 0x40003c, dims := [], lo := 0, w := 16, acc := .rc, reset := fun _ => 0 }

/-- The register TLR_PIN. -/
def TLR_PIN : RegD := { base := 0x40003c, dims := [], words := 1, flds := [TLR_PIN_missed] }

/-- TLR_CFG.fixed_mask [11:0]: Bit n is 1 when DCHn is fixed-delay -/
def TLR_CFG_fixed_mask : Fld := { no := 235, base := 0x400040, dims := [], lo := 0, w := 12, acc := .ro, reset := fun _ => 0 }

/-- TLR_CFG.conv_pool [31:16]: Bit n is 1 when QHn is in the conversion pool -/
def TLR_CFG_conv_pool : Fld := { no := 236, base := 0x400040, dims := [], lo := 16, w := 16, acc := .ro, reset := fun _ => 0 }

/-- The register TLR_CFG. -/
def TLR_CFG : RegD := { base := 0x400040, dims := [], words := 1, flds := [TLR_CFG_fixed_mask, TLR_CFG_conv_pool] }

/-- TLR_INK.cap [15:0]: Bandwidth capacity (R161) -/
def TLR_INK_cap : Fld := { no := 237, base := 0x400100, dims := [(0x10, 12)], lo := 0, w := 16, acc := .ro, reset := fun _ => 0 }

/-- TLR_INK.charged [31:16]: Bandwidth charged -/
def TLR_INK_charged : Fld := { no := 238, base := 0x400100, dims := [(0x10, 12)], lo := 16, w := 16, acc := .ro, reset := fun _ => 0 }

/-- TLR_INK.mem_mib [47:32]: Capacity charged, in MiB -/
def TLR_INK_mem_mib : Fld := { no := 239, base := 0x400100, dims := [(0x10, 12)], lo := 32, w := 16, acc := .ro, reset := fun _ => 0 }

/-- TLR_INK.surfaces [63:48]: Surfaces placed -/
def TLR_INK_surfaces : Fld := { no := 240, base := 0x400100, dims := [(0x10, 12)], lo := 48, w := 16, acc := .ro, reset := fun _ => 0 }

/-- TLR_INK.fixed [64]: Fixed-delay channel -/
def TLR_INK_fixed : Fld := { no := 241, base := 0x400100, dims := [(0x10, 12)], lo := 64, w := 1, acc := .ro, reset := fun _ => 0 }

/-- TLR_INK.usable [65]: Usable under R149 -/
def TLR_INK_usable : Fld := { no := 242, base := 0x400100, dims := [(0x10, 12)], lo := 65, w := 1, acc := .ro, reset := fun _ => 0 }

/-- TLR_INK.migrating [66]: A migration involves the channel -/
def TLR_INK_migrating : Fld := { no := 243, base := 0x400100, dims := [(0x10, 12)], lo := 66, w := 1, acc := .ro, reset := fun _ => 0 }

/-- The register TLR_INK. -/
def TLR_INK : RegD := { base := 0x400100, dims := [(0x10, 12)], words := 3, flds := [TLR_INK_cap, TLR_INK_charged, TLR_INK_mem_mib, TLR_INK_surfaces, TLR_INK_fixed, TLR_INK_usable, TLR_INK_migrating] }

/-- TLR_SCL.charged [10:0]: Pixel rate charged, in Mpixel/s -/
def TLR_SCL_charged : Fld := { no := 244, base := 0x400200, dims := [(0x4, 64)], lo := 0, w := 11, acc := .ro, reset := fun _ => 0 }

/-- TLR_SCL.head [19:16]: Head served -/
def TLR_SCL_head : Fld := { no := 245, base := 0x400200, dims := [(0x4, 64)], lo := 16, w := 4, acc := .ro, reset := fun _ => 0 }

/-- TLR_SCL.layers [26:20]: Layers placed, 0 to 64 -/
def TLR_SCL_layers : Fld := { no := 246, base := 0x400200, dims := [(0x4, 64)], lo := 20, w := 7, acc := .ro, reset := fun _ => 0 }

/-- TLR_SCL.conv [31]: Serves a conversion head -/
def TLR_SCL_conv : Fld := { no := 247, base := 0x400200, dims := [(0x4, 64)], lo := 31, w := 1, acc := .ro, reset := fun _ => 0 }

/-- The register TLR_SCL. -/
def TLR_SCL : RegD := { base := 0x400200, dims := [(0x4, 64)], words := 1, flds := [TLR_SCL_charged, TLR_SCL_head, TLR_SCL_layers, TLR_SCL_conv] }

/-- TLR_SEA.cap [15:0]: Capacity (R160) -/
def TLR_SEA_cap : Fld := { no := 248, base := 0x400300, dims := [(0x4, 24)], lo := 0, w := 16, acc := .ro, reset := fun _ => 0 }

/-- TLR_SEA.charged [31:16]: Charged -/
def TLR_SEA_charged : Fld := { no := 249, base := 0x400300, dims := [(0x4, 24)], lo := 16, w := 16, acc := .ro, reset := fun _ => 0 }

/-- The register TLR_SEA. -/
def TLR_SEA : RegD := { base := 0x400300, dims := [(0x4, 24)], words := 1, flds := [TLR_SEA_cap, TLR_SEA_charged] }

/-- TLR_MAC.cap [15:0]: Capacity (R160) -/
def TLR_MAC_cap : Fld := { no := 250, base := 0x400400, dims := [(0x4, 48)], lo := 0, w := 16, acc := .ro, reset := fun _ => 0 }

/-- TLR_MAC.charged [31:16]: Charged -/
def TLR_MAC_charged : Fld := { no := 251, base := 0x400400, dims := [(0x4, 48)], lo := 16, w := 16, acc := .ro, reset := fun _ => 0 }

/-- The register TLR_MAC. -/
def TLR_MAC : RegD := { base := 0x400400, dims := [(0x4, 48)], words := 1, flds := [TLR_MAC_cap, TLR_MAC_charged] }

/-- TLR_DST_MAP.sync [0]: Frame synchroniser inserted -/
def TLR_DST_MAP_sync : Fld := { no := 252, base := 0x410000, dims := [(0x10, 1536)], lo := 0, w := 1, acc := .ro, reset := fun _ => 0 }

/-- TLR_DST_MAP.conv [1]: Conversion head inserted -/
def TLR_DST_MAP_conv : Fld := { no := 253, base := 0x410000, dims := [(0x10, 1536)], lo := 1, w := 1, acc := .ro, reset := fun _ => 0 }

/-- TLR_DST_MAP.conv_head [7:4]: Lowest head of the conversion -/
def TLR_DST_MAP_conv_head : Fld := { no := 254, base := 0x410000, dims := [(0x10, 1536)], lo := 4, w := 4, acc := .ro, reset := fun _ => 0 }

/-- TLR_DST_MAP.spine [10:8]: Spine of a fabric path -/
def TLR_DST_MAP_spine : Fld := { no := 255, base := 0x410000, dims := [(0x10, 1536)], lo := 8, w := 3, acc := .ro, reset := fun _ => 0 }

/-- TLR_DST_MAP.spine_valid [11]: The path crosses the fabric -/
def TLR_DST_MAP_spine_valid : Fld := { no := 256, base := 0x410000, dims := [(0x10, 1536)], lo := 11, w := 1, acc := .ro, reset := fun _ => 0 }

/-- TLR_DST_MAP.priority [13:12]: Evacuation priority (R167) -/
def TLR_DST_MAP_priority : Fld := { no := 257, base := 0x410000, dims := [(0x10, 1536)], lo := 12, w := 2, acc := .ro, reset := fun _ => 2 }

/-- TLR_DST_MAP.unplaced [14]: Unplaced (R168) -/
def TLR_DST_MAP_unplaced : Fld := { no := 258, base := 0x410000, dims := [(0x10, 1536)], lo := 14, w := 1, acc := .ro, reset := fun _ => 0 }

/-- TLR_DST_MAP.pinned_miss [15]: A soft pin was not honoured -/
def TLR_DST_MAP_pinned_miss : Fld := { no := 259, base := 0x410000, dims := [(0x10, 1536)], lo := 15, w := 1, acc := .ro, reset := fun _ => 0 }

/-- TLR_DST_MAP.ink_ch [19:16]: Channel of the surface read by this destination -/
def TLR_DST_MAP_ink_ch : Fld := { no := 260, base := 0x410000, dims := [(0x10, 1536)], lo := 16, w := 4, acc := .ro, reset := fun _ => 0 }

/-- TLR_DST_MAP.ink_bank [23:20]: Bank group of that surface -/
def TLR_DST_MAP_ink_bank : Fld := { no := 261, base := 0x410000, dims := [(0x10, 1536)], lo := 20, w := 4, acc := .ro, reset := fun _ => 0 }

/-- TLR_DST_MAP.hold_ch [27:24]: Channel of the hold-store surface -/
def TLR_DST_MAP_hold_ch : Fld := { no := 262, base := 0x410000, dims := [(0x10, 1536)], lo := 24, w := 4, acc := .ro, reset := fun _ => 0 }

/-- TLR_DST_MAP.hold_valid [28]: A hold-store surface is placed -/
def TLR_DST_MAP_hold_valid : Fld := { no := 263, base := 0x410000, dims := [(0x10, 1536)], lo := 28, w := 1, acc := .ro, reset := fun _ => 0 }

/-- TLR_DST_MAP.tx_count [35:32]: Transmit entries used, 0 to 10: one -20 or ST 2022-6 entry, one -40 entry and up to eight audio entries (R265) -/
def TLR_DST_MAP_tx_count : Fld := { no := 264, base := 0x410000, dims := [(0x10, 1536)], lo := 32, w := 4, acc := .ro, reset := fun _ => 0 }

/-- TLR_DST_MAP.tx_entry [49:36]: First transmit-flow entry. The entries lie on consecutive indices from here when R158 could place them so. Otherwise the transmit-entry window (R284) shows each entry with its dst -/
def TLR_DST_MAP_tx_entry : Fld := { no := 265, base := 0x410000, dims := [(0x10, 1536)], lo := 36, w := 14, acc := .ro, reset := fun _ => 0 }

/-- TLR_DST_MAP.rx_entry [63:50]: Receive entry of the source, if a flow -/
def TLR_DST_MAP_rx_entry : Fld := { no := 266, base := 0x410000, dims := [(0x10, 1536)], lo := 50, w := 14, acc := .ro, reset := fun _ => 0 }

/-- TLR_DST_MAP.epoch [127:64]: Epoch of the entry's last change -/
def TLR_DST_MAP_epoch : Fld := { no := 267, base := 0x410000, dims := [(0x10, 1536)], lo := 64, w := 64, acc := .ro, reset := fun _ => 0 }

/-- The register TLR_DST_MAP. -/
def TLR_DST_MAP : RegD := { base := 0x410000, dims := [(0x10, 1536)], words := 4, flds := [TLR_DST_MAP_sync, TLR_DST_MAP_conv, TLR_DST_MAP_conv_head, TLR_DST_MAP_spine, TLR_DST_MAP_spine_valid, TLR_DST_MAP_priority, TLR_DST_MAP_unplaced, TLR_DST_MAP_pinned_miss, TLR_DST_MAP_ink_ch, TLR_DST_MAP_ink_bank, TLR_DST_MAP_hold_ch, TLR_DST_MAP_hold_valid, TLR_DST_MAP_tx_count, TLR_DST_MAP_tx_entry, TLR_DST_MAP_rx_entry, TLR_DST_MAP_epoch] }

/-- TLR_LAYER.scaler [5:0]: Scaler SC00 to SC63 -/
def TLR_LAYER_scaler : Fld := { no := 268, base := 0x420000, dims := [(0x4, 512)], lo := 0, w := 6, acc := .ro, reset := fun _ => 0 }

/-- TLR_LAYER.proxy [9:8]: 0 full size, 1 ½, 2 ¼ -/
def TLR_LAYER_proxy : Fld := { no := 269, base := 0x420000, dims := [(0x4, 512)], lo := 8, w := 2, acc := .ro, reset := fun _ => 0 }

/-- TLR_LAYER.ink_ch [13:10]: Channel of the surface read -/
def TLR_LAYER_ink_ch : Fld := { no := 270, base := 0x420000, dims := [(0x4, 512)], lo := 10, w := 4, acc := .ro, reset := fun _ => 0 }

/-- TLR_LAYER.valid [15]: The layer is placed -/
def TLR_LAYER_valid : Fld := { no := 271, base := 0x420000, dims := [(0x4, 512)], lo := 15, w := 1, acc := .ro, reset := fun _ => 0 }

/-- TLR_LAYER.head [19:16]: Head of the layer -/
def TLR_LAYER_head : Fld := { no := 272, base := 0x420000, dims := [(0x4, 512)], lo := 16, w := 4, acc := .ro, reset := fun _ => 0 }

/-- TLR_LAYER.unplaced [20]: Unplaced (R168) -/
def TLR_LAYER_unplaced : Fld := { no := 273, base := 0x420000, dims := [(0x4, 512)], lo := 20, w := 1, acc := .ro, reset := fun _ => 0 }

/-- The register TLR_LAYER. -/
def TLR_LAYER : RegD := { base := 0x420000, dims := [(0x4, 512)], words := 1, flds := [TLR_LAYER_scaler, TLR_LAYER_proxy, TLR_LAYER_ink_ch, TLR_LAYER_valid, TLR_LAYER_head, TLR_LAYER_unplaced] }

/-- Every register of the TLR block. -/
def regsTlr : List RegD :=
  [TLR_STATUS, TLR_EPOCH, TLR_PLACE_TIME, TLR_LAST_REF, TLR_FLOW, TLR_FLOW_REF, TLR_SLOTS, TLR_GATHER, TLR_MIG, TLR_MIG_CNT, TLR_UNPLACED, TLR_PIN, TLR_CFG, TLR_INK, TLR_SCL, TLR_SEA, TLR_MAC, TLR_DST_MAP, TLR_LAYER]

/-! ### Serial lanes: the registers of R201 -/

/-- LNS_MODE.rx_mode [2:0]: Receive mode (R174); 6 and 7 fail the start check -/
def LNS_MODE_rx_mode : Fld := { no := 274, base := 0x800000, dims := [(0x1000, 192)], lo := 0, w := 3, acc := .rwp, reset := fun _ => 0 }

/-- LNS_MODE.tx_mode [6:4]: Transmit mode (R174); 6 and 7 fail the start check -/
def LNS_MODE_tx_mode : Fld := { no := 275, base := 0x800000, dims := [(0x1000, 192)], lo := 4, w := 3, acc := .rwp, reset := fun _ => 0 }

/-- LNS_MODE.rx_invert [8]: 1 inverts the receive polarity -/
def LNS_MODE_rx_invert : Fld := { no := 276, base := 0x800000, dims := [(0x1000, 192)], lo := 8, w := 1, acc := .rwp, reset := fun _ => 0 }

/-- LNS_MODE.tx_invert [9]: 1 inverts the transmit polarity -/
def LNS_MODE_tx_invert : Fld := { no := 277, base := 0x800000, dims := [(0x1000, 192)], lo := 9, w := 1, acc := .rwp, reset := fun _ => 0 }

/-- LNS_MODE.train_en [10]: 1 trains Ethernet and Seam transmitters (R190); 0 uses fixed taps (R191) -/
def LNS_MODE_train_en : Fld := { no := 278, base := 0x800000, dims := [(0x1000, 192)], lo := 10, w := 1, acc := .rwp, reset := fun _ => 1 }

/-- LNS_MODE.an_en [11]: 1 runs clause 73 auto-negotiation; used on the first lane of a port only -/
def LNS_MODE_an_en : Fld := { no := 279, base := 0x800000, dims := [(0x1000, 192)], lo := 11, w := 1, acc := .rwp, reset := fun _ => 0 }

/-- LNS_MODE.sdi_rates [21:16]: SDI rates hunted (R186): bit 16 0.27, 17 1.485, 18 2.97, 19 5.94, 20 11.88, 21 23.76 Gbit/s, each with its /1.001 rate -/
def LNS_MODE_sdi_rates : Fld := { no := 280, base := 0x800000, dims := [(0x1000, 192)], lo := 16, w := 6, acc := .rwp, reset := fun _ => 63 }

/-- The register LNS_MODE. -/
def LNS_MODE : RegD := { base := 0x800000, dims := [(0x1000, 192)], words := 1, flds := [LNS_MODE_rx_mode, LNS_MODE_tx_mode, LNS_MODE_rx_invert, LNS_MODE_tx_invert, LNS_MODE_train_en, LNS_MODE_an_en, LNS_MODE_sdi_rates] }

/-- LNS_STATUS.sig [0]: Signal detected (R185) -/
def LNS_STATUS_sig : Fld := { no := 281, base := 0x800004, dims := [(0x1000, 192)], lo := 0, w := 1, acc := .ro, reset := fun _ => 0 }

/-- LNS_STATUS.lock [1]: Receiver locked -/
def LNS_STATUS_lock : Fld := { no := 282, base := 0x800004, dims := [(0x1000, 192)], lo := 1, w := 1, acc := .ro, reset := fun _ => 0 }

/-- LNS_STATUS.tx_on [2]: Transmitter not at electrical idle -/
def LNS_STATUS_tx_on : Fld := { no := 283, base := 0x800004, dims := [(0x1000, 192)], lo := 2, w := 1, acc := .ro, reset := fun _ => 0 }

/-- LNS_STATUS.rate [6:4]: SDI rate acquired: 0 none, 1 0.27, 2 1.485, 3 2.97, 4 5.94, 5 11.88, 6 23.76 Gbit/s -/
def LNS_STATUS_rate : Fld := { no := 284, base := 0x800004, dims := [(0x1000, 192)], lo := 4, w := 3, acc := .ro, reset := fun _ => 0 }

/-- LNS_STATUS.div1001 [7]: The acquired SDI rate is the /1.001 rate -/
def LNS_STATUS_div1001 : Fld := { no := 285, base := 0x800004, dims := [(0x1000, 192)], lo := 7, w := 1, acc := .ro, reset := fun _ => 0 }

/-- LNS_STATUS.train [10:8]: 0 idle, 1 auto-negotiation, 2 training, 3 trained, 4 fixed taps, 5 failed and waiting to retry -/
def LNS_STATUS_train : Fld := { no := 286, base := 0x800004, dims := [(0x1000, 192)], lo := 8, w := 3, acc := .ro, reset := fun _ => 0 }

/-- LNS_STATUS.freq_oor [11]: Input frequency beyond ±100 ppm (R187) -/
def LNS_STATUS_freq_oor : Fld := { no := 287, base := 0x800004, dims := [(0x1000, 192)], lo := 11, w := 1, acc := .ro, reset := fun _ => 0 }

/-- The register LNS_STATUS. -/
def LNS_STATUS : RegD := { base := 0x800004, dims := [(0x1000, 192)], words := 1, flds := [LNS_STATUS_sig, LNS_STATUS_lock, LNS_STATUS_tx_on, LNS_STATUS_rate, LNS_STATUS_div1001, LNS_STATUS_train, LNS_STATUS_freq_oor] }

/-- LNS_STICKY.lol [0]: Lock was lost -/
def LNS_STICKY_lol : Fld := { no := 288, base := 0x800008, dims := [(0x1000, 192)], lo := 0, w := 1, acc := .w1c, reset := fun _ => 0 }

/-- LNS_STICKY.train_fail [1]: Training failed -/
def LNS_STICKY_train_fail : Fld := { no := 289, base := 0x800008, dims := [(0x1000, 192)], lo := 1, w := 1, acc := .w1c, reset := fun _ => 0 }

/-- LNS_STICKY.freq_oor [2]: Input frequency left ±100 ppm -/
def LNS_STICKY_freq_oor : Fld := { no := 290, base := 0x800008, dims := [(0x1000, 192)], lo := 2, w := 1, acc := .w1c, reset := fun _ => 0 }

/-- LNS_STICKY.eye_busy [3]: A scan start was ignored (R195) -/
def LNS_STICKY_eye_busy : Fld := { no := 291, base := 0x800008, dims := [(0x1000, 192)], lo := 3, w := 1, acc := .w1c, reset := fun _ => 0 }

/-- LNS_STICKY.eye_void [4]: A scan ended void (R196) -/
def LNS_STICKY_eye_void : Fld := { no := 292, base := 0x800008, dims := [(0x1000, 192)], lo := 4, w := 1, acc := .w1c, reset := fun _ => 0 }

/-- The register LNS_STICKY. -/
def LNS_STICKY : RegD := { base := 0x800008, dims := [(0x1000, 192)], words := 1, flds := [LNS_STICKY_lol, LNS_STICKY_train_fail, LNS_STICKY_freq_oor, LNS_STICKY_eye_busy, LNS_STICKY_eye_void] }

/-- LNS_CNT.lol_events [7:0]: Losses of lock, saturating at 255 -/
def LNS_CNT_lol_events : Fld := { no := 293, base := 0x80000c, dims := [(0x1000, 192)], lo := 0, w := 8, acc := .rc, reset := fun _ => 0 }

/-- LNS_CNT.train_fails [15:8]: Training failures, saturating at 255 -/
def LNS_CNT_train_fails : Fld := { no := 294, base := 0x80000c, dims := [(0x1000, 192)], lo := 8, w := 8, acc := .rc, reset := fun _ => 0 }

/-- The register LNS_CNT. -/
def LNS_CNT : RegD := { base := 0x80000c, dims := [(0x1000, 192)], words := 1, flds := [LNS_CNT_lol_events, LNS_CNT_train_fails] }

/-- LNS_SYMERR.corrected [47:0]: Symbols corrected by the lane's decoder (R197), saturating. Read under R11 -/
def LNS_SYMERR_corrected : Fld := { no := 295, base := 0x800010, dims := [(0x1000, 192)], lo := 0, w := 48, acc := .rc, reset := fun _ => 0 }

/-- The register LNS_SYMERR. -/
def LNS_SYMERR : RegD := { base := 0x800010, dims := [(0x1000, 192)], words := 2, flds := [LNS_SYMERR_corrected] }

/-- LNS_FREQ.freq [31:0]: Signed offset from nominal in units of 2^−40 (R187); 0 when not locked -/
def LNS_FREQ_freq : Fld := { no := 296, base := 0x800018, dims := [(0x1000, 192)], lo := 0, w := 32, acc := .ro, reset := fun _ => 0 }

/-- The register LNS_FREQ. -/
def LNS_FREQ : RegD := { base := 0x800018, dims := [(0x1000, 192)], words := 1, flds := [LNS_FREQ_freq] }

/-- LNS_TX_TAP.c_m3 [4:0]: c(−3), signed, −16 to 15 -/
def LNS_TX_TAP_c_m3 : Fld := { no := 297, base := 0x800020, dims := [(0x1000, 192)], lo := 0, w := 5, acc := .rwp, reset := fun _ => 0 }

/-- LNS_TX_TAP.c_m2 [9:5]: c(−2), signed, −16 to 15 -/
def LNS_TX_TAP_c_m2 : Fld := { no := 298, base := 0x800020, dims := [(0x1000, 192)], lo := 5, w := 5, acc := .rwp, reset := fun _ => 0 }

/-- LNS_TX_TAP.c_m1 [15:10]: c(−1), signed, −32 to 31 -/
def LNS_TX_TAP_c_m1 : Fld := { no := 299, base := 0x800020, dims := [(0x1000, 192)], lo := 10, w := 6, acc := .rwp, reset := fun _ => 0 }

/-- LNS_TX_TAP.c0 [23:16]: c(0), 1 to 128 -/
def LNS_TX_TAP_c0 : Fld := { no := 300, base := 0x800020, dims := [(0x1000, 192)], lo := 16, w := 8, acc := .rwp, reset := fun _ => 128, lim := some (1, 128) }

/-- LNS_TX_TAP.c_p1 [29:24]: c(+1), signed, −32 to 31 -/
def LNS_TX_TAP_c_p1 : Fld := { no := 301, base := 0x800020, dims := [(0x1000, 192)], lo := 24, w := 6, acc := .rwp, reset := fun _ => 0 }

/-- The register LNS_TX_TAP. -/
def LNS_TX_TAP : RegD := { base := 0x800020, dims := [(0x1000, 192)], words := 1, flds := [LNS_TX_TAP_c_m3, LNS_TX_TAP_c_m2, LNS_TX_TAP_c_m1, LNS_TX_TAP_c0, LNS_TX_TAP_c_p1] }

/-- LNS_TX_TAP_ACT.c_m3 [4:0]: c(−3), signed, −16 to 15 -/
def LNS_TX_TAP_ACT_c_m3 : Fld := { no := 302, base := 0x800024, dims := [(0x1000, 192)], lo := 0, w := 5, acc := .ro, reset := fun _ => 0 }

/-- LNS_TX_TAP_ACT.c_m2 [9:5]: c(−2), signed, −16 to 15 -/
def LNS_TX_TAP_ACT_c_m2 : Fld := { no := 303, base := 0x800024, dims := [(0x1000, 192)], lo := 5, w := 5, acc := .ro, reset := fun _ => 0 }

/-- LNS_TX_TAP_ACT.c_m1 [15:10]: c(−1), signed, −32 to 31 -/
def LNS_TX_TAP_ACT_c_m1 : Fld := { no := 304, base := 0x800024, dims := [(0x1000, 192)], lo := 10, w := 6, acc := .ro, reset := fun _ => 0 }

/-- LNS_TX_TAP_ACT.c0 [23:16]: c(0), 1 to 128 -/
def LNS_TX_TAP_ACT_c0 : Fld := { no := 305, base := 0x800024, dims := [(0x1000, 192)], lo := 16, w := 8, acc := .ro, reset := fun _ => 128 }

/-- LNS_TX_TAP_ACT.c_p1 [29:24]: c(+1), signed, −32 to 31 -/
def LNS_TX_TAP_ACT_c_p1 : Fld := { no := 306, base := 0x800024, dims := [(0x1000, 192)], lo := 24, w := 6, acc := .ro, reset := fun _ => 0 }

/-- The register LNS_TX_TAP_ACT. -/
def LNS_TX_TAP_ACT : RegD := { base := 0x800024, dims := [(0x1000, 192)], words := 1, flds := [LNS_TX_TAP_ACT_c_m3, LNS_TX_TAP_ACT_c_m2, LNS_TX_TAP_ACT_c_m1, LNS_TX_TAP_ACT_c0, LNS_TX_TAP_ACT_c_p1] }

/-- LNS_RX_EQ.ctle [4:0]: Equaliser code, 0 to 31 -/
def LNS_RX_EQ_ctle : Fld := { no := 307, base := 0x800028, dims := [(0x1000, 192)], lo := 0, w := 5, acc := .ro, reset := fun _ => 0 }

/-- LNS_RX_EQ.snr [15:8]: Signal-to-noise estimate in units of 0.1 dB -/
def LNS_RX_EQ_snr : Fld := { no := 308, base := 0x800028, dims := [(0x1000, 192)], lo := 8, w := 8, acc := .ro, reset := fun _ => 0 }

/-- LNS_RX_EQ.dfe1 [23:16]: First decision-feedback tap, signed -/
def LNS_RX_EQ_dfe1 : Fld := { no := 309, base := 0x800028, dims := [(0x1000, 192)], lo := 16, w := 8, acc := .ro, reset := fun _ => 0 }

/-- The register LNS_RX_EQ. -/
def LNS_RX_EQ : RegD := { base := 0x800028, dims := [(0x1000, 192)], words := 1, flds := [LNS_RX_EQ_ctle, LNS_RX_EQ_snr, LNS_RX_EQ_dfe1] }

/-- LNS_EYE_CTRL.start [0]: 1 starts a scan (R195) -/
def LNS_EYE_CTRL_start : Fld := { no := 310, base := 0x800040, dims := [(0x1000, 192)], lo := 0, w := 1, acc := .wo, reset := fun _ => 0 }

/-- LNS_EYE_CTRL.mode [2:1]: 0 opening, 1 single point; 2 and 3 act as 0 -/
def LNS_EYE_CTRL_mode : Fld := { no := 311, base := 0x800040, dims := [(0x1000, 192)], lo := 1, w := 2, acc := .rw, reset := fun _ => 0 }

/-- LNS_EYE_CTRL.eye [5:4]: 0 middle, 1 upper, 2 lower; 3 acts as 0 (R194) -/
def LNS_EYE_CTRL_eye : Fld := { no := 312, base := 0x800040, dims := [(0x1000, 192)], lo := 4, w := 2, acc := .rw, reset := fun _ => 0 }

/-- LNS_EYE_CTRL.dwell [11:8]: Dwell of 2^(20 + dwell) bits -/
def LNS_EYE_CTRL_dwell : Fld := { no := 313, base := 0x800040, dims := [(0x1000, 192)], lo := 8, w := 4, acc := .rw, reset := fun _ => 0 }

/-- LNS_EYE_CTRL.phase [21:16]: Single-point phase offset, signed, in 1/64 UI -/
def LNS_EYE_CTRL_phase : Fld := { no := 314, base := 0x800040, dims := [(0x1000, 192)], lo := 16, w := 6, acc := .rw, reset := fun _ => 0 }

/-- LNS_EYE_CTRL.volt [30:24]: Single-point voltage offset, signed, −63 to 63 -/
def LNS_EYE_CTRL_volt : Fld := { no := 315, base := 0x800040, dims := [(0x1000, 192)], lo := 24, w := 7, acc := .rw, reset := fun _ => 0, lim := some (-63, 63) }

/-- The register LNS_EYE_CTRL. -/
def LNS_EYE_CTRL : RegD := { base := 0x800040, dims := [(0x1000, 192)], words := 1, flds := [LNS_EYE_CTRL_start, LNS_EYE_CTRL_mode, LNS_EYE_CTRL_eye, LNS_EYE_CTRL_dwell, LNS_EYE_CTRL_phase, LNS_EYE_CTRL_volt] }

/-- LNS_EYE_THR.err_max [31:0]: Largest count at which a point is open -/
def LNS_EYE_THR_err_max : Fld := { no := 316, base := 0x800044, dims := [(0x1000, 192)], lo := 0, w := 32, acc := .rw, reset := fun _ => 0 }

/-- The register LNS_EYE_THR. -/
def LNS_EYE_THR : RegD := { base := 0x800044, dims := [(0x1000, 192)], words := 1, flds := [LNS_EYE_THR_err_max] }

/-- LNS_EYE_RES.busy [0]: Scan in progress -/
def LNS_EYE_RES_busy : Fld := { no := 317, base := 0x800048, dims := [(0x1000, 192)], lo := 0, w := 1, acc := .ro, reset := fun _ => 0 }

/-- LNS_EYE_RES.done [1]: Scan ended; cleared by the next start -/
def LNS_EYE_RES_done : Fld := { no := 318, base := 0x800048, dims := [(0x1000, 192)], lo := 1, w := 1, acc := .ro, reset := fun _ => 0 }

/-- LNS_EYE_RES.void [2]: Scan ended void -/
def LNS_EYE_RES_void : Fld := { no := 319, base := 0x800048, dims := [(0x1000, 192)], lo := 2, w := 1, acc := .ro, reset := fun _ => 0 }

/-- LNS_EYE_RES.adapt_moved [3]: Adaptation changed a setting during the scan -/
def LNS_EYE_RES_adapt_moved : Fld := { no := 320, base := 0x800048, dims := [(0x1000, 192)], lo := 3, w := 1, acc := .ro, reset := fun _ => 0 }

/-- LNS_EYE_RES.void_cause [5:4]: 1 lock, 2 training, 3 octet stopped (R196) -/
def LNS_EYE_RES_void_cause : Fld := { no := 321, base := 0x800048, dims := [(0x1000, 192)], lo := 4, w := 2, acc := .ro, reset := fun _ => 0 }

/-- LNS_EYE_RES.h_open [15:8]: Open phase interval in 1/64 UI, 0 to 64 -/
def LNS_EYE_RES_h_open : Fld := { no := 322, base := 0x800048, dims := [(0x1000, 192)], lo := 8, w := 8, acc := .ro, reset := fun _ => 0 }

/-- LNS_EYE_RES.v_open [23:16]: Open voltage interval in steps, 0 to 127 -/
def LNS_EYE_RES_v_open : Fld := { no := 323, base := 0x800048, dims := [(0x1000, 192)], lo := 16, w := 8, acc := .ro, reset := fun _ => 0 }

/-- The register LNS_EYE_RES. -/
def LNS_EYE_RES : RegD := { base := 0x800048, dims := [(0x1000, 192)], words := 1, flds := [LNS_EYE_RES_busy, LNS_EYE_RES_done, LNS_EYE_RES_void, LNS_EYE_RES_adapt_moved, LNS_EYE_RES_void_cause, LNS_EYE_RES_h_open, LNS_EYE_RES_v_open] }

/-- LNS_EYE_ERR.errors [31:0]: Count at the measured or centre point, saturating -/
def LNS_EYE_ERR_errors : Fld := { no := 324, base := 0x80004c, dims := [(0x1000, 192)], lo := 0, w := 32, acc := .ro, reset := fun _ => 0 }

/-- The register LNS_EYE_ERR. -/
def LNS_EYE_ERR : RegD := { base := 0x80004c, dims := [(0x1000, 192)], words := 1, flds := [LNS_EYE_ERR_errors] }

/-- LNS_OCT_CTRL.en [0]: 1 requests start, 0 requests stop (R181) -/
def LNS_OCT_CTRL_en : Fld := { no := 325, base := 0x800800, dims := [(0x8000, 24)], lo := 0, w := 1, acc := .rw, reset := fun _ => 0 }

/-- The register LNS_OCT_CTRL. -/
def LNS_OCT_CTRL : RegD := { base := 0x800800, dims := [(0x8000, 24)], words := 1, flds := [LNS_OCT_CTRL_en] }

/-- LNS_OCT_STATUS.state [2:0]: 0 STOPPED, 1 STARTING, 2 RUNNING, 3 STOPPING, 4 FAILED -/
def LNS_OCT_STATUS_state : Fld := { no := 326, base := 0x800804, dims := [(0x8000, 24)], lo := 0, w := 3, acc := .ro, reset := fun _ => 0 }

/-- LNS_OCT_STATUS.q0a_lock [4]: Quad 0 synthesiser A locked -/
def LNS_OCT_STATUS_q0a_lock : Fld := { no := 327, base := 0x800804, dims := [(0x8000, 24)], lo := 4, w := 1, acc := .ro, reset := fun _ => 0 }

/-- LNS_OCT_STATUS.q0b_lock [5]: Quad 0 synthesiser B locked -/
def LNS_OCT_STATUS_q0b_lock : Fld := { no := 328, base := 0x800804, dims := [(0x8000, 24)], lo := 5, w := 1, acc := .ro, reset := fun _ => 0 }

/-- LNS_OCT_STATUS.q1a_lock [6]: Quad 1 synthesiser A locked -/
def LNS_OCT_STATUS_q1a_lock : Fld := { no := 329, base := 0x800804, dims := [(0x8000, 24)], lo := 6, w := 1, acc := .ro, reset := fun _ => 0 }

/-- LNS_OCT_STATUS.q1b_lock [7]: Quad 1 synthesiser B locked -/
def LNS_OCT_STATUS_q1b_lock : Fld := { no := 330, base := 0x800804, dims := [(0x8000, 24)], lo := 7, w := 1, acc := .ro, reset := fun _ => 0 }

/-- LNS_OCT_STATUS.ref_present [8]: The octet's Ethernet lane reference is present -/
def LNS_OCT_STATUS_ref_present : Fld := { no := 331, base := 0x800804, dims := [(0x8000, 24)], lo := 8, w := 1, acc := .ro, reset := fun _ => 0 }

/-- LNS_OCT_STATUS.start_err [9]: A start request failed its check -/
def LNS_OCT_STATUS_start_err : Fld := { no := 332, base := 0x800804, dims := [(0x8000, 24)], lo := 9, w := 1, acc := .w1c, reset := fun _ => 0 }

/-- The register LNS_OCT_STATUS. -/
def LNS_OCT_STATUS : RegD := { base := 0x800804, dims := [(0x8000, 24)], words := 1, flds := [LNS_OCT_STATUS_state, LNS_OCT_STATUS_q0a_lock, LNS_OCT_STATUS_q0b_lock, LNS_OCT_STATUS_q1a_lock, LNS_OCT_STATUS_q1b_lock, LNS_OCT_STATUS_ref_present, LNS_OCT_STATUS_start_err] }

/-- LNS_OCT_SYNTH.q0a [2:0]: Source of quad 0 synthesiser A (R176); 6 and 7 fail the start check -/
def LNS_OCT_SYNTH_q0a : Fld := { no := 333, base := 0x800808, dims := [(0x8000, 24)], lo := 0, w := 3, acc := .rwp, reset := fun _ => 0 }

/-- LNS_OCT_SYNTH.q0b [6:4]: Source of quad 0 synthesiser B -/
def LNS_OCT_SYNTH_q0b : Fld := { no := 334, base := 0x800808, dims := [(0x8000, 24)], lo := 4, w := 3, acc := .rwp, reset := fun _ => 0 }

/-- LNS_OCT_SYNTH.q1a [10:8]: Source of quad 1 synthesiser A -/
def LNS_OCT_SYNTH_q1a : Fld := { no := 335, base := 0x800808, dims := [(0x8000, 24)], lo := 8, w := 3, acc := .rwp, reset := fun _ => 0 }

/-- LNS_OCT_SYNTH.q1b [14:12]: Source of quad 1 synthesiser B -/
def LNS_OCT_SYNTH_q1b : Fld := { no := 336, base := 0x800808, dims := [(0x8000, 24)], lo := 12, w := 3, acc := .rwp, reset := fun _ => 0 }

/-- The register LNS_OCT_SYNTH. -/
def LNS_OCT_SYNTH : RegD := { base := 0x800808, dims := [(0x8000, 24)], words := 1, flds := [LNS_OCT_SYNTH_q0a, LNS_OCT_SYNTH_q0b, LNS_OCT_SYNTH_q1a, LNS_OCT_SYNTH_q1b] }

/-- LNS_OCT_STICKY.synth_unlock [0]: A synthesiser in use lost lock (R199) -/
def LNS_OCT_STICKY_synth_unlock : Fld := { no := 337, base := 0x80080c, dims := [(0x8000, 24)], lo := 0, w := 1, acc := .w1c, reset := fun _ => 0 }

/-- LNS_OCT_STICKY.ref_lost [1]: The Ethernet lane reference was lost -/
def LNS_OCT_STICKY_ref_lost : Fld := { no := 338, base := 0x80080c, dims := [(0x8000, 24)], lo := 1, w := 1, acc := .w1c, reset := fun _ => 0 }

/-- LNS_OCT_STICKY.rej_write [2]: An RWP write to the octet or its lanes was rejected (R12) -/
def LNS_OCT_STICKY_rej_write : Fld := { no := 339, base := 0x80080c, dims := [(0x8000, 24)], lo := 2, w := 1, acc := .w1c, reset := fun _ => 0 }

/-- The register LNS_OCT_STICKY. -/
def LNS_OCT_STICKY : RegD := { base := 0x80080c, dims := [(0x8000, 24)], words := 1, flds := [LNS_OCT_STICKY_synth_unlock, LNS_OCT_STICKY_ref_lost, LNS_OCT_STICKY_rej_write] }

/-- Every register of the LNS block. -/
def regsLns : List RegD :=
  [LNS_MODE, LNS_STATUS, LNS_STICKY, LNS_CNT, LNS_SYMERR, LNS_FREQ, LNS_TX_TAP, LNS_TX_TAP_ACT, LNS_RX_EQ, LNS_EYE_CTRL, LNS_EYE_THR, LNS_EYE_RES, LNS_EYE_ERR, LNS_OCT_CTRL, LNS_OCT_STATUS, LNS_OCT_SYNTH, LNS_OCT_STICKY]

/-! ### MACs: the registers of R242 -/

/-- MAC_CTRL.en [0]: 1 requests start, 0 requests stop (R224) -/
def MAC_CTRL_en : Fld := { no := 340, base := 0x1000000, dims := [(0x1000, 48)], lo := 0, w := 1, acc := .rw, reset := fun _ => 0 }

/-- The register MAC_CTRL. -/
def MAC_CTRL : RegD := { base := 0x1000000, dims := [(0x1000, 48)], words := 1, flds := [MAC_CTRL_en] }

/-- MAC_STATUS.state [2:0]: 0 STOPPED, 1 STARTING, 2 RUNNING, 3 STOPPING, 4 FAILED -/
def MAC_STATUS_state : Fld := { no := 341, base := 0x1000004, dims := [(0x1000, 48)], lo := 0, w := 3, acc := .ro, reset := fun _ => 0 }

/-- MAC_STATUS.link [4]: Link up (R225) -/
def MAC_STATUS_link : Fld := { no := 342, base := 0x1000004, dims := [(0x1000, 48)], lo := 4, w := 1, acc := .ro, reset := fun _ => 0 }

/-- MAC_STATUS.pcs_aligned [5]: PCS block lock and, for multi-lane ports, alignment -/
def MAC_STATUS_pcs_aligned : Fld := { no := 343, base := 0x1000004, dims := [(0x1000, 48)], lo := 5, w := 1, acc := .ro, reset := fun _ => 0 }

/-- MAC_STATUS.fec_lock [6]: FEC locked; 0 when no FEC is used -/
def MAC_STATUS_fec_lock : Fld := { no := 344, base := 0x1000004, dims := [(0x1000, 48)], lo := 6, w := 1, acc := .ro, reset := fun _ => 0 }

/-- MAC_STATUS.paused [7]: A pause is in force (R235) -/
def MAC_STATUS_paused : Fld := { no := 345, base := 0x1000004, dims := [(0x1000, 48)], lo := 7, w := 1, acc := .ro, reset := fun _ => 0 }

/-- MAC_STATUS.rx_rfault [8]: Remote fault ordered sets are being received -/
def MAC_STATUS_rx_rfault : Fld := { no := 346, base := 0x1000004, dims := [(0x1000, 48)], lo := 8, w := 1, acc := .ro, reset := fun _ => 0 }

/-- MAC_STATUS.ts_level [22:16]: Transmit timestamp entries occupied, 0 to 64 -/
def MAC_STATUS_ts_level : Fld := { no := 347, base := 0x1000004, dims := [(0x1000, 48)], lo := 16, w := 7, acc := .ro, reset := fun _ => 0 }

/-- MAC_STATUS.fw_q_level [31:24]: Frames waiting in the firmware receive queue, 0 to 64 -/
def MAC_STATUS_fw_q_level : Fld := { no := 348, base := 0x1000004, dims := [(0x1000, 48)], lo := 24, w := 8, acc := .ro, reset := fun _ => 0 }

/-- The register MAC_STATUS. -/
def MAC_STATUS : RegD := { base := 0x1000004, dims := [(0x1000, 48)], words := 1, flds := [MAC_STATUS_state, MAC_STATUS_link, MAC_STATUS_pcs_aligned, MAC_STATUS_fec_lock, MAC_STATUS_paused, MAC_STATUS_rx_rfault, MAC_STATUS_ts_level, MAC_STATUS_fw_q_level] }

/-- MAC_CFG.speed [2:0]: 0 25GbE, 1 50GbE, 2 100GbE, 3 200GbE, 4 400GbE; 5 to 7 fail the start check -/
def MAC_CFG_speed : Fld := { no := 349, base := 0x1000008, dims := [(0x1000, 48)], lo := 0, w := 3, acc := .rwp, reset := fun _ => 0 }

/-- MAC_CFG.lanes [5:4]: 0 one lane, 1 two lanes, 2 four lanes; 3 fails the start check -/
def MAC_CFG_lanes : Fld := { no := 350, base := 0x1000008, dims := [(0x1000, 48)], lo := 4, w := 2, acc := .rwp, reset := fun _ => 0 }

/-- MAC_CFG.fec [8]: For 25GbE: 0 none, 1 RS(528,514). For other speeds, RS(544,514) is always used and the field is ignored -/
def MAC_CFG_fec : Fld := { no := 351, base := 0x1000008, dims := [(0x1000, 48)], lo := 8, w := 1, acc := .rwp, reset := fun _ => 0 }

/-- MAC_CFG.max_frame [29:16]: Maximum frame length in bytes, 1,518 to 9,600 (R227) -/
def MAC_CFG_max_frame : Fld := { no := 352, base := 0x1000008, dims := [(0x1000, 48)], lo := 16, w := 14, acc := .rwp, reset := fun _ => 1522, lim := some (1518, 9600) }

/-- The register MAC_CFG. -/
def MAC_CFG : RegD := { base := 0x1000008, dims := [(0x1000, 48)], words := 1, flds := [MAC_CFG_speed, MAC_CFG_lanes, MAC_CFG_fec, MAC_CFG_max_frame] }

/-- MAC_ADDR.addr [47:0]: MAC address. The first octet on the wire is in [47:40]. Written under R11 -/
def MAC_ADDR_addr : Fld := { no := 353, base := 0x100000c, dims := [(0x1000, 48)], lo := 0, w := 48, acc := .rwp, reset := fun _ => 0 }

/-- The register MAC_ADDR. -/
def MAC_ADDR : RegD := { base := 0x100000c, dims := [(0x1000, 48)], words := 2, flds := [MAC_ADDR_addr] }

/-- MAC_PAUSE.pause_en [0]: 1 honours received pause frames (R235) -/
def MAC_PAUSE_pause_en : Fld := { no := 354, base := 0x1000014, dims := [(0x1000, 48)], lo := 0, w := 1, acc := .rw, reset := fun _ => 1 }

/-- MAC_PAUSE.quanta_left [31:16]: Quanta remaining in the pause in force, rounded up -/
def MAC_PAUSE_quanta_left : Fld := { no := 355, base := 0x1000014, dims := [(0x1000, 48)], lo := 16, w := 16, acc := .ro, reset := fun _ => 0 }

/-- The register MAC_PAUSE. -/
def MAC_PAUSE : RegD := { base := 0x1000014, dims := [(0x1000, 48)], words := 1, flds := [MAC_PAUSE_pause_en, MAC_PAUSE_quanta_left] }

/-- MAC_TS_ADJ.tx_adj [15:0]: Signed nib added to transmit timestamps (R240) -/
def MAC_TS_ADJ_tx_adj : Fld := { no := 356, base := 0x1000018, dims := [(0x1000, 48)], lo := 0, w := 16, acc := .rw, reset := fun _ => 0 }

/-- MAC_TS_ADJ.rx_adj [31:16]: Signed nib added to receive timestamps -/
def MAC_TS_ADJ_rx_adj : Fld := { no := 357, base := 0x1000018, dims := [(0x1000, 48)], lo := 16, w := 16, acc := .rw, reset := fun _ => 0 }

/-- The register MAC_TS_ADJ. -/
def MAC_TS_ADJ : RegD := { base := 0x1000018, dims := [(0x1000, 48)], words := 1, flds := [MAC_TS_ADJ_tx_adj, MAC_TS_ADJ_rx_adj] }

/-- MAC_STICKY.link_down [0]: The link went down (R226) -/
def MAC_STICKY_link_down : Fld := { no := 358, base := 0x1000020, dims := [(0x1000, 48)], lo := 0, w := 1, acc := .w1c, reset := fun _ => 0 }

/-- MAC_STICKY.pause_ovf [1]: The media queue dropped a frame during a pause (R236) -/
def MAC_STICKY_pause_ovf : Fld := { no := 359, base := 0x1000020, dims := [(0x1000, 48)], lo := 1, w := 1, acc := .w1c, reset := fun _ => 0 }

/-- MAC_STICKY.ts_ovf [2]: A transmit timestamp was lost (R239) -/
def MAC_STICKY_ts_ovf : Fld := { no := 360, base := 0x1000020, dims := [(0x1000, 48)], lo := 2, w := 1, acc := .w1c, reset := fun _ => 0 }

/-- MAC_STICKY.pause_seen [3]: A pause frame was received -/
def MAC_STICKY_pause_seen : Fld := { no := 361, base := 0x1000020, dims := [(0x1000, 48)], lo := 3, w := 1, acc := .w1c, reset := fun _ => 0 }

/-- MAC_STICKY.rej_write [4]: An RWP write was rejected (R12) -/
def MAC_STICKY_rej_write : Fld := { no := 362, base := 0x1000020, dims := [(0x1000, 48)], lo := 4, w := 1, acc := .w1c, reset := fun _ => 0 }

/-- MAC_STICKY.start_err [5]: A start request failed its check (R224) -/
def MAC_STICKY_start_err : Fld := { no := 363, base := 0x1000020, dims := [(0x1000, 48)], lo := 5, w := 1, acc := .w1c, reset := fun _ => 0 }

/-- The register MAC_STICKY. -/
def MAC_STICKY : RegD := { base := 0x1000020, dims := [(0x1000, 48)], words := 1, flds := [MAC_STICKY_link_down, MAC_STICKY_pause_ovf, MAC_STICKY_ts_ovf, MAC_STICKY_pause_seen, MAC_STICKY_rej_write, MAC_STICKY_start_err] }

/-- MAC_CNT0.fcs_err [7:0]: Frames dropped for FCS or coding errors -/
def MAC_CNT0_fcs_err : Fld := { no := 364, base := 0x1000024, dims := [(0x1000, 48)], lo := 0, w := 8, acc := .rc, reset := fun _ => 0 }

/-- MAC_CNT0.runt [15:8]: Frames dropped below 64 bytes -/
def MAC_CNT0_runt : Fld := { no := 365, base := 0x1000024, dims := [(0x1000, 48)], lo := 8, w := 8, acc := .rc, reset := fun _ => 0 }

/-- MAC_CNT0.oversize [23:16]: Frames dropped above max_frame -/
def MAC_CNT0_oversize : Fld := { no := 366, base := 0x1000024, dims := [(0x1000, 48)], lo := 16, w := 8, acc := .rc, reset := fun _ => 0 }

/-- MAC_CNT0.pause_rx [31:24]: Pause frames received -/
def MAC_CNT0_pause_rx : Fld := { no := 367, base := 0x1000024, dims := [(0x1000, 48)], lo := 24, w := 8, acc := .rc, reset := fun _ => 0 }

/-- The register MAC_CNT0. -/
def MAC_CNT0 : RegD := { base := 0x1000024, dims := [(0x1000, 48)], words := 1, flds := [MAC_CNT0_fcs_err, MAC_CNT0_runt, MAC_CNT0_oversize, MAC_CNT0_pause_rx] }

/-- MAC_CNT1.unknown_flow [7:0]: Frames that no consumer took -/
def MAC_CNT1_unknown_flow : Fld := { no := 368, base := 0x1000028, dims := [(0x1000, 48)], lo := 0, w := 8, acc := .rc, reset := fun _ => 0 }

/-- MAC_CNT1.ts_lost [15:8]: Transmit timestamps not recorded -/
def MAC_CNT1_ts_lost : Fld := { no := 369, base := 0x1000028, dims := [(0x1000, 48)], lo := 8, w := 8, acc := .rc, reset := fun _ => 0 }

/-- MAC_CNT1.link_downs [23:16]: Link losses counted under R226 -/
def MAC_CNT1_link_downs : Fld := { no := 370, base := 0x1000028, dims := [(0x1000, 48)], lo := 16, w := 8, acc := .rc, reset := fun _ => 0 }

/-- The register MAC_CNT1. -/
def MAC_CNT1 : RegD := { base := 0x1000028, dims := [(0x1000, 48)], words := 1, flds := [MAC_CNT1_unknown_flow, MAC_CNT1_ts_lost, MAC_CNT1_link_downs] }

/-- MAC_TXQ.level_kib [9:0]: Media queue occupancy in KiB, rounded up, 0 to 512 -/
def MAC_TXQ_level_kib : Fld := { no := 371, base := 0x1000030, dims := [(0x1000, 48)], lo := 0, w := 10, acc := .ro, reset := fun _ => 0 }

/-- MAC_TXQ.high_kib [25:16]: Largest occupancy since the last read, in KiB -/
def MAC_TXQ_high_kib : Fld := { no := 372, base := 0x1000030, dims := [(0x1000, 48)], lo := 16, w := 10, acc := .rc, reset := fun _ => 0 }

/-- The register MAC_TXQ. -/
def MAC_TXQ : RegD := { base := 0x1000030, dims := [(0x1000, 48)], words := 1, flds := [MAC_TXQ_level_kib, MAC_TXQ_high_kib] }

/-- Every register of the MAC block. -/
def regsMac : List RegD :=
  [MAC_CTRL, MAC_STATUS, MAC_CFG, MAC_ADDR, MAC_PAUSE, MAC_TS_ADJ, MAC_STICKY, MAC_CNT0, MAC_CNT1, MAC_TXQ]

/-! ### Media flows: the registers of R281 to R285 -/

/-- FLW_STATUS.flow_lost [0]: A receive flow was lost -/
def FLW_STATUS_flow_lost : Fld := { no := 373, base := 0x1100000, dims := [], lo := 0, w := 1, acc := .w1c, reset := fun _ => 0 }

/-- FLW_STATUS.leg_lost [1]: A leg was lost -/
def FLW_STATUS_leg_lost : Fld := { no := 374, base := 0x1100000, dims := [], lo := 1, w := 1, acc := .w1c, reset := fun _ => 0 }

/-- FLW_STATUS.late [2]: A late packet was discarded -/
def FLW_STATUS_late : Fld := { no := 375, base := 0x1100000, dims := [], lo := 2, w := 1, acc := .w1c, reset := fun _ => 0 }

/-- FLW_STATUS.early [3]: An early packet was discarded -/
def FLW_STATUS_early : Fld := { no := 376, base := 0x1100000, dims := [], lo := 3, w := 1, acc := .w1c, reset := fun _ => 0 }

/-- FLW_STATUS.recentre [4]: A flow re-centred -/
def FLW_STATUS_recentre : Fld := { no := 377, base := 0x1100000, dims := [], lo := 4, w := 1, acc := .w1c, reset := fun _ => 0 }

/-- FLW_STATUS.ssrc [5]: A packet was discarded for its SSRC -/
def FLW_STATUS_ssrc : Fld := { no := 378, base := 0x1100000, dims := [], lo := 5, w := 1, acc := .w1c, reset := fun _ => 0 }

/-- FLW_STATUS.content [6]: FS0149 fired -/
def FLW_STATUS_content : Fld := { no := 379, base := 0x1100000, dims := [], lo := 6, w := 1, acc := .w1c, reset := fun _ => 0 }

/-- The register FLW_STATUS. -/
def FLW_STATUS : RegD := { base := 0x1100000, dims := [], words := 1, flds := [FLW_STATUS_flow_lost, FLW_STATUS_leg_lost, FLW_STATUS_late, FLW_STATUS_early, FLW_STATUS_recentre, FLW_STATUS_ssrc, FLW_STATUS_content] }

/-- FLW_LOSS_CNT.flows [15:0]: Flow losses, saturating -/
def FLW_LOSS_CNT_flows : Fld := { no := 380, base := 0x1100004, dims := [], lo := 0, w := 16, acc := .rc, reset := fun _ => 0 }

/-- FLW_LOSS_CNT.legs [31:16]: Leg losses, saturating -/
def FLW_LOSS_CNT_legs : Fld := { no := 381, base := 0x1100004, dims := [], lo := 16, w := 16, acc := .rc, reset := fun _ => 0 }

/-- The register FLW_LOSS_CNT. -/
def FLW_LOSS_CNT : RegD := { base := 0x1100004, dims := [], words := 1, flds := [FLW_LOSS_CNT_flows, FLW_LOSS_CNT_legs] }

/-- FLW_LAST.entry [13:0]: Receive entry of the latest loss -/
def FLW_LAST_entry : Fld := { no := 382, base := 0x1100008, dims := [], lo := 0, w := 14, acc := .ro, reset := fun _ => 0 }

/-- FLW_LAST.leg [15]: The latest loss was of leg 1 -/
def FLW_LAST_leg : Fld := { no := 383, base := 0x1100008, dims := [], lo := 15, w := 1, acc := .ro, reset := fun _ => 0 }

/-- The register FLW_LAST. -/
def FLW_LAST : RegD := { base := 0x1100008, dims := [], words := 1, flds := [FLW_LAST_entry, FLW_LAST_leg] }

/-- FLW_MEMB.groups [15:0]: Groups joined, over all MACs -/
def FLW_MEMB_groups : Fld := { no := 384, base := 0x1100010, dims := [], lo := 0, w := 16, acc := .ro, reset := fun _ => 0 }

/-- FLW_MEMB.reports [31:16]: Reports sent, saturating -/
def FLW_MEMB_reports : Fld := { no := 385, base := 0x1100010, dims := [], lo := 16, w := 16, acc := .rc, reset := fun _ => 0 }

/-- The register FLW_MEMB. -/
def FLW_MEMB : RegD := { base := 0x1100010, dims := [], words := 1, flds := [FLW_MEMB_groups, FLW_MEMB_reports] }

/-- FLW_IGMP.robustness [3:0]: Robustness from the Pattern -/
def FLW_IGMP_robustness : Fld := { no := 386, base := 0x1100014, dims := [], lo := 0, w := 4, acc := .ro, reset := fun _ => 2 }

/-- FLW_IGMP.interval_s [15:8]: Unsolicited report interval in s -/
def FLW_IGMP_interval_s : Fld := { no := 387, base := 0x1100014, dims := [], lo := 8, w := 8, acc := .ro, reset := fun _ => 1 }

/-- The register FLW_IGMP. -/
def FLW_IGMP : RegD := { base := 0x1100014, dims := [], words := 1, flds := [FLW_IGMP_robustness, FLW_IGMP_interval_s] }

/-- FLW_POOL.share [15:0]: Pages given to MACm (R254) -/
def FLW_POOL_share : Fld := { no := 388, base := 0x1100100, dims := [(0x4, 48)], lo := 0, w := 16, acc := .ro, reset := fun _ => 0 }

/-- FLW_POOL.used [31:16]: Pages reserved by placed flows -/
def FLW_POOL_used : Fld := { no := 389, base := 0x1100100, dims := [(0x4, 48)], lo := 16, w := 16, acc := .ro, reset := fun _ => 0 }

/-- The register FLW_POOL. -/
def FLW_POOL : RegD := { base := 0x1100100, dims := [(0x4, 48)], words := 1, flds := [FLW_POOL_share, FLW_POOL_used] }

/-- FLW_RX.valid [0]: Placed -/
def FLW_RX_valid : Fld := { no := 390, base := 0x1200000, dims := [(0x40, 16384)], lo := 0, w := 1, acc := .ro, reset := fun _ => 0 }

/-- FLW_RX.kind [3:1]: 0 -20, 1 -30, 2 -31, 3 -40, 4 2022-6, 5 opaque, 6 control -/
def FLW_RX_kind : Fld := { no := 391, base := 0x1200000, dims := [(0x40, 16384)], lo := 1, w := 3, acc := .ro, reset := fun _ => 0 }

/-- FLW_RX.protected [4]: Two legs -/
def FLW_RX_protected : Fld := { no := 392, base := 0x1200000, dims := [(0x40, 16384)], lo := 4, w := 1, acc := .ro, reset := fun _ => 0 }

/-- FLW_RX.aligned [5]: Aligned (R253) -/
def FLW_RX_aligned : Fld := { no := 393, base := 0x1200000, dims := [(0x40, 16384)], lo := 5, w := 1, acc := .ro, reset := fun _ => 0 }

/-- FLW_RX.lost [6]: Lost (R263) -/
def FLW_RX_lost : Fld := { no := 394, base := 0x1200000, dims := [(0x40, 16384)], lo := 6, w := 1, acc := .ro, reset := fun _ => 0 }

/-- FLW_RX.leg0_ok [7]: Leg 0 present -/
def FLW_RX_leg0_ok : Fld := { no := 395, base := 0x1200000, dims := [(0x40, 16384)], lo := 7, w := 1, acc := .ro, reset := fun _ => 0 }

/-- FLW_RX.leg1_ok [8]: Leg 1 present -/
def FLW_RX_leg1_ok : Fld := { no := 396, base := 0x1200000, dims := [(0x40, 16384)], lo := 8, w := 1, acc := .ro, reset := fun _ => 0 }

/-- FLW_RX.rx_type [10:9]: 0 N, 1 NL, 2 W -/
def FLW_RX_rx_type : Fld := { no := 397, base := 0x1200000, dims := [(0x40, 16384)], lo := 9, w := 2, acc := .ro, reset := fun _ => 0 }

/-- FLW_RX.fam [15:12]: Family -/
def FLW_RX_fam : Fld := { no := 398, base := 0x1200000, dims := [(0x40, 16384)], lo := 12, w := 4, acc := .ro, reset := fun _ => 0 }

/-- FLW_RX.source [31:16]: Source number -/
def FLW_RX_source : Fld := { no := 399, base := 0x1200000, dims := [(0x40, 16384)], lo := 16, w := 16, acc := .ro, reset := fun _ => 0 }

/-- FLW_RX.ssrc [63:32]: Descriptor SSRC -/
def FLW_RX_ssrc : Fld := { no := 400, base := 0x1200000, dims := [(0x40, 16384)], lo := 32, w := 32, acc := .ro, reset := fun _ => 0 }

/-- FLW_RX.leg0_pkts [95:64]: Packets on leg 0 (R256) -/
def FLW_RX_leg0_pkts : Fld := { no := 401, base := 0x1200000, dims := [(0x40, 16384)], lo := 64, w := 32, acc := .ro, reset := fun _ => 0 }

/-- FLW_RX.leg1_pkts [127:96]: Packets on leg 1 -/
def FLW_RX_leg1_pkts : Fld := { no := 402, base := 0x1200000, dims := [(0x40, 16384)], lo := 96, w := 32, acc := .ro, reset := fun _ => 0 }

/-- FLW_RX.leg0_seq_err [159:128]: Sequence errors on leg 0 -/
def FLW_RX_leg0_seq_err : Fld := { no := 403, base := 0x1200000, dims := [(0x40, 16384)], lo := 128, w := 32, acc := .ro, reset := fun _ => 0 }

/-- FLW_RX.leg1_seq_err [191:160]: Sequence errors on leg 1 -/
def FLW_RX_leg1_seq_err : Fld := { no := 404, base := 0x1200000, dims := [(0x40, 16384)], lo := 160, w := 32, acc := .ro, reset := fun _ => 0 }

/-- FLW_RX.missing [223:192]: Packets no leg delivered (R257) -/
def FLW_RX_missing : Fld := { no := 405, base := 0x1200000, dims := [(0x40, 16384)], lo := 192, w := 32, acc := .ro, reset := fun _ => 0 }

/-- FLW_RX.late [255:224]: Late packets (R252) -/
def FLW_RX_late : Fld := { no := 406, base := 0x1200000, dims := [(0x40, 16384)], lo := 224, w := 32, acc := .ro, reset := fun _ => 0 }

/-- FLW_RX.discard [287:256]: Early, SSRC, malformed and dropped ANC packets -/
def FLW_RX_discard : Fld := { no := 407, base := 0x1200000, dims := [(0x40, 16384)], lo := 256, w := 32, acc := .ro, reset := fun _ => 0 }

/-- FLW_RX.dr [319:288]: Dr, dra or dr_op, in units of 40 nib, rounded up -/
def FLW_RX_dr : Fld := { no := 408, base := 0x1200000, dims := [(0x40, 16384)], lo := 288, w := 32, acc := .ro, reset := fun _ => 0 }

/-- FLW_RX.window [351:320]: Merge window in nib -/
def FLW_RX_window : Fld := { no := 409, base := 0x1200000, dims := [(0x40, 16384)], lo := 320, w := 32, acc := .ro, reset := fun _ => 0 }

/-- FLW_RX.e_o [383:352]: Signed e for picture, -40 and opaque flows; signed o for audio flows, in nib, saturating -/
def FLW_RX_e_o : Fld := { no := 410, base := 0x1200000, dims := [(0x40, 16384)], lo := 352, w := 32, acc := .ro, reset := fun _ => 0 }

/-- FLW_RX.leg0_bucket [399:384]: Bucket of leg 0 -/
def FLW_RX_leg0_bucket : Fld := { no := 411, base := 0x1200000, dims := [(0x40, 16384)], lo := 384, w := 16, acc := .ro, reset := fun _ => 0 }

/-- FLW_RX.leg0_way [401:400]: Way of leg 0 -/
def FLW_RX_leg0_way : Fld := { no := 412, base := 0x1200000, dims := [(0x40, 16384)], lo := 400, w := 2, acc := .ro, reset := fun _ => 0 }

/-- FLW_RX.leg0_mac [407:402]: MAC of leg 0 -/
def FLW_RX_leg0_mac : Fld := { no := 413, base := 0x1200000, dims := [(0x40, 16384)], lo := 402, w := 6, acc := .ro, reset := fun _ => 0 }

/-- FLW_RX.leg0_pass [409:408]: Lookup pass that serves leg 0 (R247), 1 to 3 -/
def FLW_RX_leg0_pass : Fld := { no := 414, base := 0x1200000, dims := [(0x40, 16384)], lo := 408, w := 2, acc := .ro, reset := fun _ => 0 }

/-- FLW_RX.leg1_bucket [431:416]: Bucket of leg 1 -/
def FLW_RX_leg1_bucket : Fld := { no := 415, base := 0x1200000, dims := [(0x40, 16384)], lo := 416, w := 16, acc := .ro, reset := fun _ => 0 }

/-- FLW_RX.leg1_way [433:432]: Way of leg 1 -/
def FLW_RX_leg1_way : Fld := { no := 416, base := 0x1200000, dims := [(0x40, 16384)], lo := 432, w := 2, acc := .ro, reset := fun _ => 0 }

/-- FLW_RX.leg1_mac [439:434]: MAC of leg 1 -/
def FLW_RX_leg1_mac : Fld := { no := 417, base := 0x1200000, dims := [(0x40, 16384)], lo := 434, w := 6, acc := .ro, reset := fun _ => 0 }

/-- FLW_RX.leg1_pass [441:440]: Lookup pass that serves leg 1 -/
def FLW_RX_leg1_pass : Fld := { no := 418, base := 0x1200000, dims := [(0x40, 16384)], lo := 440, w := 2, acc := .ro, reset := fun _ => 0 }

/-- FLW_RX.recentres [463:448]: Re-centres, wrapping modulo 2^16 -/
def FLW_RX_recentres : Fld := { no := 419, base := 0x1200000, dims := [(0x40, 16384)], lo := 448, w := 16, acc := .ro, reset := fun _ => 0 }

/-- The register FLW_RX. -/
def FLW_RX : RegD := { base := 0x1200000, dims := [(0x40, 16384)], words := 16, flds := [FLW_RX_valid, FLW_RX_kind, FLW_RX_protected, FLW_RX_aligned, FLW_RX_lost, FLW_RX_leg0_ok, FLW_RX_leg1_ok, FLW_RX_rx_type, FLW_RX_fam, FLW_RX_source, FLW_RX_ssrc, FLW_RX_leg0_pkts, FLW_RX_leg1_pkts, FLW_RX_leg0_seq_err, FLW_RX_leg1_seq_err, FLW_RX_missing, FLW_RX_late, FLW_RX_discard, FLW_RX_dr, FLW_RX_window, FLW_RX_e_o, FLW_RX_leg0_bucket, FLW_RX_leg0_way, FLW_RX_leg0_mac, FLW_RX_leg0_pass, FLW_RX_leg1_bucket, FLW_RX_leg1_way, FLW_RX_leg1_mac, FLW_RX_leg1_pass, FLW_RX_recentres] }

/-- FLW_TX.valid [0]: Placed -/
def FLW_TX_valid : Fld := { no := 420, base := 0x1300000, dims := [(0x40, 16384)], lo := 0, w := 1, acc := .ro, reset := fun _ => 0 }

/-- FLW_TX.kind [3:1]: 0 -20, 1 -30, 2 -31, 3 -40, 4 2022-6, 5 opaque -/
def FLW_TX_kind : Fld := { no := 421, base := 0x1300000, dims := [(0x40, 16384)], lo := 1, w := 3, acc := .ro, reset := fun _ => 0 }

/-- FLW_TX.protected [4]: Two legs -/
def FLW_TX_protected : Fld := { no := 422, base := 0x1300000, dims := [(0x40, 16384)], lo := 4, w := 1, acc := .ro, reset := fun _ => 0 }

/-- FLW_TX.sending [5]: Sending under R276 -/
def FLW_TX_sending : Fld := { no := 423, base := 0x1300000, dims := [(0x40, 16384)], lo := 5, w := 1, acc := .ro, reset := fun _ => 0 }

/-- FLW_TX.shaping [6]: 0 N, 1 W -/
def FLW_TX_shaping : Fld := { no := 424, base := 0x1300000, dims := [(0x40, 16384)], lo := 6, w := 1, acc := .ro, reset := fun _ => 0 }

/-- FLW_TX.pt [14:8]: RTP payload type -/
def FLW_TX_pt : Fld := { no := 425, base := 0x1300000, dims := [(0x40, 16384)], lo := 8, w := 7, acc := .ro, reset := fun _ => 0 }

/-- FLW_TX.dst [31:16]: Destination number -/
def FLW_TX_dst : Fld := { no := 426, base := 0x1300000, dims := [(0x40, 16384)], lo := 16, w := 16, acc := .ro, reset := fun _ => 0 }

/-- FLW_TX.ssrc [63:32]: SSRC -/
def FLW_TX_ssrc : Fld := { no := 427, base := 0x1300000, dims := [(0x40, 16384)], lo := 32, w := 32, acc := .ro, reset := fun _ => 0 }

/-- FLW_TX.leg0_pkts [95:64]: Packets offered on leg 0 -/
def FLW_TX_leg0_pkts : Fld := { no := 428, base := 0x1300000, dims := [(0x40, 16384)], lo := 64, w := 32, acc := .ro, reset := fun _ => 0 }

/-- FLW_TX.leg1_pkts [127:96]: Packets offered on leg 1 -/
def FLW_TX_leg1_pkts : Fld := { no := 429, base := 0x1300000, dims := [(0x40, 16384)], lo := 96, w := 32, acc := .ro, reset := fun _ => 0 }

/-- FLW_TX.leg0_drops [159:128]: Packets dropped on leg 0 (R236) -/
def FLW_TX_leg0_drops : Fld := { no := 430, base := 0x1300000, dims := [(0x40, 16384)], lo := 128, w := 32, acc := .ro, reset := fun _ => 0 }

/-- FLW_TX.leg1_drops [191:160]: Packets dropped on leg 1 -/
def FLW_TX_leg1_drops : Fld := { no := 431, base := 0x1300000, dims := [(0x40, 16384)], lo := 160, w := 32, acc := .ro, reset := fun _ => 0 }

/-- FLW_TX.seq [223:192]: Extended sequence number of the next packet -/
def FLW_TX_seq : Fld := { no := 432, base := 0x1300000, dims := [(0x40, 16384)], lo := 192, w := 32, acc := .ro, reset := fun _ => 0 }

/-- FLW_TX.ts [255:224]: RTP timestamp of the last packet -/
def FLW_TX_ts : Fld := { no := 433, base := 0x1300000, dims := [(0x40, 16384)], lo := 224, w := 32, acc := .ro, reset := fun _ => 0 }

/-- FLW_TX.tro [287:256]: TROFFSET, in units of 40 nib, rounded up (R269) -/
def FLW_TX_tro : Fld := { no := 434, base := 0x1300000, dims := [(0x40, 16384)], lo := 256, w := 32, acc := .ro, reset := fun _ => 0 }

/-- FLW_TX.leg0_mac [293:288]: MAC of leg 0 -/
def FLW_TX_leg0_mac : Fld := { no := 435, base := 0x1300000, dims := [(0x40, 16384)], lo := 288, w := 6, acc := .ro, reset := fun _ => 0 }

/-- FLW_TX.leg1_mac [301:296]: MAC of leg 1 -/
def FLW_TX_leg1_mac : Fld := { no := 436, base := 0x1300000, dims := [(0x40, 16384)], lo := 296, w := 6, acc := .ro, reset := fun _ => 0 }

/-- FLW_TX.pkts_line [319:304]: Packets per active line, n (R268) -/
def FLW_TX_pkts_line : Fld := { no := 437, base := 0x1300000, dims := [(0x40, 16384)], lo := 304, w := 16, acc := .ro, reset := fun _ => 0 }

/-- The register FLW_TX. -/
def FLW_TX : RegD := { base := 0x1300000, dims := [(0x40, 16384)], words := 16, flds := [FLW_TX_valid, FLW_TX_kind, FLW_TX_protected, FLW_TX_sending, FLW_TX_shaping, FLW_TX_pt, FLW_TX_dst, FLW_TX_ssrc, FLW_TX_leg0_pkts, FLW_TX_leg1_pkts, FLW_TX_leg0_drops, FLW_TX_leg1_drops, FLW_TX_seq, FLW_TX_ts, FLW_TX_tro, FLW_TX_leg0_mac, FLW_TX_leg1_mac, FLW_TX_pkts_line] }

/-- FLW_BKT.ways [63:0]: The four ways: way w in bits [16w + 15:16w], entry [13:0], leg [14], valid [15] (R285) -/
def FLW_BKT_ways : Fld := { no := 438, base := 0x1400000, dims := [(0x8, 65536)], lo := 0, w := 64, acc := .ro, reset := fun _ => 0 }

/-- The register FLW_BKT. -/
def FLW_BKT : RegD := { base := 0x1400000, dims := [(0x8, 65536)], words := 2, flds := [FLW_BKT_ways] }

/-- Every register of the FLW block. -/
def regsFlw : List RegD :=
  [FLW_STATUS, FLW_LOSS_CNT, FLW_LAST, FLW_MEMB, FLW_IGMP, FLW_POOL, FLW_RX, FLW_TX, FLW_BKT]

/-! ### SDI: the registers of R223 -/

/-- SDI_IN_CFG.fmt [7:0]: Format-table entry -/
def SDI_IN_CFG_fmt : Fld := { no := 439, base := 0x2000000, dims := [(0x100, 192)], lo := 0, w := 8, acc := .ro, reset := fun _ => 0 }

/-- SDI_IN_CFG.fam [11:8]: Family -/
def SDI_IN_CFG_fam : Fld := { no := 440, base := 0x2000000, dims := [(0x100, 192)], lo := 8, w := 4, acc := .ro, reset := fun _ => 0 }

/-- SDI_IN_CFG.links [13:12]: 0 single, 1 dual, 2 quad -/
def SDI_IN_CFG_links : Fld := { no := 441, base := 0x2000000, dims := [(0x100, 192)], lo := 12, w := 2, acc := .ro, reset := fun _ => 0 }

/-- SDI_IN_CFG.psid_req [15]: ST 352 required (R206) -/
def SDI_IN_CFG_psid_req : Fld := { no := 442, base := 0x2000000, dims := [(0x100, 192)], lo := 15, w := 1, acc := .ro, reset := fun _ => 0 }

/-- SDI_IN_CFG.audio_ch [22:16]: Channel group size, 0 to 64 -/
def SDI_IN_CFG_audio_ch : Fld := { no := 443, base := 0x2000000, dims := [(0x100, 192)], lo := 16, w := 7, acc := .ro, reset := fun _ => 0 }

/-- SDI_IN_CFG.defined [31]: This region holds a declared input -/
def SDI_IN_CFG_defined : Fld := { no := 444, base := 0x2000000, dims := [(0x100, 192)], lo := 31, w := 1, acc := .ro, reset := fun _ => 0 }

/-- The register SDI_IN_CFG. -/
def SDI_IN_CFG : RegD := { base := 0x2000000, dims := [(0x100, 192)], words := 1, flds := [SDI_IN_CFG_fmt, SDI_IN_CFG_fam, SDI_IN_CFG_links, SDI_IN_CFG_psid_req, SDI_IN_CFG_audio_ch, SDI_IN_CFG_defined] }

/-- SDI_IN_ST.state [2:0]: State (R207) -/
def SDI_IN_ST_state : Fld := { no := 445, base := 0x2000004, dims := [(0x100, 192)], lo := 0, w := 3, acc := .ro, reset := fun _ => 0 }

/-- SDI_IN_ST.lost [3]: The input is not PRESENT -/
def SDI_IN_ST_lost : Fld := { no := 446, base := 0x2000004, dims := [(0x100, 192)], lo := 3, w := 1, acc := .ro, reset := fun _ => 1 }

/-- SDI_IN_ST.link [6:4]: Link number found on this lane, 1 to 4; 0 none -/
def SDI_IN_ST_link : Fld := { no := 447, base := 0x2000004, dims := [(0x100, 192)], lo := 4, w := 3, acc := .ro, reset := fun _ => 0 }

/-- SDI_IN_ST.psid_present [8]: ST 352 received on this lane -/
def SDI_IN_ST_psid_present : Fld := { no := 448, base := 0x2000004, dims := [(0x100, 192)], lo := 8, w := 1, acc := .ro, reset := fun _ => 0 }

/-- SDI_IN_ST.level_b [9]: The signal is 3G level B-DL -/
def SDI_IN_ST_level_b : Fld := { no := 449, base := 0x2000004, dims := [(0x100, 192)], lo := 9, w := 1, acc := .ro, reset := fun _ => 0 }

/-- SDI_IN_ST.rate_unsup [10]: An audio group declares a rate other than 48 kHz (R216) -/
def SDI_IN_ST_rate_unsup : Fld := { no := 450, base := 0x2000004, dims := [(0x100, 192)], lo := 10, w := 1, acc := .ro, reset := fun _ => 0 }

/-- SDI_IN_ST.skew_err [11]: Link skew beyond R203 -/
def SDI_IN_ST_skew_err : Fld := { no := 451, base := 0x2000004, dims := [(0x100, 192)], lo := 11, w := 1, acc := .ro, reset := fun _ => 0 }

/-- SDI_IN_ST.cause [15:12]: Mismatch cause: 0 none, 1 rate, 2 samples per line, 3 lines, 4 scan, 5 interface or mapping, 6 sampling, 7 bit depth, 8 ST 352 absent -/
def SDI_IN_ST_cause : Fld := { no := 452, base := 0x2000004, dims := [(0x100, 192)], lo := 12, w := 4, acc := .ro, reset := fun _ => 0 }

/-- The register SDI_IN_ST. -/
def SDI_IN_ST : RegD := { base := 0x2000004, dims := [(0x100, 192)], words := 1, flds := [SDI_IN_ST_state, SDI_IN_ST_lost, SDI_IN_ST_link, SDI_IN_ST_psid_present, SDI_IN_ST_level_b, SDI_IN_ST_rate_unsup, SDI_IN_ST_skew_err, SDI_IN_ST_cause] }

/-- SDI_IN_DET.lines [13:0]: Total lines detected -/
def SDI_IN_DET_lines : Fld := { no := 453, base := 0x2000008, dims := [(0x100, 192)], lo := 0, w := 14, acc := .ro, reset := fun _ => 0 }

/-- SDI_IN_DET.samples [30:16]: Total samples per line detected -/
def SDI_IN_DET_samples : Fld := { no := 454, base := 0x2000008, dims := [(0x100, 192)], lo := 16, w := 15, acc := .ro, reset := fun _ => 0 }

/-- The register SDI_IN_DET. -/
def SDI_IN_DET : RegD := { base := 0x2000008, dims := [(0x100, 192)], words := 1, flds := [SDI_IN_DET_lines, SDI_IN_DET_samples] }

/-- SDI_IN_PSID.psid [31:0]: Last ST 352 payload on this lane, byte 1 in [7:0] -/
def SDI_IN_PSID_psid : Fld := { no := 455, base := 0x200000c, dims := [(0x100, 192)], lo := 0, w := 32, acc := .ro, reset := fun _ => 0 }

/-- The register SDI_IN_PSID. -/
def SDI_IN_PSID : RegD := { base := 0x200000c, dims := [(0x100, 192)], words := 1, flds := [SDI_IN_PSID_psid] }

/-- SDI_IN_ARR.e [31:0]: Arrival error e in nib, signed, saturating (R211) -/
def SDI_IN_ARR_e : Fld := { no := 456, base := 0x2000010, dims := [(0x100, 192)], lo := 0, w := 32, acc := .ro, reset := fun _ => 0 }

/-- The register SDI_IN_ARR. -/
def SDI_IN_ARR : RegD := { base := 0x2000010, dims := [(0x100, 192)], words := 1, flds := [SDI_IN_ARR_e] }

/-- SDI_IN_SKEW.skew [19:0]: Link skew in nib (R203) -/
def SDI_IN_SKEW_skew : Fld := { no := 457, base := 0x2000014, dims := [(0x100, 192)], lo := 0, w := 20, acc := .ro, reset := fun _ => 0 }

/-- The register SDI_IN_SKEW. -/
def SDI_IN_SKEW : RegD := { base := 0x2000014, dims := [(0x100, 192)], words := 1, flds := [SDI_IN_SKEW_skew] }

/-- SDI_IN_STICKY.lost [0]: The input left PRESENT -/
def SDI_IN_STICKY_lost : Fld := { no := 458, base := 0x2000018, dims := [(0x100, 192)], lo := 0, w := 1, acc := .w1c, reset := fun _ => 0 }

/-- SDI_IN_STICKY.mismatch [1]: The input entered MISMATCH -/
def SDI_IN_STICKY_mismatch : Fld := { no := 459, base := 0x2000018, dims := [(0x100, 192)], lo := 1, w := 1, acc := .w1c, reset := fun _ => 0 }

/-- SDI_IN_STICKY.crc [2]: A CRC error occurred -/
def SDI_IN_STICKY_crc : Fld := { no := 460, base := 0x2000018, dims := [(0x100, 192)], lo := 2, w := 1, acc := .w1c, reset := fun _ => 0 }

/-- SDI_IN_STICKY.edh [3]: An EDH error occurred -/
def SDI_IN_STICKY_edh : Fld := { no := 461, base := 0x2000018, dims := [(0x100, 192)], lo := 3, w := 1, acc := .w1c, reset := fun _ => 0 }

/-- SDI_IN_STICKY.anc_cs [4]: An ANC packet failed its checksum or parity -/
def SDI_IN_STICKY_anc_cs : Fld := { no := 462, base := 0x2000018, dims := [(0x100, 192)], lo := 4, w := 1, acc := .w1c, reset := fun _ => 0 }

/-- SDI_IN_STICKY.anc_ovf [5]: An ANC packet exceeded the 64 per line -/
def SDI_IN_STICKY_anc_ovf : Fld := { no := 463, base := 0x2000018, dims := [(0x100, 192)], lo := 5, w := 1, acc := .w1c, reset := fun _ => 0 }

/-- SDI_IN_STICKY.slip [6]: Audio slipped (R217) -/
def SDI_IN_STICKY_slip : Fld := { no := 464, base := 0x2000018, dims := [(0x100, 192)], lo := 6, w := 1, acc := .w1c, reset := fun _ => 0 }

/-- SDI_IN_STICKY.skew [7]: Link skew exceeded R203 -/
def SDI_IN_STICKY_skew : Fld := { no := 465, base := 0x2000018, dims := [(0x100, 192)], lo := 7, w := 1, acc := .w1c, reset := fun _ => 0 }

/-- SDI_IN_STICKY.psid_chg [8]: The ST 352 payload changed -/
def SDI_IN_STICKY_psid_chg : Fld := { no := 466, base := 0x2000018, dims := [(0x100, 192)], lo := 8, w := 1, acc := .w1c, reset := fun _ => 0 }

/-- The register SDI_IN_STICKY. -/
def SDI_IN_STICKY : RegD := { base := 0x2000018, dims := [(0x100, 192)], words := 1, flds := [SDI_IN_STICKY_lost, SDI_IN_STICKY_mismatch, SDI_IN_STICKY_crc, SDI_IN_STICKY_edh, SDI_IN_STICKY_anc_cs, SDI_IN_STICKY_anc_ovf, SDI_IN_STICKY_slip, SDI_IN_STICKY_skew, SDI_IN_STICKY_psid_chg] }

/-- SDI_IN_CNT0.crc_lines [15:0]: Lines with a CRC error (R212) -/
def SDI_IN_CNT0_crc_lines : Fld := { no := 467, base := 0x200001c, dims := [(0x100, 192)], lo := 0, w := 16, acc := .rc, reset := fun _ => 0 }

/-- SDI_IN_CNT0.edh_fields [31:16]: Fields with an EDH error -/
def SDI_IN_CNT0_edh_fields : Fld := { no := 468, base := 0x200001c, dims := [(0x100, 192)], lo := 16, w := 16, acc := .rc, reset := fun _ => 0 }

/-- The register SDI_IN_CNT0. -/
def SDI_IN_CNT0 : RegD := { base := 0x200001c, dims := [(0x100, 192)], words := 1, flds := [SDI_IN_CNT0_crc_lines, SDI_IN_CNT0_edh_fields] }

/-- SDI_IN_CNT1.anc_cs [15:0]: ANC packets dropped for checksum or parity -/
def SDI_IN_CNT1_anc_cs : Fld := { no := 469, base := 0x2000020, dims := [(0x100, 192)], lo := 0, w := 16, acc := .rc, reset := fun _ => 0 }

/-- SDI_IN_CNT1.anc_ovf [31:16]: ANC packets dropped for overflow -/
def SDI_IN_CNT1_anc_ovf : Fld := { no := 470, base := 0x2000020, dims := [(0x100, 192)], lo := 16, w := 16, acc := .rc, reset := fun _ => 0 }

/-- The register SDI_IN_CNT1. -/
def SDI_IN_CNT1 : RegD := { base := 0x2000020, dims := [(0x100, 192)], words := 1, flds := [SDI_IN_CNT1_anc_cs, SDI_IN_CNT1_anc_ovf] }

/-- SDI_IN_CNT2.audio_slip [15:0]: Samples dropped or repeated -/
def SDI_IN_CNT2_audio_slip : Fld := { no := 471, base := 0x2000024, dims := [(0x100, 192)], lo := 0, w := 16, acc := .rc, reset := fun _ => 0 }

/-- SDI_IN_CNT2.trs_strikes [31:16]: Strike lines (R209) -/
def SDI_IN_CNT2_trs_strikes : Fld := { no := 472, base := 0x2000024, dims := [(0x100, 192)], lo := 16, w := 16, acc := .rc, reset := fun _ => 0 }

/-- The register SDI_IN_CNT2. -/
def SDI_IN_CNT2 : RegD := { base := 0x2000024, dims := [(0x100, 192)], words := 1, flds := [SDI_IN_CNT2_audio_slip, SDI_IN_CNT2_trs_strikes] }

/-- SDI_IN_LOSS.losses [15:0]: Exits from PRESENT, saturating -/
def SDI_IN_LOSS_losses : Fld := { no := 473, base := 0x2000028, dims := [(0x100, 192)], lo := 0, w := 16, acc := .rc, reset := fun _ => 0 }

/-- The register SDI_IN_LOSS. -/
def SDI_IN_LOSS : RegD := { base := 0x2000028, dims := [(0x100, 192)], words := 1, flds := [SDI_IN_LOSS_losses] }

/-- SDI_IN_AUD.grp_present [15:0]: Bit g is 1 while channels 4g to 4g + 3 of the source's group are present -/
def SDI_IN_AUD_grp_present : Fld := { no := 474, base := 0x200002c, dims := [(0x100, 192)], lo := 0, w := 16, acc := .ro, reset := fun _ => 0 }

/-- The register SDI_IN_AUD. -/
def SDI_IN_AUD : RegD := { base := 0x200002c, dims := [(0x100, 192)], words := 1, flds := [SDI_IN_AUD_grp_present] }

/-- SDI_IN_NPCM.pairs [31:0]: Bit m is 1 while pair 2m, 2m + 1 is non-PCM (R218) -/
def SDI_IN_NPCM_pairs : Fld := { no := 475, base := 0x2000030, dims := [(0x100, 192)], lo := 0, w := 32, acc := .ro, reset := fun _ => 0 }

/-- The register SDI_IN_NPCM. -/
def SDI_IN_NPCM : RegD := { base := 0x2000030, dims := [(0x100, 192)], words := 1, flds := [SDI_IN_NPCM_pairs] }

/-- SDI_IN_THR.crc_thresh [15:0]: Errored lines and fields per second that fire FS0114; 0 disables -/
def SDI_IN_THR_crc_thresh : Fld := { no := 476, base := 0x2000034, dims := [(0x100, 192)], lo := 0, w := 16, acc := .rw, reset := fun _ => 0 }

/-- The register SDI_IN_THR. -/
def SDI_IN_THR : RegD := { base := 0x2000034, dims := [(0x100, 192)], words := 1, flds := [SDI_IN_THR_crc_thresh] }

/-- SDI_OUT_ST.state [1:0]: 0 idle, 1 carrying its source, 2 carrying a loss or safe policy -/
def SDI_OUT_ST_state : Fld := { no := 477, base := 0x2010000, dims := [(0x100, 192)], lo := 0, w := 2, acc := .ro, reset := fun _ => 0 }

/-- SDI_OUT_ST.link [6:4]: Link number sent on this lane, 1 to 4; 0 unused -/
def SDI_OUT_ST_link : Fld := { no := 478, base := 0x2010000, dims := [(0x100, 192)], lo := 4, w := 3, acc := .ro, reset := fun _ => 0 }

/-- SDI_OUT_ST.fmt [15:8]: Format-table entry in use -/
def SDI_OUT_ST_fmt : Fld := { no := 479, base := 0x2010000, dims := [(0x100, 192)], lo := 8, w := 8, acc := .ro, reset := fun _ => 0 }

/-- SDI_OUT_ST.fam [19:16]: Family -/
def SDI_OUT_ST_fam : Fld := { no := 480, base := 0x2010000, dims := [(0x100, 192)], lo := 16, w := 4, acc := .ro, reset := fun _ => 0 }

/-- SDI_OUT_ST.level_b [20]: Sent as 3G level B-DL -/
def SDI_OUT_ST_level_b : Fld := { no := 481, base := 0x2010000, dims := [(0x100, 192)], lo := 20, w := 1, acc := .ro, reset := fun _ => 0 }

/-- The register SDI_OUT_ST. -/
def SDI_OUT_ST : RegD := { base := 0x2010000, dims := [(0x100, 192)], words := 1, flds := [SDI_OUT_ST_state, SDI_OUT_ST_link, SDI_OUT_ST_fmt, SDI_OUT_ST_fam, SDI_OUT_ST_level_b] }

/-- SDI_OUT_CFG.anc_en [0]: Insert the ANC sidecar (R214) -/
def SDI_OUT_CFG_anc_en : Fld := { no := 482, base := 0x2010004, dims := [(0x100, 192)], lo := 0, w := 1, acc := .rwp, reset := fun _ => 1 }

/-- SDI_OUT_CFG.aud_en [1]: Embed audio (R219) -/
def SDI_OUT_CFG_aud_en : Fld := { no := 483, base := 0x2010004, dims := [(0x100, 192)], lo := 1, w := 1, acc := .rwp, reset := fun _ => 1 }

/-- SDI_OUT_CFG.edh_en [2]: Send EDH packets on SD outputs -/
def SDI_OUT_CFG_edh_en : Fld := { no := 484, base := 0x2010004, dims := [(0x100, 192)], lo := 2, w := 1, acc := .rwp, reset := fun _ => 1 }

/-- The register SDI_OUT_CFG. -/
def SDI_OUT_CFG : RegD := { base := 0x2010004, dims := [(0x100, 192)], words := 1, flds := [SDI_OUT_CFG_anc_en, SDI_OUT_CFG_aud_en, SDI_OUT_CFG_edh_en] }

/-- SDI_OUT_STICKY.anc_drop [0]: An ANC packet was dropped -/
def SDI_OUT_STICKY_anc_drop : Fld := { no := 485, base := 0x2010008, dims := [(0x100, 192)], lo := 0, w := 1, acc := .w1c, reset := fun _ => 0 }

/-- SDI_OUT_STICKY.rej_write [1]: An RWP write was rejected (R12) -/
def SDI_OUT_STICKY_rej_write : Fld := { no := 486, base := 0x2010008, dims := [(0x100, 192)], lo := 1, w := 1, acc := .w1c, reset := fun _ => 0 }

/-- The register SDI_OUT_STICKY. -/
def SDI_OUT_STICKY : RegD := { base := 0x2010008, dims := [(0x100, 192)], words := 1, flds := [SDI_OUT_STICKY_anc_drop, SDI_OUT_STICKY_rej_write] }

/-- SDI_OUT_CNT.anc_drop [15:0]: ANC packets dropped, saturating -/
def SDI_OUT_CNT_anc_drop : Fld := { no := 487, base := 0x201000c, dims := [(0x100, 192)], lo := 0, w := 16, acc := .rc, reset := fun _ => 0 }

/-- SDI_OUT_CNT.fill_frames [31:16]: Frames sent under a loss or safe policy, saturating -/
def SDI_OUT_CNT_fill_frames : Fld := { no := 488, base := 0x201000c, dims := [(0x100, 192)], lo := 16, w := 16, acc := .rc, reset := fun _ => 0 }

/-- The register SDI_OUT_CNT. -/
def SDI_OUT_CNT : RegD := { base := 0x201000c, dims := [(0x100, 192)], words := 1, flds := [SDI_OUT_CNT_anc_drop, SDI_OUT_CNT_fill_frames] }

/-- Every register of the SDI block. -/
def regsSdi : List RegD :=
  [SDI_IN_CFG, SDI_IN_ST, SDI_IN_DET, SDI_IN_PSID, SDI_IN_ARR, SDI_IN_SKEW, SDI_IN_STICKY, SDI_IN_CNT0, SDI_IN_CNT1, SDI_IN_CNT2, SDI_IN_LOSS, SDI_IN_AUD, SDI_IN_NPCM, SDI_IN_THR, SDI_OUT_ST, SDI_OUT_CFG, SDI_OUT_STICKY, SDI_OUT_CNT]

/-! ### Inkwell surfaces: the registers of R309 -/

/-- INK_STATUS.overrun [0]: A channel shed traffic (R295) -/
def INK_STATUS_overrun : Fld := { no := 489, base := 0x3000000, dims := [], lo := 0, w := 1, acc := .w1c, reset := fun _ => 0 }

/-- INK_STATUS.overtake [1]: A read overtook its writer (R294) -/
def INK_STATUS_overtake : Fld := { no := 490, base := 0x3000000, dims := [], lo := 1, w := 1, acc := .w1c, reset := fun _ => 0 }

/-- INK_STATUS.anc_drop [2]: An ANC packet did not fit (R291) -/
def INK_STATUS_anc_drop : Fld := { no := 491, base := 0x3000000, dims := [], lo := 2, w := 1, acc := .w1c, reset := fun _ => 0 }

/-- INK_STATUS.win_busy [3]: A BAR2 overlay write was ignored (R307) -/
def INK_STATUS_win_busy : Fld := { no := 492, base := 0x3000000, dims := [], lo := 3, w := 1, acc := .w1c, reset := fun _ => 0 }

/-- INK_STATUS.cap_err [4]: A capture failed (R308) -/
def INK_STATUS_cap_err : Fld := { no := 493, base := 0x3000000, dims := [], lo := 4, w := 1, acc := .w1c, reset := fun _ => 0 }

/-- INK_STATUS.audio_absent [5]: FS0166 fired -/
def INK_STATUS_audio_absent : Fld := { no := 494, base := 0x3000000, dims := [], lo := 5, w := 1, acc := .w1c, reset := fun _ => 0 }

/-- The register INK_STATUS. -/
def INK_STATUS : RegD := { base := 0x3000000, dims := [], words := 1, flds := [INK_STATUS_overrun, INK_STATUS_overtake, INK_STATUS_anc_drop, INK_STATUS_win_busy, INK_STATUS_cap_err, INK_STATUS_audio_absent] }

/-- INK_CNT.overtakes [15:0]: Overtaking reads, saturating -/
def INK_CNT_overtakes : Fld := { no := 495, base := 0x3000004, dims := [], lo := 0, w := 16, acc := .rc, reset := fun _ => 0 }

/-- INK_CNT.anc_drop [31:16]: ANC packets dropped, saturating -/
def INK_CNT_anc_drop : Fld := { no := 496, base := 0x3000004, dims := [], lo := 16, w := 16, acc := .rc, reset := fun _ => 0 }

/-- The register INK_CNT. -/
def INK_CNT : RegD := { base := 0x3000004, dims := [], words := 1, flds := [INK_CNT_overtakes, INK_CNT_anc_drop] }

/-- INK_SURF_CNT.used [12:0]: Surfaces placed, 0 to 4,096 -/
def INK_SURF_CNT_used : Fld := { no := 497, base := 0x3000008, dims := [], lo := 0, w := 13, acc := .ro, reset := fun _ => 0 }

/-- The register INK_SURF_CNT. -/
def INK_SURF_CNT : RegD := { base := 0x3000008, dims := [], words := 1, flds := [INK_SURF_CNT_used] }

/-- INK_CH.charged_meas [15:0]: Charged traffic measured, in 0.1 Gbit/s -/
def INK_CH_charged_meas : Fld := { no := 498, base := 0x3000100, dims := [(0x8, 12)], lo := 0, w := 16, acc := .ro, reset := fun _ => 0 }

/-- INK_CH.uncharged_meas [31:16]: Uncharged traffic measured, in 0.1 Gbit/s -/
def INK_CH_uncharged_meas : Fld := { no := 499, base := 0x3000100, dims := [(0x8, 12)], lo := 16, w := 16, acc := .ro, reset := fun _ => 0 }

/-- INK_CH.overruns [47:32]: Blocks shed or replaced (R295), saturating -/
def INK_CH_overruns : Fld := { no := 500, base := 0x3000100, dims := [(0x8, 12)], lo := 32, w := 16, acc := .rc, reset := fun _ => 0 }

/-- INK_CH.prefetch_min_us [63:48]: Smallest prefetch lead seen since the last read, in µs -/
def INK_CH_prefetch_min_us : Fld := { no := 501, base := 0x3000100, dims := [(0x8, 12)], lo := 48, w := 16, acc := .rc, reset := fun _ => 0 }

/-- The register INK_CH. -/
def INK_CH : RegD := { base := 0x3000100, dims := [(0x8, 12)], words := 2, flds := [INK_CH_charged_meas, INK_CH_uncharged_meas, INK_CH_overruns, INK_CH_prefetch_min_us] }

/-- INK_WIN.target [1:0]: 0 nothing, 1 overlay, 2 capture surface; 3 acts as 0 -/
def INK_WIN_target : Fld := { no := 502, base := 0x3000300, dims := [(0x4, 32)], lo := 0, w := 2, acc := .rw, reset := fun _ => 0 }

/-- INK_WIN.head [5:2]: Head whose overlay is mapped -/
def INK_WIN_head : Fld := { no := 503, base := 0x3000300, dims := [(0x4, 32)], lo := 2, w := 4, acc := .rw, reset := fun _ => 0 }

/-- INK_WIN.offset [31:16]: Byte offset in units of 32 MiB, 0 to 7 -/
def INK_WIN_offset : Fld := { no := 504, base := 0x3000300, dims := [(0x4, 32)], lo := 16, w := 16, acc := .rw, reset := fun _ => 0 }

/-- The register INK_WIN. -/
def INK_WIN : RegD := { base := 0x3000300, dims := [(0x4, 32)], words := 1, flds := [INK_WIN_target, INK_WIN_head, INK_WIN_offset] }

/-- INK_OVL.flip [0]: 1 requests an exchange (R307) -/
def INK_OVL_flip : Fld := { no := 505, base := 0x3000400, dims := [(0x4, 16)], lo := 0, w := 1, acc := .wo, reset := fun _ => 0 }

/-- INK_OVL.pending [1]: Exchange requested and not yet launched -/
def INK_OVL_pending : Fld := { no := 506, base := 0x3000400, dims := [(0x4, 16)], lo := 1, w := 1, acc := .ro, reset := fun _ => 0 }

/-- INK_OVL.front [2]: Buffer read by the head, 0 or 1 -/
def INK_OVL_front : Fld := { no := 507, base := 0x3000400, dims := [(0x4, 16)], lo := 2, w := 1, acc := .ro, reset := fun _ => 0 }

/-- The register INK_OVL. -/
def INK_OVL : RegD := { base := 0x3000400, dims := [(0x4, 16)], words := 1, flds := [INK_OVL_flip, INK_OVL_pending, INK_OVL_front] }

/-- INK_CAP_CTRL.start [0]: 1 starts a capture (R308) -/
def INK_CAP_CTRL_start : Fld := { no := 508, base := 0x3000500, dims := [], lo := 0, w := 1, acc := .wo, reset := fun _ => 0 }

/-- INK_CAP_CTRL.picture [2:1]: 0 full size, 1 ½, 2 ¼; 3 acts as 0 -/
def INK_CAP_CTRL_picture : Fld := { no := 509, base := 0x3000500, dims := [], lo := 1, w := 2, acc := .rw, reset := fun _ => 0 }

/-- INK_CAP_CTRL.surf [27:16]: Surface index -/
def INK_CAP_CTRL_surf : Fld := { no := 510, base := 0x3000500, dims := [], lo := 16, w := 12, acc := .rw, reset := fun _ => 0 }

/-- The register INK_CAP_CTRL. -/
def INK_CAP_CTRL : RegD := { base := 0x3000500, dims := [], words := 1, flds := [INK_CAP_CTRL_start, INK_CAP_CTRL_picture, INK_CAP_CTRL_surf] }

/-- INK_CAP_ST.busy [0]: Capture in progress -/
def INK_CAP_ST_busy : Fld := { no := 511, base := 0x3000504, dims := [], lo := 0, w := 1, acc := .ro, reset := fun _ => 0 }

/-- INK_CAP_ST.done [1]: Capture complete; cleared by the next start -/
def INK_CAP_ST_done : Fld := { no := 512, base := 0x3000504, dims := [], lo := 1, w := 1, acc := .ro, reset := fun _ => 0 }

/-- INK_CAP_ST.err [2]: Capture failed -/
def INK_CAP_ST_err : Fld := { no := 513, base := 0x3000504, dims := [], lo := 2, w := 1, acc := .ro, reset := fun _ => 0 }

/-- INK_CAP_ST.pitch_64 [31:16]: Line pitch of the result in units of 64 bytes -/
def INK_CAP_ST_pitch_64 : Fld := { no := 514, base := 0x3000504, dims := [], lo := 16, w := 16, acc := .ro, reset := fun _ => 0 }

/-- The register INK_CAP_ST. -/
def INK_CAP_ST : RegD := { base := 0x3000504, dims := [], words := 1, flds := [INK_CAP_ST_busy, INK_CAP_ST_done, INK_CAP_ST_err, INK_CAP_ST_pitch_64] }

/-- INK_SURF.valid [0]: Surface placed -/
def INK_SURF_valid : Fld := { no := 515, base := 0x3010000, dims := [(0x20, 4096)], lo := 0, w := 1, acc := .ro, reset := fun _ => 0 }

/-- INK_SURF.kind [2:1]: 0 ingest, 1 hold, 2 overlay, 3 capture -/
def INK_SURF_kind : Fld := { no := 516, base := 0x3010000, dims := [(0x20, 4096)], lo := 1, w := 2, acc := .ro, reset := fun _ => 0 }

/-- INK_SURF.ch [6:3]: DRAM channel -/
def INK_SURF_ch : Fld := { no := 517, base := 0x3010000, dims := [(0x20, 4096)], lo := 3, w := 4, acc := .ro, reset := fun _ => 0 }

/-- INK_SURF.bank [10:7]: Bank group -/
def INK_SURF_bank : Fld := { no := 518, base := 0x3010000, dims := [(0x20, 4096)], lo := 7, w := 4, acc := .ro, reset := fun _ => 0 }

/-- INK_SURF.depth [15:11]: Buffers, 1 to 17 -/
def INK_SURF_depth : Fld := { no := 519, base := 0x3010000, dims := [(0x20, 4096)], lo := 11, w := 5, acc := .ro, reset := fun _ => 0 }

/-- INK_SURF.proxies [16]: Proxies written (R290) -/
def INK_SURF_proxies : Fld := { no := 520, base := 0x3010000, dims := [(0x20, 4096)], lo := 16, w := 1, acc := .ro, reset := fun _ => 0 }

/-- INK_SURF.k_half [17]: Charge class 0.5 (R162) -/
def INK_SURF_k_half : Fld := { no := 521, base := 0x3010000, dims := [(0x20, 4096)], lo := 17, w := 1, acc := .ro, reset := fun _ => 0 }

/-- INK_SURF.sampling [20:18]: Row of the table in R287, 0 to 4 -/
def INK_SURF_sampling : Fld := { no := 522, base := 0x3010000, dims := [(0x20, 4096)], lo := 18, w := 3, acc := .ro, reset := fun _ => 0 }

/-- INK_SURF.src_slot [31:21]: Destination slot that writes the surface -/
def INK_SURF_src_slot : Fld := { no := 523, base := 0x3010000, dims := [(0x20, 4096)], lo := 21, w := 11, acc := .ro, reset := fun _ => 0 }

/-- INK_SURF.width [46:32]: Full-size width in pixels -/
def INK_SURF_width : Fld := { no := 524, base := 0x3010000, dims := [(0x20, 4096)], lo := 32, w := 15, acc := .ro, reset := fun _ => 0 }

/-- INK_SURF.height [62:48]: Full-size height in lines -/
def INK_SURF_height : Fld := { no := 525, base := 0x3010000, dims := [(0x20, 4096)], lo := 48, w := 15, acc := .ro, reset := fun _ => 0 }

/-- INK_SURF.wr_buf [68:64]: Buffer being written, 0 to 16 -/
def INK_SURF_wr_buf : Fld := { no := 526, base := 0x3010000, dims := [(0x20, 4096)], lo := 64, w := 5, acc := .ro, reset := fun _ => 0 }

/-- INK_SURF.last_buf [73:69]: Most recent complete buffer, 0 to 16 -/
def INK_SURF_last_buf : Fld := { no := 527, base := 0x3010000, dims := [(0x20, 4096)], lo := 69, w := 5, acc := .ro, reset := fun _ => 0 }

/-- INK_SURF.writing [74]: A write is in progress (R297) -/
def INK_SURF_writing : Fld := { no := 528, base := 0x3010000, dims := [(0x20, 4096)], lo := 74, w := 1, acc := .ro, reset := fun _ => 0 }

/-- INK_SURF.lines_written [95:80]: lines_written of wr_buf (R291) -/
def INK_SURF_lines_written : Fld := { no := 529, base := 0x3010000, dims := [(0x20, 4096)], lo := 80, w := 16, acc := .ro, reset := fun _ => 0 }

/-- INK_SURF.size_64k [127:96]: Surface size in units of 64 KiB (R292) -/
def INK_SURF_size_64k : Fld := { no := 530, base := 0x3010000, dims := [(0x20, 4096)], lo := 96, w := 32, acc := .ro, reset := fun _ => 0 }

/-- INK_SURF.frame [175:128]: Family frame number of last_buf -/
def INK_SURF_frame : Fld := { no := 531, base := 0x3010000, dims := [(0x20, 4096)], lo := 128, w := 48, acc := .ro, reset := fun _ => 0 }

/-- The register INK_SURF. -/
def INK_SURF : RegD := { base := 0x3010000, dims := [(0x20, 4096)], words := 8, flds := [INK_SURF_valid, INK_SURF_kind, INK_SURF_ch, INK_SURF_bank, INK_SURF_depth, INK_SURF_proxies, INK_SURF_k_half, INK_SURF_sampling, INK_SURF_src_slot, INK_SURF_width, INK_SURF_height, INK_SURF_wr_buf, INK_SURF_last_buf, INK_SURF_writing, INK_SURF_lines_written, INK_SURF_size_64k, INK_SURF_frame] }

/-- INK_SYNC.valid [0]: A read side feeds SSLn -/
def INK_SYNC_valid : Fld := { no := 532, base := 0x3040000, dims := [(0x10, 1536)], lo := 0, w := 1, acc := .ro, reset := fun _ => 0 }

/-- INK_SYNC.delay_line [1]: 0 frame synchroniser, 1 delay line -/
def INK_SYNC_delay_line : Fld := { no := 533, base := 0x3040000, dims := [(0x10, 1536)], lo := 1, w := 1, acc := .ro, reset := fun _ => 0 }

/-- INK_SYNC.n_frames [6:2]: Delay in frames, 1 to 16; 0 for a synchroniser -/
def INK_SYNC_n_frames : Fld := { no := 534, base := 0x3040000, dims := [(0x10, 1536)], lo := 2, w := 5, acc := .ro, reset := fun _ => 0 }

/-- INK_SYNC.audio [7]: Audio carried (R301) -/
def INK_SYNC_audio : Fld := { no := 535, base := 0x3040000, dims := [(0x10, 1536)], lo := 7, w := 1, acc := .ro, reset := fun _ => 0 }

/-- INK_SYNC.surf [19:8]: Ingest surface read -/
def INK_SYNC_surf : Fld := { no := 536, base := 0x3040000, dims := [(0x10, 1536)], lo := 8, w := 12, acc := .ro, reset := fun _ => 0 }

/-- INK_SYNC.dv [63:32]: Video delay Dv of the current frame, in units of 40 nib, saturating -/
def INK_SYNC_dv : Fld := { no := 537, base := 0x3040000, dims := [(0x10, 1536)], lo := 32, w := 32, acc := .ro, reset := fun _ => 0 }

/-- INK_SYNC.drops [79:64]: Frames dropped, saturating -/
def INK_SYNC_drops : Fld := { no := 538, base := 0x3040000, dims := [(0x10, 1536)], lo := 64, w := 16, acc := .rc, reset := fun _ => 0 }

/-- INK_SYNC.repeats [95:80]: Frames repeated, saturating -/
def INK_SYNC_repeats : Fld := { no := 539, base := 0x3040000, dims := [(0x10, 1536)], lo := 80, w := 16, acc := .rc, reset := fun _ => 0 }

/-- INK_SYNC.slips [111:96]: Audio samples dropped or repeated, saturating -/
def INK_SYNC_slips : Fld := { no := 540, base := 0x3040000, dims := [(0x10, 1536)], lo := 96, w := 16, acc := .rc, reset := fun _ => 0 }

/-- INK_SYNC.av_offset [127:112]: A/V offset (R303), signed, in units of 0.1 ms, saturating -/
def INK_SYNC_av_offset : Fld := { no := 541, base := 0x3040000, dims := [(0x10, 1536)], lo := 112, w := 16, acc := .ro, reset := fun _ => 0 }

/-- The register INK_SYNC. -/
def INK_SYNC : RegD := { base := 0x3040000, dims := [(0x10, 1536)], words := 4, flds := [INK_SYNC_valid, INK_SYNC_delay_line, INK_SYNC_n_frames, INK_SYNC_audio, INK_SYNC_surf, INK_SYNC_dv, INK_SYNC_drops, INK_SYNC_repeats, INK_SYNC_slips, INK_SYNC_av_offset] }

/-- Every register of the INK block. -/
def regsInk : List RegD :=
  [INK_STATUS, INK_CNT, INK_SURF_CNT, INK_CH, INK_WIN, INK_OVL, INK_CAP_CTRL, INK_CAP_ST, INK_SURF, INK_SYNC]

/-! ### DRAM channels: the registers of R337 -/

/-- DRC_CTRL.en [0]: 1 requests start, 0 requests stop (R316, R319) -/
def DRC_CTRL_en : Fld := { no := 542, base := 0x3100000, dims := [(0x10000, 12)], lo := 0, w := 1, acc := .rw, reset := fun _ => 0 }

/-- The register DRC_CTRL. -/
def DRC_CTRL : RegD := { base := 0x3100000, dims := [(0x10000, 12)], words := 1, flds := [DRC_CTRL_en] }

/-- DRC_STATUS.state [2:0]: 0 STOPPED, 1 STARTING, 2 RUNNING, 3 STOPPING, 4 FAILED -/
def DRC_STATUS_state : Fld := { no := 543, base := 0x3100004, dims := [(0x10000, 12)], lo := 0, w := 3, acc := .ro, reset := fun _ => 0 }

/-- DRC_STATUS.sub [5:4]: In RUNNING: 0 ACTIVE, 1 ENTERING, 2 SELF_REFRESH, 3 WAKING (R326) -/
def DRC_STATUS_sub : Fld := { no := 544, base := 0x3100004, dims := [(0x10000, 12)], lo := 4, w := 2, acc := .ro, reset := fun _ => 0 }

/-- DRC_STATUS.degraded [6]: The last pause or wake retrain failed (R322) -/
def DRC_STATUS_degraded : Fld := { no := 545, base := 0x3100004, dims := [(0x10000, 12)], lo := 6, w := 1, acc := .ro, reset := fun _ => 0 }

/-- DRC_STATUS.fixed [7]: Fixed-delay channel (R323) -/
def DRC_STATUS_fixed : Fld := { no := 546, base := 0x3100004, dims := [(0x10000, 12)], lo := 7, w := 1, acc := .ro, reset := fun _ => 0 }

/-- DRC_STATUS.fail_count [9:8]: Consecutive failed retrains, 0 to 3 -/
def DRC_STATUS_fail_count : Fld := { no := 547, base := 0x3100004, dims := [(0x10000, 12)], lo := 8, w := 2, acc := .ro, reset := fun _ => 0 }

/-- DRC_STATUS.speed [14:12]: Speed in use or in training: 0 DDR5-4800, 1 -5600, 2 -6400, 3 -7200, 4 -8000, 5 -8800 -/
def DRC_STATUS_speed : Fld := { no := 548, base := 0x3100004, dims := [(0x10000, 12)], lo := 12, w := 3, acc := .ro, reset := fun _ => 0 }

/-- DRC_STATUS.target_pending [15]: target differs from speed and awaits the next start (R318) -/
def DRC_STATUS_target_pending : Fld := { no := 549, base := 0x3100004, dims := [(0x10000, 12)], lo := 15, w := 1, acc := .ro, reset := fun _ => 0 }

/-- DRC_STATUS.train_step [19:16]: Step of R317 in progress, 1 to 7; 0 none -/
def DRC_STATUS_train_step : Fld := { no := 550, base := 0x3100004, dims := [(0x10000, 12)], lo := 16, w := 4, acc := .ro, reset := fun _ => 0 }

/-- DRC_STATUS.failed_cause [21:20]: 0 none, 1 initial training or verification, 2 retraining, 3 uncorrectable errors -/
def DRC_STATUS_failed_cause : Fld := { no := 551, base := 0x3100004, dims := [(0x10000, 12)], lo := 20, w := 2, acc := .ro, reset := fun _ => 0 }

/-- The register DRC_STATUS. -/
def DRC_STATUS : RegD := { base := 0x3100004, dims := [(0x10000, 12)], words := 1, flds := [DRC_STATUS_state, DRC_STATUS_sub, DRC_STATUS_degraded, DRC_STATUS_fixed, DRC_STATUS_fail_count, DRC_STATUS_speed, DRC_STATUS_target_pending, DRC_STATUS_train_step, DRC_STATUS_failed_cause] }

/-- DRC_SPEED.target [2:0]: Target speed, encoded as speed (R318). 6 and 7 fail the start check -/
def DRC_SPEED_target : Fld := { no := 552, base := 0x3100008, dims := [(0x10000, 12)], lo := 0, w := 3, acc := .rw, reset := fun _ => 0 }

/-- The register DRC_SPEED. -/
def DRC_SPEED : RegD := { base := 0x3100008, dims := [(0x10000, 12)], words := 1, flds := [DRC_SPEED_target] }

/-- DRC_ORG.kind [1:0]: 0 chip-down ×8, 1 chip-down ×4, 2 RDIMM ×8, 3 RDIMM ×4 (R312) -/
def DRC_ORG_kind : Fld := { no := 553, base := 0x310000c, dims := [(0x10000, 12)], lo := 0, w := 2, acc := .rwp, reset := fun _ => 0 }

/-- DRC_ORG.ranks [4]: 0 one rank, 1 two ranks -/
def DRC_ORG_ranks : Fld := { no := 554, base := 0x310000c, dims := [(0x10000, 12)], lo := 4, w := 1, acc := .rwp, reset := fun _ => 0 }

/-- DRC_ORG.density [9:8]: 0 16 Gbit, 1 24 Gbit, 2 32 Gbit; 3 fails the start check -/
def DRC_ORG_density : Fld := { no := 555, base := 0x310000c, dims := [(0x10000, 12)], lo := 8, w := 2, acc := .rwp, reset := fun _ => 0 }

/-- The register DRC_ORG. -/
def DRC_ORG : RegD := { base := 0x310000c, dims := [(0x10000, 12)], words := 1, flds := [DRC_ORG_kind, DRC_ORG_ranks, DRC_ORG_density] }

/-- DRC_INFO.cap_mib [15:0]: Usable capacity in MiB (R313); 0 when not RUNNING -/
def DRC_INFO_cap_mib : Fld := { no := 556, base := 0x3100010, dims := [(0x10000, 12)], lo := 0, w := 16, acc := .ro, reset := fun _ => 0 }

/-- The register DRC_INFO. -/
def DRC_INFO : RegD := { base := 0x3100010, dims := [(0x10000, 12)], words := 1, flds := [DRC_INFO_cap_mib] }

/-- DRC_SR.sr_en [0]: 1 lets the channel enter self-refresh (R326) -/
def DRC_SR_sr_en : Fld := { no := 557, base := 0x3100014, dims := [(0x10000, 12)], lo := 0, w := 1, acc := .rw, reset := fun _ => 1 }

/-- DRC_SR.idle_us [31:16]: Idle time in µs, 10 to 65,535 -/
def DRC_SR_idle_us : Fld := { no := 558, base := 0x3100014, dims := [(0x10000, 12)], lo := 16, w := 16, acc := .rw, reset := fun _ => 200, lim := some (10, 65535) }

/-- The register DRC_SR. -/
def DRC_SR : RegD := { base := 0x3100014, dims := [(0x10000, 12)], words := 1, flds := [DRC_SR_sr_en, DRC_SR_idle_us] }

/-- DRC_STICKY.retrain_fail [0]: A retrain found no working setting -/
def DRC_STICKY_retrain_fail : Fld := { no := 559, base := 0x3100018, dims := [(0x10000, 12)], lo := 0, w := 1, acc := .w1c, reset := fun _ => 0 }

/-- DRC_STICKY.failed [1]: The channel failed -/
def DRC_STICKY_failed : Fld := { no := 560, base := 0x3100018, dims := [(0x10000, 12)], lo := 1, w := 1, acc := .w1c, reset := fun _ => 0 }

/-- DRC_STICKY.start_err [2]: A start check or initial training failed -/
def DRC_STICKY_start_err : Fld := { no := 561, base := 0x3100018, dims := [(0x10000, 12)], lo := 2, w := 1, acc := .w1c, reset := fun _ => 0 }

/-- DRC_STICKY.ue [3]: An uncorrectable error was read -/
def DRC_STICKY_ue : Fld := { no := 562, base := 0x3100018, dims := [(0x10000, 12)], lo := 3, w := 1, acc := .w1c, reset := fun _ => 0 }

/-- DRC_STICKY.ce_thr [4]: Corrected errors reached ce_thr -/
def DRC_STICKY_ce_thr : Fld := { no := 563, base := 0x3100018, dims := [(0x10000, 12)], lo := 4, w := 1, acc := .w1c, reset := fun _ => 0 }

/-- DRC_STICKY.temp_high [5]: A device reported a temperature above its high limit -/
def DRC_STICKY_temp_high : Fld := { no := 564, base := 0x3100018, dims := [(0x10000, 12)], lo := 5, w := 1, acc := .w1c, reset := fun _ => 0 }

/-- DRC_STICKY.drift_limit [6]: Drift tracking reached its limit -/
def DRC_STICKY_drift_limit : Fld := { no := 565, base := 0x3100018, dims := [(0x10000, 12)], lo := 6, w := 1, acc := .w1c, reset := fun _ => 0 }

/-- DRC_STICKY.rej_write [7]: An RWP write was rejected (R12) -/
def DRC_STICKY_rej_write : Fld := { no := 566, base := 0x3100018, dims := [(0x10000, 12)], lo := 7, w := 1, acc := .w1c, reset := fun _ => 0 }

/-- The register DRC_STICKY. -/
def DRC_STICKY : RegD := { base := 0x3100018, dims := [(0x10000, 12)], words := 1, flds := [DRC_STICKY_retrain_fail, DRC_STICKY_failed, DRC_STICKY_start_err, DRC_STICKY_ue, DRC_STICKY_ce_thr, DRC_STICKY_temp_high, DRC_STICKY_drift_limit, DRC_STICKY_rej_write] }

/-- DRC_CNT.retrain_ok [15:0]: Successful pause and wake retrains -/
def DRC_CNT_retrain_ok : Fld := { no := 567, base := 0x310001c, dims := [(0x10000, 12)], lo := 0, w := 16, acc := .rc, reset := fun _ => 0 }

/-- DRC_CNT.retrain_fail [31:16]: Failed pause and wake retrains -/
def DRC_CNT_retrain_fail : Fld := { no := 568, base := 0x310001c, dims := [(0x10000, 12)], lo := 16, w := 16, acc := .rc, reset := fun _ => 0 }

/-- The register DRC_CNT. -/
def DRC_CNT : RegD := { base := 0x310001c, dims := [(0x10000, 12)], words := 1, flds := [DRC_CNT_retrain_ok, DRC_CNT_retrain_fail] }

/-- DRC_SR_CNT.entries [15:0]: Entries to SELF_REFRESH -/
def DRC_SR_CNT_entries : Fld := { no := 569, base := 0x3100020, dims := [(0x10000, 12)], lo := 0, w := 16, acc := .rc, reset := fun _ => 0 }

/-- DRC_SR_CNT.wakes [31:16]: Wakes -/
def DRC_SR_CNT_wakes : Fld := { no := 570, base := 0x3100020, dims := [(0x10000, 12)], lo := 16, w := 16, acc := .rc, reset := fun _ => 0 }

/-- The register DRC_SR_CNT. -/
def DRC_SR_CNT : RegD := { base := 0x3100020, dims := [(0x10000, 12)], words := 1, flds := [DRC_SR_CNT_entries, DRC_SR_CNT_wakes] }

/-- DRC_ECC_CNT.ce [15:0]: Corrected codewords (R329) -/
def DRC_ECC_CNT_ce : Fld := { no := 571, base := 0x3100024, dims := [(0x10000, 12)], lo := 0, w := 16, acc := .rc, reset := fun _ => 0 }

/-- DRC_ECC_CNT.ue [31:16]: Uncorrectable codewords (R330) -/
def DRC_ECC_CNT_ue : Fld := { no := 572, base := 0x3100024, dims := [(0x10000, 12)], lo := 16, w := 16, acc := .rc, reset := fun _ => 0 }

/-- The register DRC_ECC_CNT. -/
def DRC_ECC_CNT : RegD := { base := 0x3100024, dims := [(0x10000, 12)], words := 1, flds := [DRC_ECC_CNT_ce, DRC_ECC_CNT_ue] }

/-- DRC_ECC_CFG.ce_thr [15:0]: Corrected codewords per second that fire FS0183; 0 disables -/
def DRC_ECC_CFG_ce_thr : Fld := { no := 573, base := 0x3100028, dims := [(0x10000, 12)], lo := 0, w := 16, acc := .rw, reset := fun _ => 1024 }

/-- DRC_ECC_CFG.ue_fail_thr [23:16]: Uncorrectable codewords per second that fail the channel; 0 disables -/
def DRC_ECC_CFG_ue_fail_thr : Fld := { no := 574, base := 0x3100028, dims := [(0x10000, 12)], lo := 16, w := 8, acc := .rw, reset := fun _ => 16 }

/-- DRC_ECC_CFG.scrub_h [31:24]: Patrol scrub period in hours, 1 to 168 (R331) -/
def DRC_ECC_CFG_scrub_h : Fld := { no := 575, base := 0x3100028, dims := [(0x10000, 12)], lo := 24, w := 8, acc := .rw, reset := fun _ => 24, lim := some (1, 168) }

/-- The register DRC_ECC_CFG. -/
def DRC_ECC_CFG : RegD := { base := 0x3100028, dims := [(0x10000, 12)], words := 1, flds := [DRC_ECC_CFG_ce_thr, DRC_ECC_CFG_ue_fail_thr, DRC_ECC_CFG_scrub_h] }

/-- DRC_LAST_UE.addr [39:0]: Channel byte address of the latest uncorrectable codeword. Read under R11 -/
def DRC_LAST_UE_addr : Fld := { no := 576, base := 0x3100030, dims := [(0x10000, 12)], lo := 0, w := 40, acc := .ro, reset := fun _ => 0 }

/-- The register DRC_LAST_UE. -/
def DRC_LAST_UE : RegD := { base := 0x3100030, dims := [(0x10000, 12)], words := 2, flds := [DRC_LAST_UE_addr] }

/-- DRC_TEMP.rate [2:0]: Highest refresh-rate code requested by any device (R332) -/
def DRC_TEMP_rate : Fld := { no := 577, base := 0x3100038, dims := [(0x10000, 12)], lo := 0, w := 3, acc := .ro, reset := fun _ => 0 }

/-- DRC_TEMP.high [3]: A device reports a temperature above its high limit -/
def DRC_TEMP_high : Fld := { no := 578, base := 0x3100038, dims := [(0x10000, 12)], lo := 3, w := 1, acc := .ro, reset := fun _ => 0 }

/-- The register DRC_TEMP. -/
def DRC_TEMP : RegD := { base := 0x3100038, dims := [(0x10000, 12)], words := 1, flds := [DRC_TEMP_rate, DRC_TEMP_high] }

/-- DRC_MARGIN.rd_min [7:0]: Shortest passing read run in the last pause, in offsets (R321) -/
def DRC_MARGIN_rd_min : Fld := { no := 579, base := 0x310003c, dims := [(0x10000, 12)], lo := 0, w := 8, acc := .ro, reset := fun _ => 0 }

/-- DRC_MARGIN.wr_min [15:8]: Shortest passing write run in the last pause -/
def DRC_MARGIN_wr_min : Fld := { no := 580, base := 0x310003c, dims := [(0x10000, 12)], lo := 8, w := 8, acc := .ro, reset := fun _ => 0 }

/-- DRC_MARGIN.drift [31:16]: Largest drift movement in use, signed, in 1/128 UI (R325); 0 for non-fixed channels -/
def DRC_MARGIN_drift : Fld := { no := 581, base := 0x310003c, dims := [(0x10000, 12)], lo := 16, w := 16, acc := .ro, reset := fun _ => 0 }

/-- The register DRC_MARGIN. -/
def DRC_MARGIN : RegD := { base := 0x310003c, dims := [(0x10000, 12)], words := 1, flds := [DRC_MARGIN_rd_min, DRC_MARGIN_wr_min, DRC_MARGIN_drift] }

/-- DRC_LAST_TRAIN.ntw [127:0]: NTW at which the last working setting was applied. Read under R11 -/
def DRC_LAST_TRAIN_ntw : Fld := { no := 582, base := 0x3100040, dims := [(0x10000, 12)], lo := 0, w := 128, acc := .ro, reset := fun _ => 0 }

/-- The register DRC_LAST_TRAIN. -/
def DRC_LAST_TRAIN : RegD := { base := 0x3100040, dims := [(0x10000, 12)], words := 4, flds := [DRC_LAST_TRAIN_ntw] }

/-- DRC_DLY_DQ.rd [8:0]: Read delay in 1/128 UI -/
def DRC_DLY_DQ_rd : Fld := { no := 583, base := 0x3101000, dims := [(0x10000, 12), (0x4, 80)], lo := 0, w := 9, acc := .ro, reset := fun _ => 0 }

/-- DRC_DLY_DQ.wr [20:12]: Write delay in 1/128 UI, including drift tracking -/
def DRC_DLY_DQ_wr : Fld := { no := 584, base := 0x3101000, dims := [(0x10000, 12), (0x4, 80)], lo := 12, w := 9, acc := .ro, reset := fun _ => 0 }

/-- DRC_DLY_DQ.vref [30:24]: Receiver reference voltage code -/
def DRC_DLY_DQ_vref : Fld := { no := 585, base := 0x3101000, dims := [(0x10000, 12), (0x4, 80)], lo := 24, w := 7, acc := .ro, reset := fun _ => 0 }

/-- The register DRC_DLY_DQ. -/
def DRC_DLY_DQ : RegD := { base := 0x3101000, dims := [(0x10000, 12), (0x4, 80)], words := 1, flds := [DRC_DLY_DQ_rd, DRC_DLY_DQ_wr, DRC_DLY_DQ_vref] }

/-- DRC_DLY_DQS.gate [9:0]: Read strobe gate delay in 1/128 UI -/
def DRC_DLY_DQS_gate : Fld := { no := 586, base := 0x3101200, dims := [(0x10000, 12), (0x4, 20)], lo := 0, w := 10, acc := .ro, reset := fun _ => 0 }

/-- DRC_DLY_DQS.wl [25:16]: Write levelling delay in 1/128 UI -/
def DRC_DLY_DQS_wl : Fld := { no := 587, base := 0x3101200, dims := [(0x10000, 12), (0x4, 20)], lo := 16, w := 10, acc := .ro, reset := fun _ => 0 }

/-- The register DRC_DLY_DQS. -/
def DRC_DLY_DQS : RegD := { base := 0x3101200, dims := [(0x10000, 12), (0x4, 20)], words := 1, flds := [DRC_DLY_DQS_gate, DRC_DLY_DQS_wl] }

/-- DRC_DLY_CA.ca [8:0]: Command-address delay in 1/128 UI -/
def DRC_DLY_CA_ca : Fld := { no := 588, base := 0x3101300, dims := [(0x10000, 12), (0x4, 2)], lo := 0, w := 9, acc := .ro, reset := fun _ => 0 }

/-- DRC_DLY_CA.cs [24:16]: Chip-select delay in 1/128 UI -/
def DRC_DLY_CA_cs : Fld := { no := 589, base := 0x3101300, dims := [(0x10000, 12), (0x4, 2)], lo := 16, w := 9, acc := .ro, reset := fun _ => 0 }

/-- The register DRC_DLY_CA. -/
def DRC_DLY_CA : RegD := { base := 0x3101300, dims := [(0x10000, 12), (0x4, 2)], words := 1, flds := [DRC_DLY_CA_ca, DRC_DLY_CA_cs] }

/-- Every register of the DRC block. -/
def regsDrc : List RegD :=
  [DRC_CTRL, DRC_STATUS, DRC_SPEED, DRC_ORG, DRC_INFO, DRC_SR, DRC_STICKY, DRC_CNT, DRC_SR_CNT, DRC_ECC_CNT, DRC_ECC_CFG, DRC_LAST_UE, DRC_TEMP, DRC_MARGIN, DRC_LAST_TRAIN, DRC_DLY_DQ, DRC_DLY_DQS, DRC_DLY_CA]

/-! ### Quilt: the registers of R368 -/

/-- QLT_STATUS.rej_write [0]: An RWP or reserved-layer write was rejected -/
def QLT_STATUS_rej_write : Fld := { no := 590, base := 0x3200000, dims := [], lo := 0, w := 1, acc := .w1c, reset := fun _ => 0 }

/-- QLT_STATUS.start_err [1]: A head start check failed -/
def QLT_STATUS_start_err : Fld := { no := 591, base := 0x3200000, dims := [], lo := 1, w := 1, acc := .w1c, reset := fun _ => 0 }

/-- QLT_STATUS.undrawn [2]: A layer part became undrawable -/
def QLT_STATUS_undrawn : Fld := { no := 592, base := 0x3200000, dims := [], lo := 2, w := 1, acc := .w1c, reset := fun _ => 0 }

/-- QLT_STATUS.fb [3]: A layer fell back to bilinear (R354) -/
def QLT_STATUS_fb : Fld := { no := 593, base := 0x3200000, dims := [], lo := 3, w := 1, acc := .w1c, reset := fun _ => 0 }

/-- QLT_STATUS.commit_ref [4]: A commit was refused -/
def QLT_STATUS_commit_ref : Fld := { no := 594, base := 0x3200000, dims := [], lo := 4, w := 1, acc := .w1c, reset := fun _ => 0 }

/-- QLT_STATUS.busy [5]: A write to a PENDING layer was ignored -/
def QLT_STATUS_busy : Fld := { no := 595, base := 0x3200000, dims := [], lo := 5, w := 1, acc := .w1c, reset := fun _ => 0 }

/-- QLT_STATUS.inuse_write [6]: A write to a bank or program in use was ignored -/
def QLT_STATUS_inuse_write : Fld := { no := 596, base := 0x3200000, dims := [], lo := 6, w := 1, acc := .w1c, reset := fun _ => 0 }

/-- QLT_STATUS.tear [7]: A torn frame was read -/
def QLT_STATUS_tear : Fld := { no := 597, base := 0x3200000, dims := [], lo := 7, w := 1, acc := .w1c, reset := fun _ => 0 }

/-- The register QLT_STATUS. -/
def QLT_STATUS : RegD := { base := 0x3200000, dims := [], words := 1, flds := [QLT_STATUS_rej_write, QLT_STATUS_start_err, QLT_STATUS_undrawn, QLT_STATUS_fb, QLT_STATUS_commit_ref, QLT_STATUS_busy, QLT_STATUS_inuse_write, QLT_STATUS_tear] }

/-- QLT_HEAD_CTRL.en [0]: 1 requests start, 0 requests stop (R339) -/
def QLT_HEAD_CTRL_en : Fld := { no := 598, base := 0x3201000, dims := [(0x100, 16)], lo := 0, w := 1, acc := .rw, reset := fun _ => 0 }

/-- The register QLT_HEAD_CTRL. -/
def QLT_HEAD_CTRL : RegD := { base := 0x3201000, dims := [(0x100, 16)], words := 1, flds := [QLT_HEAD_CTRL_en] }

/-- QLT_HEAD_STATUS.state [2:0]: 0 STOPPED, 1 STARTING, 2 RUNNING, 3 STOPPING, 4 FAILED -/
def QLT_HEAD_STATUS_state : Fld := { no := 599, base := 0x3201004, dims := [(0x100, 16)], lo := 0, w := 3, acc := .ro, reset := fun _ => 0 }

/-- QLT_HEAD_STATUS.gang_role [5:4]: 0 alone, 1 lowest head of a gang, 2 other member -/
def QLT_HEAD_STATUS_gang_role : Fld := { no := 600, base := 0x3201004, dims := [(0x100, 16)], lo := 4, w := 2, acc := .ro, reset := fun _ => 0 }

/-- QLT_HEAD_STATUS.pool [6]: In the conversion pool -/
def QLT_HEAD_STATUS_pool : Fld := { no := 601, base := 0x3201004, dims := [(0x100, 16)], lo := 6, w := 1, acc := .ro, reset := fun _ => 0 }

/-- QLT_HEAD_STATUS.conv_active [7]: Running as a conversion head -/
def QLT_HEAD_STATUS_conv_active : Fld := { no := 602, base := 0x3201004, dims := [(0x100, 16)], lo := 7, w := 1, acc := .ro, reset := fun _ => 0 }

/-- QLT_HEAD_STATUS.layers [14:8]: Layers belonging to the head, 0 to 64 -/
def QLT_HEAD_STATUS_layers : Fld := { no := 603, base := 0x3201004, dims := [(0x100, 16)], lo := 8, w := 7, acc := .ro, reset := fun _ => 0 }

/-- The register QLT_HEAD_STATUS. -/
def QLT_HEAD_STATUS : RegD := { base := 0x3201004, dims := [(0x100, 16)], words := 1, flds := [QLT_HEAD_STATUS_state, QLT_HEAD_STATUS_gang_role, QLT_HEAD_STATUS_pool, QLT_HEAD_STATUS_conv_active, QLT_HEAD_STATUS_layers] }

/-- QLT_HEAD_FMT.fmt [7:0]: Format-table entry -/
def QLT_HEAD_FMT_fmt : Fld := { no := 604, base := 0x3201008, dims := [(0x100, 16)], lo := 0, w := 8, acc := .rwp, reset := fun _ => 0 }

/-- QLT_HEAD_FMT.fam [11:8]: Family -/
def QLT_HEAD_FMT_fam : Fld := { no := 605, base := 0x3201008, dims := [(0x100, 16)], lo := 8, w := 4, acc := .rwp, reset := fun _ => 0 }

/-- QLT_HEAD_FMT.cspace [13:12]: Colour space (R338); 3 fails the start check -/
def QLT_HEAD_FMT_cspace : Fld := { no := 606, base := 0x3201008, dims := [(0x100, 16)], lo := 12, w := 2, acc := .rwp, reset := fun _ => 0 }

/-- QLT_HEAD_FMT.gang [16]: Member of a gang (R340) -/
def QLT_HEAD_FMT_gang : Fld := { no := 607, base := 0x3201008, dims := [(0x100, 16)], lo := 16, w := 1, acc := .rwp, reset := fun _ => 0 }

/-- QLT_HEAD_FMT.ovl_top [17]: Overlay over the whole head (R360) -/
def QLT_HEAD_FMT_ovl_top : Fld := { no := 608, base := 0x3201008, dims := [(0x100, 16)], lo := 17, w := 1, acc := .rwp, reset := fun _ => 0 }

/-- The register QLT_HEAD_FMT. -/
def QLT_HEAD_FMT : RegD := { base := 0x3201008, dims := [(0x100, 16)], words := 1, flds := [QLT_HEAD_FMT_fmt, QLT_HEAD_FMT_fam, QLT_HEAD_FMT_cspace, QLT_HEAD_FMT_gang, QLT_HEAD_FMT_ovl_top] }

/-- QLT_HEAD_FILL.colour [29:0]: Fill colour (black) -/
def QLT_HEAD_FILL_colour : Fld := { no := 609, base := 0x320100c, dims := [(0x100, 16)], lo := 0, w := 30, acc := .rwp, reset := fun _ => 0x4010040 }

/-- The register QLT_HEAD_FILL. -/
def QLT_HEAD_FILL : RegD := { base := 0x320100c, dims := [(0x100, 16)], words := 1, flds := [QLT_HEAD_FILL_colour] }

/-- QLT_HEAD_TALLY.colour [29:0]: Tally colours: red, green and amber -/
def QLT_HEAD_TALLY_colour : Fld := { no := 610, base := 0x3201014, dims := [(0x100, 16), (0x4, 3)], lo := 0, w := 30, acc := .rwp, reset := fun ix => [0x040103AC, 0x040EB040, 0x040AF3AC].getD (ix.getD 1 0) 0 }

/-- The register QLT_HEAD_TALLY. -/
def QLT_HEAD_TALLY : RegD := { base := 0x3201014, dims := [(0x100, 16), (0x4, 3)], words := 1, flds := [QLT_HEAD_TALLY_colour] }

/-- QLT_HEAD_ALARM.colour [29:0]: Alarm colour -/
def QLT_HEAD_ALARM_colour : Fld := { no := 611, base := 0x3201020, dims := [(0x100, 16)], lo := 0, w := 30, acc := .rwp, reset := fun _ => 0x40103ac }

/-- The register QLT_HEAD_ALARM. -/
def QLT_HEAD_ALARM : RegD := { base := 0x3201020, dims := [(0x100, 16)], words := 1, flds := [QLT_HEAD_ALARM_colour] }

/-- QLT_HEAD_GFXW.gfx_white [31:0]: Overlay white level, binary32 (R362) -/
def QLT_HEAD_GFXW_gfx_white : Fld := { no := 612, base := 0x3201024, dims := [(0x100, 16)], lo := 0, w := 32, acc := .rwp, reset := fun _ => 0x3f800000 }

/-- The register QLT_HEAD_GFXW. -/
def QLT_HEAD_GFXW : RegD := { base := 0x3201024, dims := [(0x100, 16)], words := 1, flds := [QLT_HEAD_GFXW_gfx_white] }

/-- QLT_HEAD_METER.range [5:0]: Scale range in dB, 20 to 60 -/
def QLT_HEAD_METER_range : Fld := { no := 613, base := 0x3201028, dims := [(0x100, 16)], lo := 0, w := 6, acc := .rwp, reset := fun _ => 60, lim := some (20, 60) }

/-- QLT_HEAD_METER.decay [13:8]: Fall-back rate in dB/s, 1 to 60 -/
def QLT_HEAD_METER_decay : Fld := { no := 614, base := 0x3201028, dims := [(0x100, 16)], lo := 8, w := 6, acc := .rwp, reset := fun _ => 20, lim := some (1, 60) }

/-- QLT_HEAD_METER.hold_s [19:16]: Peak hold and clip indication in s, 0 to 10 -/
def QLT_HEAD_METER_hold_s : Fld := { no := 615, base := 0x3201028, dims := [(0x100, 16)], lo := 16, w := 4, acc := .rwp, reset := fun _ => 2, lim := some (0, 10) }

/-- QLT_HEAD_METER.mid [25:20]: Mid zone from −mid dBFS -/
def QLT_HEAD_METER_mid : Fld := { no := 616, base := 0x3201028, dims := [(0x100, 16)], lo := 20, w := 6, acc := .rwp, reset := fun _ => 18 }

/-- QLT_HEAD_METER.hi [31:26]: High zone from −hi dBFS -/
def QLT_HEAD_METER_hi : Fld := { no := 617, base := 0x3201028, dims := [(0x100, 16)], lo := 26, w := 6, acc := .rwp, reset := fun _ => 6 }

/-- The register QLT_HEAD_METER. -/
def QLT_HEAD_METER : RegD := { base := 0x3201028, dims := [(0x100, 16)], words := 1, flds := [QLT_HEAD_METER_range, QLT_HEAD_METER_decay, QLT_HEAD_METER_hold_s, QLT_HEAD_METER_mid, QLT_HEAD_METER_hi] }

/-- QLT_HEAD_MCOL.colour [29:0]: Low, mid, high and data colours -/
def QLT_HEAD_MCOL_colour : Fld := { no := 618, base := 0x320102c, dims := [(0x100, 16), (0x4, 4)], lo := 0, w := 30, acc := .rwp, reset := fun ix => [0x040EB040, 0x040AF3AC, 0x040103AC, 0x3AC10040].getD (ix.getD 1 0) 0 }

/-- The register QLT_HEAD_MCOL. -/
def QLT_HEAD_MCOL : RegD := { base := 0x320102c, dims := [(0x100, 16), (0x4, 4)], words := 1, flds := [QLT_HEAD_MCOL_colour] }

/-- QLT_HEAD_CONV.repeats [15:0]: Source frames read twice, saturating (R365) -/
def QLT_HEAD_CONV_repeats : Fld := { no := 619, base := 0x3201040, dims := [(0x100, 16)], lo := 0, w := 16, acc := .rc, reset := fun _ => 0 }

/-- QLT_HEAD_CONV.drops [31:16]: Source frames never read, saturating -/
def QLT_HEAD_CONV_drops : Fld := { no := 620, base := 0x3201040, dims := [(0x100, 16)], lo := 16, w := 16, acc := .rc, reset := fun _ => 0 }

/-- The register QLT_HEAD_CONV. -/
def QLT_HEAD_CONV : RegD := { base := 0x3201040, dims := [(0x100, 16)], words := 1, flds := [QLT_HEAD_CONV_repeats, QLT_HEAD_CONV_drops] }

/-- QLT_SH_CFG.en [0]: Layer drawn -/
def QLT_SH_CFG_en : Fld := { no := 621, base := 0x3210000, dims := [(0x80, 512)], lo := 0, w := 1, acc := .rw, reset := fun _ => 0 }

/-- QLT_SH_CFG.head [5:1]: Head 0 to 15; 0x1F for none; 16 to 30 act as none -/
def QLT_SH_CFG_head : Fld := { no := 622, base := 0x3210000, dims := [(0x80, 512)], lo := 1, w := 5, acc := .rwp, reset := fun _ => 31 }

/-- QLT_SH_CFG.z [13:8]: z-order -/
def QLT_SH_CFG_z : Fld := { no := 623, base := 0x3210000, dims := [(0x80, 512)], lo := 8, w := 6, acc := .rw, reset := fun _ => 0 }

/-- QLT_SH_CFG.filter [14]: 0 polyphase, 1 bilinear -/
def QLT_SH_CFG_filter : Fld := { no := 624, base := 0x3210000, dims := [(0x80, 512)], lo := 14, w := 1, acc := .rw, reset := fun _ => 0 }

/-- QLT_SH_CFG.field [15]: 1 scales field 1 only -/
def QLT_SH_CFG_field : Fld := { no := 625, base := 0x3210000, dims := [(0x80, 512)], lo := 15, w := 1, acc := .rw, reset := fun _ => 0 }

/-- QLT_SH_CFG.bank [19:16]: Coefficient bank -/
def QLT_SH_CFG_bank : Fld := { no := 626, base := 0x3210000, dims := [(0x80, 512)], lo := 16, w := 4, acc := .rw, reset := fun _ => 0 }

/-- QLT_SH_CFG.prog [23:20]: Colour program -/
def QLT_SH_CFG_prog : Fld := { no := 627, base := 0x3210000, dims := [(0x80, 512)], lo := 20, w := 4, acc := .rw, reset := fun _ => 0 }

/-- QLT_SH_CFG.alpha_mode [24]: 0 straight, 1 premultiplied -/
def QLT_SH_CFG_alpha_mode : Fld := { no := 628, base := 0x3210000, dims := [(0x80, 512)], lo := 24, w := 1, acc := .rw, reset := fun _ => 0 }

/-- QLT_SH_CFG.lost_mode [26:25]: 0 freeze, 1 lost colour, 2 transparent; 3 acts as 0 -/
def QLT_SH_CFG_lost_mode : Fld := { no := 629, base := 0x3210000, dims := [(0x80, 512)], lo := 25, w := 2, acc := .rw, reset := fun _ => 0 }

/-- QLT_SH_CFG.ovl [27]: Overlay within the outer rectangle -/
def QLT_SH_CFG_ovl : Fld := { no := 630, base := 0x3210000, dims := [(0x80, 512)], lo := 27, w := 1, acc := .rw, reset := fun _ => 0 }

/-- The register QLT_SH_CFG. -/
def QLT_SH_CFG : RegD := { base := 0x3210000, dims := [(0x80, 512)], words := 1, flds := [QLT_SH_CFG_en, QLT_SH_CFG_head, QLT_SH_CFG_z, QLT_SH_CFG_filter, QLT_SH_CFG_field, QLT_SH_CFG_bank, QLT_SH_CFG_prog, QLT_SH_CFG_alpha_mode, QLT_SH_CFG_lost_mode, QLT_SH_CFG_ovl] }

/-- QLT_SH_SRC.src [15:0]: Source number -/
def QLT_SH_SRC_src : Fld := { no := 631, base := 0x3210004, dims := [(0x80, 512)], lo := 0, w := 16, acc := .rw, reset := fun _ => 0xffff }

/-- QLT_SH_SRC.key [31:16]: Key source number -/
def QLT_SH_SRC_key : Fld := { no := 632, base := 0x3210004, dims := [(0x80, 512)], lo := 16, w := 16, acc := .rw, reset := fun _ => 0xffff }

/-- The register QLT_SH_SRC. -/
def QLT_SH_SRC : RegD := { base := 0x3210004, dims := [(0x80, 512)], words := 1, flds := [QLT_SH_SRC_src, QLT_SH_SRC_key] }

/-- QLT_SH_CROP_XY.cx [14:0]: Crop left, full-size pixels -/
def QLT_SH_CROP_XY_cx : Fld := { no := 633, base := 0x3210008, dims := [(0x80, 512)], lo := 0, w := 15, acc := .rw, reset := fun _ => 0 }

/-- QLT_SH_CROP_XY.cy [30:16]: Crop top, lines -/
def QLT_SH_CROP_XY_cy : Fld := { no := 634, base := 0x3210008, dims := [(0x80, 512)], lo := 16, w := 15, acc := .rw, reset := fun _ => 0 }

/-- The register QLT_SH_CROP_XY. -/
def QLT_SH_CROP_XY : RegD := { base := 0x3210008, dims := [(0x80, 512)], words := 1, flds := [QLT_SH_CROP_XY_cx, QLT_SH_CROP_XY_cy] }

/-- QLT_SH_CROP_WH.cw [14:0]: Crop width -/
def QLT_SH_CROP_WH_cw : Fld := { no := 635, base := 0x321000c, dims := [(0x80, 512)], lo := 0, w := 15, acc := .rw, reset := fun _ => 1, lim := some (1, 32767) }

/-- QLT_SH_CROP_WH.ch [30:16]: Crop height -/
def QLT_SH_CROP_WH_ch : Fld := { no := 636, base := 0x321000c, dims := [(0x80, 512)], lo := 16, w := 15, acc := .rw, reset := fun _ => 1, lim := some (1, 32767) }

/-- The register QLT_SH_CROP_WH. -/
def QLT_SH_CROP_WH : RegD := { base := 0x321000c, dims := [(0x80, 512)], words := 1, flds := [QLT_SH_CROP_WH_cw, QLT_SH_CROP_WH_ch] }

/-- QLT_SH_RECT_XY.rx [15:0]: Rectangle left, signed -/
def QLT_SH_RECT_XY_rx : Fld := { no := 637, base := 0x3210010, dims := [(0x80, 512)], lo := 0, w := 16, acc := .rw, reset := fun _ => 0 }

/-- QLT_SH_RECT_XY.ry [31:16]: Rectangle top, signed -/
def QLT_SH_RECT_XY_ry : Fld := { no := 638, base := 0x3210010, dims := [(0x80, 512)], lo := 16, w := 16, acc := .rw, reset := fun _ => 0 }

/-- The register QLT_SH_RECT_XY. -/
def QLT_SH_RECT_XY : RegD := { base := 0x3210010, dims := [(0x80, 512)], words := 1, flds := [QLT_SH_RECT_XY_rx, QLT_SH_RECT_XY_ry] }

/-- QLT_SH_RECT_WH.rw [13:0]: Rectangle width -/
def QLT_SH_RECT_WH_rw : Fld := { no := 639, base := 0x3210014, dims := [(0x80, 512)], lo := 0, w := 14, acc := .rw, reset := fun _ => 1, lim := some (1, 16383) }

/-- QLT_SH_RECT_WH.rh [29:16]: Rectangle height -/
def QLT_SH_RECT_WH_rh : Fld := { no := 640, base := 0x3210014, dims := [(0x80, 512)], lo := 16, w := 14, acc := .rw, reset := fun _ => 1, lim := some (1, 16383) }

/-- The register QLT_SH_RECT_WH. -/
def QLT_SH_RECT_WH : RegD := { base := 0x3210014, dims := [(0x80, 512)], words := 1, flds := [QLT_SH_RECT_WH_rw, QLT_SH_RECT_WH_rh] }

/-- QLT_SH_ALPHA.alpha [31:0]: Layer alpha, binary32 -/
def QLT_SH_ALPHA_alpha : Fld := { no := 641, base := 0x3210018, dims := [(0x80, 512)], lo := 0, w := 32, acc := .rw, reset := fun _ => 0x3f800000 }

/-- The register QLT_SH_ALPHA. -/
def QLT_SH_ALPHA : RegD := { base := 0x3210018, dims := [(0x80, 512)], words := 1, flds := [QLT_SH_ALPHA_alpha] }

/-- QLT_SH_BCOL.colour [29:0]: Border colour (white) -/
def QLT_SH_BCOL_colour : Fld := { no := 642, base := 0x321001c, dims := [(0x80, 512)], lo := 0, w := 30, acc := .rw, reset := fun _ => 0x3aceb3ac }

/-- The register QLT_SH_BCOL. -/
def QLT_SH_BCOL : RegD := { base := 0x321001c, dims := [(0x80, 512)], words := 1, flds := [QLT_SH_BCOL_colour] }

/-- QLT_SH_BORDER.width [3:0]: Border width in pixels -/
def QLT_SH_BORDER_width : Fld := { no := 643, base := 0x3210020, dims := [(0x80, 512)], lo := 0, w := 4, acc := .rw, reset := fun _ => 0 }

/-- QLT_SH_BORDER.tally [5:4]: Tally palette entry; 0 off -/
def QLT_SH_BORDER_tally : Fld := { no := 644, base := 0x3210020, dims := [(0x80, 512)], lo := 4, w := 2, acc := .rw, reset := fun _ => 0 }

/-- The register QLT_SH_BORDER. -/
def QLT_SH_BORDER : RegD := { base := 0x3210020, dims := [(0x80, 512)], words := 1, flds := [QLT_SH_BORDER_width, QLT_SH_BORDER_tally] }

/-- QLT_SH_METER.count [4:0]: Bars, 0 to 16 -/
def QLT_SH_METER_count : Fld := { no := 645, base := 0x3210024, dims := [(0x80, 512)], lo := 0, w := 5, acc := .rw, reset := fun _ => 0, lim := some (0, 16) }

/-- QLT_SH_METER.side [8]: 0 left edge, 1 right edge -/
def QLT_SH_METER_side : Fld := { no := 646, base := 0x3210024, dims := [(0x80, 512)], lo := 8, w := 1, acc := .rw, reset := fun _ => 0 }

/-- QLT_SH_METER.bar_w [14:9]: Bar width in pixels, 2 to 32 -/
def QLT_SH_METER_bar_w : Fld := { no := 647, base := 0x3210024, dims := [(0x80, 512)], lo := 9, w := 6, acc := .rw, reset := fun _ => 6, lim := some (2, 32) }

/-- The register QLT_SH_METER. -/
def QLT_SH_METER : RegD := { base := 0x3210024, dims := [(0x80, 512)], words := 1, flds := [QLT_SH_METER_count, QLT_SH_METER_side, QLT_SH_METER_bar_w] }

/-- QLT_SH_MCH.even [14:0]: Channel of bar 2j -/
def QLT_SH_MCH_even : Fld := { no := 648, base := 0x3210028, dims := [(0x80, 512), (0x4, 8)], lo := 0, w := 15, acc := .rw, reset := fun _ => 0 }

/-- QLT_SH_MCH.odd [30:16]: Channel of bar 2j + 1 -/
def QLT_SH_MCH_odd : Fld := { no := 649, base := 0x3210028, dims := [(0x80, 512), (0x4, 8)], lo := 16, w := 15, acc := .rw, reset := fun _ => 0 }

/-- The register QLT_SH_MCH. -/
def QLT_SH_MCH : RegD := { base := 0x3210028, dims := [(0x80, 512), (0x4, 8)], words := 1, flds := [QLT_SH_MCH_even, QLT_SH_MCH_odd] }

/-- QLT_SH_LCOL.colour [29:0]: Lost colour -/
def QLT_SH_LCOL_colour : Fld := { no := 650, base := 0x3210048, dims := [(0x80, 512)], lo := 0, w := 30, acc := .rw, reset := fun _ => 0x4010040 }

/-- The register QLT_SH_LCOL. -/
def QLT_SH_LCOL : RegD := { base := 0x3210048, dims := [(0x80, 512)], words := 1, flds := [QLT_SH_LCOL_colour] }

/-- QLT_SH_COMMIT.commit [0]: 1 commits the shadow settings (R346); only in the shadow layout -/
def QLT_SH_COMMIT_commit : Fld := { no := 651, base := 0x321007c, dims := [(0x80, 512)], lo := 0, w := 1, acc := .wo, reset := fun _ => 0 }

/-- The register QLT_SH_COMMIT. -/
def QLT_SH_COMMIT : RegD := { base := 0x321007c, dims := [(0x80, 512)], words := 1, flds := [QLT_SH_COMMIT_commit] }

/-- QLT_AC_CFG.en [0]: Layer drawn -/
def QLT_AC_CFG_en : Fld := { no := 652, base := 0x3220000, dims := [(0x80, 512)], lo := 0, w := 1, acc := .ro, reset := fun _ => 0 }

/-- QLT_AC_CFG.head [5:1]: Head 0 to 15; 0x1F for none; 16 to 30 act as none -/
def QLT_AC_CFG_head : Fld := { no := 653, base := 0x3220000, dims := [(0x80, 512)], lo := 1, w := 5, acc := .ro, reset := fun _ => 31 }

/-- QLT_AC_CFG.z [13:8]: z-order -/
def QLT_AC_CFG_z : Fld := { no := 654, base := 0x3220000, dims := [(0x80, 512)], lo := 8, w := 6, acc := .ro, reset := fun _ => 0 }

/-- QLT_AC_CFG.filter [14]: 0 polyphase, 1 bilinear -/
def QLT_AC_CFG_filter : Fld := { no := 655, base := 0x3220000, dims := [(0x80, 512)], lo := 14, w := 1, acc := .ro, reset := fun _ => 0 }

/-- QLT_AC_CFG.field [15]: 1 scales field 1 only -/
def QLT_AC_CFG_field : Fld := { no := 656, base := 0x3220000, dims := [(0x80, 512)], lo := 15, w := 1, acc := .ro, reset := fun _ => 0 }

/-- QLT_AC_CFG.bank [19:16]: Coefficient bank -/
def QLT_AC_CFG_bank : Fld := { no := 657, base := 0x3220000, dims := [(0x80, 512)], lo := 16, w := 4, acc := .ro, reset := fun _ => 0 }

/-- QLT_AC_CFG.prog [23:20]: Colour program -/
def QLT_AC_CFG_prog : Fld := { no := 658, base := 0x3220000, dims := [(0x80, 512)], lo := 20, w := 4, acc := .ro, reset := fun _ => 0 }

/-- QLT_AC_CFG.alpha_mode [24]: 0 straight, 1 premultiplied -/
def QLT_AC_CFG_alpha_mode : Fld := { no := 659, base := 0x3220000, dims := [(0x80, 512)], lo := 24, w := 1, acc := .ro, reset := fun _ => 0 }

/-- QLT_AC_CFG.lost_mode [26:25]: 0 freeze, 1 lost colour, 2 transparent; 3 acts as 0 -/
def QLT_AC_CFG_lost_mode : Fld := { no := 660, base := 0x3220000, dims := [(0x80, 512)], lo := 25, w := 2, acc := .ro, reset := fun _ => 0 }

/-- QLT_AC_CFG.ovl [27]: Overlay within the outer rectangle -/
def QLT_AC_CFG_ovl : Fld := { no := 661, base := 0x3220000, dims := [(0x80, 512)], lo := 27, w := 1, acc := .ro, reset := fun _ => 0 }

/-- The register QLT_AC_CFG. -/
def QLT_AC_CFG : RegD := { base := 0x3220000, dims := [(0x80, 512)], words := 1, flds := [QLT_AC_CFG_en, QLT_AC_CFG_head, QLT_AC_CFG_z, QLT_AC_CFG_filter, QLT_AC_CFG_field, QLT_AC_CFG_bank, QLT_AC_CFG_prog, QLT_AC_CFG_alpha_mode, QLT_AC_CFG_lost_mode, QLT_AC_CFG_ovl] }

/-- QLT_AC_SRC.src [15:0]: Source number -/
def QLT_AC_SRC_src : Fld := { no := 662, base := 0x3220004, dims := [(0x80, 512)], lo := 0, w := 16, acc := .ro, reset := fun _ => 0xffff }

/-- QLT_AC_SRC.key [31:16]: Key source number -/
def QLT_AC_SRC_key : Fld := { no := 663, base := 0x3220004, dims := [(0x80, 512)], lo := 16, w := 16, acc := .ro, reset := fun _ => 0xffff }

/-- The register QLT_AC_SRC. -/
def QLT_AC_SRC : RegD := { base := 0x3220004, dims := [(0x80, 512)], words := 1, flds := [QLT_AC_SRC_src, QLT_AC_SRC_key] }

/-- QLT_AC_CROP_XY.cx [14:0]: Crop left, full-size pixels -/
def QLT_AC_CROP_XY_cx : Fld := { no := 664, base := 0x3220008, dims := [(0x80, 512)], lo := 0, w := 15, acc := .ro, reset := fun _ => 0 }

/-- QLT_AC_CROP_XY.cy [30:16]: Crop top, lines -/
def QLT_AC_CROP_XY_cy : Fld := { no := 665, base := 0x3220008, dims := [(0x80, 512)], lo := 16, w := 15, acc := .ro, reset := fun _ => 0 }

/-- The register QLT_AC_CROP_XY. -/
def QLT_AC_CROP_XY : RegD := { base := 0x3220008, dims := [(0x80, 512)], words := 1, flds := [QLT_AC_CROP_XY_cx, QLT_AC_CROP_XY_cy] }

/-- QLT_AC_CROP_WH.cw [14:0]: Crop width -/
def QLT_AC_CROP_WH_cw : Fld := { no := 666, base := 0x322000c, dims := [(0x80, 512)], lo := 0, w := 15, acc := .ro, reset := fun _ => 1 }

/-- QLT_AC_CROP_WH.ch [30:16]: Crop height -/
def QLT_AC_CROP_WH_ch : Fld := { no := 667, base := 0x322000c, dims := [(0x80, 512)], lo := 16, w := 15, acc := .ro, reset := fun _ => 1 }

/-- The register QLT_AC_CROP_WH. -/
def QLT_AC_CROP_WH : RegD := { base := 0x322000c, dims := [(0x80, 512)], words := 1, flds := [QLT_AC_CROP_WH_cw, QLT_AC_CROP_WH_ch] }

/-- QLT_AC_RECT_XY.rx [15:0]: Rectangle left, signed -/
def QLT_AC_RECT_XY_rx : Fld := { no := 668, base := 0x3220010, dims := [(0x80, 512)], lo := 0, w := 16, acc := .ro, reset := fun _ => 0 }

/-- QLT_AC_RECT_XY.ry [31:16]: Rectangle top, signed -/
def QLT_AC_RECT_XY_ry : Fld := { no := 669, base := 0x3220010, dims := [(0x80, 512)], lo := 16, w := 16, acc := .ro, reset := fun _ => 0 }

/-- The register QLT_AC_RECT_XY. -/
def QLT_AC_RECT_XY : RegD := { base := 0x3220010, dims := [(0x80, 512)], words := 1, flds := [QLT_AC_RECT_XY_rx, QLT_AC_RECT_XY_ry] }

/-- QLT_AC_RECT_WH.rw [13:0]: Rectangle width -/
def QLT_AC_RECT_WH_rw : Fld := { no := 670, base := 0x3220014, dims := [(0x80, 512)], lo := 0, w := 14, acc := .ro, reset := fun _ => 1 }

/-- QLT_AC_RECT_WH.rh [29:16]: Rectangle height -/
def QLT_AC_RECT_WH_rh : Fld := { no := 671, base := 0x3220014, dims := [(0x80, 512)], lo := 16, w := 14, acc := .ro, reset := fun _ => 1 }

/-- The register QLT_AC_RECT_WH. -/
def QLT_AC_RECT_WH : RegD := { base := 0x3220014, dims := [(0x80, 512)], words := 1, flds := [QLT_AC_RECT_WH_rw, QLT_AC_RECT_WH_rh] }

/-- QLT_AC_ALPHA.alpha [31:0]: Layer alpha, binary32 -/
def QLT_AC_ALPHA_alpha : Fld := { no := 672, base := 0x3220018, dims := [(0x80, 512)], lo := 0, w := 32, acc := .ro, reset := fun _ => 0x3f800000 }

/-- The register QLT_AC_ALPHA. -/
def QLT_AC_ALPHA : RegD := { base := 0x3220018, dims := [(0x80, 512)], words := 1, flds := [QLT_AC_ALPHA_alpha] }

/-- QLT_AC_BCOL.colour [29:0]: Border colour (white) -/
def QLT_AC_BCOL_colour : Fld := { no := 673, base := 0x322001c, dims := [(0x80, 512)], lo := 0, w := 30, acc := .ro, reset := fun _ => 0x3aceb3ac }

/-- The register QLT_AC_BCOL. -/
def QLT_AC_BCOL : RegD := { base := 0x322001c, dims := [(0x80, 512)], words := 1, flds := [QLT_AC_BCOL_colour] }

/-- QLT_AC_BORDER.width [3:0]: Border width in pixels -/
def QLT_AC_BORDER_width : Fld := { no := 674, base := 0x3220020, dims := [(0x80, 512)], lo := 0, w := 4, acc := .ro, reset := fun _ => 0 }

/-- QLT_AC_BORDER.tally [5:4]: Tally palette entry; 0 off -/
def QLT_AC_BORDER_tally : Fld := { no := 675, base := 0x3220020, dims := [(0x80, 512)], lo := 4, w := 2, acc := .ro, reset := fun _ => 0 }

/-- The register QLT_AC_BORDER. -/
def QLT_AC_BORDER : RegD := { base := 0x3220020, dims := [(0x80, 512)], words := 1, flds := [QLT_AC_BORDER_width, QLT_AC_BORDER_tally] }

/-- QLT_AC_METER.count [4:0]: Bars, 0 to 16 -/
def QLT_AC_METER_count : Fld := { no := 676, base := 0x3220024, dims := [(0x80, 512)], lo := 0, w := 5, acc := .ro, reset := fun _ => 0 }

/-- QLT_AC_METER.side [8]: 0 left edge, 1 right edge -/
def QLT_AC_METER_side : Fld := { no := 677, base := 0x3220024, dims := [(0x80, 512)], lo := 8, w := 1, acc := .ro, reset := fun _ => 0 }

/-- QLT_AC_METER.bar_w [14:9]: Bar width in pixels, 2 to 32 -/
def QLT_AC_METER_bar_w : Fld := { no := 678, base := 0x3220024, dims := [(0x80, 512)], lo := 9, w := 6, acc := .ro, reset := fun _ => 6 }

/-- The register QLT_AC_METER. -/
def QLT_AC_METER : RegD := { base := 0x3220024, dims := [(0x80, 512)], words := 1, flds := [QLT_AC_METER_count, QLT_AC_METER_side, QLT_AC_METER_bar_w] }

/-- QLT_AC_MCH.even [14:0]: Channel of bar 2j -/
def QLT_AC_MCH_even : Fld := { no := 679, base := 0x3220028, dims := [(0x80, 512), (0x4, 8)], lo := 0, w := 15, acc := .ro, reset := fun _ => 0 }

/-- QLT_AC_MCH.odd [30:16]: Channel of bar 2j + 1 -/
def QLT_AC_MCH_odd : Fld := { no := 680, base := 0x3220028, dims := [(0x80, 512), (0x4, 8)], lo := 16, w := 15, acc := .ro, reset := fun _ => 0 }

/-- The register QLT_AC_MCH. -/
def QLT_AC_MCH : RegD := { base := 0x3220028, dims := [(0x80, 512), (0x4, 8)], words := 1, flds := [QLT_AC_MCH_even, QLT_AC_MCH_odd] }

/-- QLT_AC_LCOL.colour [29:0]: Lost colour -/
def QLT_AC_LCOL_colour : Fld := { no := 681, base := 0x3220048, dims := [(0x80, 512)], lo := 0, w := 30, acc := .ro, reset := fun _ => 0x4010040 }

/-- The register QLT_AC_LCOL. -/
def QLT_AC_LCOL : RegD := { base := 0x3220048, dims := [(0x80, 512)], words := 1, flds := [QLT_AC_LCOL_colour] }

/-- QLT_LAYER_RES.state [1:0]: 0 IDLE, 1 PENDING, 2 DONE -/
def QLT_LAYER_RES_state : Fld := { no := 682, base := 0x3230000, dims := [(0x10, 512)], lo := 0, w := 2, acc := .ro, reset := fun _ => 0 }

/-- QLT_LAYER_RES.code [7:4]: Status code (R119) -/
def QLT_LAYER_RES_code : Fld := { no := 683, base := 0x3230000, dims := [(0x10, 512)], lo := 4, w := 4, acc := .ro, reset := fun _ => 0 }

/-- The register QLT_LAYER_RES. -/
def QLT_LAYER_RES : RegD := { base := 0x3230000, dims := [(0x10, 512)], words := 1, flds := [QLT_LAYER_RES_state, QLT_LAYER_RES_code] }

/-- QLT_LAYER_ST.mode [1:0]: 0 polyphase, 1 bilinear, 2 undrawable, 3 not placed -/
def QLT_LAYER_ST_mode : Fld := { no := 684, base := 0x3230004, dims := [(0x10, 512)], lo := 0, w := 2, acc := .ro, reset := fun _ => 0 }

/-- QLT_LAYER_ST.fallback [2]: Bilinear by fallback (R354) -/
def QLT_LAYER_ST_fallback : Fld := { no := 685, base := 0x3230004, dims := [(0x10, 512)], lo := 2, w := 1, acc := .ro, reset := fun _ => 0 }

/-- QLT_LAYER_ST.lost [3]: Source lost (R350) -/
def QLT_LAYER_ST_lost : Fld := { no := 686, base := 0x3230004, dims := [(0x10, 512)], lo := 3, w := 1, acc := .ro, reset := fun _ => 0 }

/-- QLT_LAYER_ST.tears [31:16]: Torn frames read, saturating (R349) -/
def QLT_LAYER_ST_tears : Fld := { no := 687, base := 0x3230004, dims := [(0x10, 512)], lo := 16, w := 16, acc := .rc, reset := fun _ => 0 }

/-- The register QLT_LAYER_ST. -/
def QLT_LAYER_ST : RegD := { base := 0x3230004, dims := [(0x10, 512)], words := 1, flds := [QLT_LAYER_ST_mode, QLT_LAYER_ST_fallback, QLT_LAYER_ST_lost, QLT_LAYER_ST_tears] }

/-- QLT_BANK_H.tap_even [11:0]: Tap 2m, 12-bit signed (R355) -/
def QLT_BANK_H_tap_even : Fld := { no := 688, base := 0x3240000, dims := [(0x800, 16), (0x10, 64), (0x4, 4)], lo := 0, w := 12, acc := .rw, reset := fun _ => 0 }

/-- QLT_BANK_H.tap_odd [27:16]: Tap 2m + 1, 12-bit signed -/
def QLT_BANK_H_tap_odd : Fld := { no := 689, base := 0x3240000, dims := [(0x800, 16), (0x10, 64), (0x4, 4)], lo := 16, w := 12, acc := .rw, reset := fun _ => 0 }

/-- The register QLT_BANK_H. -/
def QLT_BANK_H : RegD := { base := 0x3240000, dims := [(0x800, 16), (0x10, 64), (0x4, 4)], words := 1, flds := [QLT_BANK_H_tap_even, QLT_BANK_H_tap_odd] }

/-- QLT_BANK_V.tap_even [11:0]: Tap 2m, 12-bit signed (R355) -/
def QLT_BANK_V_tap_even : Fld := { no := 690, base := 0x3240400, dims := [(0x800, 16), (0x10, 64), (0x4, 3)], lo := 0, w := 12, acc := .rw, reset := fun _ => 0 }

/-- QLT_BANK_V.tap_odd [27:16]: Tap 2m + 1, 12-bit signed -/
def QLT_BANK_V_tap_odd : Fld := { no := 691, base := 0x3240400, dims := [(0x800, 16), (0x10, 64), (0x4, 3)], lo := 16, w := 12, acc := .rw, reset := fun _ => 0 }

/-- The register QLT_BANK_V. -/
def QLT_BANK_V : RegD := { base := 0x3240400, dims := [(0x800, 16), (0x10, 64), (0x4, 3)], words := 1, flds := [QLT_BANK_V_tap_even, QLT_BANK_V_tap_odd] }

/-- QLT_BANK_CFG.nh [3:0]: Horizontal taps, 1 to 8 -/
def QLT_BANK_CFG_nh : Fld := { no := 692, base := 0x3248000, dims := [(0x4, 16)], lo := 0, w := 4, acc := .rw, reset := fun _ => 1, lim := some (1, 8) }

/-- QLT_BANK_CFG.nv [7:4]: Vertical taps, 1 to 6 -/
def QLT_BANK_CFG_nv : Fld := { no := 693, base := 0x3248000, dims := [(0x4, 16)], lo := 4, w := 4, acc := .rw, reset := fun _ => 1, lim := some (1, 6) }

/-- The register QLT_BANK_CFG. -/
def QLT_BANK_CFG : RegD := { base := 0x3248000, dims := [(0x4, 16)], words := 1, flds := [QLT_BANK_CFG_nh, QLT_BANK_CFG_nv] }

/-- QLT_USE.banks [15:0]: Bit k is 1 while bank k is in use -/
def QLT_USE_banks : Fld := { no := 694, base := 0x3248100, dims := [], lo := 0, w := 16, acc := .ro, reset := fun _ => 0 }

/-- QLT_USE.progs [31:16]: Bit 16 + c is 1 while CPc is in use -/
def QLT_USE_progs : Fld := { no := 695, base := 0x3248100, dims := [], lo := 16, w := 16, acc := .ro, reset := fun _ => 0 }

/-- The register QLT_USE. -/
def QLT_USE : RegD := { base := 0x3248100, dims := [], words := 1, flds := [QLT_USE_banks, QLT_USE_progs] }

/-- QLT_LUT1.value [31:0]: First LUT of component n, binary32 (R357) -/
def QLT_LUT1_value : Fld := { no := 696, base := 0x3300000, dims := [(0x10000, 16), (0x2000, 3), (0x4, 1025)], lo := 0, w := 32, acc := .rw, reset := fun _ => 0 }

/-- The register QLT_LUT1. -/
def QLT_LUT1 : RegD := { base := 0x3300000, dims := [(0x10000, 16), (0x2000, 3), (0x4, 1025)], words := 1, flds := [QLT_LUT1_value] }

/-- QLT_LUT2.value [31:0]: Second LUT, binary32 -/
def QLT_LUT2_value : Fld := { no := 697, base := 0x3306000, dims := [(0x10000, 16), (0x2000, 3), (0x4, 1025)], lo := 0, w := 32, acc := .rw, reset := fun _ => 0 }

/-- The register QLT_LUT2. -/
def QLT_LUT2 : RegD := { base := 0x3306000, dims := [(0x10000, 16), (0x2000, 3), (0x4, 1025)], words := 1, flds := [QLT_LUT2_value] }

/-- QLT_MAT.value [31:0]: Matrix element, binary32 -/
def QLT_MAT_value : Fld := { no := 698, base := 0x330c000, dims := [(0x10000, 16), (0xc, 3), (0x4, 3)], lo := 0, w := 32, acc := .rw, reset := fun _ => 0 }

/-- The register QLT_MAT. -/
def QLT_MAT : RegD := { base := 0x330c000, dims := [(0x10000, 16), (0xc, 3), (0x4, 3)], words := 1, flds := [QLT_MAT_value] }

/-- QLT_OFS.value [31:0]: Offset of row r, binary32 -/
def QLT_OFS_value : Fld := { no := 699, base := 0x330c024, dims := [(0x10000, 16), (0x4, 3)], lo := 0, w := 32, acc := .rw, reset := fun _ => 0 }

/-- The register QLT_OFS. -/
def QLT_OFS : RegD := { base := 0x330c024, dims := [(0x10000, 16), (0x4, 3)], words := 1, flds := [QLT_OFS_value] }

/-- Every register of the QLT block. -/
def regsQlt : List RegD :=
  [QLT_STATUS, QLT_HEAD_CTRL, QLT_HEAD_STATUS, QLT_HEAD_FMT, QLT_HEAD_FILL, QLT_HEAD_TALLY, QLT_HEAD_ALARM, QLT_HEAD_GFXW, QLT_HEAD_METER, QLT_HEAD_MCOL, QLT_HEAD_CONV, QLT_SH_CFG, QLT_SH_SRC, QLT_SH_CROP_XY, QLT_SH_CROP_WH, QLT_SH_RECT_XY, QLT_SH_RECT_WH, QLT_SH_ALPHA, QLT_SH_BCOL, QLT_SH_BORDER] ++
  [QLT_SH_METER, QLT_SH_MCH, QLT_SH_LCOL, QLT_SH_COMMIT, QLT_AC_CFG, QLT_AC_SRC, QLT_AC_CROP_XY, QLT_AC_CROP_WH, QLT_AC_RECT_XY, QLT_AC_RECT_WH, QLT_AC_ALPHA, QLT_AC_BCOL, QLT_AC_BORDER, QLT_AC_METER, QLT_AC_MCH, QLT_AC_LCOL, QLT_LAYER_RES, QLT_LAYER_ST, QLT_BANK_H, QLT_BANK_V] ++
  [QLT_BANK_CFG, QLT_USE, QLT_LUT1, QLT_LUT2, QLT_MAT, QLT_OFS]

/-! ### Gather: the registers of R414 -/

/-- GTH_CTRL.en [0]: 1 requests start, 0 requests stop (R412) -/
def GTH_CTRL_en : Fld := { no := 700, base := 0x3400000, dims := [], lo := 0, w := 1, acc := .rw, reset := fun _ => 0 }

/-- GTH_CTRL.hold [1]: 1 holds queued writes at ticks (R403) -/
def GTH_CTRL_hold : Fld := { no := 701, base := 0x3400000, dims := [], lo := 1, w := 1, acc := .rw, reset := fun _ => 0 }

/-- The register GTH_CTRL. -/
def GTH_CTRL : RegD := { base := 0x3400000, dims := [], words := 1, flds := [GTH_CTRL_en, GTH_CTRL_hold] }

/-- GTH_STATUS.state [2:0]: 0 STOPPED, 1 STARTING, 2 RUNNING, 3 STOPPING, 4 FAILED -/
def GTH_STATUS_state : Fld := { no := 702, base := 0x3400004, dims := [], lo := 0, w := 3, acc := .ro, reset := fun _ => 0 }

/-- GTH_STATUS.inputs [14:4]: Gather inputs placed, 0 to 1,024 -/
def GTH_STATUS_inputs : Fld := { no := 703, base := 0x3400004, dims := [], lo := 4, w := 11, acc := .ro, reset := fun _ => 0 }

/-- The register GTH_STATUS. -/
def GTH_STATUS : RegD := { base := 0x3400004, dims := [], words := 1, flds := [GTH_STATUS_state, GTH_STATUS_inputs] }

/-- GTH_CFG.rate [1:0]: 0 44.1, 1 48, 2 88.2, 3 96 kHz -/
def GTH_CFG_rate : Fld := { no := 704, base := 0x3400008, dims := [], lo := 0, w := 2, acc := .rwp, reset := fun _ => 1 }

/-- GTH_CFG.size [5:4]: 0 256 × 256, 1 512 × 512, 2 1,024 × 1,024; 3 fails the start check -/
def GTH_CFG_size : Fld := { no := 705, base := 0x3400008, dims := [], lo := 4, w := 2, acc := .rwp, reset := fun _ => 2 }

/-- The register GTH_CFG. -/
def GTH_CFG : RegD := { base := 0x3400008, dims := [], words := 1, flds := [GTH_CFG_rate, GTH_CFG_size] }

/-- GTH_STICKY.sat [0]: A sample or filter result saturated -/
def GTH_STICKY_sat : Fld := { no := 706, base := 0x340000c, dims := [], lo := 0, w := 1, acc := .w1c, reset := fun _ => 0 }

/-- GTH_STICKY.q_full [1]: A gain write was ignored (R403) -/
def GTH_STICKY_q_full : Fld := { no := 707, base := 0x340000c, dims := [], lo := 1, w := 1, acc := .w1c, reset := fun _ => 0 }

/-- GTH_STICKY.rej_write [2]: An RWP write was rejected (R12) -/
def GTH_STICKY_rej_write : Fld := { no := 708, base := 0x340000c, dims := [], lo := 2, w := 1, acc := .w1c, reset := fun _ => 0 }

/-- GTH_STICKY.start_err [3]: A start request failed its check -/
def GTH_STICKY_start_err : Fld := { no := 709, base := 0x340000c, dims := [], lo := 3, w := 1, acc := .w1c, reset := fun _ => 0 }

/-- GTH_STICKY.rate_mis [4]: A destination channel met another rate (R395) -/
def GTH_STICKY_rate_mis : Fld := { no := 710, base := 0x340000c, dims := [], lo := 4, w := 1, acc := .w1c, reset := fun _ => 0 }

/-- GTH_STICKY.npcm_in [5]: An input was muted for non-PCM data -/
def GTH_STICKY_npcm_in : Fld := { no := 711, base := 0x340000c, dims := [], lo := 5, w := 1, acc := .w1c, reset := fun _ => 0 }

/-- The register GTH_STICKY. -/
def GTH_STICKY : RegD := { base := 0x340000c, dims := [], words := 1, flds := [GTH_STICKY_sat, GTH_STICKY_q_full, GTH_STICKY_rej_write, GTH_STICKY_start_err, GTH_STICKY_rate_mis, GTH_STICKY_npcm_in] }

/-- GTH_QUEUE.pending [14:0]: Writes waiting, 0 to 16,384 -/
def GTH_QUEUE_pending : Fld := { no := 712, base := 0x3400010, dims := [], lo := 0, w := 15, acc := .ro, reset := fun _ => 0 }

/-- GTH_QUEUE.high [30:16]: Largest value of pending since the last read -/
def GTH_QUEUE_high : Fld := { no := 713, base := 0x3400010, dims := [], lo := 16, w := 15, acc := .rc, reset := fun _ => 0 }

/-- The register GTH_QUEUE. -/
def GTH_QUEUE : RegD := { base := 0x3400010, dims := [], words := 1, flds := [GTH_QUEUE_pending, GTH_QUEUE_high] }

/-- GTH_SAT_CNT.count [31:0]: Saturated results, all outputs, saturating -/
def GTH_SAT_CNT_count : Fld := { no := 714, base := 0x3400014, dims := [], lo := 0, w := 32, acc := .rc, reset := fun _ => 0 }

/-- The register GTH_SAT_CNT. -/
def GTH_SAT_CNT : RegD := { base := 0x3400014, dims := [], words := 1, flds := [GTH_SAT_CNT_count] }

/-- GTH_OUT_CFG.scale [1:0]: 0 off, 1 1/N, 2 1/√N; 3 acts as 0 (R405) -/
def GTH_OUT_CFG_scale : Fld := { no := 715, base := 0x3410000, dims := [(0x20, 1024)], lo := 0, w := 2, acc := .rw, reset := fun _ => 0 }

/-- GTH_OUT_CFG.ll [4]: Low-latency path (R410) -/
def GTH_OUT_CFG_ll : Fld := { no := 716, base := 0x3410000, dims := [(0x20, 1024)], lo := 4, w := 1, acc := .rw, reset := fun _ => 0 }

/-- GTH_OUT_CFG.bq_en [11:8]: Bit b enables biquad b (R409) -/
def GTH_OUT_CFG_bq_en : Fld := { no := 717, base := 0x3410000, dims := [(0x20, 1024)], lo := 8, w := 4, acc := .rw, reset := fun _ => 0 }

/-- The register GTH_OUT_CFG. -/
def GTH_OUT_CFG : RegD := { base := 0x3410000, dims := [(0x20, 1024)], words := 1, flds := [GTH_OUT_CFG_scale, GTH_OUT_CFG_ll, GTH_OUT_CFG_bq_en] }

/-- GTH_OUT_ST.n [10:0]: N_o at the last sample (R405) -/
def GTH_OUT_ST_n : Fld := { no := 718, base := 0x3410004, dims := [(0x20, 1024)], lo := 0, w := 11, acc := .ro, reset := fun _ => 0 }

/-- GTH_OUT_ST.ramping [12]: A scale ramp is running -/
def GTH_OUT_ST_ramping : Fld := { no := 719, base := 0x3410004, dims := [(0x20, 1024)], lo := 12, w := 1, acc := .ro, reset := fun _ => 0 }

/-- The register GTH_OUT_ST. -/
def GTH_OUT_ST : RegD := { base := 0x3410004, dims := [(0x20, 1024)], words := 1, flds := [GTH_OUT_ST_n, GTH_OUT_ST_ramping] }

/-- GTH_OUT_SCALE.s [23:0]: Scale in force, unsigned 2.22 -/
def GTH_OUT_SCALE_s : Fld := { no := 720, base := 0x3410008, dims := [(0x20, 1024)], lo := 0, w := 24, acc := .ro, reset := fun _ => 0x400000 }

/-- The register GTH_OUT_SCALE. -/
def GTH_OUT_SCALE : RegD := { base := 0x3410008, dims := [(0x20, 1024)], words := 1, flds := [GTH_OUT_SCALE_s] }

/-- GTH_OUT_SAT.sat [15:0]: Saturated results of this output, saturating -/
def GTH_OUT_SAT_sat : Fld := { no := 721, base := 0x341000c, dims := [(0x20, 1024)], lo := 0, w := 16, acc := .rc, reset := fun _ => 0 }

/-- The register GTH_OUT_SAT. -/
def GTH_OUT_SAT : RegD := { base := 0x341000c, dims := [(0x20, 1024)], words := 1, flds := [GTH_OUT_SAT_sat] }

/-- GTH_IN.dst [10:0]: Local index of the feed -/
def GTH_IN_dst : Fld := { no := 722, base := 0x3420000, dims := [(0x4, 1024)], lo := 0, w := 11, acc := .ro, reset := fun _ => 0 }

/-- GTH_IN.ch [17:12]: Feed channel j -/
def GTH_IN_ch : Fld := { no := 723, base := 0x3420000, dims := [(0x4, 1024)], lo := 12, w := 6, acc := .ro, reset := fun _ => 0 }

/-- GTH_IN.present [20]: The input's destination channel is present -/
def GTH_IN_present : Fld := { no := 724, base := 0x3420000, dims := [(0x4, 1024)], lo := 20, w := 1, acc := .ro, reset := fun _ => 0 }

/-- GTH_IN.npcm [21]: Muted for non-PCM data -/
def GTH_IN_npcm : Fld := { no := 725, base := 0x3420000, dims := [(0x4, 1024)], lo := 21, w := 1, acc := .ro, reset := fun _ => 0 }

/-- GTH_IN.rate_mis [22]: The source channel mapped to the feed channel has another rate; the same condition as GTH_DST_CH[31,744 + i].rate_mis (R399) -/
def GTH_IN_rate_mis : Fld := { no := 726, base := 0x3420000, dims := [(0x4, 1024)], lo := 22, w := 1, acc := .ro, reset := fun _ => 0 }

/-- GTH_IN.valid [31]: The input is placed (R399) -/
def GTH_IN_valid : Fld := { no := 727, base := 0x3420000, dims := [(0x4, 1024)], lo := 31, w := 1, acc := .ro, reset := fun _ => 0 }

/-- The register GTH_IN. -/
def GTH_IN : RegD := { base := 0x3420000, dims := [(0x4, 1024)], words := 1, flds := [GTH_IN_dst, GTH_IN_ch, GTH_IN_present, GTH_IN_npcm, GTH_IN_rate_mis, GTH_IN_valid] }

/-- GTH_BQ.coef [31:0]: Signed coefficient in units of 2^−28; the read returns the value written (R409) -/
def GTH_BQ_coef : Fld := { no := 728, base := 0x3440000, dims := [(0x80, 1024), (0x20, 4), (0x4, 5)], lo := 0, w := 32, acc := .rw, reset := fun ix => if ix.getD 2 0 = 0 then 0x10000000 else 0 }

/-- The register GTH_BQ. -/
def GTH_BQ : RegD := { base := 0x3440000, dims := [(0x80, 1024), (0x20, 4), (0x4, 5)], words := 1, flds := [GTH_BQ_coef] }

/-- GTH_SRC_CH.rate [1:0]: 0 44.1, 1 48, 2 88.2, 3 96 kHz -/
def GTH_SRC_CH_rate : Fld := { no := 729, base := 0x3500000, dims := [(0x4, 32768)], lo := 0, w := 2, acc := .ro, reset := fun _ => 0 }

/-- GTH_SRC_CH.present [2]: Present at the last sample -/
def GTH_SRC_CH_present : Fld := { no := 730, base := 0x3500000, dims := [(0x4, 32768)], lo := 2, w := 1, acc := .ro, reset := fun _ => 0 }

/-- GTH_SRC_CH.npcm [3]: Pair marked non-PCM -/
def GTH_SRC_CH_npcm : Fld := { no := 731, base := 0x3500000, dims := [(0x4, 32768)], lo := 3, w := 1, acc := .ro, reset := fun _ => 0 }

/-- GTH_SRC_CH.producer [7:4]: 0 none, 1 SDI, 2 flow, 3 TDM, 4 AES3, 5 Seam, 6 Gather, 7 frame synchroniser or conversion head -/
def GTH_SRC_CH_producer : Fld := { no := 732, base := 0x3500000, dims := [(0x4, 32768)], lo := 4, w := 4, acc := .ro, reset := fun _ => 0 }

/-- GTH_SRC_CH.index [13:8]: Channel within its group -/
def GTH_SRC_CH_index : Fld := { no := 733, base := 0x3500000, dims := [(0x4, 32768)], lo := 8, w := 6, acc := .ro, reset := fun _ => 0 }

/-- GTH_SRC_CH.source [31:16]: Source number -/
def GTH_SRC_CH_source : Fld := { no := 734, base := 0x3500000, dims := [(0x4, 32768)], lo := 16, w := 16, acc := .ro, reset := fun _ => 0xffff }

/-- The register GTH_SRC_CH. -/
def GTH_SRC_CH : RegD := { base := 0x3500000, dims := [(0x4, 32768)], words := 1, flds := [GTH_SRC_CH_rate, GTH_SRC_CH_present, GTH_SRC_CH_npcm, GTH_SRC_CH_producer, GTH_SRC_CH_index, GTH_SRC_CH_source] }

/-- GTH_DST_CH.src_ch [14:0]: Mapped source channel -/
def GTH_DST_CH_src_ch : Fld := { no := 735, base := 0x3600000, dims := [(0x8, 32768)], lo := 0, w := 15, acc := .ro, reset := fun _ => 0 }

/-- GTH_DST_CH.valid [15]: Mapped -/
def GTH_DST_CH_valid : Fld := { no := 736, base := 0x3600000, dims := [(0x8, 32768)], lo := 15, w := 1, acc := .ro, reset := fun _ => 0 }

/-- GTH_DST_CH.present [16]: Present at the last sample -/
def GTH_DST_CH_present : Fld := { no := 737, base := 0x3600000, dims := [(0x8, 32768)], lo := 16, w := 1, acc := .ro, reset := fun _ => 0 }

/-- GTH_DST_CH.rate_mis [17]: Absent for a rate mismatch (R395) -/
def GTH_DST_CH_rate_mis : Fld := { no := 738, base := 0x3600000, dims := [(0x8, 32768)], lo := 17, w := 1, acc := .ro, reset := fun _ => 0 }

/-- GTH_DST_CH.xfade [18]: A crossfade or fade-in is running -/
def GTH_DST_CH_xfade : Fld := { no := 739, base := 0x3600000, dims := [(0x8, 32768)], lo := 18, w := 1, acc := .ro, reset := fun _ => 0 }

/-- GTH_DST_CH.shuffled [19]: Shuffled rather than following (R121) -/
def GTH_DST_CH_shuffled : Fld := { no := 740, base := 0x3600000, dims := [(0x8, 32768)], lo := 19, w := 1, acc := .ro, reset := fun _ => 0 }

/-- GTH_DST_CH.dst [30:20]: Local index of the destination -/
def GTH_DST_CH_dst : Fld := { no := 741, base := 0x3600000, dims := [(0x8, 32768)], lo := 20, w := 11, acc := .ro, reset := fun _ => 0 }

/-- GTH_DST_CH.index [37:32]: Channel within the destination's group -/
def GTH_DST_CH_index : Fld := { no := 742, base := 0x3600000, dims := [(0x8, 32768)], lo := 32, w := 6, acc := .ro, reset := fun _ => 0 }

/-- The register GTH_DST_CH. -/
def GTH_DST_CH : RegD := { base := 0x3600000, dims := [(0x8, 32768)], words := 2, flds := [GTH_DST_CH_src_ch, GTH_DST_CH_valid, GTH_DST_CH_present, GTH_DST_CH_rate_mis, GTH_DST_CH_xfade, GTH_DST_CH_shuffled, GTH_DST_CH_dst, GTH_DST_CH_index] }

/-- GTH_PEAK.peak [23:0]: Largest magnitude since the last read -/
def GTH_PEAK_peak : Fld := { no := 743, base := 0x3700000, dims := [(0x4, 32768)], lo := 0, w := 24, acc := .rc, reset := fun _ => 0 }

/-- GTH_PEAK.full_scale [24]: A sample of 8,388,607 or −8,388,608 occurred since the last read -/
def GTH_PEAK_full_scale : Fld := { no := 744, base := 0x3700000, dims := [(0x4, 32768)], lo := 24, w := 1, acc := .rc, reset := fun _ => 0 }

/-- The register GTH_PEAK. -/
def GTH_PEAK : RegD := { base := 0x3700000, dims := [(0x4, 32768)], words := 1, flds := [GTH_PEAK_peak, GTH_PEAK_full_scale] }

/-- Every register of the GTH block. -/
def regsGth : List RegD :=
  [GTH_CTRL, GTH_STATUS, GTH_CFG, GTH_STICKY, GTH_QUEUE, GTH_SAT_CNT, GTH_OUT_CFG, GTH_OUT_ST, GTH_OUT_SCALE, GTH_OUT_SAT, GTH_IN, GTH_BQ, GTH_SRC_CH, GTH_DST_CH, GTH_PEAK]

/-! ### TDM and AES3 ports: the registers of R392 -/

/-- APT_STATUS.tdm_event [7:0]: Bit n is set when TDMn sets any sticky bit -/
def APT_STATUS_tdm_event : Fld := { no := 745, base := 0x3c00000, dims := [], lo := 0, w := 8, acc := .w1c, reset := fun _ => 0 }

/-- APT_STATUS.ain_event [15:8]: Bit n is set when AINn sets any sticky bit -/
def APT_STATUS_ain_event : Fld := { no := 746, base := 0x3c00000, dims := [], lo := 8, w := 8, acc := .w1c, reset := fun _ => 0 }

/-- APT_STATUS.aout_event [23:16]: Bit n is set when AOUTn sets any sticky bit -/
def APT_STATUS_aout_event : Fld := { no := 747, base := 0x3c00000, dims := [], lo := 16, w := 8, acc := .w1c, reset := fun _ => 0 }

/-- The register APT_STATUS. -/
def APT_STATUS : RegD := { base := 0x3c00000, dims := [], words := 1, flds := [APT_STATUS_tdm_event, APT_STATUS_ain_event, APT_STATUS_aout_event] }

/-- APT_TDM_CTRL.en [0]: 1 requests start, 0 requests stop (R389, R390) -/
def APT_TDM_CTRL_en : Fld := { no := 748, base := 0x3c10000, dims := [(0x1000, 8)], lo := 0, w := 1, acc := .rw, reset := fun _ => 0 }

/-- The register APT_TDM_CTRL. -/
def APT_TDM_CTRL : RegD := { base := 0x3c10000, dims := [(0x1000, 8)], words := 1, flds := [APT_TDM_CTRL_en] }

/-- APT_TDM_STATUS.state [2:0]: Function state -/
def APT_TDM_STATUS_state : Fld := { no := 749, base := 0x3c10004, dims := [(0x1000, 8)], lo := 0, w := 3, acc := .ro, reset := fun _ => 0 }

/-- APT_TDM_STATUS.rx_lock [5:4]: Receive side state (R377) -/
def APT_TDM_STATUS_rx_lock : Fld := { no := 750, base := 0x3c10004, dims := [(0x1000, 8)], lo := 4, w := 2, acc := .ro, reset := fun _ => 0 }

/-- APT_TDM_STATUS.tx_lock [7:6]: Transmit side state; 2 for a master -/
def APT_TDM_STATUS_tx_lock : Fld := { no := 751, base := 0x3c10004, dims := [(0x1000, 8)], lo := 6, w := 2, acc := .ro, reset := fun _ => 0 }

/-- APT_TDM_STATUS.mask_pending [8]: Masks pending (R385) -/
def APT_TDM_STATUS_mask_pending : Fld := { no := 752, base := 0x3c10004, dims := [(0x1000, 8)], lo := 8, w := 1, acc := .ro, reset := fun _ => 0 }

/-- APT_TDM_STATUS.ramping [9]: A ramp of R381 is running -/
def APT_TDM_STATUS_ramping : Fld := { no := 753, base := 0x3c10004, dims := [(0x1000, 8)], lo := 9, w := 1, acc := .ro, reset := fun _ => 0 }

/-- APT_TDM_STATUS.rx_fill [15:12]: Receive buffer fill in samples -/
def APT_TDM_STATUS_rx_fill : Fld := { no := 754, base := 0x3c10004, dims := [(0x1000, 8)], lo := 12, w := 4, acc := .ro, reset := fun _ => 0 }

/-- APT_TDM_STATUS.tx_fill [19:16]: Transmit buffer fill in samples -/
def APT_TDM_STATUS_tx_fill : Fld := { no := 755, base := 0x3c10004, dims := [(0x1000, 8)], lo := 16, w := 4, acc := .ro, reset := fun _ => 0 }

/-- The register APT_TDM_STATUS. -/
def APT_TDM_STATUS : RegD := { base := 0x3c10004, dims := [(0x1000, 8)], words := 1, flds := [APT_TDM_STATUS_state, APT_TDM_STATUS_rx_lock, APT_TDM_STATUS_tx_lock, APT_TDM_STATUS_mask_pending, APT_TDM_STATUS_ramping, APT_TDM_STATUS_rx_fill, APT_TDM_STATUS_tx_fill] }

/-- APT_TDM_CFG.rate [1:0]: 0 44.1, 1 48, 2 88.2, 3 96 kHz -/
def APT_TDM_CFG_rate : Fld := { no := 756, base := 0x3c10008, dims := [(0x1000, 8)], lo := 0, w := 2, acc := .rwp, reset := fun _ => 1 }

/-- APT_TDM_CFG.slots [6:4]: 0 2, 1 4, 2 8, 3 16, 4 32, 5 64 slots; 6 and 7 fail the start check -/
def APT_TDM_CFG_slots : Fld := { no := 757, base := 0x3c10008, dims := [(0x1000, 8)], lo := 4, w := 3, acc := .rwp, reset := fun _ => 5 }

/-- APT_TDM_CFG.master [8]: 1 master, 0 slave (R373) -/
def APT_TDM_CFG_master : Fld := { no := 758, base := 0x3c10008, dims := [(0x1000, 8)], lo := 8, w := 1, acc := .rwp, reset := fun _ => 0 }

/-- APT_TDM_CFG.fsync_len [9]: 0 one bit clock, 1 half frame (R372) -/
def APT_TDM_CFG_fsync_len : Fld := { no := 759, base := 0x3c10008, dims := [(0x1000, 8)], lo := 9, w := 1, acc := .rwp, reset := fun _ => 0 }

/-- APT_TDM_CFG.fsync_delay [10]: 0 no delay, 1 one bit clock -/
def APT_TDM_CFG_fsync_delay : Fld := { no := 760, base := 0x3c10008, dims := [(0x1000, 8)], lo := 10, w := 1, acc := .rwp, reset := fun _ => 1 }

/-- APT_TDM_CFG.fsync_pol [11]: 0 active high, 1 active low -/
def APT_TDM_CFG_fsync_pol : Fld := { no := 761, base := 0x3c10008, dims := [(0x1000, 8)], lo := 11, w := 1, acc := .rwp, reset := fun _ => 0 }

/-- APT_TDM_CFG.bclk_inv [12]: 1 swaps the bit clock edges -/
def APT_TDM_CFG_bclk_inv : Fld := { no := 762, base := 0x3c10008, dims := [(0x1000, 8)], lo := 12, w := 1, acc := .rwp, reset := fun _ => 0 }

/-- APT_TDM_CFG.rx_en [13]: Receive direction enabled -/
def APT_TDM_CFG_rx_en : Fld := { no := 763, base := 0x3c10008, dims := [(0x1000, 8)], lo := 13, w := 1, acc := .rwp, reset := fun _ => 0 }

/-- APT_TDM_CFG.tx_en [14]: Transmit direction enabled -/
def APT_TDM_CFG_tx_en : Fld := { no := 764, base := 0x3c10008, dims := [(0x1000, 8)], lo := 14, w := 1, acc := .rwp, reset := fun _ => 0 }

/-- The register APT_TDM_CFG. -/
def APT_TDM_CFG : RegD := { base := 0x3c10008, dims := [(0x1000, 8)], words := 1, flds := [APT_TDM_CFG_rate, APT_TDM_CFG_slots, APT_TDM_CFG_master, APT_TDM_CFG_fsync_len, APT_TDM_CFG_fsync_delay, APT_TDM_CFG_fsync_pol, APT_TDM_CFG_bclk_inv, APT_TDM_CFG_rx_en, APT_TDM_CFG_tx_en] }

/-- APT_TDM_ADV.adv [31:0]: Signed frame advance in nib, −Ts/2 to +Ts/2; a value outside fails the start check -/
def APT_TDM_ADV_adv : Fld := { no := 765, base := 0x3c1000c, dims := [(0x1000, 8)], lo := 0, w := 32, acc := .rwp, reset := fun _ => 0 }

/-- The register APT_TDM_ADV. -/
def APT_TDM_ADV : RegD := { base := 0x3c1000c, dims := [(0x1000, 8)], words := 1, flds := [APT_TDM_ADV_adv] }

/-- APT_TDM_RXMASK.mask [63:0]: Receive shadow mask; written under R11 (R385) -/
def APT_TDM_RXMASK_mask : Fld := { no := 766, base := 0x3c10010, dims := [(0x1000, 8)], lo := 0, w := 64, acc := .rw, reset := fun _ => 0 }

/-- The register APT_TDM_RXMASK. -/
def APT_TDM_RXMASK : RegD := { base := 0x3c10010, dims := [(0x1000, 8)], words := 2, flds := [APT_TDM_RXMASK_mask] }

/-- APT_TDM_TXMASK.mask [63:0]: Transmit shadow mask; written under R11 -/
def APT_TDM_TXMASK_mask : Fld := { no := 767, base := 0x3c10018, dims := [(0x1000, 8)], lo := 0, w := 64, acc := .rw, reset := fun _ => 0 }

/-- The register APT_TDM_TXMASK. -/
def APT_TDM_TXMASK : RegD := { base := 0x3c10018, dims := [(0x1000, 8)], words := 2, flds := [APT_TDM_TXMASK_mask] }

/-- APT_TDM_RXMASK_ACT.mask [63:0]: Active receive mask; read under R11 -/
def APT_TDM_RXMASK_ACT_mask : Fld := { no := 768, base := 0x3c10020, dims := [(0x1000, 8)], lo := 0, w := 64, acc := .ro, reset := fun _ => 0 }

/-- The register APT_TDM_RXMASK_ACT. -/
def APT_TDM_RXMASK_ACT : RegD := { base := 0x3c10020, dims := [(0x1000, 8)], words := 2, flds := [APT_TDM_RXMASK_ACT_mask] }

/-- APT_TDM_TXMASK_ACT.mask [63:0]: Active transmit mask; read under R11 -/
def APT_TDM_TXMASK_ACT_mask : Fld := { no := 769, base := 0x3c10028, dims := [(0x1000, 8)], lo := 0, w := 64, acc := .ro, reset := fun _ => 0 }

/-- The register APT_TDM_TXMASK_ACT. -/
def APT_TDM_TXMASK_ACT : RegD := { base := 0x3c10028, dims := [(0x1000, 8)], words := 2, flds := [APT_TDM_TXMASK_ACT_mask] }

/-- APT_TDM_FREQ.freq [31:0]: Signed offset from the declared rate in units of 2^−40 (R374); 0 when master or not LOCKED -/
def APT_TDM_FREQ_freq : Fld := { no := 770, base := 0x3c10030, dims := [(0x1000, 8)], lo := 0, w := 32, acc := .ro, reset := fun _ => 0 }

/-- The register APT_TDM_FREQ. -/
def APT_TDM_FREQ : RegD := { base := 0x3c10030, dims := [(0x1000, 8)], words := 1, flds := [APT_TDM_FREQ_freq] }

/-- APT_TDM_STICKY.lost [0]: A side lost its clock (R379) -/
def APT_TDM_STICKY_lost : Fld := { no := 771, base := 0x3c10034, dims := [(0x1000, 8)], lo := 0, w := 1, acc := .w1c, reset := fun _ => 0 }

/-- APT_TDM_STICKY.slip [1]: A sample was dropped or repeated (R374) -/
def APT_TDM_STICKY_slip : Fld := { no := 772, base := 0x3c10034, dims := [(0x1000, 8)], lo := 1, w := 1, acc := .w1c, reset := fun _ => 0 }

/-- APT_TDM_STICKY.fsync_err [2]: A frame-sync error occurred (R380) -/
def APT_TDM_STICKY_fsync_err : Fld := { no := 773, base := 0x3c10034, dims := [(0x1000, 8)], lo := 2, w := 1, acc := .w1c, reset := fun _ => 0 }

/-- APT_TDM_STICKY.rate_mis [3]: A side entered MISMATCH -/
def APT_TDM_STICKY_rate_mis : Fld := { no := 774, base := 0x3c10034, dims := [(0x1000, 8)], lo := 3, w := 1, acc := .w1c, reset := fun _ => 0 }

/-- APT_TDM_STICKY.npcm_slip [4]: A slip fell on a non-PCM pair (R375) -/
def APT_TDM_STICKY_npcm_slip : Fld := { no := 775, base := 0x3c10034, dims := [(0x1000, 8)], lo := 4, w := 1, acc := .w1c, reset := fun _ => 0 }

/-- APT_TDM_STICKY.rej_write [5]: An RWP write was rejected (R12) -/
def APT_TDM_STICKY_rej_write : Fld := { no := 776, base := 0x3c10034, dims := [(0x1000, 8)], lo := 5, w := 1, acc := .w1c, reset := fun _ => 0 }

/-- APT_TDM_STICKY.start_err [6]: A start request failed its check -/
def APT_TDM_STICKY_start_err : Fld := { no := 777, base := 0x3c10034, dims := [(0x1000, 8)], lo := 6, w := 1, acc := .w1c, reset := fun _ => 0 }

/-- The register APT_TDM_STICKY. -/
def APT_TDM_STICKY : RegD := { base := 0x3c10034, dims := [(0x1000, 8)], words := 1, flds := [APT_TDM_STICKY_lost, APT_TDM_STICKY_slip, APT_TDM_STICKY_fsync_err, APT_TDM_STICKY_rate_mis, APT_TDM_STICKY_npcm_slip, APT_TDM_STICKY_rej_write, APT_TDM_STICKY_start_err] }

/-- APT_TDM_CNT0.rx_slips [15:0]: Receive slips -/
def APT_TDM_CNT0_rx_slips : Fld := { no := 778, base := 0x3c10038, dims := [(0x1000, 8)], lo := 0, w := 16, acc := .rc, reset := fun _ => 0 }

/-- APT_TDM_CNT0.tx_slips [31:16]: Transmit slips -/
def APT_TDM_CNT0_tx_slips : Fld := { no := 779, base := 0x3c10038, dims := [(0x1000, 8)], lo := 16, w := 16, acc := .rc, reset := fun _ => 0 }

/-- The register APT_TDM_CNT0. -/
def APT_TDM_CNT0 : RegD := { base := 0x3c10038, dims := [(0x1000, 8)], words := 1, flds := [APT_TDM_CNT0_rx_slips, APT_TDM_CNT0_tx_slips] }

/-- APT_TDM_CNT1.fsync_errs [11:0]: Frame-sync errors -/
def APT_TDM_CNT1_fsync_errs : Fld := { no := 780, base := 0x3c1003c, dims := [(0x1000, 8)], lo := 0, w := 12, acc := .rc, reset := fun _ => 0 }

/-- APT_TDM_CNT1.losses [23:12]: Losses from LOCKED -/
def APT_TDM_CNT1_losses : Fld := { no := 781, base := 0x3c1003c, dims := [(0x1000, 8)], lo := 12, w := 12, acc := .rc, reset := fun _ => 0 }

/-- APT_TDM_CNT1.npcm_slips [31:24]: Slips on non-PCM pairs -/
def APT_TDM_CNT1_npcm_slips : Fld := { no := 782, base := 0x3c1003c, dims := [(0x1000, 8)], lo := 24, w := 8, acc := .rc, reset := fun _ => 0 }

/-- The register APT_TDM_CNT1. -/
def APT_TDM_CNT1 : RegD := { base := 0x3c1003c, dims := [(0x1000, 8)], words := 1, flds := [APT_TDM_CNT1_fsync_errs, APT_TDM_CNT1_losses, APT_TDM_CNT1_npcm_slips] }

/-- APT_TDM_NPCM.pairs [31:0]: Bit m is 1 while receive pair 2m, 2m + 1 is non-PCM -/
def APT_TDM_NPCM_pairs : Fld := { no := 783, base := 0x3c10040, dims := [(0x1000, 8)], lo := 0, w := 32, acc := .ro, reset := fun _ => 0 }

/-- The register APT_TDM_NPCM. -/
def APT_TDM_NPCM : RegD := { base := 0x3c10040, dims := [(0x1000, 8)], words := 1, flds := [APT_TDM_NPCM_pairs] }

/-- APT_AIN_CTRL.en [0]: 1 requests start, 0 requests stop -/
def APT_AIN_CTRL_en : Fld := { no := 784, base := 0x3c20000, dims := [(0x1000, 8)], lo := 0, w := 1, acc := .rw, reset := fun _ => 0 }

/-- The register APT_AIN_CTRL. -/
def APT_AIN_CTRL : RegD := { base := 0x3c20000, dims := [(0x1000, 8)], words := 1, flds := [APT_AIN_CTRL_en] }

/-- APT_AIN_STATUS.state [2:0]: Function state -/
def APT_AIN_STATUS_state : Fld := { no := 785, base := 0x3c20004, dims := [(0x1000, 8)], lo := 0, w := 3, acc := .ro, reset := fun _ => 0 }

/-- APT_AIN_STATUS.lock [5:4]: Input state (R377) -/
def APT_AIN_STATUS_lock : Fld := { no := 786, base := 0x3c20004, dims := [(0x1000, 8)], lo := 4, w := 2, acc := .ro, reset := fun _ => 0 }

/-- APT_AIN_STATUS.npcm [6]: The pair is non-PCM (R387) -/
def APT_AIN_STATUS_npcm : Fld := { no := 787, base := 0x3c20004, dims := [(0x1000, 8)], lo := 6, w := 1, acc := .ro, reset := fun _ => 0 }

/-- APT_AIN_STATUS.ramping [7]: A ramp of R381 is running -/
def APT_AIN_STATUS_ramping : Fld := { no := 788, base := 0x3c20004, dims := [(0x1000, 8)], lo := 7, w := 1, acc := .ro, reset := fun _ => 0 }

/-- APT_AIN_STATUS.fill [11:8]: Buffer fill in samples -/
def APT_AIN_STATUS_fill : Fld := { no := 789, base := 0x3c20004, dims := [(0x1000, 8)], lo := 8, w := 4, acc := .ro, reset := fun _ => 0 }

/-- The register APT_AIN_STATUS. -/
def APT_AIN_STATUS : RegD := { base := 0x3c20004, dims := [(0x1000, 8)], words := 1, flds := [APT_AIN_STATUS_state, APT_AIN_STATUS_lock, APT_AIN_STATUS_npcm, APT_AIN_STATUS_ramping, APT_AIN_STATUS_fill] }

/-- APT_AIN_CFG.rate [1:0]: 0 44.1, 1 48, 2 88.2, 3 96 kHz -/
def APT_AIN_CFG_rate : Fld := { no := 790, base := 0x3c20008, dims := [(0x1000, 8)], lo := 0, w := 2, acc := .rwp, reset := fun _ => 1 }

/-- The register APT_AIN_CFG. -/
def APT_AIN_CFG : RegD := { base := 0x3c20008, dims := [(0x1000, 8)], words := 1, flds := [APT_AIN_CFG_rate] }

/-- APT_AIN_FREQ.freq [31:0]: Signed offset from the declared rate in units of 2^−40; 0 when not LOCKED -/
def APT_AIN_FREQ_freq : Fld := { no := 791, base := 0x3c2000c, dims := [(0x1000, 8)], lo := 0, w := 32, acc := .ro, reset := fun _ => 0 }

/-- The register APT_AIN_FREQ. -/
def APT_AIN_FREQ : RegD := { base := 0x3c2000c, dims := [(0x1000, 8)], words := 1, flds := [APT_AIN_FREQ_freq] }

/-- APT_AIN_CS.block [191:0]: Bytes 0 to 23 of the last complete block of subframe 1, byte 0 in [7:0] (R388); read under R11 -/
def APT_AIN_CS_block : Fld := { no := 792, base := 0x3c20010, dims := [(0x1000, 8)], lo := 0, w := 192, acc := .ro, reset := fun _ => 0 }

/-- The register APT_AIN_CS. -/
def APT_AIN_CS : RegD := { base := 0x3c20010, dims := [(0x1000, 8)], words := 6, flds := [APT_AIN_CS_block] }

/-- APT_AIN_STICKY.lost [0]: The input lost its clock -/
def APT_AIN_STICKY_lost : Fld := { no := 793, base := 0x3c20028, dims := [(0x1000, 8)], lo := 0, w := 1, acc := .w1c, reset := fun _ => 0 }

/-- APT_AIN_STICKY.slip [1]: A sample was dropped or repeated -/
def APT_AIN_STICKY_slip : Fld := { no := 794, base := 0x3c20028, dims := [(0x1000, 8)], lo := 1, w := 1, acc := .w1c, reset := fun _ => 0 }

/-- APT_AIN_STICKY.fsync_err [2]: A framing error occurred -/
def APT_AIN_STICKY_fsync_err : Fld := { no := 795, base := 0x3c20028, dims := [(0x1000, 8)], lo := 2, w := 1, acc := .w1c, reset := fun _ => 0 }

/-- APT_AIN_STICKY.parity [3]: A parity error occurred -/
def APT_AIN_STICKY_parity : Fld := { no := 796, base := 0x3c20028, dims := [(0x1000, 8)], lo := 3, w := 1, acc := .w1c, reset := fun _ => 0 }

/-- APT_AIN_STICKY.cs_crc [4]: A channel-status CRC failed -/
def APT_AIN_STICKY_cs_crc : Fld := { no := 797, base := 0x3c20028, dims := [(0x1000, 8)], lo := 4, w := 1, acc := .w1c, reset := fun _ => 0 }

/-- APT_AIN_STICKY.rate_mis [5]: The input entered MISMATCH -/
def APT_AIN_STICKY_rate_mis : Fld := { no := 798, base := 0x3c20028, dims := [(0x1000, 8)], lo := 5, w := 1, acc := .w1c, reset := fun _ => 0 }

/-- APT_AIN_STICKY.npcm_slip [6]: A slip fell on a non-PCM pair -/
def APT_AIN_STICKY_npcm_slip : Fld := { no := 799, base := 0x3c20028, dims := [(0x1000, 8)], lo := 6, w := 1, acc := .w1c, reset := fun _ => 0 }

/-- APT_AIN_STICKY.rej_write [7]: An RWP write was rejected -/
def APT_AIN_STICKY_rej_write : Fld := { no := 800, base := 0x3c20028, dims := [(0x1000, 8)], lo := 7, w := 1, acc := .w1c, reset := fun _ => 0 }

/-- APT_AIN_STICKY.start_err [8]: A start request failed its check -/
def APT_AIN_STICKY_start_err : Fld := { no := 801, base := 0x3c20028, dims := [(0x1000, 8)], lo := 8, w := 1, acc := .w1c, reset := fun _ => 0 }

/-- The register APT_AIN_STICKY. -/
def APT_AIN_STICKY : RegD := { base := 0x3c20028, dims := [(0x1000, 8)], words := 1, flds := [APT_AIN_STICKY_lost, APT_AIN_STICKY_slip, APT_AIN_STICKY_fsync_err, APT_AIN_STICKY_parity, APT_AIN_STICKY_cs_crc, APT_AIN_STICKY_rate_mis, APT_AIN_STICKY_npcm_slip, APT_AIN_STICKY_rej_write, APT_AIN_STICKY_start_err] }

/-- APT_AIN_CNT0.slips [15:0]: Slips -/
def APT_AIN_CNT0_slips : Fld := { no := 802, base := 0x3c2002c, dims := [(0x1000, 8)], lo := 0, w := 16, acc := .rc, reset := fun _ => 0 }

/-- APT_AIN_CNT0.parity_errs [31:16]: Parity errors -/
def APT_AIN_CNT0_parity_errs : Fld := { no := 803, base := 0x3c2002c, dims := [(0x1000, 8)], lo := 16, w := 16, acc := .rc, reset := fun _ => 0 }

/-- The register APT_AIN_CNT0. -/
def APT_AIN_CNT0 : RegD := { base := 0x3c2002c, dims := [(0x1000, 8)], words := 1, flds := [APT_AIN_CNT0_slips, APT_AIN_CNT0_parity_errs] }

/-- APT_AIN_CNT1.fsync_errs [11:0]: Framing errors -/
def APT_AIN_CNT1_fsync_errs : Fld := { no := 804, base := 0x3c20030, dims := [(0x1000, 8)], lo := 0, w := 12, acc := .rc, reset := fun _ => 0 }

/-- APT_AIN_CNT1.losses [19:12]: Losses from LOCKED -/
def APT_AIN_CNT1_losses : Fld := { no := 805, base := 0x3c20030, dims := [(0x1000, 8)], lo := 12, w := 8, acc := .rc, reset := fun _ => 0 }

/-- APT_AIN_CNT1.cs_crc_errs [27:20]: Channel-status CRC failures -/
def APT_AIN_CNT1_cs_crc_errs : Fld := { no := 806, base := 0x3c20030, dims := [(0x1000, 8)], lo := 20, w := 8, acc := .rc, reset := fun _ => 0 }

/-- APT_AIN_CNT1.npcm_slips [31:28]: Slips on non-PCM pairs -/
def APT_AIN_CNT1_npcm_slips : Fld := { no := 807, base := 0x3c20030, dims := [(0x1000, 8)], lo := 28, w := 4, acc := .rc, reset := fun _ => 0 }

/-- The register APT_AIN_CNT1. -/
def APT_AIN_CNT1 : RegD := { base := 0x3c20030, dims := [(0x1000, 8)], words := 1, flds := [APT_AIN_CNT1_fsync_errs, APT_AIN_CNT1_losses, APT_AIN_CNT1_cs_crc_errs, APT_AIN_CNT1_npcm_slips] }

/-- APT_AOUT_CTRL.en [0]: 1 requests start, 0 requests stop -/
def APT_AOUT_CTRL_en : Fld := { no := 808, base := 0x3c30000, dims := [(0x1000, 8)], lo := 0, w := 1, acc := .rw, reset := fun _ => 0 }

/-- The register APT_AOUT_CTRL. -/
def APT_AOUT_CTRL : RegD := { base := 0x3c30000, dims := [(0x1000, 8)], words := 1, flds := [APT_AOUT_CTRL_en] }

/-- APT_AOUT_STATUS.state [2:0]: Function state -/
def APT_AOUT_STATUS_state : Fld := { no := 809, base := 0x3c30004, dims := [(0x1000, 8)], lo := 0, w := 3, acc := .ro, reset := fun _ => 0 }

/-- APT_AOUT_STATUS.npcm [3]: The pair is sent as non-PCM (R388) -/
def APT_AOUT_STATUS_npcm : Fld := { no := 810, base := 0x3c30004, dims := [(0x1000, 8)], lo := 3, w := 1, acc := .ro, reset := fun _ => 0 }

/-- The register APT_AOUT_STATUS. -/
def APT_AOUT_STATUS : RegD := { base := 0x3c30004, dims := [(0x1000, 8)], words := 1, flds := [APT_AOUT_STATUS_state, APT_AOUT_STATUS_npcm] }

/-- APT_AOUT_CFG.rate [1:0]: 0 44.1, 1 48, 2 88.2, 3 96 kHz -/
def APT_AOUT_CFG_rate : Fld := { no := 811, base := 0x3c30008, dims := [(0x1000, 8)], lo := 0, w := 2, acc := .rwp, reset := fun _ => 1 }

/-- The register APT_AOUT_CFG. -/
def APT_AOUT_CFG : RegD := { base := 0x3c30008, dims := [(0x1000, 8)], words := 1, flds := [APT_AOUT_CFG_rate] }

/-- APT_AOUT_ADV.adv [31:0]: Signed frame advance in nib, −Ts/2 to +Ts/2 (R373); a value outside fails the start check -/
def APT_AOUT_ADV_adv : Fld := { no := 812, base := 0x3c3000c, dims := [(0x1000, 8)], lo := 0, w := 32, acc := .rwp, reset := fun _ => 0 }

/-- The register APT_AOUT_ADV. -/
def APT_AOUT_ADV : RegD := { base := 0x3c3000c, dims := [(0x1000, 8)], words := 1, flds := [APT_AOUT_ADV_adv] }

/-- APT_AOUT_STICKY.rej_write [0]: An RWP write was rejected -/
def APT_AOUT_STICKY_rej_write : Fld := { no := 813, base := 0x3c30010, dims := [(0x1000, 8)], lo := 0, w := 1, acc := .w1c, reset := fun _ => 0 }

/-- APT_AOUT_STICKY.start_err [1]: A start request failed its check -/
def APT_AOUT_STICKY_start_err : Fld := { no := 814, base := 0x3c30010, dims := [(0x1000, 8)], lo := 1, w := 1, acc := .w1c, reset := fun _ => 0 }

/-- The register APT_AOUT_STICKY. -/
def APT_AOUT_STICKY : RegD := { base := 0x3c30010, dims := [(0x1000, 8)], words := 1, flds := [APT_AOUT_STICKY_rej_write, APT_AOUT_STICKY_start_err] }

/-- Every register of the APT block. -/
def regsApt : List RegD :=
  [APT_STATUS, APT_TDM_CTRL, APT_TDM_STATUS, APT_TDM_CFG, APT_TDM_ADV, APT_TDM_RXMASK, APT_TDM_TXMASK, APT_TDM_RXMASK_ACT, APT_TDM_TXMASK_ACT, APT_TDM_FREQ, APT_TDM_STICKY, APT_TDM_CNT0, APT_TDM_CNT1, APT_TDM_NPCM, APT_AIN_CTRL, APT_AIN_STATUS, APT_AIN_CFG, APT_AIN_FREQ, APT_AIN_CS, APT_AIN_STICKY] ++
  [APT_AIN_CNT0, APT_AIN_CNT1, APT_AOUT_CTRL, APT_AOUT_STATUS, APT_AOUT_CFG, APT_AOUT_ADV, APT_AOUT_STICKY]

/-! ### Seam: the registers of R439 -/

/-- SEA_STATUS.mismatch [0]: A digest mismatch was found (R432) -/
def SEA_STATUS_mismatch : Fld := { no := 815, base := 0x3d00000, dims := [], lo := 0, w := 1, acc := .w1c, reset := fun _ => 0 }

/-- SEA_STATUS.takeover [1]: The acting master changed (R435) -/
def SEA_STATUS_takeover : Fld := { no := 816, base := 0x3d00000, dims := [], lo := 1, w := 1, acc := .w1c, reset := fun _ => 0 }

/-- SEA_STATUS.two_masters [2]: Two acting masters were visible -/
def SEA_STATUS_two_masters : Fld := { no := 817, base := 0x3d00000, dims := [], lo := 2, w := 1, acc := .w1c, reset := fun _ => 0 }

/-- SEA_STATUS.twin_down [3]: The twin link went down -/
def SEA_STATUS_twin_down : Fld := { no := 818, base := 0x3d00000, dims := [], lo := 3, w := 1, acc := .w1c, reset := fun _ => 0 }

/-- SEA_STATUS.rej_write [4]: An RWP write was rejected (R12) -/
def SEA_STATUS_rej_write : Fld := { no := 819, base := 0x3d00000, dims := [], lo := 4, w := 1, acc := .w1c, reset := fun _ => 0 }

/-- The register SEA_STATUS. -/
def SEA_STATUS : RegD := { base := 0x3d00000, dims := [], words := 1, flds := [SEA_STATUS_mismatch, SEA_STATUS_takeover, SEA_STATUS_two_masters, SEA_STATUS_twin_down, SEA_STATUS_rej_write] }

/-- SEA_FABRIC.member [4:0]: Member number from MEMBER_ID[4:0] (R415) -/
def SEA_FABRIC_member : Fld := { no := 820, base := 0x3d00004, dims := [], lo := 0, w := 5, acc := .ro, reset := fun _ => 0 }

/-- SEA_FABRIC.topo [9:8]: 0 alone, 1 leaf, 2 spine, 3 twin -/
def SEA_FABRIC_topo : Fld := { no := 821, base := 0x3d00004, dims := [], lo := 8, w := 2, acc := .ro, reset := fun _ => 0 }

/-- SEA_FABRIC.master [20:16]: Timing master named by the Pattern -/
def SEA_FABRIC_master : Fld := { no := 822, base := 0x3d00004, dims := [], lo := 16, w := 5, acc := .ro, reset := fun _ => 0 }

/-- SEA_FABRIC.standby [28:24]: Standby master named by the Pattern -/
def SEA_FABRIC_standby : Fld := { no := 823, base := 0x3d00004, dims := [], lo := 24, w := 5, acc := .ro, reset := fun _ => 0 }

/-- The register SEA_FABRIC. -/
def SEA_FABRIC : RegD := { base := 0x3d00004, dims := [], words := 1, flds := [SEA_FABRIC_member, SEA_FABRIC_topo, SEA_FABRIC_master, SEA_FABRIC_standby] }

/-- SEA_TIME.acting [4:0]: Acting master followed -/
def SEA_TIME_acting : Fld := { no := 824, base := 0x3d00008, dims := [], lo := 0, w := 5, acc := .ro, reset := fun _ => 0 }

/-- SEA_TIME.hop [15:8]: Own hop (R426) -/
def SEA_TIME_hop : Fld := { no := 825, base := 0x3d00008, dims := [], lo := 8, w := 8, acc := .ro, reset := fun _ => 255 }

/-- SEA_TIME.upstream [20:16]: Upstream link -/
def SEA_TIME_upstream : Fld := { no := 826, base := 0x3d00008, dims := [], lo := 16, w := 5, acc := .ro, reset := fun _ => 0 }

/-- SEA_TIME.up_valid [21]: An upstream exists -/
def SEA_TIME_up_valid : Fld := { no := 827, base := 0x3d00008, dims := [], lo := 21, w := 1, acc := .ro, reset := fun _ => 0 }

/-- SEA_TIME.self_acting [22]: This device is acting master -/
def SEA_TIME_self_acting : Fld := { no := 828, base := 0x3d00008, dims := [], lo := 22, w := 1, acc := .ro, reset := fun _ => 0 }

/-- The register SEA_TIME. -/
def SEA_TIME : RegD := { base := 0x3d00008, dims := [], words := 1, flds := [SEA_TIME_acting, SEA_TIME_hop, SEA_TIME_upstream, SEA_TIME_up_valid, SEA_TIME_self_acting] }

/-- SEA_TIMING.takeover_ms [6:0]: Takeover time in ms, 2 to 100 (R435) -/
def SEA_TIMING_takeover_ms : Fld := { no := 829, base := 0x3d0000c, dims := [], lo := 0, w := 7, acc := .rw, reset := fun _ => 10, lim := some (2, 100) }

/-- SEA_TIMING.hold_ms [22:16]: Validity hold in ms, 5 to 100 (R426) -/
def SEA_TIMING_hold_ms : Fld := { no := 830, base := 0x3d0000c, dims := [], lo := 16, w := 7, acc := .rw, reset := fun _ => 20, lim := some (5, 100) }

/-- The register SEA_TIMING. -/
def SEA_TIMING : RegD := { base := 0x3d0000c, dims := [], words := 1, flds := [SEA_TIMING_takeover_ms, SEA_TIMING_hold_ms] }

/-- SEA_CMD.resync [0]: 1 starts a resync (R434) -/
def SEA_CMD_resync : Fld := { no := 831, base := 0x3d00010, dims := [], lo := 0, w := 1, acc := .wo, reset := fun _ => 0 }

/-- SEA_CMD.handover [1]: 1 returns mastership (R435) -/
def SEA_CMD_handover : Fld := { no := 832, base := 0x3d00010, dims := [], lo := 1, w := 1, acc := .wo, reset := fun _ => 0 }

/-- The register SEA_CMD. -/
def SEA_CMD : RegD := { base := 0x3d00010, dims := [], words := 1, flds := [SEA_CMD_resync, SEA_CMD_handover] }

/-- SEA_CMD_ST.resync_done [0]: A resync was applied -/
def SEA_CMD_ST_resync_done : Fld := { no := 833, base := 0x3d00014, dims := [], lo := 0, w := 1, acc := .w1c, reset := fun _ => 0 }

/-- SEA_CMD_ST.resync_fail [1]: A resync failed -/
def SEA_CMD_ST_resync_fail : Fld := { no := 834, base := 0x3d00014, dims := [], lo := 1, w := 1, acc := .w1c, reset := fun _ => 0 }

/-- SEA_CMD_ST.handover_done [2]: A handover completed -/
def SEA_CMD_ST_handover_done : Fld := { no := 835, base := 0x3d00014, dims := [], lo := 2, w := 1, acc := .w1c, reset := fun _ => 0 }

/-- The register SEA_CMD_ST. -/
def SEA_CMD_ST : RegD := { base := 0x3d00014, dims := [], words := 1, flds := [SEA_CMD_ST_resync_done, SEA_CMD_ST_resync_fail, SEA_CMD_ST_handover_done] }

/-- SEA_DIGEST.digest [383:0]: Own digest of the last snapshot, byte 0 in [7:0]. Read under R11 -/
def SEA_DIGEST_digest : Fld := { no := 836, base := 0x3d00020, dims := [], lo := 0, w := 384, acc := .ro, reset := fun _ => 0 }

/-- The register SEA_DIGEST. -/
def SEA_DIGEST : RegD := { base := 0x3d00020, dims := [], words := 12, flds := [SEA_DIGEST_digest] }

/-- SEA_DIGEST_AT.ntw [127:0]: NTW of that snapshot. Read under R11 -/
def SEA_DIGEST_AT_ntw : Fld := { no := 837, base := 0x3d00050, dims := [], lo := 0, w := 128, acc := .ro, reset := fun _ => 0 }

/-- The register SEA_DIGEST_AT. -/
def SEA_DIGEST_AT : RegD := { base := 0x3d00050, dims := [], words := 4, flds := [SEA_DIGEST_AT_ntw] }

/-- SEA_DIGEST_CNT.mismatches [15:0]: Mismatches, saturating -/
def SEA_DIGEST_CNT_mismatches : Fld := { no := 838, base := 0x3d00060, dims := [], lo := 0, w := 16, acc := .rc, reset := fun _ => 0 }

/-- The register SEA_DIGEST_CNT. -/
def SEA_DIGEST_CNT : RegD := { base := 0x3d00060, dims := [], words := 1, flds := [SEA_DIGEST_CNT_mismatches] }

/-- SEA_LINK_CTRL.en [0]: 1 requests start, 0 requests stop (R416) -/
def SEA_LINK_CTRL_en : Fld := { no := 839, base := 0x3d01000, dims := [(0x100, 24)], lo := 0, w := 1, acc := .rw, reset := fun _ => 0 }

/-- The register SEA_LINK_CTRL. -/
def SEA_LINK_CTRL : RegD := { base := 0x3d01000, dims := [(0x100, 24)], words := 1, flds := [SEA_LINK_CTRL_en] }

/-- SEA_LINK_CFG.octet [4:0]: Octet of the lanes -/
def SEA_LINK_CFG_octet : Fld := { no := 840, base := 0x3d01004, dims := [(0x100, 24)], lo := 0, w := 5, acc := .rwp, reset := fun _ => 0 }

/-- SEA_LINK_CFG.lanes [10:8]: Lane count minus 1 -/
def SEA_LINK_CFG_lanes : Fld := { no := 841, base := 0x3d01004, dims := [(0x100, 24)], lo := 8, w := 3, acc := .rwp, reset := fun _ => 0 }

/-- SEA_LINK_CFG.partner [20:16]: Partner member -/
def SEA_LINK_CFG_partner : Fld := { no := 842, base := 0x3d01004, dims := [(0x100, 24)], lo := 16, w := 5, acc := .rwp, reset := fun _ => 0 }

/-- SEA_LINK_CFG.partner_link [28:24]: Partner's link number -/
def SEA_LINK_CFG_partner_link : Fld := { no := 843, base := 0x3d01004, dims := [(0x100, 24)], lo := 24, w := 5, acc := .rwp, reset := fun _ => 0 }

/-- SEA_LINK_CFG.twin [29]: The link is a twin link -/
def SEA_LINK_CFG_twin : Fld := { no := 844, base := 0x3d01004, dims := [(0x100, 24)], lo := 29, w := 1, acc := .rwp, reset := fun _ => 0 }

/-- The register SEA_LINK_CFG. -/
def SEA_LINK_CFG : RegD := { base := 0x3d01004, dims := [(0x100, 24)], words := 1, flds := [SEA_LINK_CFG_octet, SEA_LINK_CFG_lanes, SEA_LINK_CFG_partner, SEA_LINK_CFG_partner_link, SEA_LINK_CFG_twin] }

/-- SEA_LINK_LANEMAP.map [23:0]: Octet lane position of bundle lane i in [3i + 2:3i] -/
def SEA_LINK_LANEMAP_map : Fld := { no := 845, base := 0x3d01008, dims := [(0x100, 24)], lo := 0, w := 24, acc := .rwp, reset := fun _ => 0 }

/-- The register SEA_LINK_LANEMAP. -/
def SEA_LINK_LANEMAP : RegD := { base := 0x3d01008, dims := [(0x100, 24)], words := 1, flds := [SEA_LINK_LANEMAP_map] }

/-- SEA_LINK_ST.state [2:0]: 0 STOPPED, 1 STARTING, 2 RUNNING, 3 STOPPING, 4 FAILED -/
def SEA_LINK_ST_state : Fld := { no := 846, base := 0x3d0100c, dims := [(0x100, 24)], lo := 0, w := 3, acc := .ro, reset := fun _ => 0 }

/-- SEA_LINK_ST.up [3]: At least one lane works in each direction -/
def SEA_LINK_ST_up : Fld := { no := 847, base := 0x3d0100c, dims := [(0x100, 24)], lo := 3, w := 1, acc := .ro, reset := fun _ => 0 }

/-- SEA_LINK_ST.rx_ok [15:8]: Lanes received as working, by bundle lane -/
def SEA_LINK_ST_rx_ok : Fld := { no := 848, base := 0x3d0100c, dims := [(0x100, 24)], lo := 8, w := 8, acc := .ro, reset := fun _ => 0 }

/-- SEA_LINK_ST.tx_lanes [23:16]: Lanes carrying payload out, by bundle lane -/
def SEA_LINK_ST_tx_lanes : Fld := { no := 849, base := 0x3d0100c, dims := [(0x100, 24)], lo := 16, w := 8, acc := .ro, reset := fun _ => 0 }

/-- SEA_LINK_ST.time_valid [24]: The partner sends valid time from the acting master -/
def SEA_LINK_ST_time_valid : Fld := { no := 850, base := 0x3d0100c, dims := [(0x100, 24)], lo := 24, w := 1, acc := .ro, reset := fun _ => 0 }

/-- SEA_LINK_ST.upstream [25]: The link is the upstream -/
def SEA_LINK_ST_upstream : Fld := { no := 851, base := 0x3d0100c, dims := [(0x100, 24)], lo := 25, w := 1, acc := .ro, reset := fun _ => 0 }

/-- SEA_LINK_ST.digest_ok [26]: The last digest agreed (R432) -/
def SEA_LINK_ST_digest_ok : Fld := { no := 852, base := 0x3d0100c, dims := [(0x100, 24)], lo := 26, w := 1, acc := .ro, reset := fun _ => 0 }

/-- The register SEA_LINK_ST. -/
def SEA_LINK_ST : RegD := { base := 0x3d0100c, dims := [(0x100, 24)], words := 1, flds := [SEA_LINK_ST_state, SEA_LINK_ST_up, SEA_LINK_ST_rx_ok, SEA_LINK_ST_tx_lanes, SEA_LINK_ST_time_valid, SEA_LINK_ST_upstream, SEA_LINK_ST_digest_ok] }

/-- SEA_LINK_DELAY.delay [31:0]: Path delay in nib (R421, R427) -/
def SEA_LINK_DELAY_delay : Fld := { no := 853, base := 0x3d01010, dims := [(0x100, 24)], lo := 0, w := 32, acc := .ro, reset := fun _ => 0 }

/-- The register SEA_LINK_DELAY. -/
def SEA_LINK_DELAY : RegD := { base := 0x3d01010, dims := [(0x100, 24)], words := 1, flds := [SEA_LINK_DELAY_delay] }

/-- SEA_LINK_OFFSET.offset [63:0]: Signed mean offset of the last 1 ms, in nib. Read under R11 -/
def SEA_LINK_OFFSET_offset : Fld := { no := 854, base := 0x3d01014, dims := [(0x100, 24)], lo := 0, w := 64, acc := .ro, reset := fun _ => 0 }

/-- The register SEA_LINK_OFFSET. -/
def SEA_LINK_OFFSET : RegD := { base := 0x3d01014, dims := [(0x100, 24)], words := 2, flds := [SEA_LINK_OFFSET_offset] }

/-- SEA_LINK_ASYM.asym [31:0]: Signed asymmetry in nib -/
def SEA_LINK_ASYM_asym : Fld := { no := 855, base := 0x3d0101c, dims := [(0x100, 24)], lo := 0, w := 32, acc := .rw, reset := fun _ => 0 }

/-- The register SEA_LINK_ASYM. -/
def SEA_LINK_ASYM : RegD := { base := 0x3d0101c, dims := [(0x100, 24)], words := 1, flds := [SEA_LINK_ASYM_asym] }

/-- SEA_LINK_PARTNER.member [4:0]: Member number received -/
def SEA_LINK_PARTNER_member : Fld := { no := 856, base := 0x3d01020, dims := [(0x100, 24)], lo := 0, w := 5, acc := .ro, reset := fun _ => 0 }

/-- SEA_LINK_PARTNER.link [12:8]: Link number received -/
def SEA_LINK_PARTNER_link : Fld := { no := 857, base := 0x3d01020, dims := [(0x100, 24)], lo := 8, w := 5, acc := .ro, reset := fun _ => 0 }

/-- SEA_LINK_PARTNER.hop [23:16]: Hop received -/
def SEA_LINK_PARTNER_hop : Fld := { no := 858, base := 0x3d01020, dims := [(0x100, 24)], lo := 16, w := 8, acc := .ro, reset := fun _ => 255 }

/-- SEA_LINK_PARTNER.origin [28:24]: Origin received -/
def SEA_LINK_PARTNER_origin : Fld := { no := 859, base := 0x3d01020, dims := [(0x100, 24)], lo := 24, w := 5, acc := .ro, reset := fun _ => 0 }

/-- SEA_LINK_PARTNER.claim [29]: master_claim received -/
def SEA_LINK_PARTNER_claim : Fld := { no := 860, base := 0x3d01020, dims := [(0x100, 24)], lo := 29, w := 1, acc := .ro, reset := fun _ => 0 }

/-- The register SEA_LINK_PARTNER. -/
def SEA_LINK_PARTNER : RegD := { base := 0x3d01020, dims := [(0x100, 24)], words := 1, flds := [SEA_LINK_PARTNER_member, SEA_LINK_PARTNER_link, SEA_LINK_PARTNER_hop, SEA_LINK_PARTNER_origin, SEA_LINK_PARTNER_claim] }

/-- SEA_LINK_STICKY.lane_lost [0]: A working lane was lost -/
def SEA_LINK_STICKY_lane_lost : Fld := { no := 861, base := 0x3d01024, dims := [(0x100, 24)], lo := 0, w := 1, acc := .w1c, reset := fun _ => 0 }

/-- SEA_LINK_STICKY.down [1]: The link went down -/
def SEA_LINK_STICKY_down : Fld := { no := 862, base := 0x3d01024, dims := [(0x100, 24)], lo := 1, w := 1, acc := .w1c, reset := fun _ => 0 }

/-- SEA_LINK_STICKY.miswire [2]: A lane was miswired -/
def SEA_LINK_STICKY_miswire : Fld := { no := 863, base := 0x3d01024, dims := [(0x100, 24)], lo := 2, w := 1, acc := .w1c, reset := fun _ => 0 }

/-- SEA_LINK_STICKY.skew [3]: A lane exceeded the skew limit -/
def SEA_LINK_STICKY_skew : Fld := { no := 864, base := 0x3d01024, dims := [(0x100, 24)], lo := 3, w := 1, acc := .w1c, reset := fun _ => 0 }

/-- SEA_LINK_STICKY.cw_unc [4]: A payload codeword was uncorrectable -/
def SEA_LINK_STICKY_cw_unc : Fld := { no := 865, base := 0x3d01024, dims := [(0x100, 24)], lo := 4, w := 1, acc := .w1c, reset := fun _ => 0 }

/-- SEA_LINK_STICKY.msg_fail [5]: A message exhausted its resends -/
def SEA_LINK_STICKY_msg_fail : Fld := { no := 866, base := 0x3d01024, dims := [(0x100, 24)], lo := 5, w := 1, acc := .w1c, reset := fun _ => 0 }

/-- SEA_LINK_STICKY.anc_drop [6]: An ANC packet was dropped (R419) -/
def SEA_LINK_STICKY_anc_drop : Fld := { no := 867, base := 0x3d01024, dims := [(0x100, 24)], lo := 6, w := 1, acc := .w1c, reset := fun _ => 0 }

/-- SEA_LINK_STICKY.start_err [7]: A start request failed its check -/
def SEA_LINK_STICKY_start_err : Fld := { no := 868, base := 0x3d01024, dims := [(0x100, 24)], lo := 7, w := 1, acc := .w1c, reset := fun _ => 0 }

/-- The register SEA_LINK_STICKY. -/
def SEA_LINK_STICKY : RegD := { base := 0x3d01024, dims := [(0x100, 24)], words := 1, flds := [SEA_LINK_STICKY_lane_lost, SEA_LINK_STICKY_down, SEA_LINK_STICKY_miswire, SEA_LINK_STICKY_skew, SEA_LINK_STICKY_cw_unc, SEA_LINK_STICKY_msg_fail, SEA_LINK_STICKY_anc_drop, SEA_LINK_STICKY_start_err] }

/-- SEA_LINK_CNT0.cw_corr [15:0]: Codewords corrected -/
def SEA_LINK_CNT0_cw_corr : Fld := { no := 869, base := 0x3d01028, dims := [(0x100, 24)], lo := 0, w := 16, acc := .rc, reset := fun _ => 0 }

/-- SEA_LINK_CNT0.cw_unc [31:16]: Codewords uncorrectable -/
def SEA_LINK_CNT0_cw_unc : Fld := { no := 870, base := 0x3d01028, dims := [(0x100, 24)], lo := 16, w := 16, acc := .rc, reset := fun _ => 0 }

/-- The register SEA_LINK_CNT0. -/
def SEA_LINK_CNT0 : RegD := { base := 0x3d01028, dims := [(0x100, 24)], words := 1, flds := [SEA_LINK_CNT0_cw_corr, SEA_LINK_CNT0_cw_unc] }

/-- SEA_LINK_CNT1.lane_drops [7:0]: Working lanes lost -/
def SEA_LINK_CNT1_lane_drops : Fld := { no := 871, base := 0x3d0102c, dims := [(0x100, 24)], lo := 0, w := 8, acc := .rc, reset := fun _ => 0 }

/-- SEA_LINK_CNT1.rejoins [15:8]: Lanes rejoined (R425) -/
def SEA_LINK_CNT1_rejoins : Fld := { no := 872, base := 0x3d0102c, dims := [(0x100, 24)], lo := 8, w := 8, acc := .rc, reset := fun _ => 0 }

/-- SEA_LINK_CNT1.msg_resends [31:16]: Messages sent again -/
def SEA_LINK_CNT1_msg_resends : Fld := { no := 873, base := 0x3d0102c, dims := [(0x100, 24)], lo := 16, w := 16, acc := .rc, reset := fun _ => 0 }

/-- The register SEA_LINK_CNT1. -/
def SEA_LINK_CNT1 : RegD := { base := 0x3d0102c, dims := [(0x100, 24)], words := 1, flds := [SEA_LINK_CNT1_lane_drops, SEA_LINK_CNT1_rejoins, SEA_LINK_CNT1_msg_resends] }

/-- SEA_LINK_CNT2.anc_drop [15:0]: ANC packets dropped -/
def SEA_LINK_CNT2_anc_drop : Fld := { no := 874, base := 0x3d01030, dims := [(0x100, 24)], lo := 0, w := 16, acc := .rc, reset := fun _ => 0 }

/-- SEA_LINK_CNT2.pace_max_us [31:16]: Longest wait of any stream at the sending controller since the last read, in µs (R420) -/
def SEA_LINK_CNT2_pace_max_us : Fld := { no := 875, base := 0x3d01030, dims := [(0x100, 24)], lo := 16, w := 16, acc := .rc, reset := fun _ => 0 }

/-- The register SEA_LINK_CNT2. -/
def SEA_LINK_CNT2 : RegD := { base := 0x3d01030, dims := [(0x100, 24)], words := 1, flds := [SEA_LINK_CNT2_anc_drop, SEA_LINK_CNT2_pace_max_us] }

/-- Every register of the SEA block. -/
def regsSea : List RegD :=
  [SEA_STATUS, SEA_FABRIC, SEA_TIME, SEA_TIMING, SEA_CMD, SEA_CMD_ST, SEA_DIGEST, SEA_DIGEST_AT, SEA_DIGEST_CNT, SEA_LINK_CTRL, SEA_LINK_CFG, SEA_LINK_LANEMAP, SEA_LINK_ST, SEA_LINK_DELAY, SEA_LINK_OFFSET, SEA_LINK_ASYM, SEA_LINK_PARTNER, SEA_LINK_STICKY, SEA_LINK_CNT0, SEA_LINK_CNT1] ++
  [SEA_LINK_CNT2]

/-! ### Blotter: the registers of R462 -/

/-- BLT_STATUS.safe [0]: The device is in safe state -/
def BLT_STATUS_safe : Fld := { no := 876, base := 0x3e00000, dims := [], lo := 0, w := 1, acc := .ro, reset := fun _ => 0 }

/-- BLT_STATUS.latched [1]: Safe state is latched (R456, R458) -/
def BLT_STATUS_latched : Fld := { no := 877, base := 0x3e00000, dims := [], lo := 1, w := 1, acc := .ro, reset := fun _ => 0 }

/-- BLT_STATUS.fault_n [2]: FAULT_N is asserted -/
def BLT_STATUS_fault_n : Fld := { no := 878, base := 0x3e00000, dims := [], lo := 2, w := 1, acc := .ro, reset := fun _ => 0 }

/-- BLT_STATUS.pin_latch [3]: The pin latch is set (R448) -/
def BLT_STATUS_pin_latch : Fld := { no := 879, base := 0x3e00000, dims := [], lo := 3, w := 1, acc := .ro, reset := fun _ => 0 }

/-- BLT_STATUS.any_record [4]: Some sticky bit is set -/
def BLT_STATUS_any_record : Fld := { no := 880, base := 0x3e00000, dims := [], lo := 4, w := 1, acc := .ro, reset := fun _ => 0 }

/-- BLT_STATUS.any_degrade [5]: Some sticky bit of a DEGRADE or SAFE source is set -/
def BLT_STATUS_any_degrade : Fld := { no := 881, base := 0x3e00000, dims := [], lo := 5, w := 1, acc := .ro, reset := fun _ => 0 }

/-- BLT_STATUS.standing [6]: A SAFE-severity source stands (R454) -/
def BLT_STATUS_standing : Fld := { no := 882, base := 0x3e00000, dims := [], lo := 6, w := 1, acc := .ro, reset := fun _ => 0 }

/-- The register BLT_STATUS. -/
def BLT_STATUS : RegD := { base := 0x3e00000, dims := [], words := 1, flds := [BLT_STATUS_safe, BLT_STATUS_latched, BLT_STATUS_fault_n, BLT_STATUS_pin_latch, BLT_STATUS_any_record, BLT_STATUS_any_degrade, BLT_STATUS_standing] }

/-- BLT_CTRL.pin_thr [1:0]: Lowest severity that sets the pin latch; 0 acts as 1 -/
def BLT_CTRL_pin_thr : Fld := { no := 883, base := 0x3e00004, dims := [], lo := 0, w := 2, acc := .rw, reset := fun _ => 2 }

/-- BLT_CTRL.irq_thr [5:4]: Lowest severity that raises the fault vector; 0 acts as 1 -/
def BLT_CTRL_irq_thr : Fld := { no := 884, base := 0x3e00004, dims := [], lo := 4, w := 2, acc := .rw, reset := fun _ => 2 }

/-- The register BLT_CTRL. -/
def BLT_CTRL : RegD := { base := 0x3e00004, dims := [], words := 1, flds := [BLT_CTRL_pin_thr, BLT_CTRL_irq_thr] }

/-- BLT_CMD.pin_release [0]: 1 releases the pin latch (R448) -/
def BLT_CMD_pin_release : Fld := { no := 885, base := 0x3e00008, dims := [], lo := 0, w := 1, acc := .wo, reset := fun _ => 0 }

/-- BLT_CMD.safe_release [1]: 1 releases safe state at the next tick (R457) -/
def BLT_CMD_safe_release : Fld := { no := 886, base := 0x3e00008, dims := [], lo := 1, w := 1, acc := .wo, reset := fun _ => 0 }

/-- The register BLT_CMD. -/
def BLT_CMD : RegD := { base := 0x3e00008, dims := [], words := 1, flds := [BLT_CMD_pin_release, BLT_CMD_safe_release] }

/-- BLT_FAULTN_WIDTH.width [15:0]: Minimum pin width in units of 10 µs, 1 to 65,535 -/
def BLT_FAULTN_WIDTH_width : Fld := { no := 887, base := 0x3e0000c, dims := [], lo := 0, w := 16, acc := .rw, reset := fun _ => 100, lim := some (1, 65535) }

/-- The register BLT_FAULTN_WIDTH. -/
def BLT_FAULTN_WIDTH : RegD := { base := 0x3e0000c, dims := [], words := 1, flds := [BLT_FAULTN_WIDTH_width] }

/-- BLT_QUIET.quiet_ms [15:0]: Quiet period in ms, 1 to 60,000 -/
def BLT_QUIET_quiet_ms : Fld := { no := 888, base := 0x3e00010, dims := [], lo := 0, w := 16, acc := .rw, reset := fun _ => 2000, lim := some (1, 60000) }

/-- The register BLT_QUIET. -/
def BLT_QUIET : RegD := { base := 0x3e00010, dims := [], words := 1, flds := [BLT_QUIET_quiet_ms] }

/-- BLT_QUIET_LEFT.ms [15:0]: Quiet time still needed before exit, in ms, rounded up; 0 outside safe state -/
def BLT_QUIET_LEFT_ms : Fld := { no := 889, base := 0x3e00014, dims := [], lo := 0, w := 16, acc := .ro, reset := fun _ => 0 }

/-- The register BLT_QUIET_LEFT. -/
def BLT_QUIET_LEFT : RegD := { base := 0x3e00014, dims := [], words := 1, flds := [BLT_QUIET_LEFT_ms] }

/-- BLT_RECOV.count [15:0]: Automatic exits, saturating. Kept through SRST_N -/
def BLT_RECOV_count : Fld := { no := 890, base := 0x3e00018, dims := [], lo := 0, w := 16, acc := .rc, reset := fun _ => 0 }

/-- BLT_RECOV.window [19:16]: Automatic exits within the last 3,600 s, 0 to 8 -/
def BLT_RECOV_window : Fld := { no := 891, base := 0x3e00018, dims := [], lo := 16, w := 4, acc := .ro, reset := fun _ => 0 }

/-- The register BLT_RECOV. -/
def BLT_RECOV : RegD := { base := 0x3e00018, dims := [], words := 1, flds := [BLT_RECOV_count, BLT_RECOV_window] }

/-- BLT_SELF.ce [15:0]: Corrected errors (R458), saturating. Kept through SRST_N -/
def BLT_SELF_ce : Fld := { no := 892, base := 0x3e0001c, dims := [], lo := 0, w := 16, acc := .rc, reset := fun _ => 0 }

/-- BLT_SELF.ue [31:16]: Parity and uncorrectable errors, saturating. Kept through SRST_N -/
def BLT_SELF_ue : Fld := { no := 893, base := 0x3e0001c, dims := [], lo := 16, w := 16, acc := .rc, reset := fun _ => 0 }

/-- The register BLT_SELF. -/
def BLT_SELF : RegD := { base := 0x3e0001c, dims := [], words := 1, flds := [BLT_SELF_ce, BLT_SELF_ue] }

/-- BLT_SAFE_AT.ntw [127:0]: NTW of the latest entry to safe state. Read under R11 -/
def BLT_SAFE_AT_ntw : Fld := { no := 894, base := 0x3e00020, dims := [], lo := 0, w := 128, acc := .ro, reset := fun _ => 0 }

/-- The register BLT_SAFE_AT. -/
def BLT_SAFE_AT : RegD := { base := 0x3e00020, dims := [], words := 4, flds := [BLT_SAFE_AT_ntw] }

/-- BLT_EXIT_AT.ntw [127:0]: NTW of the latest exit. Read under R11 -/
def BLT_EXIT_AT_ntw : Fld := { no := 895, base := 0x3e00030, dims := [], lo := 0, w := 128, acc := .ro, reset := fun _ => 0 }

/-- The register BLT_EXIT_AT. -/
def BLT_EXIT_AT : RegD := { base := 0x3e00030, dims := [], words := 4, flds := [BLT_EXIT_AT_ntw] }

/-- BLT_SUM.word [63:0]: Bit w is 1 while BLT_STICKY[w] holds a set bit. Read under R11 -/
def BLT_SUM_word : Fld := { no := 896, base := 0x3e00040, dims := [], lo := 0, w := 64, acc := .ro, reset := fun _ => 0 }

/-- The register BLT_SUM. -/
def BLT_SUM : RegD := { base := 0x3e00040, dims := [], words := 2, flds := [BLT_SUM_word] }

/-- BLT_STICKY.bits [31:0]: Bit j is the sticky bit of source 32w + j (R446). Kept through SRST_N -/
def BLT_STICKY_bits : Fld := { no := 897, base := 0x3e00100, dims := [(0x4, 64)], lo := 0, w := 32, acc := .w1c, reset := fun _ => 0 }

/-- The register BLT_STICKY. -/
def BLT_STICKY : RegD := { base := 0x3e00100, dims := [(0x4, 64)], words := 1, flds := [BLT_STICKY_bits] }

/-- BLT_RAW.bits [31:0]: Bit j is the raw state of source 32w + j (R440) -/
def BLT_RAW_bits : Fld := { no := 898, base := 0x3e00200, dims := [(0x4, 64)], lo := 0, w := 32, acc := .ro, reset := fun _ => 0 }

/-- The register BLT_RAW. -/
def BLT_RAW : RegD := { base := 0x3e00200, dims := [(0x4, 64)], words := 1, flds := [BLT_RAW_bits] }

/-- BLT_SEV.sevs [31:0]: Severity of source 16r + j in bits [2j + 1:2j]: 0 IGNORE, 1 RECORD, 2 DEGRADE, 3 SAFE (R444, R445) -/
def BLT_SEV_sevs : Fld := { no := 899, base := 0x3e00400, dims := [(0x4, 128)], lo := 0, w := 32, acc := .rw, reset := fun ix => sevResetWord (ix.getD 0 0) }

/-- The register BLT_SEV. -/
def BLT_SEV : RegD := { base := 0x3e00400, dims := [(0x4, 128)], words := 1, flds := [BLT_SEV_sevs] }

/-- BLT_DST_SAFE.hold [31:0]: Bit j is 1 when destination 32w + j has safe policy HOLD, and 0 for BLACK (R451) -/
def BLT_DST_SAFE_hold : Fld := { no := 900, base := 0x3e00800, dims := [(0x4, 48)], lo := 0, w := 32, acc := .ro, reset := fun _ => 0 }

/-- The register BLT_DST_SAFE. -/
def BLT_DST_SAFE : RegD := { base := 0x3e00800, dims := [(0x4, 48)], words := 1, flds := [BLT_DST_SAFE_hold] }

/-- BLT_INJ.src [10:0]: Source to fire (R460) -/
def BLT_INJ_src : Fld := { no := 901, base := 0x3e01000, dims := [], lo := 0, w := 11, acc := .wo, reset := fun _ => 0 }

/-- BLT_INJ.fire [15]: 1 fires src; ignored outside factory test mode -/
def BLT_INJ_fire : Fld := { no := 902, base := 0x3e01000, dims := [], lo := 15, w := 1, acc := .wo, reset := fun _ => 0 }

/-- The register BLT_INJ. -/
def BLT_INJ : RegD := { base := 0x3e01000, dims := [], words := 1, flds := [BLT_INJ_src, BLT_INJ_fire] }

/-- Every register of the BLT block. -/
def regsBlt : List RegD :=
  [BLT_STATUS, BLT_CTRL, BLT_CMD, BLT_FAULTN_WIDTH, BLT_QUIET, BLT_QUIET_LEFT, BLT_RECOV, BLT_SELF, BLT_SAFE_AT, BLT_EXIT_AT, BLT_SUM, BLT_STICKY, BLT_RAW, BLT_SEV, BLT_DST_SAFE, BLT_INJ]

/-! ### Thimble: the registers of R525 -/

/-- THM_STATUS.keys_present [0]: The key region holds keys -/
def THM_STATUS_keys_present : Fld := { no := 903, base := 0x3f00000, dims := [], lo := 0, w := 1, acc := .ro, reset := fun _ => 0 }

/-- THM_STATUS.test_open [1]: TEST_OPEN is set (R521) -/
def THM_STATUS_test_open : Fld := { no := 904, base := 0x3f00000, dims := [], lo := 1, w := 1, acc := .ro, reset := fun _ => 0 }

/-- THM_STATUS.otp_err [2]: An OTP word was uncorrectable, or a program failed -/
def THM_STATUS_otp_err : Fld := { no := 905, base := 0x3f00000, dims := [], lo := 2, w := 1, acc := .w1c, reset := fun _ => 0 }

/-- THM_STATUS.owner_valid [7:4]: Bit s is 1 while owner slot s is valid (R492) -/
def THM_STATUS_owner_valid : Fld := { no := 906, base := 0x3f00000, dims := [], lo := 4, w := 4, acc := .ro, reset := fun _ => 0 }

/-- THM_STATUS.owner_revoked [11:8]: Bit s is 1 when owner slot s is revoked -/
def THM_STATUS_owner_revoked : Fld := { no := 907, base := 0x3f00000, dims := [], lo := 8, w := 4, acc := .ro, reset := fun _ => 0 }

/-- The register THM_STATUS. -/
def THM_STATUS : RegD := { base := 0x3f00000, dims := [], words := 1, flds := [THM_STATUS_keys_present, THM_STATUS_test_open, THM_STATUS_otp_err, THM_STATUS_owner_valid, THM_STATUS_owner_revoked] }

/-- THM_SERIAL.serial [63:0]: Unit serial number. Read under R11 -/
def THM_SERIAL_serial : Fld := { no := 908, base := 0x3f00008, dims := [], lo := 0, w := 64, acc := .ro, reset := fun _ => 0 }

/-- The register THM_SERIAL. -/
def THM_SERIAL : RegD := { base := 0x3f00008, dims := [], words := 2, flds := [THM_SERIAL_serial] }

/-- THM_RB.fw [6:0]: Firmware anti-rollback counter (R518) -/
def THM_RB_fw : Fld := { no := 909, base := 0x3f00010, dims := [], lo := 0, w := 7, acc := .ro, reset := fun _ => 0 }

/-- THM_RB.pat [14:8]: Pattern anti-rollback counter -/
def THM_RB_pat : Fld := { no := 910, base := 0x3f00010, dims := [], lo := 8, w := 7, acc := .ro, reset := fun _ => 0 }

/-- The register THM_RB. -/
def THM_RB : RegD := { base := 0x3f00010, dims := [], words := 1, flds := [THM_RB_fw, THM_RB_pat] }

/-- THM_OWNER.key_id [31:0]: key_id of the slot; 0 when empty -/
def THM_OWNER_key_id : Fld := { no := 911, base := 0x3f00020, dims := [(0x4, 4)], lo := 0, w := 32, acc := .ro, reset := fun _ => 0 }

/-- The register THM_OWNER. -/
def THM_OWNER : RegD := { base := 0x3f00020, dims := [(0x4, 4)], words := 1, flds := [THM_OWNER_key_id] }

/-- THM_ATT_CTRL.start [0]: 1 starts an attestation (R491) -/
def THM_ATT_CTRL_start : Fld := { no := 912, base := 0x3f00040, dims := [], lo := 0, w := 1, acc := .wo, reset := fun _ => 0 }

/-- The register THM_ATT_CTRL. -/
def THM_ATT_CTRL : RegD := { base := 0x3f00040, dims := [], words := 1, flds := [THM_ATT_CTRL_start] }

/-- THM_ATT_ST.busy [0]: Signing in progress -/
def THM_ATT_ST_busy : Fld := { no := 913, base := 0x3f00044, dims := [], lo := 0, w := 1, acc := .ro, reset := fun _ => 0 }

/-- THM_ATT_ST.done [1]: Signature ready; cleared by the next start -/
def THM_ATT_ST_done : Fld := { no := 914, base := 0x3f00044, dims := [], lo := 1, w := 1, acc := .ro, reset := fun _ => 0 }

/-- THM_ATT_ST.err [2]: Refused: the unit has no keys -/
def THM_ATT_ST_err : Fld := { no := 915, base := 0x3f00044, dims := [], lo := 2, w := 1, acc := .ro, reset := fun _ => 0 }

/-- The register THM_ATT_ST. -/
def THM_ATT_ST : RegD := { base := 0x3f00044, dims := [], words := 1, flds := [THM_ATT_ST_busy, THM_ATT_ST_done, THM_ATT_ST_err] }

/-- THM_ATT_NONCE.word [31:0]: Word w: Nonce -/
def THM_ATT_NONCE_word : Fld := { no := 916, base := 0x3f00080, dims := [(0x4, 12)], lo := 0, w := 32, acc := .rw, reset := fun _ => 0 }

/-- The register THM_ATT_NONCE. -/
def THM_ATT_NONCE : RegD := { base := 0x3f00080, dims := [(0x4, 12)], words := 1, flds := [THM_ATT_NONCE_word] }

/-- THM_ATT_SIG.word [31:0]: Word w: Signature, r then s -/
def THM_ATT_SIG_word : Fld := { no := 917, base := 0x3f000c0, dims := [(0x4, 24)], lo := 0, w := 32, acc := .ro, reset := fun _ => 0 }

/-- The register THM_ATT_SIG. -/
def THM_ATT_SIG : RegD := { base := 0x3f000c0, dims := [(0x4, 24)], words := 1, flds := [THM_ATT_SIG_word] }

/-- THM_ATT_AT.ntw [127:0]: NTW signed. Read under R11 -/
def THM_ATT_AT_ntw : Fld := { no := 918, base := 0x3f00120, dims := [], lo := 0, w := 128, acc := .ro, reset := fun _ => 0 }

/-- The register THM_ATT_AT. -/
def THM_ATT_AT : RegD := { base := 0x3f00120, dims := [], words := 4, flds := [THM_ATT_AT_ntw] }

/-- THM_CERT_LEN.bytes [13:0]: Length of the certificate chain in bytes -/
def THM_CERT_LEN_bytes : Fld := { no := 919, base := 0x3f00140, dims := [], lo := 0, w := 14, acc := .ro, reset := fun _ => 0 }

/-- The register THM_CERT_LEN. -/
def THM_CERT_LEN : RegD := { base := 0x3f00140, dims := [], words := 1, flds := [THM_CERT_LEN_bytes] }

/-- THM_CERT.data [31:0]: Certificate chain -/
def THM_CERT_data : Fld := { no := 920, base := 0x3f01000, dims := [(0x4, 2048)], lo := 0, w := 32, acc := .ro, reset := fun _ => 0 }

/-- The register THM_CERT. -/
def THM_CERT : RegD := { base := 0x3f01000, dims := [(0x4, 2048)], words := 1, flds := [THM_CERT_data] }

/-- Every register of the THM block. -/
def regsThm : List RegD :=
  [THM_STATUS, THM_SERIAL, THM_RB, THM_OWNER, THM_ATT_CTRL, THM_ATT_ST, THM_ATT_NONCE, THM_ATT_SIG, THM_ATT_AT, THM_CERT_LEN, THM_CERT]

/-! ### Update: the registers of R526 -/

/-- UPD_STATUS.sess_state [2:0]: Session state (R498) -/
def UPD_STATUS_sess_state : Fld := { no := 921, base := 0x3f40000, dims := [], lo := 0, w := 3, acc := .ro, reset := fun _ => 0 }

/-- UPD_STATUS.table_ok [3]: The piece table has passed (R500) -/
def UPD_STATUS_table_ok : Fld := { no := 922, base := 0x3f40000, dims := [], lo := 3, w := 1, acc := .ro, reset := fun _ => 0 }

/-- UPD_STATUS.type [6:4]: Session image type (R493) -/
def UPD_STATUS_type : Fld := { no := 923, base := 0x3f40000, dims := [], lo := 4, w := 3, acc := .ro, reset := fun _ => 0 }

/-- UPD_STATUS.target [7]: Target slot: 0 A, 1 B -/
def UPD_STATUS_target : Fld := { no := 924, base := 0x3f40000, dims := [], lo := 7, w := 1, acc := .ro, reset := fun _ => 0 }

/-- UPD_STATUS.trial [8]: The boot record is in TRIAL -/
def UPD_STATUS_trial : Fld := { no := 925, base := 0x3f40000, dims := [], lo := 8, w := 1, acc := .ro, reset := fun _ => 0 }

/-- UPD_STATUS.active [9]: Active slot: 0 A, 1 B -/
def UPD_STATUS_active : Fld := { no := 926, base := 0x3f40000, dims := [], lo := 9, w := 1, acc := .ro, reset := fun _ => 0 }

/-- UPD_STATUS.prev_state [11:10]: 0 VALID, 1 INVALID, 2 REJECTED (R506) -/
def UPD_STATUS_prev_state : Fld := { no := 927, base := 0x3f40000, dims := [], lo := 10, w := 2, acc := .ro, reset := fun _ => 0 }

/-- UPD_STATUS.trial_boots [13:12]: Boots in the current trial -/
def UPD_STATUS_trial_boots : Fld := { no := 928, base := 0x3f40000, dims := [], lo := 12, w := 2, acc := .ro, reset := fun _ => 0 }

/-- UPD_STATUS.sources [16:14]: Sources that offered the open session's image, saturating at 7 -/
def UPD_STATUS_sources : Fld := { no := 929, base := 0x3f40000, dims := [], lo := 14, w := 3, acc := .ro, reset := fun _ => 0 }

/-- The register UPD_STATUS. -/
def UPD_STATUS : RegD := { base := 0x3f40000, dims := [], words := 1, flds := [UPD_STATUS_sess_state, UPD_STATUS_table_ok, UPD_STATUS_type, UPD_STATUS_target, UPD_STATUS_trial, UPD_STATUS_active, UPD_STATUS_prev_state, UPD_STATUS_trial_boots, UPD_STATUS_sources] }

/-- UPD_PIECES.total [15:0]: T + N -/
def UPD_PIECES_total : Fld := { no := 930, base := 0x3f40008, dims := [], lo := 0, w := 16, acc := .ro, reset := fun _ => 0 }

/-- UPD_PIECES.held [31:16]: Pieces held -/
def UPD_PIECES_held : Fld := { no := 931, base := 0x3f40008, dims := [], lo := 16, w := 16, acc := .ro, reset := fun _ => 0 }

/-- The register UPD_PIECES. -/
def UPD_PIECES : RegD := { base := 0x3f40008, dims := [], words := 1, flds := [UPD_PIECES_total, UPD_PIECES_held] }

/-- UPD_MISS.first [15:0]: Lowest missing index; 0xFFFF when none -/
def UPD_MISS_first : Fld := { no := 932, base := 0x3f4000c, dims := [], lo := 0, w := 16, acc := .ro, reset := fun _ => 0xffff }

/-- UPD_MISS.refused [31:16]: Pieces refused or cleared for their digest, saturating -/
def UPD_MISS_refused : Fld := { no := 933, base := 0x3f4000c, dims := [], lo := 16, w := 16, acc := .rc, reset := fun _ => 0 }

/-- The register UPD_MISS. -/
def UPD_MISS : RegD := { base := 0x3f4000c, dims := [], words := 1, flds := [UPD_MISS_first, UPD_MISS_refused] }

/-- UPD_VERSION.version [63:0]: Header version field. Read under R11 -/
def UPD_VERSION_version : Fld := { no := 934, base := 0x3f40010, dims := [], lo := 0, w := 64, acc := .ro, reset := fun _ => 0 }

/-- The register UPD_VERSION. -/
def UPD_VERSION : RegD := { base := 0x3f40010, dims := [], words := 2, flds := [UPD_VERSION_version] }

/-- UPD_START.sec [47:0]: Start second (R497). Read under R11 -/
def UPD_START_sec : Fld := { no := 935, base := 0x3f40018, dims := [], lo := 0, w := 48, acc := .ro, reset := fun _ => 0 }

/-- The register UPD_START. -/
def UPD_START : RegD := { base := 0x3f40018, dims := [], words := 2, flds := [UPD_START_sec] }

/-- UPD_DIGEST.digest [383:0]: Image digest (R494) -/
def UPD_DIGEST_digest : Fld := { no := 936, base := 0x3f40020, dims := [], lo := 0, w := 384, acc := .ro, reset := fun _ => 0 }

/-- The register UPD_DIGEST. -/
def UPD_DIGEST : RegD := { base := 0x3f40020, dims := [], words := 12, flds := [UPD_DIGEST_digest] }

/-- UPD_CMD.offer [0]: 1 offers the header in UPD_HDR (R496) -/
def UPD_CMD_offer : Fld := { no := 937, base := 0x3f40050, dims := [], lo := 0, w := 1, acc := .wo, reset := fun _ => 0 }

/-- UPD_CMD.put [1]: 1 puts the staged piece (R499) -/
def UPD_CMD_put : Fld := { no := 938, base := 0x3f40050, dims := [], lo := 1, w := 1, acc := .wo, reset := fun _ => 0 }

/-- UPD_CMD.abort [2]: 1 ends the session (R503) -/
def UPD_CMD_abort : Fld := { no := 939, base := 0x3f40050, dims := [], lo := 2, w := 1, acc := .wo, reset := fun _ => 0 }

/-- UPD_CMD.activate [3]: 1 activates a READY session (R509) -/
def UPD_CMD_activate : Fld := { no := 940, base := 0x3f40050, dims := [], lo := 3, w := 1, acc := .wo, reset := fun _ => 0 }

/-- UPD_CMD.approve [4]: 1 approves confirmation under host_gate (R512) -/
def UPD_CMD_approve : Fld := { no := 941, base := 0x3f40050, dims := [], lo := 4, w := 1, acc := .wo, reset := fun _ => 0 }

/-- UPD_CMD.revert [5]: 1 activates the previous slot (R517) -/
def UPD_CMD_revert : Fld := { no := 942, base := 0x3f40050, dims := [], lo := 5, w := 1, acc := .wo, reset := fun _ => 0 }

/-- The register UPD_CMD. -/
def UPD_CMD : RegD := { base := 0x3f40050, dims := [], words := 1, flds := [UPD_CMD_offer, UPD_CMD_put, UPD_CMD_abort, UPD_CMD_activate, UPD_CMD_approve, UPD_CMD_revert] }

/-- UPD_RES.code [3:0]: Result of the last command (R505) -/
def UPD_RES_code : Fld := { no := 943, base := 0x3f40054, dims := [], lo := 0, w := 4, acc := .ro, reset := fun _ => 0 }

/-- UPD_RES.detail [15:8]: For IMAGE on a Pattern, the TOP_PAT_ERR code; 0 otherwise -/
def UPD_RES_detail : Fld := { no := 944, base := 0x3f40054, dims := [], lo := 8, w := 8, acc := .ro, reset := fun _ => 0 }

/-- UPD_RES.busy [31]: A command is in progress -/
def UPD_RES_busy : Fld := { no := 945, base := 0x3f40054, dims := [], lo := 31, w := 1, acc := .ro, reset := fun _ => 0 }

/-- The register UPD_RES. -/
def UPD_RES : RegD := { base := 0x3f40054, dims := [], words := 1, flds := [UPD_RES_code, UPD_RES_detail, UPD_RES_busy] }

/-- UPD_CFG.window_s [11:0]: Health window in s, 30 to 3,600; other values take the nearer limit -/
def UPD_CFG_window_s : Fld := { no := 946, base := 0x3f40058, dims := [], lo := 0, w := 12, acc := .rw, reset := fun _ => 120, lim := some (30, 3600) }

/-- UPD_CFG.host_gate [12]: 1 requires approve before confirmation -/
def UPD_CFG_host_gate : Fld := { no := 947, base := 0x3f40058, dims := [], lo := 12, w := 1, acc := .rw, reset := fun _ => 0 }

/-- UPD_CFG.inband_en [13]: 1 accepts in-band update messages (R504) -/
def UPD_CFG_inband_en : Fld := { no := 948, base := 0x3f40058, dims := [], lo := 13, w := 1, acc := .rw, reset := fun _ => 1 }

/-- The register UPD_CFG. -/
def UPD_CFG : RegD := { base := 0x3f40058, dims := [], words := 1, flds := [UPD_CFG_window_s, UPD_CFG_host_gate, UPD_CFG_inband_en] }

/-- UPD_WINDOW_LEFT.s [11:0]: Seconds left in the health window; 0 outside a trial -/
def UPD_WINDOW_LEFT_s : Fld := { no := 949, base := 0x3f4005c, dims := [], lo := 0, w := 12, acc := .ro, reset := fun _ => 0 }

/-- The register UPD_WINDOW_LEFT. -/
def UPD_WINDOW_LEFT : RegD := { base := 0x3f4005c, dims := [], words := 1, flds := [UPD_WINDOW_LEFT_s] }

/-- UPD_ACT_AT.ntw [127:0]: Activation instant (R509). Written under R11 -/
def UPD_ACT_AT_ntw : Fld := { no := 950, base := 0x3f40060, dims := [], lo := 0, w := 128, acc := .rw, reset := fun _ => 0 }

/-- The register UPD_ACT_AT. -/
def UPD_ACT_AT : RegD := { base := 0x3f40060, dims := [], words := 4, flds := [UPD_ACT_AT_ntw] }

/-- UPD_LAST.outcome [3:0]: 0 none, 1 confirmed, 2 window expired, 3 trial boots exhausted, 4 SETTINGS_INCOMPATIBLE, 5 verification failed. Kept through every reset, from the boot record -/
def UPD_LAST_outcome : Fld := { no := 951, base := 0x3f40070, dims := [], lo := 0, w := 4, acc := .ro, reset := fun _ => 0 }

/-- UPD_LAST.slot [4]: Slot concerned -/
def UPD_LAST_slot : Fld := { no := 952, base := 0x3f40070, dims := [], lo := 4, w := 1, acc := .ro, reset := fun _ => 0 }

/-- The register UPD_LAST. -/
def UPD_LAST : RegD := { base := 0x3f40070, dims := [], words := 1, flds := [UPD_LAST_outcome, UPD_LAST_slot] }

/-- UPD_HEALTH_CONFIRM.confirm [0]: Reads 1 once the trial is confirmed (R513). Only firmware can write it, through the Scribe's path; host writes are ignored -/
def UPD_HEALTH_CONFIRM_confirm : Fld := { no := 953, base := 0x3f40074, dims := [], lo := 0, w := 1, acc := .ro, reset := fun _ => 0 }

/-- The register UPD_HEALTH_CONFIRM. -/
def UPD_HEALTH_CONFIRM : RegD := { base := 0x3f40074, dims := [], words := 1, flds := [UPD_HEALTH_CONFIRM_confirm] }

/-- UPD_PIECE_IDX.index [15:0]: Index of the staged piece -/
def UPD_PIECE_IDX_index : Fld := { no := 954, base := 0x3f40080, dims := [], lo := 0, w := 16, acc := .rw, reset := fun _ => 0 }

/-- The register UPD_PIECE_IDX. -/
def UPD_PIECE_IDX : RegD := { base := 0x3f40080, dims := [], words := 1, flds := [UPD_PIECE_IDX_index] }

/-- UPD_PIECE_LEN.len [10:0]: Length of the staged piece, 1 to 1,024 -/
def UPD_PIECE_LEN_len : Fld := { no := 955, base := 0x3f40084, dims := [], lo := 0, w := 11, acc := .rw, reset := fun _ => 0 }

/-- The register UPD_PIECE_LEN. -/
def UPD_PIECE_LEN : RegD := { base := 0x3f40084, dims := [], words := 1, flds := [UPD_PIECE_LEN_len] }

/-- UPD_HDR.word [31:0]: Word w: Staged header, byte 4r in bits [31:24] of register r -/
def UPD_HDR_word : Fld := { no := 956, base := 0x3f40100, dims := [(0x4, 64)], lo := 0, w := 32, acc := .rw, reset := fun _ => 0 }

/-- The register UPD_HDR. -/
def UPD_HDR : RegD := { base := 0x3f40100, dims := [(0x4, 64)], words := 1, flds := [UPD_HDR_word] }

/-- UPD_PIECE_DATA.word [31:0]: Word w: Staged piece, in the same byte order -/
def UPD_PIECE_DATA_word : Fld := { no := 957, base := 0x3f40400, dims := [(0x4, 256)], lo := 0, w := 32, acc := .rw, reset := fun _ => 0 }

/-- The register UPD_PIECE_DATA. -/
def UPD_PIECE_DATA : RegD := { base := 0x3f40400, dims := [(0x4, 256)], words := 1, flds := [UPD_PIECE_DATA_word] }

/-- UPD_BITMAP.word [31:0]: Word w: Bit p is 1 while piece p is held -/
def UPD_BITMAP_word : Fld := { no := 958, base := 0x3f41000, dims := [(0x4, 520)], lo := 0, w := 32, acc := .ro, reset := fun _ => 0 }

/-- The register UPD_BITMAP. -/
def UPD_BITMAP : RegD := { base := 0x3f41000, dims := [(0x4, 520)], words := 1, flds := [UPD_BITMAP_word] }

/-- Every register of the UPD block. -/
def regsUpd : List RegD :=
  [UPD_STATUS, UPD_PIECES, UPD_MISS, UPD_VERSION, UPD_START, UPD_DIGEST, UPD_CMD, UPD_RES, UPD_CFG, UPD_WINDOW_LEFT, UPD_ACT_AT, UPD_LAST, UPD_HEALTH_CONFIRM, UPD_PIECE_IDX, UPD_PIECE_LEN, UPD_HDR, UPD_PIECE_DATA, UPD_BITMAP]

/-! ### Interconnect: the registers of R547 -/

/-- ICN_STATUS.dflt [0]: An access reached the default target -/
def ICN_STATUS_dflt : Fld := { no := 959, base := 0x3f80000, dims := [], lo := 0, w := 1, acc := .w1c, reset := fun _ => 0 }

/-- ICN_STATUS.be [1]: A register access was refused for its byte enables -/
def ICN_STATUS_be : Fld := { no := 960, base := 0x3f80000, dims := [], lo := 1, w := 1, acc := .w1c, reset := fun _ => 0 }

/-- ICN_STATUS.reset_abort [2]: A master was reset in the middle of a burst -/
def ICN_STATUS_reset_abort : Fld := { no := 961, base := 0x3f80000, dims := [], lo := 2, w := 1, acc := .w1c, reset := fun _ => 0 }

/-- ICN_STATUS.timeout [3]: An access timed out -/
def ICN_STATUS_timeout : Fld := { no := 962, base := 0x3f80000, dims := [], lo := 3, w := 1, acc := .w1c, reset := fun _ => 0 }

/-- ICN_STATUS.parity [4]: A beat failed its parity check -/
def ICN_STATUS_parity : Fld := { no := 963, base := 0x3f80000, dims := [], lo := 4, w := 1, acc := .w1c, reset := fun _ => 0 }

/-- ICN_STATUS.auth_fail [5]: An in-band request failed authentication -/
def ICN_STATUS_auth_fail : Fld := { no := 964, base := 0x3f80000, dims := [], lo := 5, w := 1, acc := .w1c, reset := fun _ => 0 }

/-- ICN_STATUS.replay [6]: An in-band request was dropped as a replay -/
def ICN_STATUS_replay : Fld := { no := 965, base := 0x3f80000, dims := [], lo := 6, w := 1, acc := .w1c, reset := fun _ => 0 }

/-- The register ICN_STATUS. -/
def ICN_STATUS : RegD := { base := 0x3f80000, dims := [], words := 1, flds := [ICN_STATUS_dflt, ICN_STATUS_be, ICN_STATUS_reset_abort, ICN_STATUS_timeout, ICN_STATUS_parity, ICN_STATUS_auth_fail, ICN_STATUS_replay] }

/-- ICN_ERR_ADDR.offset [31:0]: Offset within the BAR or internal target -/
def ICN_ERR_ADDR_offset : Fld := { no := 966, base := 0x3f80004, dims := [], lo := 0, w := 32, acc := .ro, reset := fun _ => 0 }

/-- The register ICN_ERR_ADDR. -/
def ICN_ERR_ADDR : RegD := { base := 0x3f80004, dims := [], words := 1, flds := [ICN_ERR_ADDR_offset] }

/-- ICN_ERR_INFO.master [2:0]: Master ID (R536) -/
def ICN_ERR_INFO_master : Fld := { no := 967, base := 0x3f80008, dims := [], lo := 0, w := 3, acc := .ro, reset := fun _ => 0 }

/-- ICN_ERR_INFO.write [4]: 1 write, 0 read -/
def ICN_ERR_INFO_write : Fld := { no := 968, base := 0x3f80008, dims := [], lo := 4, w := 1, acc := .ro, reset := fun _ => 0 }

/-- ICN_ERR_INFO.kind [7:5]: 1 default target, 2 byte enables, 3 timeout, 4 parity, 5 reset mid-burst -/
def ICN_ERR_INFO_kind : Fld := { no := 969, base := 0x3f80008, dims := [], lo := 5, w := 3, acc := .ro, reset := fun _ => 0 }

/-- ICN_ERR_INFO.target [10:8]: 0 core registers, 1 control registers, 2 Scribe memories, 3 Inkwell window, 4 Thimble, 5 NVM, 7 default target -/
def ICN_ERR_INFO_target : Fld := { no := 970, base := 0x3f80008, dims := [], lo := 8, w := 3, acc := .ro, reset := fun _ => 0 }

/-- The register ICN_ERR_INFO. -/
def ICN_ERR_INFO : RegD := { base := 0x3f80008, dims := [], words := 1, flds := [ICN_ERR_INFO_master, ICN_ERR_INFO_write, ICN_ERR_INFO_kind, ICN_ERR_INFO_target] }

/-- ICN_CNT0.dflt [15:0]: Default-target responses -/
def ICN_CNT0_dflt : Fld := { no := 971, base := 0x3f8000c, dims := [], lo := 0, w := 16, acc := .rc, reset := fun _ => 0 }

/-- ICN_CNT0.be_refused [31:16]: Register words refused for byte enables -/
def ICN_CNT0_be_refused : Fld := { no := 972, base := 0x3f8000c, dims := [], lo := 16, w := 16, acc := .rc, reset := fun _ => 0 }

/-- The register ICN_CNT0. -/
def ICN_CNT0 : RegD := { base := 0x3f8000c, dims := [], words := 1, flds := [ICN_CNT0_dflt, ICN_CNT0_be_refused] }

/-- ICN_CNT1.timeouts [7:0]: Timeouts -/
def ICN_CNT1_timeouts : Fld := { no := 973, base := 0x3f80010, dims := [], lo := 0, w := 8, acc := .rc, reset := fun _ => 0 }

/-- ICN_CNT1.parity [15:8]: Parity failures -/
def ICN_CNT1_parity : Fld := { no := 974, base := 0x3f80010, dims := [], lo := 8, w := 8, acc := .rc, reset := fun _ => 0 }

/-- ICN_CNT1.reset_aborts [31:16]: Bursts ended by a master reset -/
def ICN_CNT1_reset_aborts : Fld := { no := 975, base := 0x3f80010, dims := [], lo := 16, w := 16, acc := .rc, reset := fun _ => 0 }

/-- The register ICN_CNT1. -/
def ICN_CNT1 : RegD := { base := 0x3f80010, dims := [], words := 1, flds := [ICN_CNT1_timeouts, ICN_CNT1_parity, ICN_CNT1_reset_aborts] }

/-- ICN_IB_BOOT.boot [63:0]: Current boot identifier (R541). Read under R11 -/
def ICN_IB_BOOT_boot : Fld := { no := 976, base := 0x3f80020, dims := [], lo := 0, w := 64, acc := .ro, reset := fun _ => 0 }

/-- The register ICN_IB_BOOT. -/
def ICN_IB_BOOT : RegD := { base := 0x3f80020, dims := [], words := 2, flds := [ICN_IB_BOOT_boot] }

/-- ICN_IB_ST.enabled [0]: The Pattern defines a control flow -/
def ICN_IB_ST_enabled : Fld := { no := 977, base := 0x3f80028, dims := [], lo := 0, w := 1, acc := .ro, reset := fun _ => 0 }

/-- ICN_IB_ST.keys [7:4]: Bit k is 1 when key slot k is defined -/
def ICN_IB_ST_keys : Fld := { no := 978, base := 0x3f80028, dims := [], lo := 4, w := 4, acc := .ro, reset := fun _ => 0 }

/-- The register ICN_IB_ST. -/
def ICN_IB_ST : RegD := { base := 0x3f80028, dims := [], words := 1, flds := [ICN_IB_ST_enabled, ICN_IB_ST_keys] }

/-- ICN_IB_CNT0.executed [15:0]: Requests executed -/
def ICN_IB_CNT0_executed : Fld := { no := 979, base := 0x3f8002c, dims := [], lo := 0, w := 16, acc := .rc, reset := fun _ => 0 }

/-- ICN_IB_CNT0.resent [31:16]: Kept replies sent again -/
def ICN_IB_CNT0_resent : Fld := { no := 980, base := 0x3f8002c, dims := [], lo := 16, w := 16, acc := .rc, reset := fun _ => 0 }

/-- The register ICN_IB_CNT0. -/
def ICN_IB_CNT0 : RegD := { base := 0x3f8002c, dims := [], words := 1, flds := [ICN_IB_CNT0_executed, ICN_IB_CNT0_resent] }

/-- ICN_IB_CNT1.auth_fail [7:0]: Requests failing checks 2 and 3 of R544 -/
def ICN_IB_CNT1_auth_fail : Fld := { no := 981, base := 0x3f80030, dims := [], lo := 0, w := 8, acc := .rc, reset := fun _ => 0 }

/-- ICN_IB_CNT1.replay [15:8]: Requests dropped as replays -/
def ICN_IB_CNT1_replay : Fld := { no := 982, base := 0x3f80030, dims := [], lo := 8, w := 8, acc := .rc, reset := fun _ => 0 }

/-- ICN_IB_CNT1.stale [23:16]: Requests with another boot identifier -/
def ICN_IB_CNT1_stale : Fld := { no := 983, base := 0x3f80030, dims := [], lo := 16, w := 8, acc := .rc, reset := fun _ => 0 }

/-- ICN_IB_CNT1.malformed [31:24]: Datagrams failing check 1 -/
def ICN_IB_CNT1_malformed : Fld := { no := 984, base := 0x3f80030, dims := [], lo := 24, w := 8, acc := .rc, reset := fun _ => 0 }

/-- The register ICN_IB_CNT1. -/
def ICN_IB_CNT1 : RegD := { base := 0x3f80030, dims := [], words := 1, flds := [ICN_IB_CNT1_auth_fail, ICN_IB_CNT1_replay, ICN_IB_CNT1_stale, ICN_IB_CNT1_malformed] }

/-- ICN_IB_CNT2.dropped_safe [15:0]: Requests dropped in safe state (R545) -/
def ICN_IB_CNT2_dropped_safe : Fld := { no := 985, base := 0x3f80034, dims := [], lo := 0, w := 16, acc := .rc, reset := fun _ => 0 }

/-- The register ICN_IB_CNT2. -/
def ICN_IB_CNT2 : RegD := { base := 0x3f80034, dims := [], words := 1, flds := [ICN_IB_CNT2_dropped_safe] }

/-- ICN_IB_SEQ.seq [63:0]: Highest seq accepted under key k in the current boot (R544). Read under R11 -/
def ICN_IB_SEQ_seq : Fld := { no := 986, base := 0x3f80040, dims := [(0x8, 4)], lo := 0, w := 64, acc := .ro, reset := fun _ => 0 }

/-- The register ICN_IB_SEQ. -/
def ICN_IB_SEQ : RegD := { base := 0x3f80040, dims := [(0x8, 4)], words := 2, flds := [ICN_IB_SEQ_seq] }

/-- Every register of the ICN block. -/
def regsIcn : List RegD :=
  [ICN_STATUS, ICN_ERR_ADDR, ICN_ERR_INFO, ICN_CNT0, ICN_CNT1, ICN_IB_BOOT, ICN_IB_ST, ICN_IB_CNT0, ICN_IB_CNT1, ICN_IB_CNT2, ICN_IB_SEQ]

/-- The register map. -/
def allRegs : List RegD :=
  regsTop ++ regsRul ++ regsDuc ++ regsXpt ++ regsTlr ++ regsLns ++ regsMac ++ regsFlw ++ regsSdi ++ regsInk ++
  regsDrc ++ regsQlt ++ regsGth ++ regsApt ++ regsSea ++ regsBlt ++ regsThm ++ regsUpd ++ regsIcn

/-- Every field, in the order of the fields' numbers (`Fld.no`). -/
def allFlds : List Fld := allRegs.flatMap (fun r => r.flds)

end Sys2Proof.Machine
end

