-- ==== Sys2Proof/Machine/State.lean ====
section
/-! DEFINITION. The state of the block, as plain data: everything the spec gives the machine.

Registers live in `Dev.regs`, one entry per field instance that differs from its value after PORST_N (`Registers.lean` gives every field's
place, width and reset value). What the spec gives the machine WITHOUT a register (timers, queues, histories, placements, buffers) is held
in the structures below, one per chapter. Instants are natural numbers in units of 2^-44 nib: `ntw` counts from the PTP epoch (R29),
`devTime` from the start of the DCO (R454: it advances with the NTW and is unchanged by a step). Signed quantities are Int.
Sparse tables are lists of (index, value) in rising index order in which an index that is not listed holds the named default. -/

namespace Sys2Proof.Machine

/-- A table by index: rising indices, no entry equal to the default of its use. -/
abbrev Tab (α : Type) := List (Nat × α)

/-! ### Ruling (03_ruling.md) -/

/-- What the Ruling keeps about one candidate beside its registers. -/
structure Cand where
  /-- Ticks in a row at which the presence criteria held (R55); the jump detector arms after 1,000 (R56). -/
  presRun : Nat := 0
  /-- Ticks in a row at which every criterion of qualification held (R55). -/
  qualRun : Nat := 0
  /-- A jump was detected since the last tick (R56). -/
  jumped : Bool := false
  /-- A type-specific configuration register was written since the last tick (R57). -/
  rewritten : Bool := false
  /-- A phase has been measured since the candidate was last lost, so that the next one can be predicted (R56). -/
  measured : Bool := false
  /-- Device time of the last phase measurement. -/
  measuredAt : Nat := 0
  /-- The phase error in units of 2^-44 nib (R54); RUL_CAND_PHASE shows it in whole nibs. -/
  phase : Int := 0
  /-- The candidate's frequency against XO_IN's nominal at the last ticks, newest first, at most 1,000 (the 1 s window of R59). -/
  window : List Int := []
  /-- Device time at which the hold-off ends, while CAND_ST.holdoff is 1 (R56). -/
  holdEnd : Nat := 0
  deriving DecidableEq, Repr

/-- What the Ruling keeps beside its registers. -/
structure Rul where
  cands : Tab Cand := []
  /-- The tracking part T of the steering (R581). -/
  track : Int := 0
  /-- The slew component (R63). -/
  slew : Int := 0
  /-- Ticks in a row with the selected candidate's phase error below 50 ns, and at or above it (R61). -/
  lockRun : Nat := 0
  unlockRun : Nat := 0
  /-- The tracking part at ticks spent in LOCKED, newest first, as (value, number of ticks) runs (R65). -/
  avgRuns : List (Int × Nat) := []
  /-- Milliseconds spent in LOCKED since PORST_N, counted up to 1,000 (R65). -/
  lockedTicks : Nat := 0
  /-- Ticks in a row at which XO_IN was present since it was lost (R71). -/
  xoRun : Nat := 0
  /-- A step was requested, with its step_src (R69). -/
  stepReq : Option Bool := none
  deriving DecidableEq, Repr

/-! ### Pins -/

/-- The device's output pins and the input pins it keeps a level of (R76, R448, R453, R552, R560, 21_electrical_and_package.md). -/
structure Pins where
  refOutFp : Bool := false
  refOutFpEnd : Nat := 0
  ppsOut : Bool := false
  ppsOutEnd : Nat := 0
  healthHb : Bool := false
  thermtrip : Bool := false
  coreVid : Nat := 0
  coreVidValid : Bool := false
  porstLow : Bool := false
  perstLow : Bool := false
  testEn : Bool := false
  deriving DecidableEq, Repr
/-! ### Ductus and crosspoint (04_ductus.md, 05_stitches_and_takes.md) -/

/-- A record of a salvo, its fields by name (R115). -/
structure Rec where
  seq : Nat := 0
  type : Nat := 0
  dst : Nat := 0
  src : Nat := 0
  dstCh : Nat := 0
  srcCh : Nat := 0
  policy : Nat := 0
  secondary : Nat := 0
  revert : Nat := 0
  revertFrames : Nat := 0
  fmt : Nat := 0
  fam : Nat := 0
  deriving DecidableEq, Repr

/-- A salvo that waits for the Tailor (R82): the member that posted it, its bank there, the posting instant P and its words. -/
structure Posted where
  member : Nat := 0
  bank : Nat := 0
  at_ : Nat := 0
  salvo : Salvo := {}
  deriving DecidableEq, Repr

/-- Where a destination's path goes, as the Tailor placed it (R152, R170). `kind`: 0 no insertion, 1 frame synchroniser, 2 conversion head,
3 delay line, 4 direct (R140); `surf`: the surface read, plus 1; `head`: the lowest conversion head; `spine`: the spine, plus 1. -/
structure Path where
  src : Nat := 65535
  placed : Bool := false
  slot : Nat := 0
  kind : Nat := 0
  surf : Nat := 0
  head : Nat := 0
  spine : Nat := 0
  inkCh : Nat := 0
  inkBank : Nat := 0
  rxEntry : Nat := 0
  /-- The instant L or E from which the path may start (R157), and the latency the delay line adds, in frames. -/
  since : Nat := 0
  frames : Nat := 0
  /-- The latency m of the path (R139) in nib. -/
  lat : Nat := 0
  deriving DecidableEq, Repr

/-- Everything the Tailor gives one local destination: its slots, its primary and protect paths, its hold-store surface, its transmit
entries and its destination channels. -/
structure DstPlace where
  slot : Nat := 0
  gang : Nat := 0
  slotted : Bool := false
  primary : Path := {}
  protect : Path := {}
  holdSurf : Nat := 0
  holdCh : Nat := 0
  txEntries : List Nat := []
  /-- The Gather inputs of a feed's channels, in their order (R399). -/
  inputs : List Nat := []
  chans : Nat := 0
  chanCount : Nat := 0
  unplaced : Bool := false
  pinMissed : Bool := false
  epoch : Nat := 0
  deriving DecidableEq, Repr

/-- An accepted salvo in the take queue (R82): where its result goes, A, L, its records, and what the Tailor placed for each destination
it concerns; for its withdrawal under R22 the destinations as they were, the (item, user) pairs it added and those it released, and the
migrations it planned. -/
structure QSalvo where
  member : Nat := 0
  bank : Nat := 0
  tag : Nat := 0
  index : Nat := 0
  accepted : Nat := 0
  launch : Nat := 0
  late : Bool := false
  recs : List Rec := []
  places : List (Nat × DstPlace) := []
  before : List (Nat × TDest) := []
  added : List (Nat × Nat) := []
  ended : List (Nat × Nat) := []
  migs : List Nat := []
  deriving DecidableEq, Repr

/-- A launched salvo of a local bank whose records have not all taken effect: the record indices still to come (R143 switched). -/
structure Tail where
  bank : Nat := 0
  tag : Nat := 0
  recs : List (Nat × Rec) := []
  deriving DecidableEq, Repr

/-- What a destination's output carries (R132). -/
inductive Carry where
  | idle
  | black
  | hold
  | src (n : Nat)
  deriving DecidableEq, Repr

/-- What the crosspoint keeps about a local destination beside its registers. -/
structure DstRun where
  carry : Carry := .idle
  /-- A POLICY record launched and waiting for the switch point (R116): policy, secondary, revert, revert_frames, protect source. -/
  policy : Option (List Nat) := none
  /-- A FORMAT record launched and waiting (R116): family, format. -/
  format : Option (Nat × Nat) := none
  /-- Whole frames of the destination through which the primary has been present (R136). -/
  presence : Nat := 0
  /-- The primary has been present since the last frame boundary, and the output has carried a source without loss since then. -/
  primarySince : Bool := false
  cleanSince : Bool := false
  /-- The loss of the source on air has been counted for this destination (R130). -/
  declared : Bool := false
  /-- The destination has reached a switch point since its family started (R475). -/
  started : Bool := false
  /-- The source whose channel group the destination's following channels carry from the next audio switch point on (plus 1; 0 none), and
  the nib from which that audio switch point may come (R79, R121). -/
  group : Nat := 0
  audioAt : Option Nat := none
  /-- The line from which the frame in progress is filled, with the hold frame (true) or black (R131). -/
  fill : Option (Nat × Bool) := none
  /-- An opaque destination waits for a marker: of the old source until this instant, then of the new one (R125). -/
  opaqueOld : Option (Nat × Nat) := none
  opaqueWait : Bool := false
  deriving DecidableEq, Repr

/-- What the device knows of a source: whether its adapter has declared it present (R130) and its arrival error e in nib (R137). -/
structure SrcRun where
  present : Bool := false
  e : Int := 0
  /-- The arrival error lies outside the capture window (R130). -/
  outside : Bool := false
  /-- Instant of the latest recovery, in nib, for the choice between two recovering sources (R135). -/
  since : Nat := 0
  /-- The active lines delivered of the frame in progress, and the last complete frame; likewise the ANC sidecar (R104). -/
  pic : List (Nat × List Px) := []
  picDone : List (Nat × List Px) := []
  anc : List AncPkt := []
  ancDone : List AncPkt := []
  deriving DecidableEq, Repr

/-- The Ductus and the crosspoint beside their registers. -/
structure Xpt where
  posted : List Posted := []
  queue : List QSalvo := []
  tails : List Tail := []
  dsts : Tab DstRun := []
  srcs : Tab SrcRun := []
  /-- What the Tailor gave each local destination, as applied at launches (R170). -/
  places : Tab DstPlace := []
  /-- The source slots in use: first slot, source number, number of slots. -/
  slots : List (Nat × Nat × Nat) := []
  /-- The source-channel runs in use: source number, first channel, number of channels. -/
  runs : List (Nat × Nat × Nat) := []
  /-- The channel map (R121): index 64 d + j, value 64 source + channel + 1 where shuffled, 0 where following. -/
  chmap : Tab Nat := []
  /-- The pause interval in force in ms, the instant from which it applies, and device time of each channel's latest pause (R95). -/
  pauseMs : Nat := 50
  pauseFrom : Nat := 0
  lastPause : Tab Nat := []
  /-- NTW of the Tailor's latest decision, from which the next one's time runs (R151). -/
  decidedAt : Nat := 0
  /-- A salvo has been accepted since reset, so that XPT_SEQ names the last one's last sequence number (R117). -/
  accepted : Bool := false
  deriving DecidableEq, Repr

/-! ### Tailor (06_tailor.md) -/

/-- A health record (R149): `kind` 0 DRAM channel, 1 Seam link, 2 fabric member, 3 function; `value` 1 usable, 0 not, or a link's working
lanes; `member` where the resource is; `at_` its evacuation instant E (R150); `own` while a member that does not sequence inputs still has to
forward it; `index` its placement-input index (0 none yet). -/
structure HealthRec where
  kind : Nat := 0
  num : Nat := 0
  member : Nat := 0
  value : Nat := 0
  at_ : Nat := 0
  own : Bool := false
  index : Nat := 0
  deriving DecidableEq, Repr


/-- The Tailor: the placement map with the next item number, destinations by number, layers by 512 member + layer; usable resources by 65,536
member + 1,024 kind + number, working lanes by 32 member + link, absent members (R149); migrations in the order planned; layer inputs waiting to be
decided, as (member, layer, settings); and whether the start-up input has been applied. -/
structure Tlr where
  started : Bool := false
  items : List TItem := []
  nextId : Nat := 1
  dests : Tab TDest := []
  layers : Tab TLayer := []
  up : List Nat := []
  lanes : Tab Nat := []
  away : List Nat := []
  migs : List Mig := []
  layerIn : List (Nat × Nat × List Nat) := []
  deriving DecidableEq, Repr
/-! ### Serial lanes (07_lanes.md) -/

/-- What a lane keeps beside its registers: the rate an SDI receiver hunts at (its LNS_STATUS.rate code, 0 while it does not hunt) and the
device time at which that dwell ends (R186), the device time of the next training attempt (R192), and the mode of the scan in progress. -/
structure LaneRun where
  hunt : Nat := 0
  dwellEnd : Nat := 0
  retryAt : Nat := 0
  scanOpening : Bool := false
  deriving DecidableEq, Repr

/-- The lanes and octets beside their registers. -/
structure Lns where
  lanes : Tab LaneRun := []
  /-- Device time at which an octet entered STARTING (R181). -/
  startAt : Tab Nat := []
  /-- Ethernet lane references that are lost (R199). -/
  refLost : List Nat := []
  deriving DecidableEq, Repr

/-! ### SDI (08_sdi_streams.md) -/

/-- What a framer keeps of one link: good lines in a row, strikes in a row, the line and nib of its latest EAV, the ST 352 seen in this frame. -/
structure SdiLink where
  good : Nat := 0
  strikes : Nat := 0
  line : Nat := 0
  eav : Nat := 0
  psidSeen : Bool := false
  deriving DecidableEq, Repr

/-- What a framer keeps of one embedded channel: samples waiting (value, channel-status
bit, block start), samples of the frame in progress, its latest value, its place
in the channel-status block, the non-audio bit of the block in progress and of the latest complete one (R217, R218). -/
structure SdiChan where
  fifo : List (Int × Bool × Bool) := []
  got : Nat := 0
  last : Int := 0
  pos : Nat := 192
  bit : Bool := false
  nonAudio : Bool := false
  deriving DecidableEq, Repr

/-- What an SDI framer keeps of an input beside its registers. -/
structure SdiIn where
  links : Tab SdiLink := []
  /-- The frame in progress began at its own L1.S0, at this nib, and has been without strike and disagreement so far (R208). -/
  begun : Bool := false
  frameAt : Nat := 0
  clean : Bool := false
  cleanFrames : Nat := 0
  agree : Bool := false
  /-- The second, plus 1, of the count of errored lines and fields, the count, and whether FS0114 fired in it (R212). -/
  errSec : Nat := 0
  errs : Nat := 0
  /-- The groups that carried data in this frame, and those that declare another rate, by group of the source's channel group (R216). -/
  seen : Nat := 0
  unsup : Nat := 0
  chans : Tab SdiChan := []
  /-- Samples left before an ST 337 preamble is forgotten, and whether the pair's latest sample was Pa, per pair (R218). -/
  burst : Tab Nat := []
  pa : Nat := 0
  deriving DecidableEq, Repr

/-! ### Ethernet MACs (09_ethernet_mac.md) -/

/-- A frame in a transmit queue: its length with FCS, the transmit entry it belongs to (plus 1; 0 for firmware's own), and the tag of a frame
marked for a timestamp (R232, R239). -/
structure TxFrame where
  len : Nat := 64
  entry : Nat := 0
  mark : Option Nat := none
  deriving DecidableEq, Repr

/-- What a MAC keeps beside its registers: its two transmit queues, the frames that wait for firmware with their arrival instants in nib (R230,
R231), the transmit timestamps as (tag, NTW word) (R239), the device time at which the pause in force ends, and whether FS0129 fired in it. -/
structure MacRun where
  media : List TxFrame := []
  mgmt : List TxFrame := []
  firmware : List (Nat × Nat) := []
  stamps : List (Nat × Nat) := []
  pauseEnd : Nat := 0
  ovfFired : Bool := false
  deriving DecidableEq, Repr

/-! ### Media flows (10_media_flows.md) -/

/-- A packet that waits for its release (R250, R257): extended number, legs that delivered it (bit 0, bit 1), release instant and payload. -/
structure RxPend where
  ext : Nat := 0
  legs : Nat := 1
  release : Nat := 0
  /-- The nib that the packet's frame, field or first sample stands for (R250). -/
  base : Nat := 0
  /-- Its RTP timestamp. -/
  ts : Nat := 0
  marker : Bool := false
  payload : RtpPayload := .bytes 0
  deriving DecidableEq, Repr

/-- What the flow engine keeps of one leg: its previous extended number, empty release units in a row, whether the frame in progress lacks
nothing, and units with a packet in a row (R255, R264). -/
structure LegRun where
  prev : Option Nat := none
  empty : Nat := 0
  whole : Bool := true
  good : Nat := 0
  deriving DecidableEq, Repr

/-- A placed receive flow beside its entry registers. -/
structure RxRun where
  desc : RxDesc := {}
  /-- The instants between which it classifies (R248). -/
  since : Nat := 0
  until_ : Option Nat := none
  acquired : Bool := false
  o : Int := 0
  /-- Late or early packets in succession (R249). -/
  off : Nat := 0
  leg0 : LegRun := {}
  leg1 : LegRun := {}
  flow : LegRun := {}
  /-- The next number to be released (R257), and the packets that wait. -/
  next : Option Nat := none
  pend : List RxPend := []
  /-- The release unit that comes next: the nib its frame or packet stands for, and its index in the frame (R250). -/
  base : Nat := 0
  unit : Nat := 0
  /-- The latest arrival of an opaque packet, in nib (R263). -/
  arrived : Nat := 0
  /-- Audio samples that wait for their grid instant: sample number and one value per channel (R250), the pairs whose status block says
  non-audio, and the burst state of R218. -/
  samples : List (Nat × List Int) := []
  nonAudio : Nat := 0
  burst : Tab Nat := []
  pa : Nat := 0
  deriving DecidableEq, Repr

/-- A frame that a transmit flow has still to send: the family's boundary it belongs to, its family, format entry and, for a -40 flow, its
packets as (line, payload bytes). -/
structure TxPicture where
  at_ : Nat := 0
  fam : Nat := 0
  fmt : Nat := 0
  plan : List (Nat × Nat) := []
  deriving DecidableEq, Repr

/-- A placed transmit flow beside its entry registers: its descriptor, destination index, whether it has sent since placement, the frames it
has to send, the next packet's index in the first of them, and the next packet of an audio flow plus 1 (0 while it does not send). -/
structure TxRun where
  desc : TxDesc := {}
  dst : Nat := 0
  sent : Bool := false
  frames : List TxPicture := []
  pkt : Nat := 0
  audio : Nat := 0
  deriving DecidableEq, Repr

/-- A multicast group that firmware reports (R277): its MAC, VLAN (plus 1; 0 untagged) and address, its sources (none: EXCLUDE with an empty
list), whether it is still needed, the repeats left and the device time of the next one. -/
structure Memb where
  mac : Nat := 0
  vlan : Nat := 0
  group : Nat := 0
  sources : Option (List Nat) := none
  needed : Bool := true
  left : Nat := 0
  nextAt : Nat := 0
  deriving DecidableEq, Repr

/-- The flow engine and firmware's membership beside the registers. -/
structure Flw where
  rx : Tab RxRun := []
  tx : Tab TxRun := []
  memb : List Memb := []
  /-- MACs on which an older querier is present, with its version (R277). -/
  oldQuerier : Tab Nat := []
  deriving DecidableEq, Repr

/-! ### Inkwell (11_inkwell_surfaces.md) -/

/-- One frame on a surface: its number in the order of writing, its start s (R291) in nib, its buffer, the active lines written with their
pixels, the nib at which it was complete (plus 1; 0 while it is not), the ANC of its attachment, and the blocks that decode as black, as
(picture: 0 full-size, 1 ½-size, 2 ¼-size, block in raster order) (R289, R295, R330). -/
structure SFrame where
  num : Nat := 0
  start : Nat := 0
  buf : Nat := 0
  done : Nat := 0
  pic : List (Nat × List Px) := []
  anc : List AncPkt := []
  bad : List (Nat × Nat) := []
  deriving DecidableEq, Repr

/-- A surface beside its registers: its source (of kind 0), local destination (kind 1) or head (kind 2), its format entry and family, the nib
from which writes may start (R157), whether its channel has failed (R333), and the frames its buffers hold, newest first. -/
structure Surf where
  kind : Nat := 0
  owner : Nat := 0
  fmt : Nat := 0
  fam : Nat := 0
  since : Nat := 0
  failed : Bool := false
  count : Nat := 0
  frames : List SFrame := []
  deriving DecidableEq, Repr

/-- One channel of an audio ring (R301, R302): the samples that wait with their pair's non-PCM mark, the latest given out, the samples given
out in the latest source frame, whether it has filled to its target since it started, and whether the pair is absent until it is PCM again. -/
structure RingChan where
  queue : List (Int × Bool) := []
  last : Int × Bool := (0, false)
  hist : List (Int × Bool) := []
  primed : Bool := false
  absent : Bool := false
  deriving DecidableEq, Repr

/-- The read side that feeds a source slot: a frame synchroniser (`delay` 0), a delay line or a conversion head's ring. `src`: its source;
`fam`, `fmt`, `doNib`: what it is phased for; `prev`: the number of the frame read for the previous output frame, plus 1; `after`: frames from this number on
may be read (those after a loss); `cur`: the frame it reads now; `started`: it has begun to emit; `failN`: output frames since its surface's channel failed (R334); `forced`: the partner's
choice for the next output frame (R300), 0 repeat, 1 next, 2 drop; `audio`: its channels pass through a ring. -/
structure SyncRun where
  surf : Nat := 0
  src : Nat := 0
  fam : Nat := 0
  fmt : Nat := 0
  doNib : Nat := 0
  delay : Nat := 0
  prev : Nat := 0
  after : Nat := 0
  cur : Option SFrame := none
  started : Bool := false
  failN : Nat := 0
  forced : Option Nat := none
  head : Bool := false
  audio : Bool := false
  rings : Tab RingChan := []
  deriving DecidableEq, Repr

/-- A capture in progress (R308): its surface, its picture, the number of frames begun on the surface at its start, and the frame to decode. -/
structure Capture where
  surf : Nat := 0
  picture : Nat := 0
  since : Nat := 0
  frame : Option SFrame := none
  deriving DecidableEq, Repr

/-- The Inkwell's surfaces beside their registers. -/
structure Ink where
  surfs : Tab Surf := []
  syncs : Tab SyncRun := []
  cap : Option Capture := none
  /-- Bytes of the overlay and capture surfaces (R306 to R308): overlay of head h, buffer b at 2^26 h + 2^25 b, the capture surface at 2^32;
  an unlisted byte holds 0. -/
  bytes : Tab Nat := []
  deriving DecidableEq, Repr

/-! ### DRAM channels (12_inkwell_dram.md) -/

/-- What a DRAM channel keeps beside its registers. -/
structure DramRun where
  /-- A change of target speed restarts the training at the end of the sub-step in progress (R318). -/
  restart : Bool := false
  /-- Its pause in progress began at this NTW (plus 1; 0 none), and has been evaluated (R320). -/
  pauseAt : Nat := 0
  evaluated : Bool := false
  /-- Device time since which the conditions of R326 have held, and an idle time that expired during a pause. -/
  idleFrom : Nat := 0
  idlePending : Bool := false
  /-- A trigger came while it was ENTERING (R327). -/
  wakePending : Bool := false
  /-- The movement of each lane from its delay-set value, as two's complement of 16 bits, and whether a lane stands at the limit (R325). -/
  moves : Tab Nat := []
  limited : Bool := false
  /-- The second of NTW, plus 1, that the error counts below belong to (R329, R330). -/
  errSec : Nat := 0
  ce : Nat := 0
  ue : Nat := 0
  /-- Device time at which the next patrol scrub is due (R331). -/
  scrubAt : Nat := 0
  deriving DecidableEq, Repr

/-! ### Quilt (13_quilt.md) -/

/-- What the Tailor gave a layer: the surfaces of its source and of its key (plus 1; 0 none) with the divisors of the pictures chosen there, and
the mode of each part, by quadrant of a gang (0 polyphase, 1 bilinear, 2 undrawable) (R158, R340, R354). -/
structure LayerPlace where
  placed : Bool := false
  surf : Nat := 0
  div : Nat := 1
  keySurf : Nat := 0
  keyDiv : Nat := 1
  modes : List (Nat × Nat) := []
  deriving DecidableEq, Repr

/-- A layer beside its registers: its placement, and for a pending commit whether the Tailor has still to decide, the placement it gave, and
the nib of the head's latch (R346, R347). -/
structure LayerRun where
  place : LayerPlace := {}
  next : LayerPlace := {}
  input : Bool := false
  latch : Nat := 0
  unplaced : Bool := false
  deriving DecidableEq, Repr

/-- The buffers a layer reads in a frame (R349). -/
structure Shot where
  layer : Nat := 0
  pic : Option SFrame := none
  key : Option SFrame := none
  deriving DecidableEq, Repr

/-- A head beside its registers: the buffers chosen at its latest frame boundary, whether that boundary lies in the first half of a second
(R363), whether it is the first since RUNNING (R342), the picture composed ahead of a landing at the boundary, the picture it emits, in rows,
with the nib at which it began to, the output slot of a conversion head (plus 1), and the number of the frame that one read before (plus 1). -/
structure HeadRun where
  shots : List Shot := []
  alarm : Bool := false
  first : Bool := false
  composed : Option (List (List Px)) := none
  emit : Option (List (List Px)) := none
  emitAt : Nat := 0
  conv : Nat := 0
  prev : Nat := 0
  deriving DecidableEq, Repr

/-- A meter bar of a layer (R364, R397): the largest interval peak since the latch and whether an interval closed, the value latched, the shown
level in dB of 2^-40 (none: −∞), the levels of the hold time with the nib of their boundary, the nib of the latest clip plus 1, and the
channel's present flag and non-PCM mark at the latch. -/
structure MeterRun where
  acc : Nat := 0
  closed : Bool := false
  v : Nat := 0
  shown : Option Int := none
  hold : List (Nat × Int) := []
  clip : Nat := 0
  present : Bool := false
  npcm : Bool := false
  deriving DecidableEq, Repr

/-- The Quilt beside its registers: layers and heads by number, meters by 16 layer + bar. -/
structure Qlt where
  layers : Tab LayerRun := []
  heads : Tab HeadRun := []
  meters : Tab MeterRun := []
  deriving DecidableEq, Repr

/-! ### Channel space, audio ports and Gather (14_audio_ports.md, 15_gather.md) -/

/-- A sample of a channel: its value, whether it is present, its pair's non-PCM mark (R393). -/
structure Samp where
  val : Int := 0
  present : Bool := false
  npcm : Bool := false
  deriving DecidableEq, Repr

/-- A source channel: its sample at the latest grid instant and at the two before (R395), and the peak of the current 1 ms interval (R397). -/
structure Chan where
  now : Samp := {}
  h1 : Samp := {}
  h2 : Samp := {}
  peak : Nat := 0
  deriving DecidableEq, Repr

/-- A destination channel: the source channel it is mapped to (plus 1), whether it is shuffled, the crossfade that runs (samples left, and the
old source channel plus 1), the mapping that waits for it (plus 1 again), whether it waits for its first audio switch point after a return
(R131), whether a rate mismatch of this mapping was reported, and its sample. -/
structure DChan where
  map : Nat := 0
  shuffled : Bool := false
  fade : Nat := 0
  old : Nat := 0
  next : Nat := 0
  away : Bool := true
  mis : Bool := false
  out : Samp := {}
  deriving DecidableEq, Repr

/-- A ramp of R381 or R452: `mode` 0 none, 1 falling, 2 rising, and its place in nib out of 264,600,000. -/
structure Ramp where
  mode : Nat := 0
  x : Nat := 264600000
  deriving DecidableEq, Repr

/-- One row of a port's channels: the grid sample it belongs to (a master's), the slots that are present, the pairs marked non-PCM, and the
samples (R374 to R384, R387). -/
structure PortRow where
  tag : Nat := 0
  present : Nat := 0
  marks : Nat := 0
  samples : List Int := []
  deriving DecidableEq, Repr

/-- One side of an audio port with its own clock (R374 to R381): the valid and invalid frames in a row, the frames of the current 1 ms interval
with their first and last arrival, the offset measured in the latest complete one, the elastic buffer, the latest row given out, a transmit side's row on its pin, whether it
waits to be primed, its ramp, per pair the burst state, and per channel the channel status. -/
structure Side where
  valid : Nat := 0
  invalid : Nat := 0
  n : Nat := 0
  first : Nat := 0
  latest : Nat := 0
  meas : Option Int := none
  buf : List PortRow := []
  last : PortRow := {}
  sent : PortRow := {}
  priming : Bool := true
  ramp : Ramp := {}
  burst : Tab Nat := []
  pa : Nat := 0
  status : Tab SdiChan := []
  csBits : List Bool := []
  deriving DecidableEq, Repr

/-- The audio ports beside their registers: sides by number (0 to 7 TDM receive, 8 to 15 AES3 inputs, 16 to 23 TDM transmit), the pending masks
of TDM ports (receive, transmit), and device time at which a function (TDM 0 to 7, AIN 8 to 15, AOUT 16 to 23) began to stop. -/
structure Apt where
  sides : Tab Side := []
  masks : Tab (Option (Nat × Nat)) := []
  stopping : Tab Nat := []
  deriving DecidableEq, Repr

/-- A node of the matrix whose gain moves: the ramp in force from e0 to e1 over n samples at sample j, and an applied write that waits for the
sample of its tick (its target plus 2^23, and its length) (R404). -/
structure NodeRun where
  e0 : Int := 0
  e1 : Int := 0
  n : Nat := 0
  j : Nat := 0
  start : Option (Int × Nat) := none
  deriving DecidableEq, Repr

/-- The history of a biquad (R409), its coefficients in force (b0, b1, b2, a1, a2 as 32-bit values), and whether it is enabled. -/
structure BqRun where
  coef : List Nat := [268435456, 0, 0, 0, 0]
  en : Bool := false
  x1 : Int := 0
  x2 : Int := 0
  y1 : Int := 0
  y2 : Int := 0
  deriving DecidableEq, Repr

/-- An output of Gather: its settings in force, its scale ramp, and the results on their way out, oldest first (R405 to R410). -/
structure GOut where
  mode : Nat := 0
  ll : Bool := false
  s0 : Nat := 4194304
  s1 : Nat := 4194304
  j : Nat := 480
  pipe : List Int := []
  lastOut : Int := 0
  deriving DecidableEq, Repr

/-- An input of Gather: whether it was present at the latest sample, its presence gain's sample j (480: at 1), and whether it is muted. -/
structure GIn where
  present : Bool := false
  j : Nat := 0
  muted : Bool := false
  deriving DecidableEq, Repr

/-- Gather beside its registers. -/
structure Gth where
  /-- The gain table by node 1,024 o + i; an unlisted entry is 0 (R402). -/
  gains : Tab Nat := []
  /-- The pending queue: nodes and words in write order (R403). -/
  queue : List (Nat × Nat) := []
  nodes : Tab NodeRun := []
  /-- Biquads by 4 o + b, and coefficient sets that wait for a tick. -/
  bqs : Tab BqRun := []
  bqPend : Tab (List Nat) := []
  outs : Tab GOut := []
  ins : Tab GIn := []
  /-- The stop ramp: samples since the stop request, plus 1; 0 while it does not run (R412). -/
  stopI : Nat := 0
  /-- Device time of the stop request. -/
  stopAt : Nat := 0
  deriving DecidableEq, Repr

/-- The channel space. -/
structure Aud where
  /-- Source channels and destination channels, by number (R394). -/
  src : Tab Chan := []
  dst : Tab DChan := []
  /-- The mute of R452, by rate. -/
  mutes : Tab Ramp := []
  deriving DecidableEq, Repr

/-! ### Seam (16_seam_fabric.md) -/

/-- A bundle lane of a link. Receiving: whether it trains or exchanges Seam frames, miswired, beyond the skew limit, working but for the
partner's tx_lanes; the path delay and the offsets of this interval; the marker to be echoed and its frame number. Sending: the partner
receives it, and the nib from which it may rejoin. Training (R422, R423): frames in succession in which each end was ready, the latest request
and whether it was answered, the answer owed, and device time at which training began. -/
structure SeaLane where
  seam : Bool := false
  miswired : Bool := false
  skewed : Bool := false
  ok : Bool := false
  delay : Int := 0
  sum : Int := 0
  n : Nat := 0
  echoAt : Nat := 0
  echoNum : Nat := 0
  rejoinAt : Nat := 0
  readyRx : Nat := 0
  readyTx : Nat := 0
  reqId : Nat := 0
  answered : Bool := true
  owed : Option (List Nat × Nat) := none
  began : Bool := false
  deriving DecidableEq, Repr

/-- A message in a link's queue: its number, what it carries, the bytes still to be sent, device time of its sending, and how often it was sent
(R429, R430). -/
inductive SeaBody where
  | ack (nums : List Nat)
  | forward (i : PInput)
  | announce (index at_ : Nat) (i : PInput)
  | request (index : Nat)
  | digest (value at_ : Nat)
  | twin (choices : List (Nat × Nat)) (seqs : List (Nat × Nat))
  | stateReq
  | state (img : StateImage)
  deriving DecidableEq, Repr

structure SeaMsg where
  num : Nat := 0
  body : SeaBody := .stateReq
  left : Nat := 0
  sentAt : Nat := 0
  sent : Nat := 0
  deriving DecidableEq, Repr

/-- A stream that a link sends (R419, R420): its source, its charge in bit/s, its place in the order of R167, its credit in bits, the waiting
essence as (nib of arrival, bytes), the lines of the frame in progress already seen, the ANC packets seen, and whether it is sent as lost. -/
structure SeaTx where
  source : Nat := 65535
  charge : Nat := 0
  order : Nat := 0
  credit : Nat := 0
  queue : List (Nat × Nat) := []
  lines : Nat := 0
  anc : List (Nat × Nat) := []
  ancSeen : Nat := 0
  lost : Bool := false
  deriving DecidableEq, Repr

/-- A stream that a link delivers: its source, the line being received and its pixels, the line before, and whether it is lost. -/
structure SeaIn where
  source : Nat := 65535
  line : Nat := 0
  px : List (Option Px) := []
  prevPx : List Px := []
  lost : Bool := true
  samples : List (List (Int × Bool)) := []
  deriving DecidableEq, Repr

/-- A link beside its registers: its lanes, the partner's latest rx_ok and tx_lanes, the working lanes of its latest health record, the
message channel in both directions (waiting, sent and unacknowledged, received numbers to acknowledge, received out of order, next numbers),
its streams by Seam slot, the origin count and time validity last received, whether a digest was compared for the latest snapshot, and a digest that
came ahead of the snapshot it belongs to, with its instant. -/
structure SeaLink where
  lanes : Tab SeaLane := []
  peerOk : Nat := 0
  peerTx : Nat := 0
  reported : Nat := 0
  waiting : List SeaMsg := []
  unacked : List SeaMsg := []
  acks : List Nat := []
  ahead : List (Nat × SeaBody) := []
  nextTx : Nat := 0
  nextRx : Nat := 0
  tx : Tab SeaTx := []
  rx : Tab SeaIn := []
  originCount : Nat := 0
  validNow : Bool := false
  digestSeen : Bool := false
  early : Option (Nat × Nat) := none
  deriving DecidableEq, Repr

/-- Seam beside its registers: links; the latest origin count and device time of its latest advance; device time at which SEAM was last
selected and whether time_valid is sent; placement inputs kept by index with their instant (R431), those that wait for a lower index with their
instant, the latest index applied and device time since which one is missing; digests of neighbours for a snapshot not yet taken; a state
transfer in progress, its image and Er, and device time at which the wait for the master's state began (R477); and for inputs whose instant may still lie ahead of a
snapshot their index, L, E or landing, epoch and last sequence number (R432); the partner's first
sequence numbers and layer buffers (R436), by transmit entry and by 2 layer (+ 1 for a key) with the start of the frame read; and links on which
a STATE answer is awaited (R434). -/
structure Sea where
  links : Tab SeaLink := []
  originCount : Nat := 0
  advancedAt : Nat := 0
  seamAt : Nat := 0
  sendValid : Bool := false
  kept : List (Nat × Nat × PInput) := []
  waits : List (Nat × Nat × PInput) := []
  applied : Nat := 0
  gapAt : Nat := 0
  transfer : Nat := 0
  image : Option StateImage := none
  er : Nat := 0
  handover : Bool := false
  waitFrom : Nat := 0
  twinSeqs : List (Nat × Nat) := []
  marks : List (Nat × Nat × Nat × Nat) := []
  twinShots : List (Nat × Nat) := []
  stateFor : List Nat := []
  deriving DecidableEq, Repr


/-! ### Blotter (17_blotter.md) -/

/-- What the Blotter keeps beside its registers. -/
structure Blt where
  /-- A SAFE-severity firing awaits the entry of the next core cycle (R449). -/
  entryPending : Bool := false
  /-- Device time from which the quiet period runs (R454). -/
  quietFrom : Nat := 0
  /-- Device time at which the minimum-width timer of FAULT_N ends (R448). -/
  timerEnd : Nat := 0
  /-- pin_release was written and waits for the timer (R448). -/
  releasePending : Bool := false
  /-- safe_release was written and waits for the tick (R457). -/
  safeRelease : Bool := false
  /-- Device times of the automatic exits of the last 3,600 s (R456). -/
  exits : List Nat := []
  /-- Severity words written since the last tick, with the word that still grades firings until then (R445). -/
  sevOld : Tab Nat := []
  /-- Severity words whose parity failed: they grade as SAFE until written again (R458). -/
  sevBad : List Nat := []
  /-- A failed check was found: firmware rewrites the configuration from the Pattern at the next tick (R458). -/
  rewrite : Bool := false
  deriving DecidableEq, Repr

/-! ### Interrupts and the PCIe endpoint (20_host_and_interconnect.md) -/

/-- The MSI-X table and the interrupt logic (R534, R535). -/
structure Irq where
  /-- The 64 words of the MSI-X table: word 4v + 0 and + 1 the message address, + 2 the data, + 3 the vector control.
  An unlisted word holds 0, and an unlisted vector control word 1 (masked). -/
  table : Tab Nat := []
  /-- Bit v: the owed flag of vector v. -/
  owed : Nat := 0
  /-- Bit v: a holdoff runs for vector v. -/
  holding : Nat := 0
  /-- Device time at which vector v's holdoff ends. -/
  holdEnd : Tab Nat := []
  deriving DecidableEq, Repr
/-! ### Pattern, start-up and the Thimble (18_pattern_and_startup.md, 19_thimble_and_update.md) -/

/-- What the boot keeps beside its registers: device time of the latest release of a reset and of the start-up input, whether FS0265 and FS0264
have fired since; whether the running firmware meets settings it cannot read (R515); whether host software has approved the trial since this
boot (R512) and whether the window is open (R511); an activation's progress: the copy is done and it waits for its instant (R509); the nonce
of an attestation in progress (R491); the words shifted in through UNLOCK and the device time of the first (R520), and whether the UNLOCK
instruction is loaded. -/
structure Boot where
  releasedAt : Nat := 0
  configuredAt : Nat := 0
  serveLate : Bool := false
  waitLate : Bool := false
  lagFired : Bool := false
  incompatible : Bool := false
  approved : Bool := false
  window : Bool := false
  copied : Bool := false
  revert : Bool := false
  nonce : Option Nat := none
  unlock : List Nat := []
  unlockAt : Nat := 0
  unlocking : Bool := false
  deriving DecidableEq, Repr

/-! ### The in-band agent (20_host_and_interconnect.md) -/

/-- What is kept for a control key: the sequence numbers seen among the highest and the 64 below it, and the last 16 replies, newest first, as
(seq, plaintext) (R544). -/
structure IbKey where
  any : Bool := false
  seen : List Nat := []
  replies : List (Nat × List Nat) := []
  deriving DecidableEq, Repr

/-- The in-band agent beside its registers: its keys; per source address the second of NTW (plus 1) and how many stale replies went there in it
(R544), and the same for update replies (R504); and device time of the latest release of PCIE_PERST_N (R528). -/
structure Icn where
  keys : Tab IbKey := []
  stale : Tab (Nat × Nat) := []
  updates : Tab (Nat × Nat) := []
  perstAt : Nat := 0
  deriving DecidableEq, Repr


/-! ### What a command puts on the device's outputs -/

/-- One thing the device sends or answers while it carries out a command. -/
inductive Out where
  /-- An MSI-X message write for a vector, with its address and data (R535). -/
  | msi (vector addr data : Nat)
  /-- The answer to a register or window read, to the master that asked. -/
  | readData (master data : Nat)
  /-- The interconnect's error response (R539). -/
  | errorResponse (master : Nat)
  /-- The answer to a configuration request: retry status or not (R528). -/
  | config (retry : Bool)
  /-- A datagram of the control flow: its kind (2 reply, 3 stale reply), key slot, sequence number, and plaintext words, each operation's status
  followed by the words it read (R542, R543). -/
  | control (kind key seq : Nat) (words : List Nat)
  /-- The reply to an update message: the result code, where it answers an OFFER, and the first index of interest (R504). -/
  | updateReply (code first : Nat)
  deriving DecidableEq, Repr

/-! ### The whole -/

/-- Everything but the queue of commands. -/
structure Dev where
  /-- Every register of the register map: field instances that differ from their value after PORST_N, each as value XOR that value. -/
  regs : Tab Nat := []
  /-- Words of a multi-word value written and not yet in effect, per master and word (R11, R537). -/
  staged : Tab (Option Nat) := []
  /-- The holding registers of R11 and R283, per master and value. -/
  held : Tab (Option Nat) := []
  /-- The Nib Time Word as its linear value (R29). -/
  ntw : Nat := 0
  /-- Device time since the DCO started, in units of 2^-44 nib (R454). -/
  devTime : Nat := 0
  /-- MODEL FIELD: how many free numbers have been taken (the argument of `Config.freeNat`). -/
  freeCtr : Nat := 0
  /-- MODEL FIELD: what the latest command put on the outputs, oldest first. -/
  out : List Out := []
  /-- The second of NTW, plus 1, in which a source limited to one firing per second last fired, per owner. -/
  lastSecond : Tab Nat := []
  /-- Every clock is stopped after a thermal trip (R560). -/
  clocksStopped : Bool := false
  /-- The latest instant at which an event class with a periodic grid ran, per class; cleared by a step of the NTW. -/
  lastAt : Tab Nat := []
  pins : Pins := {}
  rul : Rul := {}
  blt : Blt := {}
  irq : Irq := {}
  xpt : Xpt := {}
  lns : Lns := {}
  ink : Ink := {}
  /-- DRAM channels, by number. -/
  drams : Tab DramRun := []
  flw : Flw := {}
  /-- MACs, by number. -/
  macs : Tab MacRun := []
  /-- SDI inputs, by their lowest lane. -/
  sdi : Tab SdiIn := []
  qlt : Qlt := {}
  aud : Aud := {}
  apt : Apt := {}
  gth : Gth := {}
  sea : Sea := {}
  tlr : Tlr := {}
  icn : Icn := {}
  /-- Route-memory items whose events have come and which are not yet durable, oldest first (R479). -/
  journal : List JItem := []
  /-- Flash and OTP. -/
  nv : Nv := {}
  boot : Boot := {}
  /-- The applied Pattern. -/
  pat : Pat := {}
  /-- Health records raised and not yet applied, oldest first (R149). -/
  health : List HealthRec := []
  deriving DecidableEq, Repr

/-- The machine: the device, and the commands that wait, first in, first out. -/
structure State where
  pending : List Instr := []
  dev : Dev := {}
  deriving DecidableEq, Repr

/-- Why a step can stop. -/
inductive Fault where
  /-- A command whose operands name something the device does not have (a lane above 191, a bank above 1). Raised by every meaning, through
  `perform`. Safe: the hardware has no such command. -/
  | illFormed
  deriving DecidableEq, Repr

/-- Why a command can be refused. -/
inductive Refusal where
  /-- Raised by an arm of `exec` that has no meaning yet. Safe. -/
  | notModelled (mnemonic : String)
  deriving DecidableEq, Repr

/-- The machine right after PORST_N (R463): every register at its reset value, the NTW at 0 s + 0 nib, nothing waiting. -/
def State.reset : State := {}

end Sys2Proof.Machine
end

