-- ==== Sys2Proof/Machine/Ops.lean ====
section
/-! DEFINITION. The named operations everything else is written with: tables, register fields, device time, counters. -/

namespace Sys2Proof.Machine

/-! ### Tables -/

/-- The entry of an index, `d` where none is listed. -/
def tabGet {α : Type} (d : α) (t : Tab α) (k : Nat) : α :=
  match t with
  | [] => d
  | (k', v) :: rest => if k' = k then v else tabGet d rest k

/-- The table without an index. -/
def tabDel {α : Type} (t : Tab α) (k : Nat) : Tab α := t.filter (fun p => p.1 != k)

/-- Insert before the first greater index. -/
def tabIns {α : Type} (t : Tab α) (k : Nat) (v : α) : Tab α :=
  match t with
  | [] => [(k, v)]
  | (k', v') :: rest => if k < k' then (k, v) :: (k', v') :: rest else (k', v') :: tabIns rest k v

/-- Set an index; the default is not listed. -/
def tabSet {α : Type} [DecidableEq α] (d : α) (t : Tab α) (k : Nat) (v : α) : Tab α :=
  if v = d then tabDel t k else tabIns (tabDel t k) k v

/-- Apply a function to the entry of an index. -/
def tabMod {α : Type} [DecidableEq α] (d : α) (t : Tab α) (k : Nat) (f : α → α) : Tab α :=
  tabSet d t k (f (tabGet d t k))

/-- The canonical form: rising indices, no entry equal to the default. -/
def tabWf {α : Type} [DecidableEq α] (d : α) (t : Tab α) : Bool :=
  match t with
  | [] => true
  | (k, v) :: rest => decide (v ≠ d) && rest.all (fun p => decide (k < p.1)) && tabWf d rest

/-- Apply `f i` for i = 0, 1, … n - 1 in that order. -/
def forUpTo {α : Type} (n : Nat) (f : Nat → α → α) (a : α) : α :=
  match n with
  | 0 => a
  | n + 1 => f n (forUpTo n f a)

/-- Apply `f x` for each x of a list in order. -/
def forEach {α β : Type} (xs : List β) (f : β → α → α) (a : α) : α :=
  match xs with
  | [] => a
  | x :: rest => forEach rest f (f x a)

/-- Insert before the first element with a greater key. -/
def insBy {α : Type} (key : α → Nat) (x : α) (xs : List α) : List α :=
  match xs with
  | [] => [x]
  | y :: rest => if key x < key y then x :: y :: rest else y :: insBy key x rest

/-- Sort by a key, rising; equal keys keep their order. -/
def sortBy {α : Type} (key : α → Nat) (xs : List α) : List α := xs.foldl (fun acc x => insBy key x acc) []

/-! ### Register fields -/

/-- Where an instance of a register lies, from the strides of its indices. -/
def instOffset (dims : List (Nat × Nat)) (ix : List Nat) : Nat :=
  match dims, ix with
  | (stride, _) :: ds, i :: is => stride * i + instOffset ds is
  | _, _ => 0

/-- The key of a field instance in `Dev.regs`: where the instance lies among its register's, and the field's number, so that instances of
different fields have different keys whatever their indices. -/
def fldKey (f : Fld) (ix : List Nat) : Nat := instOffset f.dims ix * 1024 + f.no % 1024

/-- The number of the field a key belongs to. -/
def keyNo (key : Nat) : Nat := key % 1024

/-- How far a key's instance lies from its register's first. -/
def keyOffset (key : Nat) : Nat := key / 1024

/-- The BAR0 offset of a key's register instance. -/
def regAddr (key : Nat) : Nat := (allFlds.getD (keyNo key) TOP_ID_part).base + keyOffset key

/-- The value of a field instance. -/
def rd (f : Fld) (ix : List Nat) (d : Dev) : Nat := Nat.xor (tabGet 0 d.regs (fldKey f ix)) (f.reset ix)

/-- Set a field instance, keeping its width. -/
def wr (f : Fld) (ix : List Nat) (v : Nat) (d : Dev) : Dev :=
  { d with regs := tabSet 0 d.regs (fldKey f ix) (Nat.xor (v % 2 ^ f.w) (f.reset ix)) }

/-- A one-bit field as a truth value. -/
def rdB (f : Fld) (ix : List Nat) (d : Dev) : Bool := rd f ix d == 1

/-- Set a one-bit field from a truth value. -/
def wrB (f : Fld) (ix : List Nat) (b : Bool) (d : Dev) : Dev := wr f ix (if b then 1 else 0) d

/-- Bit j of a field. -/
def rdBit (f : Fld) (ix : List Nat) (j : Nat) (d : Dev) : Bool := Nat.testBit (rd f ix d) j

/-- A number with bit j set or cleared. -/
def withBit (x j : Nat) (b : Bool) : Nat :=
  if b then Nat.lor x (2 ^ j) else if Nat.testBit x j then x - 2 ^ j else x

/-- Set or clear bit j of a field. -/
def wrBit (f : Fld) (ix : List Nat) (j : Nat) (b : Bool) (d : Dev) : Dev := wr f ix (withBit (rd f ix d) j b) d

/-- Two's complement reading of a w-bit value. -/
def toSigned (w x : Nat) : Int := if x < 2 ^ (w - 1) then (x : Int) else (x : Int) - 2 ^ w

/-- Two's complement encoding in w bits. -/
def ofSigned (w : Nat) (x : Int) : Nat := (x % 2 ^ w).toNat

/-- A signed field. -/
def rdS (f : Fld) (ix : List Nat) (d : Dev) : Int := toSigned f.w (rd f ix d)

/-- Set a signed field. -/
def wrS (f : Fld) (ix : List Nat) (v : Int) (d : Dev) : Dev := wr f ix (ofSigned f.w v) d

/-- Count in a field that saturates at its greatest value. -/
def count (f : Fld) (ix : List Nat) (n : Nat) (d : Dev) : Dev := wr f ix (min (2 ^ f.w - 1) (rd f ix d + n)) d

/-- Count in a field that wraps. -/
def countWrap (f : Fld) (ix : List Nat) (n : Nat) (d : Dev) : Dev := wr f ix (rd f ix d + n) d

/-- Put a field instance back to its value after PORST_N. -/
def toReset (f : Fld) (ix : List Nat) (d : Dev) : Dev := { d with regs := tabDel d.regs (fldKey f ix) }

/-- Bits [hi:lo] of a number. -/
def bitsOf (x hi lo : Nat) : Nat := x / 2 ^ lo % 2 ^ (hi + 1 - lo)

/-- Bring a value into a range. -/
def clampI (lo hi x : Int) : Int := if x < lo then lo else if hi < x then hi else x

/-- Round up a quotient (R39). -/
def ceilDiv (a b : Nat) : Nat := (a + b - 1) / b

/-- The greatest n with n * n ≤ x, by one bit at a time from bit `k - 1`. -/
def isqrtFrom (x k acc : Nat) : Nat :=
  match k with
  | 0 => acc
  | k + 1 => isqrtFrom x k (if (acc + 2 ^ k) * (acc + 2 ^ k) ≤ x then acc + 2 ^ k else acc)

/-- The integer square root of a number below 2^256. -/
def isqrt (x : Nat) : Nat := isqrtFrom x 128 0

/-- Round a quotient to the nearest integer, ties to even. -/
def roundHalfEven (num : Int) (den : Nat) : Int :=
  let q := num / (den : Int)
  let r := num % (den : Int)
  if 2 * r < den then q else if 2 * r > den then q + 1 else if q % 2 = 0 then q else q + 1

/-! ### Time -/

/-- One second, millisecond and microsecond in units of 2^-44 nib. -/
def unitsOfNib (n : Nat) : Nat := n * Config.fracPerNib
def secUnits : Nat := unitsOfNib 52920000000
def msUnits : Nat := unitsOfNib 52920000
def usUnits : Nat := unitsOfNib 52920

/-- The whole nibs since the epoch. -/
def nibOf (t : Nat) : Nat := t / Config.fracPerNib

/-- The NTW word of a linear value (R5, R29): seconds modulo 2^48, nib of the second, fraction. -/
def ntwWord (t : Nat) : Nat :=
  let y := nibOf t
  (y / Config.nibsPerSec % 2 ^ 48) * 2 ^ 80 + (y % Config.nibsPerSec) * 2 ^ 44 + t % Config.fracPerNib

/-- The linear value of an NTW word; none for a malformed word (R6, R29). -/
def ntwOfWord (w : Nat) : Option Nat :=
  let sec := w / 2 ^ 80 % 2 ^ 48
  let nib := w / 2 ^ 44 % 2 ^ 36
  if nib < Config.nibsPerSec then some ((sec * Config.nibsPerSec + nib) * Config.fracPerNib + w % 2 ^ 44) else none

/-- An IEEE 1588 time as a linear value (R33). -/
def ptpToNtw (sec ns : Nat) : Nat :=
  let q := ns * 1323
  (sec * Config.nibsPerSec + q / 25) * Config.fracPerNib + ((q % 25) * Config.fracPerNib + 12) / 25

/-- A linear value as an IEEE 1588 time, halves rounded up and a full second carried (R33). -/
def ntwToPtp (t : Nat) : Nat × Nat :=
  let sec := nibOf t / Config.nibsPerSec
  let num := ((nibOf t % Config.nibsPerSec) * Config.fracPerNib + t % Config.fracPerNib) * 25
  let den := 1323 * Config.fracPerNib
  let ns := (2 * num + den) / (2 * den)
  if ns = 1000000000 then (sec + 1, 0) else (sec, ns)

/-- The part of the steering that the DCO synthesises, in steps of 256 with halves rounded up, and what is left for the NTW (R70). -/
def dcoPart (s : Int) : Int := (s + 128) / 256 * 256

/-- The NTW's advance in one core cycle: 40 nib and 640 × r units of 2^-44 nib (R31, R70). -/
def cycleUnits (s : Int) : Nat := (40 * (Config.fracPerNib : Int) + 640 * (s - dcoPart s)).toNat

/-- The steering S in use (R70). -/
def steering (d : Dev) : Int := rdS RUL_DCO_ACT_value [] d

/-- Let n core cycles pass (R31). Nothing passes while every clock is stopped (R560) or a power-on reset is held (R463, R554). -/
def advance (n : Nat) (d : Dev) : Dev :=
  if d.clocksStopped || d.pins.porstLow then d
  else { d with ntw := d.ntw + n * cycleUnits (steering d), devTime := d.devTime + n * cycleUnits (steering d) }

/-- Let core cycles pass until the NTW first equals or passes an instant (R32); at or past it, none pass. -/
def advanceTo (t : Nat) (d : Dev) : Dev := advance (ceilDiv (t - d.ntw) (cycleUnits (steering d))) d

/-- Let core cycles pass until device time reaches an instant. -/
def advanceDev (t : Nat) (d : Dev) : Dev := advance (ceilDiv (t - d.devTime) (cycleUnits (steering d))) d

/-- The first instant after `t`, or at it, that is a whole multiple of `p` nib since the epoch. -/
def nextMultiple (p t : Nat) : Nat := ceilDiv t (unitsOfNib p) * unitsOfNib p

/-- The first instant strictly after `t` that is a whole multiple of `p` nib since the epoch. -/
def nextAfter (p t : Nat) : Nat := (t / unitsOfNib p + 1) * unitsOfNib p

/-- The next instant k × p + off nib of a periodic class that has not run yet: later than the class's latest, and not before the core cycle
now in progress (R32). -/
def nextGrid (p off key : Nat) (d : Dev) : Nat :=
  let base := max (tabGet 0 d.lastAt key + 1) (d.ntw + 1 - cycleUnits (steering d))
  if p = 0 then d.ntw else ceilDiv (base - unitsOfNib off) (unitsOfNib p) * unitsOfNib p + unitsOfNib off

/-- Let the next instant of a periodic class come. -/
def atGrid (p off key : Nat) (d : Dev) : Dev :=
  let t := nextGrid p off key d
  { advanceTo t d with lastAt := tabSet 0 d.lastAt key t }

/-- Take a free number for a use (a value the spec leaves open). -/
def takeFree (tag : Nat) (d : Dev) : Nat × Dev := (Config.freeNat tag d.freeCtr, { d with freeCtr := d.freeCtr + 1 })

/-- Add to what the command puts on the outputs. -/
def emit (o : Out) (d : Dev) : Dev := { d with out := d.out ++ [o] }

end Sys2Proof.Machine
end

