-- ==== Sys2Proof/Machine/Flags.lean ====
section
/-! DEFINITION. Sticky bits, interrupts and fault sources: what an event sets and whom it tells (R440 to R448, R534, R535). -/

namespace Sys2Proof.Machine

/-! ### Interrupt vectors (R534, R535) -/

/-- A word of the MSI-X table; a vector control word that is not listed holds 1 (masked). -/
def msixWord (w : Nat) (d : Dev) : Nat := tabGet (if w % 4 = 3 then 1 else 0) d.irq.table w

/-- The vector is masked by its vector control word or by the function mask. -/
def vectorMasked (v : Nat) (d : Dev) : Bool := rdB TOP_PCIE_ST_msix_fmask [] d || Nat.testBit (msixWord (4 * v + 3) d) 0

/-- The vector is enabled: MSI-X Enable, Bus Master Enable and its bit of TOP_IRQ_EN are all 1 (R535). -/
def vectorEnabled (v : Nat) (d : Dev) : Bool :=
  rdB TOP_PCIE_ST_msix_en [] d && rdB TOP_PCIE_ST_bme [] d && rdBit TOP_IRQ_EN_en [] v d

/-- Send the owed message of a vector if nothing holds it back, and start its holdoff (R535). -/
def sendOwed (v : Nat) (d : Dev) : Dev :=
  if Nat.testBit d.irq.owed v && !vectorMasked v d && !Nat.testBit d.irq.holding v then
    let us := rd TOP_IRQ_HOLD_us [v] d
    let sent := emit (.msi v (msixWord (4 * v) d + 2 ^ 32 * msixWord (4 * v + 1) d) (msixWord (4 * v + 2) d)) d
    { sent with irq := { d.irq with
        owed := withBit d.irq.owed v false
        holding := withBit d.irq.holding v (us != 0)
        holdEnd := tabSet 0 d.irq.holdEnd v (if us = 0 then 0 else d.devTime + us * usUnits) } }
  else d

/-- Raise a vector (R535). -/
def raiseIrq (v : Nat) (d : Dev) : Dev :=
  let d := wrBit TOP_IRQ_ST_raised [] v true d
  if vectorEnabled v d then sendOwed v { d with irq := { d.irq with owed := withBit d.irq.owed v true } } else d

/-- Drop the owed flags of vectors that are no longer enabled (R535). -/
def dropDisabled (d : Dev) : Dev :=
  forUpTo 16 (fun v d => if vectorEnabled v d then d else { d with irq := { d.irq with owed := withBit d.irq.owed v false } }) d

/-! ### Severities (R444, R445, R458, R459) -/

/-- The severity that grades a firing of a source now: written severities take effect at the next tick, a word whose parity failed grades
as SAFE, and FS0000 to FS0003 are fixed. -/
def severityOf (n : Nat) (d : Dev) : Nat :=
  if n < 4 then sourceSeverity n
  else if !sourceListed n then 0
  else if d.blt.sevBad.contains (n / 16) then 3
  else tabGet (rd BLT_SEV_sevs [n / 16] d) d.blt.sevOld (n / 16) / 4 ^ (n % 16) % 4

/-- The raw state of a source. -/
def rawOf (n : Nat) (d : Dev) : Bool := rdBit BLT_RAW_bits [n / 32] (n % 32) d

/-- The sticky bit of a source. -/
def stickyOf (n : Nat) (d : Dev) : Bool := rdBit BLT_STICKY_bits [n / 32] (n % 32) d

/-- A SAFE-severity source stands (R454). -/
def safeStands (d : Dev) : Bool := sourceTable.any (fun p => rawOf p.1 d && severityOf p.1 d == 3)

/-- The device is in safe state. -/
def inSafe (d : Dev) : Bool := rdB BLT_STATUS_safe [] d

/-- Restart the FAULT_N minimum-width timer and set the pin latch (R448). -/
def latchPin (d : Dev) : Dev :=
  let d := wr BLT_STATUS_pin_latch [] 1 d
  { d with blt := { d.blt with releasePending := false, timerEnd := d.devTime + max 1 (rd BLT_FAULTN_WIDTH_width [] d) * 10 * usUnits } }

/-- The effects of a firing at a given severity (R444, R446 to R449). -/
def fireAt (sev n : Nat) (d : Dev) : Dev :=
  if sev = 0 then d
  else
    let d := wrBit BLT_STICKY_bits [n / 32] (n % 32) true d
    let d := if max 1 (rd BLT_CTRL_irq_thr [] d) ≤ sev then raiseIrq 1 d else d
    let d := if max 1 (rd BLT_CTRL_pin_thr [] d) ≤ sev ∨ sev = 3 then latchPin d else d
    if sev = 3 then
      { d with blt := { d.blt with quietFrom := d.devTime, entryPending := d.blt.entryPending || !inSafe d } }
    else d

/-- A source whose condition is an event: it fires unless its raw state already stands, and the raw state is 0 again after the core
cycle (R440). Reserved sources never fire (R442). -/
def fire (n : Nat) (d : Dev) : Dev :=
  if sourceListed n && !rawOf n d then fireAt (severityOf n d) n d else d

/-- Give a source's raw state the value of its condition; it fires on the change from 0 to 1 (R440). A SAFE source that stops standing
restarts the quiet period (R454). -/
def setRaw (n : Nat) (b : Bool) (d : Dev) : Dev :=
  if !sourceListed n then d
  else if b then
    if rawOf n d then d else fireAt (severityOf n d) n (wrBit BLT_RAW_bits [n / 32] (n % 32) true d)
  else if rawOf n d then
    let q := if severityOf n d = 3 then d.devTime else d.blt.quietFrom
    let d := wrBit BLT_RAW_bits [n / 32] (n % 32) false d
    { d with blt := { d.blt with quietFrom := q } }
  else d

/-- Fire a source at most once per second of NTW: `last` holds the second of its latest firing by this owner. -/
def firePerSecond (n key : Nat) (d : Dev) : Dev :=
  let sec := nibOf d.ntw / Config.nibsPerSec
  if tabGet 0 d.lastSecond key = sec + 1 then d
  else fire n { d with lastSecond := tabSet 0 d.lastSecond key (sec + 1) }

/-- The pin latch clears at the end of its timer, or at once when the timer has expired (R448). -/
def releasePin (d : Dev) : Dev :=
  if d.blt.timerEnd ≤ d.devTime then
    { wr BLT_STATUS_pin_latch [] 0 d with blt := { d.blt with releasePending := false } }
  else { d with blt := { d.blt with releasePending := true } }

/-- FAULT_N is asserted while the pin latch is set or the device is in safe state (R448); after a thermal trip it stays asserted (R560). -/
def faultN (d : Dev) : Bool := rdB BLT_STATUS_pin_latch [] d || inSafe d || d.pins.thermtrip

end Sys2Proof.Machine
end

