-- ==== Sys2Proof/Machine/Functions.lean ====
section
/-! DEFINITION. Functions: the parts that start and stop on their own, their states, the health records their changes raise (R149, R481 to
R485). -/

namespace Sys2Proof.Machine

/-! ### The functions and their registers (R481) -/

/-- Where a function's enable, state and start_err lie, its index within its kind, and the source of a failed start check. -/
structure FuncD where
  en : Fld
  state : Fld
  startErr : Fld
  ix : List Nat
  errIx : List Nat
  source : Nat
  /-- The rejected-write sticky bit of its block with its source (R443). -/
  rej : Fld
  rejIx : List Nat
  rejSource : Nat

/-- Function k of R481. -/
def funcOf (k : Nat) : FuncD :=
  if k < 24 then ⟨LNS_OCT_CTRL_en, LNS_OCT_STATUS_state, LNS_OCT_STATUS_start_err, [k], [k], 102, LNS_OCT_STICKY_rej_write, [k], 100⟩
  else if k < 72 then ⟨MAC_CTRL_en, MAC_STATUS_state, MAC_STICKY_start_err, [k - 24], [k - 24], 132, MAC_STICKY_rej_write, [k - 24], 131⟩
  else if k < 88 then ⟨QLT_HEAD_CTRL_en, QLT_HEAD_STATUS_state, QLT_STATUS_start_err, [k - 72], [], 194, QLT_STATUS_rej_write, [], 193⟩
  else if k < 89 then ⟨GTH_CTRL_en, GTH_STATUS_state, GTH_STICKY_start_err, [], [], 227, GTH_STICKY_rej_write, [], 226⟩
  else if k < 97 then ⟨APT_TDM_CTRL_en, APT_TDM_STATUS_state, APT_TDM_STICKY_start_err, [k - 89], [k - 89], 214, APT_TDM_STICKY_rej_write, [k - 89], 213⟩
  else if k < 105 then ⟨APT_AIN_CTRL_en, APT_AIN_STATUS_state, APT_AIN_STICKY_start_err, [k - 97], [k - 97], 214, APT_AIN_STICKY_rej_write, [k - 97], 213⟩
  else if k < 113 then ⟨APT_AOUT_CTRL_en, APT_AOUT_STATUS_state, APT_AOUT_STICKY_start_err, [k - 105], [k - 105], 214, APT_AOUT_STICKY_rej_write, [k - 105], 213⟩
  else if k < 137 then ⟨SEA_LINK_CTRL_en, SEA_LINK_ST_state, SEA_LINK_STICKY_start_err, [k - 113], [k - 113], 252, SEA_STATUS_rej_write, [], 251⟩
  else if k < 149 then ⟨DRC_CTRL_en, DRC_STATUS_state, DRC_STICKY_start_err, [k - 137], [k - 137], 178, DRC_STICKY_rej_write, [k - 137], 180⟩
  else ⟨DUC_FAM_CTRL_en, DUC_FAM_STATUS_state, DUC_FAM_STATUS_start_err, [k - 149], [k - 149], 53, DUC_STATUS_rej_write, [], 52⟩

def fOct (n : Nat) : Nat := n
def fMac (n : Nat) : Nat := 24 + n
def fHead (n : Nat) : Nat := 72 + n
def fGather : Nat := 88
def fTdm (n : Nat) : Nat := 89 + n
def fAin (n : Nat) : Nat := 97 + n
def fAout (n : Nat) : Nat := 105 + n
def fSeam (n : Nat) : Nat := 113 + n
def fDram (n : Nat) : Nat := 137 + n
def fFam (n : Nat) : Nat := 149 + n

/-- The state of function k (R482): 0 STOPPED, 1 STARTING, 2 RUNNING, 3 STOPPING, 4 FAILED. -/
def funcState (k : Nat) (d : Dev) : Nat := rd (funcOf k).state (funcOf k).ix d

/-- The enable of function k. -/
def funcEn (k : Nat) (d : Dev) : Bool := rdB (funcOf k).en (funcOf k).ix d

/-- Function k is RUNNING. -/
def running (k : Nat) (d : Dev) : Bool := funcState k d == 2

/-- Raster family n is RUNNING. -/
def famRunning (n : Nat) (d : Dev) : Bool := running (fFam n) d

/-! ### Health records (R149, R150) -/

/-- The device's role: 0 alone, 1 member, 2 timing master, 3 standby master. -/
def roleOf (d : Dev) : Nat := rd DUC_FABRIC_role [] d

/-- The device sequences placement inputs itself: alone, or as the acting master of a fabric or twin pair (R147, R435). -/
def sequences (d : Dev) : Bool := roleOf d == 0 || rdB SEA_TIME_self_acting [] d

/-- A change in the usability of a resource is recorded. On a device alone E is the present instant, on the acting master 50 µs later; on
another member the record waits to be forwarded (R147, R150). `kind`: 0 DRAM channel, 1 Seam link, 2 fabric member, 3 function; `value`: 1
usable, 0 not, or a link's working lanes. -/
def raiseHealth (kind num value : Nat) (d : Dev) : Dev :=
  let e := if roleOf d = 0 then d.ntw else d.ntw + unitsOfNib 2646000
  { d with health := d.health ++ [{ kind := kind, num := num, member := rd SEA_FABRIC_member [] d, value := value, at_ := e, own := true }] }

/-- Give function k a state: a change raises the function vector (R534), and leaving or entering RUNNING raises a health record at the same
instant (R149, R485). A Seam link's record follows its lanes instead. -/
def setFuncState (k st : Nat) (d : Dev) : Dev :=
  let old := funcState k d
  if old = st then d
  else
    let d := raiseIrq 6 (wr (funcOf k).state (funcOf k).ix st d)
    if (old == 2) == (st == 2) || (113 ≤ k && k < 137) then d
    else if 137 ≤ k ∧ k < 149 then raiseHealth 0 (k - 137) (if st = 2 then 1 else 0) d
    else raiseHealth 3 k (if st = 2 then 1 else 0) d

/-- The summary bit of an audio port whose sticky bit is set (R392). -/
def portEvent (k : Nat) (d : Dev) : Dev :=
  if 89 ≤ k ∧ k < 97 then wrBit APT_STATUS_tdm_event [] (k - 89) true d
  else if 97 ≤ k ∧ k < 105 then wrBit APT_STATUS_ain_event [] (k - 97) true d
  else if 105 ≤ k ∧ k < 113 then wrBit APT_STATUS_aout_event [] (k - 105) true d
  else d

/-- A start request fails its check: the function stays STOPPED (R483). -/
def startFails (k : Nat) (d : Dev) : Dev :=
  fire (funcOf k).source (portEvent k (wr (funcOf k).startErr (funcOf k).errIx 1 d))

/-- R483 at a launch instant of the function's class, with what its start check answers, what follows its start, and how it begins to stop. Starts
and stops are of step 4 of R21, so none is launched in safe state (R22, R90). -/
def launchFunc (k : Nat) (check : Dev → Bool) (start stop : Dev → Dev) (d : Dev) : Dev :=
  let st := funcState k d
  if inSafe d then d
  else if funcEn k d then
    if st = 0 then
      if check d then start (setFuncState k 1 d) else startFails k d
    else d
  else if st = 1 ∨ st = 2 then stop (setFuncState k 3 d)
  else if st = 4 then setFuncState k 0 d
  else d

/-- An RWP write that would change a field of a function not STOPPED is rejected (R12, R443). -/
def rejectWrite (k : Nat) (d : Dev) : Dev :=
  fire (funcOf k).rejSource (portEvent k (wr (funcOf k).rej (funcOf k).rejIx 1 d))

/-- What TOP_FUNC[k] shows: state, en, and whether an enable waits for the end of STOPPING (R484, R488). -/
def topFunc (k : Nat) (d : Dev) : Nat :=
  let st := funcState k d
  let en := if funcEn k d then 1 else 0
  st + 16 * en + 32 * (if st = 3 then en else 0)

end Sys2Proof.Machine
end

