-- ==== Sys2Proof/Machine/Raster.lean ====
section
/-! DEFINITION. Raster families, coordinates, RTP timestamps, the sample grid and switch points (02_nib_time.md, R79 to R81). -/

namespace Sys2Proof.Machine

/-! ### A family's parameters (R34) -/

def famPeriod (n : Nat) (d : Dev) : Nat := rd DUC_FAM_PERIOD_period [n] d
def famLines (n : Nat) (d : Dev) : Nat := rd DUC_FAM_GEOM_lines [n] d
def famSamples (n : Nat) (d : Dev) : Nat := rd DUC_FAM_GEOM_samples [n] d
def famAlign (n : Nat) (d : Dev) : Nat := rd DUC_FAM_ALIGN_align_sec [n] d

/-- The line period Pl (R34). -/
def famLinePeriod (n : Nat) (d : Dev) : Nat := famPeriod n d / famLines n d

/-- The alignment point in nib since the epoch (R36). -/
def famAlignNib (n : Nat) (d : Dev) : Nat := famAlign n d * Config.nibsPerSec

/-- The checks of R34 to R36 on a family's parameters. -/
def famLegal (period lines samples activeLines activeSamples firstActive scan field2 align : Nat) : Bool :=
  decide (52920000 ≤ period ∧ period ≤ 52920000000) && decide (2 ≤ lines ∧ lines ≤ 8192) && decide (period % lines = 0)
    && decide (11760 ≤ period / lines) && decide (64 ≤ samples ∧ samples ≤ 32767) && decide (1 ≤ activeLines ∧ activeLines ≤ lines)
    && decide (1 ≤ activeSamples ∧ activeSamples ≤ samples) && decide (firstActive ≤ samples - activeSamples) && decide (scan ≤ 2)
    && (scan == 0 || decide (2 ≤ field2 ∧ field2 ≤ lines)) && decide (align % (period / Nat.gcd period Config.nibsPerSec) = 0)

/-- The start check of a family (R103). -/
def famCheck (n : Nat) (d : Dev) : Bool :=
  famLegal (famPeriod n d) (famLines n d) (famSamples n d) (rd DUC_FAM_ACTIVE_active_lines [n] d) (rd DUC_FAM_ACTIVE_active_samples [n] d)
    (rd DUC_FAM_TIMING_first_active [n] d) (rd DUC_FAM_TIMING_scan [n] d) (rd DUC_FAM_TIMING_field2_line [n] d) (famAlign n d)

/-- The NTW is before the family's alignment point (R37). -/
def preAlign (n : Nat) (d : Dev) : Bool := decide (nibOf d.ntw < famAlignNib n d)

/-- The current frame number; 0 before alignment or while the family is not RUNNING (R103). -/
def famFrame (n : Nat) (d : Dev) : Nat :=
  if preAlign n d || !famRunning n d then 0 else (nibOf d.ntw - famAlignNib n d) / famPeriod n d

/-- The latest frame boundary of a period at or before an instant in nib. -/
def frameStart (p t : Nat) : Nat := if p = 0 then t else t / p * p

/-- The first frame boundary of a period at or after an instant in nib. -/
def boundaryFrom (p t : Nat) : Nat := if p = 0 then t else ceilDiv t p * p

/-! ### Coordinates (R39 to R41) -/

/-- coord_to_ntw of R39, in nib since the epoch; none for a line or sample outside the family format. -/
def coordToNib (n f l s : Nat) (d : Dev) : Option Nat :=
  if l < 1 ∨ famLines n d < l ∨ famSamples n d ≤ s then none
  else some (famAlignNib n d + (f * famPeriod n d + (l - 1) * famLinePeriod n d + ceilDiv (s * famLinePeriod n d) (famSamples n d)))

/-- ntw_to_coord of R39: frame, line and sample, or none before alignment. -/
def nibToCoord (n t : Nat) (d : Dev) : Option (Nat × Nat × Nat) :=
  if t < famAlignNib n d then none
  else
    let x := t - famAlignNib n d
    let r := x % famPeriod n d
    some (x / famPeriod n d, r / famLinePeriod n d + 1, r % famLinePeriod n d * famSamples n d / famLinePeriod n d)

/-- The instant a raster coordinate word names; none where it is malformed (R40, R41). -/
def coordWordNib (w : Nat) (d : Dev) : Option Nat :=
  let fam := bitsOf w 63 60
  if bitsOf w 59 48 ≠ 0 ∨ !famRunning fam d ∨ preAlign fam d then none
  else coordToNib fam (bitsOf w 47 0) (bitsOf w 95 80) (bitsOf w 79 64) d

/-! ### RTP timestamps (R42 to R44) -/

/-- The RTP timestamp of an instant in nib, for a media clock period. -/
def rtpOf (c t : Nat) : Nat := t / c % 2 ^ 32

/-- The unwrapped tick of a received timestamp against a reference instant: the nearest, the earlier of two (R43). -/
def unwrapTicks (ts c ref : Nat) : Int :=
  let r := ref / c
  let delta := ((ts : Int) - r) % 2 ^ 32
  (r : Int) + (if delta < 2 ^ 31 then delta else delta - 2 ^ 32)

/-- What rtp_to_frame answers (R43, R44). -/
inductive RtpFrame where
  | preAlignment
  | unaligned
  | frame (f : Nat)
  deriving DecidableEq, Repr

/-- rtp_to_frame of R43 for a family of period p whose alignment point lies at a nib. -/
def rtpToFrame (ts c p a ref : Nat) : RtpFrame :=
  let lo := unwrapTicks ts c ref * (c : Int)
  if lo + c ≤ a then .preAlignment
  else
    let f := if lo < a then 0 else ceilDiv (lo - a).toNat p
    if lo + c ≤ (a : Int) + (f * p : Nat) then .unaligned else .frame f

/-! ### The sample grid (R45) -/

/-- The sample period of rate r: 0 44.1, 1 48, 2 88.2, 3 96 kHz (R49). -/
def samplePeriod (r : Nat) : Nat := if r = 0 then 1200000 else if r = 1 then 1102500 else if r = 2 then 600000 else 551250

/-- The number of the first sample at or after an instant in nib. -/
def sampleFrom (ts t : Nat) : Nat := ceilDiv t ts

/-- samples_in_frame of R45. -/
def samplesInFrame (tF p ts : Nat) : Nat := ceilDiv (tF + p) ts - ceilDiv tF ts

/-! ### Formats (R48, R80, R105) -/

/-- The structure of a format: 1 525, 2 625, 3 720, 4 1080, 5 2160, 6 4320; 0 none of R48's. -/
def structureOf (f : Fmt) : Nat :=
  if f.lines = 525 ∧ f.activeSamples = 720 ∧ f.activeLines = 486 then 1
  else if f.lines = 625 ∧ f.activeSamples = 720 ∧ f.activeLines = 576 then 2
  else if f.lines = 750 ∧ f.activeSamples = 1280 ∧ f.activeLines = 720 then 3
  else if f.lines = 1125 ∧ f.activeSamples = 1920 ∧ f.activeLines = 1080 then 4
  else if f.lines = 2250 ∧ f.activeSamples = 3840 ∧ f.activeLines = 2160 then 5
  else if f.lines = 4500 ∧ f.activeSamples = 7680 ∧ f.activeLines = 4320 then 6
  else 0

/-- The SDI switching line (R80); none for a format without an SDI mapping. -/
def switchLine (f : Fmt) : Option Nat :=
  match structureOf f with
  | 1 => if f.scan = 1 then some 10 else none
  | 2 => if f.scan = 1 then some 6 else none
  | 3 => if f.scan = 0 then some 7 else none
  | 4 => some 7
  | 5 => if f.scan = 0 then some 13 else none
  | 6 => if f.scan = 0 then some 25 else none
  | _ => none

/-- The first active line of each field or segment, with its count (R48). The standard structures' places are those of their SMPTE documents
(PRESUMED, log entry 12); any other format has its active lines last. -/
def activeRuns (f : Fmt) : List (Nat × Nat) :=
  match structureOf f, f.scan with
  | 1, 1 => [(21, 243), (283, 243)]
  | 2, 1 => [(23, 288), (336, 288)]
  | 3, 0 => [(26, 720)]
  | 4, 0 => [(42, 1080)]
  | 4, _ => [(21, 540), (584, 540)]
  | 5, 0 => [(83, 2160)]
  | 6, 0 => [(165, 4320)]
  | _, 0 => [(f.lines + 1 - f.activeLines, f.activeLines)]
  | _, _ =>
    let n1 := (f.activeLines + 1) / 2
    let n2 := f.activeLines / 2
    [(f.field2Line - n1, n1), (f.lines + 1 - n2, n2)]

/-- The active lines fit in the frame, fields or segments (R48). -/
def activeFits (f : Fmt) : Bool :=
  if f.scan = 0 then decide (f.activeLines ≤ f.lines)
  else decide ((f.activeLines + 1) / 2 < f.field2Line) && decide (f.field2Line + f.activeLines / 2 ≤ f.lines + 1)

/-- The first active line fal (R48, R269). -/
def firstActiveLine (f : Fmt) : Nat := ((activeRuns f).head?.map (·.1)).getD 1

/-- The last active line (R48, R291). -/
def lastActiveLine (f : Fmt) : Nat := (((activeRuns f).getLast?).map (fun r => r.1 + r.2 - 1)).getD f.lines

/-- Line l is an active line. -/
def isActiveLine (f : Fmt) (l : Nat) : Bool := (activeRuns f).any (fun r => decide (r.1 ≤ l ∧ l < r.1 + r.2))

/-- The line period of a format in a family of period p, in nib, rounded down. -/
def linePeriod (f : Fmt) (p : Nat) : Nat := if f.lines = 0 then p else p / f.lines

/-- Bits per pixel (R105). -/
def bitsPerPixel (f : Fmt) : Nat := (if f.sampling = 0 then 2 else 3) * f.depth

/-- Pixels of a picture. -/
def pixelsOf (f : Fmt) : Nat := f.activeSamples * f.activeLines

/-- The essence rate of a raster stream in bit/s, rounded up (R105). -/
def essenceRate (f : Fmt) (p : Nat) : Nat := if p = 0 then 0 else ceilDiv (pixelsOf f * bitsPerPixel f * Config.nibsPerSec) p

/-- Slots for an essence rate: 1, 2 or 4; 0 above 50 Gbit/s (R105). -/
def slotsFor (rate : Nat) : Nat :=
  if rate ≤ 12500000000 then 1 else if rate ≤ 25000000000 then 2 else if rate ≤ 50000000000 then 4 else 0

/-- Black as a pixel of a format (R132), at its depth. -/
def blackPx (f : Fmt) : Px :=
  let k := fun (x : Nat) => if f.depth = 8 then x / 4 else if f.depth = 12 then x * 4 else x
  if f.sampling = 2 then ⟨k 64, k 64, k 64⟩ else ⟨k 64, k 512, k 512⟩

/-- The code of a gang in XPT_STITCH.gang (R143). -/
def gangCode (n : Nat) : Nat := if n = 4 then 2 else if n = 2 then 1 else 0

/-! ### Frame boundaries as instants -/

/-- Class keys of the periodic events (`Dev.lastAt`). -/
def keyTick : Nat := 1
def keyPps : Nat := 2
def keyDigest : Nat := 3
def keySeam : Nat := 4
def keyFam (n : Nat) : Nat := 16 + n
def keyAudio (r : Nat) : Nat := 32 + r
def keyPause (c : Nat) : Nat := 40 + c
def keyDst (i : Nat) : Nat := 4096 + i
def keySync (i : Nat) : Nat := 8192 + i

/-- Let the next frame boundary of family n come (R36). -/
def atFrame (n : Nat) (d : Dev) : Dev := atGrid (famPeriod n d) 0 (keyFam n) d

/-- Let the next 1 ms tick come (R90). -/
def atTick (d : Dev) : Dev := atGrid 52920000 0 keyTick d

end Sys2Proof.Machine
end

