-- ==== Sys2Proof/Machine/Descriptors.lean ====
section
/-! DEFINITION. Sources and destinations as the Pattern defines them, and what the device keeps of each (R107, R108). -/

namespace Sys2Proof.Machine

/-! ### What the Pattern defines -/

def srcDesc (n : Nat) (d : Dev) : Option SrcDesc := d.pat.sources.find? (fun s => s.num == n)

def dstDesc (n : Nat) (d : Dev) : Option DstDesc := d.pat.dests.find? (fun s => s.num == n)

/-- This device's member number (R415). -/
def selfMember (d : Dev) : Nat := rd SEA_FABRIC_member [] d

/-- This device is one of a twin pair (R436). -/
def twinned (d : Dev) : Bool := rd SEA_FABRIC_topo [] d == 3

/-- The local destinations (R107); a twin applies every destination of the Pattern (R436). -/
def localDsts (d : Dev) : List DstDesc := d.pat.dests.filter (fun x => twinned d || x.member == selfMember d)

/-- The local destination of an index. -/
def dstAt (i : Nat) (d : Dev) : Option DstDesc := (localDsts d).find? (fun x => x.index == i)

/-- An entry of the format table (R115). -/
def fmtDef (e : Nat) (d : Dev) : Option Fmt := (d.pat.formats.find? (fun p => p.1 == e)).map (·.2)

def fmtOf (e : Nat) (d : Dev) : Fmt := (fmtDef e d).getD {}

/-- A local destination's family and format now in force (R108). -/
def dstFam (i : Nat) (d : Dev) : Nat := rd XPT_DST_FMT_fam [i] d
def dstFmt (i : Nat) (d : Dev) : Fmt := fmtOf (rd XPT_DST_FMT_fmt [i] d) d

/-- The essence rate of a source in bit/s (R105). -/
def sourceRate (s : SrcDesc) (d : Dev) : Nat :=
  if s.stream = 0 then essenceRate (fmtOf s.fmt d) (famPeriod s.fam d) else if s.stream = 2 then s.peak else 0

/-- What the crosspoint keeps of a source and of a local destination. -/
def srcRun (n : Nat) (d : Dev) : SrcRun := tabGet {} d.xpt.srcs n
def dstRun (i : Nat) (d : Dev) : DstRun := tabGet {} d.xpt.dsts i

def setSrcRun (n : Nat) (r : SrcRun) (d : Dev) : Dev := { d with xpt := { d.xpt with srcs := tabSet {} d.xpt.srcs n r } }
def setDstRun (i : Nat) (r : DstRun) (d : Dev) : Dev := { d with xpt := { d.xpt with dsts := tabSet {} d.xpt.dsts i r } }

/-- What the Tailor gave a local destination, as the Ductus applied it. -/
def dstPlace (i : Nat) (d : Dev) : DstPlace := tabGet {} d.xpt.places i

/-- The source is present at its slot or channels (R130). -/
def srcPresent (n : Nat) (d : Dev) : Bool := (srcRun n d).present

end Sys2Proof.Machine
end

