-- ==== Sys2Proof/Machine/Surfaces.lean ====
section
/-! DEFINITION. Inkwell surfaces: what a surface holds, how a source's lines reach it, its pictures and proxies (R286 to R297). -/

namespace Sys2Proof.Machine

def surfOf (s : Nat) (d : Dev) : Surf := tabGet {} d.ink.surfs s
def setSurf (s : Nat) (x : Surf) (d : Dev) : Dev := { d with ink := { d.ink with surfs := tabSet {} d.ink.surfs s x } }
def syncRun (n : Nat) (d : Dev) : SyncRun := tabGet {} d.ink.syncs n
def setSyncRun (n : Nat) (x : SyncRun) (d : Dev) : Dev := { d with ink := { d.ink with syncs := tabSet {} d.ink.syncs n x } }

/-- The surface is placed. -/
def surfValid (s : Nat) (d : Dev) : Bool := rdB INK_SURF_valid [s] d

/-- The read side of a slot is placed. -/
def syncValid (n : Nat) (d : Dev) : Bool := rdB INK_SYNC_valid [n] d

/-- Sampling rows of the table in R287. -/
def samplingRow (f : Fmt) : Nat :=
  if f.sampling = 0 then (if f.depth = 8 then 0 else if f.depth = 12 then 2 else 1) else if f.depth = 12 then 4 else 3

/-! ### Sizes (R287, R290, R292) -/

/-- Blocks of a picture of w × h pixels. -/
def blocksOf (w h : Nat) : Nat := ceilDiv w 32 * ceilDiv h 4

/-- Bytes of one picture with its side table. -/
def pictureBytes (f : Fmt) (w h : Nat) : Nat := blocksOf w h * (16 * bitsPerPixel f + 2)

/-- A buffer's size (R292): its pictures and 1 MiB of attachment, in whole 64 KiB. -/
def bufferBytes (f : Fmt) (proxies : Bool) : Nat :=
  let w := f.activeSamples
  let h := f.activeLines
  let w2 := ceilDiv w 2
  let h2 := ceilDiv h 2
  let extra := if proxies then pictureBytes f w2 h2 + pictureBytes f (ceilDiv w2 2) (ceilDiv h2 2) else 0
  ceilDiv (pictureBytes f w h + extra + 1048576) 65536 * 65536

/-- A surface's size: its buffers, and 4 MiB for the audio ring of a frame synchroniser (R292). -/
def surfaceBytes (f : Fmt) (depth : Nat) (proxies ring : Bool) : Nat :=
  depth * bufferBytes f proxies + (if ring then 4194304 else 0)

/-! ### Pictures and proxies (R289, R290) -/

/-- A stored picture as rows of the woven frame, black where a row was not written. -/
def wovenRows (f : Fmt) (pic : List (Nat × List Px)) : List (List Px) :=
  let row := fun (l : Nat) => ((pic.find? (fun q => q.1 == l)).map (·.2)).getD (List.replicate f.activeSamples (blackPx f))
  match activeRuns f with
  | (a, n) :: (b, m) :: _ => (List.range (n + m)).map (fun k => if k % 2 = 0 then row (a + k / 2) else row (b + k / 2))
  | (a, n) :: [] => (List.range n).map (fun k => row (a + k))
  | [] => []

/-- The mean of four samples, halves rounded up. -/
def mean4 (a b c e : Nat) : Nat := (a + b + c + e + 2) / 4

/-- Pixel x of a row, its last one beyond the end. -/
def pxAt (row : List Px) (x : Nat) : Px := row.getD (min x (row.length - 1)) {}

/-- One row of the ½-size picture from two rows; for 4:2:2 the chroma samples stand at the even pixels and are averaged among themselves. -/
def halfRow (s422 : Bool) (r0 r1 : List Px) : List Px :=
  (List.range (ceilDiv r0.length 2)).map (fun x =>
    let p := pxAt r0 (2 * x); let q := pxAt r0 (2 * x + 1); let r := pxAt r1 (2 * x); let s := pxAt r1 (2 * x + 1)
    if s422 then
      let k := x / 2
      let c0 := pxAt r0 (4 * k); let c1 := pxAt r0 (min (4 * k + 2) (r0.length - 1) / 2 * 2)
      let e0 := pxAt r1 (4 * k); let e1 := pxAt r1 (min (4 * k + 2) (r1.length - 1) / 2 * 2)
      ⟨mean4 p.a q.a r.a s.a, mean4 c0.b c1.b e0.b e1.b, mean4 c0.c c1.c e0.c e1.c⟩
    else ⟨mean4 p.a q.a r.a s.a, mean4 p.b q.b r.b s.b, mean4 p.c q.c r.c s.c⟩)

/-- The ½-size picture of a picture given as rows. -/
def halfPicture (s422 : Bool) (rows : List (List Px)) : List (List Px) :=
  (List.range (ceilDiv rows.length 2)).map (fun y => halfRow s422 (rows.getD (2 * y) []) (rows.getD (min (2 * y + 1) (rows.length - 1)) []))

/-- Row y of a picture with some of its blocks of 32 pixels by 4 lines black (R287, R289). -/
def blackRow (black : Px) (blocks : List Nat) (y : Nat) (row : List Px) : List Px :=
  let per := ceilDiv row.length 32
  (row.zip (List.range row.length)).map (fun q => if blocks.contains (y / 4 * per + q.2 / 32) then black else q.1)

/-- A picture with some of its blocks black. -/
def blackBlocks (black : Px) (blocks : List Nat) (rows : List (List Px)) : List (List Px) :=
  if blocks.isEmpty then rows else (rows.zip (List.range rows.length)).map (fun q => blackRow black blocks q.2 q.1)

/-- The blocks of a picture of a stored frame that decode as black. -/
def badBlocks (which : Nat) (x : SFrame) : List Nat := (x.bad.filter (fun q => q.1 == which)).map (·.2)

/-- The full-size picture (0), the ½-size (1) or the ¼-size proxy (2) of a stored frame. -/
def framePicture (f : Fmt) (which : Nat) (x : SFrame) : List (List Px) :=
  let full := wovenRows f x.pic
  let s := f.sampling == 0
  blackBlocks (blackPx f) (badBlocks which x)
    (if which = 1 then halfPicture s full else if which = 2 then halfPicture s (halfPicture s full) else full)

/-- The row of the woven picture that an active line is (R287). -/
def wovenIndex (f : Fmt) (line : Nat) : Nat :=
  match activeRuns f with
  | (a, _) :: (b, _) :: _ => if b ≤ line then 2 * (line - b) + 1 else 2 * (line - a)
  | (a, _) :: [] => line - a
  | [] => 0

/-- The lines of a stored frame as its reader decodes them. -/
def decodedLines (f : Fmt) (x : SFrame) : List (Nat × List Px) :=
  let bs := badBlocks 0 x
  if bs.isEmpty then x.pic else x.pic.map (fun q => (q.1, blackRow (blackPx f) bs (wovenIndex f q.1) q.2))

/-- Data of a stored frame can no longer be read: a block decodes as black, or the buffer counts as not complete. -/
def spoil (b : BadData) (d : Dev) : Dev :=
  let x := surfOf b.surf d
  let hit := fun (fr : SFrame) =>
    if fr.num ≠ b.num then fr else if b.what = 3 then { fr with done := 0 } else { fr with bad := fr.bad ++ [(b.what, b.block)] }
  if x.frames.any (fun fr => fr.num == b.num) then setSurf b.surf { x with frames := x.frames.map hit } d else d

/-! ### Writing (R291, R296, R297) -/

/-- Ingest surfaces of a source. -/
def ingestOf (src : Nat) (d : Dev) : List Nat :=
  (d.ink.surfs.filter (fun p => p.2.kind == 0 && p.2.owner == src)).map (·.1)

/-- Family frame number nearest a start. -/
def nearestFrame (fam start : Nat) (d : Dev) : Nat :=
  let p := max 1 (famPeriod fam d)
  (start + p / 2 - famAlignNib fam d) / p

/-- A write of the next frame begins. -/
def beginFrame (s start : Nat) (d : Dev) : Dev :=
  let x := surfOf s d
  if !surfValid s d || x.failed || decide (start < x.since) then d
  else
    let depth := max 1 (rd INK_SURF_depth [s] d)
    let buf := x.count % depth
    let fr : SFrame := { num := x.count, start := start, buf := buf }
    let d := setSurf s { x with count := x.count + 1, frames := fr :: x.frames.take (depth - 1) } d
    wr INK_SURF_wr_buf [s] buf (wr INK_SURF_writing [s] 1 (wr INK_SURF_lines_written [s] 0 d))

/-- The first buffer of a captured surface to complete after the start is the one decoded (R308). -/
def noteCapture (s : Nat) (fr : SFrame) (d : Dev) : Dev :=
  match d.ink.cap with
  | some c => if c.surf = s ∧ c.frame.isNone then { d with ink := { d.ink with cap := some { c with frame := some fr } } } else d
  | none => d

/-- A frame being written is complete (R291). -/
def completeFrame (s : Nat) (d : Dev) : Dev :=
  let x := surfOf s d
  match x.frames with
  | fr :: rest =>
    let fr := { fr with done := nibOf d.ntw + 1 }
    let d := noteCapture s fr (setSurf s { x with frames := fr :: rest } d)
    wr INK_SURF_last_buf [s] fr.buf (wr INK_SURF_writing [s] 0 (wr INK_SURF_frame [s] (nearestFrame x.fam fr.start d) d))
  | [] => d

/-- An active line reaches a surface that is being written. -/
def writeLine (s line : Nat) (px : List Px) (d : Dev) : Dev :=
  if !rdB INK_SURF_writing [s] d then d
  else
    let x := surfOf s d
    match x.frames with
    | fr :: rest =>
      let d := setSurf s { x with frames := { fr with pic := fr.pic ++ [(line, px)] } :: rest } d
      let d := wr INK_SURF_lines_written [s] (fr.pic.length + 1) d
      if line = lastActiveLine (fmtOf x.fmt d) then completeFrame s d else d
    | [] => d

/-- The write of the buffer in progress stops (R297, R333). -/
def stopWrite (s : Nat) (d : Dev) : Dev := wr INK_SURF_writing [s] 0 d

/-- The bytes an ANC packet takes in the attachment: two per word with its three flag, identification, count and checksum words (log
entry 15). -/
def attachBytes (p : AncPkt) : Nat := 2 * (p.words.length + 7)

/-- Put the sidecar of the frame that ends into the latest buffer; what does not fit in 1 MiB is dropped (R291). -/
def attachAnc (s : Nat) (pkts : List AncPkt) (d : Dev) : Dev :=
  let x := surfOf s d
  match x.frames with
  | fr :: rest =>
    let go := fun (acc : List AncPkt × Nat × Nat) (p : AncPkt) =>
      if acc.2.1 + attachBytes p ≤ 1048576 then (acc.1 ++ [p], acc.2.1 + attachBytes p, acc.2.2) else (acc.1, acc.2.1, acc.2.2 + 1)
    let out := pkts.foldl go ([], 0, 0)
    let d := setSurf s { x with frames := { fr with anc := out.1 } :: rest } d
    if out.2.2 = 0 then d else fire 163 (count INK_CNT_anc_drop [] out.2.2 (wr INK_STATUS_anc_drop [] 1 d))
  | [] => d

/-- The newest complete frame of a surface. -/
def lastComplete (s : Nat) (d : Dev) : Option SFrame := (surfOf s d).frames.find? (fun fr => fr.done != 0)

/-! ### A source's lines and frames (R104, R296) -/

/-- An active line reaches the source's slot and its surfaces. -/
def addLine (src line : Nat) (px : List Px) (d : Dev) : Dev :=
  let r := srcRun src d
  let d := setSrcRun src { r with pic := r.pic ++ [(line, px)] } d
  forEach (ingestOf src d) (fun s d => writeLine s line px d) d

/-- The source's frame in progress ends. -/
def endSourceFrame (src : Nat) (d : Dev) : Dev :=
  let r := srcRun src d
  let d := setSrcRun src { r with picDone := r.pic, pic := [], ancDone := r.anc, anc := [] } d
  forEach (ingestOf src d) (fun s d => attachAnc s r.anc d) d

/-- A frame of a present source begins at a nib: its surfaces begin to be written (R157, R296, R297). -/
def beginSourceFrame (src start : Nat) (d : Dev) : Dev :=
  if srcPresent src d then forEach (ingestOf src d) (fun s d => beginFrame s start d) d else d

/-- A frame that an insertion emits whole, beginning at a nib, reaches the surfaces that read its output (R304). -/
def passFrame (src start per : Nat) (fr : SFrame) (d : Dev) : Dev :=
  forEach (ingestOf src d) (fun s d =>
    let n := (surfOf s d).count
    let d := beginFrame s start d
    let x := surfOf s d
    match x.frames with
    | y :: rest =>
      if x.count = n then d
      else wr INK_SURF_writing [s] 0 (wr INK_SURF_last_buf [s] y.buf (setSurf s { x with frames := { y with pic := decodedLines (fmtOf x.fmt d) fr, anc := fr.anc, done := start + per + 1 } :: rest } d))
    | [] => d) d

/-- A source's payload is marked lost: writes stop (R297). -/
def stopSource (src : Nat) (d : Dev) : Dev := forEach (ingestOf src d) stopWrite d

/-! ### Audio rings (R301) -/

/-- The source channels of the group a read side's ring gives out lie in a run under this number. -/
def syncGroup (n : Nat) : Nat := 65536 + n

/-- A pair of a source's channels is non-PCM. -/
def pairMarked (src m : Nat) (d : Dev) : Bool :=
  match d.xpt.runs.find? (fun r => r.1 == src) with
  | some (_, first, _) => (tabGet {} d.aud.src (first + 2 * m)).now.npcm || (tabGet {} d.aud.src (first + 2 * m + 1)).now.npcm
  | none => false

/-- A channel of a source receives a sample, which its rings take. -/
def ringPush (src ch : Nat) (v : Int) (d : Dev) : Dev :=
  let mark := pairMarked src (ch / 2) d
  forEach (d.ink.syncs.filter (fun p => p.2.src == src && p.2.audio)) (fun p d =>
    let r := syncRun p.1 d
    let c := tabGet {} r.rings ch
    setSyncRun p.1 { r with rings := tabSet {} r.rings ch { c with queue := (c.queue ++ [(v, mark)]).drop (c.queue.length + 1 - 16384) } } d) d

end Sys2Proof.Machine
end

