-- ==== Sys2Proof/Machine/Sources.lean ====
section
/-! DEFINITION. The declaration of loss and recovery by the adapter that feeds a source, and by the insertions behind it (R130, R131). -/

namespace Sys2Proof.Machine

/-! ### Loss and recovery (R130) -/

/-- The lost bits of the source slots a source occupies. -/
def markSlots (n : Nat) (lost : Bool) (d : Dev) : Dev :=
  match d.xpt.slots.find? (fun p => p.2.1 == n) with
  | some (first, _, count) => forUpTo count (fun j d => wrB XPT_SSL_ST_lost [first + j] lost d) d
  | none => d

/-- A loss is declared for one local destination whose output carries the source, or would. -/
def declareDst (i : Nat) (d : Dev) : Dev :=
  let r := dstRun i d
  if r.declared then d
  else
    let r := { r with declared := true, cleanSince := false, primarySince := false, presence := 0 }
    fire 66 (count XPT_DST_CNT_losses [i] 1 (wr XPT_DST_ST_lost [i] 1 (setDstRun i r d)))

/-- The path a local destination's output takes now. -/
def pathInUse (i : Nat) (d : Dev) : Path := if rdB XPT_DST_ST_on_protect [i] d then (dstPlace i d).protect else (dstPlace i d).primary

/-- That path passes through a read side or head, which passes a loss on at its own frame boundary (R130). -/
def insertedPath (i : Nat) (d : Dev) : Bool := let k := (pathInUse i d).kind; k == 1 || k == 2 || k == 3

/-- The last line delivered of the frame in progress. -/
def lastLineOf (n : Nat) (d : Dev) : Nat := (((srcRun n d).pic.getLast?).map (·.1)).getD 0

/-- A destination completes its frame from a line on, with its hold frame or black (R131). -/
def startFill (i line : Nat) (d : Dev) : Dev :=
  let hold := rd XPT_DST_POLICY_policy [i] d == 2 && rdB XPT_DST_ST_hold_ready [i] d
  setDstRun i { dstRun i d with fill := some (line, hold) } d

/-- The adapter of source n declares it lost (R130, R131). -/
def declareLoss (n : Nat) (d : Dev) : Dev :=
  let r := srcRun n d
  if !r.present then d
  else
    let d := stopSource n (markSlots n true (setSrcRun n { r with present := false } d))
    forEach (localDsts d) (fun x d =>
      let run := dstRun x.index d
      let d := if rd XPT_DST_SRC_src [x.index] d = n then setDstRun x.index { run with primarySince := false, presence := 0 } d else d
      if run.carry = .src n && famRunning (dstFam x.index d) d && !insertedPath x.index d then
        startFill x.index (lastLineOf n d + 1) (declareDst x.index d)
      else d) d

/-- The adapter of source n declares its recovery, or declares it present for the first time. -/
def declareRecovery (n : Nat) (d : Dev) : Dev :=
  let r := srcRun n d
  if r.present then d
  else markSlots n false (setSrcRun n { r with present := true, outside := false, since := nibOf d.ntw } d)

/-- The payload of an insertion's output slot is marked lost, or present again; the destinations that take it follow (R130, R300, R365). -/
def slotLost (n width : Nat) (lost : Bool) (d : Dev) : Dev :=
  let was := rdB XPT_SSL_ST_lost [n] d
  let d := forUpTo width (fun j d => wrB XPT_SSL_ST_lost [n + j] lost d) d
  if lost && !was then
    forEach (localDsts d) (fun x d =>
      let p := pathInUse x.index d
      if insertedPath x.index d && p.slot == n && decide ((dstRun x.index d).carry = .src p.src) && famRunning (dstFam x.index d) d then
        startFill x.index 1 (declareDst x.index d)
      else d) d
  else d

end Sys2Proof.Machine
end

