-- ==== Sys2Proof/Machine/Paths.lean ====
section
/-! DEFINITION. When a path that reads a surface may carry its destination (R157). -/

namespace Sys2Proof.Machine

/-- A path with a read side or conversion head. -/
def insertedKind (kind : Nat) : Bool := kind == 1 || kind == 2 || kind == 3

/-- The read side or head of the path has begun to emit. -/
def pathStarted (p : Path) (d : Dev) : Bool := (syncRun p.slot d).started

/-- h and g of R298 for a destination period P and a source period Ps. -/
def syncH (p : Nat) : Nat := p / 64
def syncG (p ps : Nat) : Nat := max (p / 2) (ps + syncH p - p)

/-- The period of a source. -/
def sourcePeriod (src : Nat) (d : Dev) : Nat := match srcDesc src d with | some s => famPeriod s.fam d | none => 0

/-- t_out of the output frame that begins at a nib (R298). -/
def tOut (tF doNib pl : Nat) : Nat := tF + doNib - pl - 1920

/-- The frame a delay line of N frames gives output frame t_F: the one that began at t_F − N P + e (R304). -/
def delayFrame (frames : List SFrame) (tF n p : Nat) (e : Int) : Option SFrame :=
  let at_ : Int := (tF : Int) - (n * p : Nat) + e
  frames.find? (fun fr => decide (2 * ((fr.start : Int) - at_).natAbs < p))

/-- The surface a path reads holds every frame its reader needs at a switch point (R157). -/
def pathReady (i : Nat) (q : Path) (d : Dev) : Bool :=
  if !insertedKind q.kind then true
  else
    let fam := dstFam i d
    let p := famPeriod fam d
    let tF := frameStart p (nibOf d.ntw)
    let pl := linePeriod (dstFmt i d) p
    let frames := (surfOf (q.surf - 1) d).frames
    let doNib := ((dstAt i d).map (·.doNib)).getD 0
    if q.kind = 1 then
      let g := syncG p (sourcePeriod q.src d)
      frames.any (fun fr => decide (fr.start + g ≤ tOut tF doNib pl))
    else if q.kind = 3 then (delayFrame frames tF q.frames p (srcRun (syncRun q.slot d).src d).e).isSome
    else frames.any (fun fr => fr.done != 0 && decide (fr.done ≤ tF - p + 1))

/-! ### Arrival (R137, R211) -/

/-- Reduce an arrival error into (-P/2, P/2]. -/
def reduceError (x : Int) (p : Nat) : Int :=
  if p = 0 then x else let r := x % (p : Int); if 2 * r > p then r - p else r

/-- The capture window of R138 on a path of latency m to a destination of output delay Do, and of R140 on a direct path. -/
def inWindow (e : Int) (pl m doNib : Nat) (direct : Bool) (tol : Nat) : Bool :=
  if direct then decide (e.natAbs ≤ tol) else decide (-(pl : Int) ≤ 2 * e) && decide (e + m ≤ doNib)

/-- A destination depends on the capture window of its source: a raster, ANC or opaque path without an insertion. -/
def windowPath (kind : Nat) (p : Path) : Bool := (p.kind == 0 || p.kind == 4) && kind != 4 && kind != 7

/-- The source's arrival error lies in the capture window of a destination's path. -/
def pathInWindow (x : DstDesc) (p : Path) (d : Dev) : Bool :=
  match srcDesc p.src d with
  | some s => !windowPath x.kind p ||
      inWindow (srcRun p.src d).e (linePeriod (fmtOf s.fmt d) (famPeriod s.fam d)) p.lat x.doNib (p.kind == 4) d.pat.directTol
  | none => true

/-- A source's arrival error is measured: shown in its slots, and FS0070 fires when it leaves a window a destination depends on (R130). -/
def setArrival (src : Nat) (e : Int) (d : Dev) : Dev :=
  let bad := fun (d : Dev) => (localDsts d).any (fun x =>
    let p := (dstPlace x.index d).primary
    p.placed && p.src == src && !pathInWindow x p d)
  let was := bad d
  let d := setSrcRun src { srcRun src d with e := e } d
  let units := clampI (-32768) 32767 (e / 40)
  let d := match d.xpt.slots.find? (fun p => p.2.1 == src) with
    | some (first, _, n) => forUpTo n (fun j d => wrS XPT_SSL_ST_e_nib [first + j] units d) d
    | none => d
  let now := bad d
  let d := setSrcRun src { srcRun src d with outside := now } d
  if now && !was then
    fire 70 (forEach (localDsts d) (fun x d =>
      let p := (dstPlace x.index d).primary
      if p.placed && p.src == src && !pathInWindow x p d then declareDst x.index d else d) d)
  else d

end Sys2Proof.Machine
end

