-- ==== Sys2Proof/Machine/Inkwell.lean ====
section
/-! DEFINITION. Frame synchronisers, delay lines, the hold store, overlays, captures and the BAR2 window (R298 to R308). -/

namespace Sys2Proof.Machine

/-! ### Read sides (R298 to R304) -/

/-- The width in slots of the stream a read side feeds. -/
def gangWidth (n : Nat) (d : Dev) : Nat := let g := rd XPT_SSL_ST_gang [n] d; if g = 2 then 4 else if g = 1 then 2 else 1

/-- The frame of a given number that a surface still holds. -/
def frameNum (frames : List SFrame) (k : Nat) : Option SFrame := frames.find? (fun fr => fr.num == k)

/-- The selection rule of R298 among the frames numbered from `after` on; `prev`: the number read before plus 1. `some (frame, code)`, with
code 0 a repeat, 1 the next frame, 2 one dropped, 3 a start. -/
def chooseFrame (frames : List SFrame) (after prev tout g h : Nat) : Option (SFrame × Nat) :=
  if prev = 0 then
    let usable := frames.filter (fun fr => decide (after ≤ fr.num))
    if after ≠ 0 ∧ !usable.any (fun fr => fr.done != 0) then none
    else (usable.find? (fun fr => decide (fr.start + g ≤ tout))).map (fun fr => (fr, 3))
  else
    let late := match frameNum frames (prev + 1) with | some fr => if fr.start + (g + h) ≤ tout then some fr else none | none => none
    let next := match frameNum frames prev with | some fr => if fr.start + (g - h) ≤ tout then some fr else none | none => none
    match late, next with
    | some fr, _ => some (fr, 2)
    | none, some fr => some (fr, 1)
    | none, none => (frameNum frames (prev - 1)).map (fun fr => (fr, 0))

/-- A partner's choice applied in place of the rule (R300). -/
def forcedFrame (frames : List SFrame) (prev code : Nat) : Option (SFrame × Nat) :=
  (frameNum frames (prev + code - 1)).map (fun fr => (fr, code))

/-- This device is the twin the Pattern lists second, and the twin Seam is up (R300). -/
def followsTwin (d : Dev) : Bool :=
  rd SEA_FABRIC_topo [] d == 3 && decide ((d.pat.members.map (·.num)).head? ≠ some (selfMember d))
    && (List.range 24).any (fun n => rdB SEA_LINK_ST_up [n] d)

/-- The samples of a source frame that a non-PCM pair slips by (R302). -/
def frameSamples (fr : SFrame) (p ts : Nat) : Nat := samplesInFrame fr.start p ts

/-- The sample rate index of a source's channel group. -/
def sourceRateIx (src : Nat) (d : Dev) : Nat := ((srcDesc src d).map (·.rate)).getD 1

/-- Non-PCM pairs slip with the video: a dropped frame's samples are skipped, a repeated frame's are given out again (R302). -/
def slipPairs (n : Nat) (code : Nat) (samples : Nat) (d : Dev) : Dev :=
  let r := syncRun n d
  setSyncRun n { r with rings := r.rings.map (fun q =>
    if q.2.last.2 then
      (q.1, if code = 2 then { q.2 with queue := q.2.queue.drop samples }
            else { q.2 with queue := q.2.hist.drop (q.2.hist.length - samples) ++ q.2.queue })
    else q) } d

/-- The read side emits a chosen frame. -/
def emitFrame (n : Nat) (fr : SFrame) (code tout ps p : Nat) (d : Dev) : Dev :=
  let r := syncRun n d
  let d := setSyncRun n { r with prev := fr.num + 1, cur := some fr, started := true, forced := none } d
  let dv := tout - fr.start
  let d := wr INK_SYNC_dv [n] (min (2 ^ 32 - 1) (dv / 40)) d
  let ts := samplePeriod (sourceRateIx r.src d)
  let target := ceilDiv (syncG p ps + ps / 2) ts
  let d := wrS INK_SYNC_av_offset [n] (clampI (-32768) 32767 (((dv : Int) - (target * ts : Nat)).tdiv 5292000)) d
  let d := passFrame (syncGroup n) tout p fr (slotLost n (gangWidth n d) false d)
  if code = 0 then fire 162 (count INK_SYNC_repeats [n] 1 (if ps = p then slipPairs n 0 (frameSamples fr ps ts) d else d))
  else if code = 2 then fire 162 (count INK_SYNC_drops [n] 1 (if ps = p then slipPairs n 2 (frameSamples fr ps ts) d else d))
  else d

/-- The read side has nothing to emit: its payload is marked lost, and it starts afresh (R300, R334). -/
def loseSlot (n : Nat) (d : Dev) : Dev :=
  let r := syncRun n d
  let s := surfOf r.surf d
  let d := setSyncRun n { r with prev := 0, after := s.count, cur := none, forced := none, rings := [] } d
  if r.started then slotLost n (gangWidth n d) true d else d

/-- An output frame of the read side of a slot at t_out (R298, R300, R304, R334). -/
def syncOutput (n : Nat) (d : Dev) : Dev :=
  let r := syncRun n d
  if !syncValid n d || r.head || !famRunning r.fam d then d
  else
    let p := famPeriod r.fam d
    let pl := linePeriod (fmtOf r.fmt d) p
    let shift : Int := (r.doNib : Int) - pl - 1920
    let off := (shift % (max 1 p : Nat)).toNat
    let d := atGrid p off (keySync n) d
    let tout := (tabGet 0 d.lastAt (keySync n)) / Config.fracPerNib
    let s := surfOf r.surf d
    let ps := sourcePeriod r.src d
    if s.failed then
      let d := setSyncRun n { r with failN := r.failN + 1 } d
      if r.failN = 0 then
        match r.cur with
        | some fr => if r.delay = 0 then emitFrame n fr 0 tout ps p d else d
        | none => loseSlot n d
      else loseSlot n d
    else if r.delay = 0 then
      if !srcPresent r.src d then loseSlot n d
      else
        let own := chooseFrame s.frames r.after r.prev tout (syncG p ps) (syncH p)
        let choice := match followsTwin d && r.prev != 0, r.forced with
          | true, some c => (forcedFrame s.frames r.prev c).orElse (fun _ => own)
          | _, _ => own
        match choice with
        | some (fr, code) => emitFrame n fr code tout ps p d
        | none => if r.started && r.prev != 0 then loseSlot n d else d
    else
      let tF := ((tout : Int) - shift).toNat
      match delayFrame s.frames tF r.delay p (srcRun r.src d).e with
      | some fr =>
        if fr.done = 0 then loseSlot n d
        else
          let d := setSyncRun n { r with prev := fr.num + 1, cur := some fr, started := true } d
          slotLost n (gangWidth n d) false (wr INK_SYNC_dv [n] (min (2 ^ 32 - 1) ((tout - fr.start) / 40)) d)
      | none => loseSlot n d

/-! ### The hold store (R305) -/

/-- The picture a destination emits in its frame, as lines of its source. -/
def pathPicture (i : Nat) (d : Dev) : List (Nat × List Px) :=
  match (dstRun i d).carry with
  | .src n =>
    let p := pathInUse i d
    if p.kind = 1 ∨ p.kind = 3 then ((syncRun p.slot d).cur.map (decodedLines (fmtOf (surfOf (syncRun p.slot d).surf d).fmt d))).getD []
    else if p.kind = 2 then (srcRun (syncGroup p.slot) d).picDone
    else (srcRun n d).picDone
  | _ => []

/-- The ANC sidecar that goes with it (R104, R291, R366). -/
def pathAnc (i : Nat) (d : Dev) : List AncPkt :=
  match (dstRun i d).carry with
  | .src n =>
    let p := pathInUse i d
    if p.kind = 1 ∨ p.kind = 3 then ((syncRun p.slot d).cur.map (·.anc)).getD []
    else if p.kind = 2 then (srcRun (syncGroup p.slot) d).ancDone
    else (srcRun n d).ancDone
  | _ => []

/-- The hold surface takes the frame its destination emitted; it becomes the hold frame when `clean`. The answer says whether it did. -/
def writeHold (i : Nat) (clean : Bool) (d : Dev) : Dev × Bool :=
  let p := dstPlace i d
  if p.holdSurf = 0 then (d, false)
  else
    let s := p.holdSurf - 1
    let x := surfOf s d
    if x.failed || !surfValid s d then (d, false)
    else if !clean then (d, false)
    else
      let fr : SFrame := { num := x.count, start := nibOf d.ntw, buf := x.count % 2, done := nibOf d.ntw + 1, pic := pathPicture i d }
      let d := setSurf s { x with count := x.count + 1, frames := fr :: x.frames.take 1 } d
      (wr INK_SURF_wr_buf [s] ((x.count + 1) % 2) (wr INK_SURF_last_buf [s] fr.buf (wr INK_SURF_writing [s] 1 d)), true)

/-! ### Overlays (R306, R307) -/

/-- Where a byte of an overlay buffer lies in `Ink.bytes`. -/
def overlayByte (h buf off : Nat) : Nat := 67108864 * h + 33554432 * buf + off
def captureByte (off : Nat) : Nat := 4294967296 + off

/-- A head's format, and its overlay's size in bytes: one pixel of four bytes per head pixel, or per quadrant pixel in a gang (R362). -/
def headFmt (h : Nat) (d : Dev) : Fmt := fmtOf (rd QLT_HEAD_FMT_fmt [h] d) d
def overlaySize (h : Nat) (d : Dev) : Nat :=
  let n := 4 * pixelsOf (headFmt h d)
  min 33554432 (if rdB QLT_HEAD_FMT_gang [h] d then n / 4 else n)

/-- A write of flip (R307). -/
def overlayFlip (h : Nat) (flip : Bool) (d : Dev) : Dev := if flip then wr INK_OVL_pending [h] 1 d else d

/-- The overlay's buffers exchange at a frame boundary of the head's family (R307). -/
def overlayExchange (h : Nat) (d : Dev) : Dev :=
  let fam := rd QLT_HEAD_FMT_fam [h] d
  if rdB INK_OVL_pending [h] d && famRunning fam d then
    let d := atGrid (famPeriod fam d) 0 (60 + h) d
    wr INK_OVL_pending [h] 0 (wr INK_OVL_front [h] (1 - rd INK_OVL_front [h] d) d)
  else d

/-- The byte of `Ink.bytes` that a BAR2 address reaches, with whether it may be written; none where it maps nothing or lies beyond the end
(R306). -/
def bar2Target (a : Nat) (d : Dev) : Option (Nat × Bool) :=
  let ap := a / 33554432 % 32
  let off := rd INK_WIN_offset [ap] d * 33554432 + a % 33554432
  let target := rd INK_WIN_target [ap] d
  let h := rd INK_WIN_head [ap] d
  if target = 1 then
    if off < overlaySize h d then some (overlayByte h (1 - rd INK_OVL_front [h] d) off, true) else none
  else if target = 2 then (if off < 268435456 then some (captureByte off, false) else none)
  else none

/-- Read one byte through BAR2. -/
def bar2Read (a : Nat) (d : Dev) : Nat :=
  match bar2Target a d with
  | some (k, _) => tabGet 0 d.ink.bytes k
  | none => 0

/-- Write one byte through BAR2; a write to an overlay whose flip is pending is ignored (R307). -/
def bar2WriteByte (a v : Nat) (d : Dev) : Dev :=
  match bar2Target a d with
  | some (k, true) =>
    if rdB INK_OVL_pending [rd INK_WIN_head [a / 33554432 % 32] d] d then d
    else { d with ink := { d.ink with bytes := tabSet 0 d.ink.bytes k (v % 256) } }
  | _ => d

/-- A BAR2 write access of some bytes: ignored as a whole while the overlay's flip is pending (R307). -/
def bar2Write (a : Nat) (bytes : List Nat) (d : Dev) : Dev :=
  match bar2Target a d with
  | some (_, true) =>
    if rdB INK_OVL_pending [rd INK_WIN_head [a / 33554432 % 32] d] d then fire 164 (wr INK_STATUS_win_busy [] 1 d)
    else forEach ((List.range bytes.length).zip bytes) (fun p d => bar2WriteByte (a + p.1) p.2 d) d
  | _ => forEach ((List.range bytes.length).zip bytes) (fun p d => bar2WriteByte (a + p.1) p.2 d) d

/-- The DRAM channel an aperture's target lies on, where it maps a placed surface. -/
def bar2Channel (a : Nat) (d : Dev) : Option Nat :=
  let ap := a / 33554432 % 32
  let kind := if rd INK_WIN_target [ap] d = 1 then 2 else 3
  let h := rd INK_WIN_head [ap] d
  match d.ink.surfs.find? (fun p => p.2.kind == kind && (kind == 3 || p.2.owner == h)) with
  | some (s, _) => if (bar2Target a d).isSome then some (rd INK_SURF_ch [s] d) else none
  | none => none

/-! ### Captures (R308) -/

/-- A capture fails. -/
def captureFails (d : Dev) : Dev := fire 165 (wr INK_STATUS_cap_err [] 1 d)

/-- The capture in progress ends with an error. -/
def captureAbort (d : Dev) : Dev :=
  captureFails (wr INK_CAP_ST_busy [] 0 (wr INK_CAP_ST_err [] 1 { d with ink := { d.ink with cap := none } }))

/-- The channel of the capture surface can take a write. -/
def captureChannelOk (d : Dev) : Bool :=
  match d.ink.surfs.find? (fun p => p.2.kind == 3) with
  | some (s, x) => !x.failed && running (fDram (rd INK_SURF_ch [s] d)) d
  | none => true

/-- A write of INK_CAP_CTRL. -/
def captureStart (start : Bool) (picture surf : Nat) (d : Dev) : Dev :=
  let d := wr INK_CAP_CTRL_picture [] picture (wr INK_CAP_CTRL_surf [] surf d)
  if !start then d
  else if rdB INK_CAP_ST_busy [] d then captureFails d
  else
    let d := wr INK_CAP_ST_done [] 0 (wr INK_CAP_ST_err [] 0 (wr INK_CAP_ST_busy [] 1 d))
    let which := if picture = 3 then 0 else picture
    let ok := surfValid surf d && captureChannelOk d && (which == 0 || rdB INK_SURF_proxies [surf] d)
    if !ok then captureAbort d
    else { d with ink := { d.ink with cap := some { surf := surf, picture := which, since := (surfOf surf d).count } } }

/-- A 16-bit little-endian word. -/
def le16 (x : Nat) : List Nat := [x % 256, x / 256 % 256]

/-- The samples of one line in the order of R308. -/
def lineSamples (sampling : Nat) (row : List Px) : List Nat :=
  if sampling = 0 then
    ((List.range row.length).zip row).flatMap (fun p => if p.1 % 2 = 0 then [p.2.b, p.2.a] else [(pxAt row (p.1 - 1)).c, p.2.a])
  else if sampling = 2 then row.flatMap (fun p => [p.a, p.b, p.c])
  else row.flatMap (fun p => [p.b, p.a, p.c])

/-- Write bytes from an offset of the capture surface on. -/
def writeCapture (off : Nat) (bytes : List Nat) (d : Dev) : Dev :=
  forEach ((List.range bytes.length).zip bytes) (fun p d =>
    { d with ink := { d.ink with bytes := tabSet 0 d.ink.bytes (captureByte (off + p.1)) p.2 } }) d

/-- The capture engine finishes decoding the buffer it took. -/
def captureDone (d : Dev) : Dev :=
  match d.ink.cap with
  | some c =>
    match c.frame with
    | some fr =>
      let f := fmtOf (surfOf c.surf d).fmt d
      let rows := framePicture f c.picture fr
      let lines := rows.map (fun r => (lineSamples f.sampling r).flatMap le16)
      let pitch := ceilDiv ((lines.headD []).length) 64
      if 268435456 < pitch * 64 * lines.length then captureAbort d
      else
        let d := forEach ((List.range lines.length).zip lines) (fun p d => writeCapture (p.1 * pitch * 64) p.2 d) d
        let d := { d with ink := { d.ink with cap := none } }
        wr INK_CAP_ST_busy [] 0 (wr INK_CAP_ST_done [] 1 (wr INK_CAP_ST_pitch_64 [] pitch d))
    | none => d
  | none => d

/-! ### Placing and releasing (R286, R292) -/

/-- A surface is placed: kind, owner, format entry, family, channel, bank group, depth, proxies, class, the destination slot that writes it,
and the nib from which writing may begin. -/
def placeSurf (s kind owner fmt fam ch bank depth : Nat) (proxies kHalf ring : Bool) (slot since : Nat) (d : Dev) : Dev :=
  let f := fmtOf fmt d
  let size := if kind = 3 then 268435456 else if kind = 2 then 2 * overlaySize owner d else surfaceBytes f depth proxies ring
  let d := setSurf s { kind := kind, owner := owner, fmt := fmt, fam := fam, since := since } d
  let d := wr INK_SURF_valid [s] 1 (wr INK_SURF_kind [s] kind (wr INK_SURF_ch [s] ch (wr INK_SURF_bank [s] bank (wr INK_SURF_depth [s] depth d))))
  let d := wrB INK_SURF_proxies [s] proxies (wrB INK_SURF_k_half [s] kHalf (wr INK_SURF_sampling [s] (samplingRow f) (wr INK_SURF_src_slot [s] slot d)))
  let d := wr INK_SURF_width [s] f.activeSamples (wr INK_SURF_height [s] f.activeLines (wr INK_SURF_size_64k [s] (ceilDiv size 65536) d))
  wr INK_SURF_wr_buf [s] 0 (wr INK_SURF_last_buf [s] 0 (wr INK_SURF_writing [s] 0 (wr INK_SURF_lines_written [s] 0 (wr INK_SURF_frame [s] 0 d))))

/-- The fields of INK_SURF and INK_SYNC. -/
def surfFields : List Fld :=
  [INK_SURF_valid, INK_SURF_kind, INK_SURF_ch, INK_SURF_bank, INK_SURF_depth, INK_SURF_proxies, INK_SURF_k_half, INK_SURF_sampling,
   INK_SURF_src_slot, INK_SURF_width, INK_SURF_height, INK_SURF_wr_buf, INK_SURF_last_buf, INK_SURF_writing, INK_SURF_lines_written,
   INK_SURF_size_64k, INK_SURF_frame]
def syncFields : List Fld :=
  [INK_SYNC_valid, INK_SYNC_delay_line, INK_SYNC_n_frames, INK_SYNC_audio, INK_SYNC_surf, INK_SYNC_dv, INK_SYNC_drops, INK_SYNC_repeats,
   INK_SYNC_slips, INK_SYNC_av_offset]

/-- A surface is released; a capture that waits for it fails (R308). -/
def freeSurf (s : Nat) (d : Dev) : Dev :=
  let d := forEach surfFields (fun f d => wr f [s] 0 d) { d with ink := { d.ink with surfs := tabDel d.ink.surfs s } }
  match d.ink.cap with
  | some c => if c.surf = s ∧ c.frame.isNone then captureAbort d else d
  | none => d

/-- A read side is placed at a source slot. Audio that needs more than its ring is absent (R301). -/
def placeSync (n : Nat) (r : SyncRun) (channels : Nat) (d : Dev) : Dev :=
  let p := famPeriod r.fam d
  let ps := sourcePeriod r.src d
  let ts := samplePeriod (sourceRateIx r.src d)
  let fits := decide (2 * ceilDiv (syncG p ps + ps / 2) ts + 64 ≤ 16384)
  let audio := fits && decide (channels ≠ 0) && r.delay == 0
  let d := setSyncRun n { r with audio := audio } d
  let d := if r.head then d
    else wr INK_SYNC_valid [n] 1 (wrB INK_SYNC_delay_line [n] (r.delay != 0) (wr INK_SYNC_n_frames [n] r.delay (wr INK_SYNC_surf [n] r.surf
      (wrB INK_SYNC_audio [n] audio d))))
  if !fits && decide (channels ≠ 0) && r.delay == 0 then fire 166 (wr INK_STATUS_audio_absent [] 1 d) else d

/-- A read side is released. -/
def freeSync (n : Nat) (d : Dev) : Dev :=
  forEach syncFields (fun f d => wr f [n] 0 d) { d with ink := { d.ink with syncs := tabDel d.ink.syncs n } }

/-- The channel of some surfaces fails: writes stop, completed buffers stay readable (R333); a busy capture ends (R334). -/
def failSurfaces (ch : Nat) (d : Dev) : Dev :=
  let hit := (d.ink.surfs.filter (fun p => rd INK_SURF_ch [p.1] d == ch)).map (·.1)
  let d := forEach hit (fun s d => stopWrite s (setSurf s { surfOf s d with failed := true } d)) d
  let capBusy := d.ink.cap.isSome && (hit.any (fun s => (surfOf s d).kind == 3) || (match d.ink.cap with | some c => hit.contains c.surf | none => false))
  if capBusy then captureAbort d else d

end Sys2Proof.Machine
end

