-- ==== Sys2Proof/Machine/Mailbox.lean ====
section
/-! DEFINITION. The take mailbox: doorbells, header and records, the checks of a posted salvo before placement, results (R113 to R120). -/

namespace Sys2Proof.Machine

/-! ### Reading a bank (R114, R115) -/

/-- The salvo a bank holds: its header, and as many records as its count names. -/
def bankSalvo (b : Nat) (d : Dev) : Salvo :=
  let hdr := (List.range 8).map (fun w => rd XPT_MBX_HDR_word [b, w] d)
  let n := min 4096 (hdr.getD 0 0 % 8192)
  { hdr := hdr, recs := (List.range n).map (fun r =>
      ⟨rd XPT_MBX_REC_word [b, r, 0] d, rd XPT_MBX_REC_word [b, r, 1] d, rd XPT_MBX_REC_word [b, r, 2] d, rd XPT_MBX_REC_word [b, r, 3] d⟩) }

def salvoCount (s : Salvo) : Nat := s.hdr.getD 0 0 % 8192
def salvoMode (s : Salvo) : Nat := bitsOf (s.hdr.getD 0 0) 17 16
def salvoStrict (s : Salvo) : Bool := Nat.testBit (s.hdr.getD 0 0) 20
def salvoTag (s : Salvo) : Nat := s.hdr.getD 1 0

/-- The 128-bit timing field. -/
def salvoTiming (s : Salvo) : Nat :=
  s.hdr.getD 2 0 + s.hdr.getD 3 0 * 2 ^ 32 + s.hdr.getD 4 0 * 2 ^ 64 + s.hdr.getD 5 0 * 2 ^ 96

/-- Reserved bits of the header are zero (R114, R118). -/
def hdrClean (s : Salvo) : Bool :=
  let w := s.hdr.getD 0 0
  bitsOf w 15 13 == 0 && bitsOf w 19 18 == 0 && bitsOf w 31 21 == 0 && s.hdr.getD 6 0 == 0 && s.hdr.getD 7 0 == 0

/-- A record's fields by name. -/
def recOf (r : RecWords) : Rec :=
  { seq := r.w0, type := r.w1 % 16, dst := r.w2 % 65536, src := r.w2 / 65536, dstCh := bitsOf r.w1 13 8, srcCh := bitsOf r.w1 23 16,
    policy := r.w3 % 4, secondary := bitsOf r.w3 5 4, revert := bitsOf r.w3 8 8, revertFrames := bitsOf r.w3 27 16,
    fmt := r.w3 % 256, fam := bitsOf r.w3 15 12 }

/-- The fields a record's type does not use are zero, and those it uses lie in their ranges (R115). -/
def recClean (r : RecWords) : Bool :=
  let x := recOf r
  if x.type = 0 then r.w1 / 16 == 0 && r.w3 == 0
  else if x.type = 1 then
    r.w1 / 16 == 0 && decide (x.secondary ≠ 3) && decide (1 ≤ x.revertFrames) && bitsOf r.w3 3 2 == 0 && bitsOf r.w3 7 6 == 0
      && bitsOf r.w3 15 9 == 0 && bitsOf r.w3 31 28 == 0
  else if x.type = 2 then
    bitsOf r.w1 7 4 == 0 && bitsOf r.w1 15 14 == 0 && bitsOf r.w1 31 24 == 0 && r.w3 == 0 && (decide (x.srcCh < 64) || x.srcCh == 255)
  else if x.type = 3 then r.w1 / 16 == 0 && bitsOf r.w3 11 8 == 0 && bitsOf r.w3 31 16 == 0
  else false

/-- The numbers a record's type uses are defined by the Pattern, and its destination is local outside a fabric (R107, R118). -/
def recDefined (x : Rec) (d : Dev) : Bool :=
  (match dstDesc x.dst d with
   | some t => roleOf d != 0 || t.member == selfMember d
   | none => false) &&
  (if x.type = 0 ∨ x.type = 1 then x.src == 65535 || (srcDesc x.src d).isSome
   else if x.type = 2 then x.srcCh == 255 || (srcDesc x.src d).isSome
   else (fmtDef x.fmt d).isSome && decide (famPeriod x.fam d ≠ 0))

/-- The requested instant Lr in nib, or none where the timing is malformed (R6, R41, R83). -/
def requestedAt (s : Salvo) (p : Nat) (d : Dev) : Option Nat :=
  let t : Option Nat :=
    if salvoMode s = 0 then some (nibOf p)
    else if salvoMode s = 1 then (if s.hdr.getD 5 0 ≠ 0 then none else coordWordNib (salvoTiming s % 2 ^ 96) d)
    else if salvoMode s = 2 then (ntwOfWord (salvoTiming s)).map nibOf
    else none
  match t with
  | some x => if nibOf p + 86400 * Config.nibsPerSec < x then none else some x
  | none => none

/-- a is later than b in 32-bit serial arithmetic (R117). -/
def serialLater (a b : Nat) : Bool :=
  let x := ((a : Int) - b) % 2 ^ 32
  decide (1 ≤ x ∧ x ≤ 2 ^ 31 - 1)

/-- The index of the first element that fails a test. -/
def firstFailing {α : Type} (ok : α → Bool) (xs : List α) (i : Nat) : Option Nat :=
  match xs with
  | [] => none
  | x :: rest => if ok x then firstFailing ok rest (i + 1) else some i

/-- The index of the first record whose sequence number is not later than the one before it (R117). -/
def firstUnordered (xs : List Rec) (prev : Option Nat) (i : Nat) : Option Nat :=
  match xs with
  | [] => none
  | x :: rest => if prev.all (fun p => serialLater x.seq p) then firstUnordered rest (some x.seq) (i + 1) else some i

/-- A source's stream kind suits a destination's kind (R109). -/
def kindSuits (dst stream : Nat) : Bool :=
  if dst = 1 ∨ dst = 2 ∨ dst = 3 then stream == 0
  else if dst = 5 then stream == 0 || stream == 1
  else if dst = 4 ∨ dst = 7 then stream == 3 || stream == 0
  else stream == 2

/-- A TAKE, or the protect source of a POLICY, joins kinds that R109 allows; a stream above 50 Gbit/s cannot be taken (R105). -/
def recKindOk (x : Rec) (d : Dev) : Bool :=
  if (x.type = 0 ∨ x.type = 1) ∧ x.src ≠ 65535 then
    match srcDesc x.src d, dstDesc x.dst d with
    | some s, some t => kindSuits t.kind s.stream && decide (slotsFor (sourceRate s d) ≠ 0)
    | _, _ => false
  else true

/-- The checks 1 to 3 of R118: the code and first_bad of the first failure. -/
def checkSalvo (s : Salvo) (p : Nat) (d : Dev) : Option (Nat × Nat) :=
  let recs := s.recs.map recOf
  if salvoCount s < 1 ∨ 4096 < salvoCount s ∨ !hdrClean s ∨ requestedAt s p d = none then some (2, 0x1FFF)
  else
    match firstFailing (fun r => recClean r && recDefined (recOf r) d) s.recs 0 with
    | some i => some (2, i)
    | none =>
      match firstUnordered recs (if d.xpt.accepted then some (rd XPT_SEQ_seq [] d) else none) 0 with
      | some i => some (3, i)
      | none => (firstFailing (fun x => recKindOk x d) recs 0).map (fun i => (6, i))

/-! ### Results (R119, R120, R143) -/

/-- The whole of a bank's result register. -/
def mbxRes (b : Nat) (d : Dev) : List Nat :=
  [rd XPT_MBX_RES_state [b] d, rd XPT_MBX_RES_code [b] d, rd XPT_MBX_RES_late [b] d, rd XPT_MBX_RES_deferred [b] d,
   rd XPT_MBX_RES_switched [b] d, rd XPT_MBX_RES_first_bad [b] d]

/-- Change a bank's result; a change of any field raises the take-result vector (R120). -/
def withRes (b : Nat) (f : Dev → Dev) (d : Dev) : Dev :=
  let d' := f d
  if mbxRes b d' = mbxRes b d then d' else raiseIrq 0 d'

/-- Give a bank its result. -/
def setRes (b code firstBad : Nat) (late deferred : Bool) (d : Dev) : Dev :=
  withRes b (fun d => wr XPT_MBX_RES_state [b] 2 (wr XPT_MBX_RES_code [b] code (wrB XPT_MBX_RES_late [b] late (wrB XPT_MBX_RES_deferred [b] deferred
    (wr XPT_MBX_RES_switched [b] 0 (wr XPT_MBX_RES_first_bad [b] firstBad d)))))) d

/-- A salvo is reported NOT_EXECUTED in its bank (R120). -/
def notExecuted (b tag : Nat) (d : Dev) : Dev :=
  let d := withRes b (fun d => wr XPT_MBX_RES_state [b] 2 (wr XPT_MBX_RES_code [b] 1 d)) d
  fire 65 (wr XPT_STATUS_not_exec [] 1 (count XPT_NX_CNT_count [] 1 (wr XPT_NX_tag [] tag d)))

/-! ### Doorbell and writes (R113, R468) -/

/-- The boot has reached the end of step 3 of R466: the mailbox accepts doorbells. -/
def mailboxOpen (d : Dev) : Bool :=
  let p := rd TOP_BOOT_ST_phase [] d
  decide (3 ≤ p ∧ p ≤ 6) || p == 10

/-- A bank is POSTED. -/
def bankPosted (b : Nat) (d : Dev) : Bool := rd XPT_MBX_RES_state [b] d == 1

/-- Ring one bank (R113, R120). -/
def ringBank (b : Nat) (d : Dev) : Dev :=
  if bankPosted b d then fire 69 (wr XPT_STATUS_ring_err [] 1 d)
  else
    let d := withRes b (fun d => wr XPT_MBX_RES_state [b] 1 (wr XPT_MBX_RES_code [b] 0 (wr XPT_MBX_RES_late [b] 0 (wr XPT_MBX_RES_deferred [b] 0
      (wr XPT_MBX_RES_switched [b] 0 (wr XPT_MBX_RES_first_bad [b] 0 d)))))) d
    let d := { d with xpt := { d.xpt with tails := d.xpt.tails.filter (fun t => t.bank != b) } }
    let s := bankSalvo b d
    if inSafe d then notExecuted b (salvoTag s) d
    else { d with xpt := { d.xpt with posted := d.xpt.posted ++ [{ member := selfMember d, bank := b, at_ := d.ntw, salvo := s }] } }

/-- A write to XPT_DOORBELL (R113, R468). -/
def doorbell (ring0 ring1 : Bool) (d : Dev) : Dev :=
  if !mailboxOpen d then d
  else
    let d := if ring0 then ringBank 0 d else d
    if ring1 then ringBank 1 d else d

/-- A write to a word of a bank's header (`rec` none) or of one of its records (R113, R468). -/
def mailboxWrite (b : Nat) (rec : Option Nat) (word value : Nat) (d : Dev) : Dev :=
  if bankPosted b d then fire 69 (wr XPT_STATUS_wr_busy [] 1 d)
  else
    match rec with
    | some r => wr XPT_MBX_REC_word [b, r, word] value d
    | none => wr XPT_MBX_HDR_word [b, word] value d

/-- A record of a launched salvo of a local bank has taken effect; with the last one, switched is set (R143). -/
def recordDone (p : Rec → Bool) (d : Dev) : Dev :=
  let tails := d.xpt.tails.map (fun t => { t with recs := t.recs.filter (fun r => !p r.2) })
  let ended := (tails.filter (fun t => t.recs.isEmpty)).map (·.bank)
  let d := { d with xpt := { d.xpt with tails := tails.filter (fun t => !t.recs.isEmpty) } }
  forEach ended (fun b d => withRes b (wr XPT_MBX_RES_switched [b] 1) d) d

end Sys2Proof.Machine
end

