-- ==== Sys2Proof/Machine/Crosspoint.lean ====
section
/-! DEFINITION. The stitch table and what outputs carry: launches, switch points, loss policies, protection, safe policies (R79 to R91, R110 to
R136, R451). -/

namespace Sys2Proof.Machine

/-! ### The take queue (R82, R87, R102) -/

/-- Show the queue's occupancy and the next launch instant. -/
def showQueue (d : Dev) : Dev :=
  let used := (d.xpt.queue.map (fun q => q.recs.length)).sum
  let d := wr DUC_QUEUE_used [] used d
  let d := if rd DUC_QUEUE_high_water [] d < used then wr DUC_QUEUE_high_water [] used d else d
  wr DUC_NEXT_L_ntw [] ((d.xpt.queue.head?.map (fun q => ntwWord (unitsOfNib q.launch))).getD 0) d

/-- A route-memory item's event has come (R478). -/
def recordRoute (kind : Nat) (data : List Nat) (d : Dev) : Dev :=
  { d with journal := d.journal ++ [{ kind := kind, data := data, at_ := d.devTime }] }

/-! ### Showing a placement (R110, R143, R170, R172) -/

/-- Write or clear the stitch-table entries of a destination's slots. -/
def wrStitch (i : Nat) (p : DstPlace) (valid : Bool) (d : Dev) : Dev :=
  if !p.slotted then d
  else
    forUpTo p.gang (fun j d =>
      let n := p.slot + j
      wr XPT_STITCH_src_slot [n] (if valid then p.primary.slot + j else 0) (wrB XPT_STITCH_valid [n] valid
        (wr XPT_STITCH_gang [n] (gangCode p.gang) (wrB XPT_STITCH_member [n] (decide (j ≠ 0)) (wr XPT_STITCH_dst [n] i d))))) d

/-- Clear the stitch-table entries of slots a destination leaves. -/
def clearStitch (p : DstPlace) (d : Dev) : Dev :=
  if !p.slotted then d
  else
    forUpTo p.gang (fun j d =>
      let n := p.slot + j
      wr XPT_STITCH_src_slot [n] 0 (wr XPT_STITCH_valid [n] 0 (wr XPT_STITCH_gang [n] 0 (wr XPT_STITCH_member [n] 0 (wr XPT_STITCH_dst [n] 0 d))))) d

/-- The Ductus applies what the Tailor placed for local destination i: its map entry, its slots and its stitch. -/
def applyPlace (i : Nat) (p : DstPlace) (d : Dev) : Dev :=
  let old := dstPlace i d
  let d := if old.slotted && !(p.slotted && p.slot == old.slot && p.gang == old.gang) then clearStitch old d else d
  let d := { d with xpt := { d.xpt with places := tabSet {} d.xpt.places i p } }
  let d := wrStitch i p (p.primary.placed || (p.unplaced && p.primary.src != 65535)) d
  let d := wr XPT_DST_ST_slot [i] (if p.slotted then p.slot else 0) (wr XPT_DST_ST_gang [i] (gangCode p.gang) d)
  let d := wrB XPT_DST_ST_sync [i] (p.primary.kind == 1) (wrB XPT_DST_ST_conv [i] (p.primary.kind == 2) d)
  let d := wrB TLR_DST_MAP_sync [i] (p.primary.kind == 1) (wrB TLR_DST_MAP_conv [i] (p.primary.kind == 2) d)
  let d := wr TLR_DST_MAP_conv_head [i] p.primary.head (wr TLR_DST_MAP_spine [i] (p.primary.spine - 1) d)
  let d := wrB TLR_DST_MAP_spine_valid [i] (p.primary.spine != 0) (wrB TLR_DST_MAP_unplaced [i] p.unplaced d)
  let d := wrB TLR_DST_MAP_pinned_miss [i] p.pinMissed (wr TLR_DST_MAP_ink_ch [i] p.primary.inkCh d)
  let d := wr TLR_DST_MAP_ink_bank [i] p.primary.inkBank (wr TLR_DST_MAP_hold_ch [i] p.holdCh d)
  let d := wrB TLR_DST_MAP_hold_valid [i] (p.holdSurf != 0) (wr TLR_DST_MAP_tx_count [i] p.txEntries.length d)
  wr TLR_DST_MAP_tx_entry [i] (p.txEntries.headD 0) (wr TLR_DST_MAP_rx_entry [i] p.primary.rxEntry (wr TLR_DST_MAP_epoch [i] p.epoch d))

/-! ### Launch (R82, R88, R90, R116) -/

/-- The local index of a destination number. -/
def localIndex (num : Nat) (d : Dev) : Option Nat := ((localDsts d).find? (fun x => x.num == num)).map (·.index)

/-- The words of a record (R115). -/
def recWords (x : Rec) : List Nat :=
  [x.seq, x.type + 256 * x.dstCh + 65536 * x.srcCh, x.dst + 65536 * x.src,
    if x.type = 1 then x.policy + 16 * x.secondary + 256 * x.revert + 65536 * x.revertFrames else if x.type = 3 then x.fmt + 4096 * x.fam else 0]

/-- What a record leaves with the destination it names (R116). -/
def putRecord (x : Rec) (d : Dev) : Dev :=
  match localIndex x.dst d with
  | none => d
  | some i =>
    let r := dstRun i d
    if x.type = 0 then
      let same := rd XPT_DST_SRC_src [i] d == x.src
      let d := wr XPT_DST_ST_on_protect [i] 0 (wr XPT_DST_SRC_src [i] x.src d)
      if same then d else setDstRun i { r with presence := 0, primarySince := false, declared := false } d
    else if x.type = 1 then setDstRun i { r with policy := some [x.policy, x.secondary, x.revert, x.revertFrames, x.src] } d
    else if x.type = 2 then
      { d with xpt := { d.xpt with chmap := tabSet 0 d.xpt.chmap (64 * i + x.dstCh) (if x.srcCh = 255 then 0 else 64 * x.src + x.srcCh + 1) } }
    else setDstRun i { r with format := some (x.fam, x.fmt) } d

/-- Apply one record at L (R116). -/
def applyRecord (x : Rec) (d : Dev) : Dev := putRecord x (recordRoute 0 (recWords x) (wr DUC_LAST_SEQ_seq [] x.seq d))

/-- Launch one queued salvo. -/
def launchOne (q : QSalvo) (d : Dev) : Dev :=
  let d := forEach q.recs applyRecord d
  let d := forEach q.places (fun p d => applyPlace p.1 p.2 d) d
  let own := q.member == selfMember d && rd XPT_MBX_RES_state [q.bank] d == 2
  if own then
    { d with xpt := { d.xpt with tails := d.xpt.tails ++ [{ bank := q.bank, tag := q.tag, recs := (List.range q.recs.length).zip q.recs }] } }
  else d

/-- At L: every salvo whose launch instant has come, in ascending sequence (R82, R86). -/
def launch (d : Dev) : Dev :=
  match d.xpt.queue with
  | [] => d
  | q :: _ =>
    let d := advanceTo (unitsOfNib q.launch) d
    let now := max q.launch (nibOf d.ntw)
    let due := d.xpt.queue.filter (fun x => decide (x.launch ≤ now))
    let d := { d with xpt := { d.xpt with queue := d.xpt.queue.filter (fun x => decide (now < x.launch)) } }
    showQueue (forEach due launchOne d)

/-! ### Switch points (R79, R80, R112) -/

/-- Where a destination's switch point lies in its family's frame, in nib; none for an SDI output of a format without one. -/
def switchOffset (i kind : Nat) (d : Dev) : Option Nat :=
  if kind = 1 then (switchLine (dstFmt i d)).map (fun n => (n - 1) * linePeriod (dstFmt i d) (famPeriod (dstFam i d) d)) else some 0

/-- The first switch point of a destination of family period p and offset off at or after an instant in nib. -/
def switchFrom (p off t : Nat) : Nat := if p = 0 then t else ceilDiv (t - off) p * p + off

/-- What a destination's output fills with under a policy (R132, R133). -/
def fillOf (i kind policy : Nat) (d : Dev) : Carry :=
  if kind = 1 ∨ kind = 2 ∨ kind = 3 then
    if policy = 1 then .black
    else if policy = 2 then (if rdB XPT_DST_ST_hold_ready [i] d then .hold else .black)
    else .idle
  else .idle

/-- The safe policy of an SDI output (R451); every other kind carries nothing on the wire. -/
def safeFill (i kind : Nat) (d : Dev) : Carry :=
  if kind = 1 then (if rdBit BLT_DST_SAFE_hold [i / 32] (i % 32) d && rdB XPT_DST_ST_hold_ready [i] d then .hold else .black) else .idle

/-- Whether a path can carry the output now: 0 its source is lost or it is not placed, 1 it waits for a surface (R157), 2 it can. -/
def pathState (i : Nat) (p : Path) (d : Dev) : Nat :=
  let inside := match dstAt i d with | some x => pathInWindow x p d | none => true
  if p.src = 65535 ∨ !p.placed then 0
  else if insertedKind p.kind && pathStarted p d then (if rdB XPT_SSL_ST_lost [p.slot] d then 0 else 2)
  else if !srcPresent p.src d ∨ !inside then 0
  else if pathReady i p d then 2 else 1

/-- What an output comes to carry at a switch point, and its state flags after it. -/
structure Choice where
  carry : Carry
  onProtect : Bool := false
  bothLost : Bool := false
  lost : Bool := false

/-- The choice of R112, R122 and R132 to R136 for local destination i of a kind. -/
def chooseCarry (i kind : Nat) (d : Dev) : Choice :=
  let pl := dstPlace i d
  let src := rd XPT_DST_SRC_src [i] d
  let policy := rd XPT_DST_POLICY_policy [i] d
  let second := rd XPT_DST_POLICY_secondary [i] d
  let run := dstRun i d
  let prim := if src = 65535 then 0 else pathState i { pl.primary with src := src } d
  let prot := if policy = 3 then pathState i pl.protect d else 0
  let old := run.carry
  let keeps : Bool := match old with | .src o => srcPresent o d && o != src | _ => true
  if src = 65535 then { carry := fillOf i kind (if policy = 3 then second else policy) d, lost := false }
  else if rdB XPT_DST_ST_on_protect [i] d && policy == 3 then
    if prot = 2 then
      if rd XPT_DST_POLICY_revert [i] d = 1 ∧ prim = 2 ∧ rd XPT_DST_POLICY_revert_frames [i] d ≤ run.presence then { carry := .src src }
      else { carry := .src pl.protect.src, onProtect := true }
    else if prim = 2 then { carry := .src src }
    else { carry := fillOf i kind second d, bothLost := true, lost := true }
  else if prim = 2 then
    if rdB XPT_DST_ST_both_lost [i] d && prot == 2 && decide ((srcRun pl.protect.src d).since < (srcRun src d).since) then
      { carry := .src pl.protect.src, onProtect := true }
    else { carry := .src src }
  else if prim = 1 ∧ keeps then { carry := old, lost := rdB XPT_DST_ST_lost [i] d }
  else if policy = 3 then
    if prot = 2 then { carry := .src pl.protect.src, onProtect := true }
    else { carry := fillOf i kind second d, bothLost := true, lost := true }
  else { carry := fillOf i kind policy d, lost := true }

/-- An output comes to carry something at an instant in nib: a change to another source, from a source to a fill or back counts (R143). -/
def setCarry (i at_ : Nat) (c : Carry) (d : Dev) : Dev :=
  let r := dstRun i d
  let isSrc : Carry → Bool := fun c => match c with | .src _ => true | _ => false
  let d := if r.carry ≠ c ∧ (isSrc r.carry || isSrc c) then count XPT_DST_CNT_switches [i] 1 d else d
  let same := decide (r.carry = c)
  let path := pathInUse i d
  let grp : Nat := match c with | .src n => (if insertedPath i d && (path.kind != 3) then syncGroup path.slot else n) + 1 | _ => 0
  setDstRun i { r with carry := c, fill := none, cleanSince := r.cleanSince && same, group := grp, audioAt := some at_ } d

/-- An output comes to carry its safe policy: the stitch is frozen, so its audio stays with the source it follows, muted by that source's
producer (R450 to R452). -/
def setSafeCarry (i at_ : Nat) (c : Carry) (d : Dev) : Dev :=
  let r := dstRun i d
  let d := setCarry i at_ c d
  setDstRun i { dstRun i d with group := r.group, audioAt := r.audioAt } d

/-- Apply a POLICY record at its switch point (R116, R136). -/
def applyPolicy (i : Nat) (d : Dev) : Dev :=
  let r := dstRun i d
  match r.policy with
  | some [p, s, rv, rf, pr] =>
    let d := wr XPT_DST_POLICY_policy [i] p (wr XPT_DST_POLICY_secondary [i] s (wr XPT_DST_POLICY_revert [i] rv
      (wr XPT_DST_POLICY_revert_frames [i] rf (wr XPT_DST_SRC_prot [i] pr d))))
    let d := if p = 3 then d else wr XPT_DST_ST_on_protect [i] 0 d
    setDstRun i { r with policy := none } d
  | _ => d

/-- Apply a FORMAT record at its switch point (R116). -/
def applyFormat (i : Nat) (d : Dev) : Dev :=
  let r := dstRun i d
  match r.format with
  | some (fam, fmt) => setDstRun i { r with format := none } (wr XPT_DST_FMT_fmt [i] fmt (wr XPT_DST_FMT_fam [i] fam d))
  | none => d

/-- Evaluate local destination i at its switch point, outside safe state (R21 steps 4 and 5, R112, R132 to R136). -/
def evalOutput (i kind num : Nat) (d : Dev) : Dev :=
  let d := applyFormat i (applyPolicy i d)
  let wasProt := rdB XPT_DST_ST_on_protect [i] d
  let wasBoth := rdB XPT_DST_ST_both_lost [i] d
  let c := chooseCarry i kind d
  let d := if c.lost || c.onProtect then declareDst i d else d
  let d := wrB XPT_DST_ST_on_protect [i] c.onProtect (wrB XPT_DST_ST_both_lost [i] c.bothLost (wrB XPT_DST_ST_lost [i] c.lost d))
  let d := if c.onProtect && !wasProt then fire 67 d else d
  let d := if c.bothLost && !wasBoth then fire 68 d else d
  let d := setCarry i (nibOf (tabGet 0 d.lastAt (keyDst i))) c.carry d
  let r := dstRun i d
  let d := setDstRun i { r with started := true, declared := r.declared && (c.lost || c.onProtect) } d
  let src := rd XPT_DST_SRC_src [i] d
  let waits := decide (pathState i { (dstPlace i d).primary with src := src } d = 1)
  recordDone (fun x => x.dst == num && (x.type == 1 || x.type == 3 || (x.type == 0 && !waits))) d

/-- A switch point of local destination i: outside safe state its output follows the stitch table; in safe state it takes its safe policy
and a loss is only recorded (R450, R451). -/
def switchPoint (i : Nat) (d : Dev) : Dev :=
  match dstAt i d with
  | none => d
  | some t =>
    let fam := dstFam i d
    match switchOffset i t.kind d with
    | none => d
    | some off =>
      if !famRunning fam d then d
      else
        let d := atGrid (famPeriod fam d) off (keyDst i) d
        if inSafe d then
          let src := rd XPT_DST_SRC_src [i] d
          let d := if src ≠ 65535 ∧ !srcPresent src d then declareDst i d else d
          setSafeCarry i (nibOf (tabGet 0 d.lastAt (keyDst i))) (safeFill i t.kind d) d
        else evalOutput i t.kind t.num d

/-! ### The family's frames (R133, R136, R475) -/

/-- At a frame boundary of its family: a frame emitted complete, without loss and from a source, becomes the hold frame (R133), and a frame
through which the primary was present counts for the return (R136). -/
def dstFrame (i : Nat) (d : Dev) : Dev :=
  let r := dstRun i d
  let (d, held) := writeHold i r.cleanSince d
  let d := if held then wr XPT_DST_ST_hold_ready [i] 1 d else d
  let d := if (surfOf ((dstPlace i d).holdSurf - 1) d).failed && decide ((dstPlace i d).holdSurf ≠ 0) then wr XPT_DST_ST_hold_ready [i] 0 d else d
  let src := rd XPT_DST_SRC_src [i] d
  let present := decide (src ≠ 65535) && srcPresent src d
  let carries : Bool := match r.carry with | .src n => srcPresent n d | _ => false
  setDstRun i { r with
    presence := if r.primarySince && present then min 4095 (r.presence + 1) else 0
    primarySince := present
    cleanSince := carries && !inSafe d } d

/-- A family starts: until its first switch point each of its destinations acts as one without a source (R475). -/
def dstStart (x : DstDesc) (d : Dev) : Dev :=
  let i := x.index
  let policy := rd XPT_DST_POLICY_policy [i] d
  setCarry i (nibOf d.ntw) (fillOf i x.kind (if policy = 3 then rd XPT_DST_POLICY_secondary [i] d else policy) d) (setDstRun i { dstRun i d with started := false } d)

/-- A family stops: its destinations send nothing (R475). -/
def dstStop (x : DstDesc) (d : Dev) : Dev := setCarry x.index (nibOf d.ntw) .idle d

/-- The local destinations of a family. -/
def famDsts (n : Nat) (d : Dev) : List DstDesc := (localDsts d).filter (fun x => dstFam x.index d == n)

end Sys2Proof.Machine
end

