-- ==== Sys2Proof/Machine/Lanes.lean ====
section
/-! DEFINITION. Serial lanes: octets, synthesisers, acquisition, training, eye scans, clock events (07_lanes.md). -/

namespace Sys2Proof.Machine

def laneRun (l : Nat) (d : Dev) : LaneRun := tabGet {} d.lns.lanes l
def setLaneRun (l : Nat) (r : LaneRun) (d : Dev) : Dev := { d with lns := { d.lns with lanes := tabSet {} d.lns.lanes l r } }

def rxMode (l : Nat) (d : Dev) : Nat := rd LNS_MODE_rx_mode [l] d
def txMode (l : Nat) (d : Dev) : Nat := rd LNS_MODE_tx_mode [l] d

/-- An Ethernet mode of R174. -/
def isEthMode (m : Nat) : Bool := m == 2 || m == 3 || m == 4

/-! ### Synthesisers (R176) -/

/-- Synthesiser s of octet o: 0 q0a, 1 q0b, 2 q1a, 3 q1b. -/
def synthSource (o s : Nat) (d : Dev) : Nat :=
  if s = 0 then rd LNS_OCT_SYNTH_q0a [o] d else if s = 1 then rd LNS_OCT_SYNTH_q0b [o] d
  else if s = 2 then rd LNS_OCT_SYNTH_q1a [o] d else rd LNS_OCT_SYNTH_q1b [o] d

def synthLockFld (s : Nat) : Fld :=
  if s = 0 then LNS_OCT_STATUS_q0a_lock else if s = 1 then LNS_OCT_STATUS_q0b_lock
  else if s = 2 then LNS_OCT_STATUS_q1a_lock else LNS_OCT_STATUS_q1b_lock

def synthLocked (o s : Nat) (d : Dev) : Bool := rdB (synthLockFld s) [o] d

/-- A format's frame rate is a /1.001 rate (R176): the alignment rule of its period is 1,001 (R36). -/
def isDiv1001 (period : Nat) : Bool := period / Nat.gcd period Config.nibsPerSec == 1001

/-- The synthesiser source an SDI format needs (R176): SDI-SD always SDI. -/
def formatSource (f : Fmt) (period : Nat) : Nat :=
  if structureOf f = 1 ∨ structureOf f = 2 then 3 else if isDiv1001 period then 4 else 3

/-- The local SDI destination that sends on a lane. -/
def laneDst (l : Nat) (d : Dev) : Option DstDesc := (localDsts d).find? (fun x => x.kind == 1 && x.lanes.contains l)

/-- The links the Pattern gives this member (R415). -/
def ownLinks (d : Dev) : List FabLink := ((d.pat.members.find? (fun m => m.num == selfMember d)).map (·.links)).getD []

/-- Bundle lane i of Seam link n, as a lane number (R416). -/
def linkLane (n i : Nat) (d : Dev) : Nat := 8 * rd SEA_LINK_CFG_octet [n] d + bitsOf (rd SEA_LINK_LANEMAP_map [n] d) (3 * i + 2) (3 * i)

/-- How many lanes Seam link n has. -/
def linkWidth (n : Nat) (d : Dev) : Nat := rd SEA_LINK_CFG_lanes [n] d + 1

/-- The link and bundle lane a lane belongs to, of the links the Pattern gives this member. -/
def laneLink (l : Nat) (d : Dev) : Option (Nat × Nat) :=
  (ownLinks d).findSome? (fun k => ((List.range (linkWidth k.link d)).find? (fun i => linkLane k.link i d == l)).map (fun i => (k.link, i)))

/-- The lane mode and lane count of a port speed and width (R179); none for a pair the table lacks. -/
def portMode (speed lanes : Nat) : Option (Nat × Nat) :=
  if speed = 0 ∧ lanes = 0 then some (2, 1)
  else if speed = 1 ∧ lanes = 0 then some (3, 1)
  else if speed = 2 ∧ lanes = 1 then some (3, 2)
  else if speed = 2 ∧ lanes = 0 then some (4, 1)
  else if speed = 3 ∧ lanes = 2 then some (3, 4)
  else if speed = 3 ∧ lanes = 1 then some (4, 2)
  else if speed = 4 ∧ lanes = 2 then some (4, 4)
  else none

/-- The lanes of MAC m (R179). -/
def macLanes (m : Nat) (d : Dev) : List Nat :=
  match portMode (rd MAC_CFG_speed [m] d) (rd MAC_CFG_lanes [m] d) with
  | some (_, n) => (List.range n).map (fun i => 4 * m + i)
  | none => []

/-- The clock source a lane's transmitter needs now; 0 where it transmits nothing (R176, R181). -/
def laneSource (l : Nat) (d : Dev) : Nat :=
  let m := txMode l d
  if m = 1 then
    match laneDst l d with
    | some x => formatSource (dstFmt x.index d) (famPeriod (dstFam x.index d) d)
    | none => 0
  else if m = 2 then 1
  else if m = 3 ∨ m = 4 then 2
  else if m = 5 then (if (laneLink l d).isSome then 5 else 0)
  else 0

/-- The synthesiser of its quad that a lane uses: A before B (R176). -/
def laneSynth (l : Nat) (d : Dev) : Option Nat :=
  let q := 2 * (l % 8 / 4)
  let src := laneSource l d
  if src = 0 then none
  else if synthSource (l / 8) q d = src then some q
  else if synthSource (l / 8) (q + 1) d = src then some (q + 1)
  else none

/-- A synthesiser is in use (R181). -/
def synthInUse (o s : Nat) (d : Dev) : Bool := (List.range 8).any (fun j => laneSynth (8 * o + j) d == some s)

/-- Every synthesiser in use of an octet is locked. -/
def synthsReady (o : Nat) (d : Dev) : Bool := (List.range 4).all (fun s => !synthInUse o s d || synthLocked o s d)

/-- A lane is held off (R183). -/
def heldOff (l : Nat) (d : Dev) : Bool :=
  (rxMode l d == 0 && txMode l d == 0) || !running (fOct (l / 8)) d || ((rxMode l d == 5 || txMode l d == 5) && (laneLink l d).isNone)

/-- A lane's receiver runs. -/
def rxRuns (l : Nat) (d : Dev) : Bool := !heldOff l d && rxMode l d != 0

/-- A lane's transmitter is not at electrical idle (R132, R181, R184). -/
def txOn (l : Nat) (d : Dev) : Bool :=
  if heldOff l d || d.clocksStopped then false
  else
    match laneSynth l d with
    | none => false
    | some s =>
      synthLocked (l / 8) s d &&
        (if txMode l d = 1 then
          (match laneDst l d with
           | some x => famRunning (dstFam x.index d) d && (dstRun x.index d).carry != .idle
           | none => false)
         else !inSafe d)

/-! ### The octet as a function (R181, R182) -/

/-- The tap limits of R189. -/
def tapsOk (mode : Nat) (m3 m2 m1 c0 p1 : Int) : Bool :=
  decide (m3.natAbs + m2.natAbs + m1.natAbs + c0.natAbs + p1.natAbs ≤ 128) && decide (0 < c0) &&
    (!(mode == 1 || mode == 2) || (m3 == 0 && m2 == 0))

/-- A lane's modes and taps (R174, R175, R189). -/
def laneOk (l : Nat) (d : Dev) : Bool :=
  let r := rxMode l d
  let t := txMode l d
  decide (r ≤ 5 ∧ t ≤ 5) && (decide (r ≤ 1 ∧ t ≤ 1) || r == t) &&
    tapsOk t (rdS LNS_TX_TAP_c_m3 [l] d) (rdS LNS_TX_TAP_c_m2 [l] d) (rdS LNS_TX_TAP_c_m1 [l] d) (rd LNS_TX_TAP_c0 [l] d) (rdS LNS_TX_TAP_c_p1 [l] d)

/-- A transmitting lane finds the source its mode needs in its quad (R176). -/
def laneClocked (l : Nat) (d : Dev) : Bool := laneSource l d == 0 || (laneSynth l d).isSome

/-- The Ethernet lanes of a quad are those of its MAC's port (R179). -/
def quadOk (m : Nat) (d : Dev) : Bool :=
  let eth := (List.range 4).filter (fun j => isEthMode (txMode (4 * m + j) d))
  eth.isEmpty ||
    (match portMode (rd MAC_CFG_speed [m] d) (rd MAC_CFG_lanes [m] d) with
     | some (mode, n) => eth == List.range n && eth.all (fun j => txMode (4 * m + j) d == mode)
     | none => false)

/-- The start check of an octet (R181). -/
def octCheck (o : Nat) (d : Dev) : Bool :=
  (List.range 8).all (fun j => laneOk (8 * o + j) d && laneClocked (8 * o + j) d) &&
    (List.range 4).all (fun s => decide (synthSource o s d ≤ 5)) && quadOk (2 * o) d && quadOk (2 * o + 1) d

/-- A STARTING octet whose synthesisers in use are all locked enters RUNNING (R181). -/
def octRun (o : Nat) (d : Dev) : Dev :=
  if funcState (fOct o) d = 1 ∧ synthsReady o d then setFuncState (fOct o) 2 d else d

/-- Show a lane's fixed taps on its transmitter (R191, R193). -/
def showTaps (l : Nat) (d : Dev) : Dev :=
  wr LNS_TX_TAP_ACT_c_m3 [l] (rd LNS_TX_TAP_c_m3 [l] d) (wr LNS_TX_TAP_ACT_c_m2 [l] (rd LNS_TX_TAP_c_m2 [l] d)
    (wr LNS_TX_TAP_ACT_c_m1 [l] (rd LNS_TX_TAP_c_m1 [l] d) (wr LNS_TX_TAP_ACT_c0 [l] (rd LNS_TX_TAP_c0 [l] d)
      (wr LNS_TX_TAP_ACT_c_p1 [l] (rd LNS_TX_TAP_c_p1 [l] d) d))))

/-- An octet starts: every synthesiser whose source is not Unused is powered and begins to lock. -/
def octStart (o : Nat) (d : Dev) : Dev :=
  let d := { d with lns := { d.lns with startAt := tabSet 0 d.lns.startAt o d.devTime } }
  let d := forUpTo 4 (fun s d => wr (synthLockFld s) [o] 0 d) d
  octRun o (forUpTo 8 (fun j d => showTaps (8 * o + j) d) d)

/-- End an eye scan void (R196). -/
def voidScan (l cause : Nat) (d : Dev) : Dev :=
  if rdB LNS_EYE_RES_busy [l] d then
    wr LNS_STICKY_eye_void [l] 1 (wr LNS_EYE_RES_busy [l] 0 (wr LNS_EYE_RES_done [l] 1 (wr LNS_EYE_RES_void [l] 1 (wr LNS_EYE_RES_void_cause [l] cause d))))
  else d

/-- LNS_STATUS and LNS_FREQ of a lane that is held off or has no lock. -/
def clearLane (l : Nat) (d : Dev) : Dev :=
  let d := wr LNS_STATUS_sig [l] 0 (wr LNS_STATUS_lock [l] 0 (wr LNS_STATUS_rate [l] 0 (wr LNS_STATUS_div1001 [l] 0 d)))
  setLaneRun l {} (wr LNS_STATUS_train [l] 0 (wr LNS_STATUS_freq_oor [l] 0 (wr LNS_FREQ_freq [l] 0 d)))

/-- Some lane's input frequency lies beyond ±100 ppm (R187): the raw state of FS0101. -/
def evalOor (d : Dev) : Dev := setRaw 101 ((List.range 192).any (fun l => rdB LNS_STATUS_freq_oor [l] d)) d

/-- An octet begins to stop: transmitters to idle, receivers stopped, training and scans abandoned (R182). -/
def octStop (o : Nat) (d : Dev) : Dev :=
  evalOor (forUpTo 8 (fun j d => clearLane (8 * o + j) (voidScan (8 * o + j) 3 d)) d)

/-- A STOPPING octet reaches STOPPED (R182, R484). -/
def octStopped (o : Nat) (d : Dev) : Dev :=
  if funcState (fOct o) d = 3 then setFuncState (fOct o) 0 (forUpTo 4 (fun s d => wr (synthLockFld s) [o] 0 d) d) else d

/-- Synthesisers of an octet lock: those named in `mask`, powered, and with their reference present (R181, R199). -/
def synthLock (o mask : Nat) (d : Dev) : Dev :=
  let live := funcState (fOct o) d == 1 || funcState (fOct o) d == 2
  let d := forUpTo 4 (fun s d =>
    let src := synthSource o s d
    let eth := src == 1 || src == 2
    if live && Nat.testBit mask s && src != 0 && !(eth && d.lns.refLost.contains (o / 6)) then
      wr (synthLockFld s) [o] 1 (if eth then wr LNS_OCT_STATUS_ref_present [o] 1 d else d)
    else d) d
  octRun o d

/-- 10 ms after its start a STARTING octet whose synthesisers in use are not locked enters FAILED (R181). -/
def octTimeout (o : Nat) (d : Dev) : Dev :=
  if funcState (fOct o) d = 1 then
    let d := advanceDev (tabGet 0 d.lns.startAt o + 10 * msUnits) d
    fire 98 (setFuncState (fOct o) 4 d)
  else d

/-! ### Reception (R185 to R188) -/

/-- The SDI rate codes enabled on a lane, from the highest down (R186). -/
def huntOrder (l : Nat) (d : Dev) : List Nat :=
  [6, 5, 4, 3, 2, 1].filter (fun c => Nat.testBit (rd LNS_MODE_sdi_rates [l] d) (c - 1))

/-- The rate after `c` in the hunt, wrapping to the highest. -/
def huntNext (l c : Nat) (d : Dev) : Nat :=
  match (huntOrder l d).find? (fun x => decide (x < c)) with
  | some x => x
  | none => (huntOrder l d).headD 0

/-- Begin a 20 µs dwell at a rate. -/
def dwell (l c : Nat) (d : Dev) : Dev := setLaneRun l { laneRun l d with hunt := c, dwellEnd := d.devTime + 20 * usUnits } d

/-- A receiver's input rises above the threshold: an SDI receiver hunts from its highest enabled rate (R185, R186). -/
def signalDetect (l : Nat) (d : Dev) : Dev :=
  if rxRuns l d then
    let d := wr LNS_STATUS_sig [l] 1 d
    if rxMode l d = 1 then dwell l ((huntOrder l d).headD 0) d else d
  else d

/-- Report a measured frequency offset in units of 2^-40 (R187). -/
def setFreq (l : Nat) (f : Int) (d : Dev) : Dev :=
  let oor := decide (f.natAbs > 109951162)
  let d := wrS LNS_FREQ_freq [l] f d
  let was := rdB LNS_STATUS_freq_oor [l] d
  let d := wrB LNS_STATUS_freq_oor [l] oor d
  let d := if oor && !was then wr LNS_STICKY_freq_oor [l] 1 d else d
  evalOor d

/-- A measurement on a locked lane (R187). -/
def measureFreq (l : Nat) (f : Int) (d : Dev) : Dev := if rdB LNS_STATUS_lock [l] d then setFreq l f d else d

/-- Report an equaliser setting: ctle, snr and the first decision-feedback tap (R188). Adaptation during a scan is noted (R196). -/
def setEq (l ctle snr dfe : Nat) (d : Dev) : Dev :=
  let moved := rd LNS_RX_EQ_ctle [l] d != ctle || rd LNS_RX_EQ_dfe1 [l] d != dfe
  let d := if rdB LNS_EYE_RES_busy [l] d && moved then wr LNS_EYE_RES_adapt_moved [l] 1 d else d
  wr LNS_RX_EQ_ctle [l] ctle (wr LNS_RX_EQ_snr [l] snr (wr LNS_RX_EQ_dfe1 [l] dfe d))

/-- The end of a dwell: lock at this rate, or the next one (R186). `rate` is the code of the signal at the pins, 0 for none. -/
def huntDwellEnd (l rate : Nat) (div : Bool) (freq : Int) (d : Dev) : Dev :=
  let r := laneRun l d
  if r.hunt = 0 ∨ !rxRuns l d then d
  else
    let d := advanceDev r.dwellEnd d
    if rate = r.hunt then
      let d := setLaneRun l { r with hunt := 0, dwellEnd := 0 } d
      let d := wr LNS_STATUS_lock [l] 1 (wr LNS_STATUS_rate [l] rate (wrB LNS_STATUS_div1001 [l] (div && rate != 1) d))
      setFreq l freq (wr LNS_STATUS_train [l] 4 d)
    else dwell l (huntNext l r.hunt d) d

/-- The first lane of its port (R190). -/
def firstOfPort (l : Nat) : Bool := l % 4 == 0

/-- An Ethernet lane begins to train, or stands on its fixed taps (R190, R191); a training step voids a scan (R196). -/
def beginTraining (l : Nat) (d : Dev) : Dev :=
  if rdB LNS_MODE_train_en [l] d then
    voidScan l 2 (wr LNS_STATUS_train [l] (if rdB LNS_MODE_an_en [l] d && firstOfPort l && isEthMode (rxMode l d) then 1 else 2) d)
  else wr LNS_STATUS_train [l] 4 d

/-- An Ethernet or Seam receiver's clock and data recovery gains track (R185, R188, R190). -/
def receiverLock (l : Nat) (freq : Int) (ctle snr dfe : Nat) (d : Dev) : Dev :=
  if rxRuns l d && rxMode l d != 1 then
    let d := wr LNS_STATUS_sig [l] 1 (wr LNS_STATUS_lock [l] 1 d)
    let d := setFreq l freq (setEq l ctle snr dfe d)
    if isEthMode (rxMode l d) then beginTraining l d else wr LNS_STATUS_train [l] 2 d
  else d

/-- A receiver declares loss (R185). `below`: its input fell below the signal-detect threshold. An SDI receiver whose signal stays hunts
again (R186). -/
def laneLoss (l : Nat) (below : Bool) (d : Dev) : Dev :=
  if !rxRuns l d then d
  else
    let wasLocked := rdB LNS_STATUS_lock [l] d
    let d := if below then wr LNS_STATUS_sig [l] 0 d else d
    let d := wr LNS_STATUS_lock [l] 0 (wr LNS_STATUS_rate [l] 0 (wr LNS_STATUS_div1001 [l] 0 (wr LNS_STATUS_train [l] 0 d)))
    let d := evalOor (wr LNS_STATUS_freq_oor [l] 0 (wr LNS_FREQ_freq [l] 0 d))
    let d := setLaneRun l { laneRun l d with hunt := 0, dwellEnd := 0, retryAt := 0 } (voidScan l 1 d)
    let d := if rxMode l d = 1 ∧ !below then dwell l ((huntOrder l d).headD 0) d else d
    if wasLocked then fire 96 (count LNS_CNT_lol_events [l] 1 (wr LNS_STICKY_lol [l] 1 d)) else d

/-! ### Training (R190, R192) -/

/-- A lane finishes training: its transmitter uses the taps its partner asked for, within R189 (R190, R193). -/
def trainingComplete (l : Nat) (m3 m2 m1 c0 p1 : Int) (d : Dev) : Dev :=
  let t := rd LNS_STATUS_train [l] d
  if rxRuns l d && (t == 1 || t == 2) then
    let d := wr LNS_STATUS_train [l] 3 d
    if tapsOk (txMode l d) m3 m2 m1 c0 p1 then
      wrS LNS_TX_TAP_ACT_c_m3 [l] m3 (wrS LNS_TX_TAP_ACT_c_m2 [l] m2 (wrS LNS_TX_TAP_ACT_c_m1 [l] m1
        (wrS LNS_TX_TAP_ACT_c0 [l] c0 (wrS LNS_TX_TAP_ACT_c_p1 [l] p1 d))))
    else d
  else d

/-- Training does not complete within the clause's limit (R192). -/
def trainingTimeout (l : Nat) (d : Dev) : Dev :=
  let t := rd LNS_STATUS_train [l] d
  if rxRuns l d && (t == 1 || t == 2) then
    let d := wr LNS_STATUS_train [l] 5 (wr LNS_STICKY_train_fail [l] 1 (count LNS_CNT_train_fails [l] 1 d))
    fire 97 (setLaneRun l { laneRun l d with retryAt := d.devTime + secUnits } d)
  else d

/-- 1 s after a failure the lane trains again (R192). -/
def trainingRetry (l : Nat) (d : Dev) : Dev :=
  if rxRuns l d && rd LNS_STATUS_train [l] d == 5 then
    let d := advanceDev (laneRun l d).retryAt d
    beginTraining l (setLaneRun l { laneRun l d with retryAt := 0 } d)
  else d

/-! ### Eye scans (R194 to R196) -/

/-- A write of LNS_EYE_CTRL with start = 1: its other fields are written, then the scan begins, is ignored while one runs, or ends at once on
a lane that is not locked (R195). -/
def scanStart (l word : Nat) (d : Dev) : Dev :=
  let d := wr LNS_EYE_CTRL_mode [l] (bitsOf word 2 1) (wr LNS_EYE_CTRL_eye [l] (bitsOf word 5 4) (wr LNS_EYE_CTRL_dwell [l] (bitsOf word 11 8)
    (wr LNS_EYE_CTRL_phase [l] (bitsOf word 21 16) (wrS LNS_EYE_CTRL_volt [l] (clampI (-63) 63 (toSigned 7 (bitsOf word 30 24))) d))))
  if rdB LNS_EYE_RES_busy [l] d then wr LNS_STICKY_eye_busy [l] 1 d
  else
    let d := wr LNS_EYE_RES_done [l] 0 (wr LNS_EYE_RES_void [l] 0 (wr LNS_EYE_RES_void_cause [l] 0 (wr LNS_EYE_RES_adapt_moved [l] 0
      (wr LNS_EYE_RES_busy [l] 1 d))))
    let d := setLaneRun l { laneRun l d with scanOpening := bitsOf word 2 1 != 1 } d
    if rxRuns l d && rdB LNS_STATUS_lock [l] d then d else voidScan l 1 d

/-- A scan completes: the count at its point, and in opening mode the openings (R195). -/
def scanDone (l errors h v : Nat) (moved : Bool) (d : Dev) : Dev :=
  if rdB LNS_EYE_RES_busy [l] d then
    let d := wr LNS_EYE_RES_busy [l] 0 (wr LNS_EYE_RES_done [l] 1 (wr LNS_EYE_ERR_errors [l] (min errors (2 ^ 32 - 1)) d))
    let d := if moved then wr LNS_EYE_RES_adapt_moved [l] 1 d else d
    if (laneRun l d).scanOpening then wr LNS_EYE_RES_h_open [l] (min h 64) (wr LNS_EYE_RES_v_open [l] (min v 127) d) else d
  else d

/-! ### Clock events (R199) -/

/-- A synthesiser loses lock: in use, its lanes go to idle and FS0098 fires; not in use, only its lock bit clears. -/
def synthUnlock (o s : Nat) (d : Dev) : Dev :=
  if synthLocked o s d then
    let used := synthInUse o s d
    let d := wr (synthLockFld s) [o] 0 d
    if used then fire 98 (wr LNS_OCT_STICKY_synth_unlock [o] 1 d) else d
  else d

/-- Some synthesiser of an octet takes its clock from the Ethernet reference. -/
def usesEthRef (o : Nat) (d : Dev) : Bool := (List.range 4).any (fun s => synthSource o s d == 1 || synthSource o s d == 2)

/-- ETH_REFCLKk stops or leaves ±100 ppm: `lost` says what a lane's loss of lock does to its adapter. -/
def ethRefLoss (k : Nat) (lost : Nat → Dev → Dev) (d : Dev) : Dev :=
  let d := { d with lns := { d.lns with refLost := if d.lns.refLost.contains k then d.lns.refLost else k :: d.lns.refLost } }
  let d := forUpTo 6 (fun j d =>
    let o := 6 * k + j
    let d := wr LNS_OCT_STATUS_ref_present [o] 0 d
    if usesEthRef o d then
      let d := wr LNS_OCT_STICKY_ref_lost [o] 1 (wr LNS_OCT_STICKY_synth_unlock [o] 1 d)
      let d := forUpTo 4 (fun s d => if synthSource o s d = 1 ∨ synthSource o s d = 2 then wr (synthLockFld s) [o] 0 d else d) d
      forUpTo 8 (fun i d => if isEthMode (rxMode (8 * o + i) d) && rdB LNS_STATUS_lock [8 * o + i] d then lost (8 * o + i) (laneLoss (8 * o + i) false d) else d) d
    else d) d
  setRaw 99 true d

/-- ETH_REFCLKk returns: its synthesisers relock and the lanes train again as they lock (R199). -/
def ethRefReturn (k : Nat) (d : Dev) : Dev :=
  let d := { d with lns := { d.lns with refLost := d.lns.refLost.filter (fun x => x != k) } }
  let d := forUpTo 6 (fun j d => wr LNS_OCT_STATUS_ref_present [6 * k + j] 1 d) d
  setRaw 99 (!d.lns.refLost.isEmpty) d

/-- Leaving safe state: Ethernet links train again (R184, R455). -/
def retrainEth (d : Dev) : Dev :=
  forUpTo 192 (fun l d => if isEthMode (rxMode l d) && rdB LNS_STATUS_lock [l] d then beginTraining l d else d) d

end Sys2Proof.Machine
end

