-- ==== Sys2Proof/Machine/Sdi.lean ====
section
/-! DEFINITION. SDI reception and transmission: acquisition, strikes, mismatch, errors, ANC, embedded audio, output status (08_sdi_streams.md). -/

namespace Sys2Proof.Machine

def sdiIn (n : Nat) (d : Dev) : SdiIn := tabGet {} d.sdi n
def setSdiIn (n : Nat) (r : SdiIn) (d : Dev) : Dev := { d with sdi := tabSet {} d.sdi n r }

/-! ### The channel space's source channels -/

/-- The source-channel number of channel j of a source (R18, R394). -/
def chanOf (src j : Nat) (d : Dev) : Option Nat :=
  match d.xpt.runs.find? (fun r => r.1 == src) with
  | some (_, first, n) => if j < n then some (first + j) else none
  | none => none

/-- A producer writes a sample of a source channel; the interval peak follows the present ones (R397). -/
def setChan (c : Nat) (x : Samp) (d : Dev) : Dev :=
  let old := tabGet {} d.aud.src c
  let peak := if x.present then max old.peak x.val.natAbs else old.peak
  let d := { d with aud := { d.aud with src := tabSet {} d.aud.src c { old with now := x, peak := peak } } }
  if x.present then
    let d := if rd GTH_PEAK_peak [c] d < x.val.natAbs then wr GTH_PEAK_peak [c] x.val.natAbs d else d
    if x.val = 8388607 ∨ x.val = -8388608 then wr GTH_PEAK_full_scale [c] 1 d else d
  else d

/-! ### ST 337 bursts (R218, R387) -/

/-- A 24-bit sample as an unsigned word. -/
def word24 (x : Int) : Nat := (x % 2 ^ 24).toNat

/-- The preamble words Pa and Pb of SMPTE ST 337 in 16, 20 and 24-bit mode, most significant bits first (PRESUMED, log entry 13). -/
def isPa (x : Int) : Bool := word24 x == 0xF87200 || word24 x == 0x6F8720 || word24 x == 0x96F872
def isPb (x : Int) : Bool := word24 x == 0x4E1F00 || word24 x == 0x54E1F0 || word24 x == 0xA54E1F

/-- Pa followed by Pb in a pair's samples a, b; `prev`: the sample before a was Pa. -/
def burstFound (prev : Bool) (a b : Int) : Bool := (prev && isPb a) || (isPa a && isPb b)

/-! ### Inputs and their declarations (R205) -/

/-- The SDI source that a lane belongs to, with its lanes. -/
def laneSource' (l : Nat) (d : Dev) : Option (SrcDesc × List Nat) :=
  d.pat.sources.findSome? (fun s => match s.producer with
    | .sdi lanes => if s.member == selfMember d && lanes.contains l then some (s, lanes) else none
    | _ => none)

/-- The rate code of a lane at an interface's line rate (LNS_STATUS.rate). -/
def ifaceRate (i : Nat) : Nat :=
  if i = 1 then 1 else if i = 2 then 2 else if i = 3 ∨ i = 4 ∨ i = 5 ∨ i = 6 then 3 else if i = 7 then 4 else if i = 8 ∨ i = 9 then 5 else if i = 10 then 6 else 0

/-- The links of an interface (R202). -/
def ifaceLinks (i : Nat) : Nat := if i = 5 then 2 else if i = 6 ∨ i = 9 then 4 else 1

/-- Channels per link that an interface carries, and the links that carry them (R215). -/
def ifaceChannels (i : Nat) : Nat :=
  if i = 0 then 0
  else if i = 7 ∨ i = 8 ∨ i = 10 then 32
  else if i = 9 then 64
  else if i = 5 then 32
  else if i = 6 then 64
  else 16

/-- Channels per link (R215). -/
def ifacePerLink (i : Nat) : Nat := if i = 7 ∨ i = 8 ∨ i = 9 ∨ i = 10 then 32 else 16

/-- An input is declared at its lowest lane: its state and the loss bit. -/
def inState (n : Nat) (d : Dev) : Nat := rd SDI_IN_ST_state [n] d

/-! ### State changes (R206, R207) -/

/-- The framer of an ST 2022-6 flow (R261) keeps the same fields as an SDI input, at an index beyond the register map. -/
def flowFramer (entry : Nat) : Nat := 2 ^ 20 + entry

/-- Leave PRESENT: loss to the source slot and channels. -/
def leavePresent (n src : Nat) (d : Dev) : Dev :=
  if inState n d = 3 then
    let d := count SDI_IN_LOSS_losses [n] 1 (wr SDI_IN_STICKY_lost [n] 1 (wr SDI_IN_ST_lost [n] 1 d))
    let d := if n < 192 then fire 112 d else d
    let d := wr SDI_IN_AUD_grp_present [n] 0 d
    declareLoss src (setSdiIn n { sdiIn n d with chans := [] } d)
  else d

/-- Enter a state other than PRESENT, counting afresh. -/
def enterState (n src st : Nat) (d : Dev) : Dev :=
  let d := leavePresent n src d
  let r := sdiIn n d
  let d := setSdiIn n { r with begun := false, clean := false, cleanFrames := 0, agree := false, links := [] } d
  wr SDI_IN_ST_state [n] st (if st = 4 then d else wr SDI_IN_ST_cause [n] 0 d)

/-- A compared field disagrees: MISMATCH with its cause (R206). -/
def mismatch (n src cause : Nat) (d : Dev) : Dev :=
  if inState n d = 4 then
    setSdiIn n { sdiIn n d with agree := false } (wr SDI_IN_ST_cause [n] cause d)
  else
    let d := wr SDI_IN_ST_cause [n] cause (enterState n src 4 d)
    if n < 192 then fire 113 (wr SDI_IN_STICKY_mismatch [n] 1 d) else fire 149 (wr FLW_STATUS_content [] 1 d)

/-- Enter PRESENT at a frame boundary: recovery (R207, R208). -/
def enterPresent (n src : Nat) (d : Dev) : Dev :=
  declareRecovery src (wr SDI_IN_ST_lost [n] 0 (wr SDI_IN_ST_state [n] 3 d))

/-- A lane of the input lost lock (R208, R210). -/
def sdiLaneLoss (l : Nat) (d : Dev) : Dev :=
  match laneSource' l d with
  | some (s, lanes) =>
    let n := lanes.headD l
    if inState n d = 0 then d else wr SDI_IN_ST_link [l] 0 (wr SDI_IN_ST_psid_present [l] 0 (enterState n s.num 0 d))
  | none => d

/-- Every lane of an input has been looked at after one locked: ALIGN where all are locked at the declared rate, MISMATCH where one is
locked at another (R186, R208). -/
def sdiLaneLock (l : Nat) (d : Dev) : Dev :=
  match laneSource' l d with
  | some (s, lanes) =>
    let n := lanes.headD l
    let f := fmtOf s.fmt d
    let div := formatSource f (famPeriod s.fam d) == 4
    let right := fun x => rd LNS_STATUS_rate [x] d == ifaceRate f.iface && (ifaceRate f.iface == 1 || rdB LNS_STATUS_div1001 [x] d == div)
    if inState n d ≠ 0 then d
    else if lanes.any (fun x => rdB LNS_STATUS_lock [x] d && !right x) then mismatch n s.num 1 d
    else if lanes.all (fun x => rdB LNS_STATUS_lock [x] d) then enterState n s.num 1 d
    else d
  | none => d

/-! ### Errors and ancillary data (R212, R213) -/

/-- An errored line or field counts towards crc_thresh within its second of NTW (R212). -/
def countError (n : Nat) (d : Dev) : Dev :=
  let r := sdiIn n d
  let sec := nibOf d.ntw / Config.nibsPerSec + 1
  let errs := if r.errSec = sec then r.errs + 1 else 1
  let d := setSdiIn n { r with errSec := sec, errs := errs } d
  let t := rd SDI_IN_THR_crc_thresh [n] d
  if t ≠ 0 ∧ errs = t then fire 114 d else d

/-- The packets a framer consumes and never places in the sidecar (R213): ST 352, EDH, and the audio data and control packets of ST 272 and
ST 299, by their published DIDs (PRESUMED, log entry 14). -/
def consumedAnc (p : AncPkt) : Bool :=
  (p.did == 0x41 && p.sdid == 0x01) || p.did == 0xF4
    || decide (0xE0 ≤ p.did ∧ p.did ≤ 0xE7) || decide (0xEC ≤ p.did ∧ p.did ≤ 0xEF) || decide (0xF8 ≤ p.did ∧ p.did ≤ 0xFF)
    || decide (0xA0 ≤ p.did ∧ p.did ≤ 0xA7)

/-- Extract one ANC packet into the sidecar (R213). -/
def takeAnc (n src : Nat) (p : AncPkt) (d : Dev) : Dev :=
  if !p.ok then fire 115 (count SDI_IN_CNT1_anc_cs [n] 1 (wr SDI_IN_STICKY_anc_cs [n] 1 d))
  else if consumedAnc p then d
  else
    let r := srcRun src d
    if 64 ≤ (r.anc.filter (fun q => q.line == p.line)).length then fire 115 (count SDI_IN_CNT1_anc_ovf [n] 1 (wr SDI_IN_STICKY_anc_ovf [n] 1 d))
    else setSrcRun src { r with anc := r.anc ++ [p] } d

/-! ### Embedded audio (R215 to R218) -/

/-- The channel of the source's group that channel c of group g on link i (counted from 1) becomes (R215). -/
def groupChannel (iface link group c : Nat) : Nat := (link - 1) * ifacePerLink iface + 4 * (group - 1) + c

/-- Take one audio data packet of a link; the rings of the source's read sides take its samples too (R301). -/
def takeAudio (n src iface link size : Nat) (p : AudPkt) (d : Dev) : Dev :=
  let base := groupChannel iface link p.group 0
  let r := sdiIn n d
  let r := { r with seen := withBit r.seen (base / 4) true }
  let r := forUpTo 4 (fun c r =>
    if base + c < size ∧ !Nat.testBit r.unsup (base / 4) then
      let x := tabGet {} r.chans (base + c)
      let v := p.samples.getD c 0
      let x' := { x with fifo := x.fifo ++ [(v, p.status.getD c false, p.block)], got := x.got + 1, last := v }
      { r with chans := tabSet {} r.chans (base + c) x' }
    else r) r
  let d := setSdiIn n r d
  forUpTo 4 (fun c d => if base + c < size ∧ !Nat.testBit r.unsup (base / 4) then ringPush src (base + c) (p.samples.getD c 0) d else d) d

/-- Take a group's audio control packet: any rate but 48 kHz leaves the group absent (R216). -/
def takeControl (n iface link : Nat) (p : Nat × Bool) (d : Dev) : Dev :=
  let g := groupChannel iface link p.1 0 / 4
  let r := sdiIn n d
  let r := { r with unsup := withBit r.unsup g (!p.2) }
  wrB SDI_IN_ST_rate_unsup [n] (r.unsup != 0) (setSdiIn n r d)

/-- At the end of a source frame each channel has exactly the samples R45 gives it: a surplus is dropped, a shortfall repeats the last
(R217). -/
def settleAudio (n size want : Nat) (d : Dev) : Dev :=
  let r := sdiIn n d
  let off := fun c => let x := tabGet {} r.chans c; if x.got = 0 then 0 else if want ≤ x.got then x.got - want else want - x.got
  let slips := ((List.range size).map off).sum
  let r' := forUpTo size (fun c r =>
    let x := tabGet {} r.chans c
    if x.got = 0 then r
    else
      let fifo := if want ≤ x.got then x.fifo.take (x.fifo.length - (x.got - want)) else x.fifo ++ List.replicate (want - x.got) (x.last, false, false)
      { r with chans := tabSet {} r.chans c { x with fifo := fifo, got := 0 } }) r
  let d := wr SDI_IN_AUD_grp_present [n] r.seen (setSdiIn n { r' with seen := 0 } d)
  if slips = 0 then d else fire 117 (count SDI_IN_CNT2_audio_slip [n] slips (wr SDI_IN_STICKY_slip [n] 1 d))

/-- Advance a channel's status block by one sample; the mark of a block holds from its 192nd sample (R218). -/
def statusStep (x : SdiChan) (bit start : Bool) : SdiChan :=
  let pos := if start then 0 else min 192 (x.pos + 1)
  let x := { x with pos := pos, bit := if pos = 1 then bit else x.bit }
  if pos = 191 then { x with nonAudio := x.bit } else x

/-- The next 48 kHz sample of channel c: from its queue, repeated while the group runs, absent when the frame carries none (R216, R217). -/
def sdiSample (c : Nat) (r : SdiIn) : SdiIn × Int × Bool :=
  let x := tabGet {} r.chans c
  match x.fifo with
  | (v, b, z) :: rest => ({ r with chans := tabSet {} r.chans c (statusStep { x with fifo := rest } b z) }, v, true)
  | [] => if Nat.testBit r.seen (c / 4) then (r, x.last, true) else (r, 0, false)

/-- Deliver one 48 kHz sample of every channel of a present input, pair by pair, with its non-PCM mark (R215 to R218). `mute` gives what a
producer writes for a sample (R452). -/
def sdiDeliver (n src size : Nat) (mute : Int → Bool → Int) (d : Dev) : Dev :=
  if inState n d ≠ 3 then d
  else
    forUpTo ((size + 1) / 2) (fun m d =>
      let r := sdiIn n d
      let (r, a, pa) := sdiSample (2 * m) r
      let (r, b, pb) := if 2 * m + 1 < size then sdiSample (2 * m + 1) r else (r, 0, false)
      let found := burstFound (Nat.testBit r.pa m) a b
      let left := if found then 8192 else tabGet 0 r.burst m - 1
      let r := { r with pa := withBit r.pa m (isPa b), burst := tabSet 0 r.burst m left }
      let npcm := decide (left ≠ 0) || (tabGet {} r.chans (2 * m)).nonAudio || (tabGet {} r.chans (2 * m + 1)).nonAudio
      let d := wrBit SDI_IN_NPCM_pairs [n] m npcm (setSdiIn n r d)
      match chanOf src (2 * m) d with
      | some c =>
        let d := setChan c { val := if pa then mute a npcm else 0, present := pa, npcm := npcm } d
        if 2 * m + 1 < size then setChan (c + 1) { val := if pb then mute b npcm else 0, present := pb, npcm := npcm } d else d
      | none => d) d

/-! ### One line (R208 to R217) -/

/-- The links' EAVs of one line, latest minus earliest; none until every link has shown the line (R203). -/
def linkSkew (lanes : List Nat) (r : SdiIn) : Option Nat :=
  let ls := lanes.map (fun l => tabGet {} r.links l)
  match ls with
  | [] => none
  | x :: rest =>
    if rest.all (fun y => y.line == x.line) then
      some ((rest.map (·.eav)).foldl max x.eav - (rest.map (·.eav)).foldl min x.eav)
    else none

/-- Show the skew of the links; beyond R203 the stream is lost. -/
def evalSkew (n src : Nat) (lanes : List Nat) (d : Dev) : Dev :=
  if lanes.length ≤ 1 then d
  else
    match linkSkew lanes (sdiIn n d) with
    | none => d
    | some k =>
      let was := rdB SDI_IN_ST_skew_err [n] d
      let d := wr SDI_IN_SKEW_skew [n] (min k (2 ^ 20 - 1)) d
      if 846720 < k then
        let d := wr SDI_IN_ST_skew_err [n] 1 (wr SDI_IN_STICKY_skew [n] 1 d)
        let d := if was then d else fire 116 d
        if inState n d = 3 then enterState n src 1 d else d
      else wr SDI_IN_ST_skew_err [n] 0 d

/-- Link numbers are resolved: every lane of a multi-link input has told its own (R203). -/
def linksResolved (lanes : List Nat) (d : Dev) : Bool :=
  lanes.length ≤ 1 || (List.range lanes.length).all (fun i => lanes.any (fun l => rd SDI_IN_ST_link [l] d == i + 1))

/-- ST 352 is required on the input (R206). -/
def psidNeeded (s : SrcDesc) (lanes : List Nat) : Bool := s.psidReq || decide (1 < lanes.length)

/-- The frame boundary of the signal, at line 1 of its first lane: the frame that ends is settled and judged, the next begins (R208, R211,
R213, R217). -/
def sdiFrame (n : Nat) (s : SrcDesc) (lanes : List Nat) (x : SdiLine) (d : Dev) : Dev :=
  let f := fmtOf s.fmt d
  let p := famPeriod s.fam d
  let r := sdiIn n d
  let whole := r.begun
  let absent := psidNeeded s lanes && lanes.any (fun l => !(tabGet {} r.links l).psidSeen)
  let d := if whole then settleAudio n s.channels (samplesInFrame r.frameAt p 1102500) d else d
  let d := match x.lines with | some k => wr SDI_IN_DET_lines [n] k d | none => d
  let bad : Option Nat :=
    if whole ∧ x.lines.isSome ∧ x.lines ≠ some f.lines then some 3
    else if x.scan.isSome ∧ x.scan ≠ some f.scan then some 4
    else if whole ∧ absent then some 8
    else none
  let r := sdiIn n d
  let e := reduceError ((x.s0 : Int) - boundaryFrom p x.s0) p
  let links := r.links.map (fun q => (q.1, { q.2 with psidSeen := false }))
  let d := setSdiIn n { r with begun := true, frameAt := x.s0, clean := true, agree := true, links := links } (endSourceFrame s.num d)
  let d := setArrival s.num e (wrS SDI_IN_ARR_e [n] (clampI (-(2 ^ 31)) (2 ^ 31 - 1) e) d)
  let st := inState n d
  match bad with
  | some c => if st = 0 then d else mismatch n s.num c d
  | none =>
    if st = 4 ∧ whole ∧ r.agree then
      let d := enterState n s.num 2 d
      setSdiIn n { sdiIn n d with begun := true, frameAt := x.s0, clean := true, agree := true } d
    else if st = 2 then
      let c := if whole ∧ r.clean then r.cleanFrames + 1 else 0
      let d := setSdiIn n { sdiIn n d with cleanFrames := c } d
      let d := if 2 ≤ c then enterPresent n s.num (setSdiIn n { sdiIn n d with cleanFrames := 0 } d) else d
      beginSourceFrame s.num x.s0 d
    else beginSourceFrame s.num x.s0 d

/-- A line of a link, after the frame it may begin: strikes, alignment, errors, packets (R208 to R217). -/
def sdiLineBody (n l : Nat) (s : SrcDesc) (lanes : List Nat) (x : SdiLine) (d : Dev) : Dev :=
  let f := fmtOf s.fmt d
  let st := inState n d
  if st = 0 then d
  else
    let strike := !x.trsOk || (f.iface != 1 && !x.lnOk)
    let r := sdiIn n d
    let k := tabGet {} r.links l
    let k := { k with line := x.line, eav := x.eav, good := if strike then 0 else k.good + 1, strikes := if strike then k.strikes + 1 else 0 }
    let d := setSdiIn n { r with links := tabSet {} r.links l k, clean := r.clean && !strike } d
    let d := match x.samples with | some v => wr SDI_IN_DET_samples [n] v d | none => d
    let d := if strike ∧ (st = 1 ∨ st = 2 ∨ st = 3) then count SDI_IN_CNT2_trs_strikes [n] 1 d else d
    let d := evalSkew n s.num lanes d
    let d := if x.samples.isSome ∧ x.samples ≠ some f.samples then mismatch n s.num 2 d else d
    let st := inState n d
    let d := if st = 2 ∧ strike then enterState n s.num 1 d
      else if st = 3 ∧ 2 ≤ k.strikes then enterState n s.num 1 d
      else if st = 1 then
        if lanes.all (fun y => decide (3 ≤ (tabGet {} (sdiIn n d).links y).good)) && linksResolved lanes d && !rdB SDI_IN_ST_skew_err [n] d then
          let keep := sdiIn n d
          let d := enterState n s.num 2 d
          setSdiIn n { sdiIn n d with links := keep.links, begun := keep.begun && keep.clean, frameAt := keep.frameAt, clean := keep.clean } d
        else d
      else d
    let st := inState n d
    if st = 1 ∨ st = 4 then d
    else
      let d := if x.crcErr then countError n (count SDI_IN_CNT0_crc_lines [n] 1 (wr SDI_IN_STICKY_crc [n] 1 d)) else d
      let d := if x.edhErr then countError n (count SDI_IN_CNT0_edh_fields [n] 1 (wr SDI_IN_STICKY_edh [n] 1 d)) else d
      let link := if lanes.length ≤ 1 then 1 else rd SDI_IN_ST_link [l] d
      let d := forEach x.anc (takeAnc n s.num) d
      let d := forEach x.control (takeControl n f.iface link) d
      let d := forEach x.audio (takeAudio n s.num f.iface link s.channels) d
      if isActiveLine f x.line then addLine s.num x.line x.picture d else d

/-- One line of one link. -/
def sdiLine (l : Nat) (x : SdiLine) (d : Dev) : Dev :=
  match laneSource' l d with
  | none => d
  | some (s, lanes) =>
    let n := lanes.headD l
    let d := if x.line = 1 ∧ l = n ∧ inState n d ≠ 0 then sdiFrame n s lanes x d else d
    sdiLineBody n l s lanes x d

/-- A received ST 352 packet of input n is compared with the declaration (R206, R210). -/
def st352Body (n l : Nat) (s : SrcDesc) (lanes : List Nat) (p : Psid) (d : Dev) : Dev :=
  if inState n d = 0 then d
  else
    let f := fmtOf s.fmt d
    let d := if rdB SDI_IN_ST_psid_present [l] d && rd SDI_IN_PSID_psid [l] d != p.raw then wr SDI_IN_STICKY_psid_chg [n] 1 d else d
    let d := wr SDI_IN_ST_psid_present [l] 1 (wr SDI_IN_PSID_psid [l] p.raw (wr SDI_IN_ST_link [l] p.link (wrB SDI_IN_ST_level_b [n] p.levelB d)))
    let r := sdiIn n d
    let d := setSdiIn n { r with links := tabSet {} r.links l { tabGet {} r.links l with psidSeen := true } } d
    if p.scan ≠ f.scan then mismatch n s.num 4 d
    else if p.iface ≠ f.iface ∨ p.square ≠ f.square ∨ lanes.length < p.link then mismatch n s.num 5 d
    else if p.sampling ≠ f.sampling then mismatch n s.num 6 d
    else if p.depth ≠ f.depth then mismatch n s.num 7 d
    else d

/-- A received ST 352 packet on a lane. -/
def st352Packet (l : Nat) (p : Psid) (d : Dev) : Dev :=
  match laneSource' l d with
  | none => d
  | some (s, lanes) => st352Body (lanes.headD l) l s lanes p d

/-! ### Output (R204, R214, R220, R221) -/

/-- What SDI_OUT_ST shows of a lane: state, link, format, family, level B (R223). -/
def sdiOutStatus (l : Nat) (d : Dev) : Nat :=
  match laneDst l d with
  | none => 0
  | some x =>
    let link := (List.range x.lanes.length).find? (fun i => x.lanes.getD i 999 == l)
    let st := match (dstRun x.index d).carry with | .idle => 0 | .src _ => 1 | _ => 2
    let group := x.lanes.headD l == l
    (link.getD 0 + 1) * 16 +
      (if group then st + 256 * rd XPT_DST_FMT_fmt [x.index] d + 65536 * dstFam x.index d + (if (dstFmt x.index d).iface = 4 then 2 ^ 20 else 0) else 0)

/-- The words of blanking a line has for packets: horizontal beside the TRS, CRC and line-number words, or the active width (DESIGN CHOICE,
log entry 15: the spec leaves the room to the interface standards). -/
def ancRoom (f : Fmt) (horiz : Bool) : Nat := if horiz then f.samples - f.activeSamples - 16 else f.activeSamples

/-- A line lies in a blanking region that carries the packet's space. -/
def ancLine (f : Fmt) (horiz : Bool) (line : Nat) : Bool := decide (1 ≤ line ∧ line ≤ f.lines) && (horiz || !isActiveLine f line)

/-- The place of one packet in an output frame: its own line, or the next of the same region of the same field with room that is neither
the switching line nor the line after it (R214). `used` lists the words taken as (line, stream, horizontal). -/
def ancPlace (f : Fmt) (p : AncPkt) (used : List ((Nat × Nat × Bool) × Nat)) : Option Nat :=
  let sw := (switchLine f).getD 0
  let size := p.words.length + 7
  let taken := fun l => (used.filter (fun u => u.1 == (l, p.stream, p.horiz))).foldl (fun a u => a + u.2) 0
  let sameField := fun l => f.scan == 0 || (decide (l < f.field2Line) == decide (p.line < f.field2Line))
  (List.range' p.line (f.lines + 1 - p.line)).find? (fun l =>
    ancLine f p.horiz l && sameField l && l != sw && l != sw + 1 && decide (taken l + size ≤ ancRoom f p.horiz))

/-- Place the sidecar of the stream on air in an output's frame; packets without room are dropped (R214). -/
def sdiOutFrame (x : DstDesc) (d : Dev) : Dev :=
  let i := x.index
  let n := x.lanes.headD 0
  match (dstRun i d).carry with
  | .idle => d
  | .src _ =>
    let f := dstFmt i d
    let go := fun (acc : List ((Nat × Nat × Bool) × Nat) × Nat) (p : AncPkt) =>
      match ancPlace f p acc.1 with
      | some l => (((l, p.stream, p.horiz), p.words.length + 7) :: acc.1, acc.2)
      | none => (acc.1, acc.2 + 1)
    let drops := if rdB SDI_OUT_CFG_anc_en [n] d then ((pathAnc i d).foldl go ([], 0)).2 else 0
    if drops = 0 then d else fire 118 (count SDI_OUT_CNT_anc_drop [n] drops (wr SDI_OUT_STICKY_anc_drop [n] 1 d))
  | _ => count SDI_OUT_CNT_fill_frames [n] 1 d

end Sys2Proof.Machine
end

