-- ==== Sys2Proof/Machine/Mac.lean ====
section
/-! DEFINITION. Ethernet MACs: links, the tests of a received frame, pause, the transmit queues, timestamps (09_ethernet_mac.md). -/

namespace Sys2Proof.Machine

def macRun (m : Nat) (d : Dev) : MacRun := tabGet {} d.macs m
def setMacRun (m : Nat) (r : MacRun) (d : Dev) : Dev := { d with macs := tabSet {} d.macs m r }

/-! ### The MAC as a function (R224) -/

/-- The start check of a MAC. -/
def macCheck (m : Nat) (d : Dev) : Bool :=
  match portMode (rd MAC_CFG_speed [m] d) (rd MAC_CFG_lanes [m] d) with
  | some (mode, n) => (List.range n).all (fun i => rxMode (4 * m + i) d == mode && txMode (4 * m + i) d == mode)
  | none => false

/-- A STARTING MAC enters RUNNING when its octet is RUNNING. -/
def macRun' (m : Nat) (d : Dev) : Dev :=
  if funcState (fMac m) d = 1 ∧ running (fOct (m / 2)) d then setFuncState (fMac m) 2 d else d

/-- The MACs of an octet that has entered RUNNING. -/
def octMacs (o : Nat) (d : Dev) : Dev := macRun' (2 * o + 1) (macRun' (2 * o) d)

/-! ### Links (R225, R226) -/

def linkUp (m : Nat) (d : Dev) : Bool := rdB MAC_STATUS_link [m] d

/-- Every lane of the port is locked and, where it trains, trained. -/
def lanesReady (m : Nat) (d : Dev) : Bool :=
  (macLanes m d).all (fun l => rdB LNS_STATUS_lock [l] d && (rd LNS_STATUS_train [l] d == 3 || rd LNS_STATUS_train [l] d == 4))

/-- The port uses an FEC (R179, R224). -/
def usesFec (m : Nat) (d : Dev) : Bool := rd MAC_CFG_speed [m] d != 0 || rdB MAC_CFG_fec [m] d

/-- End any pause in force. -/
def endPause (m : Nat) (d : Dev) : Dev :=
  wr MAC_STATUS_paused [m] 0 (wr MAC_PAUSE_quanta_left [m] 0 (setMacRun m { macRun m d with pauseEnd := 0, ovfFired := false } d))

/-- Occupancy of a queue in the units of R234. -/
def queueBytes (q : List TxFrame) : Nat := (q.map (fun f => f.len + 20)).sum

/-- Show the media queue's level and the levels of the firmware and timestamp queues. -/
def showQueues (m : Nat) (d : Dev) : Dev :=
  let r := macRun m d
  let kib := ceilDiv (queueBytes r.media) 1024
  let d := wr MAC_TXQ_level_kib [m] kib d
  let d := if rd MAC_TXQ_high_kib [m] d < kib then wr MAC_TXQ_high_kib [m] kib d else d
  wr MAC_STATUS_ts_level [m] r.stamps.length (wr MAC_STATUS_fw_q_level [m] r.firmware.length d)

/-- The link comes up once lanes, PCS and FEC are locked (R225). -/
def linkComesUp (m : Nat) (d : Dev) : Dev :=
  if running (fMac m) d && lanesReady m d && !linkUp m d && !inSafe d then
    wr MAC_STATUS_link [m] 1 (wr MAC_STATUS_pcs_aligned [m] 1 (wrB MAC_STATUS_fec_lock [m] (usesFec m d) (wr MAC_STATUS_rx_rfault [m] 0 d)))
  else d

/-- The link goes down (R225, R226): the transmit queues are discarded and any pause ends; outside safe state the loss is flagged and counted. -/
def linkGoesDown (m : Nat) (d : Dev) : Dev :=
  if linkUp m d then
    let d := wr MAC_STATUS_link [m] 0 (wr MAC_STATUS_pcs_aligned [m] 0 (wr MAC_STATUS_fec_lock [m] 0 d))
    let d := showQueues m (setMacRun m { macRun m d with media := [], mgmt := [] } (endPause m d))
    if running (fMac m) d && !inSafe d then fire 128 (count MAC_CNT1_link_downs [m] 1 (wr MAC_STICKY_link_down [m] 1 d)) else d
  else d

/-- A MAC begins to stop: its link goes down without being a loss of a RUNNING MAC, and its queues empty. -/
def macStop (m : Nat) (d : Dev) : Dev := showQueues m (setMacRun m {} (linkGoesDown m d))

/-- A lane of a port lost lock (R198, R225). -/
def macLaneLoss (l : Nat) (d : Dev) : Dev := if (macLanes (l / 4) d).contains l then linkGoesDown (l / 4) d else d

/-! ### Pause (R235, R236) -/

/-- Bits per second of a port speed. -/
def portRate (m : Nat) (d : Dev) : Nat :=
  let s := rd MAC_CFG_speed [m] d
  if s = 0 then 25000000000 else if s = 1 then 50000000000 else if s = 2 then 100000000000 else if s = 3 then 200000000000 else 400000000000

/-- The length of some quanta of 512 bit times, in units of 2^-44 nib. -/
def quantaUnits (m q : Nat) (d : Dev) : Nat := q * 512 * secUnits / portRate m d

/-- A consumed pause frame (R235): with pause_en it pauses transmission, replaces the pause in force, or with no quanta ends it. -/
def pauseFrame (m quanta : Nat) (d : Dev) : Dev :=
  let d := count MAC_CNT0_pause_rx [m] 1 (wr MAC_STICKY_pause_seen [m] 1 d)
  let held := rdB MAC_STATUS_paused [m] d
  if !rdB MAC_PAUSE_pause_en [m] d then fire 133 d
  else if quanta = 0 then fire 133 (endPause m d)
  else
    let d := wr MAC_STATUS_paused [m] 1 (wr MAC_PAUSE_quanta_left [m] quanta d)
    fire 133 (setMacRun m { macRun m d with pauseEnd := d.devTime + quantaUnits m quanta d, ovfFired := held && (macRun m d).ovfFired } d)

/-- Quanta left of the pause in force, rounded up (R242). -/
def quantaLeft (m : Nat) (d : Dev) : Nat :=
  if rdB MAC_STATUS_paused [m] d then ceilDiv (((macRun m d).pauseEnd - d.devTime) * portRate m d) (512 * secUnits) else 0

/-- A pause's time expires and transmission resumes (R235). -/
def pauseExpiry (m : Nat) (d : Dev) : Dev :=
  if rdB MAC_STATUS_paused [m] d then endPause m (advanceDev (macRun m d).pauseEnd d) else d

/-- A write of pause_en: 0 ends a pause in force (R235). -/
def pauseEnWrite (m : Nat) (en : Bool) (d : Dev) : Dev :=
  let d := wrB MAC_PAUSE_pause_en [m] en d
  if en || !rdB MAC_STATUS_paused [m] d then d else endPause m d

/-! ### Transmission (R232 to R236) -/

/-- The length on the wire: padded to 60 bytes without FCS (R232). -/
def paddedLen (n : Nat) : Nat := max 64 n

/-- Offer a media frame: stored, or dropped where it does not fit, which can only happen during a pause (R234, R236). The answer says
whether it was dropped. While the link is down the queue's contents are discarded (R225). -/
def offerMedia (m : Nat) (f : TxFrame) (d : Dev) : Dev × Bool :=
  if !linkUp m d then (d, false)
  else
    let r := macRun m d
    if queueBytes r.media + f.len + 20 ≤ 524288 then (showQueues m (setMacRun m { r with media := r.media ++ [f] } d), false)
    else
      let first := !r.ovfFired
      let d := wr MAC_STICKY_pause_ovf [m] 1 (setMacRun m { r with ovfFired := true } d)
      (if first then fire 129 d else d, true)

/-- Firmware queues a frame, if the management queue has room for it (R234). -/
def offerMgmt (m : Nat) (f : TxFrame) (d : Dev) : Dev :=
  let r := macRun m d
  if linkUp m d && decide (queueBytes r.mgmt + f.len + 20 ≤ 32768) then setMacRun m { r with mgmt := r.mgmt ++ [f] } d else d

/-- Record a marked frame's timestamp, or lose it when all 64 entries are occupied (R239, R240). -/
def stampFrame (m tag instant : Nat) (d : Dev) : Dev :=
  let r := macRun m d
  if r.stamps.length < 64 then
    let t := ((instant : Int) + rdS MAC_TS_ADJ_tx_adj [m] d).toNat
    showQueues m (setMacRun m { r with stamps := r.stamps ++ [(tag, ntwWord (unitsOfNib t))] } d)
  else fire 130 (count MAC_CNT1_ts_lost [m] 1 (wr MAC_STICKY_ts_ovf [m] 1 d))

/-- At a frame boundary on the wire the MAC takes the next frame, the management queue first (R232, R235). -/
def transmitFrame (m : Nat) (d : Dev) : Dev × Option TxFrame :=
  if !linkUp m d || rdB MAC_STATUS_paused [m] d || inSafe d then (d, none)
  else
    let r := macRun m d
    match r.mgmt, r.media with
    | f :: rest, _ =>
      let d := setMacRun m { r with mgmt := rest } d
      ((match f.mark with | some tag => stampFrame m tag (nibOf d.ntw) d | none => d), some { f with len := paddedLen f.len })
    | [], f :: rest => (showQueues m (setMacRun m { r with media := rest } d), some { f with len := paddedLen f.len })
    | [], [] => (d, none)

/-- Firmware reads and frees a timestamp entry (R239). -/
def freeStamp (m : Nat) (d : Dev) : Dev :=
  let r := macRun m d
  showQueues m (setMacRun m { r with stamps := r.stamps.drop 1 } d)

/-! ### The tests of a received frame (R228) -/

/-- The fate of a received frame: rows 1 to 4 of R228, or offered to the consumers. -/
inductive RxFate where
  | runt
  | oversize
  | fcs
  | pause
  | offered
  deriving DecidableEq, Repr

/-- The pause group address 01-80-C2-00-00-01. -/
def pauseAddr : Nat := 0x0180C2000001

/-- Rows 1 to 4 of R228, from the top. `ctl`: the opcode where the EtherType is 0x8808. -/
def rxFate (len maxFrame dmac own : Nat) (bad : Bool) (ctl : Option Nat) : RxFate :=
  if len < 64 then .runt
  else if maxFrame < len then .oversize
  else if bad then .fcs
  else if ctl = some 1 ∧ (dmac = pauseAddr ∨ dmac = own) then .pause
  else .offered

/-- Drop a frame that no consumer takes (R228 row 5, R230). -/
def dropUnknown (m : Nat) (d : Dev) : Dev := count MAC_CNT1_unknown_flow [m] 1 d

/-- Give a frame to firmware, if its queue of 64 has room (R230). -/
def toFirmware (m kind arrival : Nat) (d : Dev) : Dev :=
  let r := macRun m d
  if r.firmware.length < 64 then showQueues m (setMacRun m { r with firmware := r.firmware ++ [(kind, arrival)] } d) else dropUnknown m d

end Sys2Proof.Machine
end

