-- ==== Sys2Proof/Machine/Flows.lean ====
section
/-! DEFINITION. Media flows: classification, release, merge, loss, transmission and multicast membership (10_media_flows.md). -/

namespace Sys2Proof.Machine

def rxRun (e : Nat) (d : Dev) : RxRun := tabGet {} d.flw.rx e
def setRxRun (e : Nat) (r : RxRun) (d : Dev) : Dev := { d with flw := { d.flw with rx := tabSet {} d.flw.rx e r } }
def txRun (e : Nat) (d : Dev) : TxRun := tabGet {} d.flw.tx e
def setTxRun (e : Nat) (r : TxRun) (d : Dev) : Dev := { d with flw := { d.flw with tx := tabSet {} d.flw.tx e r } }

/-! ### Classification (R245 to R248) -/

/-- CRC-32C, reflected, one bit and one byte at a time (R246). -/
def crcBit (c : Nat) : Nat := if c % 2 = 1 then Nat.xor (c / 2) 0x82F63B78 else c / 2
def crcByte (c b : Nat) : Nat := forUpTo 8 (fun _ c => crcBit c) (Nat.xor c b)
def crc32c (bytes : List Nat) : Nat := Nat.xor (bytes.foldl crcByte 0xFFFFFFFF) 0xFFFFFFFF

/-- The n bytes of a number in network order. -/
def beBytes (n x : Nat) : List Nat := (List.range n).map (fun i => x / 256 ^ (n - 1 - i) % 256)

/-- An address in the key: IPv4 in mapped form; a field taken as "any" is zero (R246). -/
def keyAddr (v6 : Bool) (a : Option Nat) : Nat :=
  match a with
  | none => 0
  | some x => if v6 then x else 0xFFFF * 2 ^ 32 + x

/-- The classification key (R246). -/
def flowKey (mac : Nat) (vlan : Option Nat) (v6 : Bool) (dst : Nat) (src : Option Nat) (dport : Nat) (sport : Option Nat) : List Nat :=
  [mac, (if vlan.isSome then 128 else 0) + (if v6 then 16 else 0)] ++ beBytes 2 (vlan.getD 0 % 4096) ++ beBytes 16 (keyAddr v6 (some dst))
    ++ beBytes 16 (keyAddr v6 src) ++ beBytes 2 dport ++ beBytes 2 (sport.getD 0)

/-- The bucket of a key (R246). -/
def flowBucket (key : List Nat) : Nat := let c := crc32c key; Nat.xor (c / 65536) (c % 65536)

/-- The key of a leg, with zero for each field it takes as "any". -/
def legKey (l : Leg) : List Nat := flowKey l.mac l.vlan l.v6 l.dst l.src l.dport l.sport

/-- The lookup pass that serves a leg (R247). -/
def legPass (l : Leg) : Nat := if l.src.isNone then 3 else if l.sport.isNone then 2 else 1

/-- Way w of a bucket: its entry and leg, where it is in use (R285). -/
def bucketWay (b w : Nat) (d : Dev) : Option (Nat × Nat) :=
  let x := rd FLW_BKT_ways [b] d / 65536 ^ w % 65536
  if Nat.testBit x 15 then some (x % 16384, x / 16384 % 2) else none

/-- Set or clear a way. -/
def setWay (b w : Nat) (x : Option (Nat × Nat)) (d : Dev) : Dev :=
  let old := rd FLW_BKT_ways [b] d
  let v := match x with | some (e, g) => 32768 + 16384 * g + e | none => 0
  wr FLW_BKT_ways [b] (old - old / 65536 ^ w % 65536 * 65536 ^ w + v * 65536 ^ w) d

/-- A free way of a bucket. -/
def freeWay (b : Nat) (d : Dev) : Option Nat := (List.range 4).find? (fun w => (bucketWay b w d).isNone)

/-- The leg of a descriptor that a way names. -/
def wayLeg (p : Nat × Nat) (d : Dev) : Option Leg := (rxRun p.1 d).desc.legs[p.2]?

/-- One lookup pass (R247). -/
def lookupPass (pass : Nat) (key : List Nat) (d : Dev) : Option (Nat × Nat) :=
  (List.range 4).findSome? (fun w =>
    match bucketWay (flowBucket key) w d with
    | some p => (wayLeg p d).bind (fun l => if legKey l = key ∧ legPass l = pass then some p else none)
    | none => none)

/-- The entry and leg a packet finds, in up to three passes (R247). -/
def classify (mac : Nat) (vlan : Option Nat) (p : IpPkt) (d : Dev) : Option (Nat × Nat) :=
  (lookupPass 1 (flowKey mac vlan p.v6 p.dst (some p.src) p.dport (some p.sport)) d).orElse (fun _ =>
    (lookupPass 2 (flowKey mac vlan p.v6 p.dst (some p.src) p.dport none) d).orElse (fun _ =>
      lookupPass 3 (flowKey mac vlan p.v6 p.dst none p.dport none) d))

/-- The flow engine accepts the packet (R245). -/
def flowAccepts (p : IpPkt) : Bool := p.hdrOk && !p.fragment && p.udp && p.sumOk && p.rtp.isSome

/-! ### Settings of a receive flow (R249 to R252) -/

def rxFmt (x : RxDesc) (d : Dev) : Fmt := fmtOf (x.fmt.getD 0) d
def rxPeriod (x : RxDesc) (d : Dev) : Nat := famPeriod (x.fam.getD 0) d
def rxLinePeriod (x : RxDesc) (d : Dev) : Nat := linePeriod (rxFmt x d) (rxPeriod x d)
def rxTs (x : RxDesc) : Nat := samplePeriod (x.rate.getD 1)
def isAudio (kind : Nat) : Bool := kind == 1 || kind == 2
def isPicture (kind : Nat) : Bool := kind == 0 || kind == 4

/-- The media clock period of a kind (R42). -/
def clockOf (kind rate : Nat) : Nat := if isAudio kind then samplePeriod rate else if kind = 4 then 1960 else 588000

/-- Dr of a -20 flow (R251). -/
def dr20 (rxType npk troAdj p lines active : Nat) : Nat :=
  let pl := if lines = 0 then p else p / lines
  let n := max 1 npk
  if rxType = 0 then 2 * pl + max 8 (n * Config.nibsPerSec / (27000 * max 1 p)) * (p * active / (max 1 lines * n)) + troAdj
  else
    let base := (lines - active + 2) * pl
    let vrx := if rxType = 1 then max 8 (n * Config.nibsPerSec / (27000 * max 1 p)) else max 720 (n * Config.nibsPerSec / (300 * max 1 p))
    base + vrx * (p / n) + troAdj

/-- The audio receive buffer setting in samples (R582: 3 × spp by default). -/
def rxDra (x : RxDesc) : Nat := x.dra.getD (3 * x.spp.getD 48)

/-- The receive buffer setting of a flow by itself, in nib: Dr, dra or dr_op (R250, R251). -/
def rxBuffer (x : RxDesc) (d : Dev) : Nat :=
  let f := rxFmt x d
  let p := rxPeriod x d
  if x.kind = 0 then dr20 (x.rxType.getD 0) (x.npackets.getD 1) x.troAdj p f.lines f.activeLines
  else if x.kind = 4 then 2 * rxLinePeriod x d + 8 * (p / max 1 (x.npackets.getD 1))
  else if x.kind = 3 then 2 * rxLinePeriod x d
  else if x.kind = 5 then x.drOp.getD 0
  else rxDra x * rxTs x

/-- The picture flow of a source. -/
def pictureOf (src : Nat) (d : Dev) : Option RxDesc := (srcDesc src d).bind (fun s => s.rx.find? (fun x => isPicture x.kind))

/-- Receive buffer setting plus window; a -40 flow takes those of the picture flow of its source (R250). -/
def rxDelay (x : RxDesc) (d : Dev) : Nat :=
  match (if x.kind = 3 then pictureOf x.source d else none) with
  | some q => rxBuffer q d + q.window
  | none => rxBuffer x d + x.window

/-- The horizon of R252. -/
def rxHorizon (x : RxDesc) (d : Dev) : Nat :=
  if isAudio x.kind then rxDelay x d + x.spp.getD 48 * rxTs x
  else if x.kind = 5 then rxDelay x d + rxLinePeriod x d
  else rxDelay x d + 2 * rxLinePeriod x d

/-! ### What a packet names -/

/-- The line a row of a -20 payload is: row r of the field or segment. -/
def rowLine (f : Fmt) (r : VidRow) : Nat := (((activeRuns f)[if r.second then 1 else 0]?).map (·.1)).getD 1 + r.row

/-- The line an ANC packet is placed with: the unspecified number as the first line of its field (R259; log entry 16). -/
def ancLineOf (f : Fmt) (second : Bool) (p : AncPkt) : Nat := if p.line = 0x7FF then (if second then f.field2Line else 1) else p.line

/-- The last line a packet carries or names. -/
def lastLine (f : Fmt) (x : RtpPayload) : Nat :=
  match x with
  | .video _ rows => (rows.map (rowLine f)).foldl max 1
  | .anc second pkts => (pkts.map (ancLineOf f second)).foldl max (if second then f.field2Line else 1)
  | .sdi lines _ => (lines.map (·.line)).foldl max 1
  | _ => 1

/-- The first line a packet carries. -/
def firstLine (f : Fmt) (x : RtpPayload) : Nat :=
  match x with
  | .video _ rows => (rows.map (rowLine f)).foldl min (lastLine f x)
  | .sdi lines _ => (lines.map (·.line)).foldl min (lastLine f x)
  | _ => 1

/-- The packet belongs to the second field or segment. -/
def inSecond (x : RtpPayload) : Bool :=
  match x with
  | .video _ rows => rows.any (·.second)
  | .anc second _ => second
  | _ => false

/-- The content agrees with the descriptor (R258, R260). -/
def contentOk (x : RxDesc) (y : RtpPayload) (d : Dev) : Bool :=
  let f := rxFmt x d
  match x.kind, y with
  | 0, .video _ rows => decide (1 ≤ rows.length ∧ rows.length ≤ 3) && rows.all (fun r =>
      decide (r.row < (((activeRuns f)[if r.second then 1 else 0]?).map (·.2)).getD 0) && decide (r.offset + r.pixels.length ≤ f.activeSamples))
  | 1, .audio s _ => s.length == x.channels.getD 0 && s.all (fun c => c.length == x.spp.getD 0)
  | 2, .audio s _ => s.length == x.channels.getD 0 && s.all (fun c => c.length == x.spp.getD 0)
  | 3, .anc _ _ => true
  | 4, .sdi _ _ => true
  | 5, _ => true
  | 6, _ => true
  | _, _ => false

/-- The instant t of a packet with offset 0: its timestamp unwrapped, moved back to L1.S0 for a second field (R249, R250). -/
def packetTime (x : RxDesc) (p : RtpPkt) (arrival : Nat) (d : Dev) : Int :=
  let c := clockOf x.kind (x.rate.getD 1)
  let t := unwrapTicks p.ts c arrival * (c : Int)
  if inSecond p.payload && !isAudio x.kind && x.kind != 5 then t - ((rxFmt x d).field2Line - 1) * rxLinePeriod x d else t

/-- A packet's release, from the instant t it stands for (R250). -/
def packetRelease' (x : RxDesc) (y : RtpPayload) (t : Int) (arrival : Nat) (d : Dev) : Int :=
  if x.kind = 5 then arrival + rxDelay x d + rxLinePeriod x d
  else if isAudio x.kind then t + rxDelay x d
  else t + (lastLine (rxFmt x d) y - 1) * rxLinePeriod x d + rxDelay x d

/-! ### Extended numbers (R255, R256) -/

/-- The value congruent to a 16-bit number that lies nearest to prev + 1, ties to the earlier (R255). -/
def extendSeq (prev : Option Nat) (s : Nat) : Nat :=
  match prev with
  | none => s % 65536
  | some q =>
    let r : Nat := (q + 1) % 2 ^ 32
    let delta : Int := ((s : Int) - r) % 65536
    let near : Int := if delta < 32768 then delta else delta - 65536
    (((r : Int) + near) % (4294967296 : Int)).toNat

/-! ### Arrival error and the entry (R253, R283) -/

/-- Show e (or o for audio) and aligned of an entry, and tell the source's slots. -/
def showArrival (e : Nat) (t : Int) (p : RtpPkt) (arrival : Nat) (d : Dev) : Dev :=
  let r := rxRun e d
  let x := r.desc
  let sat := fun (v : Int) => clampI (-(2 ^ 31)) (2 ^ 31 - 1) v
  if isAudio x.kind then wrS FLW_RX_e_o [e] (sat r.o) d
  else
    let fam := x.fam.getD 0
    let c := clockOf x.kind 1
    let back := if inSecond p.payload && x.kind != 5 then ((rxFmt x d).field2Line - 1) * rxLinePeriod x d else 0
    let ticks : Int := unwrapTicks p.ts c arrival * (c : Int) - (back : Int)
    let ts := (ticks / (c : Int) % 4294967296).toNat
    let isFrame := match rtpToFrame ts c (rxPeriod x d) (famAlignNib fam d) arrival with | .frame _ => true | _ => false
    let aligned := isFrame && decide (r.o = 0)
    let err : Int := if aligned then 0 else reduceError t (rxPeriod x d)
    let d := wrS FLW_RX_e_o [e] (sat err) (wrB FLW_RX_aligned [e] aligned d)
    if isPicture x.kind || x.kind == 5 || (pictureOf x.source d).isNone then setArrival x.source err d else d

/-! ### Loss and recovery (R263, R264) -/

/-- The first channel of a flow within the channel group of its source (R243). -/
def flowChannel (x : RxDesc) (d : Dev) : Nat :=
  match srcDesc x.source d with
  | some s => (((s.rx.takeWhile (fun y => y != x)).filter (fun y => isAudio y.kind)).map (fun y => y.channels.getD 0)).sum
  | none => 0

/-- A flow's channels become absent. -/
def absentFlow (x : RxDesc) (d : Dev) : Dev :=
  forUpTo (x.channels.getD 0) (fun j d => match chanOf x.source (flowChannel x d + j) d with | some c => setChan c {} d | none => d) d

/-- Receive entries that build a source. -/
def sourceEntries (src : Nat) (d : Dev) : List Nat := (d.flw.rx.filter (fun p => p.2.desc.source == src && p.2.desc.kind != 6)).map (·.1)

/-- Whether the loss of an entry is the loss of its source: its picture or opaque flow, or, of a source without a picture, its last flow
(DEDUCED, log entry 17). -/
def losesSource (e : Nat) (d : Dev) : Bool :=
  let x := (rxRun e d).desc
  if isPicture x.kind || x.kind == 5 then true
  else (pictureOf x.source d).isNone && (sourceEntries x.source d).all (fun k => rdB FLW_RX_lost [k] d)

/-- What loss does to the content the flow feeds. -/
def lossContent (e : Nat) (d : Dev) : Dev :=
  let x := (rxRun e d).desc
  let d := if isAudio x.kind then absentFlow x d
    else if x.kind = 3 then setSrcRun x.source { srcRun x.source d with anc := [], ancDone := [] } d else d
  if losesSource e d then declareLoss x.source d else d

/-- Forget the timing of a lost flow: it acquires again at its next accepted packet (R249). -/
def forgetTiming (r : RxRun) : RxRun :=
  { r with acquired := false, o := 0, off := 0, pend := [], next := none, samples := [], flow := {}, leg0 := { r.leg0 with empty := 0, good := 0 },
           leg1 := { r.leg1 with empty := 0, good := 0 } }

/-- A receive flow is lost (R263). -/
def flowLost (e : Nat) (d : Dev) : Dev :=
  if rdB FLW_RX_lost [e] d || !rdB FLW_RX_valid [e] d then setRxRun e (forgetTiming (rxRun e d)) d
  else
    let d := wr FLW_RX_lost [e] 1 (wr FLW_RX_leg0_ok [e] 0 (wr FLW_RX_leg1_ok [e] 0 d))
    let d := wr FLW_STATUS_flow_lost [] 1 (count FLW_LOSS_CNT_flows [] 1 (wr FLW_LAST_entry [] e (wr FLW_LAST_leg [] 0 d)))
    let d := lossContent e (setRxRun e (forgetTiming (rxRun e d)) d)
    fire 144 d

/-- A receive flow recovers. -/
def flowRecovers (e : Nat) (d : Dev) : Dev :=
  if rdB FLW_RX_lost [e] d then
    let x := (rxRun e d).desc
    let d := wr FLW_RX_lost [e] 0 d
    if isPicture x.kind || x.kind == 5 || (pictureOf x.source d).isNone then declareRecovery x.source d else d
  else d

/-- The registers of leg g. -/
def legOk (g : Nat) : Fld := if g = 0 then FLW_RX_leg0_ok else FLW_RX_leg1_ok
def legPkts (g : Nat) : Fld := if g = 0 then FLW_RX_leg0_pkts else FLW_RX_leg1_pkts
def legSeqErr (g : Nat) : Fld := if g = 0 then FLW_RX_leg0_seq_err else FLW_RX_leg1_seq_err

/-- Leg g of entry e. -/
def legRun (g : Nat) (r : RxRun) : LegRun := if g = 0 then r.leg0 else r.leg1
def setLeg (g : Nat) (l : LegRun) (r : RxRun) : RxRun := if g = 0 then { r with leg0 := l } else { r with leg1 := l }

/-- A leg meets the loss rule: while the flow is present it is counted and FS0145 fires (R264). -/
def legLost (e g : Nat) (d : Dev) : Dev :=
  if rdB (legOk g) [e] d then
    let d := wr (legOk g) [e] 0 d
    if rdB FLW_RX_protected [e] d && rdB (legOk (1 - g)) [e] d then
      fire 145 (wr FLW_STATUS_leg_lost [] 1 (count FLW_LOSS_CNT_legs [] 1 (wr FLW_LAST_entry [] e (wr FLW_LAST_leg [] g d))))
    else d
  else d

/-- How many empty release units in succession lose a flow (R263). -/
def lossUnits (x : RxDesc) : Nat := if isAudio x.kind then max 4 (ceilDiv 52920000 (x.spp.getD 48 * rxTs x)) else 2

/-- How many units with a packet in succession make it recover; 0 where a whole frame does (R263). -/
def recoverUnits (x : RxDesc) : Nat := if isAudio x.kind then 4 else if isPicture x.kind then 0 else 1

/-- Account one release unit: `legs` says which legs delivered a packet of it (bit g). -/
def accountUnit (e legs : Nat) (d : Dev) : Dev :=
  let r := rxRun e d
  let x := r.desc
  let stepL := fun (got : Bool) (l : LegRun) => { l with empty := if got then 0 else l.empty + 1, good := if got then l.good + 1 else 0 }
  let r := { r with flow := stepL (legs != 0) r.flow, leg0 := stepL (Nat.testBit legs 0) r.leg0, leg1 := stepL (Nat.testBit legs 1) r.leg1 }
  let d := setRxRun e r d
  let n := lossUnits x
  let m := recoverUnits x
  if n ≤ r.flow.empty then flowLost e d
  else
    let d := forUpTo x.legs.length (fun g d =>
      let l := legRun g r
      let d := if n ≤ l.empty then legLost e g d else d
      if m ≠ 0 ∧ m ≤ l.good then wr (legOk g) [e] 1 d else d) d
    if m ≠ 0 ∧ m ≤ r.flow.good then flowRecovers e d else d

/-! ### Reception of one packet (R247 to R257) -/

/-- Take o for a packet, and begin the flow's release units with it (R249). -/
def acquire (e : Nat) (p : RtpPkt) (arrival : Nat) (d : Dev) : Dev :=
  let r := rxRun e d
  let x := r.desc
  let t0 := packetTime x p arrival d
  let r0 := packetRelease' x p.payload t0 arrival d
  let o : Int :=
    if x.kind = 5 ∨ ((arrival : Int) ≤ r0 ∧ r0 ≤ arrival + rxHorizon x d) then 0
    else
      let w := (arrival : Int) + rxBuffer x d / 2 - r0
      if isAudio x.kind then w.tdiv (rxTs x) * rxTs x else w
  let f := rxFmt x d
  let base := (t0 + o).toNat
  let unit := if x.kind = 0 ∨ x.kind = 4 then firstLine f p.payload else if x.kind = 3 ∧ inSecond p.payload then 2 else 1
  let whole := decide (unit = if x.kind = 0 then firstActiveLine f else 1)
  setRxRun e { r with acquired := true, o := o, off := 0, base := base, unit := unit, next := none, pend := [],
                      flow := { r.flow with empty := 0, whole := whole }, leg0 := { r.leg0 with whole := whole }, leg1 := { r.leg1 with whole := whole } } d

/-- A packet discarded for its content (R258, R260). -/
def badContent (e : Nat) (d : Dev) : Dev := fire 149 (wr FLW_STATUS_content [] 1 (countWrap FLW_RX_discard [e] 1 d))

/-- A late or early packet: at the fourth in succession the flow re-centres (R249, R252). -/
def outOfTime (e : Nat) (late : Bool) (p : RtpPkt) (arrival : Nat) (d : Dev) : Dev :=
  let d := if late then wr FLW_STATUS_late [] 1 (countWrap FLW_RX_late [e] 1 d) else wr FLW_STATUS_early [] 1 (countWrap FLW_RX_discard [e] 1 d)
  let d := firePerSecond 147 (65536 + e) d
  let r := rxRun e d
  let d := setRxRun e { r with off := r.off + 1 } d
  if r.off + 1 < 4 then d
  else
    let d := fire 146 (wr FLW_STATUS_recentre [] 1 (countWrap FLW_RX_recentres [e] 1 (acquire e p arrival d)))
    let r := rxRun e d
    showArrival e (packetTime r.desc p arrival d + r.o) p arrival d

/-- Keep a packet for its release, or note a second copy (R257). -/
def mergeCopy (e g ext : Nat) (release base : Nat) (p : RtpPkt) (d : Dev) : Dev :=
  let r := rxRun e d
  if r.pend.any (fun q => q.ext == ext) then
    setRxRun e { r with pend := r.pend.map (fun q => if q.ext == ext then { q with legs := Nat.lor q.legs (2 ^ g) } else q) } d
  else
    setRxRun e { r with pend := r.pend ++ [{ ext := ext, legs := 2 ^ g, release := release, base := base, ts := p.ts, marker := p.marker, payload := p.payload }] } d

/-- A packet that has passed the tests on SSRC and sequence. -/
def acceptPacket (e g ext : Nat) (p : RtpPkt) (arrival : Nat) (d : Dev) : Dev :=
  let x := (rxRun e d).desc
  if !contentOk x p.payload d then badContent e d
  else
    let d := if (rxRun e d).acquired then d else acquire e p arrival d
    let r := rxRun e d
    let t := packetTime x p arrival d + r.o
    let rel := packetRelease' x p.payload t arrival d
    let d := if x.kind = 4 ∧ inState (flowFramer e) d = 0 then enterState (flowFramer e) x.source 1 d else d
    if rel < arrival then outOfTime e true p arrival d
    else if (arrival : Int) + rxHorizon x d < rel then outOfTime e false p arrival d
    else
      let d := setRxRun e { rxRun e d with off := 0, arrived := arrival } d
      showArrival e t p arrival (mergeCopy e g ext rel.toNat t.toNat p d)

/-- An RTP packet that has found leg g of entry e (R247, R248, R255, R256). -/
def flowPacket (e g : Nat) (p : RtpPkt) (arrival : Nat) (d : Dev) : Dev :=
  let r := rxRun e d
  let x := r.desc
  if x.ssrc.isSome ∧ x.ssrc ≠ some p.ssrc then
    fire 148 (wr FLW_STATUS_ssrc [] 1 (countWrap FLW_RX_discard [e] 1 d))
  else
    let d := countWrap (legPkts g) [e] 1 d
    let l := legRun g r
    let near := match l.prev with | some q => some q | none => (legRun (1 - g) r).prev
    let ext := match p.payload with
      | .video hi _ => if x.kind = 0 then (hi * 65536 + p.seq) % 2 ^ 32 else extendSeq near p.seq
      | _ => extendSeq near p.seq
    let delta := match l.prev with | some q => ((ext : Int) - q) % 2 ^ 32 | none => 1
    if delta = 0 ∨ 2 ^ 31 ≤ delta then countWrap (legSeqErr g) [e] 1 d
    else
      let d := if delta = 1 then d else countWrap (legSeqErr g) [e] 1 d
      acceptPacket e g ext p arrival (setRxRun e (setLeg g { l with prev := some ext } r) d)

/-- A packet offered to the flow engine; the answer is whether some entry took it (R245, R247, R248). In-band control flows are told apart
by the caller. -/
def flowReceive (mac : Nat) (vlan : Option Nat) (p : IpPkt) (arrival : Nat) (d : Dev) : Option (Nat × Nat) :=
  if !flowAccepts p then none
  else
    match classify mac vlan p d with
    | some (e, g) =>
      let r := rxRun e d
      if decide (r.since ≤ arrival) && (match r.until_ with | some u => decide (arrival < u) | none => true) then some (e, g) else none
    | none => none

/-! ### Release (R250, R257 to R262) -/

/-- Count the numbers no leg delivered among released packets, and judge whether the frame in progress lacks anything (R257, R263). -/
def releaseCheck (e : Nat) (due : List RxPend) (d : Dev) : Dev :=
  let r := rxRun e d
  let start := r.next.getD ((due.map (·.ext)).headD 0)
  let key := fun (q : RxPend) => (((q.ext : Int) - start) % 2 ^ 32).toNat
  let sorted := sortBy key due
  let go := fun (acc : Nat × Nat) (q : RxPend) =>
    let k := key q
    if k < acc.1 ∨ 2 ^ 31 ≤ k then acc else (k + 1, acc.2 + (k - acc.1))
  let out := sorted.foldl go (0, 0)
  let gaps := out.2
  let lacks := fun (g : Nat) => gaps != 0 || due.any (fun q => !Nat.testBit q.legs g)
  let r := { r with
    next := if due.isEmpty then r.next else some ((start + out.1) % 2 ^ 32)
    flow := { r.flow with whole := r.flow.whole && gaps == 0 }
    leg0 := { r.leg0 with whole := r.leg0.whole && !lacks 0 }
    leg1 := { r.leg1 with whole := r.leg1.whole && !lacks 1 } }
  countWrap FLW_RX_missing [e] gaps (setRxRun e r d)

/-- Take the packets whose release has come out of the queue. -/
def takeDue (e now : Nat) (d : Dev) : Dev × List RxPend :=
  let r := rxRun e d
  let due := r.pend.filter (fun q => decide (q.release ≤ now))
  (releaseCheck e due (setRxRun e { r with pend := r.pend.filter (fun q => decide (now < q.release)) } d), due)

/-- The legs that delivered some packet of a list. -/
def legsOf (qs : List RxPend) : Nat := qs.foldl (fun a q => Nat.lor a q.legs) 0

/-- Lay pixels over a line. -/
def overlay (line : List Px) (off : Nat) (px : List Px) : List Px := line.take off ++ px ++ line.drop (off + px.length)

/-- A line of a -20 flow, completed from the previous line of its field, or from black (R258). -/
def lineFrom (f : Fmt) (prev : Option (List Px)) (line : Nat) (qs : List RxPend) : List Px :=
  let base := prev.getD (List.replicate f.activeSamples (blackPx f))
  qs.foldl (fun acc q => match q.payload with
    | .video _ rows => rows.foldl (fun acc r => if rowLine f r = line then overlay acc r.offset r.pixels else acc) acc
    | _ => acc) base

/-- A packet carries something of a line. -/
def onLine (f : Fmt) (line : Nat) (q : RxPend) : Bool :=
  match q.payload with
  | .video _ rows => rows.any (fun r => rowLine f r == line)
  | .sdi lines _ => lines.any (fun x => x.line == line)
  | _ => false

/-- The active line after another; past the last, lines + 1 stands for the end of the frame. -/
def nextUnit (f : Fmt) (kind line : Nat) : Nat :=
  if kind = 4 then line + 1
  else
    match (List.range' (line + 1) (f.lines - line)).find? (isActiveLine f) with
    | some l => l
    | none => f.lines + 1

/-- The release instant of the next unit of a picture flow. -/
def lineInstant (x : RxDesc) (r : RxRun) (d : Dev) : Nat :=
  let f := rxFmt x d
  r.base + (if r.unit ≤ f.lines then (r.unit - 1) * rxLinePeriod x d else rxPeriod x d) + rxDelay x d

/-- The first line of a frame that a picture flow releases. -/
def unitStart (f : Fmt) (kind : Nat) : Nat := if kind = 4 then 1 else firstActiveLine f

/-- The end of a frame of a picture flow: recovery after a whole frame, and the next frame's instant (R263). -/
def endFlowFrame (e : Nat) (d : Dev) : Dev :=
  let r := rxRun e d
  let x := r.desc
  let d := if x.kind = 0 ∧ r.flow.whole then flowRecovers e d else d
  let d := forUpTo x.legs.length (fun g d => if (legRun g r).whole then wr (legOk g) [e] 1 d else d) d
  let d := if x.kind = 0 then endSourceFrame x.source d else d
  let p := rxPeriod x d
  let r := rxRun e d
  let later := (r.pend.map (·.base)).filter (fun b => decide (r.base + p / 2 < b ∧ b < r.base + p + p / 2))
  let base := later.headD (r.base + p)
  let d := setRxRun e { r with base := base, unit := unitStart (rxFmt x d) x.kind, flow := { r.flow with whole := true },
                               leg0 := { r.leg0 with whole := true }, leg1 := { r.leg1 with whole := true } } d
  if x.kind = 0 then beginSourceFrame x.source base d else d

/-- The release of one line of a -20 flow. -/
def releaseLine (e now : Nat) (d : Dev) : Dev :=
  let r := rxRun e d
  let x := r.desc
  let f := rxFmt x d
  let qs := r.pend.filter (onLine f r.unit)
  let prev := ((srcRun x.source d).pic.find? (fun q => q.1 + 1 == r.unit)).map (·.2)
  let d := addLine x.source r.unit (lineFrom f prev r.unit qs) d
  let d := (takeDue e now d).1
  let d := setRxRun e { rxRun e d with unit := nextUnit f 0 r.unit } d
  accountUnit e (legsOf qs) d

/-- The release of one line of an ST 2022-6 flow, to its framer (R261). -/
def releaseSdi (e now : Nat) (d : Dev) : Dev :=
  let r := rxRun e d
  let x := r.desc
  let f := rxFmt x d
  let n := flowFramer e
  let qs := r.pend.filter (onLine f r.unit)
  let given := qs.findSome? (fun q => match q.payload with | .sdi lines _ => lines.find? (fun y => y.line == r.unit) | _ => none)
  let prev := (((srcRun x.source d).pic.getLast?).map (·.2)).getD []
  let line : SdiLine := given.getD { line := r.unit, eav := now, s0 := now, trsOk := false, picture := prev }
  let d := (takeDue e now d).1
  let d := setRxRun e { rxRun e d with unit := nextUnit f 4 r.unit } d
  match srcDesc x.source d with
  | none => d
  | some s =>
    let was := inState n d
    let d := forEach qs (fun q d => match q.payload with | .sdi _ (some p) => st352Body n n s [n] p d | _ => d) d
    let d := if line.line = 1 then sdiFrame n s [n] line d else d
    let d := sdiLineBody n n s [n] line d
    let d := accountUnit e (legsOf qs) d
    let st := inState n d
    if was = 3 ∧ st ≠ 3 then flowLost e d
    else if was ≠ 3 ∧ st = 3 then flowRecovers e d
    else d

/-- Place ANC packets in the sidecar (R259). -/
def placeAnc (e src : Nat) (f : Fmt) (second : Bool) (pkts : List AncPkt) (d : Dev) : Dev :=
  forEach pkts (fun p d =>
    let p := { p with line := ancLineOf f second p }
    let r := srcRun src d
    if !p.ok ∨ 64 ≤ (r.anc.filter (fun q => q.line == p.line)).length then countWrap FLW_RX_discard [e] 1 d
    else setSrcRun src { r with anc := r.anc ++ [p] } d) d

/-- The end of the next frame or field of a -40 flow. -/
def ancInstant (x : RxDesc) (r : RxRun) (d : Dev) : Nat :=
  let f := rxFmt x d
  r.base + (if r.unit = 1 ∧ f.scan ≠ 0 then (f.field2Line - 1) * rxLinePeriod x d else rxPeriod x d) + rxDelay x d

/-- The end of a frame or field of a -40 flow: whether it brought a packet (R263). -/
def endAncUnit (e : Nat) (d : Dev) : Dev :=
  let r := rxRun e d
  let x := r.desc
  let f := rxFmt x d
  let last := r.unit = 2 ∨ f.scan = 0
  let d := if last ∧ (pictureOf x.source d).isNone then endSourceFrame x.source d else d
  let p := rxPeriod x d
  let later := (r.pend.map (·.base)).filter (fun b => decide (r.base + p / 2 < b ∧ b < r.base + p + p / 2))
  let d := setRxRun e { r with unit := if last then 1 else 2, base := if last then later.headD (r.base + p) else r.base,
                               flow := { r.flow with whole := true }, leg0 := { r.leg0 with whole := true }, leg1 := { r.leg1 with whole := true } } d
  let had := fun (l : LegRun) => l.good != 0
  let legs := (if had r.leg0 then 1 else 0) + (if had r.leg1 then 2 else 0)
  let r := rxRun e d
  let d := setRxRun e { r with leg0 := { r.leg0 with good := 0 }, leg1 := { r.leg1 with good := 0 } } d
  let d := accountUnit e legs d
  let r := rxRun e d
  setRxRun e { r with leg0 := { r.leg0 with good := 0 }, leg1 := { r.leg1 with good := 0 }, flow := { r.flow with good := 0 } } d

/-- Release of -40 packets, or the end of a frame or field of them. -/
def releaseAnc (e : Nat) (d : Dev) : Dev :=
  let r := rxRun e d
  let x := r.desc
  let now := nibOf d.ntw
  if r.pend.any (fun q => decide (q.release ≤ now)) then
    let (d, due) := takeDue e now d
    let d := forEach due (fun q d => match q.payload with | .anc second pkts => placeAnc e x.source (rxFmt x d) second pkts d | _ => d) d
    let legs := legsOf due
    let r := rxRun e d
    setRxRun e { r with leg0 := { r.leg0 with good := r.leg0.good + (if Nat.testBit legs 0 then 1 else 0) },
                        leg1 := { r.leg1 with good := r.leg1.good + (if Nat.testBit legs 1 then 1 else 0) } } d
  else endAncUnit e d

/-- The next packet interval of an audio flow: its samples wait for their grid instants, zero where no leg delivered them (R250, R260). -/
def releaseAudio (e now : Nat) (d : Dev) : Dev :=
  let r := rxRun e d
  let x := r.desc
  let ts := rxTs x
  let spp := x.spp.getD 48
  let (d, due) := takeDue e now d
  let first := sampleFrom ts (r.base + rxDelay x d)
  let packet := due.findSome? (fun q => match q.payload with | .audio s np => some (s, np) | _ => none)
  let wide := fun (v : Int) => if x.kind = 1 ∧ x.encoding = some 0 then v * 256 else v
  let rows := (List.range spp).map (fun k => (first + k, (List.range (x.channels.getD 0)).map (fun c =>
    match packet with | some (s, _) => wide ((s.getD c []).getD k 0) | none => 0)))
  let marks := match packet with
    | some (_, np) => if x.kind = 2 then np.foldl (fun a c => withBit a (c / 2) true) 0 else 0
    | none => r.nonAudio
  let r := rxRun e d
  let d := setRxRun e { r with base := r.base + spp * ts, samples := r.samples ++ rows, nonAudio := marks } d
  accountUnit e (legsOf due) d

/-- The switch of an opaque sender, for one packet of a source: whether it is forwarded, and what the sender waits for after it (R125). -/
def opaqueTake (src : Nat) (marker : Bool) (r : DstRun) : Bool × DstRun :=
  match r.opaqueOld with
  | some (old, _) =>
    if old = src then (true, if marker then { r with opaqueOld := none, opaqueWait := true } else r) else (false, r)
  | none =>
    if r.carry = .src src then
      if r.opaqueWait then (false, if marker then { r with opaqueWait := false } else r) else (true, r)
    else (false, r)

/-! ### Transmission (R265 to R276) -/

/-- The pixel-group size of ST 2110-20 in bytes, and its pixels (PRESUMED, log entry 18). -/
def pgroup (sampling depth : Nat) : Nat × Nat :=
  if sampling = 0 then (if depth = 8 then (4, 2) else if depth = 12 then (6, 2) else (5, 2))
  else if depth = 8 then (3, 1)
  else if depth = 12 then (9, 2)
  else (15, 4)

/-- Packets of one active line (R268). -/
def lineGroups (f : Fmt) : Nat := ceilDiv f.activeSamples (pgroup f.sampling f.depth).2
def linePackets (f : Fmt) (payloadMax : Nat) : Nat := ceilDiv (lineGroups f) (max 1 (payloadMax / (pgroup f.sampling f.depth).1))

/-- The pixel bytes of packet j of a line (R268). -/
def packetBytes (f : Fmt) (payloadMax j : Nat) : Nat :=
  let n := max 1 (linePackets f payloadMax)
  (lineGroups f / n + (if j < lineGroups f % n then 1 else 0)) * (pgroup f.sampling f.depth).1

/-- Bits per second of an interface that ST 2022-6 carries (R202). -/
def ifaceBits (f : Fmt) (p : Nat) : Nat :=
  if f.iface = 1 then 270000000
  else
    let r := if f.iface = 2 then 1485000000 else 2970000000
    if isDiv1001 p then r * 1000 / 1001 else r

/-- Packets per frame of an ST 2022-6 flow, of 1,376 bytes each (R272). -/
def packets2022 (f : Fmt) (p : Nat) : Nat := ceilDiv (ifaceBits f p * p) (8 * 1376 * Config.nibsPerSec)

/-- The bytes of an ANC packet in RFC 8331: four of header, and 10-bit words for DID, SDID, data count, payload and checksum, padded to
32 bits (PRESUMED, log entry 18). -/
def ancBytes (p : AncPkt) : Nat := 4 + ceilDiv ((p.words.length + 4) * 10) 32 * 4

/-- Split one line's ANC into packets of at most `room` bytes (R270). -/
def splitAnc (room : Nat) (sizes : List Nat) (acc : Nat) : List Nat :=
  match sizes with
  | [] => [acc]
  | s :: rest => if acc ≠ 0 ∧ room < acc + s then acc :: splitAnc room rest s else splitAnc room rest (acc + s)

/-- The packets of a -40 frame as (line, payload bytes) (R270). -/
def ancPlan (f : Fmt) (room : Nat) (pkts : List AncPkt) : List (Nat × Nat) :=
  (List.range' 1 f.lines).flatMap (fun l =>
    let sizes := (pkts.filter (fun p => p.line == l)).map ancBytes
    if sizes.isEmpty ∧ l ≠ 1 ∧ ¬(f.scan ≠ 0 ∧ l = f.field2Line) then [] else (splitAnc room sizes 0).map (fun b => (l, b)))

/-- How many packets a frame has. -/
def pictureCount (x : TxDesc) (t : TxPicture) (d : Dev) : Nat :=
  let f := fmtOf t.fmt d
  if x.kind = 0 then linePackets f (x.payloadMax.getD 200) * f.activeLines
  else if x.kind = 3 then t.plan.length
  else packets2022 f (famPeriod t.fam d)

/-- The k-th active line of a format. -/
def nthActive (f : Fmt) (k : Nat) : Nat :=
  match activeRuns f with
  | (a, n) :: (b, _) :: _ => if k < n then a + k else b + (k - n)
  | (a, _) :: [] => a + k
  | [] => 1

/-- Packet j of those of a line that share a slot (R269). -/
def slotIndex (plan : List (Nat × Nat)) (j : Nat) : Nat × Nat :=
  let l := (plan.getD j (1, 0)).1
  (((plan.take j).filter (fun q => q.1 == l)).length, (plan.filter (fun q => q.1 == l)).length)

/-- The instant in nib at which packet j of a frame is offered, its RTP timestamp, its payload bytes with payload header, and its marker
(R42, R267 to R270, R272). -/
def picturePacket (x : TxDesc) (doNib : Nat) (t : TxPicture) (j : Nat) (d : Dev) : Nat × Nat × Nat × Bool :=
  let f := fmtOf t.fmt d
  let p := famPeriod t.fam d
  let pl := linePeriod f p
  let total := pictureCount x t d
  let slot := fun (l i n : Nat) => t.at_ + doNib + (l - 1) * pl + (if x.shapingW = some true then 0 else ceilDiv (i * pl) (max 1 n))
  let second := fun (l : Nat) => f.scan != 0 && decide (f.field2Line ≤ l)
  let stamp := fun (l : Nat) => rtpOf 588000 (t.at_ + (if second l then (f.field2Line - 1) * pl else 0))
  if x.kind = 0 then
    let n := max 1 (linePackets f (x.payloadMax.getD 200))
    let l := nthActive f (j / n)
    let ends := decide (j + 1 = total) || (decide (j % n + 1 = n) && second (nthActive f (j / n + 1)) && !second l)
    (slot l (j % n) n, stamp l, packetBytes f (x.payloadMax.getD 200) (j % n) + 8, ends)
  else if x.kind = 3 then
    let q := t.plan.getD j (1, 0)
    let s := slotIndex t.plan j
    let ends := decide (j + 1 = total) || (second (t.plan.getD (j + 1) (1, 0)).1 && !second q.1)
    (slot q.1 s.1 s.2, stamp q.1, q.2 + 8, ends)
  else (t.at_ + doNib + ceilDiv ((j + 1) * p) (max 1 total), rtpOf 1960 t.at_, 1376 + 8, decide (j + 1 = total))

/-- The length of a frame on the wire without preamble, with FCS (R275). -/
def wireLen (l : Leg) (payload : Nat) : Nat := payload + 12 + 8 + (if l.v6 then 40 else 20) + 14 + (if l.vlan.isSome then 4 else 0) + 4

/-- The registers of transmit leg g. -/
def txPkts (g : Nat) : Fld := if g = 0 then FLW_TX_leg0_pkts else FLW_TX_leg1_pkts
def txDrops (g : Nat) : Fld := if g = 0 then FLW_TX_leg0_drops else FLW_TX_leg1_drops

/-- Send one RTP packet on every leg: sequence, timestamp, counters, and the media queues (R267, R274, R236). -/
def sendRtp (e ts payload : Nat) (d : Dev) : Dev :=
  let r := txRun e d
  let x := r.desc
  let first := match d.sea.twinSeqs.find? (fun q => q.1 == e) with | some q => q.2 | none => if x.kind = 0 then ts else ts % 65536
  let seq := if r.sent then rd FLW_TX_seq [e] d else first
  let d := setTxRun e { r with sent := true } (wr FLW_TX_seq [e] (seq + 1) (wr FLW_TX_ts [e] ts d))
  forUpTo x.legs.length (fun g d =>
    match x.legs[g]? with
    | some l =>
      let (d, dropped) := offerMedia l.mac { len := wireLen l payload, entry := e + 1 } d
      let d := countWrap (txPkts g) [e] 1 d
      if dropped then countWrap (txDrops g) [e] 1 d else d
    | none => d) d

/-- Whether a transmit entry has anything to send (R276, R284). -/
def showSending (e : Nat) (d : Dev) : Dev :=
  let r := txRun e d
  wrB FLW_TX_sending [e] (!r.frames.isEmpty || r.audio != 0) d

/-- Samples per packet of an audio sender. -/
def txSpp (x : TxDesc) : Nat := max 1 (x.spp.getD 48)

/-- The flow engine offers a transmit entry's next packet at its instant (R269 to R272). -/
def packetOffer (e : Nat) (d : Dev) : Dev :=
  let r := txRun e d
  let x := r.desc
  match dstAt r.dst d with
  | none => d
  | some t =>
    if !rdB FLW_TX_valid [e] d || inSafe d then d
    else if isAudio x.kind then
      if r.audio = 0 then d
      else
        let k := r.audio - 1
        let ts := samplePeriod t.rate
        let d := advanceTo (unitsOfNib ((k + 1) * txSpp x * ts + 2 * ts)) d
        let bytes := x.channels.getD 0 * txSpp x * (if x.kind = 2 then 4 else if x.encoding = some 0 then 2 else 3)
        sendRtp e (k * txSpp x % 2 ^ 32) bytes (setTxRun e { r with audio := r.audio + 1 } d)
    else
      match r.frames with
      | [] => d
      | f :: rest =>
        let (at_, ts, bytes, _) := picturePacket x t.doNib f r.pkt d
        let d := advanceTo (unitsOfNib at_) d
        let last := decide (pictureCount x f d ≤ r.pkt + 1)
        let d := setTxRun e (if last then { r with frames := rest, pkt := 0 } else { r with pkt := r.pkt + 1 }) d
        showSending e (sendRtp e ts bytes d)

/-- At a sender's switch point: the frame that begins is sent whole if the output carries something, and an audio sender starts (R271, R276). -/
def txSwitch (i : Nat) (d : Dev) : Dev :=
  match dstAt i d with
  | none => d
  | some t =>
    let run := dstRun i d
    let fam := dstFam i d
    let at_ := frameStart (famPeriod fam d) (nibOf d.ntw)
    forEach (d.flw.tx.filter (fun p => p.2.dst == i && rdB FLW_TX_valid [p.1] d)) (fun p d =>
      let e := p.1
      let r := txRun e d
      if isAudio r.desc.kind then
        if r.audio = 0 ∧ !inSafe d then
          showSending e (setTxRun e { r with audio := ceilDiv (sampleFrom (samplePeriod t.rate) at_) (txSpp r.desc) + 1 } d)
        else d
      else if r.desc.kind = 5 then wrB FLW_TX_sending [e] (run.carry != .idle) d
      else if run.carry = .idle ∨ inSafe d then d
      else
        let anc := pathAnc i d
        let fmt := rd XPT_DST_FMT_fmt [i] d
        let plan := if r.desc.kind = 3 then ancPlan (fmtOf fmt d) (r.desc.payloadMax.getD 200) anc else []
        showSending e (setTxRun e { r with frames := r.frames ++ [{ at_ := at_, fam := fam, fmt := fmt, plan := plan }] } d)) d

/-- A destination sends nothing more: at its family's stop and in safe state. -/
def txHalt (i : Nat) (d : Dev) : Dev :=
  forEach (d.flw.tx.filter (fun p => p.2.dst == i)) (fun p d =>
    let d := setTxRun p.1 { txRun p.1 d with frames := [], pkt := 0, audio := 0 } d
    wr FLW_TX_sending [p.1] 0 d) d

/-- Forward an opaque packet to every opaque sender that takes the source (R125, R262, R273). -/
def forwardOpaque (src : Nat) (q : RxPend) (d : Dev) : Dev :=
  let size := match q.payload with | .bytes n => n | _ => 0
  forEach ((localDsts d).filter (fun x => x.kind == 6)) (fun x d =>
    let (go, r) := opaqueTake src q.marker (dstRun x.index d)
    let d := setDstRun x.index r d
    if go && !inSafe d then
      forEach (d.flw.tx.filter (fun p => p.2.dst == x.index && rdB FLW_TX_valid [p.1] d)) (fun p d => sendRtp p.1 q.ts size d) d
    else d) d

/-- An old opaque source that sends no marker within two frame periods stops at once (R125). -/
def opaqueMarkerTimeout (i : Nat) (d : Dev) : Dev :=
  let r := dstRun i d
  match r.opaqueOld with
  | some (_, t) =>
    let d := advanceTo t d
    setDstRun i { r with opaqueOld := none, opaqueWait := true } d
  | none => d

/-- An opaque sender's carried source changes: the old one goes on to its next marker (R125); lost, it stops at once. -/
def opaqueSwitch (i : Nat) (old new : Carry) (d : Dev) : Dev :=
  let r := dstRun i d
  if old = new then d
  else
    let until_ := d.ntw + 2 * unitsOfNib (famPeriod (dstFam i d) d)
    match old, new with
    | .src o, .src _ => setDstRun i { r with opaqueOld := if srcPresent o d then some (o, until_) else none, opaqueWait := !srcPresent o d } d
    | _, .src _ => setDstRun i { r with opaqueOld := none, opaqueWait := true } d
    | .src o, _ => setDstRun i { r with opaqueOld := if srcPresent o d then some (o, until_) else none, opaqueWait := false } d
    | _, _ => d

/-! ### The release command -/

/-- The next release of an entry (R250): a line, a packet, or the end of a frame. -/
def packetRelease (e : Nat) (d : Dev) : Dev :=
  let r := rxRun e d
  let x := r.desc
  if !r.acquired || !rdB FLW_RX_valid [e] d then d
  else if isPicture x.kind then
    let t := lineInstant x r d
    let d := advanceTo (unitsOfNib t) d
    if (rxFmt x d).lines < r.unit then endFlowFrame e d
    else if x.kind = 0 then releaseLine e t d
    else releaseSdi e t d
  else if isAudio x.kind then
    let t := r.base + rxDelay x d
    releaseAudio e t (advanceTo (unitsOfNib t) d)
  else
    let first := (r.pend.map (·.release)).foldl (fun a b => match a with | none => some b | some c => some (min b c)) (none : Option Nat)
    if x.kind = 3 then
      let stop := ancInstant x r d
      releaseAnc e (advanceTo (unitsOfNib (min stop (first.getD stop))) d)
    else
      match first with
      | none => d
      | some t =>
        let (d, due) := takeDue e t (advanceTo (unitsOfNib t) d)
        forEach due (fun q d => forwardOpaque x.source q d) (accountUnit e (legsOf due) d)

/-- An opaque flow with no packet for 2 × P of its family is lost (R263). -/
def opaqueTimeout (e : Nat) (d : Dev) : Dev :=
  let r := rxRun e d
  if r.desc.kind = 5 ∧ !rdB FLW_RX_lost [e] d ∧ rdB FLW_RX_valid [e] d then
    flowLost e (advanceTo (unitsOfNib (r.arrived + 2 * rxPeriod r.desc d)) d)
  else d

/-- Deliver the samples of grid index g of an audio flow, pair by pair, with its non-PCM marks (R250, R260). -/
def flowDeliver (e g : Nat) (mute : Int → Bool → Int) (d : Dev) : Dev :=
  let r := rxRun e d
  let x := r.desc
  match r.samples.find? (fun q => q.1 == g) with
  | none => setRxRun e { r with samples := r.samples.filter (fun q => decide (g < q.1)) } d
  | some (_, vs) =>
    let d := setRxRun e { r with samples := r.samples.filter (fun q => decide (g < q.1)) } d
    if rdB FLW_RX_lost [e] d then d
    else
      forUpTo ((vs.length + 1) / 2) (fun m d =>
        let r := rxRun e d
        let a := vs.getD (2 * m) 0
        let b := vs.getD (2 * m + 1) 0
        let found := x.kind = 1 ∧ burstFound (Nat.testBit r.pa m) a b
        let left := if found then 8192 else tabGet 0 r.burst m - 1
        let d := setRxRun e { r with pa := withBit r.pa m (isPa b), burst := tabSet 0 r.burst m left } d
        let npcm := if x.kind = 1 then left != 0 else Nat.testBit r.nonAudio m
        match chanOf x.source (flowChannel x d + 2 * m) d with
        | some c =>
          let d := ringPush x.source (flowChannel x d + 2 * m) a d
          let d := if 2 * m + 1 < vs.length then ringPush x.source (flowChannel x d + 2 * m + 1) b d else d
          let d := setChan c { val := mute a npcm, present := true, npcm := npcm } d
          if 2 * m + 1 < vs.length then setChan (c + 1) { val := mute b npcm, present := true, npcm := npcm } d else d
        | none => d) d

/-! ### Entries (R248, R254, R283, R284) -/

/-- Payload bytes of a frame of a picture flow. -/
def frameBytes (x : RxDesc) (d : Dev) : Nat :=
  let f := rxFmt x d
  if x.kind = 4 then ceilDiv (ifaceBits f (rxPeriod x d) * rxPeriod x d) (8 * Config.nibsPerSec) else ceilDiv (pixelsOf f * bitsPerPixel f) 8

/-- Bytes per sample of an audio encoding: 0 L16, 1 L24, 2 AM824. -/
def sampleBytes (enc : Nat) : Nat := if enc = 0 then 2 else if enc = 1 then 3 else 4

/-- The pages a receive descriptor needs (R254). Payload sizes the descriptor does not tell are the greatest of R265 (log entry 19). -/
def poolDemand (x : RxDesc) (d : Dev) : Nat :=
  let delay := rxBuffer x d + x.window
  if isPicture x.kind then
    let p := max 1 (rxPeriod x d)
    let b := ceilDiv (frameBytes x d * delay) p
    let size := if x.kind = 4 then 1376 else ceilDiv (frameBytes x d) (max 1 (x.npackets.getD 1))
    ceilDiv (b + 2 * size) 4096
  else if isAudio x.kind then
    let size := x.channels.getD 0 * sampleBytes (x.encoding.getD 2) * x.spp.getD 48
    ceilDiv (ceilDiv (size * delay) (x.spp.getD 48 * rxTs x) + 2 * size) 4096
  else if x.kind = 5 then ceilDiv (ceilDiv (x.peak.getD 0 * delay) (8 * Config.nibsPerSec) + 2 * 8960) 4096
  else if x.kind = 3 then ceilDiv (2 * 8960) 4096
  else 0

/-- The MAC whose pool share a descriptor draws from. -/
def poolMac (x : RxDesc) : Nat := (x.legs.head?.map (·.mac)).getD 0

/-- Reserve or give back a descriptor's pages. -/
def movePool (x : RxDesc) (give : Bool) (d : Dev) : Dev :=
  let m := poolMac x
  let n := poolDemand x d
  wr FLW_POOL_used [m] (if give then rd FLW_POOL_used [m] d - n else rd FLW_POOL_used [m] d + n) d

/-- Write a leg's place into its bucket and the entry. -/
def placeLeg (e g : Nat) (l : Leg) (d : Dev) : Dev :=
  let b := flowBucket (legKey l)
  match freeWay b d with
  | none => d
  | some w =>
    let d := setWay b w (some (e, g)) d
    if g = 0 then
      wr FLW_RX_leg0_bucket [e] b (wr FLW_RX_leg0_way [e] w (wr FLW_RX_leg0_mac [e] l.mac (wr FLW_RX_leg0_pass [e] (legPass l) d)))
    else
      wr FLW_RX_leg1_bucket [e] b (wr FLW_RX_leg1_way [e] w (wr FLW_RX_leg1_mac [e] l.mac (wr FLW_RX_leg1_pass [e] (legPass l) d)))

/-- The fields of a receive entry and of a transmit entry (R283, R284). -/
def rxEntryFields : List Fld :=
  [FLW_RX_valid, FLW_RX_kind, FLW_RX_protected, FLW_RX_aligned, FLW_RX_lost, FLW_RX_leg0_ok, FLW_RX_leg1_ok, FLW_RX_rx_type, FLW_RX_fam,
   FLW_RX_source, FLW_RX_ssrc, FLW_RX_leg0_pkts, FLW_RX_leg1_pkts, FLW_RX_leg0_seq_err, FLW_RX_leg1_seq_err, FLW_RX_missing, FLW_RX_late,
   FLW_RX_discard, FLW_RX_dr, FLW_RX_window, FLW_RX_e_o, FLW_RX_leg0_bucket, FLW_RX_leg0_way, FLW_RX_leg0_mac, FLW_RX_leg0_pass,
   FLW_RX_leg1_bucket, FLW_RX_leg1_way, FLW_RX_leg1_mac, FLW_RX_leg1_pass, FLW_RX_recentres]
def txEntryFields : List Fld :=
  [FLW_TX_valid, FLW_TX_kind, FLW_TX_protected, FLW_TX_sending, FLW_TX_shaping, FLW_TX_pt, FLW_TX_dst, FLW_TX_ssrc, FLW_TX_leg0_pkts,
   FLW_TX_leg1_pkts, FLW_TX_leg0_drops, FLW_TX_leg1_drops, FLW_TX_seq, FLW_TX_ts, FLW_TX_tro, FLW_TX_leg0_mac, FLW_TX_leg1_mac, FLW_TX_pkts_line]

/-- Free a receive entry: its ways, its pages, its registers (R154). -/
def freeRx (e : Nat) (d : Dev) : Dev :=
  if !rdB FLW_RX_valid [e] d then d
  else
    let x := (rxRun e d).desc
    let drop := fun (b w : Nat) (d : Dev) => setWay b w none d
    let d := drop (rd FLW_RX_leg0_bucket [e] d) (rd FLW_RX_leg0_way [e] d) d
    let d := if rdB FLW_RX_protected [e] d then drop (rd FLW_RX_leg1_bucket [e] d) (rd FLW_RX_leg1_way [e] d) d else d
    let d := if isAudio x.kind then absentFlow x d else d
    let d := movePool x true d
    forEach rxEntryFields (fun f d => wr f [e] 0 d) { d with flw := { d.flw with rx := tabDel d.flw.rx e } }

/-- Place a receive descriptor in an entry, to classify from an instant in nib (R248); it is lost until it first recovers (R130). -/
def placeRx (e : Nat) (x : RxDesc) (since : Nat) (d : Dev) : Dev :=
  let d := forEach rxEntryFields (fun f d => wr f [e] 0 d) d
  let d := setRxRun e { desc := x, since := since } d
  let d := wr FLW_RX_valid [e] 1 (wr FLW_RX_kind [e] x.kind (wrB FLW_RX_protected [e] (decide (x.legs.length = 2)) (wr FLW_RX_lost [e] 1 d)))
  let d := wr FLW_RX_rx_type [e] (x.rxType.getD 0) (wr FLW_RX_fam [e] (x.fam.getD 0) (wr FLW_RX_source [e] x.source (wr FLW_RX_ssrc [e] (x.ssrc.getD 0) d)))
  let d := wr FLW_RX_dr [e] (ceilDiv (rxBuffer x d) 40) (wr FLW_RX_window [e] x.window d)
  let d := forUpTo x.legs.length (fun g d => match x.legs[g]? with | some l => placeLeg e g l d | none => d) d
  movePool x false d

/-- Free a transmit entry. -/
def freeTx (e : Nat) (d : Dev) : Dev := forEach txEntryFields (fun f d => wr f [e] 0 d) { d with flw := { d.flw with tx := tabDel d.flw.tx e } }

/-- Place a transmit descriptor of local destination i in an entry. -/
def placeTx (e : Nat) (x : TxDesc) (i : Nat) (d : Dev) : Dev :=
  match dstAt i d with
  | none => d
  | some t =>
    let f := dstFmt i d
    let pl := linePeriod f (famPeriod (dstFam i d) d)
    let d := freeTx e d
    let d := setTxRun e { desc := x, dst := i } d
    let d := wr FLW_TX_valid [e] 1 (wr FLW_TX_kind [e] x.kind (wrB FLW_TX_protected [e] (decide (x.legs.length = 2)) d))
    let d := wrB FLW_TX_shaping [e] (x.shapingW == some true) (wr FLW_TX_pt [e] (x.pt.getD 0) (wr FLW_TX_dst [e] t.num (wr FLW_TX_ssrc [e] (x.ssrc.getD 0) d)))
    let d := wr FLW_TX_tro [e] (if isPicture x.kind || x.kind == 3 then ceilDiv (t.doNib + (firstActiveLine f - 1) * pl) 40 else 0) d
    let d := wr FLW_TX_leg0_mac [e] (((x.legs[0]?).map (·.mac)).getD 0) (wr FLW_TX_leg1_mac [e] (((x.legs[1]?).map (·.mac)).getD 0) d)
    wr FLW_TX_pkts_line [e] (if x.kind = 0 then linePackets f (x.payloadMax.getD 200) else 0) d

/-! ### Membership (R277 to R279) -/

/-- A multicast destination address. -/
def isMulticast (l : Leg) : Bool := if l.v6 then decide (l.dst / 2 ^ 120 = 0xFF) else decide (l.dst / 2 ^ 28 = 0xE)

/-- The same group on the same MAC and VLAN. -/
def sameGroup (l : Leg) (m : Memb) : Bool := m.mac == l.mac && m.vlan == (l.vlan.map (· + 1)).getD 0 && m.group == l.dst

/-- The legs of placed receive flows that need a group. -/
def groupLegs (d : Dev) : List Leg := (d.flw.rx.flatMap (fun p => p.2.desc.legs)).filter isMulticast

/-- The sources of a group over the legs that need it: INCLUDE of their sources, or EXCLUDE of none where some leg takes any (R278). -/
def groupSources (ls : List Leg) : Option (List Nat) :=
  if ls.any (fun l => l.src.isNone) then none else some (ls.filterMap (·.src))

/-- The membership the placed legs need now. -/
def neededGroups (ls : List Leg) (acc : List Memb) : List Memb :=
  match ls with
  | [] => acc
  | l :: rest =>
    if acc.any (sameGroup l) then
      neededGroups rest (acc.map (fun m => if sameGroup l m then
        { m with sources := match m.sources, l.src with | some s, some a => some (if s.contains a then s else s ++ [a]) | _, _ => none } else m))
    else neededGroups rest (acc ++ [{ mac := l.mac, vlan := (l.vlan.map (· + 1)).getD 0, group := l.dst, sources := l.src.map (fun a => [a]) }])

/-- Firmware sends one report for a group, if the MAC's link is up (R279). -/
def sendReport (m : Memb) (d : Dev) : Dev := if linkUp m.mac d then count FLW_MEMB_reports [] 1 d else d

/-- A state-change report, with its repeats to come (R277). -/
def changed (m : Memb) (d : Dev) : Memb :=
  { m with left := rd FLW_IGMP_robustness [] d - 1, nextAt := d.devTime + rd FLW_IGMP_interval_s [] d * secUnits }

def sameKey (a b : Memb) : Bool := a.mac == b.mac && a.vlan == b.vlan && a.group == b.group

/-- Bring the membership in line with the placed legs, reporting each change (R277, R278). -/
def updateMemb (d : Dev) : Dev :=
  let need := neededGroups (groupLegs d) []
  let old := d.flw.memb
  let isNew := fun (m : Memb) => !(old.any (fun o => sameKey o m && o.sources == m.sources && o.needed))
  let gone := old.filter (fun o => o.needed && !(need.any (sameKey o)))
  let keep := need.map (fun m => if isNew m then changed m d else (old.find? (sameKey m)).getD m)
  let left := (gone.map (fun o => changed { o with needed := false } d)) ++ old.filter (fun o => !o.needed && !(need.any (sameKey o)))
  let d := forEach (need.filter isNew ++ gone) sendReport d
  wr FLW_MEMB_groups [] need.length { d with flw := { d.flw with memb := keep ++ left } }

/-- A repeat of a state-change report comes due (R277). -/
def reportRepeat (n : Nat) (d : Dev) : Dev :=
  match d.flw.memb[n]? with
  | some m =>
    if m.left = 0 then d
    else
      let d := advanceDev m.nextAt d
      let m' := { m with left := m.left - 1, nextAt := d.devTime + rd FLW_IGMP_interval_s [] d * secUnits }
      let list := (d.flw.memb.set n m').filter (fun o => o.needed || o.left != 0)
      sendReport m { d with flw := { d.flw with memb := list } }
  | none => d

/-- State-change reports for every group of a MAC, or of every MAC (R279). -/
def reportAll (mac : Option Nat) (d : Dev) : Dev :=
  let on := fun (m : Memb) => m.needed && (mac.isNone || mac == some m.mac)
  let d := forEach (d.flw.memb.filter on) sendReport d
  { d with flw := { d.flw with memb := d.flw.memb.map (fun m => if on m then changed m d else m) } }

/-- Firmware answers a query for a group, or a general one; an older querier sets its compatibility mode (R277). -/
def answerQuery (mac vlan : Nat) (group : Option Nat) (version : Nat) (d : Dev) : Dev :=
  let on := fun (m : Memb) => m.needed && m.mac == mac && m.vlan == vlan && (group.isNone || group == some m.group)
  let d := { d with flw := { d.flw with oldQuerier := tabSet 0 d.flw.oldQuerier mac version } }
  forEach (d.flw.memb.filter on) sendReport d

end Sys2Proof.Machine
end

