-- ==== Sys2Proof/Machine/Audio.lean ====
section
/-! DEFINITION. The channel space: rates, histories, the mute of safe state, destination channels with their crossfades, audio rings (R45, R121,
R127 to R131, R301, R302, R393 to R396, R452). -/

namespace Sys2Proof.Machine

/-! ### Source channels (R394, R395) -/

/-- The rate of a source channel. -/
def srcChRate (c : Nat) (d : Dev) : Nat := if 31744 ≤ c then rd GTH_CFG_rate [] d else rd GTH_SRC_CH_rate [c] d

/-- A grid instant of a rate comes: every source channel of that rate keeps its two samples before, and carries none until its producer
writes one. -/
def shiftChans (r : Nat) (d : Dev) : Dev :=
  let move := fun (p : Nat × Chan) => if srcChRate p.1 d = r then (p.1, { p.2 with h2 := p.2.h1, h1 := p.2.now, now := {} }) else p
  { d with aud := { d.aud with src := (d.aud.src.map move).filter (fun p => decide (p.2 ≠ {})) } }

/-! ### The mute of safe state (R452) -/

/-- The samples that 5 ms last are 264,600,000 nib of gain (R381). -/
def fullRamp : Nat := 264600000

/-- A value multiplied by a gain of x out of 264,600,000; halves to even (DEDUCED from R127 and R404, log entry 20). -/
def scaled (v : Int) (x : Nat) : Int := roundHalfEven (v * (x : Int)) fullRamp

/-- What a producer of rate r writes for a sample, given the non-PCM mark of its pair. -/
def muteOf (r : Nat) (d : Dev) (v : Int) (npcm : Bool) : Int :=
  let m := tabGet {} d.aud.mutes r
  if m.mode = 0 then v
  else if npcm then (if m.mode = 1 then 0 else v)
  else scaled v m.x

/-- The mute's gain after a sample of rate r. -/
def muteStep (r : Nat) (d : Dev) : Dev :=
  let m := tabGet {} d.aud.mutes r
  let ts := samplePeriod r
  let m : Ramp := if m.mode = 1 then { m with x := m.x - ts } else if m.mode = 2 then (if m.x + ts < fullRamp then { m with x := m.x + ts } else {}) else m
  { d with aud := { d.aud with mutes := tabSet {} d.aud.mutes r m } }

/-- Safe state is entered: the fall starts from the gain in force. -/
def startMute (d : Dev) : Dev :=
  forUpTo 4 (fun r d => { d with aud := { d.aud with mutes := tabMod {} d.aud.mutes r (fun m => { m with mode := 1 }) } }) d

/-- Safe state is left: the rise starts. -/
def endMute (d : Dev) : Dev :=
  forUpTo 4 (fun r d => { d with aud := { d.aud with mutes := tabSet {} d.aud.mutes r { mode := 2, x := 0 } } }) d

/-! ### Audio rings (R301, R302) -/

/-- One channel of a ring gives out a sample of the grid: the sample (none while it is absent), whether it slipped, and whether its pair went
absent. `t`: the target fill; `same`: the source's period is the destination's. -/
def ringOut (t : Nat) (same : Bool) (c : RingChan) : RingChan × Option (Int × Bool) × Bool × Bool :=
  let fill := c.queue.length
  let give := fun (c : RingChan) (q : List (Int × Bool)) =>
    match q with
    | s :: rest => ({ c with queue := rest, last := s, hist := (c.hist ++ [s]).drop (c.hist.length + 1 - 8192) }, some s)
    | [] => (c, none)
  if !c.primed && decide (fill < t) then (c, none, false, false)
  else
    let c := { c with primed := true }
    let mark := match c.queue with | s :: _ => s.2 | [] => c.last.2
    if mark then
      let off := decide (t + 1 < fill ∨ fill + 1 < t)
      let starts := !c.last.2 && off
      if same && !starts && !c.absent then let (c, s) := give c c.queue; (c, s, false, false)
      else let (c', _) := give { c with absent := true } c.queue; (c', none, false, !c.absent)
    else
      let c := { c with absent := false }
      if t + 1 < fill then let (c, s) := give c (c.queue.drop 1); (c, s, true, false)
      else if fill + 1 < t then (c, some c.last, true, false)
      else let (c, s) := give c c.queue; (c, s, false, false)

/-- The target fill of a read side's ring. -/
def ringTarget (r : SyncRun) (d : Dev) : Nat :=
  let ps := sourcePeriod r.src d
  ceilDiv (syncG (famPeriod r.fam d) ps + ps / 2) (samplePeriod (sourceRateIx r.src d))

/-- The ring of slot n gives out one sample of each of its channels. -/
def ringDeliver (n : Nat) (d : Dev) : Dev :=
  let r := syncRun n d
  if !r.audio || r.cur.isNone then d
  else
    match d.xpt.runs.find? (fun q => q.1 == syncGroup n) with
    | none => d
    | some (_, first, size) =>
      let t := ringTarget r d
      let same := decide (sourcePeriod r.src d = famPeriod r.fam d)
      let go := fun (j : Nat) (a : Dev × Bool × Bool) =>
        let r := syncRun n a.1
        let out := ringOut t same (tabGet {} r.rings j)
        let d := setSyncRun n { r with rings := tabSet {} r.rings j out.1 } a.1
        let d := match out.2.1 with
          | some s => setChan (first + j) { val := muteOf (srcChRate (first + j) d) d s.1 s.2, present := true, npcm := s.2 } d
          | none => d
        (d, a.2.1 || out.2.2.1, a.2.2 || out.2.2.2)
      let (d, slip, gone) := forUpTo size go (d, false, false)
      let d := if slip && !r.head then count INK_SYNC_slips [n] 1 d else d
      if gone then fire 166 (wr INK_STATUS_audio_absent [] 1 d) else d

/-! ### Destination channels (R121, R127 to R131, R395) -/

/-- The number of channel j of a destination's group in the channel space. -/
def dstChan (p : DstPlace) (x : DstDesc) (j : Nat) : Option Nat :=
  if x.kind = 7 ∧ x.port = 16 then (p.inputs[j]?).map (31744 + ·)
  else if j < p.chanCount then some (p.chans + j) else none

/-- The rate of a destination's channels (R395). -/
def dstRate (x : DstDesc) (d : Dev) : Nat :=
  if x.kind = 1 ∨ x.kind = 3 then 1
  else if x.kind = 7 then
    (if x.port = 16 then rd GTH_CFG_rate [] d else if x.port < 8 then rd APT_TDM_CFG_rate [x.port] d else rd APT_AOUT_CFG_rate [x.port - 8] d)
  else x.rate

/-- The source channel (plus 1) that channel j of local destination x carries from its next audio switch point on, and whether it is
shuffled (R121). -/
def mapWanted (x : DstDesc) (j : Nat) (d : Dev) : Nat × Bool :=
  let sh := tabGet 0 d.xpt.chmap (64 * x.index + j)
  if sh ≠ 0 then (((chanOf ((sh - 1) / 64) ((sh - 1) % 64) d).map (· + 1)).getD 0, true)
  else
    let g := (dstRun x.index d).group
    (if g = 0 then 0 else ((chanOf (g - 1) j d).map (· + 1)).getD 0, false)

/-- What a mapping (a source channel plus 1) gives a destination channel of a rate now: the value of two samples before, absent where the
rates differ. -/
def mapSample (m r : Nat) (d : Dev) : Samp :=
  if m = 0 ∨ srcChRate (m - 1) d ≠ r then {} else (tabGet {} d.aud.src (m - 1)).h2

/-- Begin to carry a new mapping: a cut where either side is non-PCM, else a crossfade of 64 samples. A channel that was absent fades in from
silence. -/
def beginSwitch (m r : Nat) (x : DChan) (d : Dev) : DChan :=
  let old := if x.away then 0 else x.map
  if (mapSample old r d).npcm || (mapSample m r d).npcm then { x with map := m, fade := 0, old := 0, next := 0, away := false, mis := false }
  else { x with map := m, fade := 64, old := old, next := 0, away := false, mis := false }

/-- One sample of a destination channel of rate r. `want`: at its audio switch point, the mapping it takes. -/
def dchanStep (r : Nat) (want : Option (Nat × Bool)) (x : DChan) (d : Dev) : DChan × Bool :=
  let x := match want with
    | none => if x.next ≠ 0 ∧ x.fade = 0 then beginSwitch (x.next - 1) r x d else x
    | some (m, sh) =>
      let x := { x with shuffled := sh }
      if x.fade ≠ 0 then { x with next := if m = x.map then 0 else m + 1 }
      else if m ≠ x.map then beginSwitch m r x d
      else if x.away && (mapSample m r d).present then
        (if (mapSample m r d).npcm then { x with away := false } else { x with away := false, fade := 64, old := 0 })
      else x
  let misNow := decide (x.map ≠ 0) && decide (srcChRate (x.map - 1) d ≠ r)
  let s := mapSample x.map r d
  let report := misNow && !x.mis
  let x := { x with mis := misNow }
  if x.fade ≠ 0 then
    let o := mapSample x.old r d
    let i : Nat := 64 - x.fade
    let v : Int := roundHalfEven (o.val * ((64 - i : Nat) : Int) + s.val * (i : Int)) 64
    let on := o.present || s.present
    ({ x with fade := x.fade - 1, old := if x.fade = 1 then 0 else x.old, away := !s.present && decide (x.fade = 1), out := { val := if on then v else 0, present := on } }, report)
  else if x.away || !s.present then ({ x with away := true, out := {} }, report)
  else ({ x with out := s }, report)

def dchan (c : Nat) (d : Dev) : DChan := tabGet {} d.aud.dst c

def setDchan (c : Nat) (x : DChan) (d : Dev) : Dev := { d with aud := { d.aud with dst := tabSet {} d.aud.dst c x } }

/-- One sample, at a nib, of every channel of a local destination, with its audio switch point where that has come (R79). -/
def dstSamples (t : Nat) (x : DstDesc) (d : Dev) : Dev :=
  let p := dstPlace x.index d
  let run := dstRun x.index d
  let r := dstRate x d
  let sw := match run.audioAt with | some a => decide (a ≤ t) | none => false
  let d := if sw then setDstRun x.index { run with audioAt := none } d else d
  let d := forUpTo x.channels (fun j d =>
    match dstChan p x j with
    | none => d
    | some c =>
      let want := if sw then some (mapWanted x j d) else none
      let (y, report) := dchanStep r want (dchan c d) d
      let d := setDchan c y d
      if report then fire 228 (wr GTH_STICKY_rate_mis [] 1 d) else d) d
  if sw then recordDone (fun q => q.dst == x.num && q.type == 2) d else d

/-- Every destination channel of rate r takes the sample of a grid instant. -/
def dstGrid (r t : Nat) (d : Dev) : Dev :=
  forEach (localDsts d) (fun x d => if dstRate x d = r then dstSamples t x d else d) d

/-- What the tables of the channel space show of source channel c and destination channel c, from their live state (R414). -/
def srcChLive (c : Nat) (d : Dev) : Nat :=
  let s := (tabGet {} d.aud.src c).now
  (if s.present then 4 else 0) + (if s.npcm then 8 else 0)

def dstChLive (c : Nat) (d : Dev) : Nat :=
  let x := dchan c d
  (x.map - 1) + (if x.map ≠ 0 then 2 ^ 15 else 0) + (if x.out.present then 2 ^ 16 else 0) + (if x.mis then 2 ^ 17 else 0)
    + (if x.fade ≠ 0 then 2 ^ 18 else 0) + (if x.shuffled then 2 ^ 19 else 0)

end Sys2Proof.Machine
end

