-- ==== Sys2Proof/Machine/Gather.lean ====
section
/-! DEFINITION. Gather: the gain table and its queue, ramps, automatic scaling, biquads, the two paths, start and stop (R398 to R412). -/

namespace Sys2Proof.Machine

/-! ### Nodes (R402 to R404) -/

/-- Rows and columns of the matrix in use (R412). -/
def gthSize (d : Dev) : Nat := 256 * 2 ^ rd GTH_CFG_size [] d

def setGth (x : Gth) (d : Dev) : Dev := { d with gth := x }

/-- An entry of the gain table by node 1,024 o + i. -/
def gainEntry (node : Nat) (d : Dev) : Nat := tabGet 0 d.gth.gains node

/-- The target gain of an entry, in units of 2^-22. -/
def targetGain (w : Nat) : Int :=
  let g := toSigned 24 (w % 2 ^ 24)
  if !Nat.testBit w 24 then 0
  else if Nat.testBit w 25 then (if g = -8388608 then 8388607 else -g)
  else g

/-- A node is live. -/
def liveEntry (w : Nat) : Bool := Nat.testBit w 24 && decide (w % 2 ^ 24 ≠ 0)

/-- The samples of a ramp code. -/
def rampSamples (w : Nat) : Nat :=
  let c := w / 2 ^ 26 % 4
  if c = 0 then 48 else if c = 1 then 480 else if c = 2 then 2400 else 9600

/-- The value of a linear ramp from e0 to e1 over n samples at sample j (R404). -/
def rampAt (e0 e1 : Int) (n j : Nat) : Int := if n ≤ j then e1 else e0 + roundHalfEven ((e1 - e0) * (j : Int)) n

/-- The effective gain of a node at its present sample. -/
def nodeGain (node : Nat) (ll : Bool) (d : Dev) : Int :=
  match d.gth.nodes.find? (fun p => p.1 == node) with
  | some (_, r) => if ll then r.e1 else rampAt r.e0 r.e1 r.n r.j
  | none => targetGain (gainEntry node d)

def putGain (node w : Nat) (d : Dev) : Dev := setGth { d.gth with gains := tabSet 0 d.gth.gains node (w % 2 ^ 28) } d

/-- Apply one queued write at a tick: the table takes it, and a ramp starts at the sample of the tick. -/
def applyGain (q : Nat × Nat) (d : Dev) : Dev :=
  let (node, w) := q
  let r := match d.gth.nodes.find? (fun p => p.1 == node) with
    | some (_, r) => r
    | none => let e := targetGain (gainEntry node d); { e0 := e, e1 := e }
  let r := { r with start := some (targetGain (w % 2 ^ 28), rampSamples w) }
  let d := putGain node w d
  recordRoute 3 [0, node, w % 2 ^ 28] (setGth { d.gth with nodes := tabSet {} d.gth.nodes node r } d)

/-- Show the queue's occupancy. -/
def showGainQueue (d : Dev) : Dev :=
  let n := d.gth.queue.length
  let d := wr GTH_QUEUE_pending [] n d
  if rd GTH_QUEUE_high [] d < n then wr GTH_QUEUE_high [] n d else d

/-- Apply the whole queue, in write order. -/
def applyQueue (d : Dev) : Dev :=
  let d := forEach d.gth.queue applyGain d
  showGainQueue (setGth { d.gth with queue := [] } d)

/-- A write to the gain-table window (R403). -/
def gainWrite (node w : Nat) (d : Dev) : Dev :=
  if funcState fGather d = 2 then
    if 16384 ≤ d.gth.queue.length then fire 225 (wr GTH_STICKY_q_full [] 1 d)
    else showGainQueue (setGth { d.gth with queue := d.gth.queue ++ [(node, w % 2 ^ 28)] } d)
  else putGain node w d

/-- The default column of a feed's channel is loaded into an input's entries, and ends their ramps (R400). -/
def loadColumn (i : Nat) (col : List (Nat × Nat)) (d : Dev) : Dev :=
  let others := fun {α : Type} (t : Tab α) => t.filter (fun p => decide (p.1 % 1024 ≠ i))
  let d := setGth { d.gth with gains := others d.gth.gains, nodes := others d.gth.nodes, ins := tabDel d.gth.ins i } d
  forEach col (fun p d => putGain (1024 * p.1 + i) p.2 d) d

/-! ### Biquads (R409) -/

/-- The history of a biquad after an input it passes unchanged. -/
def bqPass (x : Int) (r : BqRun) : BqRun := { r with x1 := x, x2 := r.x1, y1 := x, y2 := r.x1 }

/-- Signed saturation to w bits, and whether it was needed. -/
def saturate (w : Nat) (v : Int) : Int × Bool :=
  let hi : Int := 2 ^ (w - 1) - 1
  let lo : Int := -(2 ^ (w - 1))
  (clampI lo hi v, decide (v < lo ∨ hi < v))

/-- One sample through an enabled biquad. -/
def bqStep (x : Int) (r : BqRun) : BqRun × Int × Bool :=
  let c := fun (k : Nat) => toSigned 32 (r.coef.getD k 0)
  let w := c 0 * x + c 1 * r.x1 + c 2 * r.x2 - c 3 * r.y1 - c 4 * r.y2
  let (y, sat) := saturate 48 (roundHalfEven w 268435456)
  ({ r with x1 := x, x2 := r.x1, y1 := y, y2 := r.y1 }, y, sat)

def bq (o b : Nat) (d : Dev) : BqRun := tabGet {} d.gth.bqs (4 * o + b)
def setBq (o b : Nat) (r : BqRun) (d : Dev) : Dev := setGth { d.gth with bqs := tabSet {} d.gth.bqs (4 * o + b) r } d

/-- A write of coefficient c of biquad b of output o: the write of a2 makes the five take effect at the next tick. -/
def biquadWrite (o b c w : Nat) (d : Dev) : Dev :=
  let d := wr GTH_BQ_coef [o, b, c] w d
  if c ≠ 4 then d
  else setGth { d.gth with bqPend := tabSet [] d.gth.bqPend (4 * o + b) ((List.range 5).map (fun k => rd GTH_BQ_coef [o, b, k] d)) } d

/-- Coefficient sets that wait take effect. -/
def applyBiquads (d : Dev) : Dev :=
  let d := forEach d.gth.bqPend (fun p d =>
    recordRoute 3 (1 :: p.1 :: p.2) (setGth { d.gth with bqs := tabMod {} d.gth.bqs p.1 (fun r => { r with coef := p.2 }) } d)) d
  setGth { d.gth with bqPend := [] } d

/-! ### Outputs (R405 to R411) -/

def gout (o : Nat) (d : Dev) : GOut := tabGet {} d.gth.outs o
def setGout (o : Nat) (x : GOut) (d : Dev) : Dev := setGth { d.gth with outs := tabSet {} d.gth.outs o x } d

/-- GTH_OUT_CFG of output o takes effect (R410). -/
def applyOutCfg (o : Nat) (d : Dev) : Dev :=
  let x := gout o d
  let ll := rdB GTH_OUT_CFG_ll [o] d
  let pipe := if ll && !x.ll then x.pipe.drop 3 else if !ll && x.ll then List.replicate 3 x.lastOut ++ x.pipe else x.pipe
  let mode := rd GTH_OUT_CFG_scale [o] d
  let y := { x with mode := mode, ll := ll, pipe := pipe }
  let en := rd GTH_OUT_CFG_bq_en [o] d
  let was := (List.range 4).foldl (fun acc b => if (bq o b d).en then acc + 2 ^ b else acc) 0
  if y = x ∧ en = was then d
  else
    let d := forUpTo 4 (fun b d => setBq o b { bq o b d with en := Nat.testBit en b } d) (setGout o y d)
    recordRoute 3 [2, o, mode + 16 * (if ll then 1 else 0) + 256 * en] d

/-- The scale target for a mode and a number of inputs. -/
def scaleTarget (mode n : Nat) : Nat :=
  if n = 0 then 4194304
  else if mode = 1 then (roundHalfEven 4194304 n).toNat
  else if mode = 2 then
    -- 2^22 / √n to the nearest integer: √(2^44 / n) by comparing squares
    let q := isqrt (17592186044416 / n)
    let twice := 2 * q + 1
    if n * twice * twice < 4 * 17592186044416 then q + 1
    else if n * twice * twice = 4 * 17592186044416 then (if q % 2 = 0 then q else q + 1)
    else q
  else 4194304

/-- The scale in force at sample j of its ramp. -/
def scaleAt (x : GOut) : Nat := (rampAt (x.s0 : Int) (x.s1 : Int) 480 x.j).toNat

/-- An input of the matrix at a sample: placed and present, and not muted for non-PCM data. -/
def inputGood (i : Nat) (d : Dev) : Bool :=
  let s := (dchan (31744 + i) d).out
  rdB GTH_IN_valid [i] d && s.present && !s.npcm

/-- Presence changes of an input (R407). -/
def inputStep (i : Nat) (d : Dev) : Dev :=
  let x := tabGet {} d.gth.ins i
  let s := (dchan (31744 + i) d).out
  let marked := rdB GTH_IN_valid [i] d && s.present && s.npcm
  let good := inputGood i d
  let y : GIn := { present := good, j := if good then (if x.present then min 480 (x.j + 1) else 0) else 0, muted := marked }
  let d := setGth { d.gth with ins := tabSet {} d.gth.ins i y } d
  if marked && !x.muted then fire 229 (wr GTH_STICKY_npcm_in [] 1 d) else d

/-- Ramps whose writes were applied at the tick start at this sample; ramps that run go on (R404). -/
def nodesStep (d : Dev) : Dev :=
  let step := fun (p : Nat × NodeRun) =>
    let r := p.2
    match r.start with
    | some (e, n) => let now := rampAt r.e0 r.e1 r.n (r.j + 1); (p.1, { e0 := now, e1 := e, n := n, j := 0, start := none })
    | none => (p.1, { r with j := r.j + 1 })
  let next := (d.gth.nodes.map step).filter (fun p => decide (p.2.j < p.2.n ∧ p.2.e0 ≠ p.2.e1))
  setGth { d.gth with nodes := next } d

/-- The contribution of input i to output o at this sample. -/
def contribution (o i : Nat) (ll : Bool) (d : Dev) : Int :=
  if !inputGood i d then 0
  else
    let x := tabGet {} d.gth.ins i
    let e := nodeGain (1024 * o + i) ll d
    let p : Int := if ll then 4194304 else rampAt 0 4194304 480 x.j
    let g := roundHalfEven (e * p) 4194304
    roundHalfEven ((dchan (31744 + i) d).out.val * g) 1024

/-- A saturated result of an output (R408, R409). -/
def countSat (o : Nat) (d : Dev) : Dev :=
  firePerSecond 224 196700 (wr GTH_STICKY_sat [] 1 (count GTH_SAT_CNT_count [] 1 (count GTH_OUT_SAT_sat [o] 1 d)))

/-- One sample of output o. -/
def outputStep (o : Nat) (d : Dev) : Dev :=
  let x := gout o d
  let size := gthSize d
  let n := (List.range size).foldl (fun acc i => if liveEntry (gainEntry (1024 * o + i) d) && inputGood i d then acc + 1 else acc) 0
  let target := scaleTarget x.mode n
  let x := if x.ll then { x with s0 := target, s1 := target, j := 480 }
    else if target ≠ x.s1 then { x with s0 := scaleAt x, s1 := target, j := 0 } else x
  let s := scaleAt x
  let acc : Int := (List.range size).foldl (fun acc i => acc + contribution o i x.ll d) 0
  let r := roundHalfEven (acc * (s : Int)) 4194304
  let go := fun (b : Nat) (a : Dev × Int × Bool) =>
    let q := bq o b a.1
    if q.en && !x.ll then
      let (q, y, sat) := bqStep a.2.1 q
      (setBq o b q (if sat then countSat o a.1 else a.1), y, sat)
    else (setBq o b (bqPass a.2.1 q) a.1, a.2.1, false)
  let (d, y, _) := forUpTo 4 go (d, r, false)
  let (v, sat) := saturate 24 (roundHalfEven y 4096)
  let d := if sat then countSat o d else d
  let ramping := decide (x.j < 480)
  let d := wr GTH_OUT_ST_n [o] n (wrB GTH_OUT_ST_ramping [o] ramping (wr GTH_OUT_SCALE_s [o] s d))
  setGout o { x with pipe := x.pipe ++ [v], j := min 480 (x.j + 1) } d

/-- Gather computes one sample from the destination channels as they stand (R408, R411). -/
def gatherCompute (d : Dev) : Dev :=
  if funcState fGather d ≠ 2 ∧ funcState fGather d ≠ 3 then d
  else
    let n := gthSize d
    forUpTo n outputStep (forUpTo n inputStep (nodesStep d))

/-- Gather's outputs give one sample: the oldest result on its way out, with the stop ramp of R412. -/
def gatherDeliver (d : Dev) : Dev :=
  let st := funcState fGather d
  if st ≠ 2 ∧ st ≠ 3 then d
  else
    let r := rd GTH_CFG_rate [] d
    let gone := d.gth.stopI - 1
    let x := fullRamp - gone * samplePeriod r
    let d := forUpTo (gthSize d) (fun o d =>
      let g := gout o d
      let v := g.pipe.headD 0
      let d := setGout o { g with pipe := g.pipe.drop 1, lastOut := v } d
      if st = 3 ∧ x = 0 then d
      else setChan (31744 + o) { val := muteOf r d (if st = 3 then scaled v x else v) false, present := true } d) d
    if st = 3 then setGth { d.gth with stopI := d.gth.stopI + 1 } d else d

/-! ### Gather as a function (R412) -/

/-- The mix sources of this device (R401) are present while Gather runs. -/
def mixPresence (d : Dev) : Dev :=
  forEach d.pat.sources (fun s d => match s.producer with
    | .mix o => if s.member ≠ selfMember d then d
        else if funcState fGather d = 2 ∧ o < gthSize d then declareRecovery s.num d else declareLoss s.num d
    | _ => d) d

/-- Gather enters RUNNING: nothing ramps, nothing is on its way out. -/
def gatherRuns (d : Dev) : Dev :=
  let d := setGth { d.gth with nodes := [], ins := [], outs := [], stopI := 0 } (setFuncState fGather 2 d)
  mixPresence (forUpTo (gthSize d) (fun o d =>
    applyOutCfg o (setGout o { pipe := List.replicate (if rdB GTH_OUT_CFG_ll [o] d then 1 else 4) 0, ll := rdB GTH_OUT_CFG_ll [o] d } d)) d)

/-- A stop request is launched: the queue is applied, and the outputs begin to ramp. -/
def gatherStops (d : Dev) : Dev :=
  let d := applyQueue d
  mixPresence (setGth { d.gth with stopI := 1, stopAt := d.devTime } d)

/-- Gather at a tick: its function, and step 4 of R21 for its settings. -/
def gatherTick (d : Dev) : Dev :=
  let st := funcState fGather d
  let d := if st = 1 then (if funcEn fGather d || inSafe d then gatherRuns d else setFuncState fGather 0 d)
    else launchFunc fGather (fun d => rd GTH_CFG_size [] d != 3) (fun d => d) gatherStops d
  if inSafe d || rdB GTH_CTRL_hold [] d then d
  else
    let d := applyBiquads (if d.gth.queue.isEmpty then d else applyQueue d)
    if funcState fGather d = 2 then forUpTo (gthSize d) applyOutCfg d else d

/-- The stop ramp has ended. -/
def gatherStopComplete (d : Dev) : Dev :=
  if funcState fGather d ≠ 3 then d
  else
    let d := advanceDev (d.gth.stopAt + 5 * msUnits) d
    setFuncState fGather 0 (setGth { d.gth with stopI := 0, nodes := [], outs := [], ins := [] } d)

/-- What GTH_IN[i] shows beside its placement. -/
def gthInLive (i : Nat) (d : Dev) : Nat :=
  if !rdB GTH_IN_valid [i] d then 0
  else
    let x := dchan (31744 + i) d
    (if x.out.present then 2 ^ 20 else 0) + (if x.out.npcm then 2 ^ 21 else 0) + (if x.mis then 2 ^ 22 else 0)

end Sys2Proof.Machine
end

