-- ==== Sys2Proof/Machine/Ports.lean ====
section
/-! DEFINITION. The TDM and AES3 ports (R369 to R391). Ports are numbered 0 to 7 (TDM), 8 to 15 (AES3 inputs) and 16 to 23 (AES3 outputs); sides
0 to 7 are TDM receive sides, 8 to 15 AES3 inputs, 16 to 23 TDM transmit sides. -/

namespace Sys2Proof.Machine

/-! ### Configuration (R370 to R373, R389) -/

/-- The function number of a port. -/
def portFunc (p : Nat) : Nat := if p < 8 then fTdm p else if p < 16 then fAin (p - 8) else fAout (p - 16)

/-- A port's rate and the slots of a TDM port. -/
def apRate (p : Nat) (d : Dev) : Nat :=
  if p < 8 then rd APT_TDM_CFG_rate [p] d else if p < 16 then rd APT_AIN_CFG_rate [p - 8] d else rd APT_AOUT_CFG_rate [p - 16] d
def tdmSlots (n : Nat) (d : Dev) : Nat := 2 ^ (rd APT_TDM_CFG_slots [n] d + 1)
def portMaster (p : Nat) (d : Dev) : Bool := decide (p < 8) && rdB APT_TDM_CFG_master [p] d

/-- The port's frame advance in nib. -/
def portAdv (p : Nat) (d : Dev) : Int := if p < 8 then rdS APT_TDM_ADV_adv [p] d else if p < 16 then 0 else rdS APT_AOUT_ADV_adv [p - 16] d

/-- The start check of R389. -/
def portCheck (p : Nat) (d : Dev) : Bool :=
  let r := apRate p d
  let adv := decide (2 * (portAdv p d).natAbs ≤ samplePeriod r)
  if p < 8 then
    adv && decide (rd APT_TDM_CFG_slots [p] d ≤ (if r < 2 then 5 else 4)) && (rdB APT_TDM_CFG_rx_en [p] d || rdB APT_TDM_CFG_tx_en [p] d)
  else adv

/-! ### Sides -/

def side (s : Nat) (d : Dev) : Side := tabGet {} d.apt.sides s
def setSide (s : Nat) (x : Side) (d : Dev) : Dev := { d with apt := { d.apt with sides := tabSet {} d.apt.sides s x } }

/-- The port of a side. -/
def sidePort (s : Nat) : Nat := if s < 16 then s else s - 16

/-- A side's state (R377). -/
def sideState (s : Nat) (d : Dev) : Nat :=
  if s < 8 then rd APT_TDM_STATUS_rx_lock [s] d else if s < 16 then rd APT_AIN_STATUS_lock [s - 8] d else rd APT_TDM_STATUS_tx_lock [s - 16] d
def setSideState (s st : Nat) (d : Dev) : Dev :=
  if s < 8 then wr APT_TDM_STATUS_rx_lock [s] st d
  else if s < 16 then wr APT_AIN_STATUS_lock [s - 8] st d
  else wr APT_TDM_STATUS_tx_lock [s - 16] st d

/-- The side exists: its port runs, and its direction is enabled. -/
def sideOn (s : Nat) (d : Dev) : Bool :=
  running (portFunc (sidePort s)) d &&
    (if s < 8 then rdB APT_TDM_CFG_rx_en [s] d else if s < 16 then true else rdB APT_TDM_CFG_tx_en [s - 16] d)

/-- The sides that a port's own frames drive. -/
def portSides (p : Nat) : List Nat := if p < 8 then [p, 16 + p] else [p]

/-- Show a side's fill, and whether a ramp runs on its port. -/
def showSide (s : Nat) (d : Dev) : Dev :=
  let n := (side s d).buf.length
  let ramps := fun (s : Nat) => decide ((side s d).ramp.mode ≠ 0)
  if s < 8 then wr APT_TDM_STATUS_rx_fill [s] n (wrB APT_TDM_STATUS_ramping [s] (ramps s || ramps (16 + s)) d)
  else if s < 16 then wr APT_AIN_STATUS_fill [s - 8] n (wrB APT_AIN_STATUS_ramping [s - 8] (ramps s) d)
  else wr APT_TDM_STATUS_tx_fill [s - 16] n (wrB APT_TDM_STATUS_ramping [s - 16] (ramps (s - 16) || ramps s) d)

/-! ### Sticky bits and counters (R374 to R380) -/

/-- Set a sticky bit of port p. -/
def portSticky (f : Fld) (p : Nat) (d : Dev) : Dev := portEvent (portFunc p) (wr f [p % 8] 1 d)

/-- A slip of a side, on a row with these marks. -/
def portSlip (s marks : Nat) (d : Dev) : Dev :=
  let p := sidePort s
  let d := if s < 8 then count APT_TDM_CNT0_rx_slips [s] 1 (portSticky APT_TDM_STICKY_slip p d)
    else if s < 16 then count APT_AIN_CNT0_slips [s - 8] 1 (portSticky APT_AIN_STICKY_slip p d)
    else count APT_TDM_CNT0_tx_slips [s - 16] 1 (portSticky APT_TDM_STICKY_slip p d)
  let d := firePerSecond 209 (196608 + p) d
  if marks = 0 then d
  else if p < 8 then fire 212 (count APT_TDM_CNT1_npcm_slips [p] 1 (portSticky APT_TDM_STICKY_npcm_slip p d))
  else fire 212 (count APT_AIN_CNT1_npcm_slips [p - 8] 1 (portSticky APT_AIN_STICKY_npcm_slip p d))

/-- A frame-sync or framing error of port p. -/
def portGlitch (p : Nat) (d : Dev) : Dev :=
  let d := if p < 8 then count APT_TDM_CNT1_fsync_errs [p] 1 (portSticky APT_TDM_STICKY_fsync_err p d)
    else count APT_AIN_CNT1_fsync_errs [p - 8] 1 (portSticky APT_AIN_STICKY_fsync_err p d)
  firePerSecond 210 (196640 + p) d

/-! ### The sources and destinations of ports (R369) -/

/-- The source that input port p carries, and the first of its channels there. -/
def portSource (p : Nat) (d : Dev) : Option (SrcDesc × Nat) :=
  d.pat.sources.findSome? (fun s => match s.producer with
    | .port q =>
      if s.member != selfMember d then none
      else if q < 8 then (if q = p then some (s, 0) else none)
      else if q ≤ p ∧ p < q + (s.channels + 1) / 2 then some (s, 2 * (p - q)) else none
    | _ => none)

/-- The destination that output port p (TDM 0 to 7, AOUT 16 to 23) sends, and the first of its channels there. -/
def portDest (p : Nat) (d : Dev) : Option (DstDesc × Nat) :=
  (localDsts d).findSome? (fun x =>
    let q := x.port
    if x.kind ≠ 7 ∨ q = 16 then none
    else if q < 8 then (if q = p then some (x, 0) else none)
    else if q + 8 ≤ p ∧ p < q + 8 + (x.channels + 1) / 2 then some (x, 2 * (p - q - 8)) else none)

/-- The inputs of a source's ports that are locked. -/
def anyLocked (s : SrcDesc) (d : Dev) : Bool :=
  (List.range 16).any (fun p => match portSource p d with | some (t, _) => t.num == s.num && sideState p d == 2 | none => false)

/-- The presence of an input port's source follows its sides (log entry 17). -/
def portPresence (s : Nat) (d : Dev) : Dev :=
  if 16 ≤ s then d
  else
    match portSource s d with
    | some (t, _) => if anyLocked t d then declareRecovery t.num d else declareLoss t.num d
    | none => d

/-! ### Acquisition, loss and recovery (R377 to R382) -/

/-- A side leaves for NO_CLOCK; from LOCKED this is a loss with its ramp. -/
def sideLost (s : Nat) (d : Dev) : Dev :=
  let p := sidePort s
  let x := side s d
  let locked := decide (sideState s d = 2)
  let ramp : Ramp := if locked && s < 16 && !x.priming then { mode := 1, x := if x.ramp.mode = 0 then fullRamp else x.ramp.x } else {}
  let d := setSideState s 0 (setSide s { x with valid := 0, invalid := 0, n := 0, meas := none, buf := [], sent := {}, priming := true, ramp := ramp } d)
  let d := if s < 8 ∨ 16 ≤ s then wr APT_TDM_FREQ_freq [p] 0 d else wr APT_AIN_FREQ_freq [p - 8] 0 d
  let d := showSide s d
  if locked then
    let d := if p < 8 then count APT_TDM_CNT1_losses [p] 1 (portSticky APT_TDM_STICKY_lost p d)
      else count APT_AIN_CNT1_losses [p - 8] 1 (portSticky APT_AIN_STICKY_lost p d)
    portPresence s (fire 208 d)
  else d

/-- A side enters LOCKED: its buffer is to be primed. -/
def sideLocked (s : Nat) (d : Dev) : Dev :=
  let x := side s d
  portPresence s (setSideState s 2 (setSide s { x with buf := [], priming := true, invalid := 0 } d))

/-- A side enters MISMATCH. -/
def sideMismatch (s : Nat) (d : Dev) : Dev :=
  let p := sidePort s
  fire 211 (setSideState s 3 (if p < 8 then portSticky APT_TDM_STICKY_rate_mis p d else portSticky APT_AIN_STICKY_rate_mis p d))

/-- ±1,000 ppm in units of 2^-40. -/
def rateWithin (m : Int) : Bool := decide (m.natAbs ≤ 1099511628)

/-- A side in ACQUIRE with 8 valid frames in a row and a measured rate leaves it. -/
def sideDecide (s : Nat) (d : Dev) : Dev :=
  let x := side s d
  match x.meas with
  | some m => if sideState s d = 1 ∧ 8 ≤ x.valid then (if rateWithin m then sideLocked s d else sideMismatch s d) else d
  | none => d

/-- The row that a received frame gives: parity failures replaced by the sample before, the marks of R387. -/
def receiveRow (s : Nat) (f : PortFrame) (d : Dev) : PortRow × Side × Nat :=
  let x := side s d
  let prev := (x.buf.getLast?).getD x.last
  let bad := fun (j : Nat) => f.parity.getD j false
  let samples := (List.range f.samples.length).map (fun j => if bad j then prev.samples.getD j 0 else f.samples.getD j 0)
  let n := samples.length
  let aes := decide (8 ≤ s)
  let x := if aes then
      forUpTo 2 (fun j x =>
        let was := tabGet {} x.status j
        let y := statusStep was (f.status.getD j false) f.block
        { x with status := tabSet {} x.status j (if !f.crcOk then { y with nonAudio := was.nonAudio } else y) }) x
    else x
  let mark := fun (m : Nat) (acc : Side × Nat) =>
    let a := samples.getD (2 * m) 0
    let b := samples.getD (2 * m + 1) 0
    let x := acc.1
    let found := burstFound (Nat.testBit x.pa m) a b
    let left := if found then 8192 else tabGet 0 x.burst m - 1
    let x := { x with pa := withBit x.pa m (isPa b), burst := tabSet 0 x.burst m left }
    let na := aes && ((tabGet {} x.status 0).nonAudio || (tabGet {} x.status 1).nonAudio)
    (x, withBit acc.2 m (decide (left ≠ 0) || na))
  let (x, marks) := forUpTo ((n + 1) / 2) mark (x, 0)
  let present := if aes then 3 else rd APT_TDM_RXMASK_ACT_mask [s] d
  ({ present := present, marks := marks, samples := samples }, x, (f.parity.filter (fun b => b)).length)

/-- Show the pairs that are non-PCM. -/
def showMarks (s marks : Nat) (d : Dev) : Dev :=
  if s < 8 then wr APT_TDM_NPCM_pairs [s] marks d else if s < 16 then wr APT_AIN_STATUS_npcm [s - 8] marks d else d

/-- Parity errors of an AES3 frame. -/
def portParity (s n : Nat) (d : Dev) : Dev :=
  if n = 0 ∨ s < 8 ∨ 16 ≤ s then d
  else firePerSecond 210 (196640 + s) (count APT_AIN_CNT0_parity_errs [s - 8] n (portSticky APT_AIN_STICKY_parity s d))

/-- The channel-status block of an AES3 input is complete with its 192nd frame (R388). -/
def portStatus (s : Nat) (f : PortFrame) (d : Dev) : Dev :=
  if s < 8 ∨ 16 ≤ s then d
  else
    let x := side s d
    let bits := (if f.block then [] else x.csBits.take 192) ++ [f.status.getD 0 false]
    let d := setSide s { x with csBits := bits } d
    if bits.length = 192 then
        let v := (bits.zip (List.range 192)).foldl (fun acc p => if p.1 then acc + 2 ^ p.2 else acc) 0
        let d := wr APT_AIN_CS_block [s - 8] v d
        if f.crcOk then d else count APT_AIN_CNT1_cs_crc_errs [s - 8] 1 (portSticky APT_AIN_STICKY_cs_crc s d)
    else d

/-- A row multiplied by a ramp's gain; a rising gain leaves non-PCM pairs as they are (R381). -/
def rampRow (r : Ramp) (row : PortRow) : PortRow :=
  if r.mode = 0 then row
  else { row with samples := (row.samples.zip (List.range row.samples.length)).map (fun q =>
    if r.mode = 2 ∧ Nat.testBit row.marks (q.2 / 2) then q.1 else scaled q.1 r.x) }

/-- A ramp after a sample. -/
def rampStep (r : Ramp) (ts : Nat) : Ramp :=
  if r.mode = 1 then (if ts < r.x then { r with x := r.x - ts } else {})
  else if r.mode = 2 then (if r.x + ts < fullRamp then { r with x := r.x + ts } else {})
  else r

/-- The transmit buffer of a slave TDM port is read at one of its frames (R374, R382). -/
def txRead (s : Nat) (d : Dev) : Dev :=
  let x := side s d
  let fill := x.buf.length
  if x.priming && decide (fill < 4) then d
  else
    let x := if x.priming then { x with priming := false, ramp := { mode := 2, x := 0 } } else x
    let (x, slip) : Side × Bool :=
      if fill < 3 then (x, true)
      else
        let q := if 5 < fill then x.buf.drop 1 else x.buf
        ({ x with buf := q.drop 1, last := q.headD x.last }, decide (5 < fill))
    let x := { x with sent := rampRow x.ramp x.last, ramp := rampStep x.ramp (samplePeriod (apRate (sidePort s) d)) }
    let d := showSide s (setSide s x d)
    if slip then portSlip s x.last.marks d else d

/-- A received row enters the elastic buffer. -/
def rxWrite (s : Nat) (f : PortFrame) (d : Dev) : Dev :=
  let (row, x, bad) := receiveRow s f d
  let buf := x.buf ++ [row]
  portParity s bad (showMarks s row.marks (showSide s (setSide s { x with buf := buf.drop (buf.length - 16) } d)))

/-- A frame arrives at a side with its own clock (R378 to R380). -/
def sideFrame (s : Nat) (f : PortFrame) (d : Dev) : Dev :=
  if !sideOn s d then (if funcState (portFunc (sidePort s)) d = 3 ∧ 16 ≤ s ∧ sideState s d = 2 ∧ f.valid then txRead s d else d)
  else
    let x := side s d
    let st := sideState s d
    let x := if x.n = 0 then { x with n := 1, first := f.at_, latest := f.at_ } else { x with n := x.n + 1, latest := f.at_ }
    if f.valid then
      let d := setSide s { x with valid := x.valid + 1, invalid := 0 } d
      let d := portStatus s f d
      if st = 0 then setSideState s 1 d
      else if st = 1 then sideDecide s d
      else if st = 2 then (if 16 ≤ s then txRead s d else rxWrite s f d)
      else d
    else
      let d := setSide s { x with valid := 0, invalid := x.invalid + 1, csBits := [] } d
      if st = 2 ∧ x.invalid + 1 < 3 then (if s < 16 ∨ !sideOn (s - 16) d then portGlitch (sidePort s) d else d)
      else if 3 ≤ x.invalid + 1 ∧ (st = 1 ∨ st = 2) then sideLost s d
      else d

/-! ### Masks (R384 to R386) -/

/-- The pending masks become active at a valid frame of a port that is locked. -/
def takeMasks (p : Nat) (d : Dev) : Dev :=
  match tabGet none d.apt.masks p with
  | some (rx, tx) =>
    let locked := sideState p d == 2 || sideState (16 + p) d == 2
    if !locked then d
    else
      let d := wr APT_TDM_RXMASK_ACT_mask [p] rx (wr APT_TDM_TXMASK_ACT_mask [p] tx (wr APT_TDM_STATUS_mask_pending [p] 0 d))
      recordRoute 4 [p, rx, tx] { d with apt := { d.apt with masks := tabSet none d.apt.masks p none } }
  | none => d

/-- The shadow masks become pending at a tick, outside safe state. -/
def pendMasks (p : Nat) (d : Dev) : Dev :=
  let rx := rd APT_TDM_RXMASK_mask [p] d
  let tx := rd APT_TDM_TXMASK_mask [p] d
  let same := decide (rx = rd APT_TDM_RXMASK_ACT_mask [p] d ∧ tx = rd APT_TDM_TXMASK_ACT_mask [p] d)
  if !running (fTdm p) d || inSafe d || (same && (tabGet none d.apt.masks p).isNone) then d
  else wr APT_TDM_STATUS_mask_pending [p] 1 { d with apt := { d.apt with masks := tabSet none d.apt.masks p (some (rx, tx)) } }

/-- A frame of a master TDM port: its row becomes sample k + 2 of the grid (R376). -/
def masterFrame (p : Nat) (f : PortFrame) (d : Dev) : Dev :=
  if !sideOn p d then d
  else
    let ts := samplePeriod (apRate p d)
    let k := (((f.at_ : Int) - portAdv p d) / (ts : Int)).toNat
    let (row, x, _) := receiveRow p f d
    let buf := x.buf ++ [{ row with tag := k + 2 }]
    showMarks p row.marks (showSide p (setSide p { x with buf := buf.drop (buf.length - 16) } d))

/-- A frame of port p. -/
def portFrame (p : Nat) (f : PortFrame) (d : Dev) : Dev :=
  let d := if p < 8 ∧ f.valid ∧ (portMaster p d ∨ sideState p d = 2 ∨ sideState (16 + p) d = 2) then takeMasks p d else d
  if portMaster p d then (if f.valid then masterFrame p f d else d)
  else forEach (portSides p) (fun s d => sideFrame s f d) d

/-- A port's clock fails for the limit of R379. -/
def portClockLoss (p : Nat) (d : Dev) : Dev :=
  if portMaster p d then d
  else forEach (portSides p) (fun s d => if sideOn s d ∧ (sideState s d = 1 ∨ sideState s d = 2) then sideLost s d else d) d

/-! ### Ticks (R374, R378, R385, R389) -/

/-- The offset that a side's frames of an interval show, in units of 2^-40; halves to even (log entry 20). -/
def measured (x : Side) (ts : Nat) : Option Int :=
  if x.n < 2 ∨ x.latest ≤ x.first then none
  else
    let real := x.latest - x.first
    let want : Int := ((x.n - 1) * ts : Nat)
    some (roundHalfEven ((want - (real : Int)) * 1099511627776) real)

/-- The interval of a side ends at a tick. -/
def sideTick (s : Nat) (d : Dev) : Dev :=
  if !sideOn s d || portMaster (sidePort s) d then d
  else
    let p := sidePort s
    let x := side s d
    let m := measured x (samplePeriod (apRate p d))
    let d := setSide s { x with n := 0, meas := (match m with | some v => some v | none => x.meas) } d
    match m with
    | none => d
    | some v =>
      let st := sideState s d
      if st = 1 then sideDecide s d
      else if st = 3 then (if rateWithin v then setSideState s 1 (setSide s { side s d with valid := 0 } d) else d)
      else if st = 2 then
        if rateWithin v then (if p < 8 then wrS APT_TDM_FREQ_freq [p] v d else wrS APT_AIN_FREQ_freq [p - 8] v d)
        else sideLost s d
      else d

/-- A port whose start was launched enters RUNNING at the tick after; a master is locked at once. -/
def portRuns (p : Nat) (d : Dev) : Dev :=
  if funcState (portFunc p) d ≠ 1 then d
  else
    let d := setFuncState (portFunc p) 2 d
    if portMaster p d then portPresence p (setSideState p 2 (setSideState (16 + p) 2 d)) else d

/-- A start request is launched: the active masks are loaded from the shadows (R386). -/
def portStarts (p : Nat) (d : Dev) : Dev :=
  if p < 8 then wr APT_TDM_RXMASK_ACT_mask [p] (rd APT_TDM_RXMASK_mask [p] d) (wr APT_TDM_TXMASK_ACT_mask [p] (rd APT_TDM_TXMASK_mask [p] d) d)
  else d

/-- A stop request is launched: the sides begin their falling ramp (R390). -/
def portStops (p : Nat) (d : Dev) : Dev :=
  let fall := fun (s : Nat) (d : Dev) =>
    let x := side s d
    setSide s { x with ramp := { mode := 1, x := if x.ramp.mode = 0 then fullRamp else x.ramp.x } } d
  let d := { d with apt := { d.apt with stopping := tabSet 0 d.apt.stopping p (d.devTime + 1) } }
  forEach (if p < 8 then [p, 16 + p] else if p < 16 then [p] else [p + 8]) fall d

/-- The audio ports at a tick. -/
def portTick (p : Nat) (d : Dev) : Dev :=
  let d := portRuns p d
  let d := launchFunc (portFunc p) (portCheck p) (portStarts p) (portStops p) d
  let d := if p < 16 then forEach (portSides p) sideTick d else d
  if p < 8 then pendMasks p d else d

/-- The shut-down of a port completes, 5 ms after it began or later. -/
def portStopComplete (p : Nat) (d : Dev) : Dev :=
  if funcState (portFunc p) d ≠ 3 then d
  else
    let d := advanceDev (tabGet 0 d.apt.stopping p - 1 + 5 * msUnits) d
    let d := { d with apt := { d.apt with stopping := tabSet 0 d.apt.stopping p 0, masks := tabSet none d.apt.masks p none } }
    let d := forEach (if p < 8 then [p, 16 + p] else if p < 16 then [p] else [p + 8]) (fun s d =>
      let d := setSide s {} d
      if s < 24 then showSide s (setSideState s 0 d) else d) d
    let d := if p < 8 then wr APT_TDM_STATUS_mask_pending [p] 0 (wr APT_TDM_FREQ_freq [p] 0 d)
      else if p < 16 then wr APT_AIN_FREQ_freq [p - 8] 0 d else d
    portPresence p (setFuncState (portFunc p) 0 d)

/-! ### Grid instants (R374, R376, R381) -/

/-- Write a row to the source channels of an input port, with the ramp in force. -/
def writeRow (p : Nat) (row : PortRow) (ramp : Ramp) (d : Dev) : Dev :=
  match portSource p d with
  | none => d
  | some (t, first) =>
    forUpTo row.samples.length (fun j d =>
      match chanOf t.num (first + j) d with
      | none => d
      | some c =>
        if !Nat.testBit row.present j then d
        else
          let npcm := Nat.testBit row.marks (j / 2)
          let v := row.samples.getD j 0
          let mute := muteOf (apRate p d) d
          if npcm then (if ramp.mode = 1 then d else setChan c { val := mute v true, present := true, npcm := true } d)
          else setChan c { val := mute (if ramp.mode = 0 then v else scaled v ramp.x) false, present := true } d) d

/-- Input port p gives sample k of its rate's grid. -/
def portGives (p k : Nat) (d : Dev) : Dev :=
  let x := side p d
  let ts := samplePeriod (apRate p d)
  let st := funcState (portFunc p) d
  if st = 3 ∨ (sideState p d ≠ 2 ∧ x.ramp.mode = 1) then
    if x.ramp.mode = 1 then showSide p (setSide p { x with ramp := rampStep x.ramp ts } (writeRow p x.last x.ramp d)) else d
  else if st ≠ 2 ∨ sideState p d ≠ 2 then d
  else if portMaster p d then
    if !rdB APT_TDM_CFG_rx_en [p] d then d
    else
      let row := (x.buf.find? (fun q => q.tag == k)).getD { x.last with present := rd APT_TDM_RXMASK_ACT_mask [p] d }
      let row := if row.samples.length = tdmSlots p d then row else { row with samples := (row.samples ++ List.replicate (tdmSlots p d) 0).take (tdmSlots p d) }
      writeRow p row {} (setSide p { x with buf := x.buf.filter (fun q => decide (k < q.tag)), last := row } d)
  else
    let fill := x.buf.length
    if x.priming && decide (fill < 4) then
      if x.ramp.mode = 1 then showSide p (setSide p { x with ramp := rampStep x.ramp ts } (writeRow p x.last x.ramp d)) else d
    else
      let x := if x.priming then { x with priming := false, ramp := { mode := 2, x := 0 } } else x
      let (x, slip) : Side × Bool :=
        if fill < 3 then (x, true)
        else
          let q := if 5 < fill then x.buf.drop 1 else x.buf
          ({ x with buf := q.drop 1, last := q.headD x.last }, decide (5 < fill))
      let d := writeRow p x.last x.ramp d
      let d := showSide p (setSide p { x with ramp := rampStep x.ramp ts } d)
      if slip then portSlip p x.last.marks d else d

/-- The row that an output port's destination channels give now: absent channels are silence. -/
def portTakesRow (p k : Nat) (d : Dev) : PortRow :=
  match portDest p d with
  | none => { tag := k }
  | some (x, first) =>
    let n := if p < 8 then tdmSlots p d else 2
    let pl := dstPlace x.index d
    let out := (List.range n).map (fun j => match dstChan pl x (first + j) with | some c => (dchan c d).out | none => {})
    let bits := fun (f : Samp → Bool) => (out.zip (List.range n)).foldl (fun acc q => if f q.1 then acc + 2 ^ q.2 else acc) 0
    let marks := (List.range (n / 2)).foldl (fun acc m => if (out.getD (2 * m) {}).npcm || (out.getD (2 * m + 1) {}).npcm then acc + 2 ^ m else acc) 0
    { tag := k, present := bits (·.present), marks := marks, samples := out.map (·.val) }

/-- Output port p (TDM 0 to 7, AOUT 16 to 23) takes sample k: a master's and an AES3 output's leaves two samples later, a slave's waits in its
elastic buffer. -/
def portTakes (p k : Nat) (d : Dev) : Dev :=
  let s := if p < 8 then 16 + p else p + 8
  let st := funcState (portFunc p) d
  if (st ≠ 2 ∧ st ≠ 3) ∨ (p < 8 ∧ !rdB APT_TDM_CFG_tx_en [p] d) then d
  else
    let x := side s d
    let ts := samplePeriod (apRate p d)
    let row := portTakesRow p k d
    if p < 8 ∧ !portMaster p d then
      if sideState s d ≠ 2 then d
      else
        let buf := x.buf ++ [row]
        showSide s (setSide s { x with buf := buf.drop (buf.length - 16) } d)
    else
      let q := x.buf ++ [rampRow x.ramp row]
      let x := { x with buf := q.drop (q.length - 2), sent := if q.length = 3 then q.headD {} else {}, ramp := rampStep x.ramp ts }
      let d := setSide s x d
      if p < 8 then d else wr APT_AOUT_STATUS_npcm [p - 16] (if q.length = 3 then (q.headD {}).marks % 2 else 0) d

end Sys2Proof.Machine
end

