-- ==== Sys2Proof/Machine/Ruling.lean ====
section
/-! DEFINITION. The Ruling: candidates, qualification, choice, states, steering, time set and step, clock outputs (03_ruling.md). -/

namespace Sys2Proof.Machine

/-! ### Candidates -/

/-- What the Ruling keeps of candidate n. -/
def candOf (n : Nat) (d : Dev) : Cand := tabGet {} d.rul.cands n

/-- Change what the Ruling keeps of candidate n. -/
def setCand (n : Nat) (c : Cand) (d : Dev) : Dev := { d with rul := { d.rul with cands := tabSet {} d.rul.cands n c } }

/-- The phase error of candidate n: its time minus the NTW, in units of 2^-44 nib and in whole nibs (R54). -/
def phaseUnits (n : Nat) (d : Dev) : Int := if n = 5 then 0 else (candOf n d).phase
def candPhase (n : Nat) (d : Dev) : Int := phaseUnits n d / (Config.fracPerNib : Int)

/-- Set it. RUL_CAND_PHASE shows it in 64 bits; what the register shows of a phase that 64 bits cannot hold the spec does not say (a free
value; DESIGN CHOICE, notes/assumptions/33.md). -/
def setPhase (n : Nat) (phase : Int) (d : Dev) : Dev :=
  let d := setCand n { candOf n d with phase := phase } d
  let x := phase / (Config.fracPerNib : Int)
  if -(2 ^ 63) ≤ x ∧ x < 2 ^ 63 then wrS RUL_CAND_PHASE_phase [n] x d
  else
    let (v, d) := takeFree 22 d
    wr RUL_CAND_PHASE_phase [n] v d

/-- A candidate's frequency offset against the NTW rate, from its offset `f` and the steering, both against XO_IN's nominal (R54, R78). -/
def freqAgainstNtw (f s : Int) : Int := (f - s) * 2 ^ 40 / (2 ^ 40 + s)

/-- The phase a candidate will have at a device time, by its own tracked frequency (R56). -/
def predictedPhase (n : Nat) (at_ : Nat) (d : Dev) : Int :=
  phaseUnits n d + rdS RUL_CAND_FREQ_freq [n] d * (at_ - (candOf n d).measuredAt : Nat) / 2 ^ 40

/-- Bring a phase of an external candidate into (-period/2, +period/2] (R52). -/
def wrapPhase (x : Int) (p : Nat) : Int :=
  if p = 0 then x
  else
    let r := x % (p : Int)
    if 2 * r > p then r - p else r

/-- The period of candidate n's wrapping, in units of 2^-44 nib; 0 for one that bears time (R52). -/
def wrapUnits (n : Nat) (d : Dev) : Nat := if n < 2 then unitsOfNib (rd RUL_REF_FP_PERIOD_period [n] d) else 0

/-- The detector is armed: the candidate has been present for 1 s (R56). -/
def jumpArmed (n : Nat) (d : Dev) : Bool := 1000 < (candOf n d).presRun && (candOf n d).measured

/-- A difference of phase that exceeds a threshold in ns (one ns is 1,323/25 nib, R33). -/
def exceedsNs (diff : Int) (ns : Nat) : Bool := decide (diff.natAbs * 25 > ns * unitsOfNib 1323)

/-- Take a phase measurement of candidate n at the present instant, testing it for a jump (R54, R56). -/
def measurePhase (n : Nat) (phase : Int) (d : Dev) : Dev :=
  let diff := wrapPhase (phase - predictedPhase n d.devTime d) (wrapUnits n d)
  let jump := jumpArmed n d && exceedsNs diff (rd RUL_JUMP_thresh_ns [] d)
  let d := setPhase n phase d
  let d := setCand n { candOf n d with measured := true, measuredAt := d.devTime } d
  if jump then
    let c := candOf n d
    let d := setCand n { c with jumped := true, holdEnd := d.devTime + rd RUL_JUMP_holdoff_s [] d * secUnits } d
    fire 34 (count RUL_CAND_ST_jumps [n] 1 (wr RUL_CAND_ST_holdoff [n] 1 d))
  else d

/-- A load or step of the NTW by `shift` units moves every predicted phase by the same amount (R56). -/
def shiftNtw (shift : Int) (d : Dev) : Dev :=
  let d := { d with ntw := ((d.ntw : Int) + shift).toNat, lastAt := [] }
  forUpTo 5 (fun n d => setPhase n (wrapPhase (phaseUnits n d - shift) (wrapUnits n d)) d) d

/-- SEAM is present while an upstream exists, and never on the device named as timing master (R55, R426). -/
def seamPresent (d : Dev) : Bool :=
  rdB SEA_TIME_up_valid [] d
    && !(rd SEA_FABRIC_topo [] d != 0 && rd SEA_FABRIC_master [] d == rd SEA_FABRIC_member [] d)

/-- The presence criteria of R55, from what the inputs show at the tick. -/
def candPresent (n : Nat) (o : CandObs) (xo : Bool) (d : Dev) : Bool :=
  if n < 2 then
    o.live && o.pulse && decide (rd RUL_REF_CFG_clk_sel [n] d < 6) && decide (rd RUL_REF_FP_PERIOD_period [n] d ≠ 0)
  else if n < 4 then
    o.live && decide (o.clockClass ≤ rd RUL_PTP_CFG_class_max [n - 2] d) && decide (rd RUL_PTP_CFG_mac [n - 2] d ≤ 47)
  else if n = 4 then seamPresent d
  else xo

/-- Steering units in a whole number of parts per million (R70: 2^40 / 10^6 each). -/
def withinPpm (f : Int) (ppm : Nat) : Bool := decide (f.natAbs * 1000000 ≤ ppm * 2 ^ 40)

/-- Evaluate candidate n at a tick: presence, qualification and disqualification (R55 to R57). -/
def evalCand (xo : Bool) (n : Nat) (o : CandObs) (d : Dev) : Dev :=
  let c := candOf n d
  let xoOut := rdB RUL_STATUS_xo_lost [] d
  let present := candPresent n o xo d && !xoOut
  let freq : Int := if n = 5 then 0 else o.freq
  let d := wrS RUL_CAND_FREQ_freq [n] (if n = 5 then 0 else freqAgainstNtw freq (steering d)) d
  let phase := predictedPhase n d.devTime d
  let d := if n < 5 && c.measured && present then setPhase n (wrapPhase phase (wrapUnits n d)) d else d
  let c := candOf n d
  let en := rdB RUL_CAND_CFG_en [n] d
  let inRange := withinPpm freq (rd RUL_CAND_CFG_capture_ppm [n] d)
  let ok := en && present && inRange && !c.jumped && !c.rewritten && !rdB RUL_CAND_ST_holdoff [n] d
  let run := if ok then c.qualRun + 1 else 0
  let was := rdB RUL_CAND_ST_qualified [n] d
  let keep := en && present && inRange && !c.jumped && !c.rewritten
  let now := if n = 5 then en && present else (was && keep) || decide (rd RUL_TIMING_qual_s [] d * 1000 < run)
  let d := setCand n { c with
      presRun := if present then c.presRun + 1 else 0
      qualRun := min run 61000
      jumped := false
      rewritten := false
      measured := c.measured && present
      measuredAt := if c.measured && present then d.devTime else c.measuredAt
      window := if present then (freq :: c.window).take 1000 else [] } d
  let d := wrB RUL_CAND_ST_present [n] present d
  let d := wrB RUL_CAND_ST_qualified [n] now d
  let d := wr RUL_CAND_ST_qual_elapsed_s [n] (min 63 (min run 61000 / 1000)) d
  let d := wrBit RUL_STATUS_qual [] n now d
  if was && !now then fire 33 d else d

/-- Candidate n is qualified. -/
def qualified (n : Nat) (d : Dev) : Bool := rdB RUL_CAND_ST_qualified [n] d

/-- Candidate n's phase error exceeds the reach (R58). -/
def beyondReach (n : Nat) (d : Dev) : Bool := decide ((candPhase n d).natAbs > rd RUL_REACH_reach_us [] d * 52920)

/-- Set candidate n's far flag; FS0037 fires each time it goes from 0 to 1 (R58). -/
def evalFar (n : Nat) (d : Dev) : Dev :=
  let far := qualified n d && beyondReach n d
  let was := rdB RUL_CAND_ST_far [n] d
  let d := wrB RUL_CAND_ST_far [n] far d
  if far && !was then fire 37 d else d

/-- The better of two candidates: lower rank, then the selected one, then the lower index (R58). -/
def betterOf (sel : Nat) (rank : Nat → Nat) (a b : Nat) : Nat :=
  if rank b < rank a then b
  else if rank a < rank b then a
  else if b = sel then b
  else a

/-- The choice of R58 among given candidates in rising index order, with `reach` saying whether those beyond reach are excluded. -/
def chooseAmong (ns : List Nat) (reach : Bool) (d : Dev) : Option Nat :=
  let ok := ns.filter (fun n => qualified n d && !(reach && beyondReach n d))
  let sel := rd RUL_STATUS_sel [] d
  if !rdB RUL_CTRL_revertive [] d && ok.contains sel then some sel
  else
    match ok with
    | [] => none
    | x :: rest => some (rest.foldl (betterOf sel (fun n => rd RUL_CAND_CFG_rank [n] d)) x)

/-- The mean frequencies of two candidates over the last second differ by more than 2 ppm (R59). -/
def freqsDiffer (a b : List Int) : Bool :=
  decide (a ≠ []) && decide (b ≠ []) &&
    decide ((a.sum * (b.length : Int) - b.sum * (a.length : Int)).natAbs * 1000000 > 2 * 2 ^ 40 * (a.length * b.length))

/-- Some two qualified candidates of equal rank disagree (R59). -/
def anyDisagree (d : Dev) : Bool :=
  (List.range 6).any (fun i => (List.range i).any (fun j =>
    qualified i d && qualified j d && rd RUL_CAND_CFG_rank [i] d == rd RUL_CAND_CFG_rank [j] d &&
      freqsDiffer (candOf i d).window (candOf j d).window))

/-! ### The states of R60 and R61 -/

/-- The state after a tick, by the first row of R61 that matches: 0 FREE, 1 ACQUIRE, 2 LOCKED, 3 SWITCH, 4 HOLDOVER, 5 OPEN. -/
def nextRulState (st : Nat) (open_ xoLost : Bool) (best : Option Nat) (sel : Nat) (locked unlocked : Bool) : Nat :=
  if open_ then 5
  else if xoLost then st
  else if st = 5 then (match best with | some 5 => 0 | some _ => 1 | none => 4)
  else if st = 0 ∨ st = 4 then
    (match best with
     | some 5 => 0
     | some _ => 1
     | none => st)
  else
    match best with
    | some 5 => 0
    | none => 4
    | some b =>
      if b ≠ sel then 3
      else if st ≠ 2 ∧ locked then 2
      else if st = 2 ∧ unlocked then 1
      else st

/-- The selected candidate that goes with a state: the best in ACQUIRE, LOCKED and SWITCH, XO or none in FREE, none otherwise (R60). -/
def nextRulSel (st : Nat) (xoLost : Bool) (best : Option Nat) (sel : Nat) : Nat :=
  if st = 5 ∨ st = 4 then 7
  else if xoLost then sel
  else if st = 0 then (if best = some 5 then 5 else 7)
  else best.getD 7

/-! ### Steering (R63 to R66, R70, R581) -/

/-- The tracking part's greatest move in one tick (R581). -/
def trackLimit (slopePpb : Nat) : Nat := slopePpb * 1099512 / 1000000

/-- 2 pi in units of 10^-40. -/
def twoPiE40 : Nat := 62831853071795864769252867665590057683943

/-- 1 - exp(-x) for x = num / den by 24 terms of its series, in units of 2^-128 (R581). -/
def oneMinusExp (num den : Nat) : Int :=
  let step := fun (p : Int × Int) (i : Nat) => (p.1 + (if i % 2 = 1 then p.2 else -p.2), p.2 * (num : Int) / ((den : Int) * ((i : Int) + 1)))
  ((List.range' 1 24).foldl step (0, (2 ^ 128 * (num : Int)) / (den : Int))).1

/-- The tracking loop's factor k for a bandwidth in mHz, in units of 2^-128 (R581). -/
def trackFactor (bwMhz : Nat) : Int := oneMinusExp (twoPiE40 * bwMhz) (10 ^ 46)

/-- One tick of the tracking loop of R581 towards the steering `f`. -/
def trackStep (t f : Int) (bwMhz slopePpb : Nat) : Int :=
  let dT := roundHalfEven ((f - t) * trackFactor bwMhz) (2 ^ 128)
  let lim : Int := trackLimit slopePpb
  t + clampI (-lim) lim dT

/-- Move towards a target by at most the slope limit of one tick (R60, R66, R73). -/
def slopeTo (t target : Int) (slopePpb : Nat) : Int :=
  let lim : Int := trackLimit slopePpb
  t + clampI (-lim) lim (target - t)

/-- The largest slew component from which coming down to zero at `a` per tick moves at most `x` (steering units times ticks). -/
def stoppable (x a : Nat) : Nat :=
  if a = 0 then 0
  else
    let n := (isqrt (8 * x / a + 1) - 1) / 2
    min ((x + a * (n * (n + 1) / 2)) / (n + 1)) ((n + 1) * a)

/-- The slew component of the next tick for a phase error in nib: the profile of R63, within rate_ns and slope_ppb, that brings the error
to zero with the slew component at zero soonest. -/
def slewStep (cur err : Int) (rateNs slopePpb : Nat) : Int :=
  let a : Int := trackLimit slopePpb
  let r : Int := (rateNs * 1099512 / 1000 : Nat)
  let x := err.natAbs * 2 ^ 40 / 52920000
  let sgn : Int := if err < 0 then -1 else 1
  let u := sgn * cur
  sgn * clampI (-r) r (clampI (u - a) (u + a) (stoppable x a.toNat))

/-- The clamp of R70. -/
def steerLimit : Int := 109951162

/-- Add one tick to the runs of R65, newest first. -/
def pushRun (v : Int) (runs : List (Int × Nat)) : List (Int × Nat) :=
  match runs with
  | (w, n) :: rest => if w = v then (w, n + 1) :: rest else (v, 1) :: runs
  | [] => [(v, 1)]

/-- Keep the newest n ticks of the runs. -/
def takeRuns (n : Nat) (runs : List (Int × Nat)) : List (Int × Nat) :=
  match runs with
  | [] => []
  | (v, k) :: rest => if n = 0 then [] else if n ≤ k then [(v, n)] else (v, k) :: takeRuns (n - k) rest

/-- The average of the runs, to the nearest steering unit (R65). -/
def meanRuns (runs : List (Int × Nat)) : Int :=
  let n := (runs.map (·.2)).sum
  if n = 0 then 0 else roundHalfEven ((runs.map (fun p => p.1 * (p.2 : Int))).sum) n

/-- The steering after the state of this tick is known: T, the slew component, S and its clamp (R60, R63 to R66, R70, R73, R581). -/
def steer (from_ st : Nat) (freqs : Nat → Int) (d : Dev) : Dev :=
  let s := steering d
  let slope := rd RUL_SLEW_slope_ppb [] d
  let sel := rd RUL_STATUS_sel [] d
  let xoLost := rdB RUL_STATUS_xo_lost [] d
  if xoLost then d
  else
    let lt := if from_ = 2 then min 1000 (d.rul.lockedTicks + 1) else d.rul.lockedTicks
    let d := { d with rul := { d.rul with lockedTicks := lt } }
    let d := if 1000 ≤ lt then wr RUL_STATUS_hold_valid [] 1 d else d
    let held := if rdB RUL_STATUS_hold_valid [] d then meanRuns (takeRuns (rd RUL_TIMING_hold_avg_s [] d * 1000) d.rul.avgRuns) else d.rul.track
    let d := if st = 4 ∧ from_ ≠ 4 then wrS RUL_HOLD_FREQ_value [] (if from_ = 5 then s else held) d else d
    let d := if st = 5 ∧ from_ ≠ 5 then wrS RUL_DCO_SET_value [] s d else d
    let entering := st ≠ from_ ∧ (st = 0 ∨ st = 4 ∨ st = 5 ∨ from_ = 5)
    let t0 := if entering then s else d.rul.track
    let w0 := if entering then 0 else d.rul.slew
    let p : Int × Int :=
      if st = 0 then (slopeTo t0 0 slope, 0)
      else if st = 4 then (slopeTo t0 (rdS RUL_HOLD_FREQ_value [] d) slope, 0)
      else if st = 5 then (slopeTo t0 (rdS RUL_DCO_SET_value [] d) slope, 0)
      else (trackStep t0 (freqs sel) (rd RUL_CAND_CFG_bw_mhz [sel] d) slope,
            slewStep w0 (candPhase sel d) (rd RUL_SLEW_rate_ns [] d) slope)
    let sum := p.1 + p.2
    let s' := clampI (-steerLimit) steerLimit sum
    let avg := if st = 2 then takeRuns 1000000 (pushRun p.1 d.rul.avgRuns) else d.rul.avgRuns
    let d := { d with rul := { d.rul with track := p.1, slew := p.2, avgRuns := avg } }
    let d := wrS RUL_DCO_ACT_value [] s' (wrS RUL_SLEW_ACT_value [] p.2 d)
    let d := wrB RUL_STATUS_slewing [] (decide (p.2 ≠ 0)) d
    setRaw 41 (decide (s' ≠ sum)) d

/-! ### Time set and step (R68, R69) -/

/-- Every raster family is STOPPED (R69). -/
def familiesStopped (d : Dev) : Bool := (List.range 16).all (fun n => rd DUC_FAM_STATUS_state [n] d == 0)

/-- Load the NTW with a candidate's time: the NTW moves by its phase error. -/
def loadFrom (n : Nat) (d : Dev) : Dev := shiftNtw (phaseUnits n d) d

/-- The time set, once after PORST_N, at the first tick of R68 that applies. -/
def timeSet (freqs : Nat → Int) (d : Dev) : Dev :=
  if rdB RUL_STATUS_time_set [] d then d
  else
    match chooseAmong [2, 3, 4] false d with
    | some n =>
      let d := loadFrom n d
      wr RUL_STATUS_time_set [] 1 { d with rul := { d.rul with track := freqs n } }
    | none =>
      if rd RUL_TIME_WAIT_wait_s [] d * secUnits ≤ d.devTime then
        let d := match chooseAmong [0, 1] false d with | some n => loadFrom n d | none => d
        fire 38 (wr RUL_STATUS_time_set [] 1 d)
      else d

/-- Apply a requested step, or refuse it (R69). -/
def applyStep (d : Dev) : Dev :=
  match d.rul.stepReq with
  | none => d
  | some src =>
    let d := { d with rul := { d.rul with stepReq := none } }
    let refuse := fire 32 (wr RUL_CMD_ST_step_refused [] 1 d)
    if !familiesStopped d || !rdB RUL_STATUS_time_set [] d then refuse
    else if src then
      match chooseAmong [2, 3, 4] false d with
      | some n => wr RUL_CMD_ST_step_done [] 1 (loadFrom n d)
      | none => refuse
    else
      match ntwOfWord (rd RUL_NTW_SET_ntw [] d) with
      | some t => wr RUL_CMD_ST_step_done [] 1 (shiftNtw ((t : Int) - d.ntw) d)
      | none => refuse

/-! ### The tick -/

/-- XO_IN's return: after 1 s of presence xo_lost clears and FS0040 stops standing (R71). -/
def evalXo (xo : Bool) (d : Dev) : Dev :=
  if !rdB RUL_STATUS_xo_lost [] d then d
  else
    let run := if xo then d.rul.xoRun + 1 else 0
    if 1000 < run then
      setRaw 40 false (wr RUL_STATUS_xo_lost [] 0 { d with rul := { d.rul with xoRun := 0 } })
    else { d with rul := { d.rul with xoRun := run } }

/-- Loss of XO_IN (R71): the DCO and PLLs hold on the internal oscillator and every candidate is disqualified. -/
def xoInLost (d : Dev) : Dev :=
  let d := wr RUL_STATUS_xo_lost [] 1 { d with rul := { d.rul with xoRun := 0 } }
  let d := forUpTo 6 (fun n d =>
    let d := setCand n { candOf n d with qualRun := 0 } (wr RUL_CAND_ST_qual_elapsed_s [n] 0 d)
    if qualified n d then fire 33 (wr RUL_CAND_ST_qualified [n] 0 (wrBit RUL_STATUS_qual [] n false d)) else d) d
  setRaw 40 true d

/-- The Ruling's evaluation at a selection tick (R55 to R73, R581). -/
def rulingTick (obs : List CandObs) (xo : Bool) (d : Dev) : Dev :=
  let freqs := fun n => if n = 5 then 0 else (obs.getD n {}).freq
  let d := evalXo xo d
  let d := forUpTo 6 (fun n d => evalCand xo n (obs.getD n {}) d) d
  let d := timeSet freqs d
  let d := applyStep d
  let d := forUpTo 6 evalFar d
  let best := chooseAmong [0, 1, 2, 3, 4, 5] true d
  let dis := anyDisagree d
  let d := setRaw 35 dis (wrB RUL_STATUS_disagree [] dis d)
  let st := rd RUL_STATUS_state [] d
  let sel := rd RUL_STATUS_sel [] d
  let within := decide ((candPhase sel d).natAbs < 2646)
  let follows := st == 1 || st == 2 || st == 3
  let lr := if follows && within then d.rul.lockRun + 1 else 0
  let ur := if follows && !within then d.rul.unlockRun + 1 else 0
  let xoLost := rdB RUL_STATUS_xo_lost [] d
  let st' := nextRulState st (rdB RUL_CTRL_open [] d) xoLost best sel (decide (2000 < lr)) (decide (2000 < ur))
  let sel' := nextRulSel st' xoLost best sel
  let same := sel' == sel
  let d := { d with rul := { d.rul with lockRun := if same then lr else 0, unlockRun := if same then ur else 0 } }
  let d := wr RUL_STATUS_sel [] sel' (wr RUL_STATUS_state [] st' d)
  let d := setRaw 39 (st' == 5) (setRaw 36 (st' == 4) d)
  let d := if st' ≠ st ∨ sel' ≠ sel then raiseIrq 5 d else d
  steer st st' freqs d

/-! ### Events between ticks -/

/-- The instant at which hold-off of candidate n ends (R56). -/
def holdOffExpiry (n : Nat) (d : Dev) : Dev :=
  if rdB RUL_CAND_ST_holdoff [n] d then wr RUL_CAND_ST_holdoff [n] 0 (advanceDev (candOf n d).holdEnd d) else d

/-- clr_holdoff: a 1 in bit n ends candidate n's hold-off (R56, R78). -/
def clrHoldoff (mask : Nat) (d : Dev) : Dev :=
  forUpTo 6 (fun n d => if Nat.testBit mask n then wr RUL_CAND_ST_holdoff [n] 0 d else d) d

/-- An active frame-pulse edge of REF_A or REF_B arrives, timestamped `arrival` in nib since the epoch (R52, R54, R56). -/
def refFramePulse (n arrival : Nat) (d : Dev) : Dev :=
  let d := advanceTo (unitsOfNib arrival) d
  let p := rd RUL_REF_FP_PERIOD_period [n] d
  if p = 0 then d
  else
    let x := (arrival : Int) - rdS RUL_REF_FP_OFFSET_offset [n] d
    measurePhase n (wrapPhase (-x) p * (Config.fracPerNib : Int)) d

/-- A Sync message: firmware passes the filtered estimate of the candidate's time at the local instant `rx` (R33, R53, R54, R56). -/
def ptpSync (n sec ns rx : Nat) (d : Dev) : Dev :=
  let d := advanceTo rx d
  measurePhase n ((ptpToNtw sec ns : Int) - rx) d

/-- Request a step at the next tick (R69). -/
def requestStep (src : Bool) (d : Dev) : Dev := { d with rul := { d.rul with stepReq := some src } }

/-- A type-specific configuration register of candidate n was written: it is disqualified at the next tick (R57). -/
def candRewritten (n : Nat) (d : Dev) : Dev := setCand n { candOf n d with rewritten := true } d

/-! ### Clock outputs (R74, R75) -/

/-- The outputs are held inactive by the squelch field; the value 3 acts as 2 (R75). -/
def squelched (d : Dev) : Bool :=
  let q := rd RUL_OUT_CFG_squelch [] d
  let st := rd RUL_STATUS_state [] d
  if q = 0 then false else if q = 1 then st == 0 || st == 4 else st != 2

/-- A pulse width, shortened to half the output's period when it is longer than the period (R78). -/
def pulseWidth (width period : Nat) : Nat := if period < width then period / 2 else width

/-- The next PPS_OUT pulse begins: at an NTW instant whose nib field is 0, advanced by RUL_OUT_ADV (R74, R75). -/
def ppsOutPulse (d : Dev) : Dev :=
  let d := atGrid Config.nibsPerSec ((-(rdS RUL_OUT_ADV_adv [] d)) % (Config.nibsPerSec : Int)).toNat 2 d
  if rdB RUL_OUT_CFG_pps_en [] d && !squelched d then
    { d with pins := { d.pins with ppsOut := true, ppsOutEnd := d.devTime + pulseWidth (rd RUL_OUT_WIDTH_pps_width_ms [] d * msUnits) secUnits } }
  else d

/-- A REF_OUT_FP pulse begins at a frame boundary of family `fam` of period `p` nib (R74, R75). -/
def refOutFpPulse (fam p : Nat) (d : Dev) : Dev :=
  if rdB RUL_OUT_CFG_fp_en [] d && rd RUL_OUT_CFG_fp_fam [] d == fam && rd DUC_FAM_STATUS_state [fam] d == 2 && !squelched d then
    { d with pins := { d.pins with refOutFp := true, refOutFpEnd := d.devTime + pulseWidth (rd RUL_OUT_WIDTH_fp_width_us [] d * usUnits) (unitsOfNib p) } }
  else d

/-- The width of a PPS_OUT (true) or REF_OUT_FP (false) pulse expires and the pin returns inactive (R74). -/
def pulseWidthEnd (pps : Bool) (d : Dev) : Dev :=
  if pps then
    if d.pins.ppsOut then
      let d := advanceDev d.pins.ppsOutEnd d
      { d with pins := { d.pins with ppsOut := false } }
    else d
  else if d.pins.refOutFp then
    let d := advanceDev d.pins.refOutFpEnd d
    { d with pins := { d.pins with refOutFp := false } }
  else d

end Sys2Proof.Machine
end

