-- ==== Sys2Proof/Machine/Seam.lean ====
section
/-! DEFINITION. Seam links: the function, frames in both directions, training, lanes lost and regained, time, payload streams, and the
message channel (R415 to R430, R437). What messages say is acted on in the fabric's own file. -/

namespace Sys2Proof.Machine

def seaLink (n : Nat) (d : Dev) : SeaLink := tabGet {} d.sea.links n
def setSeaLink (n : Nat) (x : SeaLink) (d : Dev) : Dev := { d with sea := { d.sea with links := tabSet {} d.sea.links n x } }
def seaLane (n i : Nat) (d : Dev) : SeaLane := tabGet {} (seaLink n d).lanes i
def setSeaLane (n i : Nat) (x : SeaLane) (d : Dev) : Dev :=
  let k := seaLink n d
  setSeaLink n { k with lanes := tabSet {} k.lanes i x } d

/-- Ones among the first eight bits. -/
def popcount8 (m : Nat) : Nat := ((List.range 8).filter (fun i => Nat.testBit m i)).length

/-- The link's lanes that the receiver finds working but for the partner's tx_lanes, and those that work (R421). -/
def rxOkMask (n : Nat) (d : Dev) : Nat := (List.range 8).foldl (fun acc i => if (seaLane n i d).ok then acc + 2 ^ i else acc) 0
def rxWorking (n : Nat) (d : Dev) : Nat := Nat.land (rxOkMask n d) (seaLink n d).peerTx

/-- The frame number of an instant in nib, counted from the epoch (R417). -/
def seamFrameNum (t : Nat) : Nat := t / 52920

/-- This device is the acting master. -/
def selfActing (d : Dev) : Bool := rdB SEA_TIME_self_acting [] d

/-- The link is the twin link. -/
def isTwin (n : Nat) (d : Dev) : Bool := rdB SEA_LINK_CFG_twin [n] d

/-- The neighbour the Pattern gives a link. -/
def linkPeer (n : Nat) (d : Dev) : Nat := rd SEA_LINK_CFG_partner [n] d

/-! ### Upstream (R426) -/

/-- A link delivers Seam frames with valid time whose origin is the acting master. -/
def deliversTime (n : Nat) (d : Dev) : Bool :=
  rxWorking n d != 0 && (seaLink n d).validNow && rd SEA_LINK_PARTNER_origin [n] d == rd SEA_TIME_acting [] d && rd SEA_LINK_PARTNER_hop [n] d != 255

/-- Choose the upstream: the present one unless it stops or another offers a lower hop; the lowest link on ties. -/
def chooseUpstream (d : Dev) : Dev :=
  let links := (List.range 24).filter (fun n => deliversTime n d)
  let hop := fun (n : Nat) => rd SEA_LINK_PARTNER_hop [n] d
  let best := links.foldl (fun (acc : Option Nat) n => match acc with | none => some n | some m => if hop n < hop m then some n else acc) none
  let cur := rd SEA_TIME_upstream [] d
  let keeps := rdB SEA_TIME_up_valid [] d && links.contains cur
  let pick := match best with
    | none => none
    | some m => if keeps ∧ hop cur ≤ hop m then some cur else some m
  let d := forUpTo 24 (fun n d => if rdB SEA_LINK_ST_upstream [n] d != decide (pick = some n) then wrB SEA_LINK_ST_upstream [n] (decide (pick = some n)) d else d) d
  match pick with
  | some m => wr SEA_TIME_upstream [] m (wr SEA_TIME_up_valid [] 1 (wr SEA_TIME_hop [] (if selfActing d then 0 else min 254 (hop m + 1)) d))
  | none => wr SEA_TIME_up_valid [] 0 (wr SEA_TIME_hop [] (if selfActing d then 0 else 255) d)

/-! ### Links up and down (R421, R424, R437) -/

/-- The streams a link delivers are lost. -/
def loseStreams (n : Nat) (d : Dev) : Dev :=
  let k := seaLink n d
  let d := setSeaLink n { k with rx := k.rx.map (fun p => (p.1, { p.2 with lost := true, px := [], line := 0, samples := [] })) } d
  forEach k.rx (fun p d => declareLoss p.2.source d) d

/-- Show a link's lanes, and act on its going down. -/
def evalLink (n : Nat) (d : Dev) : Dev :=
  let was := rdB SEA_LINK_ST_up [n] d
  let up := decide (rxWorking n d ≠ 0) && decide (rd SEA_LINK_ST_tx_lanes [n] d ≠ 0) && running (fSeam n) d
  let d := wr SEA_LINK_ST_rx_ok [n] (rxOkMask n d) (wrB SEA_LINK_ST_up [n] up d)
  let d := if rxWorking n d = 0 then
      wr SEA_LINK_ST_time_valid [n] 0 (if (seaLink n d).rx.any (fun p => !p.2.lost) then loseStreams n d else d)
    else d
  let d := if was && !up then
      let d := fire 241 (wr SEA_LINK_STICKY_down [n] 1 (wr SEA_LINK_ST_digest_ok [n] 0 d))
      if isTwin n d then fire 246 (wr SEA_STATUS_twin_down [] 1 d) else d
    else d
  chooseUpstream d

/-- A lane of the link is lost (R424): it leaves rx_ok, and trains again from the taps last in use. -/
def seamLaneLoss (n i : Nat) (d : Dev) : Dev :=
  let x := seaLane n i d
  let worked := x.ok
  let d := setSeaLane n i { x with seam := false, ok := false, readyRx := 0, readyTx := 0, answered := true, owed := none } d
  let d := if worked then fire 240 (count SEA_LINK_CNT1_lane_drops [n] 1 (wr SEA_LINK_STICKY_lane_lost [n] 1 d)) else d
  evalLink n d

/-- The health record of a change in the working lanes of the direction into this device, or out of it (`num` of R149: the link, plus 32 for
the direction out). -/
def seamRecord (n : Nat) (d : Dev) : Dev :=
  let now := popcount8 (rxWorking n d)
  let k := seaLink n d
  if now = k.reported then d else raiseHealth 1 n now (setSeaLink n { k with reported := now } d)

/-! ### Messages (R429, R430) -/

/-- The bytes of a message (DESIGN CHOICE, log entry 23: the spec gives the header's 8 bytes and no encoding of the rest). -/
def msgBytes (b : SeaBody) : Nat :=
  8 + match b with
  | .ack nums => 2 * nums.length
  | .forward (.salvo _ _ _ s) => 48 + 16 * s.recs.length
  | .announce _ _ (.salvo _ _ _ s) => 72 + 16 * s.recs.length
  | .forward (.layer _ _ w) => 8 + 4 * w.length
  | .announce _ _ (.layer _ _ w) => 32 + 4 * w.length
  | .forward (.health ..) => 8
  | .announce _ _ (.health ..) => 32
  | .request _ => 8
  | .digest .. => 64
  | .twin c s => 8 * c.length + 8 * s.length
  | .stateReq => 0
  | .state img => 96 + 32 * img.items.length
  | .forward (.answer ..) => 16
  | .announce _ _ (.answer ..) => 16

/-- Queue a message on a link. -/
def sendMsg (n : Nat) (b : SeaBody) (d : Dev) : Dev :=
  if !running (fSeam n) d then d
  else
    let k := seaLink n d
    setSeaLink n { k with waiting := k.waiting ++ [{ num := k.nextTx, body := b, left := msgBytes b }], nextTx := (k.nextTx + 1) % 65536 } d

/-- Queue a message on every running link but one. -/
def sendAllBut (but : Option Nat) (b : SeaBody) (d : Dev) : Dev := forUpTo 24 (fun n d => if but = some n then d else sendMsg n b d) d

/-- Bytes of the message channel of one frame go to the queue, oldest first. -/
def fillMsgs (room now : Nat) (ms : List SeaMsg) : List SeaMsg × List SeaMsg :=
  match ms with
  | [] => ([], [])
  | m :: rest =>
    if room = 0 then ([], m :: rest)
    else if room < m.left then ([], { m with left := m.left - room } :: rest)
    else
      let (done, left) := fillMsgs (room - m.left) now rest
      ({ m with left := 0, sentAt := now, sent := m.sent + 1 } :: done, left)

/-- The message channel of a frame on W lanes: acknowledgements first. -/
def sendMsgs (n w : Nat) (d : Dev) : Dev :=
  let k := seaLink n d
  let room := 64 * w - (if k.acks.isEmpty then 0 else 8 + 2 * k.acks.length)
  let (done, left) := fillMsgs room d.devTime k.waiting
  if w = 0 then d
  else setSeaLink n { k with acks := [], waiting := left, unacked := k.unacked ++ done } d

/-- An ACK confirms receipt by number. -/
def ackMsgs (n : Nat) (nums : List Nat) (d : Dev) : Dev :=
  let k := seaLink n d
  setSeaLink n { k with unacked := k.unacked.filter (fun m => !nums.contains m.num) } d

/-- 20 µs after its sending the oldest unacknowledged message of a link is sent again; its 16th resend without an ACK takes the link down
(R430). -/
def messageResend (n : Nat) (d : Dev) : Dev :=
  let k := seaLink n d
  match k.unacked with
  | [] => d
  | m :: rest =>
    let d := advanceDev (m.sentAt + 20 * usUnits) d
    if 17 ≤ m.sent then
      let d := setSeaLink n { k with unacked := [], waiting := [], peerTx := 0, ahead := [], acks := [] } d
      let d := forUpTo 8 (fun i d => setSeaLane n i { seaLane n i d with seam := false, ok := false, readyRx := 0, readyTx := 0 } d) d
      let d := fire 250 (wr SEA_LINK_STICKY_msg_fail [n] 1 d)
      evalLink n (wr SEA_LINK_ST_tx_lanes [n] 0 d)
    else
      let d := count SEA_LINK_CNT1_msg_resends [n] 1 d
      setSeaLink n { k with unacked := rest, waiting := { m with left := msgBytes m.body } :: k.waiting } d

/-- A message arrives intact: it is acknowledged, and the messages that are now in order are handed on, oldest first (R430). -/
def receiveMsg (n num : Nat) (b : SeaBody) (d : Dev) : List SeaBody × Dev :=
  let k := seaLink n d
  let k := { k with acks := if k.acks.contains num then k.acks else k.acks ++ [num] }
  let ahead := (num + 65536 - k.nextRx) % 65536
  if 32768 ≤ ahead then ([], setSeaLink n k d)
  else
    let held := if k.ahead.any (fun p => p.1 == num) then k.ahead else k.ahead ++ [(num, b)]
    let go := fun (_ : Nat) (a : List SeaBody × Nat × List (Nat × SeaBody)) =>
      match a.2.2.find? (fun p => p.1 == a.2.1) with
      | some (_, x) => (a.1 ++ [x], (a.2.1 + 1) % 65536, a.2.2.filter (fun p => p.1 != a.2.1))
      | none => a
    let (out, next, rest) := forUpTo held.length go ([], k.nextRx, held)
    (out, setSeaLink n { k with nextRx := next, ahead := rest } d)

/-! ### Payload (R419 to R421) -/

/-- Serve a stream's queue with a budget in bits: the queue, the bits used, the longest wait in nib of what was sent. -/
def serveQueue (budget now : Nat) (q : List (Nat × Nat)) : List (Nat × Nat) × Nat × Nat :=
  match q with
  | [] => ([], 0, 0)
  | (t, b) :: rest =>
    if budget < 8 then ((t, b) :: rest, 0, 0)
    else if budget < 8 * b then ((t, b - budget / 8) :: rest, budget / 8 * 8, now - t)
    else
      let (q, used, wait) := serveQueue (budget - 8 * b) now rest
      (q, used + 8 * b, max wait (now - t))

/-- What has newly arrived of a stream's source since the latest frame: lines of its picture, ANC packets. -/
def gatherStream (now : Nat) (x : SeaTx) (d : Dev) : SeaTx :=
  match srcDesc x.source d with
  | none => x
  | some s =>
    let r := srcRun x.source d
    let f := fmtOf s.fmt d
    let bytes := ceilDiv (f.activeSamples * bitsPerPixel f) 8
    let fresh := if x.lines ≤ r.pic.length then r.pic.length - x.lines else r.pic.length + (r.picDone.length - x.lines)
    let fresh := if s.stream = 0 then fresh else 0
    let flat := if s.stream = 0 then 0 else x.charge / 8000000
    let size := fun (ps : List AncPkt) => (ps.map (fun p => 2 * (p.words.length + 7))).sum
    let anc := if x.ancSeen ≤ r.anc.length then r.anc.drop x.ancSeen else r.anc
    { x with
      queue := x.queue ++ (if fresh = 0 then [] else [(now, fresh * bytes)]) ++ (if flat = 0 then [] else [(now, flat)])
      lines := r.pic.length
      anc := if anc.isEmpty then x.anc else x.anc ++ [(now, size anc)]
      ancSeen := r.anc.length }

/-- Streams that fit in W lanes, in the order of R167 (R424). -/
def carriedSlots (w : Nat) (tx : Tab SeaTx) : List Nat :=
  ((sortBy (fun p => p.2.order) tx).foldl (fun (acc : List Nat × Nat) p =>
    if acc.2 + p.2.charge ≤ 100800000000 * w then (acc.1 ++ [p.1], acc.2 + p.2.charge) else acc) ([], 0)).1

/-- One pass over a stream in slot order: `first` for the pass by credit. The state is the room left in bits and the longest wait. -/
def servePass (first : Bool) (now : Nat) (keep : List Nat) (p : Nat × SeaTx) (a : Tab SeaTx × Nat × Nat) : Tab SeaTx × Nat × Nat :=
  let x := p.2
  if !keep.contains p.1 then (a.1 ++ [(p.1, { x with lost := true, queue := [], anc := [] })], a.2.1, a.2.2)
  else
    let rate := x.charge - 250000000
    let credit := if first then min (x.credit % 1000000 + rate) (rate + 999999) else x.credit
    let budget := if first then min a.2.1 (credit / 1000000) else a.2.1
    let (q, used, wait) := serveQueue budget now x.queue
    let room := a.2.1 - used
    let (anc, used2, _) := serveQueue (if first then min room 250 else room) now x.anc
    (a.1 ++ [(p.1, { x with lost := false, queue := q, anc := anc, credit := if first then credit - used * 1000000 else x.credit })], room - used2, max a.2.2 wait)

/-- Packets that have waited longer than a line of their stream are dropped (R419). -/
def dropAnc (n now : Nat) (x : SeaTx) (d : Dev) : SeaTx × Nat :=
  match srcDesc x.source d with
  | none => (x, 0)
  | some s =>
    let pl := linePeriod (fmtOf s.fmt d) (famPeriod s.fam d)
    let keep := x.anc.filter (fun p => decide (now ≤ p.1 + pl))
    let _ := n
    ({ x with anc := keep }, x.anc.length - keep.length)

/-- The payload of one frame on W lanes. -/
def sendPayload (n w now : Nat) (d : Dev) : Dev :=
  let k := seaLink n d
  let tx := k.tx.map (fun p => (p.1, gatherStream now p.2 d))
  let keep := carriedSlots w tx
  let (tx, room, wait) := tx.foldl (fun a p => servePass true now keep p a) ([], 100800 * w, 0)
  let (tx, _, wait) := tx.foldl (fun a p => servePass false now keep p a) ([], room, wait)
  let drops := (tx.map (fun p => (dropAnc n now p.2 d).2)).sum
  let tx := tx.map (fun p => (p.1, (dropAnc n now p.2 d).1))
  let d := setSeaLink n { k with tx := tx } d
  let us := wait / 52920
  let d := if rd SEA_LINK_CNT2_pace_max_us [n] d < us then wr SEA_LINK_CNT2_pace_max_us [n] (min 65535 us) d else d
  if drops = 0 then d else fire 249 (count SEA_LINK_CNT2_anc_drop [n] drops (wr SEA_LINK_STICKY_anc_drop [n] 1 d))

/-- A completed line of a received stream: words that an uncorrectable codeword lost are those of the line before (R421). -/
def concealed (prev : List Px) (px : List (Option Px)) : List Px :=
  (px.zip (List.range px.length)).map (fun p => match p.1 with | some x => x | none => prev.getD p.2 {})

/-- The line in progress of a received stream is complete. -/
def flushLine (n slot : Nat) (d : Dev) : Dev :=
  let k := seaLink n d
  let x := tabGet {} k.rx slot
  if x.line = 0 then d
  else
    let px := concealed x.prevPx x.px
    addLine x.source x.line px (setSeaLink n { k with rx := tabSet {} k.rx slot { x with line := 0, px := [], prevPx := px } } d)

/-- A segment of a received stream (R419, R421, R424). -/
def receiveSeg (n : Nat) (s : SeamSeg) (d : Dev) : Dev :=
  match (seaLink n d).rx.find? (fun p => p.1 == s.slot) with
  | none => d
  | some (_, x) =>
    let put := fun (y : SeaIn) (d : Dev) => let k := seaLink n d; setSeaLink n { k with rx := tabSet {} k.rx s.slot y } d
    if s.kind = 5 then (if x.lost then d else declareLoss x.source (put { x with lost := true, line := 0, px := [], samples := [] } d))
    else
      let d := if x.lost then declareRecovery x.source (put { x with lost := false } d) else d
      let x := tabGet {} (seaLink n d).rx s.slot
      if s.kind = 0 then
        if x.line = s.line then put { x with px := x.px ++ s.px } d
        else
          let wraps := decide (s.line < x.line)
          let d := flushLine n s.slot d
          let fam := ((srcDesc x.source d).map (·.fam)).getD 0
          let d := if wraps then beginSourceFrame x.source (frameStart (famPeriod fam d) (nibOf d.ntw)) (endSourceFrame x.source d) else d
          let x := tabGet {} (seaLink n d).rx s.slot
          put { x with line := s.line, px := List.replicate s.word none ++ s.px } d
      else if s.kind = 1 then setSrcRun x.source { srcRun x.source d with anc := (srcRun x.source d).anc ++ s.anc } d
      else if s.kind = 2 ∨ s.kind = 4 then put { x with samples := x.samples ++ s.samples } d
      else d

/-- A Seam channel group gives one sample per channel at a grid instant of its rate (R301, R394, R452). -/
def seamDeliver (r : Nat) (d : Dev) : Dev :=
  forUpTo 24 (fun n d =>
    forEach (seaLink n d).rx (fun p d =>
      let k := seaLink n d
      let x := tabGet {} k.rx p.1
      match x.samples with
      | [] => d
      | row :: rest =>
        match d.xpt.runs.find? (fun q => q.1 == x.source) with
        | some (_, first, size) =>
          if srcChRate first d ≠ r then d
          else
            let d := setSeaLink n { k with rx := tabSet {} k.rx p.1 { x with samples := rest } } d
            if x.lost then d
            else forUpTo (min size row.length) (fun j d =>
              let s := row.getD j (0, false)
              setChan (first + j) { val := muteOf r d s.1 s.2, present := true, npcm := s.2 } (ringPush x.source j s.1 d)) d
        | none => d) d) d

/-! ### Frames received (R418, R421, R426, R427) -/

/-- The time sample of a frame on a working lane (R427). -/
def timeSample (n i : Nat) (c : SeamCtl) (arrival : Nat) (d : Dev) : Dev :=
  let x := seaLane n i d
  let cur := seamFrameNum (nibOf d.ntw)
  let t1 : Int := ((cur - (cur + 65536 - c.echoFrame % 65536) % 65536) * 52920 : Nat)
  let t2 : Int := c.echoTime
  let t3 : Int := c.txTime
  let t4 : Int := arrival
  let delay := ((t4 - t1) - (t3 - t2)) / 2 + rdS SEA_LINK_ASYM_asym [n] d
  let d := setSeaLane n i { x with delay := delay, sum := x.sum + (t3 + delay - t4), n := x.n + 1 } d
  let worst := (List.range 8).foldl (fun (acc : Int) j => if Nat.testBit (rxWorking n d) j then max acc (seaLane n j d).delay else acc) 0
  wr SEA_LINK_DELAY_delay [n] (ofSigned 32 worst) d

/-- Salvos of this device's banks that were forwarded and not announced are reported NOT_EXECUTED when the acting master changes (R100, R435). -/
def loseForwarded (d : Dev) : Dev :=
  forUpTo 2 (fun b d =>
    if bankPosted b d && !(d.xpt.posted.any (fun q => q.member == selfMember d && q.bank == b)) then notExecuted b (salvoTag (bankSalvo b d)) d else d) d

/-- Follow another acting master (R426, R435). -/
def followMaster (m : Nat) (d : Dev) : Dev :=
  if rd SEA_TIME_acting [] d = m then d
  else
    let self := decide (m = selfMember d)
    let d := wr SEA_TIME_acting [] m (wrB SEA_TIME_self_acting [] self (wr SEA_STATUS_takeover [] 1 d))
    chooseUpstream (loseForwarded d)

/-- The master's time that a frame carries (R426, R435): its count advances the takeover test; a second acting master is noticed. -/
def masterSeen (n : Nat) (c : SeamCtl) (d : Dev) : Dev :=
  let k := seaLink n d
  let fresh := decide (k.originCount ≠ c.originCount)
  let d := setSeaLink n { k with originCount := c.originCount, validNow := c.timeValid } d
  let acting := rd SEA_TIME_acting [] d
  let named := rd SEA_FABRIC_master [] d
  let silent := decide (d.sea.advancedAt + rd SEA_TIMING_takeover_ms [] d * msUnits ≤ d.devTime)
  if !c.timeValid || c.hop == 255 then d
  else if c.origin = acting then
    if fresh ∧ (d.sea.originCount ≠ c.originCount) ∧ !selfActing d then
      { d with sea := { d.sea with originCount := c.originCount, advancedAt := d.devTime } }
    else d
  else if (!selfActing d && silent) || (selfActing d && !d.tlr.started) then followMaster c.origin d
  else if fresh ∧ (selfActing d || !silent) ∧ (c.origin = named ∨ acting = named) then
    let d := fire 248 (wr SEA_STATUS_two_masters [] 1 d)
    if c.origin = named ∧ !d.sea.handover then followMaster named d else d
  else d

/-- A frame arrives on bundle lane i of link n. -/
def seamFrame (n i : Nat) (f : SeamRx) (d : Dev) : Dev :=
  if !running (fSeam n) d || !rdB LNS_STATUS_lock [linkLane n i d] d then d
  else
    let x := seaLane n i d
    let d := count SEA_LINK_CNT0_cw_corr [n] f.corrected d
    let d := if f.uncorrected = 0 then d
      else firePerSecond 244 (197000 + n) (count SEA_LINK_CNT0_cw_unc [n] f.uncorrected (wr SEA_LINK_STICKY_cw_unc [n] 1 d))
    match f.ctl with
    | none => d
    | some c =>
      if c.version ≠ 1 then d
      else if c.member ≠ linkPeer n d ∨ c.link ≠ rd SEA_LINK_CFG_partner_link [n] d then
        let d := evalLink n (setSeaLane n i { x with miswired := true, ok := false } d)
        if x.miswired then d else fire 242 (wr SEA_LINK_STICKY_miswire [n] 1 d)
      else
        let skewed := decide (5292 < f.skew)
        let d := if skewed && !x.skewed then fire 243 (wr SEA_LINK_STICKY_skew [n] 1 d) else d
        let ok := x.seam && f.spaced && !skewed
        let lost := x.ok && !ok
        let d := setSeaLane n i { x with miswired := false, skewed := skewed, ok := ok, echoAt := f.arrival, echoNum := seamFrameNum c.txTime % 65536 } d
        let d := if lost then fire 240 (count SEA_LINK_CNT1_lane_drops [n] 1 (wr SEA_LINK_STICKY_lane_lost [n] 1 d)) else d
        let k := seaLink n d
        let d := setSeaLink n { k with peerOk := c.rxOk, peerTx := c.txLanes } d
        let gained := fun (j : Nat) => Nat.testBit c.rxOk j && !Nat.testBit k.peerOk j
        let d := forUpTo 8 (fun j d => if gained j then setSeaLane n j { seaLane n j d with rejoinAt := f.arrival + 423360 } d else d) d
        let d := wr SEA_LINK_PARTNER_member [n] c.member (wr SEA_LINK_PARTNER_link [n] c.link (wr SEA_LINK_PARTNER_hop [n] c.hop
          (wr SEA_LINK_PARTNER_origin [n] c.origin (wrB SEA_LINK_PARTNER_claim [n] c.claim d))))
        let d := masterSeen n c d
        let works := Nat.testBit (rxWorking n d) i
        let d := if works then timeSample n i c f.arrival d else d
        let d := wrB SEA_LINK_ST_time_valid [n] (c.timeValid && decide (c.origin = rd SEA_TIME_acting [] d)) d
        let d := evalLink n d
        if works then forEach f.segs (receiveSeg n) d else d

/-! ### Frames sent (R417, R419, R424, R425, R430) -/

/-- This device is acting master, or sends time_valid as R426 gives. -/
def sendsValid (d : Dev) : Bool := selfActing d || d.sea.sendValid

/-- A frame starts on the lanes of link n: lanes the partner no longer receives are left out, a change of working lanes is recorded, payload and
messages are sent. In safe state nothing is sent (R184). -/
def seamFrameTransmit (n : Nat) (d : Dev) : Dev :=
  if !running (fSeam n) d then d
  else
    let d := atGrid 52920 0 (1024 + n) d
    if inSafe d then d
    else
      let k := seaLink n d
      let mask := Nat.land (rd SEA_LINK_ST_tx_lanes [n] d) k.peerOk
      let was := rd SEA_LINK_ST_tx_lanes [n] d
      let d := if mask = was then d else evalLink n (wr SEA_LINK_ST_tx_lanes [n] mask d)
      let d := seamRecord n d
      let d := if isTwin n d then d else sendPayload n (popcount8 mask) (nibOf d.ntw) d
      sendMsgs n (popcount8 mask) d

/-- A lane rejoins tx_lanes at the first frame at least 8 µs after the partner's rx_ok (R425). -/
def laneRejoin (n i : Nat) (d : Dev) : Dev :=
  let x := seaLane n i d
  if !running (fSeam n) d || inSafe d || x.rejoinAt == 0 || !Nat.testBit (seaLink n d).peerOk i || Nat.testBit (rd SEA_LINK_ST_tx_lanes [n] d) i then d
  else
    let d := advanceTo (unitsOfNib (ceilDiv x.rejoinAt 52920 * 52920)) d
    let d := setSeaLane n i { x with rejoinAt := 0 } (wrBit SEA_LINK_ST_tx_lanes [n] i true d)
    let d := if x.began then count SEA_LINK_CNT1_rejoins [n] 1 d else setSeaLane n i { seaLane n i d with began := true } d
    raiseHealth 1 (32 + n) (popcount8 (rd SEA_LINK_ST_tx_lanes [n] d)) (evalLink n d)

/-! ### Training (R422, R423) -/

/-- A tap after a request of a step. -/
def stepTap (v : Int) (r : Nat) : Int := if r = 1 then v + 1 else if r = 2 then v - 1 else v

/-- Apply a request to the transmitter of a lane; the answers per tap, 1 updated, 2 at a limit, 0 held. -/
def applyTrainReq (l : Nat) (q : TrainReq) (d : Dev) : List Nat × Dev :=
  let set := fun (t : List Int) (d : Dev) =>
    wrS LNS_TX_TAP_ACT_c_m3 [l] (t.getD 0 0) (wrS LNS_TX_TAP_ACT_c_m2 [l] (t.getD 1 0) (wrS LNS_TX_TAP_ACT_c_m1 [l] (t.getD 2 0)
      (wr LNS_TX_TAP_ACT_c0 [l] (t.getD 3 0).toNat (wrS LNS_TX_TAP_ACT_c_p1 [l] (t.getD 4 0) d))))
  if q.init then ([1, 1, 1, 1, 1], set [0, 0, -12, 108, 0] d)
  else
    let go := fun (i : Nat) (a : List Nat × Dev) =>
      let d := a.2
      let r := q.taps.getD i 0
      let t : List Int := [rdS LNS_TX_TAP_ACT_c_m3 [l] d, rdS LNS_TX_TAP_ACT_c_m2 [l] d, rdS LNS_TX_TAP_ACT_c_m1 [l] d,
        (rd LNS_TX_TAP_ACT_c0 [l] d : Nat), rdS LNS_TX_TAP_ACT_c_p1 [l] d]
      let t' := t.set i (stepTap (t.getD i 0) r)
      if r = 0 ∨ 3 ≤ r then (a.1 ++ [0], d)
      else if tapsOk (txMode l d) (t'.getD 0 0) (t'.getD 1 0) (t'.getD 2 0) (t'.getD 3 0) (t'.getD 4 0) then (a.1 ++ [1], set t' d)
      else (a.1 ++ [2], d)
    forUpTo 5 go ([], d)

/-- A training frame arrives on bundle lane i of link n. With 8 frames in succession in which both ends are ready, Seam frames begin. -/
def trainingFrame (n i : Nat) (f : TrainRx) (d : Dev) : Dev :=
  let l := linkLane n i d
  if !running (fSeam n) d || !rdB LNS_STATUS_lock [l] d || rd LNS_STATUS_train [l] d != 2 then d
  else
    let x := seaLane n i d
    let x := match f.status with | some (_, id) => if id = x.reqId then { x with answered := true } else x | none => x
    let (x, d) := match f.req with
      | none => (x, d)
      | some q =>
        if q.member ≠ linkPeer n d ∨ q.link ≠ rd SEA_LINK_CFG_partner_link [n] d then (x, d)
        else
          let (ans, d) := applyTrainReq l q d
          ({ x with owed := some (ans, q.id), readyRx := if q.ready then x.readyRx + 1 else 0 }, d)
    let x := if x.answered then
        (if f.want.ready then { x with readyTx := x.readyTx + 1 } else { x with readyTx := 0, reqId := (x.reqId + 1) % 256, answered := false })
      else x
    let d := setSeaLane n i x d
    if 8 ≤ x.readyRx ∧ 8 ≤ x.readyTx then wr LNS_STATUS_train [l] 3 (setSeaLane n i { x with seam := true } d) else d

/-! ### The function, ticks (R416, R426, R427) -/

/-- The start check of R416. -/
def seamCheck (n : Nat) (d : Dev) : Bool :=
  (List.range (linkWidth n d)).all (fun i =>
    let l := linkLane n i d
    decide (l < 192) && decide (rxMode l d = 5 ∧ txMode l d = 5) && (laneSynth l d).isSome && rdB LNS_MODE_train_en [l] d)
    && d.pat.members.any (fun m => m.num == linkPeer n d)

/-- A link begins to stop: its lanes leave the bundle. -/
def seamStops (n : Nat) (d : Dev) : Dev :=
  let d := forUpTo 8 (fun i d => setSeaLane n i {} d) d
  let k := seaLink n d
  evalLink n (wr SEA_LINK_ST_tx_lanes [n] 0 (setSeaLink n { k with peerOk := 0, peerTx := 0, waiting := [], unacked := [], acks := [], ahead := [], nextTx := 0, nextRx := 0 } d))

/-- The mean of the offsets of a link's lowest working lane over the interval (R427); halves to even (log entry 20). -/
def linkOffset (n : Nat) (d : Dev) : Option Int :=
  match (List.range 8).find? (fun i => Nat.testBit (rxWorking n d) i) with
  | some i => let x := seaLane n i d; if x.n = 0 then none else some (roundHalfEven x.sum x.n)
  | none => none

/-- Link n at a tick: its function, and its offset of the last 1 ms. -/
def seamTick (n : Nat) (d : Dev) : Dev :=
  let d := if funcState (fSeam n) d = 1 then (if funcEn (fSeam n) d || inSafe d then setFuncState (fSeam n) 2 d else setFuncState (fSeam n) 3 d)
    else launchFunc (fSeam n) (seamCheck n) (fun d => d) (seamStops n) d
  if !running (fSeam n) d then d
  else
    let d := match linkOffset n d with
      | some v =>
        let d := wrS SEA_LINK_OFFSET_offset [n] v d
        if rdB SEA_LINK_ST_upstream [n] d then measurePhase 4 (v * (Config.fracPerNib : Int)) d else d
      | none => d
    forUpTo 8 (fun i d => if (seaLane n i d).n = 0 then d else setSeaLane n i { seaLane n i d with sum := 0, n := 0 } d) d

/-- The Ruling has SEAM selected in ACQUIRE, SWITCH or LOCKED. -/
def seamSelected (d : Dev) : Bool :=
  let st := rd RUL_STATUS_state [] d
  (st == 1 || st == 2 || st == 3) && rd RUL_STATUS_sel [] d == 4

/-- After the Ruling's evaluation at a tick: the hold of time_valid starts anew (R426). -/
def seamAfterRuling (d : Dev) : Dev :=
  if seamSelected d then { d with sea := { d.sea with seamAt := d.devTime, sendValid := true } } else d

/-- hold_ms after SEAM was last selected, time_valid is no longer sent (R426). -/
def timeValidExpiry (d : Dev) : Dev :=
  if selfActing d || !d.sea.sendValid || seamSelected d then d
  else
    let d := advanceDev (d.sea.seamAt + rd SEA_TIMING_hold_ms [] d * msUnits) d
    { d with sea := { d.sea with sendValid := false } }

/-- The shut-down of a link finishes (R484). -/
def seamStopped (n : Nat) (d : Dev) : Dev := if funcState (fSeam n) d = 3 then setFuncState (fSeam n) 0 d else d

/-- Leaving safe state: lanes train again from the taps last in use (R184, R423). Entering it: transmitters go idle. -/
def seamIdle (d : Dev) : Dev :=
  forUpTo 24 (fun n d => if running (fSeam n) d then evalLink n (wr SEA_LINK_ST_tx_lanes [n] 0 d) else d) d

end Sys2Proof.Machine
end

