-- ==== Sys2Proof/Machine/AudioGrid.lean ====
section
/-! DEFINITION. A sample instant of a rate's grid: what every producer and every consumer of audio does at it (R45, R79, R127 to R131, R218,
R250, R301, R374 to R388, R395, R404 to R411). -/

namespace Sys2Proof.Machine

/-- The source of an SDI input gives a sample: its framer is the input's lowest lane. -/
def sdiGives (r : Nat) (s : SrcDesc) (d : Dev) : Dev :=
  match s.producer with
  | .sdi lanes => if r = 1 && s.member == selfMember d then sdiDeliver (lanes.headD 0) s.num s.channels (muteOf r d) d else d
  | _ => d

/-- Receive entry e gives sample k: an audio flow its own, an ST 2022-6 flow through its framer. -/
def entryGives (r k e : Nat) (d : Dev) : Dev :=
  let x := (rxRun e d).desc
  if isAudio x.kind then (if x.rate.getD 1 = r then flowDeliver e k (muteOf r d) d else d)
  else if x.kind = 4 ∧ r = 1 then
    sdiDeliver (flowFramer e) x.source (((srcDesc x.source d).map (·.channels)).getD 0) (muteOf r d) d
  else d

/-- Every producer of rate r gives sample k of the grid. -/
def audioGives (r k : Nat) (d : Dev) : Dev :=
  let d := forEach d.pat.sources (sdiGives r) d
  let d := forEach (d.flw.rx.map (·.1)) (entryGives r k) d
  let d := forUpTo 16 (fun p d => if apRate p d = r then portGives p k d else d) d
  let d := forEach (d.ink.syncs.map (·.1)) (fun n d => if sourceRateIx (syncRun n d).src d = r then ringDeliver n d else d) d
  let d := if rd GTH_CFG_rate [] d = r then gatherDeliver d else d
  muteStep r (seamDeliver r d)

/-- Every consumer of rate r takes sample k of the grid, at nib t. -/
def audioTakes (r k t : Nat) (d : Dev) : Dev :=
  let d := dstGrid r t d
  let d := forUpTo 8 (fun p d => if apRate p d = r then portTakes p k d else d) d
  let d := forUpTo 8 (fun p d => if apRate (16 + p) d = r then portTakes (16 + p) k d else d) d
  if rd GTH_CFG_rate [] d = r then gatherCompute d else d

/-- The next sample instant of a rate comes (R45). -/
def audioSample (r : Nat) (d : Dev) : Dev :=
  let d := atGrid (samplePeriod r) 0 (keyAudio r) d
  let t := nibOf (tabGet 0 d.lastAt (keyAudio r))
  let k := t / samplePeriod r
  audioTakes r k t (audioGives r k (shiftChans r d))

/-- Let n sample instants of a rate come. -/
def audioSamples (r n : Nat) (d : Dev) : Dev := forUpTo n (fun _ d => audioSample r d) d

/-- The crossfade of channel j of local destination i runs to its end; a switch that waits for it begins at the sample after (R129). -/
def fadeCompletes (i j : Nat) (d : Dev) : Dev :=
  match dstAt i d with
  | none => d
  | some x =>
    match dstChan (dstPlace i d) x j with
    | none => d
    | some c =>
      let y := dchan c d
      if y.fade = 0 then d else audioSamples (dstRate x d) (y.fade + (if y.next ≠ 0 then 1 else 0)) d

end Sys2Proof.Machine
end

