-- ==== Sys2Proof/Machine/Dram.lean ====
section
/-! DEFINITION. DRAM channels: start and training, retraining pauses, fixed-delay tracking, self-refresh, error counts, failure
(12_inkwell_dram.md, R93 to R95). -/

namespace Sys2Proof.Machine

def dramRun (c : Nat) (d : Dev) : DramRun := tabGet {} d.drams c
def setDramRun (c : Nat) (r : DramRun) (d : Dev) : Dev := { d with drams := tabSet {} d.drams c r }

/-- A fixed-delay channel (R323). -/
def isFixed (c : Nat) (d : Dev) : Bool := rdBit TLR_CFG_fixed_mask [] c d

/-! ### Organisation and speed (R312, R313, R316) -/

/-- The highest speed code of an organisation; none for one the table of R312 lacks. `kind`: 0 chip-down x8, 1 chip-down x4, 2 RDIMM x8,
3 RDIMM x4; `ranks`: 1 for two; `density`: 0, 1, 2 for 16, 24, 32 Gbit. -/
def orgSpeed (kind ranks density : Nat) : Option Nat :=
  if 2 < density then none
  else if kind = 0 then (if ranks = 0 then some 5 else if density = 0 then some 4 else none)
  else if kind = 1 then (if ranks = 0 ∧ density = 0 then some 4 else none)
  else if kind = 2 then (if ranks = 0 then some 3 else if density = 0 then some 2 else none)
  else if ranks = 0 ∧ density = 0 then some 3
  else none

/-- Data capacity in GB of 2^30 bytes (R312). -/
def orgCapacity (kind ranks density : Nat) : Nat :=
  if kind = 1 ∨ kind = 3 then 32 else if ranks = 1 then 32 else if density = 0 then 16 else if density = 1 then 24 else 32

/-- A channel's organisation as its register holds it. -/
def chanSpeed (c : Nat) (d : Dev) : Option Nat := orgSpeed (rd DRC_ORG_kind [c] d) (rd DRC_ORG_ranks [c] d) (rd DRC_ORG_density [c] d)

/-- A target speed is allowed for the channel's organisation. -/
def speedAllowed (c v : Nat) (d : Dev) : Bool := match chanSpeed c d with | some m => decide (v ≤ m) | none => false

/-- Usable capacity in MiB: the data capacity less 1 MiB per rank (R313). -/
def usableMib (c : Nat) (d : Dev) : Nat :=
  orgCapacity (rd DRC_ORG_kind [c] d) (rd DRC_ORG_ranks [c] d) (rd DRC_ORG_density [c] d) * 1024 - (rd DRC_ORG_ranks [c] d + 1)

/-- The Pattern holds a delay set for a fixed-delay channel at its target speed (R316, R323). -/
def delaySetOk (c : Nat) (d : Dev) : Bool :=
  !isFixed c d || d.pat.delaySets.any (fun x => x.channel == c && x.speed == rd DRC_SPEED_target [c] d)

/-- The start check (R316). -/
def dramCheck (c : Nat) (d : Dev) : Bool := speedAllowed c (rd DRC_SPEED_target [c] d) d && delaySetOk c d

/-! ### Training (R317, R318, R324) -/

/-- Step 1 begins, at the target speed. -/
def beginDramTraining (c : Nat) (d : Dev) : Dev :=
  let d := setDramRun c { dramRun c d with restart := false } d
  wr DRC_STATUS_train_step [c] 1 (wr DRC_STATUS_speed [c] (rd DRC_SPEED_target [c] d) d)

/-- Load a fixed-delay channel's delay set (R323). -/
def loadDelaySet (c : Nat) (d : Dev) : Dev :=
  match d.pat.delaySets.find? (fun x => x.channel == c) with
  | some x =>
    let d := forUpTo 80 (fun b d => let q := x.dq.getD b (0, 0, 0); wr DRC_DLY_DQ_rd [c, b] q.1 (wr DRC_DLY_DQ_wr [c, b] q.2.1 (wr DRC_DLY_DQ_vref [c, b] q.2.2 d))) d
    let d := forUpTo 20 (fun s d => let q := x.dqs.getD s (0, 0); wr DRC_DLY_DQS_gate [c, s] q.1 (wr DRC_DLY_DQS_wl [c, s] q.2 d)) d
    forUpTo 2 (fun k d => let q := x.ca.getD k (0, 0); wr DRC_DLY_CA_ca [c, k] q.1 (wr DRC_DLY_CA_cs [c, k] q.2 d)) d
  | none => d

/-- A channel starts (R316, R317, R324). -/
def dramStart (c : Nat) (d : Dev) : Dev :=
  let d := wr DRC_STATUS_target_pending [c] 0 (wr DRC_STATUS_failed_cause [c] 0 (wr DRC_STATUS_fail_count [c] 0 (wr DRC_STATUS_degraded [c] 0 d)))
  let d := wrB DRC_STATUS_fixed [c] (isFixed c d) (setDramRun c {} d)
  let d := if isFixed c d then loadDelaySet c d else d
  beginDramTraining c d

/-- The setting found is in use: its instant is recorded (R337). -/
def stampTraining (c : Nat) (d : Dev) : Dev := wr DRC_LAST_TRAIN_ntw [c] (ntwWord d.ntw) d

/-- A channel enters RUNNING (R316). -/
def dramRunning (c : Nat) (d : Dev) : Dev :=
  let d := wr DRC_STATUS_train_step [c] 0 (wr DRC_STATUS_sub [c] 0 (wr DRC_INFO_cap_mib [c] (usableMib c d) d))
  let d := setDramRun c { dramRun c d with idleFrom := d.devTime, scrubAt := d.devTime + rd DRC_ECC_CFG_scrub_h [c] d * 3600 * secUnits } d
  setFuncState (fDram c) 2 (stampTraining c d)

/-- The channel loses what shows it as RUNNING. -/
def dramOff (c : Nat) (d : Dev) : Dev := wr DRC_INFO_cap_mib [c] 0 (wr DRC_STATUS_sub [c] 0 (wr DRC_STATUS_train_step [c] 0 d))

/-- Write the settings a training found (R317). -/
def writeTrained (c : Nat) (o : TrainObs) (d : Dev) : Dev :=
  let d := forEach ((List.range o.dq.length).zip o.dq) (fun p d =>
    wr DRC_DLY_DQ_rd [c, p.1] p.2.rd (wr DRC_DLY_DQ_wr [c, p.1] p.2.wr (wr DRC_DLY_DQ_vref [c, p.1] p.2.vref d))) d
  let d := forEach ((List.range o.dqs.length).zip o.dqs) (fun p d => wr DRC_DLY_DQS_gate [c, p.1] p.2.1 (wr DRC_DLY_DQS_wl [c, p.1] p.2.2 d)) d
  forEach ((List.range o.ca.length).zip o.ca) (fun p d => wr DRC_DLY_CA_ca [c, p.1] p.2.1 (wr DRC_DLY_CA_cs [c, p.1] p.2.2 d)) d

/-- A sub-step of the initial training completes (R317 to R319, R324). -/
def substepEnd (c : Nat) (o : TrainObs) (d : Dev) : Dev :=
  let st := funcState (fDram c) d
  let step := rd DRC_STATUS_train_step [c] d
  if step = 0 then d
  else if st = 3 then setFuncState (fDram c) 0 (dramOff c d)
  else if st ≠ 1 then d
  else if (dramRun c d).restart then beginDramTraining c d
  else if o.failed then
    fire 178 (setFuncState (fDram c) 4 (wr DRC_STICKY_start_err [c] 1 (wr DRC_STATUS_failed_cause [c] 1 (dramOff c d))))
  else if !o.stepDone then d
  else
    let d := if isFixed c d then d else writeTrained c o d
    if step = 7 then dramRunning c d
    else wr DRC_STATUS_train_step [c] (if isFixed c d then 7 else step + 1) d

/-- A write of DRC_SPEED.target (R318). -/
def speedWrite (c v : Nat) (d : Dev) : Dev :=
  let d := wr DRC_SPEED_target [c] v d
  let st := funcState (fDram c) d
  let speed := rd DRC_STATUS_speed [c] d
  if st = 2 then wrB DRC_STATUS_target_pending [c] (v != speed) d
  else if st = 1 then
    if !speedAllowed c v d || isFixed c d then wrB DRC_STATUS_target_pending [c] (v != speed) d
    else if v = speed then setDramRun c { dramRun c d with restart := false } (wr DRC_STATUS_target_pending [c] 0 d)
    else if rd DRC_STATUS_train_step [c] d = 1 then beginDramTraining c (wr DRC_STATUS_target_pending [c] 0 d)
    else setDramRun c { dramRun c d with restart := true } (wr DRC_STATUS_target_pending [c] 0 d)
  else d

/-! ### Stop and failure (R319, R333, R335) -/

/-- Surfaces placed on a channel, without the capture surface. -/
def placedOn (c : Nat) (d : Dev) : Bool :=
  d.ink.surfs.any (fun p => p.2.kind != 3 && rd INK_SURF_ch [p.1] d == c)
    || d.tlr.items.any (fun it => (it.kind == 2 || it.kind == 6 || it.kind == 14) && it.member == selfMember d && it.ch == c + 1 && it.users.any (fun u => u.2.1 == 0))

/-- A STOPPING channel whose last item is released enters STOPPED (R319). -/
def channelStopped (c : Nat) (d : Dev) : Dev :=
  if funcState (fDram c) d = 3 ∧ rd DRC_STATUS_train_step [c] d = 0 ∧ !placedOn c d then
    setFuncState (fDram c) 0 (setDramRun c {} (dramOff c d))
  else d

/-- A channel fails (R333): FAILED with its cause, FS0177 and a health record at the same instant. -/
def dramFails (c cause : Nat) (d : Dev) : Dev :=
  if funcState (fDram c) d ≠ 2 ∧ funcState (fDram c) d ≠ 3 then d
  else
    let d := failSurfaces c (setDramRun c {} (dramOff c (wr DRC_STATUS_failed_cause [c] cause (wr DRC_STICKY_failed [c] 1 d))))
    fire 177 (setFuncState (fDram c) 4 d)

/-! ### Retraining (R93 to R95, R320 to R322) -/

/-- The channel is RUNNING and ACTIVE. -/
def dramActive (c : Nat) (d : Dev) : Bool := running (fDram c) d && rd DRC_STATUS_sub [c] d == 0

/-- The interval I in nib. -/
def pauseInterval (ms : Nat) : Nat := ms * 52920000

/-- A write of the pause interval takes effect at the next multiple of the new I (R95). -/
def pauseCfgWrite (ms : Nat) (d : Dev) : Dev :=
  let v := if ms < 12 then 12 else if 100 < ms then 100 else ms
  let d := wr DUC_PAUSE_CFG_interval_ms [] v d
  if v = d.xpt.pauseMs then { d with xpt := { d.xpt with pauseFrom := 0 } }
  else { d with xpt := { d.xpt with pauseFrom := nextAfter (pauseInterval v) d.ntw } }

/-- The next slot of a channel: on the grid in force, or on the new one from its first multiple on. -/
def pauseSlot (c : Nat) (d : Dev) : Dev :=
  let old := pauseInterval d.xpt.pauseMs
  let t := nextGrid old (c * old / 12) (keyPause c) d
  let d := if d.xpt.pauseFrom ≠ 0 ∧ d.xpt.pauseFrom ≤ t then
      { advanceTo d.xpt.pauseFrom d with xpt := { d.xpt with pauseMs := rd DUC_PAUSE_CFG_interval_ms [] d, pauseFrom := 0 } }
    else d
  let i := pauseInterval d.xpt.pauseMs
  atGrid i (c * i / 12) (keyPause c) d

/-- A channel's pause slot comes (R93, R94, R320). -/
def pauseBegins (c : Nat) (d : Dev) : Dev :=
  let d := pauseSlot c d
  let recent := decide (tabGet 0 d.xpt.lastPause c ≠ 0) && decide (d.devTime < tabGet 0 d.xpt.lastPause c + 12 * msUnits)
  if dramActive c d && !isFixed c d && !recent then
    let d := { d with xpt := { d.xpt with lastPause := tabSet 0 d.xpt.lastPause c d.devTime } }
    let d := count DUC_PAUSE_ST_count [] 1 (wr DUC_PAUSE_ST_active [] 1 (wr DUC_PAUSE_ST_last_ch [] c d))
    setDramRun c { dramRun c d with pauseAt := d.ntw + 1, evaluated := false } d
  else d

/-- The longest run of passing offsets in a 17-bit mask from bit k on, with where it starts: the first of equally long ones. -/
def longestRun (mask : Nat) (k cur best at_ : Nat) : Nat × Nat :=
  match k with
  | 0 => (best, at_)
  | k + 1 =>
    let j := 16 - k
    let cur := if Nat.testBit mask j then cur + 1 else 0
    if best < cur then longestRun mask k cur cur (j + 1 - cur) else longestRun mask k cur best at_

/-- The length of the longest passing run, and the middle offset of it, the lower of two (R321). -/
def passRun (mask : Nat) : Nat := (longestRun mask 17 0 0 0).1
def passMiddle (mask : Nat) : Nat := let r := longestRun mask 17 0 0 0; r.2 + (r.1 - 1) / 2

/-- A setting moved to the middle of its run: an offset is a step of 1/64 UI, two of 1/128 UI, counted from the setting minus 8 steps. -/
def movedSetting (old mask w : Nat) : Nat := ofSigned w ((old : Int) + 2 * ((passMiddle mask : Int) - 8))

/-- Every lane has a working read and write setting (R321). -/
def maskOk (lanes : List (Nat × Nat)) : Bool := lanes.length == 80 && lanes.all (fun p => decide (5 ≤ passRun p.1 ∧ 5 ≤ passRun p.2))

/-- Evaluate a retrain and apply its setting as a whole, or keep the last good one (R321, R322). The answer says whether the channel is to
fail at its end. -/
def evalRetrain (c : Nat) (lanes : List (Nat × Nat)) (d : Dev) : Dev × Bool :=
  let d := wr DRC_MARGIN_rd_min [c] ((lanes.map (fun p => passRun p.1)).foldl min 17) (wr DRC_MARGIN_wr_min [c] ((lanes.map (fun p => passRun p.2)).foldl min 17) d)
  if maskOk lanes then
    let d := forEach ((List.range lanes.length).zip lanes) (fun p d =>
      wr DRC_DLY_DQ_rd [c, p.1] (movedSetting (rd DRC_DLY_DQ_rd [c, p.1] d) p.2.1 9)
        (wr DRC_DLY_DQ_wr [c, p.1] (movedSetting (rd DRC_DLY_DQ_wr [c, p.1] d) p.2.2 9) d)) d
    let d := count DRC_CNT_retrain_ok [c] 1 (wr DRC_STATUS_degraded [c] 0 (wr DRC_STATUS_fail_count [c] 0 d))
    (stampTraining c d, false)
  else
    let n := min 3 (rd DRC_STATUS_fail_count [c] d + 1)
    let d := wr DRC_STATUS_degraded [c] 1 (wr DRC_STATUS_fail_count [c] n (count DRC_CNT_retrain_fail [c] 1 (wr DRC_STICKY_retrain_fail [c] 1 d)))
    (fire 176 d, decide (n = 3))

/-- The evaluation of a pause, 55,566 nib after its slot; the setting is applied or kept at 58,212 (R320). -/
def pauseEvaluation (c : Nat) (lanes : List (Nat × Nat)) (d : Dev) : Dev :=
  let r := dramRun c d
  if r.pauseAt = 0 ∨ r.evaluated then d
  else
    let d := advanceTo (r.pauseAt - 1 + unitsOfNib 58212) d
    let d := (evalRetrain c lanes d).1
    setDramRun c { dramRun c d with evaluated := true } d

/-- ENTERING begins (R326). -/
def beginEntering (c : Nat) (d : Dev) : Dev := setDramRun c { dramRun c d with idlePending := false } (wr DRC_STATUS_sub [c] 1 d)

/-- A pause ends; the one that brings fail_count to 3 fails the channel (R322, R326). -/
def pauseEnd (c : Nat) (d : Dev) : Dev :=
  let r := dramRun c d
  if r.pauseAt = 0 then d
  else
    let d := wr DUC_PAUSE_ST_active [] 0 (setDramRun c { r with pauseAt := 0, evaluated := false } d)
    if rd DRC_STATUS_fail_count [c] d = 3 then dramFails c 2 d
    else if r.idlePending && dramActive c d then beginEntering c d
    else d

/-! ### Fixed-delay tracking (R325) -/

/-- Drift tracking of a fixed-delay channel: each lane moves by at most one step, up to 16 from its delay-set value. `drift`: each lane's
measured drift in steps since the last reading. -/
def driftTracking (c : Nat) (drift : List Int) (d : Dev) : Dev :=
  if !isFixed c d || !running (fDram c) d then d
  else
    let r := dramRun c d
    let old := fun (b : Nat) => toSigned 16 (tabGet 0 r.moves b)
    let want := fun (b : Nat) => old b + clampI (-1) 1 (drift.getD b 0)
    let above := (List.range 80).any (fun b => decide ((want b).natAbs > 16))
    let d := forUpTo 80 (fun b d =>
      let m := clampI (-16) 16 (want b)
      let set := rd DRC_DLY_DQ_wr [c, b] d
      let r := dramRun c d
      setDramRun c { r with moves := tabSet 0 r.moves b (ofSigned 16 m) } (wr DRC_DLY_DQ_wr [c, b] (ofSigned 9 ((set : Int) + (m - old b))) d)) d
    let most := (List.range 80).foldl (fun (acc : Int) b => let m := toSigned 16 (tabGet 0 (dramRun c d).moves b); if acc.natAbs < m.natAbs then m else acc) 0
    let d := wrS DRC_MARGIN_drift [c] most d
    let was := r.limited
    let d := setDramRun c { dramRun c d with limited := above } d
    if above then
      let d := wr DRC_STICKY_drift_limit [c] 1 d
      if was then d else fire 182 d
    else d

/-! ### Self-refresh (R326 to R328) -/

/-- The conditions of R326 begin afresh: an item was placed or released, a capture ended, a BAR2 access came. -/
def touchChannel (c : Nat) (d : Dev) : Dev := setDramRun c { dramRun c d with idleFrom := d.devTime, idlePending := false } d

/-- A capture that writes to the channel is busy. -/
def captureOn (c : Nat) (d : Dev) : Bool :=
  d.ink.cap.isSome && d.ink.surfs.any (fun p => p.2.kind == 3 && rd INK_SURF_ch [p.1] d == c)

/-- The idle time expires (R326). -/
def idleTimeout (c : Nat) (d : Dev) : Dev :=
  if dramActive c d && rdB DRC_SR_sr_en [c] d && !placedOn c d && !captureOn c d then
    let d := advanceDev ((dramRun c d).idleFrom + rd DRC_SR_idle_us [c] d * usUnits) d
    if (dramRun c d).pauseAt ≠ 0 then setDramRun c { dramRun c d with idlePending := true } d else beginEntering c d
  else d

/-- A trigger of R327. -/
def wakeChannel (c : Nat) (d : Dev) : Dev :=
  let d := touchChannel c d
  if !running (fDram c) d then d
  else if rd DRC_STATUS_sub [c] d = 2 then count DRC_SR_CNT_wakes [c] 1 (wr DRC_STATUS_sub [c] 3 d)
  else if rd DRC_STATUS_sub [c] d = 1 then setDramRun c { dramRun c d with wakePending := true } d
  else d

/-- ENTERING completes (R326). -/
def selfRefreshEntered (c : Nat) (d : Dev) : Dev :=
  if running (fDram c) d && rd DRC_STATUS_sub [c] d == 1 then
    let d := count DRC_SR_CNT_entries [c] 1 (wr DRC_STATUS_sub [c] 2 d)
    if (dramRun c d).wakePending then wakeChannel c (setDramRun c { dramRun c d with wakePending := false } d) else d
  else d

/-- A wake ends: for a non-fixed channel with the result of its retrain (R322, R327). -/
def wakeComplete (c : Nat) (lanes : List (Nat × Nat)) (d : Dev) : Dev :=
  if running (fDram c) d && rd DRC_STATUS_sub [c] d == 3 then
    let d := touchChannel c (wr DRC_STATUS_sub [c] 0 d)
    if isFixed c d then d
    else
      let (d, fails) := evalRetrain c lanes d
      if fails then dramFails c 2 d else d
  else d

/-! ### Errors, scrub and refresh (R329 to R332) -/

/-- Corrected and uncorrectable codewords that reads return, with the address of each uncorrectable one (R329, R330). -/
def eccEvents (c ce : Nat) (ues : List Nat) (d : Dev) : Dev :=
  let sec := nibOf d.ntw / Config.nibsPerSec + 1
  let r := dramRun c d
  let r := if r.errSec = sec then r else { r with errSec := sec, ce := 0, ue := 0 }
  let thr := rd DRC_ECC_CFG_ce_thr [c] d
  let lim := rd DRC_ECC_CFG_ue_fail_thr [c] d
  let crosses := thr ≠ 0 ∧ r.ce < thr ∧ thr ≤ r.ce + ce
  let d := setDramRun c { r with ce := r.ce + ce, ue := r.ue + ues.length } (count DRC_ECC_CNT_ce [c] ce d)
  let d := if crosses then fire 183 (wr DRC_STICKY_ce_thr [c] 1 d) else d
  if ues.isEmpty then d
  else
    let d := wr DRC_LAST_UE_addr [c] (ues.getLastD 0) (wr DRC_STICKY_ue [c] 1 (count DRC_ECC_CNT_ue [c] ues.length d))
    let d := firePerSecond 179 (131072 + c) d
    if lim ≠ 0 ∧ lim ≤ r.ue + ues.length then dramFails c 3 d else d

/-- A patrol scrub reads every codeword of an ACTIVE channel (R331). -/
def patrolScrub (c ce : Nat) (ues : List Nat) (d : Dev) : Dev :=
  if dramActive c d then
    let d := advanceDev (dramRun c d).scrubAt d
    eccEvents c ce ues (setDramRun c { dramRun c d with scrubAt := d.devTime + rd DRC_ECC_CFG_scrub_h [c] d * 3600 * secUnits } d)
  else d

/-- The controller reads every device's refresh-rate register (R332). -/
def refreshRead (c : Nat) (rates : List Nat) (high : Bool) (d : Dev) : Dev :=
  if running (fDram c) d then
    let was := rdB DRC_TEMP_high [c] d
    let d := wr DRC_TEMP_rate [c] (rates.foldl max 0) (wrB DRC_TEMP_high [c] high d)
    if high && !was then fire 181 (wr DRC_STICKY_temp_high [c] 1 d) else d
  else d

end Sys2Proof.Machine
end

