-- ==== Sys2Proof/Machine/Float32.lean ====
section
/-! DEFINITION. IEEE 754 binary32 arithmetic, rounded to nearest with ties to even (R358). A finite number is held exactly, as a whole number of
units of 2^-149, the distance of the smallest numbers; the sign of zero, which no result of the Quilt shows, is not held. -/

namespace Sys2Proof.Machine

/-- A binary32 value. -/
inductive F32 where
  | fin (n : Int)
  | inf (neg : Bool)
  | nan
  deriving DecidableEq, Repr

/-- The binary32 value nearest to num / den units of 2^-149. -/
def f32Round (num : Int) (den : Nat) : F32 :=
  let a := num.natAbs
  let q := a / den
  let bits := if q = 0 then 0 else Nat.log2 q + 1
  let k := bits - 24
  let p : Nat := 2 ^ k
  let m : Int := roundHalfEven (a : Int) (den * p) * (p : Int)
  if (2 : Int) ^ 277 ≤ m then .inf (decide (num < 0)) else .fin (if num < 0 then -m else m)

/-- The value of a 32-bit pattern. -/
def f32OfBits (w : Nat) : F32 :=
  let e := w / 2 ^ 23 % 256
  let m := w % 2 ^ 23
  let neg := Nat.testBit w 31
  if e = 255 then (if m = 0 then .inf neg else .nan)
  else
    let whole : Nat := if e = 0 then m else (2 ^ 23 + m) * 2 ^ (e - 1)
    let n : Int := (whole : Int)
    .fin (if neg then -n else n)

/-- One in units of 2^-149. -/
def f32Unit : Nat := 2 ^ 149

/-- The nearest binary32 value to a quotient. -/
def f32Ratio (num : Int) (den : Nat) : F32 := f32Round (num * (f32Unit : Int)) den

def f32Zero : F32 := .fin 0
def f32One : F32 := .fin (f32Unit : Int)

def F32.neg (a : F32) : F32 :=
  match a with
  | .fin n => .fin (-n)
  | .inf s => .inf (!s)
  | .nan => .nan

def F32.add (a b : F32) : F32 :=
  match a, b with
  | .nan, _ => .nan
  | _, .nan => .nan
  | .inf s, .inf t => if s = t then .inf s else .nan
  | .inf s, .fin _ => .inf s
  | .fin _, .inf t => .inf t
  | .fin x, .fin y => f32Round (x + y) 1

def F32.sub (a b : F32) : F32 := a.add b.neg

def F32.mul (a b : F32) : F32 :=
  match a, b with
  | .nan, _ => .nan
  | _, .nan => .nan
  | .inf s, .inf t => .inf (s != t)
  | .inf s, .fin y => if y = 0 then .nan else .inf (s != decide (y < 0))
  | .fin x, .inf t => if x = 0 then .nan else .inf (t != decide (x < 0))
  | .fin x, .fin y => f32Round (x * y) f32Unit

/-- Division by a positive whole number. -/
def F32.divNat (a : F32) (k : Nat) : F32 :=
  match a with
  | .fin x => f32Round x k
  | other => other

/-- Bring a value into [0, 1]; NaN stays. -/
def F32.clamp01 (a : F32) : F32 :=
  match a with
  | .fin x => if x < 0 then f32Zero else if (f32Unit : Int) < x then f32One else a
  | .inf s => if s then f32Zero else f32One
  | .nan => .nan

/-- The nearest whole number, ties to even, brought into a range; a NaN gives `free`, a value the spec does not state. -/
def F32.code (a : F32) (lo hi free : Nat) : Nat :=
  match a with
  | .fin x => (clampI lo hi (roundHalfEven x f32Unit)).toNat
  | .inf s => if s then lo else hi
  | .nan => lo + free % (hi + 1 - lo)

/-- A sum of products, in order. -/
def f32Dot (cs : List (F32 × F32)) : F32 :=
  match cs with
  | [] => f32Zero
  | (c, s) :: rest => rest.foldl (fun acc p => acc.add (p.1.mul p.2)) (c.mul s)

end Sys2Proof.Machine
end

