-- ==== Sys2Proof/Machine/Pixels.lean ====
section
/-! DEFINITION. The Quilt's arithmetic on pixels: normalisation, scaling, colour, quantisation (R351 to R359). -/

namespace Sys2Proof.Machine

/-- Three components. -/
structure Rgb where
  r : F32 := f32Zero
  g : F32 := f32Zero
  b : F32 := f32Zero
  deriving DecidableEq, Repr

/-! ### Normalisation (R351, R356, R361) -/

/-- q of R356. -/
def codeScale (depth : Nat) : Nat := 2 ^ (depth - 8)

def normY (depth x : Nat) : F32 :=
  let q := codeScale depth
  (F32.fin (((x : Int) - (16 * q : Nat)) * (f32Unit : Int))).divNat (219 * q)

def normC (depth x : Nat) : F32 :=
  let q := codeScale depth
  (F32.fin (((x : Int) - (128 * q : Nat)) * (f32Unit : Int))).divNat (224 * q)

/-- Component c (0 to 2) of a pixel of a picture given as rows, in 4:4:4 and normalised; at a missing chroma position the mean of its two
neighbours, the last sample repeated at the right edge. -/
def component (f : Fmt) (rows : List (List Px)) (c y x : Nat) : F32 :=
  let row := rows.getD y []
  let at_ := fun (k : Nat) => let p := row.getD k {}; if c = 0 then p.a else if c = 1 then p.b else p.c
  if f.sampling = 2 ∨ c = 0 then normY f.depth (at_ x)
  else if f.sampling = 1 ∨ x % 2 = 0 then normC f.depth (at_ x)
  else
    let left := normC f.depth (at_ (x - 1))
    let right := if x + 1 < row.length then normC f.depth (at_ (x + 1)) else left
    (left.add right).divNat 2

/-- A 30-bit colour setting (R361). -/
def settingRgb (w : Nat) : Rgb := ⟨normY 10 (w % 1024), normY 10 (w / 1024 % 1024), normY 10 (w / 1048576 % 1024)⟩

/-! ### Scaling (R351 to R355) -/

/-- The source position of output position o of a crop from c of size w, in a picture of divisor k, into r positions: sample and phase. -/
def sourcePos (c w r k o : Nat) : Int × Nat :=
  let num : Int := ((2 * c * r + (2 * o + 1) * w : Nat) : Int) - (k * r : Nat)
  let den : Nat := 2 * k * r
  let i := num / (den : Int)
  let rem := (num % (den : Int)).toNat
  let p := (128 * rem + den) / (2 * den)
  if p = 64 then (i + 1, 0) else (i, p)

/-- A sample index brought inside the crop. -/
def clampIndex (c w k : Nat) (i : Int) : Nat := (clampI ((c / k : Nat) : Int) ((ceilDiv (c + w) k : Nat) - 1) i).toNat

/-- The samples of one direction that output position o takes, with their coefficients for `taps n p t`. -/
def tapsAt (n : Nat) (coef : Nat → Nat → F32) (c w r k o : Nat) : List (F32 × Nat) :=
  let (i, p) := sourcePos c w r k o
  (List.range n).map (fun t => (coef p t, clampIndex c w k (i + 1 - (ceilDiv n 2 : Nat) + (t : Nat))))

/-- How a part filters: its taps in both directions. -/
structure Filter where
  nh : Nat
  nv : Nat
  h : Nat → Nat → F32
  v : Nat → Nat → F32

/-- Bilinear filtering (R353). -/
def bilinear : Filter :=
  let c := fun (p t : Nat) => f32Ratio (if t = 0 then ((64 - p : Nat) : Int) else (p : Int)) 64
  ⟨2, 2, c, c⟩

/-- A coefficient bank (R352, R355). -/
def bankFilter (k : Nat) (d : Dev) : Filter :=
  let h := fun (p t : Nat) => rdS (if t % 2 = 0 then QLT_BANK_H_tap_even else QLT_BANK_H_tap_odd) [k, p, t / 2] d
  let v := fun (p t : Nat) => rdS (if t % 2 = 0 then QLT_BANK_V_tap_even else QLT_BANK_V_tap_odd) [k, p, t / 2] d
  ⟨rd QLT_BANK_CFG_nh [k] d, rd QLT_BANK_CFG_nv [k] d, fun p t => f32Ratio (h p t) 1024, fun p t => f32Ratio (v p t) 1024⟩

/-- The crop and rectangle of a part: its crop in full-size pixels, its rectangle on the head, the divisors in both directions. -/
structure Crop where
  cx : Nat := 0
  cy : Nat := 0
  cw : Nat := 1
  ch : Nat := 1
  rx : Int := 0
  ry : Int := 0
  rw : Nat := 1
  rh : Nat := 1

/-- Component c of the scaled picture at column ox and row oy of the rectangle: the horizontal pass, then the vertical. -/
def scaledComponent (f : Fmt) (rows : List (List Px)) (flt : Filter) (k : Crop) (dx dy c ox oy : Nat) : F32 :=
  let hs := tapsAt flt.nh flt.h k.cx k.cw k.rw dx ox
  let vs := tapsAt flt.nv flt.v k.cy k.ch k.rh dy oy
  f32Dot (vs.map (fun v => (v.1, f32Dot (hs.map (fun h => (h.1, component f rows c v.2 h.2))))))

/-! ### Colour (R356, R357, R359) -/

/-- Kr and Kb in 1/10,000: BT.709 for colour space 0, BT.2020 non-constant luminance for the others (PRESUMED, log entry 21). -/
def lumaKr (cspace : Nat) : Nat := if cspace = 0 then 2126 else 2627
def lumaKb (cspace : Nat) : Nat := if cspace = 0 then 722 else 593

/-- Y′CbCr to R′G′B′. -/
def toRgb (cspace : Nat) (y cb cr : F32) : Rgb :=
  let kr := lumaKr cspace
  let kb := lumaKb cspace
  let kg := 10000 - kr - kb
  let r := y.add ((f32Ratio (2 * (10000 - kr) : Nat) 10000).mul cr)
  let g := (y.sub ((f32Ratio (2 * kb * (10000 - kb) : Nat) (10000 * kg)).mul cb)).sub ((f32Ratio (2 * kr * (10000 - kr) : Nat) (10000 * kg)).mul cr)
  let b := y.add ((f32Ratio (2 * (10000 - kb) : Nat) 10000).mul cb)
  ⟨r, g, b⟩

/-- R′G′B′ to Y′CbCr. -/
def toYcc (cspace : Nat) (p : Rgb) : F32 × F32 × F32 :=
  let kr := lumaKr cspace
  let kb := lumaKb cspace
  let kg := 10000 - kr - kb
  let y := (((f32Ratio (kr : Int) 10000).mul p.r).add ((f32Ratio (kg : Int) 10000).mul p.g)).add ((f32Ratio (kb : Int) 10000).mul p.b)
  let cb := (f32Ratio 10000 (2 * (10000 - kb))).mul (p.b.sub y)
  let cr := (f32Ratio 10000 (2 * (10000 - kr))).mul (p.r.sub y)
  (y, cb, cr)

/-- A 1D LUT of a colour program: clamped, interpolated between the two nearest entries. -/
def lutAt (lut : Nat → F32) (x : F32) : F32 :=
  match x.clamp01 with
  | .fin n =>
    let i := (n * 1024 / (f32Unit : Int)).toNat
    let frac : F32 := .fin (n * 1024 % (f32Unit : Int))
    let a := lut i
    if i = 1024 then a else a.add (frac.mul ((lut (i + 1)).sub a))
  | other => other

/-- A colour program (R357). -/
def colourProgram (c : Nat) (p : Rgb) (d : Dev) : Rgb :=
  let lut1 := fun (n : Nat) (x : F32) => lutAt (fun i => f32OfBits (rd QLT_LUT1_value [c, n, i] d)) x
  let lut2 := fun (n : Nat) (x : F32) => lutAt (fun i => f32OfBits (rd QLT_LUT2_value [c, n, i] d)) x
  let m := fun (r k : Nat) => f32OfBits (rd QLT_MAT_value [c, r, k] d)
  let o := fun (r : Nat) => f32OfBits (rd QLT_OFS_value [c, r] d)
  let x := lut1 0 p.r
  let y := lut1 1 p.g
  let z := lut1 2 p.b
  let row := fun (r : Nat) => ((((m r 0).mul x).add ((m r 1).mul y)).add ((m r 2).mul z)).add (o r)
  ⟨lut2 0 (row 0), lut2 1 (row 1), lut2 2 (row 2)⟩

/-- A value quantised to narrow range: `off` and `span` in codes of 8 bits. -/
def quantise (depth off span free : Nat) (x : F32) : Nat :=
  let q := codeScale depth
  ((x.mul (f32Ratio ((span * q : Nat) : Int) 1)).add (f32Ratio ((off * q : Nat) : Int) 1)).code q (255 * q - 1) free

/-- Pixel x of a composed row in a head's format: chroma of 4:2:2 is [1, 2, 1] ÷ 4 about each co-sited sample, the edge repeated (log entry
21). `free`: what a NaN gives. -/
def headPx (f : Fmt) (cspace free : Nat) (row : List Rgb) (x : Nat) : Px :=
  let at_ := fun (k : Nat) => row.getD (min k (row.length - 1)) {}
  if f.sampling = 2 then
    let p := at_ x
    ⟨quantise f.depth 16 219 free p.r, quantise f.depth 16 219 free p.g, quantise f.depth 16 219 free p.b⟩
  else
    let (y, cb, cr) := toYcc cspace (at_ x)
    let chroma := fun (sel : F32 × F32 × F32 → F32) =>
      let l := sel (toYcc cspace (at_ (x - 1)))
      let m := sel (toYcc cspace (at_ x))
      let r := sel (toYcc cspace (at_ (x + 1)))
      ((l.add (m.add m)).add r).divNat 4
    let (cb, cr) := if f.sampling = 0 then (if x % 2 = 0 then (chroma (·.2.1), chroma (·.2.2)) else (f32Zero, f32Zero)) else (cb, cr)
    let odd := decide (f.sampling = 0 ∧ x % 2 = 1)
    ⟨quantise f.depth 16 219 free y, if odd then 0 else quantise f.depth 128 224 free cb, if odd then 0 else quantise f.depth 128 224 free cr⟩

/-! ### Levels (R364) -/

/-- The fraction bits of log2 of x in [2^62, 2^63), n of them. -/
def log2Bits (n x acc : Nat) : Nat :=
  match n with
  | 0 => acc
  | n + 1 =>
    let y := x * x / 2 ^ 62
    if 2 ^ 63 ≤ y then log2Bits n (y / 2) (2 * acc + 1) else log2Bits n y (2 * acc)

/-- log2 of a positive number in units of 2^-40, to the unit below (DESIGN CHOICE, log entry 22). -/
def log2Fixed (v : Nat) : Nat :=
  let k := Nat.log2 v
  k * 2 ^ 40 + log2Bits 40 (v * 2 ^ 62 / 2 ^ k) 0

/-- 20 log10(v ÷ 8,388,608) in dB of 2^-40; none is −∞. -/
def levelOf (v : Nat) : Option Int :=
  if v = 0 then none
  else some (((log2Fixed v : Nat) : Int) * 6020599913279623904 / 1000000000000000000 - 23 * 1099511627776 * 6020599913279623904 / 1000000000000000000)

/-- dB in units of 2^-40. -/
def dB (n : Nat) : Int := (n : Int) * 1099511627776

/-- The pixels that a level lights of a bar of height H and scale `range` (R364). -/
def barPixels (h range : Nat) (s : Option Int) : Nat :=
  match s with
  | none => 0
  | some v => (clampI 0 h (((h : Int) * (v + dB range)) / dB range)).toNat

end Sys2Proof.Machine
end

