-- ==== Sys2Proof/Machine/Quilt.lean ====
section
/-! DEFINITION. The Quilt: heads, layers, commits, composition, meters, conversion heads (R338 to R366). -/

namespace Sys2Proof.Machine

def setQlt (x : Qlt) (d : Dev) : Dev := { d with qlt := x }
def layerRun (l : Nat) (d : Dev) : LayerRun := tabGet {} d.qlt.layers l
def setLayerRun (l : Nat) (x : LayerRun) (d : Dev) : Dev := setQlt { d.qlt with layers := tabSet {} d.qlt.layers l x } d
def headRun (h : Nat) (d : Dev) : HeadRun := tabGet {} d.qlt.heads h
def setHeadRun (h : Nat) (x : HeadRun) (d : Dev) : Dev := setQlt { d.qlt with heads := tabSet {} d.qlt.heads h x } d

/-! ### Heads (R338 to R342) -/

/-- The head is in the conversion pool. -/
def inPool (h : Nat) (d : Dev) : Bool := rdBit TLR_CFG_conv_pool [] h d

/-- The four heads of h's group form a gang (R340). -/
def inGang (h : Nat) (d : Dev) : Bool := (List.range 4).all (fun k => rdB QLT_HEAD_FMT_gang [h / 4 * 4 + k] d)

/-- The heads that move through their states with head h, of which h is the lowest. -/
def gangHeads (h : Nat) (d : Dev) : List Nat := if inGang h d then (List.range 4).map (h / 4 * 4 + ·) else [h]

/-- The head whose settings, layers and slot head h shares. -/
def leadHead (h : Nat) (d : Dev) : Nat := if inGang h d then h / 4 * 4 else h

def headFam (h : Nat) (d : Dev) : Nat := rd QLT_HEAD_FMT_fam [h] d

/-- Layers that belong to a head (R343). -/
def layersOf (h : Nat) (d : Dev) : List Nat := (List.range 512).filter (fun l => rd QLT_SH_CFG_head [l] d == h)

/-- The start check of R339 and R340. -/
def headCheck (h : Nat) (d : Dev) : Bool :=
  let f := headFmt h d
  let p := famPeriod (headFam h d) d
  let gang := inGang h d
  let k : Nat := if gang then 2 else 1
  let same := fun (a b : Nat) => rd QLT_HEAD_FMT_fam [a] d == rd QLT_HEAD_FMT_fam [b] d
    && rd QLT_HEAD_FMT_fmt [a] d == rd QLT_HEAD_FMT_fmt [b] d && rd QLT_HEAD_FMT_cspace [a] d == rd QLT_HEAD_FMT_cspace [b] d
  (fmtDef (rd QLT_HEAD_FMT_fmt [h] d) d).isSome && decide (0 < f.activeLines ∧ 0 < p)
    && decide (f.activeSamples ≤ 3840 * k ∧ f.activeLines ≤ 2160 * k ∧ pixelsOf f * Config.nibsPerSec ≤ 497664000 * k * k * p)
    && decide (rd QLT_HEAD_FMT_cspace [h] d ≠ 3) && decide ((layersOf h d).length ≤ 64) && !inPool h d
    && (!gang || ((gangHeads h d).all (fun a => same a h && !inPool a d) && decide (essenceRate f p ≤ 50000000000)))

/-- The source that a head produces (R107). -/
def headSource (h : Nat) (d : Dev) : Option Nat :=
  (d.pat.sources.find? (fun s => s.member == selfMember d && decide (s.producer = .head h))).map (·.num)

/-- A head leaves RUNNING: composition ends, its source is lost (R342). -/
def headStops (h : Nat) (d : Dev) : Dev :=
  let d := forEach (gangHeads h d) (fun a d => setFuncState (fHead a) 0 (setFuncState (fHead a) 3 (setHeadRun a {} d))) d
  match headSource h d with
  | some n => declareLoss n d
  | none => d

/-- A head's function at a launch instant: `boundary` at a frame boundary of its RUNNING family, else a tick (R90, R339, R342). -/
def headLaunch (h : Nat) (boundary : Bool) (d : Dev) : Dev :=
  if inPool h d || inSafe d then d
  else
    let st := funcState (fHead h) d
    let en := funcEn (fHead h) d
    let lead := leadHead h d
    if st = 0 ∧ en ∧ !boundary then
      if lead ≠ h then d
      else if headCheck h d then
        forEach (gangHeads h d) (fun a d => setFuncState (fHead a) 1 (wr QLT_HEAD_STATUS_gang_role [a] (if !inGang h d then 0 else if a = h then 1 else 2) d)) d
      else startFails (fHead h) d
    else if (st = 1 ∨ st = 2) ∧ !en ∧ lead = h ∧ (boundary ∨ !famRunning (headFam h d) d) then headStops h d
    else if st = 4 ∧ !en then setFuncState (fHead h) 0 d
    else d

/-! ### Layers: writes and commits (R343 to R348) -/

/-- The pairs of shadow and active fields, those marked "placement" first (R344). -/
def placementFields : List (Fld × Fld) :=
  [(QLT_SH_CFG_en, QLT_AC_CFG_en), (QLT_SH_SRC_src, QLT_AC_SRC_src), (QLT_SH_SRC_key, QLT_AC_SRC_key), (QLT_SH_CROP_XY_cx, QLT_AC_CROP_XY_cx),
   (QLT_SH_CROP_XY_cy, QLT_AC_CROP_XY_cy), (QLT_SH_CROP_WH_cw, QLT_AC_CROP_WH_cw), (QLT_SH_CROP_WH_ch, QLT_AC_CROP_WH_ch),
   (QLT_SH_RECT_XY_rx, QLT_AC_RECT_XY_rx), (QLT_SH_RECT_XY_ry, QLT_AC_RECT_XY_ry), (QLT_SH_RECT_WH_rw, QLT_AC_RECT_WH_rw),
   (QLT_SH_RECT_WH_rh, QLT_AC_RECT_WH_rh), (QLT_SH_CFG_filter, QLT_AC_CFG_filter), (QLT_SH_CFG_field, QLT_AC_CFG_field)]
def otherFields : List (Fld × Fld) :=
  [(QLT_SH_CFG_z, QLT_AC_CFG_z), (QLT_SH_CFG_bank, QLT_AC_CFG_bank), (QLT_SH_CFG_prog, QLT_AC_CFG_prog),
   (QLT_SH_CFG_alpha_mode, QLT_AC_CFG_alpha_mode), (QLT_SH_CFG_lost_mode, QLT_AC_CFG_lost_mode), (QLT_SH_CFG_ovl, QLT_AC_CFG_ovl),
   (QLT_SH_ALPHA_alpha, QLT_AC_ALPHA_alpha), (QLT_SH_BCOL_colour, QLT_AC_BCOL_colour), (QLT_SH_BORDER_width, QLT_AC_BORDER_width),
   (QLT_SH_BORDER_tally, QLT_AC_BORDER_tally), (QLT_SH_METER_count, QLT_AC_METER_count), (QLT_SH_METER_side, QLT_AC_METER_side),
   (QLT_SH_METER_bar_w, QLT_AC_METER_bar_w), (QLT_SH_LCOL_colour, QLT_AC_LCOL_colour)]

/-- The layer's head, none for 16 and above. -/
def layerHead (l : Nat) (d : Dev) : Option Nat := let h := rd QLT_SH_CFG_head [l] d; if h < 16 then some h else none

/-- Host writes to a layer of a pool head are ignored (R343). -/
def layerReserved (l : Nat) (d : Dev) : Bool := match layerHead l d with | some h => inPool h d | none => false

def layerPending (l : Nat) (d : Dev) : Bool := rd QLT_LAYER_RES_state [l] d == 1

/-- A placement attribute of the shadow settings differs from the active ones. -/
def placementDiffers (l : Nat) (d : Dev) : Bool := placementFields.any (fun p => rd p.1 [l] d != rd p.2 [l] d)

/-- A commit ends with a code. -/
def layerDone (l code : Nat) (d : Dev) : Dev :=
  let d := wr QLT_LAYER_RES_state [l] 2 (wr QLT_LAYER_RES_code [l] code d)
  raiseIrq 2 (setLayerRun l { layerRun l d with input := false, latch := 0 } d)

/-- The Tailor refuses a commit (R348). -/
def layerRefused (l code : Nat) (d : Dev) : Dev := fire 196 (wr QLT_STATUS_commit_ref [] 1 (layerDone l code d))

/-- The latch of a commit accepted at an instant in nib (R347). -/
def layerLatch (l at_ : Nat) (d : Dev) : Nat :=
  match layerHead l d with
  | some h => at_ + 2 * linePeriod (headFmt h d) (famPeriod (headFam h d) d) + 52920
  | none => at_ + 52920

/-- A write of commit (R346, R348). -/
def layerCommit (l : Nat) (d : Dev) : Dev :=
  if layerReserved l d then wr QLT_STATUS_rej_write [] 1 d
  else if layerPending l d then fire 197 (wr QLT_STATUS_busy [] 1 d)
  else if inSafe d then layerDone l 1 d
  else
    let d := wr QLT_LAYER_RES_state [l] 1 (wr QLT_LAYER_RES_code [l] 0 d)
    let r := layerRun l d
    if placementDiffers l d then setLayerRun l { r with input := true } d
    else setLayerRun l { r with input := false, next := r.place, latch := layerLatch l (nibOf d.ntw) d } d

/-- The surface read holds a complete buffer, or there is none to read (R157, R347). -/
def surfReady (s : Nat) (d : Dev) : Bool := decide (s = 0) || (lastComplete (s - 1) d).isSome

/-- A commit's new settings may land: the Tailor has decided, and every surface they read holds a complete buffer. -/
def layerReady (l : Nat) (d : Dev) : Bool :=
  let r := layerRun l d
  layerPending l d && !r.input && surfReady r.next.surf d && surfReady r.next.keySurf d

/-- What a layer's placement shows. -/
def showLayer (l : Nat) (d : Dev) : Dev :=
  let r := layerRun l d
  let modes := r.place.modes.map (·.2)
  let mode := if !r.place.placed ∨ r.unplaced then 3 else if modes.contains 2 then 2 else if modes.contains 1 then 1 else 0
  let fb := r.place.placed && modes.contains 1 && rd QLT_AC_CFG_filter [l] d == 0
  let d := wr QLT_LAYER_ST_mode [l] mode (wrB QLT_LAYER_ST_fallback [l] fb d)
  let d := if fb then wr QLT_STATUS_fb [] 1 d else d
  if r.place.placed && modes.contains 2 then fire 192 (wr QLT_STATUS_undrawn [] 1 d) else d

/-- The whole of a layer's active settings as route-memory data (R478). -/
def layerWords (l : Nat) (d : Dev) : List Nat :=
  l :: ((placementFields ++ otherFields).map (fun p => rd p.2 [l] d)) ++ (List.range 8).map (fun j => rd QLT_AC_MCH_even [l, j] d + 65536 * rd QLT_AC_MCH_odd [l, j] d)

/-- The contents of a range of BAR0 as route-memory data: the fields in it that are not at their reset value. -/
def regsIn (lo hi : Nat) (d : Dev) : List Nat :=
  (d.regs.filter (fun p => decide (lo ≤ regAddr p.1 ∧ regAddr p.1 < hi))).flatMap (fun p => [p.1, p.2])

/-- The ranges of a coefficient bank (`prog` false) or colour program. -/
def bankRanges (prog : Bool) (k : Nat) : List (Nat × Nat) :=
  if prog then [(0x3300000 + 0x10000 * k, 0x3310000 + 0x10000 * k)]
  else [(0x3240000 + 0x800 * k, 0x3240800 + 0x800 * k), (0x3248000 + 4 * k, 0x3248004 + 4 * k)]

/-- A commit that names a bank or program lands: its contents are recorded (R478). -/
def recordBank (prog : Bool) (k : Nat) (d : Dev) : Dev :=
  recordRoute 2 ((if prog then 1 else 0) :: k :: (bankRanges prog k).flatMap (fun r => regsIn r.1 r.2 d)) d

/-- All of the committed settings take effect together (R347). -/
def landCommit (l : Nat) (d : Dev) : Dev :=
  let d := forEach (placementFields ++ otherFields) (fun p d => wr p.2 [l] (rd p.1 [l] d) d) d
  let d := forUpTo 8 (fun j d => wr QLT_AC_MCH_even [l, j] (rd QLT_SH_MCH_even [l, j] d) (wr QLT_AC_MCH_odd [l, j] (rd QLT_SH_MCH_odd [l, j] d) d)) d
  let r := layerRun l d
  let d := setLayerRun l { r with place := r.next, next := {}, unplaced := false } d
  let d := recordBank true (rd QLT_AC_CFG_prog [l] d) (recordBank false (rd QLT_AC_CFG_bank [l] d) d)
  layerDone l 0 (recordRoute 1 (layerWords l d) (showLayer l d))

/-! ### Banks and colour programs (R348) -/

/-- A layer of a head that is not STOPPED names the bank or program in the field pair. -/
def layerNames (sh ac : Fld) (k l : Nat) (d : Dev) : Bool :=
  (match layerHead l d with | some h => funcState (fHead h) d != 0 | none => false)
    && (rd ac [l] d == k || (layerPending l d && rd sh [l] d == k))

def bankInUse (k : Nat) (d : Dev) : Bool := (List.range 512).any (fun l => layerNames QLT_SH_CFG_bank QLT_AC_CFG_bank k l d)
def progInUse (k : Nat) (d : Dev) : Bool := (List.range 512).any (fun l => layerNames QLT_SH_CFG_prog QLT_AC_CFG_prog k l d)

/-- A write to a bank or program in use is ignored. -/
def inUseWrite (d : Dev) : Dev := fire 195 (wr QLT_STATUS_inuse_write [] 1 d)

/-! ### Composition (R349 to R364) -/

/-- A bar as it stands in a frame: the pixels lit, the top pixel of its peak line, clip, data and absent displays. -/
structure BarView where
  lit : Nat := 0
  peak : Nat := 0
  clip : Bool := false
  data : Bool := false
  absent : Bool := true

/-- A layer as a head draws it in a frame. -/
structure LayerView where
  crop : Crop
  dx : Nat
  dy : Nat
  kdx : Nat
  kdy : Nat
  pic : Option (Fmt × List (List Px))
  key : Option (Fmt × List (List Px))
  flt : Filter
  opaque_ : Bool
  transparent : Bool
  flat : Option Rgb
  prog : Nat
  premult : Bool
  alpha : F32
  border : Int
  bcol : Rgb
  ovl : Bool
  bars : List BarView
  side : Nat
  barW : Nat

/-- The rows a layer reads of a stored frame: the chosen picture, of field 1 alone where set. -/
def shotRows (f : Fmt) (div : Nat) (field : Bool) (fr : SFrame) : List (List Px) :=
  let rows := framePicture f (if div = 4 then 2 else if div = 2 then 1 else 0) fr
  if field && f.scan != 0 then ((rows.zip (List.range rows.length)).filter (fun q => q.2 % 2 == 0)).map (·.1) else rows

/-- The frame a reader reads when its writer has begun another one in the same buffer (R349): the new frame's rows as far as they are
written, to a block row that the spec does not fix (a free value). -/
def tornFrame (s : Nat) (fr : SFrame) (d : Dev) : Option SFrame :=
  (surfOf s d).frames.find? (fun g => g.buf == fr.buf && decide (fr.num < g.num))

/-- Rows of a torn picture: the first `n` from the new frame. -/
def tearRows (new old : List (List Px)) (n : Nat) : List (List Px) := new.take n ++ old.drop n

/-- The picture of a shot on a surface (plus 1), with a tear where one happened and n block rows come from the new frame. -/
def shotPicture (s div : Nat) (field : Bool) (shot : Option SFrame) (n : Nat) (d : Dev) : Option (Fmt × List (List Px)) :=
  match shot with
  | none => none
  | some fr =>
    let f := fmtOf (surfOf (s - 1) d).fmt d
    let old := shotRows f div field fr
    match tornFrame (s - 1) fr d with
    | some g => some (f, tearRows (shotRows f div field g) old (4 * (n % (ceilDiv old.length 4 + 1))))
    | none => some (f, old)

/-- A bar's display for frame F of head h, in a picture area of height H (R364). -/
def barView (h l m height : Nat) (d : Dev) : BarView :=
  let x := tabGet {} d.qlt.meters (16 * l + m)
  let range := rd QLT_HEAD_METER_range [h] d
  let top := (x.hold.map (·.2)).foldl (fun (acc : Option Int) v => match acc with | some a => some (max a v) | none => some v) none
  { lit := barPixels height range x.shown, peak := barPixels height range top, clip := decide (x.clip ≠ 0), data := x.npcm, absent := !x.present }

/-- The colour of a bar's pixel at height y of H, where it shows one. -/
def barPixel (h height y : Nat) (b : BarView) (d : Dev) : Option Rgb :=
  let col := fun (m : Nat) => settingRgb (rd QLT_HEAD_MCOL_colour [h, m] d)
  let range := rd QLT_HEAD_METER_range [h] d
  -- the level of pixel y is that of its upper edge (log entry 22)
  let at_ := fun (lim : Nat) => decide (-(dB lim) * (height : Int) ≤ dB range * ((y : Int) + 1) - dB range * (height : Int))
  let zone := if at_ (rd QLT_HEAD_METER_hi [h] d) then col 2 else if at_ (rd QLT_HEAD_METER_mid [h] d) then col 1 else col 0
  if b.absent then (if y < 2 then some (settingRgb (rd QLT_HEAD_ALARM_colour [h] d)) else none)
  else if b.data then some (col 3)
  else if b.clip && decide (height ≤ y + 4) then some (col 2)
  else if y < b.lit then some zone
  else if b.peak ≠ 0 ∧ (y + 1 = b.peak ∨ y + 2 = b.peak) then some zone
  else none

/-- The layer is lost (R350). -/
def layerLost (l : Nat) (d : Dev) : Bool := let s := rd QLT_AC_SRC_src [l] d; s == 65535 || !srcPresent s d

/-- How head h, in quadrant q of its gang, draws layer l with the buffers of a shot. `n`: block rows a tear takes from the new frame. -/
def layerView (h q : Nat) (conv alarm : Bool) (shot : Shot) (n : Nat) (d : Dev) : LayerView :=
  let l := shot.layer
  let r := layerRun l d
  let field := rdB QLT_AC_CFG_field [l] d
  let mode := ((r.place.modes.find? (fun p => p.1 == q)).map (·.2)).getD (if r.place.placed then 0 else 3)
  let blank := decide (2 ≤ mode) || r.unplaced || !r.place.placed
  let lost := layerLost l d && !conv
  let lm := rd QLT_AC_CFG_lost_mode [l] d
  let pic := shotPicture r.place.surf r.place.div field shot.pic n d
  let key := if rd QLT_AC_SRC_key [l] d = 65535 ∨ !srcPresent (rd QLT_AC_SRC_key [l] d) d then none
    else shotPicture r.place.keySurf r.place.keyDiv field shot.key n d
  let dy := fun (p : Option (Fmt × List (List Px))) (k : Nat) => match p with | some (f, _) => if field && f.scan != 0 then 2 * k else k | none => k
  let tally := rd QLT_AC_BORDER_tally [l] d
  let bcol := if lost && alarm then rd QLT_HEAD_ALARM_colour [h] d
    else if tally ≠ 0 then rd QLT_HEAD_TALLY_colour [h, tally - 1] d else rd QLT_AC_BCOL_colour [l] d
  let height := rd QLT_AC_RECT_WH_rh [l] d
  { crop := { cx := rd QLT_AC_CROP_XY_cx [l] d, cy := rd QLT_AC_CROP_XY_cy [l] d, cw := rd QLT_AC_CROP_WH_cw [l] d, ch := rd QLT_AC_CROP_WH_ch [l] d
              rx := rdS QLT_AC_RECT_XY_rx [l] d, ry := rdS QLT_AC_RECT_XY_ry [l] d, rw := rd QLT_AC_RECT_WH_rw [l] d, rh := height }
    dx := r.place.div, dy := dy pic r.place.div, kdx := r.place.keyDiv, kdy := dy key r.place.keyDiv
    pic := pic, key := key
    flt := if mode = 0 then bankFilter (rd QLT_AC_CFG_bank [l] d) d else bilinear
    opaque_ := blank
    transparent := lost && lm == 2
    flat := if blank then some (settingRgb (rd QLT_HEAD_FILL_colour [h] d)) else if lost && lm == 1 then some (settingRgb (rd QLT_AC_LCOL_colour [l] d)) else none
    prog := rd QLT_AC_CFG_prog [l] d
    premult := rdB QLT_AC_CFG_alpha_mode [l] d
    alpha := match (f32OfBits (rd QLT_AC_ALPHA_alpha [l] d)).clamp01 with | .nan => f32Zero | a => a
    border := (rd QLT_AC_BORDER_width [l] d : Nat)
    bcol := settingRgb bcol
    ovl := rdB QLT_AC_CFG_ovl [l] d
    bars := (List.range (rd QLT_AC_METER_count [l] d)).map (fun m => barView h l m height d)
    side := rd QLT_AC_METER_side [l] d
    barW := rd QLT_AC_METER_bar_w [l] d }

/-- D = a × C + (1 − a) × D, or with C already weighted by `w`. -/
def blend (w a : F32) (c x : Rgb) : Rgb :=
  let k := f32One.sub a
  ⟨(w.mul c.r).add (k.mul x.r), (w.mul c.g).add (k.mul x.g), (w.mul c.b).add (k.mul x.b)⟩

/-- The converted colour of a layer's source at a pixel of its rectangle. -/
def sourceColour (v : LayerView) (f : Fmt) (rows : List (List Px)) (ox oy : Nat) (d : Dev) : Rgb :=
  let c := fun (k : Nat) => scaledComponent f rows v.flt v.crop v.dx v.dy k ox oy
  colourProgram v.prog (if f.sampling = 2 then ⟨c 0, c 1, c 2⟩ else toRgb f.cspace (c 0) (c 1) (c 2)) d

/-- The key value at a pixel of a layer's rectangle (R356). -/
def keyValue (v : LayerView) (ox oy : Nat) : F32 :=
  match v.key with
  | none => f32One
  | some (f, rows) =>
    let c := fun (k : Nat) => scaledComponent f rows v.flt v.crop v.kdx v.kdy k ox oy
    (if f.sampling = 2 then (toYcc f.cspace ⟨c 0, c 1, c 2⟩).1 else c 0).clamp01

/-- The overlay's colour and alpha at a pixel of head a, of W pixels a line (R362). -/
def overlayPixel (a w x y : Nat) (d : Dev) : Rgb × F32 :=
  let byte := fun (k : Nat) => f32Ratio (((tabGet 0 d.ink.bytes (overlayByte a (rd INK_OVL_front [a] d) (4 * (x + w * y) + k))) : Nat) : Int) 255
  (⟨byte 0, byte 1, byte 2⟩, byte 3)

/-- Step 4 of R360. -/
def overlayStep (h a w x y : Nat) (p : Rgb) (d : Dev) : Rgb :=
  let (o, oa) := overlayPixel a w x y d
  blend (f32OfBits (rd QLT_HEAD_GFXW_gfx_white [h] d)) oa o p

/-- The bar pixel of a layer at a pixel of its picture area. -/
def meterPixel (h : Nat) (v : LayerView) (ox oy : Nat) (d : Dev) : Option Rgb :=
  let x := if v.side = 0 then ox else v.crop.rw - 1 - ox
  let m := x / (v.barW + 2)
  if x % (v.barW + 2) < v.barW then
    match v.bars[m]? with
    | some b => barPixel h v.crop.rh (v.crop.rh - 1 - oy) b d
    | none => none
  else none

/-- Steps 1 to 4 of R360 for one layer at a pixel (x, y) of the head or gang; (lx, ly) is the pixel on head a itself, of W pixels a line. -/
def drawLayer (h a w : Nat) (top : Bool) (v : LayerView) (x y : Int) (lx ly : Nat) (p : Rgb) (d : Dev) : Rgb :=
  let k := v.crop
  let inRect := decide (k.rx ≤ x ∧ x < k.rx + k.rw ∧ k.ry ≤ y ∧ y < k.ry + k.rh)
  let inOuter := decide (k.rx - v.border ≤ x ∧ x < k.rx + k.rw + v.border ∧ k.ry - v.border ≤ y ∧ y < k.ry + k.rh + v.border)
  if !inOuter then p
  else
    let p := if inRect then
        let ox := (x - k.rx).toNat
        let oy := (y - k.ry).toNat
        let q := match v.flat, v.pic with
          | some c, _ => if v.opaque_ then c else blend v.alpha v.alpha c p
          | none, some (f, rows) =>
            if v.transparent then p
            else
              let a := v.alpha.mul (keyValue v ox oy)
              blend (if v.premult then v.alpha else a) a (sourceColour v f rows ox oy d) p
          | none, none => p
        match meterPixel h v ox oy d with
        | some m => blend v.alpha v.alpha m q
        | none => q
      else blend v.alpha v.alpha v.bcol p
    if v.ovl && !top then overlayStep h a w lx ly p d else p

/-- The enabled layers of a head in drawing order (R360). -/
def drawOrder (h : Nat) (d : Dev) : List Nat :=
  sortBy (fun l => rd QLT_AC_CFG_z [l] d) ((List.range 512).filter (fun l => rd QLT_SH_CFG_head [l] d == h && rdB QLT_AC_CFG_en [l] d))

/-- The width and height that each head of h's gang draws. -/
def headWidth (h : Nat) (d : Dev) : Nat := let f := headFmt h d; if inGang h d then f.activeSamples / 2 else f.activeSamples
def headHeight (h : Nat) (d : Dev) : Nat := let f := headFmt h d; if inGang h d then f.activeLines / 2 else f.activeLines

/-- The picture that head a composes: R′G′B′ rows, for the lead head h. A wall head of a gang draws its quadrant of the gang's picture; a
conversion head draws its own layer in its own area. -/
def composeRows (h a : Nat) (fillOnly : Bool) (n : Nat) (d : Dev) : List (List Rgb) :=
  let conv := decide ((headRun a d).conv ≠ 0)
  let own := if conv then a else h
  let q := if inGang h d then a - h else 0
  let w := headWidth h d
  let ht := headHeight h d
  let x0 : Int := if conv then 0 else ((q % 2) * w : Nat)
  let y0 : Int := if conv then 0 else ((q / 2) * ht : Nat)
  let fill := settingRgb (rd QLT_HEAD_FILL_colour [h] d)
  let alarm := (headRun h d).alarm
  let shots := (headRun own d).shots
  let views := if fillOnly then [] else shots.map (fun s => layerView h q conv alarm s n d)
  let top := rdB QLT_HEAD_FMT_ovl_top [h] d
  (List.range ht).map (fun (ly : Nat) => (List.range w).map (fun (lx : Nat) =>
    let p := views.foldl (fun p v => drawLayer h a w top v (x0 + (lx : Int)) (y0 + (ly : Int)) lx ly p d) fill
    if top && !fillOnly then overlayStep h a w lx ly p d else p))

/-- The frame that a head or gang emits, in the pixels of its format. The free numbers decide where a tear divides the picture and what a NaN
becomes, neither of which the spec states. -/
def composeHead (h : Nat) (d : Dev) : List (List Px) × Dev :=
  let f := headFmt h d
  let first := (headRun h d).first
  let (n, d) := takeFree 21 d
  let quads := (gangHeads h d).map (fun a => composeRows h a first n d)
  let rows := if inGang h d then
      let side := fun (l r : List (List Rgb)) => (l.zip r).map (fun p => p.1 ++ p.2)
      side (quads.getD 0 []) (quads.getD 1 []) ++ side (quads.getD 2 []) (quads.getD 3 [])
    else quads.getD 0 []
  let cs := rd QLT_HEAD_FMT_cspace [h] d
  let w := f.activeSamples
  let out := (rows.zip (List.range rows.length)).map (fun q =>
    (List.range w).map (fun x => headPx f cs (Config.freeNat 22 (d.freeCtr + q.2 * w + x)) q.1 x))
  (out, { d with freeCtr := d.freeCtr + rows.length * w })

/-! ### Frames of a head (R341, R342, R349, R364 to R366) -/

/-- Rows of a woven frame as lines of the format. -/
def rowsToLines (f : Fmt) (rows : List (List Px)) : List (Nat × List Px) :=
  let line := fun (k : Nat) => match activeRuns f with
    | (a, _) :: (b, _) :: _ => if k % 2 = 0 then a + k / 2 else b + k / 2
    | (a, _) :: [] => a + k
    | [] => k + 1
  sortBy (·.1) ((rows.zip (List.range rows.length)).map (fun q => (line q.2, q.1)))

/-- The number under which a head's output reaches slots and surfaces: its Pattern source, or its conversion slot. -/
def headOutput (h : Nat) (d : Dev) : Option Nat := let r := headRun h d; if r.conv ≠ 0 then some (syncGroup (r.conv - 1)) else headSource h d

/-- The frame a head emits ends: its lines reach its surfaces, complete when its last active line ended. -/
def headFrameEnds (h : Nat) (d : Dev) : Dev :=
  let r := headRun h d
  match r.emit, headOutput h d with
  | some rows, some src =>
    let f := headFmt h d
    let d := forEach (rowsToLines f rows) (fun q d => addLine src q.1 q.2 d) d
    let doneAt := r.emitAt + lastActiveLine f * linePeriod f (famPeriod (headFam h d) d) + 1
    let fix := fun (s : Nat) (d : Dev) =>
      let x := surfOf s d
      match x.frames with
      | fr :: rest => if fr.done = 0 then d else setSurf s { x with frames := { fr with done := doneAt } :: rest } d
      | [] => d
    setHeadRun h { r with emit := none } (endSourceFrame src (forEach (ingestOf src d) fix d))
  | _, _ => setHeadRun h { r with emit := none } d

/-- Count the tears of the frame composed (R349). -/
def countTears (h : Nat) (d : Dev) : Dev :=
  let conv := (headRun h d).conv ≠ 0
  let torn := fun (s : Nat) (fr : Option SFrame) (d : Dev) => match fr with | some x => s != 0 && (tornFrame (s - 1) x d).isSome | none => false
  forEach (gangHeads h d) (fun a d => if a ≠ h ∧ !conv then d else
    forEach (headRun a d).shots (fun t d =>
      let p := (layerRun t.layer d).place
      if torn p.surf t.pic d || torn p.keySurf t.key d then
        fire 198 (wr QLT_STATUS_tear [] 1 (count QLT_LAYER_ST_tears [t.layer] 1 d))
      else d) d) d

/-- Compose the frame that began at the latest boundary, once. -/
def headCompose (h : Nat) (d : Dev) : Dev :=
  let r := headRun h d
  if r.composed.isSome then d
  else
    let d := if r.first then d else countTears h d
    let (rows, d) := composeHead h d
    setHeadRun h { headRun h d with composed := some rows } d

/-- The buffer a layer reads from a boundary on: the most recent complete one, or the one a partner chose (R349). -/
def layerShot (l : Nat) (d : Dev) : Shot :=
  let p := (layerRun l d).place
  let take := fun (s k : Nat) =>
    if s = 0 then none
    else
      let forced := if followsTwin d then (d.sea.twinShots.find? (fun q => q.1 == 2 * l + k)).bind (fun q => (surfOf (s - 1) d).frames.find? (fun fr => fr.done != 0 && fr.start == q.2)) else none
      forced.orElse (fun _ => lastComplete (s - 1) d)
  { layer := l, pic := take p.surf 0, key := take p.keySurf 1 }

/-- The meters of a head's layers are latched at a boundary in nib (R364, R397). -/
def latchMeters (h t : Nat) (d : Dev) : Dev :=
  let hold := rd QLT_HEAD_METER_hold_s [h] d * Config.nibsPerSec
  let p := famPeriod (headFam h d) d
  let decay := (dB (rd QLT_HEAD_METER_decay [h] d) * (p : Int)) / (Config.nibsPerSec : Int)
  forEach (drawOrder h d) (fun l d =>
    forUpTo (rd QLT_AC_METER_count [l] d) (fun m d =>
      let ch := rd (if m % 2 = 0 then QLT_AC_MCH_even else QLT_AC_MCH_odd) [l, m / 2] d
      let x := tabGet {} d.qlt.meters (16 * l + m)
      let v := if x.closed then x.acc else x.v
      let lv := levelOf v
      let shown := match lv, x.shown with
        | some a, some s => some (max a (s - decay))
        | some a, none => some a
        | none, some s => some (s - decay)
        | none, none => none
      let kept := x.hold.filter (fun q => decide (t ≤ q.1 + hold))
      let c := (tabGet {} d.aud.src ch).now
      let y : MeterRun := { acc := 0, closed := false, v := v, shown := shown
                            hold := (match lv with | some a => kept ++ [(t, a)] | none => kept)
                            clip := if 8388607 ≤ v then t + 1 else if x.clip ≠ 0 ∧ t + 1 ≤ x.clip + hold then x.clip else 0
                            present := c.present, npcm := c.npcm }
      setQlt { d.qlt with meters := tabSet {} d.qlt.meters (16 * l + m) y } d) d) d

/-- The 1 ms interval of the channel peak meters closes at a tick: every bar takes its channel's peak, and the peaks start again (R397). -/
def metersTick (d : Dev) : Dev :=
  let heads := (List.range 16).filter (fun h => funcState (fHead h) d == 2)
  let d := forEach heads (fun h d => forEach (drawOrder h d) (fun l d =>
    forUpTo (rd QLT_AC_METER_count [l] d) (fun m d =>
      let ch := rd (if m % 2 = 0 then QLT_AC_MCH_even else QLT_AC_MCH_odd) [l, m / 2] d
      let x := tabGet {} d.qlt.meters (16 * l + m)
      let y := { x with acc := max x.acc (tabGet {} d.aud.src ch).peak, closed := true }
      setQlt { d.qlt with meters := tabSet {} d.qlt.meters (16 * l + m) y } d) d) d) d
  { d with aud := { d.aud with src := (d.aud.src.map (fun p => (p.1, { p.2 with peak := 0 }))).filter (fun p => decide (p.2 ≠ {})) } }

/-- A conversion head at a boundary: its slot follows its source's loss, its drops and repeats count, the ANC of the buffer read goes on (R365,
R366). -/
def convBoundary (h : Nat) (d : Dev) : Dev :=
  let r := headRun h d
  if r.conv = 0 then d
  else
    let n := r.conv - 1
    let s := syncRun n d
    let fr := ((headRun h d).shots.head?).bind (·.pic)
    let lost := !srcPresent s.src d || fr.isNone
    let d := slotLost n (gangWidth n d) lost d
    match fr with
    | some x =>
      let d := if lost ∨ r.prev = 0 then d
        else if x.num + 1 = r.prev then count QLT_HEAD_CONV_repeats [h] 1 d
        else count QLT_HEAD_CONV_drops [h] (x.num - r.prev) d
      let f := headFmt h d
      let keep := x.anc.filter (fun p => decide (p.line ≤ f.lines))
      let gone := x.anc.length - keep.length
      let d := if gone = 0 then d else fire 163 (count INK_CNT_anc_drop [] gone (wr INK_STATUS_anc_drop [] 1 d))
      let out := syncGroup n
      let d := setSrcRun out { srcRun out d with anc := keep } d
      setHeadRun h { headRun h d with prev := if lost then 0 else x.num + 1 } (setSyncRun n { s with cur := if lost then none else some x, started := true } d)
    | none => setHeadRun h { headRun h d with prev := 0 } (setSyncRun n { s with cur := none } d)

/-- A head at a frame boundary of its family, at a nib: the frame it emitted ends, the composed one begins, layers choose their buffers,
meters are latched. -/
def headBoundary (h t : Nat) (d : Dev) : Dev :=
  if funcState (fHead h) d ≠ 2 ∨ leadHead h d ≠ h then d
  else
    let d := headCompose h d
    let r := headRun h d
    let src := headOutput h d
    let d := setHeadRun h { r with emit := r.composed, emitAt := t, composed := none, first := false, alarm := decide (t % Config.nibsPerSec * 2 < Config.nibsPerSec) } d
    let d := forEach (gangHeads h d) (fun a d =>
      if a ≠ h ∧ (headRun h d).conv = 0 then d
      else
        let ls := if (headRun h d).conv ≠ 0 then layersOf a d else drawOrder h d
        setHeadRun a { headRun a d with shots := ls.map (fun l => layerShot l d) } d) d
    let d := if (headRun h d).conv = 0 then
        forEach (drawOrder h d) (fun l d => wrB QLT_LAYER_ST_lost [l] (layerLost l d) d) d
      else d
    let d := convBoundary h d
    let d := match src with | some n => beginSourceFrame n t d | none => d
    latchMeters h t d

/-- A head in STARTING enters RUNNING at a boundary of its RUNNING family: it emits its fill colour first (R339, R342). -/
def headRuns (h t : Nat) (d : Dev) : Dev :=
  if funcState (fHead h) d ≠ 1 ∨ leadHead h d ≠ h then d
  else
    let d := forEach (gangHeads h d) (fun a d => setFuncState (fHead a) 2 d) d
    let conv := (headRun h d).conv
    let d := setHeadRun h { headRun h d with first := true, composed := none, emit := none } d
    let d := match headSource h d with | some n => if conv = 0 then declareRecovery n d else d | none => d
    headBoundary h t d

/-- The Quilt at a frame boundary of family n: frames end first, then every head moves on. -/
def quiltFrame (n t : Nat) (d : Dev) : Dev :=
  let hs := (List.range 16).filter (fun h => headFam h d == n)
  let d := forEach hs (fun h d => if funcState (fHead h) d = 2 then headFrameEnds h d else d) d
  let d := forEach hs (fun h d => headLaunch h true d) d
  let d := forEach hs (fun h d => if funcState (fHead h) d = 2 then headBoundary h t d else d) d
  forEach hs (fun h d => headRuns h t d) d

/-- COMMIT_LANDING of layer l: at the first frame boundary of its head after the latch at which its surfaces are ready (R347). In safe state
it ends NOT_EXECUTED (R348). -/
def commitLanding (l : Nat) (d : Dev) : Dev :=
  let r := layerRun l d
  if !layerPending l d || r.input then d
  else
    match layerHead l d with
    | none => if inSafe d then layerDone l 1 d else landCommit l (advanceTo (unitsOfNib r.latch) d)
    | some h =>
      let fam := headFam h d
      let p := max 1 (famPeriod fam d)
      let now := nibOf d.ntw
      let due := r.latch / p * p + p
      let here := now / p * p
      let t := if now ≤ due then due else if now < here + 40 ∧ due ≤ here then here else here + p
      let d := advanceTo (unitsOfNib t) d
      if inSafe d then layerDone l 1 d
      else if !layerReady l d then d
      else
        let ran := funcState (fHead h) d == 2
        landCommit l (if ran then headCompose (leadHead h d) d else d)

end Sys2Proof.Machine
end

