-- ==== Sys2Proof/Machine/Tailor.lean ====
section
/-! DEFINITION. The Tailor's placement map and its choices: budgets, pins, sharing, insertions, paths, layers (R152 to R163). Everything here
changes the map alone; `Placement.lean` puts it into effect. -/

namespace Sys2Proof.Machine

/-! ### The map -/

/-- Why a step cannot be met: the code of R119, the budget and resource of TLR_LAST_REF; `down`: only because a resource is unusable (R152); `member`, `want`:
where a slot or channel was sought, and the width. -/
structure TRef where
  code : Nat := 7
  budget : Nat := 0
  index : Nat := 0xFFF
  down : Bool := false
  member : Nat := 0
  want : Nat := 0

/-- A placement in progress: the map, the instant L or E in nib, soft pins missed, and the channels that held an item before the input, as
(member, channel). -/
structure Plan where
  t : Tlr := {}
  at_ : Nat := 0
  missed : Nat := 0
  busy : List (Nat × Nat) := []

/-- A release instant of the input in hand, which the input itself may not use (R154), is kept above this until the input is done. -/
def tFresh : Nat := 2 ^ 200

/-- Users of an item that the record in hand may be about to drop. -/
def tOld : Nat := 2 ^ 40

/-- The item is in use at an instant. -/
def stillHeld (l : Nat) (it : TItem) : Bool := it.users.any (fun u => u.2.1 == 0 || decide (l < u.2.1))

/-- What its users need of it then: buffers, plus 64 for a Quilt reader, 128 for a delay line, 256 for a frame synchroniser. -/
def needsAt (l : Nat) (it : TItem) : List Nat := (it.users.filter (fun u => u.2.1 == 0 || decide (l < u.2.1))).map (·.2.2)

def held (p : Plan) : List TItem := p.t.items.filter (stillHeld p.at_)
/-- Items that a new user may share: nothing they need has failed. -/
def shared (p : Plan) : List TItem := (held p).filter (fun it => !it.dead)
def itemOf (t : Tlr) (id : Nat) : TItem := (t.items.find? (fun it => it.id == id)).getD {}
def modItem (id : Nat) (f : TItem → TItem) (p : Plan) : Plan :=
  { p with t := { p.t with items := p.t.items.map (fun it => if it.id = id then f it else it) } }

/-- A user needs an item. -/
def addUser (id user need : Nat) (p : Plan) : Plan :=
  modItem id (fun it => { it with users := (user, 0, need) :: it.users.filter (fun u => u.1 != user) }) p

/-- A new item with its first user. -/
def newItem (it : TItem) (user need : Nat) (p : Plan) : Nat × Plan :=
  let id := p.t.nextId
  (id, { p with t := { p.t with nextId := id + 1, items := p.t.items ++ [{ it with id := id, since := p.at_, users := [(user, 0, need)] }] } })

/-- The users of the map: a destination's own resources (0), primary path (1), protect path (2), hold surface (3); a shuffled channel; a
layer; the producers that hold their place permanently. -/
def userDst (n role : Nat) : Nat := 4 * n + role
def userShuffle (n j : Nat) : Nat := 2 ^ 20 + 64 * n + j
def userLayer (m l : Nat) : Nat := 2 ^ 24 + 512 * m + l
def userPermanent : Nat := 2 ^ 28
def userHead (m h : Nat) : Nat := 2 ^ 29 + 32 * m + h

/-- A user's hold on its items is put aside while it is placed anew. -/
def setAside (user : Nat) (p : Plan) : Plan :=
  { p with t := { p.t with items := p.t.items.map (fun it => { it with users := it.users.map (fun u => if u.1 = user ∧ u.2.1 = 0 then (user + tOld, 0, u.2.2) else u) }) } }

/-- A surface. -/
def isSurface (kind : Nat) : Bool := kind == 2 || kind == 6 || kind == 14

/-- The first instant after `t` that is a frame boundary of period p. -/
def boundaryAfter (p t : Nat) : Nat := if p = 0 then t else (t / p + 1) * p

/-- The release instant of an item whose last reader stops at a switch point (R154). -/
def releaseNib (it : TItem) (sw : Nat) (d : Dev) : Nat := if isSurface it.kind then boundaryAfter (famPeriod it.fam d) sw else sw

/-- What was put aside is released at a switch point. -/
def endAside (user sw : Nat) (d : Dev) (p : Plan) : Plan :=
  { p with t := { p.t with items := p.t.items.map (fun it =>
    { it with users := it.users.map (fun u => if u.1 = user + tOld ∧ u.2.1 = 0 then (user, tFresh + max 1 (releaseNib it sw d), u.2.2) else u) }) } }

/-- A user releases everything at a switch point. -/
def releaseUser (user sw : Nat) (d : Dev) (p : Plan) : Plan := endAside user sw d (setAside user p)

/-- The input is done: its release instants become plain ones. -/
def settleFresh (t : Tlr) : Tlr :=
  { t with items := t.items.map (fun it => { it with users := it.users.map (fun u => if tFresh ≤ u.2.1 then (u.1, u.2.1 - tFresh, u.2.2) else u) }) }

/-- A resource of a member is usable (R149): 0 DRAM channel, 3 function. -/
def resKey (m kind num : Nat) : Nat := 65536 * m + 1024 * kind + num
def usable (t : Tlr) (m kind num : Nat) : Bool := t.up.contains (resKey m kind num) && !t.away.contains m

/-- The member a source or destination lies on; each twin places everything on itself (R436). -/
def placeMember (m : Nat) (d : Dev) : Nat := if twinned d then selfMember d else m

/-! ### Pins (R159) -/

def pinOf (what item : Nat) (d : Dev) : Option Pin := d.pat.pins.find? (fun x => x.what == what && x.item == item)

/-- Take a pinned resource, else the preferred one. -/
def pick (what item : Nat) (ok : Nat → Bool) (dflt : Option Nat) (e : TRef) (p : Plan) (d : Dev) : Except TRef (Nat × Plan) :=
  let free := match dflt with | some u => .ok (u, p) | none => .error e
  match pinOf what item d with
  | none => free
  | some x =>
    if ok x.value then .ok (x.value, p)
    else if x.hard then .error { e with budget := 14, index := 0xFFF }
    else match dflt with | some u => .ok (u, { p with missed := p.missed + 1 }) | none => .error e

def hardPin (what item : Nat) (d : Dev) : Bool := match pinOf what item d with | some x => x.hard | none => false

/-! ### Slots and channel runs (R106, R158, R394) -/

/-- A run of units is free of others. -/
def clear (occ : List (Nat × Nat)) (u w : Nat) : Bool := occ.all (fun q => decide (u + w ≤ q.1) || decide (q.1 + q.2 ≤ u))

/-- The lowest free aligned run in a range. -/
def freeStart (occ : List (Nat × Nat)) (lo hi w : Nat) : Option Nat :=
  ((List.range ((hi - lo) / max 1 w)).map (fun k => lo + max 1 w * k)).find? (fun u => decide (u + w ≤ hi) && clear occ u w)

/-- The migration of a slot that is reserved or under way. -/
def slotMig (t : Tlr) (id : Nat) : Option Mig := t.migs.find? (fun m => m.item == id && m.toCh == 0 && m.via.isEmpty)
def seamMig (t : Tlr) (id : Nat) : Option Mig := t.migs.find? (fun m => m.item == id && !m.via.isEmpty)

/-- Where a slot run lies at an instant: at both places while it migrates (R160). -/
def slotPlaces (p : Plan) (it : TItem) (u : Nat) : List (Nat × Nat) :=
  match slotMig p.t it.id with
  | some g => if g.endAt ≠ 0 ∧ g.endAt ≤ p.at_ then [(if g.stage = 3 then u else g.toUnit, it.width)] else [(u, it.width), (g.toUnit, it.width)]
  | none => [(u, it.width)]

/-- The slots that a Seam path takes on a side of a member. -/
def seamUnits (via : List Nat) (own w m side : Nat) : List (Nat × Nat) :=
  match via with
  | [b, s, _, _, _, _, dA, sS, dS, sB] =>
    if side = 0 then (if m = s then [(sS, w)] else if m = b then [(sB, w)] else [])
    else (if m = own then [(dA, w)] else if m = s then [(dS, w)] else [])
  | _ => []

/-- The slots in use on a side of a member's crosspoint: 0 source, 1 destination. -/
def unitsIn (p : Plan) (m side : Nat) : List (Nat × Nat) :=
  (held p).flatMap (fun it =>
    if it.kind = 10 then
      seamUnits it.via it.member it.width m side ++ (match seamMig p.t it.id with | some g => seamUnits g.via it.member it.width m side | none => [])
    else if it.member ≠ m then []
    else if side = 0 then
      (if it.kind = 0 then slotPlaces p it it.unit else if it.kind = 3 ∨ it.kind = 4 ∨ it.kind = 5 then [(it.slot, it.width)] else [])
    else (if it.kind = 1 then slotPlaces p it it.unit else if it.kind = 2 then slotPlaces p it it.slot else []))

/-- The slots a device has for its own inputs and outputs: a leaf of a fabric 768 (R428). -/
def ownSlots (d : Dev) : Nat := if rd SEA_FABRIC_topo [] d = 1 then 768 else 1536

/-- Find slots for a stream. -/
def takeSlots (side what item m w : Nat) (p : Plan) (d : Dev) : Except TRef (Nat × Plan) :=
  let occ := unitsIn p m side
  let ok := fun (u : Nat) => u % max 1 w == 0 && decide (u + w ≤ ownSlots d) && clear occ u w
  pick what item ok (freeStart occ 0 (ownSlots d) w) { budget := side, member := m, want := w } p d

/-- Find a run of consecutive channels of the Tailor's range: 12 source, 13 destination. -/
def takeRun (kind m n : Nat) (p : Plan) : Except TRef Nat :=
  let occ := ((held p).filter (fun it => it.kind == kind && it.member == m)).map (fun it => (it.unit, it.width))
  let starts := sortBy id (0 :: occ.map (fun q => q.1 + q.2))
  match starts.find? (fun u => decide (u + n ≤ 31744) && clear occ u n) with
  | some u => .ok u
  | none => .error { budget := kind - 12, index := 0xFFE }

/-! ### Inkwell budgets (R160 to R162, R286, R292) -/

/-- A charge in units of 1/184,320 bit/s: num/16 of a stream of r bit/s at class k (`half`: 0.5) and bpp bits per pixel, side table included
(R162). -/
def inkCharge (r : Nat) (half : Bool) (bpp num : Nat) : Nat := r * (if half then 1 else 2) * num * (8 * bpp + 1) * (5760 / max 1 (8 * bpp))

/-- A surface serves a delay line, so that its traffic has k = 1 (R162). -/
def servesDelay (needs : List Nat) : Bool := needs.any (fun n => Nat.testBit n 7)
def servesQuilt (needs : List Nat) : Bool := needs.any (fun n => Nat.testBit n 6)
def servesSync (needs : List Nat) : Bool := needs.any (fun n => Nat.testBit n 8)
def depthOf (needs : List Nat) : Nat := needs.foldl (fun a n => max a (n % 64)) 0

/-- What an item draws from its channel. -/
def itemCharge (p : Plan) (d : Dev) (it : TItem) : Nat :=
  if it.dead then 0
  else if it.kind = 2 then
    let ns := needsAt p.at_ it
    inkCharge it.load (it.half && !servesDelay ns) (bitsPerPixel (fmtOf it.fmt d)) (if servesQuilt ns then 21 else 16)
  else if it.kind = 6 then 2 * inkCharge it.load false (bitsPerPixel (fmtOf it.fmt d)) 16
  else if it.kind = 3 ∨ it.kind = 4 ∨ it.kind = 5 ∨ it.kind = 15 then
    let s := itemOf p.t it.surf
    inkCharge it.load (s.half && !servesDelay (needsAt p.at_ s)) (bitsPerPixel (fmtOf s.fmt d)) it.num
  else 0

/-- The channel (plus 1) an item's traffic falls on. -/
def itemCh (p : Plan) (it : TItem) : Nat := if isSurface it.kind then it.ch else if it.surf ≠ 0 then (itemOf p.t it.surf).ch else 0

/-- The surface an item belongs to, for the charges of a migration. -/
def surfaceOf (it : TItem) : Nat := if isSurface it.kind then it.id else it.surf

/-- Bytes that a surface occupies (R292). -/
def itemBytes (p : Plan) (d : Dev) (it : TItem) : Nat :=
  if it.dead then 0
  else if it.kind = 2 then let ns := needsAt p.at_ it; surfaceBytes (fmtOf it.fmt d) (max 2 (depthOf ns)) (servesQuilt ns) (servesSync ns)
  else if it.kind = 6 then surfaceBytes (fmtOf it.fmt d) 2 false false
  else if it.kind = 14 then it.load
  else 0

/-- The copy of a migrating surface, as a read of the old channel and a write of the new one (R162). -/
def copyCharge (p : Plan) (d : Dev) (it : TItem) : Nat := inkCharge it.load (it.half && !servesDelay (needsAt p.at_ it)) (bitsPerPixel (fmtOf it.fmt d)) 16

/-- The migration of a surface that is reserved or under way. -/
def surfMig (t : Tlr) (id : Nat) : Option Mig := t.migs.find? (fun m => m.item == id && m.toCh != 0)

/-- Bandwidth charged on a channel of a member, migrations at both places (R160, R165). -/
def chanCharge (p : Plan) (d : Dev) (m c : Nat) : Nat :=
  ((held p).map (fun it =>
    if it.member ≠ m then 0
    else
      let base := itemCharge p d it
      match surfMig p.t (surfaceOf it) with
      | none => if itemCh p it = c + 1 then base else 0
      | some g =>
        let s := itemOf p.t g.item
        let ended := decide (g.endAt ≠ 0 ∧ g.endAt ≤ p.at_)
        let own := if it.id = g.item ∧ !ended then copyCharge p d s else 0
        if ended then (if (if g.stage = 3 then s.ch else g.toCh) = c + 1 then base else 0) else
        (if s.ch = c + 1 then base + own else 0) + (if g.toCh = c + 1 ∧ s.ch ≠ g.toCh then base + own else 0))).sum

/-- Memory charged on a channel of a member. -/
def chanBytes (p : Plan) (d : Dev) (m c : Nat) : Nat :=
  ((held p).map (fun it =>
    if it.member ≠ m ∨ !isSurface it.kind then 0
    else
      let b := itemBytes p d it
      match surfMig p.t it.id with
      | some g =>
        let ended := decide (g.endAt ≠ 0 ∧ g.endAt ≤ p.at_)
        if (it.ch = c + 1 ∧ (!ended ∨ g.stage = 3)) ∨ (g.toCh = c + 1 ∧ (!ended ∨ g.stage ≠ 3)) then b else 0
      | none => if it.ch = c + 1 then b else 0)).sum

/-- A member's resources in the Pattern. -/
def resOf (m : Nat) (d : Dev) : MemberRes := (d.pat.res.find? (fun r => r.num == m)).getD {}

/-- A DRAM channel of a member: fixed-delay, speed in MT/s, MiB. -/
def chanRes (m c : Nat) (d : Dev) : Option (Bool × Nat × Nat) := ((resOf m d).drams.find? (fun x => x.1 == c)).map (·.2)

/-- R161, in units of 1/184,320 bit/s; nothing where the channel is unusable. -/
def chanCap (t : Tlr) (m c : Nat) (d : Dev) : Nat :=
  match chanRes m c d with
  | some (fixed, mts, _) => if usable t m 0 c then mts * 640000 * (if fixed then 80 else 78) * 64 * 184320 / 64 else 0
  | none => 0
def chanMem (m c : Nat) (d : Dev) : Nat := match chanRes m c d with | some (_, _, mib) => mib * 1048576 | none => 0

/-- Everything charged on a channel fits. -/
def chanFits (p : Plan) (d : Dev) (m c : Nat) : Option TRef :=
  if chanCap p.t m c d < chanCharge p d m c then some { code := 9, budget := 2, index := c }
  else if chanMem m c d < chanBytes p d m c then some { code := 9, budget := 3, index := c }
  else none

/-- The channel holds a placed item. -/
def chanOccupied (p : Plan) (m c : Nat) : Bool := (held p).any (fun it => it.member == m && isSurface it.kind && it.ch == c + 1)

/-- Candidate channels in the order of preference (R158). -/
def chanOrder (p : Plan) (m : Nat) (hold : Bool) (d : Dev) : List Nat :=
  let cs := (sortBy id ((resOf m d).drams.map (·.1))).filter (fun c => usable p.t m 0 c)
  let fixed := fun (c : Nat) => match chanRes m c d with | some (f, _, _) => f | none => false
  if hold then cs.filter fixed
  else cs.filter (fun c => !fixed c && chanOccupied p m c) ++ cs.filter (fun c => !fixed c && !chanOccupied p m c) ++ cs.filter fixed

/-- The bank group of a channel with the least charged bandwidth, the lowest on ties. -/
def bankOf (p : Plan) (d : Dev) (m c : Nat) : Nat :=
  let load := fun (b : Nat) => ((held p).map (fun it =>
    let s := itemOf p.t (surfaceOf it)
    if it.member = m ∧ s.ch = c + 1 ∧ s.bank = b then itemCharge p d it else 0)).sum
  (List.range 8).foldl (fun best b => if load b < load best then b else best) 0

/-- Give a surface item its channel and bank, or check the one it has. `what`, `item`: its pin. -/
def fillSurface (id what item : Nat) (p : Plan) (d : Dev) : Except TRef Plan :=
  let it := itemOf p.t id
  let m := it.member
  if it.ch ≠ 0 then
    match chanFits p d m (it.ch - 1) with
    | some e => .error e
    | none => .ok p
  else
    let on := fun (c : Nat) => modItem id (fun x => { x with ch := c + 1 }) p
    let ok := fun (c : Nat) => (chanOrder p m (it.kind == 6) d).contains c && (chanFits (on c) d m c).isNone
    let order := chanOrder p m (it.kind == 6) d
    let anyBw := order.any (fun c => match chanFits (on c) d m c with | some e => e.budget == 3 | none => true)
    let known := (resOf m d).drams.any (fun x => it.kind != 6 || x.2.1)
    let e : TRef := { code := 9, budget := if anyBw then 3 else 2, down := order.isEmpty && known, member := m, want := 1 }
    match pick what item ok (order.find? ok) e p d with
    | .error e => .error e
    | .ok (c, p) =>
      let bank := bankOf p d m c
      let wakes := !p.busy.contains (m, c)
      let from_ := p.at_ + (if wakes then 1640520 else 0)
      .ok (modItem id (fun x => { x with ch := c + 1, bank := bank, hard := hardPin what item d, via := [from_] }) p)

/-- A new surface's index: the lowest free of 4,096 (R286). -/
def takeSurface (m : Nat) (p : Plan) : Except TRef Nat :=
  let occ := ((held p).filter (fun it => it.member == m && isSurface it.kind)).map (fun it => (it.unit, 1))
  match freeStart occ 0 4096 1 with
  | some u => .ok u
  | none => .error { code := 9, budget := 3 }

/-! ### Streams -/

/-- A stream that a reader or destination of a member can take: the number it goes under, its family, format, rate in bit/s, width, class,
arrival error, channels, and whether it comes from an insertion or head. -/
structure TStream where
  key : Nat := 0
  fam : Nat := 0
  fmt : Nat := 0
  rate : Nat := 0
  width : Nat := 1
  half : Bool := false
  e : Int := 0
  made : Bool := false
  chans : Nat := 0

/-- The arrival error the Tailor works with: that of a local source as its adapter measures it (log entry 30). -/
def placedError (s : SrcDesc) (d : Dev) : Int := if placeMember s.member d = selfMember d then (srcRun s.num d).e else 0

def streamOf (s : SrcDesc) (d : Dev) : TStream :=
  let r := sourceRate s d
  { key := s.num, fam := s.fam, fmt := s.fmt, rate := r, width := max 1 (slotsFor r), half := s.halfClass, e := placedError s d, chans := s.channels }

/-- The group of channels a source brings: the producers of R394. -/
def bringsRun (s : SrcDesc) : Bool := decide (s.channels ≠ 0) && (match s.producer with | .mix _ => false | .head _ => false | _ => true)

/-- A channel run for a group. -/
def placeRun (m key chans user : Nat) (p : Plan) : Except TRef Plan :=
  match (shared p).find? (fun it => it.kind == 12 && it.member == m && it.key == key) with
  | some it => .ok (addUser it.id user 0 p)
  | none => do
    let u ← takeRun 12 m chans p
    return (newItem { kind := 12, member := m, key := key, unit := u, width := chans } user 0 p).2

/-- The source slots and channels of a source on its own member (R152 step 2). -/
def placeSource (s : SrcDesc) (user : Nat) (p : Plan) (d : Dev) : Except TRef Plan := do
  let m := placeMember s.member d
  let p ← (if s.stream = 3 then .ok p
    else match (shared p).find? (fun it => it.kind == 0 && it.key == s.num) with
      | some it => .ok (addUser it.id user 0 p)
      | none => do
        let w := max 1 (slotsFor (sourceRate s d))
        let (u, p) ← takeSlots 0 1 s.num m w p d
        return (newItem { kind := 0, member := m, key := s.num, unit := u, width := w, fam := s.fam, fmt := s.fmt, hard := hardPin 1 s.num d } user 0 p).2 : Except TRef Plan)
  if bringsRun s then placeRun m s.num s.channels user p else .ok p

/-- Ways in use of a bucket. -/
def waysUsed (p : Plan) (m b : Nat) : Nat := (((held p).filter (fun it => it.kind == 7 && it.member == m)).flatMap (fun it => it.via.filter (· == b))).length

/-- The first bucket whose ways would not suffice. -/
def fullBucket (p : Plan) (m : Nat) (bs : List Nat) : Option Nat := bs.find? (fun b => decide (4 < waysUsed p m b + (bs.filter (· == b)).length))

/-- The receive entry of one flow of a source (R163, R248); a flow all of whose MACs are unusable cannot be placed. -/
def placeFlow (s : SrcDesc) (j : Nat) (x : RxDesc) (user : Nat) (p : Plan) (d : Dev) : Except TRef Plan :=
  let m := placeMember s.member d
  match (shared p).find? (fun it => it.kind == 7 && it.key == s.num && it.slot == j) with
  | some it => .ok (addUser it.id user 0 p)
  | none =>
    if !x.legs.any (fun l => usable p.t m 3 (fMac l.mac)) then .error { code := 8, budget := 8, down := true }
    else
      let used := ((held p).filter (fun it => it.kind == 7 && it.member == m)).map (fun it => (it.unit, 1))
      let bs := x.legs.map (fun l => flowBucket (legKey l))
      match freeStart used 0 16384 1 with
      | none => .error { code := 8, budget := 8 }
      | some u =>
        match fullBucket p m bs with
        | some b => .error { code := 8, budget := 9, index := b % 4096 }
        | none => .ok (newItem { kind := 7, member := m, key := s.num, slot := j, unit := u, via := bs } user 0 p).2

/-- A source's media flows with their places among them. -/
def mediaFlows (s : SrcDesc) : List (RxDesc × Nat) := (s.rx.filter (fun x => x.kind != 6)).zip (List.range s.rx.length)

/-- The receive entries of a source. -/
def placeFlows (s : SrcDesc) (user : Nat) (p : Plan) (d : Dev) : Except TRef Plan :=
  (mediaFlows s).foldl (fun (acc : Except TRef Plan) q => do let p ← acc; placeFlow s q.2 q.1 user p d) (.ok p)

/-! ### Seam paths (R419, R420, R428) -/

def fabMember (m : Nat) (d : Dev) : FabMember := (d.pat.members.find? (fun x => x.num == m)).getD {}
def fabRole (r : Nat) (d : Dev) : List Nat := sortBy id ((d.pat.members.filter (fun x => x.role == r)).map (·.num))

/-- Working lanes of the direction into a member's link (R149). -/
def lanesInto (t : Tlr) (m link : Nat) : Nat := tabGet 0 t.lanes (64 * m + link)

/-- The charge of a stream on a Seam (R160). -/
def seamCharge (s : SrcDesc) (d : Dev) : Nat :=
  (if s.stream = 3 then s.channels * 32 * (Config.nibsPerSec / samplePeriod s.rate) else sourceRate s d) + 250000000

/-- What is charged on the direction out of a member's link. -/
def linkCharge (p : Plan) (m link : Nat) : Nat :=
  let on := fun (it : TItem) (via : List Nat) => match via with
    | _ :: s :: a :: _ :: o :: _ => (if it.member = m ∧ a = link then it.load else 0) + (if s = m ∧ o = link then it.load else 0)
    | _ => 0
  ((held p).map (fun it => if it.kind ≠ 10 ∨ it.dead then 0 else on it it.via + (match seamMig p.t it.id with | some g => on it g.via | none => 0))).sum

/-- The links from a member to another, with whether the Tailor may use each: enough lanes work on it for one more charge. -/
def linksTo (p : Plan) (a b charge : Nat) (d : Dev) : List (FabLink × Bool) :=
  ((fabMember a d).links.filter (fun l => l.peer == b)).map (fun l => (l, decide (linkCharge p a l.link + charge ≤ 100800000000 * lanesInto p.t b l.peerLink)))

/-- dp of R420: the longest interval of a frame without an active sample, in nib rounded up. -/
def seamWait (f : Fmt) (p : Nat) : Nat :=
  let gap := fun (lines : Nat) => ceilDiv ((lines * f.samples - f.activeSamples) * p) (max 1 (f.lines * f.samples))
  match activeRuns f with
  | (a, n) :: (b, m) :: _ => max (gap (b - (a + n - 1))) (gap (a + f.lines - (b + m - 1)))
  | (_, n) :: [] => gap (f.lines - n + 1)
  | [] => 0

/-- The place of a member among those of a role. -/
def roleIndex (m r : Nat) (d : Dev) : Nat := ((fabRole r d).findIdx? (· == m)).getD 0

/-- The lowest free run among the 96 slots of a range. -/
def rangeStart (p : Plan) (m side base w : Nat) : Option Nat := freeStart (unitsIn p m side) base (base + 96) w

/-- The way of a stream of some width and charge from leaf a to leaf b through a spine, as the `via` of its item. -/
def viaSpine (p : Plan) (a b s w charge : Nat) (d : Dev) : Except TRef (List Nat) :=
  let up := linksTo p a s charge d
  let down := linksTo p s b charge d
  if up.isEmpty ∨ down.isEmpty then .error { code := 11, budget := 12 }
  else
    let dead := p.t.away.contains s || up.all (fun l => lanesInto p.t s l.1.peerLink == 0) || down.all (fun l => lanesInto p.t b l.1.peerLink == 0)
    match up.find? (·.2), down.find? (·.2) with
    | some (u, _), some (v, _) =>
      let la := 768 + 96 * roleIndex s 2 d
      match rangeStart p a 1 la w, rangeStart p s 0 (96 * roleIndex a 1 d) w, rangeStart p s 1 (96 * roleIndex b 1 d) w, rangeStart p b 0 la w with
      | some x1, some x2, some x3, some x4 => if dead then .error { code := 9, budget := 6, down := true } else .ok [b, s, u.link, u.peerLink, v.link, v.peerLink, x1, x2, x3, x4]
      | _, _, _, _ => .error { code := 9, budget := 6, index := u.link }
    | some _, none => .error { code := 9, budget := 6, index := ((down.head?).map (·.1.link)).getD 0xFFF, down := dead }
    | none, _ => .error { code := 9, budget := 6, index := ((up.head?).map (·.1.link)).getD 0xFFF, down := dead }

/-- What an attempt at a spine found: a way, or why not. -/
def viaOk (q : Nat × Except TRef (List Nat)) : Option (Nat × List Nat) := match q.2 with | .ok v => some (q.1, v) | .error _ => none
def viaBad (q : Nat × Except TRef (List Nat)) : Option TRef := match q.2 with | .error e => some e | .ok _ => none

/-- Choose a spine for a stream from leaf a to leaf b: the lowest that can carry it (R152 step 3). -/
def chooseSpine (p : Plan) (a b w charge : Nat) (pinItem : Nat) (d : Dev) : Except TRef (List Nat) :=
  let spines := fabRole 2 d
  let tries : List (Nat × Except TRef (List Nat)) := spines.map (fun s => (s, viaSpine p a b s w charge d))
  let good : List (Nat × List Nat) := tries.filterMap viaOk
  let pinned := match pinOf 6 pinItem d with
    | some x => if x.hard then good.filter (fun (q : Nat × List Nat) => q.1 == x.value) else (good.filter (fun (q : Nat × List Nat) => q.1 == x.value)) ++ good
    | none => good
  match pinned.head? with
  | some q => .ok q.2
  | none =>
    let errs : List TRef := tries.filterMap viaBad
    match errs.find? (fun (e : TRef) => e.down), errs.find? (fun (e : TRef) => e.code == 9) with
    | some e, none => .error e
    | some e, some f => .error (if f.down then e else f)
    | none, some f => .error f
    | none, none => .error (if good.isEmpty then { code := 11, budget := 12 } else { code := 11, budget := 14 })

/-- Two hops with their measured path delays where this device is at an end of them, and dp (R139, R420). -/
def seamLatency (s : SrcDesc) (via : List Nat) (d : Dev) : Nat :=
  match via with
  | _ :: sp :: la :: ls :: _ :: lb :: _ =>
    let self := selfMember d
    let own := fun (link : Nat) => rd SEA_LINK_DELAY_delay [link] d
    let one := (if self = placeMember s.member d then own la else if self = sp then own ls else 0)
    let two := (if self = via.headD 0 then own lb else 0)
    2 * 5120 + one + two + (if s.stream = 0 then seamWait (fmtOf s.fmt d) (famPeriod s.fam d) else 0)
  | _ => 0

/-- The Seam path of a source to another leaf, shared by its destinations there (R155). -/
def placeSeam (s : SrcDesc) (dm user pinItem : Nat) (p : Plan) (d : Dev) : Except TRef Plan :=
  let m := placeMember s.member d
  if m = dm then .ok p
  else
    match (shared p).find? (fun it => it.kind == 10 && it.key == s.num && it.via.headD 0 == dm) with
    | some it => .ok (addUser it.id user 0 p)
    | none => do
      let w := if s.stream = 3 then 1 else max 1 (slotsFor (sourceRate s d))
      let via ← chooseSpine p m dm w (seamCharge s d) pinItem d
      let p := (newItem { kind := 10, member := m, key := s.num, unit := via.getD 9 0, width := w, load := seamCharge s d, fam := s.fam, via := via
                          hard := hardPin 6 pinItem d } user 0 p).2
      if s.channels ≠ 0 then placeRun dm s.num s.channels user p else .ok p

/-- The Seam path in use to a member. -/
def seamItem (p : Plan) (src dm : Nat) : Option TItem := (shared p).find? (fun it => it.kind == 10 && it.key == src && it.via.headD 0 == dm)

/-! ### Insertions (R138 to R140, R156, R304) -/

/-- What step 1 decides: the path's kind, what stands before a delay line (0 nothing, 1 a synchroniser, 2 a head), and its latency. -/
structure Ins where
  kind : Nat := 0
  pre : Nat := 0
  lat : Nat := 0

/-- The same picture size, scan, sampling, depth and colour space (R156). -/
def sameFormat (a b : Fmt) : Bool :=
  a.activeSamples == b.activeSamples && a.activeLines == b.activeLines && a.scan == b.scan && a.sampling == b.sampling && a.depth == b.depth && a.cspace == b.cspace

/-- A conversion head, or a gang of four, can produce the format (R156, R339, R340). -/
def convertible (f : Fmt) (p : Nat) : Bool :=
  decide (0 < p ∧ 0 < f.activeLines ∧ f.activeSamples ≤ 7680 ∧ f.activeLines ≤ 4320) && decide (pixelsOf f * Config.nibsPerSec ≤ 1990656000 * p)
    && decide (essenceRate f p ≤ 50000000000)

/-- It takes four heads. -/
def needsGang (f : Fmt) (p : Nat) : Bool := decide (3840 < f.activeSamples) || decide (2160 < f.activeLines) || decide (497664000 * p < pixelsOf f * Config.nibsPerSec)

def isHeadSource (s : SrcDesc) : Bool := match s.producer with | .head _ => true | _ => false

/-- The least latency m of a source's stream to a destination kind without an insertion (R139). -/
def plainLatency (s : SrcDesc) (kind : Nat) (d : Dev) : Nat :=
  let pl := linePeriod (fmtOf s.fmt d) (famPeriod s.fam d)
  match s.producer with
  | .flows => (match s.rx.find? (fun x => x.kind == 0 || x.kind == 4 || x.kind == 3 || x.kind == 5) with | some x => rxDelay x d | none => 0) + pl
  | _ => pl + (if kind = 1 then 1920 else 3840)

/-- A quad of a member has a synthesiser source (R176). -/
def quadHas (m quad src : Nat) (d : Dev) : Bool :=
  if m = selfMember d then
    synthSource (quad / 2) (2 * (quad % 2)) d == src || synthSource (quad / 2) (2 * (quad % 2) + 1) d == src
  else (resOf m d).synths.contains (quad, src)

/-- The quads of a destination's lanes have the synthesiser source that a format and family need (R178). -/
def sdiClocked (t : DstDesc) (fam fmt : Nat) (d : Dev) : Bool :=
  t.kind != 1 || t.lanes.all (fun l => quadHas (placeMember t.member d) (l / 4) (formatSource (fmtOf fmt d) (famPeriod fam d)) d)

/-- Step 1 of R152 for a source to a destination of a family and format; `sea`: what the fabric path adds to m. -/
def insertion (s : SrcDesc) (t : DstDesc) (fam fmt sea : Nat) (d : Dev) : Except TRef Ins :=
  let bad : TRef := { code := 6, budget := 13 }
  let noPath : TRef := { code := 11, budget := 12 }
  let ps := famPeriod s.fam d
  let p := famPeriod fam d
  let f := fmtOf s.fmt d
  let g := fmtOf fmt d
  let e := placedError s d
  let pl := linePeriod f ps
  let plOut := linePeriod g p
  let m := plainLatency s t.kind d + sea
  let same := sameFormat f g
  let near := decide (4 * p ≤ 5 * ps)
  let conv := convertible g p && sdiClocked t fam fmt d
  if t.kind = 4 ∨ t.kind = 7 then .ok {}
  else if s.stream ≠ 0 then
    if t.delay = 0 ∧ s.fam = fam ∧ inWindow e pl m t.doNib false 0 then .ok { lat := m } else .error bad
  else if t.direct then
    let lanes := match s.producer with | .sdi ls => ls.length == t.lanes.length | _ => false
    if lanes && same && f.iface == g.iface && ps == p && sea == 0 && decide (e.natAbs ≤ d.pat.directTol) then .ok { kind := 4, lat := 480 }
    else if same && near then .ok { kind := 1, lat := p }
    else if conv then .ok { kind := 2, lat := 2 * p }
    else .error bad
  else if t.delay ≠ 0 then
    if t.doNib < plOut + 1920 then .error noPath
    else if same && ps == p && inWindow e pl (pl + 1920) t.doNib false 0 then .ok { kind := 3, lat := t.delay * p }
    else if same && near then .ok { kind := 3, pre := 1, lat := t.delay * p }
    else if conv then .ok { kind := 3, pre := 2, lat := t.delay * p }
    else .error bad
  else if same && ps == p && inWindow e pl m t.doNib false 0 then .ok { lat := m }
  else if same && near then .ok { kind := 1, lat := p }
  else if conv then
    if t.doNib < plOut + (if t.kind = 1 then 1920 else 3840) then .error noPath else .ok { kind := 2, lat := 2 * p }
  else .error bad

/-! ### Ingest surfaces and their readers (R155, R286) -/

/-- The ingest surface of a stream for a reader: found or made, still without a channel. -/
def openIngest (m : Nat) (st : TStream) (user need : Nat) (p : Plan) (d : Dev) : Except TRef (Nat × Plan) :=
  match (shared p).find? (fun it => it.kind == 2 && it.member == m && it.key == st.key) with
  | some it =>
    let had := ((it.users.find? (fun u => u.1 == user && u.2.1 == 0)).map (·.2.2)).getD 0
    .ok (it.id, addUser it.id user (max (need % 64) (had % 64) + 64 * Nat.lor (need / 64) (had / 64)) p)
  | none => do
    let (slot, p) ← takeSlots 1 7 st.key m st.width p d
    let u ← takeSurface m p
    return newItem { kind := 2, member := m, key := st.key, fam := st.fam, fmt := st.fmt, unit := u, width := st.width, slot := slot, load := st.rate, half := st.half } user need p

/-- A frame synchroniser for a family, format and Do, shared (R155); its channel group takes a run of its own (R301). -/
def openSync (m : Nat) (st : TStream) (fam fmt doNib user : Nat) (p : Plan) (d : Dev) : Except TRef (Nat × Plan) := do
  let (sid, p) ← openIngest m st user (3 + 256) p d
  match (shared p).find? (fun it => it.kind == 3 && it.member == m && it.key == st.key && it.fam == fam && it.fmt == fmt && it.doNib == doNib && it.surf == sid) with
  | some it =>
    let p := addUser it.id user 0 p
    let p ← (if st.chans = 0 then .ok p else placeRun m (65536 + it.id) st.chans user p)
    return (it.id, p)
  | none =>
    let w := max 1 (slotsFor (essenceRate (fmtOf fmt d) (famPeriod fam d)))
    let (slot, p) ← takeSlots 0 7 st.key m w p d
    let (id, p) := newItem { kind := 3, member := m, key := st.key, fam := fam, fmt := fmt, doNib := doNib, width := w, slot := slot, surf := sid, load := st.rate } user 0 p
    let p ← (if st.chans = 0 then .ok p else placeRun m (65536 + id) st.chans user p)
    return (id, p)

/-- A delay line of a destination (R304). -/
def openDelay (m : Nat) (st : TStream) (dst fam fmt doNib frames user : Nat) (p : Plan) (d : Dev) : Except TRef (Nat × Plan) := do
  let (sid, p) ← openIngest m st user (frames + 1 + 128) p d
  match (shared p).find? (fun it => it.kind == 4 && it.member == m && it.unit == dst && it.surf == sid && it.via == [frames] && it.fam == fam && it.fmt == fmt) with
  | some it => return (it.id, addUser it.id user 0 p)
  | none =>
    let (slot, p) ← takeSlots 0 7 st.key m st.width p d
    return newItem { kind := 4, member := m, key := st.key, fam := fam, fmt := fmt, doNib := doNib, unit := dst, width := st.width, slot := slot, surf := sid, load := st.rate, via := [frames] } user 0 p

/-- The divisor of the picture to read (R158): crop columns and lines against the rectangle's. -/
def proxyDiv (cw ch rw rh : Nat) : Nat := if rw ≤ cw / 4 ∧ rh ≤ ch / 4 then 4 else if rw ≤ cw / 2 ∧ rh ≤ ch / 2 then 2 else 1

/-- A conversion head, still without a head: source slots and the ingest surface (R155, R365). Its `num` holds the picture it reads. -/
def openConv (m : Nat) (st : TStream) (fam fmt doNib user : Nat) (p : Plan) (d : Dev) : Except TRef (Nat × Plan) := do
  let (sid, p) ← openIngest m st user (2 + 64) p d
  match (shared p).find? (fun it => it.kind == 5 && it.member == m && it.key == st.key && it.fam == fam && it.fmt == fmt && it.doNib == doNib && it.surf == sid) with
  | some it =>
    let p := addUser it.id user 0 p
    let p ← (if st.chans = 0 then .ok p else placeRun m (65536 + it.id) st.chans user p)
    return (it.id, p)
  | none =>
    let w := max 1 (slotsFor (essenceRate (fmtOf fmt d) (famPeriod fam d)))
    let (slot, p) ← takeSlots 0 7 st.key m w p d
    let f := fmtOf st.fmt d
    let g := fmtOf fmt d
    let div := proxyDiv f.activeSamples f.activeLines g.activeSamples g.activeLines
    let (id, p) := newItem { kind := 5, member := m, key := st.key, fam := fam, fmt := fmt, doNib := doNib, width := w, slot := slot, surf := sid, load := st.rate, num := 16 / (div * div) } user 0 p
    let p ← (if st.chans = 0 then .ok p else placeRun m (65536 + id) st.chans user p)
    return (id, p)

/-! ### Heads and scalers (R158, R160, R354) -/

/-- The heads in use for conversion on a member. -/
def convHeads (p : Plan) (m : Nat) : List Nat :=
  (held p).flatMap (fun it => if it.kind = 5 ∧ it.member = m then it.via else [])

/-- A scaler part: pixels per frame on a head of a family, its output lines from y0 to y1. -/
structure Part where
  head : Nat := 0
  fam : Nat := 0
  load : Nat := 0
  y0 : Nat := 0
  y1 : Nat := 0
  mode : Nat := 0

/-- Pixels per frame charged on a scaler. -/
def scalerLoad (p : Plan) (m u : Nat) : Nat := ((held p).map (fun it => if it.kind = 11 ∧ it.member = m ∧ it.unit = u then it.load else 0)).sum

/-- The scaler that a part takes: one that serves the same head with no common output line, then an unused one. -/
def placePart (m key : Nat) (x : Part) (what pinItem user : Nat) (p : Plan) (d : Dev) : Except TRef Plan :=
  let it : TItem := { kind := 11, member := m, key := key, fam := x.fam, load := x.load, via := [x.head, x.y0, x.y1, x.mode] }
  if x.mode = 2 then .ok (newItem { it with unit := 64, load := 0 } user 0 p).2
  else
    let per := famPeriod x.fam d
    let room := fun (u : Nat) => decide ((scalerLoad p m u + x.load) * Config.nibsPerSec ≤ 1190700000 * max 1 per)
    let on := fun (u : Nat) => (held p).filter (fun y => y.kind == 11 && y.member == m && y.unit == u)
    let serves := fun (u : Nat) => !(on u).isEmpty && (on u).all (fun y => y.via.headD 99 == x.head && (decide (x.y1 ≤ y.via.getD 1 0) || decide (y.via.getD 2 0 ≤ x.y0)))
    let unused := fun (u : Nat) => (on u).isEmpty
    let ok := fun (u : Nat) => decide (u < 64) && (serves u || unused u) && room u
    let dflt := ((List.range 64).find? (fun u => serves u && room u)).orElse (fun _ => (List.range 64).find? (fun u => unused u && room u))
    match pick what pinItem ok dflt { code := 10, budget := 4 } p d with
    | .error e => .error e
    | .ok (u, p) => .ok (newItem { it with unit := u, hard := hardPin what pinItem d } user 0 p).2

/-- The mode of a part that reads w columns, with the taps of its bank (R354). -/
def partMode (bilinear : Bool) (taps w : Nat) : Nat := if !bilinear ∧ taps * w ≤ 32768 then 0 else if 2 * w ≤ 32768 then 1 else 2

/-- The Pattern's conversion entry for two colour spaces: filter, bank and colour program. -/
def convEntry (a b : Nat) (d : Dev) : Nat × Nat × Nat := match d.pat.conv.find? (fun q => q.1 == a && q.2.1 == b) with | some (_, _, f, k, g) => (f, k, g) | none => (0, 0, 0)

/-- Give a conversion head item its head or heads, with a scaler for each (R152 step 6, R158). -/
def fillConv (id dst user : Nat) (p : Plan) (d : Dev) : Except TRef Plan :=
  let it := itemOf p.t id
  if !it.via.isEmpty then
    .ok (forEach ((held p).filter (fun y => y.kind == 11 && y.member == it.member && y.key == 65536 + id)) (fun y p => addUser y.id user 0 p) p)
  else do
    let m := it.member
    let g := fmtOf it.fmt d
    let per := famPeriod it.fam d
    let gang := needsGang g per
    let pool := (resOf m d).pool
    let busy := convHeads p m
    let free := fun (h : Nat) => pool.contains h && !busy.contains h
    let ok := fun (h : Nat) => if gang then h % 4 == 0 && (List.range 4).all (fun k => free (h + k)) else free h
    let (h, p) ← pick 5 dst ok (pool.find? ok) { code := 10, budget := 5 } p d
    let heads := if gang then (List.range 4).map (h + ·) else [h]
    let p := modItem id (fun x => { x with via := heads, hard := hardPin 5 dst d }) p
    let s := itemOf p.t it.surf
    let f := fmtOf s.fmt d
    let (flt, bank, _) := convEntry f.cspace g.cspace d
    let k : Nat := if gang then 2 else 1
    let div := Nat.sqrt (16 / max 1 it.num)
    let w := ceilDiv f.activeSamples (div * k)
    let mode := partMode (flt == 1) (rd QLT_BANK_CFG_nv [bank] d) w
    let out := pixelsOf g / (k * k)
    let read := pixelsOf f / (div * div * k * k)
    heads.foldl (fun acc h => do
      let p ← acc
      placePart m (65536 + id) { head := h, fam := it.fam, load := max out (ceilDiv read 4), y0 := 0, y1 := g.activeLines, mode := mode } 7 0 user p d) (.ok p)

/-! ### Transmit entries and MACs (R160, R163) -/

/-- The bits per second a transmit descriptor puts on the wire at its shaping, frame overhead included: a -20 flow in its active lines, a 2022-6
flow over its frame, an audio flow by its packet period, an opaque flow by its source; a -40 flow one largest packet a field (log entry 31). -/
def wireRate (x : TxDesc) (l : Leg) (t : DstDesc) (fam fmt peak : Nat) (d : Dev) : Nat :=
  let f := fmtOf fmt d
  let p := max 1 (famPeriod fam d)
  let pl := max 1 (linePeriod f p)
  let per := fun (bytes ticks : Nat) => ceilDiv (8 * bytes * Config.nibsPerSec) (max 1 ticks)
  let framing := 20
  if x.kind = 0 then
    let n := linePackets f (x.payloadMax.getD 200)
    per (((List.range n).map (fun j => wireLen l (packetBytes f (x.payloadMax.getD 200) j + 8) + framing)).sum) pl
  else if x.kind = 4 then per (packets2022 f p * (wireLen l 1384 + framing)) p
  else if isAudio x.kind then per (wireLen l (x.channels.getD t.channels * sampleBytes (x.encoding.getD 2) * txSpp x) + framing) (txSpp x * samplePeriod t.rate)
  else if x.kind = 3 then per ((if f.scan = 0 then 1 else 2) * (wireLen l (x.payloadMax.getD 200 + 8) + framing)) p
  else peak

/-- What is charged on a MAC. -/
def macCharge (p : Plan) (m mac : Nat) : Nat :=
  ((held p).map (fun it => if it.kind = 8 ∧ it.member = m then (if it.surf = mac + 1 then it.load else 0) + (if it.ch = mac + 1 then it.num else 0) else 0)).sum

/-- 95 % of a MAC's port rate. -/
def macCap (t : Tlr) (m mac : Nat) (d : Dev) : Nat :=
  if usable t m 3 (fMac mac) then (((resOf m d).macs.find? (fun x => x.1 == mac)).map (·.2)).getD 0 * 95 / 100 else 0

/-- The transmit entries of a destination, on consecutive indices where that many are free (R158). In an item, `slot` is the descriptor's place,
`surf` and `load` the MAC (plus 1) and rate of the first leg, `ch` and `num` those of the second. -/
def placeTxs (t : DstDesc) (fam fmt peak : Nat) (p : Plan) (d : Dev) : Except TRef Plan :=
  let m := placeMember t.member d
  let user := userDst t.num 0
  let own := (shared p).filter (fun it => it.kind == 8 && it.key == t.num && it.member == m)
  if !own.isEmpty ∧ own.all (fun it => it.fam == fam && it.fmt == fmt) then .ok (forEach own (fun it p => addUser it.id user 0 p) p)
  else if t.tx.any (fun x => !x.legs.isEmpty && !x.legs.any (fun l => usable p.t m 3 (fMac l.mac))) then .error { code := 8, budget := 10, down := true }
  else
    let n := t.tx.length
    let used := ((held p).filter (fun it => it.kind == 8 && it.member == m)).map (fun it => (it.unit, 1))
    let run := (0 :: used.map (fun q => q.1 + 1)).filter (fun u => decide (u + n ≤ 16384) && clear used u n)
    let first := (sortBy id run).head?
    (t.tx.zip (List.range n)).foldl (fun (acc : Except TRef Plan) q => do
      let p ← acc
      let used := ((held p).filter (fun it => it.kind == 8 && it.member == m)).map (fun it => (it.unit, 1))
      let u := match first with | some a => some (a + q.2) | none => freeStart used 0 16384 1
      match u with
      | none => .error { code := 8, budget := 10 }
      | some u =>
        let leg := fun (k : Nat) => q.1.legs[k]?
        let mac := fun (k : Nat) => match leg k with | some l => l.mac + 1 | none => 0
        let rate := fun (k : Nat) => match leg k with | some l => wireRate q.1 l t fam fmt peak d | none => 0
        return (newItem { kind := 8, member := m, key := t.num, fam := fam, fmt := fmt, unit := u, slot := q.2, surf := mac 0, load := rate 0, ch := mac 1, num := rate 1 } user 0 p).2) (.ok p)

/-- The MACs of a destination's flows keep within their budgets (R152 step 8). -/
def macsFit (t : DstDesc) (p : Plan) (d : Dev) : Except TRef Plan :=
  let m := placeMember t.member d
  match (t.tx.flatMap (fun x => x.legs.map (·.mac))).find? (fun mac => usable p.t m 3 (fMac mac) && decide (macCap p.t m mac d < macCharge p m mac)) with
  | some mac => .error { code := 9, budget := 7, index := mac }
  | none => .ok p

/-! ### A destination's own resources -/

/-- The resources without which a destination cannot be placed are usable (R149, R152): its family, the octets of its lanes, its port or Gather. -/
def dstUsable (t : DstDesc) (fam : Nat) (p : Plan) (d : Dev) : Bool :=
  let m := placeMember t.member d
  usable p.t m 3 (fFam fam)
    && (decide (t.kind ≠ 1) || t.lanes.all (fun n => usable p.t m 3 (fOct (n / 8))))
    && (decide (t.kind ≠ 7) || usable p.t m 3 (if t.port = 16 then fGather else if t.port < 8 then fTdm t.port else fAout (t.port - 8)))

/-- The width of a destination's slots; 0 for one without (R104). -/
def dstWidth (t : DstDesc) (fam fmt peak : Nat) (d : Dev) : Nat :=
  if t.kind = 4 ∨ t.kind = 7 then 0
  else if t.kind = 5 then 1
  else if t.kind = 6 then max 1 (slotsFor peak)
  else max 1 (slotsFor (essenceRate (fmtOf fmt d) (famPeriod fam d)))

/-- Destination slots and destination channels (R152 step 2, R394). -/
def placeDstSlots (t : DstDesc) (fam fmt peak : Nat) (p : Plan) (d : Dev) : Except TRef Plan := do
  let m := placeMember t.member d
  let user := userDst t.num 0
  let w := dstWidth t fam fmt peak d
  let p ← (if w = 0 then .ok p
    else match (shared p).find? (fun it => it.kind == 1 && it.key == t.num && it.width == w) with
      | some it => .ok (addUser it.id user 0 p)
      | none => do
        let (u, p) ← takeSlots 1 0 t.num m w p d
        return (newItem { kind := 1, member := m, key := t.num, unit := u, width := w, fam := fam, hard := hardPin 0 t.num d } user 0 p).2 : Except TRef Plan)
  if t.channels = 0 ∨ (t.kind = 7 ∧ t.port = 16) then .ok p
  else match (shared p).find? (fun it => it.kind == 13 && it.key == t.num) with
    | some it => .ok (addUser it.id user 0 p)
    | none => do
      let u ← takeRun 13 m t.channels p
      return (newItem { kind := 13, member := m, key := t.num, unit := u, width := t.channels } user 0 p).2

/-- The Gather inputs of a feed, the lowest free ones, in channel order (R399). -/
def placeInputs (t : DstDesc) (p : Plan) (d : Dev) : Except TRef Plan :=
  if t.kind ≠ 7 ∨ t.port ≠ 16 then .ok p
  else
    let m := placeMember t.member d
    let user := userDst t.num 0
    (List.range t.channels).foldl (fun (acc : Except TRef Plan) j => do
      let p ← acc
      match (shared p).find? (fun it => it.kind == 9 && it.key == t.num && it.slot == j) with
      | some it => return addUser it.id user 0 p
      | none =>
        let used := ((held p).filter (fun it => it.kind == 9 && it.member == m)).map (fun it => (it.unit, 1))
        match freeStart used 0 (resOf m d).gather 1 with
        | some u => return (newItem { kind := 9, member := m, key := t.num, unit := u, slot := j } user 0 p).2
        | none => .error { code := 12, budget := 11 }) (.ok p)

/-- The destination needs a hold surface (R133). -/
def wantsHold (t : DstDesc) (policy secondary : Nat) (d : Dev) : Bool :=
  decide (t.kind = 1 ∨ t.kind = 2 ∨ t.kind = 3) && (policy == 2 || (policy == 3 && secondary == 2) || (t.kind == 1 &&
    (if placeMember t.member d = selfMember d then rdBit BLT_DST_SAFE_hold [t.index / 32] (t.index % 32) d else t.safeHold)))

/-- The hold surface of a destination (R305). -/
def placeHold (t : DstDesc) (fam fmt : Nat) (p : Plan) (d : Dev) : Except TRef Plan :=
  let m := placeMember t.member d
  let user := userDst t.num 3
  match (shared p).find? (fun it => it.kind == 6 && it.key == t.num && it.fam == fam && it.fmt == fmt) with
  | some it => .ok (addUser it.id user 2 p)
  | none => do
    let u ← takeSurface m p
    let (id, p) := newItem { kind := 6, member := m, key := t.num, fam := fam, fmt := fmt, unit := u, load := essenceRate (fmtOf fmt d) (famPeriod fam d) } user 2 p
    fillSurface id 3 t.num p d

/-! ### When a path is ready (R157, R328) -/

/-- The nib of the first frame that a surface of a stream takes. -/
def firstWrite (p : Plan) (sid : Nat) (e : Int) (d : Dev) : Int :=
  let s := itemOf p.t sid
  let ps := famPeriod s.fam d
  (boundaryFrom ps (((s.via.headD p.at_ : Nat) : Int) - e).toNat : Int) + e

/-- The destination's switch point at or after a nib. -/
def dstSwitch (t : DstDesc) (fam fmt at_ : Nat) (d : Dev) : Nat :=
  let f := fmtOf fmt d
  let per := famPeriod fam d
  let off := if t.kind = 1 then ((switchLine f).map (fun n => (n - 1) * linePeriod f per)).getD 0 else 0
  switchFrom per off at_

/-- The switch point at which a path of a kind may first carry its destination. -/
def pathSwitch (kind id : Nat) (e : Int) (t : DstDesc) (fam fmt : Nat) (p : Plan) (d : Dev) : Nat :=
  let it := itemOf p.t id
  let f := fmtOf fmt d
  let per := famPeriod fam d
  let pl := linePeriod f per
  let s := itemOf p.t it.surf
  let ps := famPeriod s.fam d
  let s0 := firstWrite p it.surf e d
  let from_ : Int := if kind = 1 then s0 + (syncG per ps : Int) + pl + 1920 - t.doNib
    else if kind = 3 then s0 + (t.delay * per : Nat) - e
    else if kind = 2 then s0 + ps + per
    else 0
  dstSwitch t fam fmt (max p.at_ (boundaryFrom per from_.toNat)) d

/-! ### A destination's path (R152) -/

def tdest (n : Nat) (t : Tlr) : TDest := tabGet {} t.dests n
def setTdest (n : Nat) (x : TDest) (p : Plan) : Plan := { p with t := { p.t with dests := tabSet {} p.t.dests n x } }

/-- A user holds an item now, for good. -/
def holds (user : Nat) (it : TItem) : Bool := it.users.any (fun u => u.1 == user && u.2.1 == 0)

/-- The destination has its own resources. -/
def basePlaced (n : Nat) (p : Plan) : Bool := (shared p).any (fun it => holds (userDst n 0) it)

/-- A destination's hold surface, or its release where it wants none; one that only unusable channels prevent waits unplaced (R133, R152). -/
def holdFor (t : DstDesc) (p : Plan) (d : Dev) : Except TRef Plan :=
  let td := tdest t.num p.t
  let user := userDst t.num 3
  let sp := dstSwitch t td.fam td.fmt p.at_ d
  if !wantsHold t td.policy td.secondary d then .ok (setTdest t.num { td with holdDown := false } (releaseUser user sp d p))
  else if (shared p).any (fun it => it.kind == 6 && holds user it && it.fam == td.fam && it.fmt == td.fmt) then .ok p
  else
    match placeHold t td.fam td.fmt (setAside user p) d with
    | .ok q => .ok (setTdest t.num { td with holdDown := false } (endAside user sp d q))
    | .error e => if e.down then .ok (setTdest t.num { td with holdDown := true } (releaseUser user sp d p)) else .error e

/-- The destination's own slots, channels, entries and inputs (R152 steps 2, 7 to 9), where it does not have them. -/
def placeBase (t : DstDesc) (fam fmt rate : Nat) (p : Plan) (d : Dev) : Except TRef Plan := do
  let p ← placeDstSlots t fam fmt rate p d
  let p ← placeTxs t fam fmt rate p d
  let p ← macsFit t p d
  placeInputs t p d

/-- Steps 1 to 9 of R152 for a destination and a source, for its primary (role 1) or protect path (2). -/
def buildPath (t : DstDesc) (td : TDest) (role : Nat) (s : SrcDesc) (p : Plan) (d : Dev) : Except TRef (TPath × Plan) := do
  let user := userDst t.num role
  let dm := placeMember t.member d
  let sm := placeMember s.member d
  let fam := td.fam
  let fmt := td.fmt
  let rate := sourceRate s d
  let remote := decide (sm ≠ dm)
  let way : Except TRef (List Nat) := match seamItem p s.num dm with
    | some it => .ok it.via
    | none => if remote then chooseSpine p sm dm (max 1 (slotsFor rate)) (seamCharge s d) t.num d else .ok []
  let sea := match way with | .ok v => if remote then seamLatency s v d else 0 | .error _ => 0
  let ins ← insertion s t fam fmt sea d
  let own := role == 2 && basePlaced t.num p
  if !dstUsable t fam p d then .error { down := true }
  let p ← (if own then .ok p else placeDstSlots t fam fmt rate p d : Except TRef Plan)
  let p ← placeSource s user p d
  let p ← (if remote then do let _ ← way; placeSeam s dm user t.num p d else .ok p : Except TRef Plan)
  let st := streamOf s d
  let st := if remote then { st with e := st.e + sea } else st
  let (id, p) ← (if ins.kind = 1 then openSync dm st fam fmt (if t.direct then 480 else t.doNib) user p d
    else if ins.kind = 2 then openConv dm st fam fmt (if t.direct then 480 else t.doNib) user p d
    else if ins.kind = 3 then
      (if ins.pre = 0 then openDelay dm st t.num fam fmt t.doNib t.delay user p d
       else do
         let (a, p) ← (if ins.pre = 1 then openSync dm st fam fmt t.doNib user p d else openConv dm st fam fmt t.doNib user p d)
         let st2 : TStream := { key := 65536 + a, fam := fam, fmt := fmt, rate := essenceRate (fmtOf fmt d) (famPeriod fam d), width := (itemOf p.t a).width, half := st.half }
         openDelay dm st2 t.num fam fmt t.doNib t.delay user p d)
    else .ok (0, p) : Except TRef (Nat × Plan))
  let chain := (shared p).filter (fun it => it.member == dm && it.kind == 2 && holds user it)
  let p ← chain.foldl (fun (acc : Except TRef Plan) it => do let p ← acc; fillSurface it.id 2 it.key p d) (.ok p)
  let p ← (if role = 1 then holdFor t p d else .ok p : Except TRef Plan)
  let heads := (shared p).filter (fun it => it.member == dm && it.kind == 5 && holds user it)
  let p ← heads.foldl (fun (acc : Except TRef Plan) it => do let p ← acc; fillConv it.id t.num user p d) (.ok p)
  let p ← placeFlows s user p d
  let p ← (if own then .ok p else placeBase t fam fmt rate p d : Except TRef Plan)
  let sw := if ins.kind = 1 ∨ ins.kind = 2 ∨ ins.kind = 3 then pathSwitch ins.kind id (if ins.pre = 0 then st.e else 0) t fam fmt p d else dstSwitch t fam fmt p.at_ d
  let spine := match seamItem p s.num dm with | some it => if remote then roleIndex (it.via.getD 1 0) 2 d + 1 else 0 | none => 0
  return ({ src := s.num, placed := true, kind := ins.kind, item := id, spine := spine, since := p.at_, swAt := sw, lat := ins.lat }, p)

def putPath (n role : Nat) (x : TPath) (p : Plan) : Plan :=
  let td := tdest n p.t
  setTdest n (if role = 1 then { td with prim := x } else { td with prot := x }) p

/-- The destination keeps its own slots and channels, while its entries and inputs are released. -/
def keepSlots (t : DstDesc) (rate sp : Nat) (p : Plan) (d : Dev) : Plan :=
  let td := tdest t.num p.t
  let q := setAside (userDst t.num 0) p
  endAside (userDst t.num 0) sp d (match placeDstSlots t td.fam td.fmt rate q d with | .ok r => r | .error _ => q)

/-- A path is placed anew for a source; `rel`: where what it had is released at, if not the new path's switch point. -/
def attempt (t : DstDesc) (role : Nat) (s : SrcDesc) (rel : Option Nat) (p : Plan) (d : Dev) : Except TRef Plan :=
  let td := tdest t.num p.t
  let mine := userDst t.num role :: (if role = 1 then [userDst t.num 0] else [])
  match buildPath t td role s (forEach mine setAside p) d with
  | .error e => .error e
  | .ok (x, q) =>
    let sw := rel.getD x.swAt
    let q := putPath t.num role x (forEach mine (fun u q => endAside u sw d q) q)
    .ok (setTdest t.num { tdest t.num q.t with missed := decide (p.missed < q.missed) } q)

/-- A path waits unplaced: the stitch is the destination's, the path is not (R152, R168). -/
def strand (t : DstDesc) (role : Nat) (s : SrcDesc) (p : Plan) (d : Dev) : Plan :=
  let td := tdest t.num p.t
  let sp := dstSwitch t td.fam td.fmt p.at_ d
  let q := releaseUser (userDst t.num role) sp d p
  let q := if role = 1 then keepSlots t (sourceRate s d) sp q d else q
  putPath t.num role { src := s.num, unplaced := true, since := p.at_, swAt := sp } q

/-- A path is placed for a source, what an unusable resource prevents waiting unplaced (R152). -/
def placePath (t : DstDesc) (role src : Nat) (force : Bool) (rel : Option Nat) (p : Plan) (d : Dev) : Except TRef Plan :=
  let td := tdest t.num p.t
  let old := if role = 1 then td.prim else td.prot
  match srcDesc src d with
  | none => .ok p
  | some s =>
    if old.src = src ∧ old.placed ∧ !force then .ok p
    else
      match attempt t role s rel p d with
      | .ok q => .ok q
      | .error e => if e.down then .ok (strand t role s p d) else .error e

/-- A path is released; its source number stays known (`src`) for a later take. -/
def dropPath (t : DstDesc) (role src sp : Nat) (p : Plan) (d : Dev) : Plan :=
  putPath t.num role { src := src } (releaseUser (userDst t.num role) sp d p)

/-! ### Shuffled channels (R116, R121) -/

/-- The resources of a shuffled channel: its source's channels, and the destination's own. -/
def buildShuffle (t : DstDesc) (td : TDest) (user : Nat) (s : SrcDesc) (p : Plan) (d : Dev) : Except TRef Plan := do
  let dm := placeMember t.member d
  if !dstUsable t td.fam p d then .error { down := true }
  let p ← (if basePlaced t.num p then .ok p else placeBase t td.fam td.fmt 0 p d : Except TRef Plan)
  let p ← placeSource s user p d
  let p ← placeSeam s dm user t.num p d
  placeFlows s user p d

/-- Set what a destination's map says of a channel. -/
def putShuffle (n j : Nat) (x : Option (Nat × Bool)) (p : Plan) : Plan :=
  let td := tdest n p.t
  setTdest n { td with shuf := sortBy (·.1) (td.shuf.filter (fun q => q.1 != j) ++ (match x with | some y => [(j, y)] | none => [])) } p

def attemptShuffle (t : DstDesc) (j : Nat) (s : SrcDesc) (sp : Nat) (p : Plan) (d : Dev) : Except TRef Plan :=
  let user := userShuffle t.num j
  match buildShuffle t (tdest t.num p.t) user s (setAside user p) d with
  | .ok q => .ok (putShuffle t.num j (some (s.num, true)) (endAside user sp d q))
  | .error e => .error e

/-- A channel carries a named source channel from now on. -/
def placeShuffle (t : DstDesc) (j src : Nat) (p : Plan) (d : Dev) : Except TRef Plan :=
  let td := tdest t.num p.t
  let sp := dstSwitch t td.fam td.fmt p.at_ d
  match srcDesc src d with
  | none => .ok p
  | some s =>
    if td.shuf.contains (j, src, true) then .ok p
    else
      match attemptShuffle t j s sp p d with
      | .ok q => .ok q
      | .error e => if e.down then .ok (putShuffle t.num j (some (src, false)) (releaseUser (userShuffle t.num j) sp d p)) else .error e

/-- What nothing of a destination needs any longer of its own resources is released. -/
def dropBase (t : DstDesc) (sp : Nat) (p : Plan) (d : Dev) : Plan :=
  let td := tdest t.num p.t
  if td.prim.placed || td.prim.unplaced || td.prot.placed || td.prot.unplaced || !td.shuf.isEmpty then p
  else releaseUser (userDst t.num 0) sp d p

/-! ### Records (R116, R122, R134, R152) -/

/-- Place one record. -/
def placeRecord (x : Rec) (p : Plan) (d : Dev) : Except TRef Plan :=
  match dstDesc x.dst d with
  | none => .ok p
  | some t =>
    let td := tdest t.num p.t
    let sp := dstSwitch t td.fam td.fmt p.at_ d
    if x.type = 0 then
      if x.src = 65535 then holdFor t (dropBase t sp (dropPath t 2 td.prot.src sp (dropPath t 1 65535 sp p d) d) d) d
      else do
        let p ← placePath t 1 x.src false none p d
        if td.policy = 3 ∧ td.prot.src ≠ 65535 ∧ !td.prot.placed then placePath t 2 td.prot.src false none p d else .ok p
    else if x.type = 1 then do
      let p := setTdest t.num { td with policy := x.policy, secondary := x.secondary, revert := x.revert, revertFrames := x.revertFrames } p
      let p ← (if x.policy = 3 ∧ x.src ≠ 65535 then placePath t 2 x.src false none p d else .ok (dropBase t sp (dropPath t 2 x.src sp p d) d) : Except TRef Plan)
      holdFor t p d
    else if x.type = 2 then
      let chan := if x.srcCh = 255 then [] else [(x.dstCh, 64 * x.src + x.srcCh + 1)]
      let p := setTdest t.num { td with chans := sortBy (·.1) (td.chans.filter (fun q => q.1 != x.dstCh) ++ chan) } p
      if x.srcCh = 255 then .ok (dropBase t sp (putShuffle t.num x.dstCh none (releaseUser (userShuffle t.num x.dstCh) sp d p)) d)
      else placeShuffle t x.dstCh x.src p d
    else if td.fam = x.fam ∧ td.fmt = x.fmt then .ok p
    else if !sdiClocked t x.fam x.fmt d then .error { code := 6, budget := 13 }
    else do
      let p := setTdest t.num { td with fam := x.fam, fmt := x.fmt } p
      let p ← (if td.prim.src ≠ 65535 then placePath t 1 td.prim.src true (some sp) p d else .ok p : Except TRef Plan)
      let p ← (if td.policy = 3 ∧ td.prot.src ≠ 65535 ∧ (td.prot.placed ∨ td.prot.unplaced) then placePath t 2 td.prot.src true (some sp) p d else .ok p : Except TRef Plan)
      holdFor t p d

/-! ### Layers (R144, R158, R345, R354) -/

/-- Whether making the source of a layer visible to a head would make the head depend on itself (R345): the heads that a source depends on. -/
def headsOf (t : Tlr) (m src fuel : Nat) (d : Dev) : List Nat :=
  match fuel with
  | 0 => []
  | fuel + 1 =>
    match ((srcDesc src d).map (·.producer) : Option Producer) with
    | some (Producer.head h) =>
      let below := t.layers.filter (fun q => q.1 / 512 == m && q.2.words.getD 14 99 == h && q.2.words.getD 0 0 == 1)
      h :: below.flatMap (fun q => headsOf t m (q.2.words.getD 1 65535) fuel d ++ headsOf t m (q.2.words.getD 2 65535) fuel d)
    | _ => []

/-- A layer's numbers by name: rectangle and crop. -/
structure LayerBox where
  cx : Nat
  cy : Nat
  cw : Nat
  ch : Nat
  rx : Int
  ry : Int
  rw : Nat
  rh : Nat

def layerBox (w : List Nat) : LayerBox :=
  ⟨w.getD 3 0, w.getD 4 0, w.getD 5 0, w.getD 6 0, toSigned 16 (w.getD 7 0), toSigned 16 (w.getD 8 0), w.getD 9 0, w.getD 10 0⟩

/-- The rules of R345 on a layer's settings. -/
def layerLegal (t : Tlr) (m : Nat) (w : List Nat) (d : Dev) : Bool :=
  let b := layerBox w
  let h := w.getD 14 99
  let ok := fun (n : Nat) => match srcDesc n d with
    | some s => s.stream == 0 && !(headsOf t m n 17 d).contains h
    | none => false
  let src := w.getD 1 65535
  let key := w.getD 2 65535
  let f := fun (n : Nat) => match srcDesc n d with | some s => fmtOf s.fmt d | none => {}
  (src == 65535 || (ok src && decide (1 ≤ b.cw ∧ 1 ≤ b.ch ∧ b.cx + b.cw ≤ (f src).activeSamples ∧ b.cy + b.ch ≤ (f src).activeLines)))
    && (key == 65535 || (ok key && (src == 65535 || ((f key).activeSamples == (f src).activeSamples && (f key).activeLines == (f src).activeLines))))

/-- The parts of a layer: one on its head, or one in each quadrant of a gang that it touches. -/
def layerParts (w : List Nat) (keyed : Bool) (div : Nat) (d : Dev) : List Part :=
  let b := layerBox w
  let h := w.getD 14 0
  let fam := w.getD 15 0
  let g := fmtOf (w.getD 16 0) d
  let lines := if w.getD 12 0 = 1 then b.ch / 2 else b.ch
  let part := fun (head x0 x1 y0 y1 : Nat) =>
    let cols := ceilDiv (b.cw * (x1 - x0)) (div * max 1 b.rw)
    let rows := ceilDiv (lines * (y1 - y0)) (div * max 1 b.rh)
    let mode := partMode (w.getD 11 0 == 1) (w.getD 13 1) (if keyed then 2 * cols else cols)
    ({ head := head, fam := fam, load := max ((x1 - x0) * (y1 - y0)) (ceilDiv (cols * rows) 4), y0 := y0 + (b.ry + 65536).toNat, y1 := y1 + (b.ry + 65536).toNat, mode := mode } : Part)
  if w.getD 17 0 = 0 then [part h 0 b.rw 0 b.rh]
  else
    let hw := g.activeSamples / 2
    let hh := g.activeLines / 2
    let cut := fun (lo hi : Int) (o : Int) (n : Nat) => ((clampI 0 n (lo - o)).toNat, (clampI 0 n (hi - o)).toNat)
    let quads := (List.range 4).map (fun q =>
      let (x0, x1) := cut ((q % 2) * hw : Nat) ((q % 2 + 1) * hw : Nat) b.rx b.rw
      let (y0, y1) := cut ((q / 2) * hh : Nat) ((q / 2 + 1) * hh : Nat) b.ry b.rh
      (q, x0, x1, y0, y1))
    let touched := quads.filter (fun q => decide (q.2.1 < q.2.2.1 ∧ q.2.2.2.1 < q.2.2.2.2))
    match touched with
    | [] => [part h 0 b.rw 0 b.rh]
    | qs => qs.map (fun q => part (h + q.1) q.2.1 q.2.2.1 q.2.2.2.1 q.2.2.2.2)

/-- The read of a source for a layer: its slots, Seam path, ingest surface and read charge. -/
def layerRead (m key src num user : Nat) (p : Plan) (d : Dev) : Except TRef Plan := do
  match srcDesc src d with
  | none => .ok p
  | some s =>
    let p ← placeSource s user p d
    let p ← placeSeam s m user 65535 p d
    let (sid, p) ← openIngest m (streamOf s d) user (2 + 64) p d
    let p ← (if num = 0 then .ok p
      else .ok (newItem { kind := 15, member := m, key := key, surf := sid, load := sourceRate s d, num := num } user 0 p).2 : Except TRef Plan)
    let p ← fillSurface sid 2 s.num p d
    placeFlows s user p d

/-- The divisor of the picture a layer reads. -/
def layerDiv (w : List Nat) : Nat :=
  let b := layerBox w
  proxyDiv b.cw (if w.getD 12 0 = 1 then b.ch / 2 else b.ch) b.rw b.rh

/-- Place a layer's settings. -/
def buildLayer (m l : Nat) (w : List Nat) (p : Plan) (d : Dev) : Except TRef Plan := do
  let user := userLayer m l
  if !layerLegal p.t m w d then .error { code := 6, budget := 13 }
  if w.getD 0 0 = 0 ∨ w.getD 1 65535 = 65535 then .ok p
  else
    if !usable p.t m 3 (fHead (w.getD 14 99)) then .error { code := 10, budget := 4, down := true }
    let keyed := decide (w.getD 2 65535 ≠ 65535)
    let div := layerDiv w
    let parts := layerParts w keyed div d
    let num := if parts.all (fun x => x.mode == 2) then 0 else 16 / (div * div)
    let p ← layerRead m (512 * m + l) (w.getD 1 65535) num user p d
    let p ← (if keyed then layerRead m (512 * m + l) (w.getD 2 65535) num user p d else .ok p)
    parts.foldl (fun (acc : Except TRef Plan) x => do let p ← acc; placePart m (512 * m + l) x 4 l user p d) (.ok p)

def tlayer (k : Nat) (t : Tlr) : TLayer := tabGet {} t.layers k
def setTlayer (k : Nat) (x : TLayer) (p : Plan) : Plan := { p with t := { p.t with layers := tabSet {} p.t.layers k x } }

/-- The first boundary of a layer's head at which its new settings may land (R347): after the latch, and once its surfaces hold a frame. -/
def layerLands (m l : Nat) (w : List Nat) (at_ : Nat) (p : Plan) (d : Dev) : Nat :=
  let fam := w.getD 15 0
  let per := famPeriod fam d
  let latch := at_ + 2 * linePeriod (fmtOf (w.getD 16 0) d) per + 52920
  let surfs := (held p).filter (fun it => it.kind == 2 && it.member == m && it.users.any (fun u => u.1 == userLayer m l && u.2.1 == 0))
  let ready := surfs.map (fun s => (firstWrite p s.id 0 d).toNat + famPeriod s.fam d)
  max (boundaryAfter per latch) (boundaryFrom per (ready.foldl max 0))

/-- A layer is placed with new settings accepted at a nib. -/
def placeLayer (m l : Nat) (w : List Nat) (at_ : Nat) (p : Plan) (d : Dev) : Except TRef Plan :=
  let user := userLayer m l
  let k := 512 * m + l
  match buildLayer m l w (setAside user p) d with
  | .ok q => .ok (setTlayer k { words := w, placed := decide (w.getD 0 0 = 1 ∧ w.getD 1 65535 ≠ 65535) } (endAside user (layerLands m l w at_ q d) d q))
  | .error e => if e.down then .ok (setTlayer k { words := w, unplaced := decide (w.getD 18 0 = 0) } (releaseUser user (boundaryAfter (famPeriod (w.getD 15 0) d) at_) d p)) else .error e

/-! ### What the start-up input places for good (R584) -/

/-- The members whose resources the map counts. -/
def placeMembers (d : Dev) : List Nat := if roleOf d = 0 ∨ twinned d then [selfMember d] else sortBy id (d.pat.res.map (·.num))

/-- A producer that holds its source permanently. -/
def isPermanent (s : SrcDesc) : Bool :=
  match s.producer with
  | .sdi _ => true
  | .port _ => true
  | .mix _ => true
  | .head _ => false
  | .flows => !(mediaFlows s).isEmpty && (mediaFlows s).all (fun q => q.1.resident)

/-- The sources of the map in ascending number. -/
def sourceOrder (d : Dev) : List SrcDesc := sortBy (·.num) d.pat.sources

/-- Step 1 of R584 for a source. A mix source's channels are Gather outputs (R394, R401). -/
def placePermanent (s : SrcDesc) (p : Plan) (d : Dev) : Plan :=
  let q := match placeSource s userPermanent p d with | .ok q => q | .error _ => p
  match s.producer with
  | .mix o => (newItem { kind := 12, member := placeMember s.member d, key := s.num, unit := 31744 + o, width := s.channels } userPermanent 0 q).2
  | _ => q

/-- The resident flows that have no entry, by source number and descriptor (R584 step 2). -/
def missingFlows (t : Tlr) (d : Dev) : List (SrcDesc × RxDesc × Nat) :=
  (sourceOrder d).flatMap (fun s => ((mediaFlows s).filter (fun q => q.1.resident
    && !t.items.any (fun it => it.kind == 7 && it.key == s.num && it.slot == q.2 && !it.dead && holds userPermanent it))).map (fun q => (s, q)))

/-- The number of the control flow's item (R280, R541). -/
def controlKey : Nat := 131072

/-- The entry of the in-band control flow. -/
def placeControl (p : Plan) (d : Dev) : Plan :=
  match d.pat.control with
  | none => p
  | some c => forEach (placeMembers d) (fun m p =>
      let used := ((held p).filter (fun it => it.kind == 7 && it.member == m)).map (fun it => (it.unit, 1))
      match freeStart used 0 16384 1 with
      | some u => (newItem { kind := 7, member := m, key := controlKey, unit := u, via := c.legs.map (fun l => flowBucket (legKey l)) } userPermanent 0 p).2
      | none => p) p

/-- The bytes of a head's two overlay buffers (R362). -/
def overlayBytes (fmt : Nat) (gang : Bool) (d : Dev) : Nat :=
  let n := 4 * pixelsOf (fmtOf fmt d)
  2 * min 33554432 (if gang then n / 4 else n)

/-- The overlays that have no surface, as (member, head, family, format entry, gang). -/
def missingOverlays (t : Tlr) (d : Dev) : List (Nat × Nat × Nat × Nat × Bool) :=
  (placeMembers d).flatMap (fun m => ((resOf m d).overlays.filter (fun o =>
    !t.items.any (fun it => it.kind == 14 && it.member == m && it.key == o.1 && !it.dead && holds (userHead m o.1) it))).map (fun o => (m, o)))

/-- An overlay's surface (R286). -/
def placeOverlay (m h fam fmt : Nat) (gang : Bool) (p : Plan) (d : Dev) : Except TRef Plan := do
  let u ← takeSurface m p
  let (id, p) := newItem { kind := 14, member := m, key := h, fam := fam, fmt := fmt, unit := u, load := overlayBytes fmt gang d } (userHead m h) 2 p
  fillSurface id 7 0 p d

/-- The capture surface of a member, on the channel that the Pattern names (R308). -/
def placeCapture (m : Nat) (p : Plan) (d : Dev) : Plan :=
  match (resOf m d).capture with
  | none => p
  | some c =>
    match takeSurface m p with
    | .ok u => (newItem { kind := 14, member := m, key := 64, unit := u, ch := c + 1, load := 268435456 } userPermanent 2 p).2
    | .error _ => p

end Sys2Proof.Machine
end

