-- ==== Sys2Proof/Machine/Placement.lean ====
section
/-! DEFINITION. The placement map put into effect on this device: slots, surfaces, insertions, entries, channels, Seam slots, and what a
destination's and a layer's placement become (R110, R154, R157, R170). -/

namespace Sys2Proof.Machine

/-! ### Numbers on the device -/

/-- The number under which a stream of the map runs on the device: a source, or an insertion's output slot. -/
def deviceKey (key : Nat) (t : Tlr) : Nat := if key < 65536 then key else syncGroup (itemOf t (key - 65536)).slot

/-- The stream behind a chain of insertions. -/
def rootKey (key : Nat) (t : Tlr) : Nat := if key < 65536 then key else (itemOf t (key - 65536)).key

/-- The local index of a destination number, 0 where it is not local. -/
def dstIndex (num : Nat) (d : Dev) : Nat := (((localDsts d).find? (fun x => x.num == num)).map (·.index)).getD 0

/-! ### Source slots -/

/-- XPT_SSL_ST of a stream's slots (R143). -/
def showSlots (first n kind producer : Nat) (lost : Bool) (e : Int) (d : Dev) : Dev :=
  forUpTo n (fun j d =>
    wr XPT_SSL_ST_kind [first + j] kind (wr XPT_SSL_ST_gang [first + j] (gangCode n) (wrB XPT_SSL_ST_lost [first + j] lost
      (wr XPT_SSL_ST_producer [first + j] producer (wrS XPT_SSL_ST_e_nib [first + j] (clampI (-32768) 32767 (e / 40)) d))))) d

def slotKind (s : SrcDesc) : Nat := if s.stream = 0 then 1 else if s.stream = 1 then 2 else 3
def slotProducer (s : SrcDesc) : Nat := match s.producer with | .sdi _ => 0 | .flows => 1 | .head _ => 4 | _ => 3
def chanProducer (s : SrcDesc) : Nat := match s.producer with | .sdi _ => 1 | .flows => 2 | .port p => if p < 8 then 3 else 4 | .mix _ => 6 | .head _ => 0

/-- A source occupies slots on this device. -/
def occupy (src first n producer : Nat) (d : Dev) : Dev :=
  match srcDesc src d with
  | none => d
  | some s =>
    let r := srcRun src d
    showSlots first n (slotKind s) producer (!r.present) r.e { d with xpt := { d.xpt with slots := d.xpt.slots.filter (fun q => q.1 != first) ++ [(first, src, n)] } }

/-- The slots are given back. -/
def vacate (first n : Nat) (d : Dev) : Dev :=
  showSlots first n 0 0 false 0 { d with xpt := { d.xpt with slots := d.xpt.slots.filter (fun q => q.1 != first) } }

/-! ### Channel runs (R394) -/

/-- A group of source channels begins at a run. -/
def openRun (owner first n rate producer source : Nat) (d : Dev) : Dev :=
  let d := { d with xpt := { d.xpt with runs := d.xpt.runs.filter (fun q => q.1 != owner) ++ [(owner, first, n)] } }
  forUpTo n (fun j d => wr GTH_SRC_CH_rate [first + j] rate (wr GTH_SRC_CH_producer [first + j] producer
    (wr GTH_SRC_CH_index [first + j] j (wr GTH_SRC_CH_source [first + j] source d)))) d

def closeRun (first n : Nat) (d : Dev) : Dev :=
  let d := { d with xpt := { d.xpt with runs := d.xpt.runs.filter (fun q => q.2.1 != first) }
                    aud := { d.aud with src := d.aud.src.filter (fun p => decide (p.1 < first ∨ first + n ≤ p.1)) } }
  forUpTo n (fun j d => toReset GTH_SRC_CH_rate [first + j] (toReset GTH_SRC_CH_producer [first + j]
    (toReset GTH_SRC_CH_index [first + j] (toReset GTH_SRC_CH_source [first + j] d)))) d

/-! ### Conversion heads (R365) -/

/-- The lowest layer that the Pattern reserves for a pool head. -/
def convLayer (h : Nat) (d : Dev) : Option Nat := (layersOf h d).head?

/-- The settings of a conversion head's layer: `q` its quadrant where `gang`. -/
def setConvLayer (l q : Nat) (gang : Bool) (src : Nat) (f g : Fmt) (place : LayerPlace) (d : Dev) : Dev :=
  let k : Nat := if gang then 2 else 1
  let (flt, bank, prog) := convEntry f.cspace g.cspace d
  let put := fun (a b : Fld) (v : Nat) (d : Dev) => wr a [l] v (wr b [l] v d)
  let w := f.activeSamples / k
  let h := f.activeLines / k
  let d := put QLT_SH_CFG_en QLT_AC_CFG_en 1 (put QLT_SH_SRC_src QLT_AC_SRC_src src (put QLT_SH_SRC_key QLT_AC_SRC_key 65535 d))
  let d := put QLT_SH_CROP_XY_cx QLT_AC_CROP_XY_cx (q % 2 * w) (put QLT_SH_CROP_XY_cy QLT_AC_CROP_XY_cy (q / 2 * h) d)
  let d := put QLT_SH_CROP_WH_cw QLT_AC_CROP_WH_cw w (put QLT_SH_CROP_WH_ch QLT_AC_CROP_WH_ch h d)
  let d := put QLT_SH_RECT_XY_rx QLT_AC_RECT_XY_rx 0 (put QLT_SH_RECT_XY_ry QLT_AC_RECT_XY_ry 0 d)
  let d := put QLT_SH_RECT_WH_rw QLT_AC_RECT_WH_rw (g.activeSamples / k) (put QLT_SH_RECT_WH_rh QLT_AC_RECT_WH_rh (g.activeLines / k) d)
  let d := put QLT_SH_CFG_filter QLT_AC_CFG_filter flt (put QLT_SH_CFG_bank QLT_AC_CFG_bank bank (put QLT_SH_CFG_prog QLT_AC_CFG_prog prog d))
  let d := put QLT_SH_CFG_field QLT_AC_CFG_field 0 (put QLT_SH_CFG_z QLT_AC_CFG_z 0 (put QLT_SH_CFG_ovl QLT_AC_CFG_ovl 0 d))
  let d := put QLT_SH_CFG_alpha_mode QLT_AC_CFG_alpha_mode 0 (put QLT_SH_ALPHA_alpha QLT_AC_ALPHA_alpha 0x3f800000 d)
  let d := put QLT_SH_BORDER_width QLT_AC_BORDER_width 0 (put QLT_SH_BORDER_tally QLT_AC_BORDER_tally 0 d)
  let d := put QLT_SH_METER_count QLT_AC_METER_count 0 (put QLT_SH_CFG_lost_mode QLT_AC_CFG_lost_mode 0 d)
  setLayerRun l { place := place } d

/-- The Tailor writes a conversion head's settings and starts it. -/
def startConv (it : TItem) (d : Dev) : Dev :=
  let t := d.tlr
  let s := itemOf t it.surf
  let f := fmtOf s.fmt d
  let g := fmtOf it.fmt d
  let gang := decide (it.via.length = 4)
  let src := deviceKey it.key t
  let div := Nat.sqrt (16 / max 1 it.num)
  let modes := fun (h : Nat) => (t.items.filter (fun y => y.kind == 11 && y.member == it.member && y.key == 65536 + it.id && y.via.headD 99 == h)).map (fun y => ((0 : Nat), y.via.getD 3 0))
  let d := setSyncRun it.slot { syncRun it.slot d with head := true } d
  let d := forEach it.via (fun h d =>
    let d := wr QLT_HEAD_FMT_fmt [h] it.fmt (wr QLT_HEAD_FMT_fam [h] it.fam (wr QLT_HEAD_FMT_cspace [h] g.cspace (wrB QLT_HEAD_FMT_gang [h] gang d)))
    let d := setHeadRun h { conv := it.slot + 1 } d
    let d := match convLayer h d with
      | some l => setConvLayer l (if gang then h % 4 else 0) gang src f g { placed := true, surf := s.unit + 1, div := div, modes := modes h } d
      | none => d
    let role := if !gang then 0 else if h % 4 = 0 then 1 else 2
    setFuncState (fHead h) 1 (wr QLT_HEAD_STATUS_gang_role [h] role (wr QLT_HEAD_CTRL_en [h] 1 d))) d
  d

def stopConv (it : TItem) (d : Dev) : Dev :=
  forEach it.via (fun h d =>
    let d := setFuncState (fHead h) 0 (setFuncState (fHead h) 3 (wr QLT_HEAD_CTRL_en [h] 0 (setHeadRun h {} d)))
    let d := wr QLT_HEAD_FMT_gang [h] 0 d
    match convLayer h d with
    | some l => setLayerRun l {} (wr QLT_SH_CFG_en [l] 0 (wr QLT_AC_CFG_en [l] 0 d))
    | none => d) d

/-! ### Seam slots (R419) -/

/-- The place of a stream in the order of R167: its lowest destination by priority and number. -/
def streamOrder (it : TItem) (d : Dev) : Nat :=
  (it.users.filter (fun u => decide (u.1 < 2 ^ 18))).foldl (fun acc u =>
    let n := u.1 / 4
    min acc ((match dstDesc n d with | some t => t.priority | none => 3) * 65536 + n)) (4 * 65536)

/-- The Seam slot a path takes on its first and second hop. -/
def seamSlot1 (via : List Nat) : Nat := via.getD 6 0 % 96
def seamSlot2 (via : List Nat) : Nat := via.getD 8 0 % 96

/-- A link of this device sends a stream, or stops. -/
def sendStream (link slot : Nat) (x : Option SeaTx) (d : Dev) : Dev :=
  let k := seaLink link d
  setSeaLink link { k with tx := match x with | some y => tabSet {} k.tx slot y | none => tabDel k.tx slot } d

/-- A link of this device delivers a stream to source slots, or stops. -/
def takeStream (link slot : Nat) (x : Option SeaIn) (d : Dev) : Dev :=
  let k := seaLink link d
  setSeaLink link { k with rx := match x with | some y => tabIns (tabDel k.rx slot) slot y | none => tabDel k.rx slot } d

/-- This device's part of a Seam path begins (`on`) or ends. -/
def applySeam (it : TItem) (on : Bool) (d : Dev) : Dev :=
  match it.via with
  | [b, s, la, ls, so, lb, dA, sS, dS, sB] =>
    let self := selfMember d
    let tx : Option SeaTx := if on then some { source := it.key, charge := it.load, order := streamOrder it d } else none
    let rx : Option SeaIn := if on then some { source := it.key } else none
    let audio := match srcDesc it.key d with | some x => x.stream == 3 | none => false
    let slots := fun (first : Nat) (d : Dev) => if audio then d else if on then occupy it.key first it.width 2 d else vacate first it.width d
    let stitch := fun (n src : Nat) (d : Dev) => if audio then d else
      forUpTo it.width (fun j d => wr XPT_STITCH_src_slot [n + j] (if on then src + j else 0) (wrB XPT_STITCH_valid [n + j] on
        (wr XPT_STITCH_gang [n + j] (if on then gangCode it.width else 0) (wrB XPT_STITCH_member [n + j] (on && j != 0) d)))) d
    if self = it.member then
      let own := ((d.xpt.slots.find? (fun q => q.2.1 == it.key)).map (·.1)).getD 0
      stitch dA own (sendStream la (seamSlot1 it.via) tx d)
    else if self = s then
      stitch dS sS (sendStream so (seamSlot2 it.via) tx (slots sS (takeStream ls (seamSlot1 it.via) rx d)))
    else if self = b then slots sB (takeStream lb (seamSlot2 it.via) rx d)
    else d
  | _ => d

/-! ### Items -/

/-- The read side or head of an item at its slot. -/
def openReader (it : TItem) (delay : Nat) (d : Dev) : Dev :=
  let t := d.tlr
  let s := itemOf t it.surf
  let src := deviceKey it.key t
  let chans := ((srcDesc (rootKey it.key t) d).map (·.channels)).getD 0
  let d := if it.key < 65536 then d else
    let pl := linePeriod (fmtOf it.fmt d) (famPeriod it.fam d)
    setSrcRun src { srcRun src d with e := (it.doNib : Int) - pl - 1920, present := true } d
  let d := placeSync it.slot { surf := s.unit, src := src, fam := it.fam, fmt := it.fmt, doNib := it.doNib, delay := delay, head := it.kind == 5 } chans d
  showSlots it.slot it.width 1 (if it.kind = 5 then 4 else 3) true 0 d

/-- An item of this device takes effect. -/
def placeItem (it : TItem) (d : Dev) : Dev :=
  let t := d.tlr
  let now := it.since
  let i := dstIndex it.key d
  match it.kind with
  | 0 => (match srcDesc it.key d with | some s => occupy it.key it.unit it.width (slotProducer s) d | none => d)
  | 2 => let ns := needsAt now it
         placeSurf it.unit 0 (deviceKey it.key t) it.fmt it.fam (it.ch - 1) it.bank (max 2 (depthOf ns)) (servesQuilt ns) it.half (servesSync ns) it.slot (it.via.headD now) d
  | 3 => openReader it 0 d
  | 4 => openReader it (it.via.headD 1) d
  | 5 => startConv it (openReader it 0 d)
  | 6 => placeSurf it.unit 1 i it.fmt it.fam (it.ch - 1) it.bank 2 false false false 0 (it.via.headD now) d
  | 7 => if it.key = controlKey then placeRx it.unit { kind := 6, legs := (d.pat.control.map (·.legs)).getD [] } now d else (match srcDesc it.key d with
          | some s => (match (s.rx.filter (fun x => x.kind != 6))[it.slot]? with | some x => placeRx it.unit x now d | none => d)
          | none => d)
  | 8 => (match dstDesc it.key d with
          | some x => (match x.tx[it.slot]? with | some y => placeTx it.unit y i d | none => d)
          | none => d)
  | 9 => let col := match dstDesc it.key d with | some x => x.columns.getD it.slot [] | none => []
         loadColumn it.unit col (wr GTH_IN_dst [it.unit] i (wr GTH_IN_ch [it.unit] it.slot (wr GTH_IN_valid [it.unit] 1
           (wr GTH_DST_CH_dst [31744 + it.unit] i (wr GTH_DST_CH_index [31744 + it.unit] it.slot d)))))
  | 10 => applySeam it true d
  | 12 => (match srcDesc (rootKey it.key t) d with
           | some s => openRun (deviceKey it.key t) it.unit it.width s.rate
               (if 65536 ≤ it.key then 7 else if placeMember s.member d ≠ selfMember d then 5 else chanProducer s) (rootKey it.key t) d
           | none => d)
  | 13 => forUpTo it.width (fun j d => wr GTH_DST_CH_dst [it.unit + j] i (wr GTH_DST_CH_index [it.unit + j] j d)) d
  | 14 => placeSurf it.unit (if it.key = 64 then 3 else 2) it.key it.fmt it.fam (it.ch - 1) it.bank 2 false false false 0 now d
  | _ => d

/-- An item of this device is given back. -/
def freeItem (it : TItem) (d : Dev) : Dev :=
  match it.kind with
  | 0 => vacate it.unit it.width d
  | 2 => freeSurf it.unit d
  | 3 => vacate it.slot it.width (freeSync it.slot d)
  | 4 => vacate it.slot it.width (freeSync it.slot d)
  | 5 => vacate it.slot it.width (freeSync it.slot (stopConv it d))
  | 6 => freeSurf it.unit d
  | 7 => freeRx it.unit d
  | 8 => freeTx it.unit d
  | 9 => toReset GTH_IN_dst [it.unit] (toReset GTH_IN_ch [it.unit] (wr GTH_IN_valid [it.unit] 0
      (toReset GTH_DST_CH_dst [31744 + it.unit] (toReset GTH_DST_CH_index [31744 + it.unit]
        { d with aud := { d.aud with dst := tabDel d.aud.dst (31744 + it.unit) } }))))
  | 10 => applySeam it false d
  | 12 => closeRun it.unit it.width d
  | 13 => forUpTo it.width (fun j d => toReset GTH_DST_CH_dst [it.unit + j] (toReset GTH_DST_CH_index [it.unit + j]
      { d with aud := { d.aud with dst := tabDel d.aud.dst (it.unit + j) } })) d
  | 14 => freeSurf it.unit d
  | _ => d

/-- The item lies on this device, or a Seam path crosses it. -/
def isOurs (it : TItem) (d : Dev) : Bool :=
  it.member == selfMember d || (it.kind == 10 && (it.via.headD 99 == selfMember d || it.via.getD 1 99 == selfMember d))

/-- A surface's depth and proxies follow its readers (R155). -/
def refreshSurf (it : TItem) (d : Dev) : Dev :=
  if it.kind ≠ 2 then d
  else
    let ns := needsAt (nibOf d.ntw) it
    let depth := max 2 (depthOf ns)
    let size := surfaceBytes (fmtOf it.fmt d) depth (servesQuilt ns) (servesSync ns)
    wr INK_SURF_depth [it.unit] depth (wrB INK_SURF_proxies [it.unit] (servesQuilt ns) (wr INK_SURF_size_64k [it.unit] (ceilDiv size 65536) d))

/-- Bring the device in line with the map at the present instant: what nobody needs any longer is given back, and what has reached its L or E
takes effect, surfaces before what reads them. -/
def settle (d : Dev) : Dev :=
  let now := nibOf d.ntw
  let gone := d.tlr.items.filter (fun it => !stillHeld now it)
  let d := forEach (gone.filter (fun it => it.live)) freeItem d
  let keep := (d.tlr.items.filter (stillHeld now)).map (fun it => { it with users := it.users.filter (fun u => u.2.1 == 0 || decide (now < u.2.1)) })
  let due := keep.filter (fun it => !it.live && decide (it.since ≤ now) && isOurs it d)
  let items := keep.map (fun it => if !it.live && decide (it.since ≤ now) && isOurs it d then { it with live := true } else it)
  let d := { d with tlr := { d.tlr with items := items } }
  let order := due.filter (fun it => it.kind == 0 || isSurface it.kind) ++ due.filter (fun it => it.kind == 10) ++ due.filter (fun it => it.kind != 0 && !isSurface it.kind && it.kind != 10)
  let d := forEach order placeItem d
  let d := forEach (items.filter (fun it => it.live && isOurs it d)) refreshSurf d
  if (gone ++ due).any (fun it => it.kind == 7) then updateMemb d else d

/-! ### What a destination's and a layer's placement become -/

/-- A path of the map as the crosspoint uses it. -/
def pathOf (t : Tlr) (x : DstDesc) (q : TPath) (d : Dev) : Path :=
  let it := itemOf t q.item
  let s := itemOf t it.surf
  let inserted := decide (q.kind = 1 ∨ q.kind = 2 ∨ q.kind = 3)
  let slot := if inserted then it.slot
    else match t.items.find? (fun y => y.kind == 10 && y.key == q.src && y.via.headD 99 == selfMember d && y.users.any (fun u => u.2.1 == 0)) with
      | some y => y.via.getD 9 0
      | none => ((t.items.find? (fun y => y.kind == 0 && y.key == q.src && y.member == selfMember d)).map (·.unit)).getD 0
  { src := q.src, placed := q.placed, slot := slot, kind := q.kind, surf := if inserted then s.unit + 1 else 0, head := if q.kind = 2 then it.via.headD 0 else 0
    spine := q.spine, inkCh := if inserted then s.ch - 1 else 0, inkBank := if inserted then s.bank else 0
    rxEntry := ((t.items.find? (fun y => y.kind == 7 && y.key == q.src)).map (·.unit)).getD 0
    since := q.since, frames := if q.kind = 3 then x.delay else 0, lat := q.lat }

/-- Everything the map gives a local destination. -/
def dstPlaceOf (t : Tlr) (x : DstDesc) (d : Dev) : DstPlace :=
  let td := tdest x.num t
  let base := t.items.filter (fun it => it.key == x.num && it.users.any (fun u => u.2.1 == 0))
  let slot := base.find? (fun it => it.kind == 1)
  let hold := t.items.find? (fun it => it.kind == 6 && holds (userDst x.num 3) it)
  let run := base.find? (fun it => it.kind == 13)
  { slot := (slot.map (·.unit)).getD 0, gang := (slot.map (·.width)).getD 0, slotted := slot.isSome
    primary := pathOf t x td.prim d, protect := pathOf t x td.prot d
    holdSurf := (hold.map (fun it => it.unit + 1)).getD 0, holdCh := (hold.map (fun it => it.ch - 1)).getD 0
    txEntries := (sortBy (·.slot) (base.filter (fun it => it.kind == 8))).map (·.unit)
    inputs := (sortBy (·.slot) (base.filter (fun it => it.kind == 9))).map (·.unit)
    chans := (run.map (·.unit)).getD 0, chanCount := (run.map (·.width)).getD 0
    unplaced := td.prim.unplaced, pinMissed := td.missed, epoch := td.epoch }

/-- What the map gives a local layer. -/
def layerPlaceOf (t : Tlr) (l : Nat) (d : Dev) : LayerPlace :=
  let m := selfMember d
  let x := tlayer (512 * m + l) t
  let mine := t.items.filter (fun it => it.member == m && holds (userLayer m l) it)
  let surf := fun (src : Nat) => ((mine.find? (fun it => it.kind == 2 && it.key == src)).map (fun it => it.unit + 1)).getD 0
  let key := x.words.getD 2 65535
  { placed := x.placed, surf := surf (x.words.getD 1 65535), div := layerDiv x.words
    keySurf := if key = 65535 then 0 else surf key, keyDiv := layerDiv x.words
    modes := (mine.filter (fun it => it.kind == 11)).map (fun it => (it.via.headD 0 - x.words.getD 14 0, it.via.getD 3 0)) }

end Sys2Proof.Machine
end

