-- ==== Sys2Proof/Machine/Inputs.lean ====
section
/-! DEFINITION. Placement inputs: salvos accepted or refused, layer inputs, health records and evacuation, migrations, withdrawal (R82 to R87,
R118, R144 to R153, R164 to R169). -/

namespace Sys2Proof.Machine

/-! ### Before and after an input -/

/-- A placement of an input whose launch instant, E or latch is a nib begins. -/
def beginPlan (at_ : Nat) (d : Dev) : Plan :=
  let p : Plan := { t := d.tlr, at_ := at_ }
  { p with busy := ((held p).filter (fun it => isSurface it.kind && it.ch != 0)).map (fun it => (it.member, it.ch - 1)) }

/-- Destinations in the order of R167. -/
def dstOrder (d : Dev) : List DstDesc := sortBy (fun t => t.priority * 65536 + t.num) d.pat.dests

/-- Layers of the map by member, head and layer (R167). -/
def layerOrder (t : Tlr) : List (Nat × TLayer) := sortBy (fun q => (q.1 / 512 * 32 + q.2.words.getD 14 0) * 512 + q.1 % 512) t.layers

/-- The items that wait unplaced, each by a number of its own. -/
def strandedItems (t : Tlr) (d : Dev) : List Nat :=
  t.dests.flatMap (fun q =>
    (if q.2.prim.unplaced then [userDst q.1 1] else []) ++ (if q.2.prot.unplaced then [userDst q.1 2] else [])
      ++ (if q.2.holdDown then [userDst q.1 3] else []) ++ (q.2.shuf.filter (fun x => !x.2.2)).map (fun x => userShuffle q.1 x.1))
    ++ (t.layers.filter (fun q => q.2.unplaced)).map (fun q => userLayer (q.1 / 512) (q.1 % 512))
    ++ (missingFlows t d).map (fun q => userPermanent + 16 * q.1.num + q.2.2) ++ (missingOverlays t d).map (fun q => userHead q.1 q.2.1)

/-- A step of R169 keeps the map where it fails. -/
def orKeep (x : Except TRef Plan) (p : Plan) : Plan := match x with | .ok q => q | .error _ => p

/-- Try again what waits of a destination (R169). -/
def retryDst (t : DstDesc) (p : Plan) (d : Dev) : Plan :=
  let again := fun (role : Nat) (p : Plan) =>
    let td := tdest t.num p.t
    let x := if role = 1 then td.prim else td.prot
    match srcDesc x.src d with
    | some s => if x.unplaced then orKeep (attempt t role s none p d) p else p
    | none => p
  let p := again 2 (again 1 p)
  let p := if (tdest t.num p.t).holdDown then (match holdFor t p d with | .ok q => q | .error _ => p) else p
  forEach ((tdest t.num p.t).shuf.filter (fun x => !x.2.2)) (fun x p =>
    match srcDesc x.2.1 d with
    | some s => orKeep (attemptShuffle t x.1 s (dstSwitch t (tdest t.num p.t).fam (tdest t.num p.t).fmt p.at_ d) p d) p
    | none => p) p

/-- Try again a layer that waits. -/
def retryLayer (k : Nat) (p : Plan) (d : Dev) : Plan :=
  let x := tlayer k p.t
  if !x.unplaced then p
  else
    match buildLayer (k / 512) (k % 512) x.words p d with
    | .ok q => setTlayer k { x with placed := true, unplaced := false } q
    | .error _ => p

/-- Resident flows and overlays that lack their place are given one. -/
def placeResidents (p : Plan) (d : Dev) : Plan :=
  let p := forEach (missingFlows p.t d) (fun q p => orKeep (placeFlow q.1 q.2.2 q.2.1 userPermanent p d) p) p
  forEach (missingOverlays p.t d) (fun q p => orKeep (placeOverlay q.1 q.2.1 q.2.2.1 q.2.2.2.1 q.2.2.2.2 p d) p) p

/-- Try every unplaced item again, in the order of R167. -/
def retryAll (p : Plan) (d : Dev) : Plan :=
  let p := placeResidents p d
  let p := forEach (dstOrder d) (fun t p => retryDst t p d) p
  forEach (layerOrder p.t) (fun q p => retryLayer q.1 p d) p

/-! ### Migrations (R164, R165) -/

/-- K of R165. -/
def migK (g : Mig) (it : TItem) : Nat :=
  if !g.via.isEmpty then 1
  else if g.toCh = 0 then 0
  else if it.kind = 6 ∨ it.kind = 14 then 1
  else
    let ns := (it.users.filter (fun u => u.2.1 == 0)).map (·.2.2)
    if servesDelay ns then depthOf ns - 1 else if servesSync ns then 2 else 1

/-- W, C and C + P of a migration planned at a nib. -/
def timedMig (a : Nat) (g : Mig) (it : TItem) (d : Dev) : Mig :=
  let per := famPeriod it.fam d
  let w := boundaryFrom per (a + 52920000)
  { g with w := w, c := w + migK g it * per, endAt := w + (migK g it + 1) * per, stage := 1 }

def inFlight (t : Tlr) : Nat := (t.migs.filter (fun g => g.stage != 0)).length

/-- Plan a migration at a nib; beyond 64 it waits (R165). -/
def addMig (a : Nat) (g : Mig) (p : Plan) (d : Dev) : Plan :=
  let g := if inFlight p.t < 64 then timedMig a g (itemOf p.t g.item) d else { g with stage := 0, endAt := 0 }
  { p with t := { p.t with migs := p.t.migs ++ [g] } }

def migrating (t : Tlr) (id : Nat) : Bool := t.migs.any (fun g => g.item == id)

/-- Users hold the item beyond the input. -/
def lasting (it : TItem) : Bool := it.users.any (fun u => u.2.1 == 0)

/-- The item may be migrated (R159, R164, R166). -/
def movable (p : Plan) (it : TItem) : Bool := lasting it && !it.hard && !it.dead && !migrating p.t it.id

/-- Plan to move a surface to the first of some channels that can take it. -/
def moveSurface (a : Nat) (cs : List Nat) (it : TItem) (p : Plan) (d : Dev) : Option Plan :=
  let try_ := fun (c : Nat) => addMig a { item := it.id, toCh := c + 1, toBank := bankOf p d it.member c } p d
  (cs.find? (fun c => (chanFits (try_ c) d it.member c).isNone)).map try_

/-- Move surfaces one after another; all of them or none. -/
def moveAll (a : Nat) (cs : List Nat) (its : List TItem) (p : Plan) (d : Dev) : Option Plan :=
  match its with
  | [] => some p
  | it :: rest => match moveSurface a cs it p d with | some q => moveAll a cs rest q d | none => none

/-- The surfaces that a channel of a member keeps, by index. -/
def surfacesOn (p : Plan) (m c : Nat) : List TItem :=
  sortBy (·.unit) (p.t.items.filter (fun it => it.member == m && isSurface it.kind && it.ch == c + 1 && lasting it))

/-- Packing on a member (R164): the least charged of the occupied non-fixed channels is emptied onto the others, where all of it fits. -/
def packMember (a m : Nat) (p : Plan) (d : Dev) : Plan :=
  let q := { p with at_ := 2 ^ 210 }
  let fixed := fun (c : Nat) => match chanRes m c d with | some (f, _, _) => f | none => false
  let occ := (chanOrder q m false d).filter (fun c => chanOccupied q m c)
  let loose := sortBy id (occ.filter (fun c => !fixed c))
  match loose with
  | c0 :: rest =>
    let c := rest.foldl (fun best c => if chanCharge q d m c ≤ chanCharge q d m best then c else best) c0
    let its := surfacesOn p m c
    let others := occ.filter (fun x => x != c)
    if its.all (movable p) && !others.isEmpty then (moveAll a others its p d).getD p else p
  | [] => p

/-! #### Make room (R152 step 11) -/

/-- Free the lowest aligned span of some width on a side of a member by moving single-slot streams out of it. -/
def roomForGang (a m side w : Nat) (p : Plan) (d : Dev) : Option Plan :=
  let occ := unitsIn p m side
  let placeOf := fun (it : TItem) => if it.kind = 2 then it.slot else it.unit
  let mine := fun (u : Nat) => (held p).filter (fun it => it.member == m && it.width == 1 && decide (u ≤ placeOf it ∧ placeOf it < u + w)
    && (if side = 0 then it.kind == 0 else it.kind == 1 || it.kind == 2))
  let span := fun (u : Nat) =>
    let its := mine u
    let used := (occ.filter (fun q => decide (q.1 < u + w ∧ u < q.1 + q.2))).length
    its.length == used && decide (its.length ≤ 64) && its.all (movable p)
  let tryAt := fun (u : Nat) =>
    (mine u).foldl (fun (acc : Option Plan) it => match acc with
      | none => none
      | some p =>
        match freeStart ((u, w) :: unitsIn p m side) 0 (ownSlots d) 1 with
        | some v => some (addMig a { item := it.id, toUnit := v } p d)
        | none => none) (some p)
  (((List.range (ownSlots d / max 1 w)).map (fun k => w * k)).find? (fun u => span u && (tryAt u).isSome)).bind tryAt

/-- Every migration planned so far is over by the launch instant, so that its old location may be used (R154). -/
def overByLaunch (p : Plan) : Bool := p.t.migs.all (fun g => g.stage == 3 || (g.endAt != 0 && decide (g.endAt ≤ p.at_)))

/-- Move surfaces off a channel one after another until a test holds; at most `n` of them. -/
def emptyUntil (n a c : Nat) (ok : Plan → Bool) (p : Plan) (d : Dev) (m : Nat) : Option Plan :=
  match n with
  | 0 => none
  | n + 1 =>
    match (surfacesOn p m c).find? (movable p) with
    | none => none
    | some it =>
      match moveSurface a ((chanOrder p m (it.kind == 6) d).filter (fun x => x != c)) it p d with
      | none => none
      | some q => if ok q then some q else emptyUntil n a c ok q d m

/-- Migrations that make room for what failed, 64 at most (R164). -/
def makeRoom (a : Nat) (e : TRef) (ok : Plan → Bool) (p : Plan) (d : Dev) : Option Plan :=
  let good := fun (q : Plan) => overByLaunch q && ok q
  if e.code = 7 ∧ e.budget ≤ 1 ∧ 1 < e.want then
    match roomForGang a e.member e.budget e.want p d with
    | some q => if good q then some q else none
    | none => none
  else if e.code = 9 ∧ (e.budget = 2 ∨ e.budget = 3) ∧ e.want ≠ 0 then
    (chanOrder p e.member false d).foldl (fun (acc : Option Plan) c => match acc with
      | some q => some q
      | none => emptyUntil 64 a c good p d e.member) none
  else none

/-! ### Deciding a salvo (R82 to R87, R118, R152, R153) -/

/-- Place records in order; the index and reason of the first that fails. -/
def placeRecords (xs : List Rec) (i : Nat) (p : Plan) (d : Dev) : Except (Nat × TRef) Plan :=
  match xs with
  | [] => .ok p
  | x :: rest => match placeRecord x p d with | .ok q => placeRecords rest (i + 1) q d | .error e => .error (i, e)

/-- The whole salvo, with make-room migrations where only they help. -/
def planSalvo (a : Nat) (xs : List Rec) (p : Plan) (d : Dev) : Except (Nat × TRef) Plan :=
  match placeRecords xs 0 p d with
  | .ok q => .ok q
  | .error (i, e) =>
    let fits := fun (q : Plan) => match placeRecords xs 0 q d with | .ok _ => true | .error _ => false
    match makeRoom a e fits p d with
    | some q => placeRecords xs 0 q d
    | none => .error (i, e)

/-- The lead of a take to a destination (R81). -/
def leadOf (t : DstDesc) (d : Dev) : Nat :=
  let td := tdest t.num d.tlr
  2 * (if t.kind = 4 ∨ t.kind = 7 then famLinePeriod td.fam d else linePeriod (fmtOf td.fmt d) (famPeriod td.fam d)) + 52920

/-- λ of R81. -/
def salvoLead (xs : List Rec) (d : Dev) : Nat := xs.foldl (fun m x => match dstDesc x.dst d with | some t => max m (leadOf t d) | none => m) 0

/-- sp_i of R84 at a nib. -/
def recSwitch (x : Rec) (at_ : Nat) (d : Dev) : Nat :=
  match dstDesc x.dst d with | some t => dstSwitch t (tdest t.num d.tlr).fam (tdest t.num d.tlr).fmt at_ d | none => at_

/-- The launch instant in nib and whether it is late, before the strict bit is looked at (R84, R97). -/
def launchInstant (s : Salvo) (xs : List Rec) (lr a : Nat) (d : Dev) : Nat × Bool :=
  let lam := salvoLead xs d
  let (l, late) := if salvoMode s = 0 then (a + lam, xs.any (fun x => recSwitch x (a + lam) d != recSwitch x lr d))
    else if a + lam ≤ lr then (lr, false) else (a + lam, true)
  let bound := a + rd DUC_FABRIC_ann_lead [] d * famPeriod 0 d
  if roleOf d ≠ 0 ∧ l < bound then (bound, true) else (l, late)

/-- The last L of the queue (R86). -/
def lastLaunch (d : Dev) : Nat := d.xpt.queue.foldl (fun m q => max m q.launch) 0

/-- A refusal by the Tailor shows in its registers (R153, R163, R172). -/
def showRefusal (e : TRef) (record : Nat) (d : Dev) : Dev :=
  let d := wr TLR_STATUS_refused [] 1 (wr TLR_LAST_REF_code [] e.code (wr TLR_LAST_REF_budget [] e.budget (wr TLR_LAST_REF_index [] e.index
    (wr TLR_LAST_REF_record [] (min 4095 record) d))))
  if e.code = 8 then
    let d := fire 80 (wr TLR_STATUS_flow_refused [] 1 d)
    if e.budget = 10 then count TLR_FLOW_REF_tx_refused [] 1 d else count TLR_FLOW_REF_rx_refused [] 1 d
  else d

/-- The Tailor's decision time (R151, R172). -/
def showPlaceTime (us : Nat) (d : Dev) : Dev :=
  let d := wr TLR_PLACE_TIME_last_us [] (min 65535 us) d
  if rd TLR_PLACE_TIME_max_us [] d < min 65535 us then wr TLR_PLACE_TIME_max_us [] (min 65535 us) d else d

/-! ### The sequence of inputs (R146, R147, R431) -/

/-- Two maps differ in more than in how far they have been put into effect. -/
def mapDiffers (t old : Tlr) : Bool :=
  let items : Tlr → List TItem := fun t => t.items.map (fun it => { it with live := false })
  let paths : Tlr → List (Nat × TPath × TPath) := fun t => t.dests.map (fun q => (q.1, q.2.prim, q.2.prot))
  let rest : Tlr → List (Nat × List (Nat × Nat × Bool) × Bool) := fun t => t.dests.map (fun q => (q.1, q.2.shuf, q.2.holdDown))
  let layers : Tlr → List (Nat × Bool × Bool) := fun t => t.layers.map (fun q => (q.1, q.2.placed, q.2.unplaced))
  decide (items t ≠ items old) || decide (paths t ≠ paths old) || decide (rest t ≠ rest old) || decide (layers t ≠ layers old)

/-- Entries that an input changed carry its epoch (R170). -/
def stampEpochs (old : Tlr) (epoch : Nat) (t : Tlr) : Tlr :=
  let mine := fun (t : Tlr) (n : Nat) => t.items.filter (fun it => it.users.any (fun u => u.2.1 == 0 && (u.1 / 4 == n && decide (u.1 < 2 ^ 18))))
  { t with
    dests := t.dests.map (fun q =>
      let was := tdest q.1 old
      let same := was.prim = q.2.prim ∧ was.prot = q.2.prot ∧ was.shuf = q.2.shuf ∧ was.holdDown = q.2.holdDown ∧ (mine old q.1).map (·.id) = (mine t q.1).map (·.id)
      if same then q else (q.1, { q.2 with epoch := epoch }))
    layers := t.layers.map (fun q => if tlayer q.1 old = q.2 then q else (q.1, { q.2 with epoch := epoch })) }

/-- An input has an index and, as announced, its L, latch or E in nib; it is kept, and announced by the master (R147, R431). -/
def noteInput (index at_ : Nat) (i : PInput) (announce : Bool) (d : Dev) : Dev :=
  let sea := d.sea
  let d := { d with sea := { sea with applied := index, kept := (sea.kept ++ [(index, at_, i)]).drop (sea.kept.length + 1 - 4096) } }
  if roleOf d = 0 ∨ !announce then d else sendAllBut none (.announce index at_ i) d

/-- Once an input is applied, its L, E or landing, the epoch and the last sequence number are remembered for digests (R432). -/
def markInput (index at_ : Nat) (d : Dev) : Dev :=
  { d with sea := { d.sea with marks := d.sea.marks ++ [(index, at_, rd TLR_EPOCH_epoch [] d, rd XPT_SEQ_seq [] d)] } }

/-- The input's map takes effect as the map of this device: retries, packing, epoch, what became unplaced, pins missed, channels woken
(R146, R159, R164, R167 to R169, R327). `a`: the acceptance or application instant; `always`: a health record. -/
def finishInput (a : Nat) (always : Bool) (p : Plan) (d : Dev) : Dev :=
  let old := d.tlr
  let p := retryAll p d
  let p := forEach (placeMembers d) (fun m p => packMember a m p d) p
  let t := settleFresh p.t
  let changed := always || mapDiffers t old
  let epoch := rd TLR_EPOCH_epoch [] d + (if changed then 1 else 0)
  let t := if changed then stampEpochs old epoch t else t
  let fresh := (strandedItems t d).filter (fun x => !(strandedItems old d).contains x)
  let woken := ((held { p with t := t }).filter (fun it => isSurface it.kind && it.member == selfMember d && it.ch != 0 && !p.busy.contains (it.member, it.ch - 1))).map (·.ch - 1)
  let moved := (t.migs.filter (fun g => !migrating old g.item && g.toCh != 0 && (itemOf t g.item).member == selfMember d)).map (·.toCh - 1)
  let d := wr TLR_EPOCH_epoch [] epoch { d with tlr := t }
  let d := forEach (woken ++ moved) wakeChannel d
  let d := if p.missed = 0 then d else fire 81 (count TLR_PIN_missed [] p.missed (wr TLR_STATUS_pin_missed [] 1 d))
  if fresh.isEmpty then d else fire 83 (wr TLR_STATUS_unplaced [] 1 d)

/-- Local destinations whose placement an input changed, by index. -/
def changedPlaces (old : Tlr) (d : Dev) : List (Nat × DstPlace) :=
  (localDsts d).filterMap (fun x =>
    let p := dstPlaceOf d.tlr x d
    if dstPlaceOf old x d = p then none else some (x.index, p))

/-- A changed placement takes effect at once, or with the queued salvo that concerns the destination. -/
def applyOrQueue (q : Nat × DstPlace) (d : Dev) : Dev :=
  if d.xpt.queue.any (fun s => s.places.any (fun x => x.1 == q.1)) then
    let last := ((d.xpt.queue.zip (List.range d.xpt.queue.length)).filter (fun s => s.1.places.any (fun x => x.1 == q.1))).getLast?.map (·.2)
    { d with xpt := { d.xpt with queue := (d.xpt.queue.zip (List.range d.xpt.queue.length)).map (fun s =>
        if some s.2 = last then { s.1 with places := s.1.places.map (fun x => if x.1 = q.1 then q else x) } else s.1) } }
  else applyPlace q.1 q.2 d

/-- Local layers whose placement an input changed, other than the one a commit concerns, draw from it at once. -/
def applyLayers (old : Tlr) (but : Option Nat) (d : Dev) : Dev :=
  forEach (d.tlr.layers.filter (fun q => q.1 / 512 == selfMember d && but != some (q.1 % 512))) (fun q d =>
    let l := q.1 % 512
    let p := layerPlaceOf d.tlr l d
    let r := layerRun l d
    if layerPlaceOf old l d = p ∧ r.unplaced = q.2.unplaced then d
    else showLayer l (setLayerRun l { r with place := p, unplaced := q.2.unplaced } d)) d

/-! ### Evacuation (R149, R150, R166, R168) -/

/-- A resource that an item of the map needs is unusable. -/
def lacksResource (t : Tlr) (it : TItem) (d : Dev) : Bool :=
  let m := it.member
  let macs := fun (x : Option DstDesc) (k : Nat) => match x with
    | some y => match y.tx[k]? with | some z => !z.legs.isEmpty && !z.legs.any (fun l => usable t m 3 (fMac l.mac)) | none => false
    | none => false
  if it.kind = 14 ∧ it.key = 64 then false
  else if isSurface it.kind then
    it.ch != 0 && !usable t m 0 (it.ch - 1) && !(t.migs.any (fun g => g.item == it.id && g.toCh != 0 && decide (2 ≤ g.stage) && usable t m 0 (g.toCh - 1)))
  else if it.kind = 7 then
    match srcDesc it.key d with
    | some s => match (s.rx.filter (fun x => x.kind != 6))[it.slot]? with | some x => !x.legs.any (fun l => usable t m 3 (fMac l.mac)) | none => false
    | none => false
  else if it.kind = 8 then macs (dstDesc it.key d) it.slot
  else if it.kind = 9 then !usable t m 3 fGather
  else if it.kind = 10 then t.away.contains (it.via.getD 1 0) || t.away.contains (it.via.headD 0)
  else if it.kind = 11 then decide (it.key < 65536) && !usable t m 3 (fHead (it.via.headD 0))
  else false

/-- Mark what lacks its resource, and what reads such a surface. -/
def markDead (t : Tlr) (d : Dev) : Tlr :=
  let t := { t with items := t.items.map (fun (it : TItem) => { it with dead := it.dead || lacksResource t it d }) }
  { t with items := t.items.map (fun (it : TItem) => { it with dead := it.dead || ((it.kind == 3 || it.kind == 4 || it.kind == 5 || it.kind == 15) && (itemOf t it.surf).dead) }) }

/-- A user holds something that is dead. -/
def holdsDead (t : Tlr) (user : Nat) : Bool := t.items.any (fun it => it.dead && it.users.any (fun u => u.1 == user && u.2.1 == 0))

/-- A path whose items died, or whose destination cannot run, is placed again, or becomes unplaced. -/
def rePath (t : DstDesc) (role : Nat) (p : Plan) (d : Dev) : Plan :=
  let td := tdest t.num p.t
  let x := if role = 1 then td.prim else td.prot
  let hit := holdsDead p.t (userDst t.num role) || holdsDead p.t (userDst t.num 0) || !dstUsable t td.fam p d
  match srcDesc x.src d with
  | some s => if x.placed && hit then (match attempt t role s none p d with | .ok q => q | .error _ => strand t role s p d) else p
  | none => p

/-- Everything of a destination that lost its resource. -/
def reDst (t : DstDesc) (p : Plan) (d : Dev) : Plan :=
  let td := tdest t.num p.t
  let sp := dstSwitch t td.fam td.fmt p.at_ d
  let p := rePath t 2 (rePath t 1 p d) d
  let user := userDst t.num 3
  let p := if holdsDead p.t user then
      (match holdFor t (setTdest t.num (tdest t.num p.t) (releaseUser user p.at_ d p)) d with
       | .ok q => q
       | .error _ => setTdest t.num { tdest t.num p.t with holdDown := true } (releaseUser user sp d p))
    else p
  forEach td.shuf (fun x p =>
    if x.2.2 && (holdsDead p.t (userShuffle t.num x.1) || !dstUsable t td.fam p d) then
      match srcDesc x.2.1 d with
      | some s => (match attemptShuffle t x.1 s sp p d with
                   | .ok q => q
                   | .error _ => putShuffle t.num x.1 (some (x.2.1, false)) (releaseUser (userShuffle t.num x.1) sp d p))
      | none => p
    else p) p

/-- A layer that lost its resource. -/
def reLayer (k : Nat) (p : Plan) (d : Dev) : Plan :=
  let x := tlayer k p.t
  let user := userLayer (k / 512) (k % 512)
  let sw := boundaryAfter (famPeriod (x.words.getD 15 0) d) p.at_
  if x.placed ∧ (holdsDead p.t user ∨ !usable p.t (k / 512) 3 (fHead (x.words.getD 14 0))) then
    match buildLayer (k / 512) (k % 512) x.words (setAside user p) d with
    | .ok q => setTlayer k x (endAside user sw d q)
    | .error _ => setTlayer k { x with placed := false, unplaced := decide (x.words.getD 18 0 = 0) } (releaseUser user sw d p)
  else p

/-- Permanent holders of dead items (receive entries of a resident flow, overlays) give them up, to get others (R168, R334). -/
def dropPermanent (p : Plan) (d : Dev) : Plan :=
  forEach (p.t.items.filter (fun it => it.dead && lasting it)) (fun it p =>
    forEach (it.users.filter (fun u => u.2.1 == 0 && decide (userPermanent ≤ u.1))) (fun u p =>
      modItem it.id (fun x => { x with users := x.users.map (fun v => if v.1 = u.1 ∧ v.2.1 = 0 then (v.1, tFresh + max 1 (releaseNib x p.at_ d), v.2.2) else v) }) p) p) p

/-- Resources as a health record states them. -/
def setUsable (kind m num value : Nat) (t : Tlr) (d : Dev) : Tlr :=
  if kind = 1 then
    let t := { t with lanes := tabSet 0 t.lanes (64 * m + num) value }
    match (fabMember m d).links.find? (fun l => l.link == num) with
    | some l =>
      let lost := value == 0 && (fabMember l.peer d).links.all (fun k => lanesInto t k.peer k.peerLink == 0)
      if lost && !t.away.contains l.peer && decide (roleOf d ≠ 0) then { t with away := t.away ++ [l.peer] } else t
    | none => t
  else if kind = 2 then { t with away := if value = 0 then (if t.away.contains num then t.away else t.away ++ [num]) else t.away.filter (fun x => x != num) }
  else
    let k := resKey m kind num
    { t with up := if value = 0 then t.up.filter (fun x => x != k) else if t.up.contains k then t.up else t.up ++ [k] }

/-- Seam paths that a link of a member no longer carries, beyond those that fit in the order of R167 (R424). -/
def overLoaded (m link : Nat) (p : Plan) (d : Dev) : List TItem :=
  let into := fun (it : TItem) => match it.via with
    | [b, s, _, ls, _, lb, _, _, _, _] => (s == m && ls == link) || (b == m && lb == link)
    | _ => false
  let its := sortBy (fun it => streamOrder it d) (p.t.items.filter (fun it => it.kind == 10 && lasting it && !it.dead && into it))
  let cap := 100800000000 * lanesInto p.t m link
  (its.foldl (fun (acc : List TItem × Nat) it => if acc.2 + it.load ≤ cap then (acc.1, acc.2 + it.load) else (acc.1 ++ [it], acc.2)) ([], 0)).1

/-- A Seam re-place migration of a path to another spine that meets every Do, else the path counts as lost to its destinations. -/
def replaceSeam (a : Nat) (it : TItem) (p : Plan) (d : Dev) : Plan :=
  let dead := modItem it.id (fun x => { x with dead := true }) p
  if !movable p it then (if migrating p.t it.id then p else dead)
  else
    match chooseSpine p it.member (it.via.headD 0) it.width it.load 65535 d with
    | .error _ => dead
    | .ok via =>
      let fits := match srcDesc it.key d with
        | some s =>
          let sea := seamLatency s via d
          it.users.all (fun u => u.2.1 != 0 || decide (2 ^ 18 ≤ u.1) || (match dstDesc (u.1 / 4) d with
            | some t => (match insertion s t (tdest t.num p.t).fam (tdest t.num p.t).fmt sea d with
                | .ok x => x.kind == (if u.1 % 4 = 1 then (tdest t.num p.t).prim.kind else (tdest t.num p.t).prot.kind)
                | .error _ => false)
            | none => true))
        | none => false
      if fits then addMig a { item := it.id, via := via } p d else dead

/-- Migrations that a failed resource aborts: their target is unusable before C (R166). -/
def abortedMigs (t : Tlr) : List Mig :=
  t.migs.filter (fun g => g.toCh != 0 && g.stage != 3 && !usable t (itemOf t g.item).member 0 (g.toCh - 1))

/-- Apply a health record at the present instant (R168). -/
def applyHealth (r : HealthRec) (d : Dev) : Dev :=
  let now := nibOf d.ntw
  let old := d.tlr
  let t := setUsable r.kind r.member r.num r.value old d
  let gone := abortedMigs t
  let t := { t with migs := t.migs.filter (fun g => !gone.contains g) }
  let p := beginPlan now { d with tlr := markDead t d }
  let p := if r.kind = 1 then forEach (overLoaded r.member r.num p d) (fun it p => replaceSeam now it p d) p else p
  let p := forEach (dstOrder d) (fun t p => reDst t p d) p
  let p := forEach (layerOrder p.t) (fun q p => reLayer q.1 p d) p
  let p := dropPermanent p d
  let d := finishInput now true p d
  let d := if gone.isEmpty then d else fire 82 (count TLR_MIG_CNT_aborted [] gone.length (wr TLR_STATUS_mig_abort [] 1 d))
  let d := settle (fire 84 d)
  let d := forEach (changedPlaces old d) applyOrQueue d
  applyLayers old none d

/-- Before the start-up input a record only states the resource's usability; there is no map to change (R146, R475). -/
def healthQuiet (r : HealthRec) (d : Dev) : Dev := { d with tlr := setUsable r.kind r.member r.num r.value d.tlr d }

/-- A health record this device has to index: it is given its index and announced (R147). -/
def indexHealth (r : HealthRec) (d : Dev) : HealthRec × Dev :=
  let i := d.sea.applied + 1
  ({ r with own := false, index := i }, noteInput i (nibOf r.at_) (.health r.member r.kind r.num r.value) true d)

/-- The upstream that leads to the acting master. -/
def towardsMaster (d : Dev) : Option Nat := if rdB SEA_TIME_up_valid [] d then some (rd SEA_TIME_upstream [] d) else none

/-- The oldest health record: a member that does not sequence inputs forwards its own to the acting master; otherwise it is applied at its E. -/
def evacuation (d : Dev) : Dev :=
  match d.health with
  | [] => d
  | r :: rest =>
    if r.own && !sequences d then
      match towardsMaster d with
      | some n => sendMsg n (.forward (.health r.member r.kind r.num r.value)) { d with health := rest }
      | none => d
    else if !d.tlr.started then healthQuiet r { d with health := rest }
    else
      let (r, d) := if r.own then indexHealth r { d with health := rest } else (r, { d with health := rest })
      let d := applyHealth r (advanceTo r.at_ d)
      if r.index = 0 then d else markInput r.index (nibOf r.at_) d

/-- Health records that precede the next input in the order are applied first (R147). -/
def drainHealth (d : Dev) : Dev := forUpTo d.health.length (fun _ d => match d.health with | r :: _ => if r.own && !sequences d then d else evacuation d | [] => d) d

/-! ### Salvos -/

/-- An answer goes to the member that posted a salvo or committed a layer. -/
def answer (member slot code firstBad at_ : Nat) (d : Dev) : Dev := sendAllBut none (.forward (.answer member slot code firstBad at_ 2)) d

/-- A salvo is refused with a code (R118, R119). -/
def refuseSalvo (q : Posted) (code firstBad : Nat) (d : Dev) : Dev :=
  let d := if q.member = selfMember d then setRes q.bank code firstBad false false d else answer q.member q.bank code firstBad 0 d
  fire 64 (wr XPT_STATUS_refused [] 1 d)

/-- Permanent holds as (item, user) pairs. -/
def holdPairs (t : Tlr) : List (Nat × Nat) := t.items.flatMap (fun it => (it.users.filter (fun u => u.2.1 == 0)).map (fun u => (it.id, u.1)))

/-- The salvo is accepted at the present instant with its L and flags: the map, the queue and its result. -/
def queueSalvo (q : Posted) (xs : List Rec) (l : Nat) (late deferred : Bool) (index : Nat) (p : Plan) (d : Dev) : Dev :=
  let a := nibOf d.ntw
  let old := d.tlr
  let d := finishInput a false p d
  let was := holdPairs old
  let now := holdPairs d.tlr
  let own := q.member == selfMember d
  let tag := salvoTag q.salvo
  let touched := (xs.map (·.dst)).eraseDups
  let e : QSalvo := { member := q.member, bank := q.bank, tag := tag, index := index, accepted := a, launch := l, late := late, recs := xs
                      places := changedPlaces old d, before := touched.map (fun n => (n, tdest n old))
                      added := now.filter (fun x => !was.contains x), ended := was.filter (fun x => !now.contains x)
                      migs := (d.tlr.migs.filter (fun g => !migrating old g.item)).map (·.item) }
  let d := showQueue { d with xpt := { d.xpt with queue := d.xpt.queue ++ [e], accepted := true } }
  let d := wr XPT_SEQ_seq [] ((xs.getLast?.map (·.seq)).getD 0) d
  let d := if late then fire 48 (count DUC_LATE_CNT_late [] 1 (wr DUC_STATUS_late [] 1 d)) else d
  let d := if deferred then wr DUC_STATUS_deferred [] 1 d else d
  let d := if own then
      setRes q.bank 0 0x1FFF late deferred (wr XPT_MBX_A_ntw [q.bank] (ntwWord (unitsOfNib a)) (wr XPT_MBX_L_ntw [q.bank] (ntwWord (unitsOfNib l)) d))
    else d
  applyLayers old none d

/-- The decision of a device that sequences inputs on the salvo in hand, at the present instant (R118). -/
def decideSalvo (q : Posted) (d : Dev) : Dev :=
  let s := q.salvo
  let a := nibOf d.ntw
  match d.sea.kept.find? (fun k => match k.2.2 with | .salvo _ _ _ x => roleOf d != 0 && (x.recs.headD {}).w0 == (s.recs.headD {}).w0 && x.recs == s.recs | _ => false) with
  | some (_, l, _) =>
    if q.member = selfMember d then setRes q.bank 0 0x1FFF false false (wr XPT_MBX_L_ntw [q.bank] (ntwWord (unitsOfNib l)) d) else answer q.member q.bank 0 0x1FFF l d
  | none =>
    match checkSalvo s q.at_ d with
    | some (c, i) => refuseSalvo q c i d
    | none =>
      let xs := s.recs.map recOf
      let lr := (requestedAt s q.at_ d).getD a
      let (l0, late) := launchInstant s xs lr a d
      let l := max l0 (lastLaunch d)
      match planSalvo a xs (beginPlan l d) d with
      | .error (i, e) => refuseSalvo q e.code i (showRefusal e i d)
      | .ok p =>
        if 4096 < rd DUC_QUEUE_used [] d + xs.length then refuseSalvo q 4 0x1FFF d
        else if salvoStrict s ∧ late then refuseSalvo q 5 0x1FFF (fire 49 (count DUC_LATE_CNT_refused [] 1 (wr DUC_STATUS_refused_late [] 1 d)))
        else
          let index := d.sea.applied + 1
          let d := queueSalvo q xs l late (decide (l0 < l)) index p d
          markInput index l (noteInput index l (.salvo q.member q.bank (nibOf q.at_) s) true d)

/-- A member places an announced salvo (R98, R99). -/
def followSalvo (q : Posted) (index l : Nat) (d : Dev) : Dev :=
  let xs := q.salvo.recs.map recOf
  let a := nibOf d.ntw
  let own := q.member == selfMember d
  if l < a + salvoLead xs d then
    let d := fire 50 (wr DUC_STATUS_fabric_missed [] 1 d)
    if own then setRes q.bank 5 0x1FFF false false d else d
  else
    match planSalvo a xs (beginPlan l d) d with
    | .ok p => queueSalvo q xs l false false index p d
    | .error (i, e) => let d := showRefusal e i d; if own then setRes q.bank e.code i false false d else d

/-- The longest decision time in µs (R151). -/
def decisionBound (records migs : Nat) : Nat := 50 + 4 * records + 20 * migs

/-- The Tailor completes its decision on the next salvo in doorbell order, `us` microseconds after it was the next input. A device that does
not sequence inputs forwards it (R96). -/
def salvoAcceptance (us : Nat) (d : Dev) : Dev :=
  if !d.tlr.started || inSafe d then d
  else
    match d.xpt.posted with
    | [] => d
    | q :: rest =>
      if !sequences d then
        match towardsMaster d with
        | some n => sendMsg n (.forward (.salvo q.member q.bank (nibOf q.at_) q.salvo)) { d with xpt := { d.xpt with posted := rest } }
        | none => d
      else
        let d := drainHealth d
        let us := min us (decisionBound (salvoCount q.salvo) 64)
        let d := advanceTo (max q.at_ d.xpt.decidedAt + unitsOfNib (us * 52920)) d
        let d := { d with xpt := { d.xpt with posted := rest, decidedAt := d.ntw } }
        showPlaceTime us (decideSalvo q d)

/-! ### Layer inputs (R346 to R348) -/

/-- The placement settings that a layer's shadow registers give. -/
def layerInputWords (l : Nat) (d : Dev) : List Nat :=
  let f := fun (x : Fld) => rd x [l] d
  let h := (layerHead l d).getD 99
  [f QLT_SH_CFG_en, f QLT_SH_SRC_src, f QLT_SH_SRC_key, f QLT_SH_CROP_XY_cx, f QLT_SH_CROP_XY_cy, f QLT_SH_CROP_WH_cw, f QLT_SH_CROP_WH_ch,
   f QLT_SH_RECT_XY_rx, f QLT_SH_RECT_XY_ry, f QLT_SH_RECT_WH_rw, f QLT_SH_RECT_WH_rh, f QLT_SH_CFG_filter, f QLT_SH_CFG_field,
   rd QLT_BANK_CFG_nv [f QLT_SH_CFG_bank] d, h, rd QLT_HEAD_FMT_fam [h] d, rd QLT_HEAD_FMT_fmt [h] d, rd QLT_HEAD_FMT_gang [h] d, if inPool h d then 1 else 0]

/-- The latch of a layer input accepted at a nib (R347). -/
def inputLatch (w : List Nat) (a : Nat) (d : Dev) : Nat := a + 2 * linePeriod (fmtOf (w.getD 16 0) d) (famPeriod (w.getD 15 0) d) + 52920

/-- A layer input accepted at the present instant with its latch. -/
def applyLayerInput (m l : Nat) (w : List Nat) (index latch : Nat) (announce : Bool) (p : Plan) (d : Dev) : Dev :=
  let a := nibOf d.ntw
  let old := d.tlr
  let d := finishInput a false p d
  let d := markInput index (layerLands m l w a (beginPlan latch d) d) (noteInput index latch (.layer m l w) announce d)
  let d := applyLayers old (if m = selfMember d then some l else none) d
  if m = selfMember d then
    setLayerRun l { layerRun l d with input := false, latch := latch, next := layerPlaceOf d.tlr l d } d
  else d

/-- A refusal of a layer input. -/
def refuseLayer (m l : Nat) (e : TRef) (d : Dev) : Dev :=
  let d := showRefusal e 0xFFF d
  if m = selfMember d then layerRefused l e.code d else answer m (2 + l) e.code 0 0 d

/-- The Tailor decides a layer input in hand. -/
def decideLayer (m l : Nat) (w : List Nat) (us : Nat) (d : Dev) : Dev :=
  let us := min us (decisionBound 1 0)
  let d := advanceTo (d.ntw + unitsOfNib (us * 52920)) d
  let d := showPlaceTime us { d with xpt := { d.xpt with decidedAt := d.ntw } }
  let a := nibOf d.ntw
  let latch := inputLatch w a d
  match placeLayer m l w a (beginPlan latch d) d with
  | .error e => refuseLayer m l e d
  | .ok p => applyLayerInput m l w (d.sea.applied + 1) latch true p d

/-- The next layer input: one forwarded to this device, else the commit of layer l. -/
def layerInput (l us : Nat) (d : Dev) : Dev :=
  if !d.tlr.started || inSafe d then d
  else
    let d := drainHealth d
    match d.tlr.layerIn with
    | (m, k, w) :: rest => decideLayer m k w us { d with tlr := { d.tlr with layerIn := rest } }
    | [] =>
      if !(layerPending l d && (layerRun l d).input) then d
      else if sequences d then decideLayer (selfMember d) l (layerInputWords l d) us d
      else
        match towardsMaster d with
        | some n => sendMsg n (.forward (.layer (selfMember d) l (layerInputWords l d))) d
        | none => d

/-! ### Migrations under way (R165, R166) -/

/-- The earliest of some migrations by an instant. -/
def earliest (key : Mig → Nat) (gs : List Mig) : Option Mig :=
  match gs with
  | [] => none
  | g :: rest => some (rest.foldl (fun b x => if key x < key b then x else b) g)

def setMig (g g' : Mig) (d : Dev) : Dev := { d with tlr := { d.tlr with migs := d.tlr.migs.map (fun x => if x = g then g' else x) } }

/-- What a migration needs of this device lies on it. -/
def migHere (it : TItem) (d : Dev) : Bool := isOurs it d

/-- At W both locations are written or fed. -/
def dualWriteStart (d : Dev) : Dev :=
  match earliest (·.w) (d.tlr.migs.filter (fun g => g.stage == 1)) with
  | none => d
  | some g =>
    if inSafe d then d
    else
      let d := advanceTo (unitsOfNib g.w) d
      let it := itemOf d.tlr g.item
      let d := setMig g { g with stage := 2 } d
      if !migHere it d then d
      else if !g.via.isEmpty then applySeam { it with via := g.via } true d
      else if g.toCh = 0 ∧ it.kind = 0 then (match srcDesc it.key d with | some s => occupy it.key g.toUnit it.width (slotProducer s) d | none => d)
      else d

/-- Placements that a migration moved are shown and used. -/
def refreshPlaces (old : Tlr) (d : Dev) : Dev := applyLayers old none (forEach (changedPlaces old d) applyOrQueue d)

/-- At C readers switch to the new location. -/
def migrationCompletion (d : Dev) : Dev :=
  match earliest (·.c) (d.tlr.migs.filter (fun g => g.stage == 2)) with
  | none => d
  | some g =>
    if inSafe d then d
    else
      let d := advanceTo (unitsOfNib g.c) d
      let old := d.tlr
      let it := itemOf d.tlr g.item
      let put := fun (f : TItem → TItem) (d : Dev) => { d with tlr := { d.tlr with items := d.tlr.items.map (fun x => if x.id = it.id then f x else x) } }
      let d := count TLR_MIG_CNT_done [] 1 d
      let here := migHere it d
      let d := if g.toCh ≠ 0 then
          let d := put (fun x => { x with ch := g.toCh, bank := g.toBank }) (setMig g { g with toCh := it.ch, toBank := it.bank, stage := 3 } d)
          if here then setSurf it.unit { surfOf it.unit d with failed := false } (wr INK_SURF_ch [it.unit] (g.toCh - 1) (wr INK_SURF_bank [it.unit] g.toBank d)) else d
        else if !g.via.isEmpty then put (fun x => { x with via := g.via, unit := g.via.getD 9 0 }) (setMig g { g with via := it.via, stage := 3 } d)
        else
          let u := if it.kind = 2 then it.slot else it.unit
          let d := put (fun x => if x.kind = 2 then { x with slot := g.toUnit } else { x with unit := g.toUnit }) (setMig g { g with toUnit := u, stage := 3 } d)
          if here && it.kind == 2 then wr INK_SURF_src_slot [it.unit] g.toUnit d else d
      refreshPlaces old d

/-- A migration that waits takes the place of one that ended (R165). -/
def nextWaiting (d : Dev) : Dev :=
  match d.tlr.migs.find? (fun g => g.stage == 0) with
  | some g => if inFlight d.tlr < 64 then setMig g (timedMig (nibOf d.ntw) g (itemOf d.tlr g.item) d) d else d
  | none => d

/-- At C + P the old location is released. -/
def migrationRelease (d : Dev) : Dev :=
  match earliest (·.endAt) (d.tlr.migs.filter (fun g => g.stage == 3)) with
  | none => d
  | some g =>
    let d := advanceTo (unitsOfNib g.endAt) d
    let it := itemOf d.tlr g.item
    let d := { d with tlr := { d.tlr with migs := d.tlr.migs.filter (fun x => x != g) } }
    let d := if !migHere it d then d
      else if !g.via.isEmpty then applySeam { it with via := g.via } false d
      else if g.toCh = 0 ∧ it.kind = 0 then vacate g.toUnit it.width d
      else d
    nextWaiting d

/-- On leaving safe state migrations that had not reached C begin anew (R166). -/
def restartMigs (d : Dev) : Dev :=
  let now := nibOf d.ntw
  { d with tlr := { d.tlr with migs := d.tlr.migs.map (fun g => if g.stage = 1 ∨ g.stage = 2 then timedMig now g (itemOf d.tlr g.item) d else g) } }

/-! ### Releases and withdrawal (R22, R154) -/

/-- The earliest release instant that has still to come to effect. -/
def nextRelease (d : Dev) : Option Nat :=
  (d.tlr.items.flatMap (fun it => if it.users.any (fun u => u.2.1 == 0) then [] else [it.users.foldl (fun m u => max m u.2.1) 0])).foldl
    (fun acc t => match acc with | none => some t | some u => some (min t u)) none

/-- At R what was released returns to its pool; a migration of it is cancelled (R154, R166). -/
def resourceRelease (d : Dev) : Dev :=
  match nextRelease d with
  | none => d
  | some t =>
    let d := settle (advanceTo (unitsOfNib t) d)
    { d with tlr := { d.tlr with migs := d.tlr.migs.filter (fun g => d.tlr.items.any (fun it => it.id == g.item)) } }

/-- The placement of a queued salvo is withdrawn (R22). -/
def withdraw (q : QSalvo) (d : Dev) : Dev :=
  let t := d.tlr
  let items := t.items.map (fun it =>
    let users := it.users.filter (fun u => !(u.2.1 == 0 && q.added.contains (it.id, u.1)))
    { it with users := users.map (fun u => if u.2.1 ≠ 0 ∧ q.ended.contains (it.id, u.1) then (u.1, 0, u.2.2) else u) })
  let epoch := rd TLR_EPOCH_epoch [] d + 1
  let t := { t with items := items, dests := q.before.foldl (fun acc x => tabSet {} acc x.1 { x.2 with epoch := epoch }) t.dests
                    migs := t.migs.filter (fun g => g.stage == 3 || !q.migs.contains g.item) }
  let d := wr TLR_EPOCH_epoch [] epoch { d with tlr := t }
  if q.member = selfMember d ∧ rd XPT_MBX_RES_state [q.bank] d = 2 then notExecuted q.bank q.tag d
  else fire 65 (wr XPT_STATUS_not_exec [] 1 (count XPT_NX_CNT_count [] 1 (wr XPT_NX_tag [] q.tag d)))

/-- At the entry into safe state: every queued salvo and every posted one is not executed (R22, R120, R449). -/
def dropSalvos (d : Dev) : Dev :=
  let queue := d.xpt.queue
  let posted := d.xpt.posted
  let d := forEach queue.reverse withdraw d
  let d := settle { d with xpt := { d.xpt with queue := [], posted := [] } }
  let d := forEach posted (fun q d => if q.member = selfMember d then notExecuted q.bank (salvoTag q.salvo) d else answer q.member q.bank 1 0x1FFF 0 d) d
  showQueue d

/-- At L: what the salvo reserved takes effect, and its takes are applied (R82, R88). -/
def launchSalvos (d : Dev) : Dev :=
  match d.xpt.queue with
  | [] => d
  | q :: _ => if inSafe d then d else launch (settle (advanceTo (unitsOfNib q.launch) d))

/-- After a step of the NTW: queued salvos whose L has passed are late, whatever their strict bit says (R89). -/
def lateByStep (d : Dev) : Dev :=
  let hit := d.xpt.queue.filter (fun q => !q.late && decide (q.launch ≤ nibOf d.ntw))
  if hit.isEmpty then d
  else
    let d := { d with xpt := { d.xpt with queue := d.xpt.queue.map (fun q => if q.launch ≤ nibOf d.ntw then { q with late := true } else q) } }
    let d := fire 48 (count DUC_LATE_CNT_late [] hit.length (wr DUC_STATUS_late [] 1 d))
    forEach (hit.filter (fun q => q.member == selfMember d && rd XPT_MBX_RES_state [q.bank] d == 2)) (fun q d => withRes q.bank (wr XPT_MBX_RES_late [q.bank] 1) d) d

end Sys2Proof.Machine
end

