-- ==== Sys2Proof/Machine/StartUp.lean ====
section
/-! DEFINITION. The start-up input: resident items, layers, and what the route memory restores (R144, R475, R477, R478 to R480, R584). -/

namespace Sys2Proof.Machine

/-! ### The route memory of the booted slot (R478 to R480, R515) -/

/-- A slot of the flash: 0 A, 1 B. -/
def slotOf (k : Nat) (d : Dev) : Slot := if k = 0 then d.nv.slotA else d.nv.slotB
def setSlot (k : Nat) (x : Slot) (d : Dev) : Dev :=
  { d with nv := if k = 0 then { d.nv with slotA := x } else { d.nv with slotB := x } }

/-- The slot that runs. -/
def bootSlot (d : Dev) : Nat := rd TOP_BOOT_ST_slot [] d
def routeOf (d : Dev) : Route := (slotOf (bootSlot d) d).route
def setRoute (x : Route) (d : Dev) : Dev := setSlot (bootSlot d) { slotOf (bootSlot d) d with route := x } d

/-- Byte i of an update header held as 64 words, byte 4r in bits [31:24] of word r; big-endian fields of it (R494, R526). -/
def hdrByte (h : List Nat) (i : Nat) : Nat := h.getD (i / 4) 0 / 256 ^ (3 - i % 4) % 256
def hdrField (h : List Nat) (i n : Nat) : Nat := (List.range n).foldl (fun acc k => 256 * acc + hdrByte h (i + k)) 0

/-- The settings formats that the running firmware reads, and the one it writes (R494, R515). -/
def runningHdr (d : Dev) : List Nat := ((slotOf (bootSlot d) d).fw.map (·.hdr)).getD []
def writesFormat (d : Dev) : Nat := hdrField (runningHdr d) 0x2A 2
def readsFormat (f : Nat) (d : Dev) : Bool :=
  (slotOf (bootSlot d) d).fw.isNone || decide (hdrField (runningHdr d) 0x26 2 ≤ f ∧ f ≤ hdrField (runningHdr d) 0x28 2)

/-- The last durable take sequence number (R479). -/
def lastDurable (r : Route) : Nat := ((((r.items.filter (fun x => x.kind == 0)).getLast?).map (fun x => x.data.headD 0))).getD 0

/-! ### Settings (R480) -/

/-- Pairs of a flat list. -/
def pairsOf (xs : List Nat) : List (Nat × Nat) :=
  match xs with
  | a :: b :: rest => (a, b) :: pairsOf rest
  | _ => []

/-- Restored layer settings stand in both the shadow and the active registers. -/
def restoreLayer (l : Nat) (ws : List Nat) (d : Dev) : Dev :=
  let fs := placementFields ++ otherFields
  let value := fun (p : Fld × Fld) => ws.getD (fs.findIdx (fun q => q.1.no == p.1.no)) 0
  let d := forEach fs (fun p d => wr p.1 [l] (value p) (wr p.2 [l] (value p) d)) d
  forEach ((List.range 8).zip (ws.drop fs.length)) (fun q d =>
    wr QLT_SH_MCH_even [l, q.1] (q.2 % 65536) (wr QLT_AC_MCH_even [l, q.1] (q.2 % 65536)
      (wr QLT_SH_MCH_odd [l, q.1] (q.2 / 65536) (wr QLT_AC_MCH_odd [l, q.1] (q.2 / 65536) d)))) d

/-- The fields of banks and colour programs. -/
def bankFlds : List Fld :=
  [QLT_BANK_H_tap_even, QLT_BANK_H_tap_odd, QLT_BANK_V_tap_even, QLT_BANK_V_tap_odd, QLT_BANK_CFG_nh, QLT_BANK_CFG_nv, QLT_LUT1_value, QLT_LUT2_value,
   QLT_MAT_value, QLT_OFS_value]

/-- Restored contents of a bank or colour program. -/
def restoreBank (prog : Bool) (k : Nat) (ws : List Nat) (d : Dev) : Dev :=
  let inside := fun (key : Nat) =>
    bankFlds.any (fun f => f.no == keyNo key) && (bankRanges prog k).any (fun r => decide (r.1 ≤ regAddr key ∧ regAddr key < r.2))
  { d with regs := ((pairsOf ws).filter (fun q => inside q.1)).foldl (fun t q => tabSet 0 t q.1 q.2) (d.regs.filter (fun p => !inside p.1)) }

/-- Restored Gather settings. -/
def restoreGather (ws : List Nat) (d : Dev) : Dev :=
  match ws with
  | 0 :: node :: w :: _ => putGain node w d
  | 1 :: ob :: cs =>
    let d := forEach ((List.range 5).zip cs) (fun q d => wr GTH_BQ_coef [ob / 4, ob % 4, q.1] q.2 d) d
    setGth { d.gth with bqs := tabMod {} d.gth.bqs ob (fun r => { r with coef := cs }) } d
  | 2 :: o :: c :: _ =>
    let d := wr GTH_OUT_CFG_scale [o] (c % 16) (wr GTH_OUT_CFG_ll [o] (c / 16 % 2) (wr GTH_OUT_CFG_bq_en [o] (c / 256) d))
    let d := forUpTo 4 (fun b d => setBq o b { bq o b d with en := Nat.testBit (c / 256) b } d) d
    setGout o { gout o d with mode := c % 16, ll := decide (c / 16 % 2 = 1) } d
  | _ => d

/-- Restored TDM masks. -/
def restoreMask (ws : List Nat) (d : Dev) : Dev :=
  match ws with
  | [p, rx, tx] => wr APT_TDM_RXMASK_mask [p] rx (wr APT_TDM_RXMASK_ACT_mask [p] rx (wr APT_TDM_TXMASK_mask [p] tx (wr APT_TDM_TXMASK_ACT_mask [p] tx d)))
  | _ => d

/-- Apply a restored item that is no record. -/
def restoreItem (x : JItem) (d : Dev) : Dev :=
  match x.kind, x.data with
  | 1, l :: ws => restoreLayer l ws d
  | 2, c :: k :: ws => restoreBank (c == 1) k ws d
  | 3, ws => restoreGather ws d
  | 4, ws => restoreMask ws d
  | _, _ => d

/-! ### The map at start-up -/

/-- This device's own resources as they stand. -/
def ownResources (t : Tlr) (d : Dev) : Tlr :=
  let m := selfMember d
  let mine := (List.range 165).filter (fun k => running k d && !(decide (113 ≤ k) && decide (k < 137)))
  let keys := mine.map (fun k => if 137 ≤ k ∧ k < 149 then resKey m 0 (k - 137) else resKey m 3 k)
  let t := { t with up := t.up.filter (fun x => x / 65536 != m) ++ keys }
  forUpTo 24 (fun n (t : Tlr) => { t with lanes := tabSet 0 t.lanes (64 * m + n) (seaLink n d).reported }) t

/-- A destination as the Pattern gives it. -/
def patternDest (x : DstDesc) : TDest :=
  { policy := x.policy, secondary := x.secondary, revert := if x.revert then 1 else 0, revertFrames := x.revertFrames
    fam := x.fam, fmt := x.fmt, prot := { src := x.prot } }

/-- A record that cannot be placed leaves what it names unplaced (R480). -/
def strandRecord (x : Rec) (p : Plan) (d : Dev) : Plan :=
  match dstDesc x.dst d with
  | none => p
  | some t =>
    let td := tdest t.num p.t
    let lay := fun (role src : Nat) (p : Plan) => match srcDesc src d with | some s => strand t role s p d | none => p
    if x.type = 0 then lay 1 x.src p
    else if x.type = 1 then
      lay 2 x.src (setTdest t.num { td with policy := x.policy, secondary := x.secondary, revert := x.revert, revertFrames := x.revertFrames } p)
    else if x.type = 2 then putShuffle t.num x.dstCh (some (x.src, false)) p
    else
      let p := setTdest t.num { td with fam := x.fam, fmt := x.fmt } p
      let p := if td.prim.placed ∨ td.prim.unplaced then lay 1 td.prim.src p else p
      if td.prot.placed ∨ td.prot.unplaced then lay 2 td.prot.src p else p

/-- What replaying the records leaves: the map, the device, how many were restored and dropped, and the last restored sequence number. -/
structure Replay where
  p : Plan
  d : Dev
  restored : Nat := 0
  dropped : Nat := 0
  last : Nat := 0

/-- Replay one record (R480). -/
def replayRecord (w : List Nat) (r : Replay) : Replay :=
  let x := recOf { w0 := w.getD 0 0, w1 := w.getD 1 0, w2 := w.getD 2 0, w3 := w.getD 3 0 }
  if !(recDefined x r.d && recKindOk x r.d) then { r with dropped := r.dropped + 1 }
  else
    let p := match placeRecord x r.p r.d with | .ok q => q | .error _ => strandRecord x r.p r.d
    let d := putRecord x r.d
    let d := match localIndex x.dst d with | some i => applyFormat i (applyPolicy i d) | none => d
    { r with p := p, d := d, restored := r.restored + 1, last := x.seq }

/-- The layers that exist at start-up, by number, with their settings: this device's as its registers give them, others as the Pattern does. -/
def startLayers (d : Dev) : List (Nat × List Nat) :=
  let m := selfMember d
  let own := ((List.range 512).filter (fun l => rdB QLT_SH_CFG_en [l] d && (layerHead l d).isSome && !layerReserved l d)).map (fun l => (512 * m + l, layerInputWords l d))
  sortBy (·.1) (own ++ d.pat.layers.filter (fun q => q.1 / 512 != m))

/-- A layer at start-up: placed, or waiting. -/
def startLayer (k : Nat) (w : List Nat) (p : Plan) (d : Dev) : Plan :=
  match placeLayer (k / 512) (k % 512) w p.at_ p d with
  | .ok q => q
  | .error _ => setTlayer k { words := w, unplaced := decide (w.getD 18 0 = 0) } p

/-- The items that the Pattern makes resident, in the order of R584, then layers. -/
def residentPlan (p : Plan) (d : Dev) : Plan :=
  let p := forEach (sourceOrder d) (fun s p => placePermanent s p d) p
  let p := placeResidents (placeControl p d) d
  let p := forEach (placeMembers d) (fun m p => placeCapture m p d) p
  forEach (startLayers d) (fun q p => startLayer q.1 q.2 p d) p

/-- The map takes effect on this device as a whole. -/
def applyMap (d : Dev) : Dev :=
  let held := (d.tlr.items.filter (fun it => isSurface it.kind && it.member == selfMember d && it.ch != 0)).map (fun it => it.ch - 1)
  let d := settle (forEach held.eraseDups wakeChannel d)
  let d := forEach (localDsts d) (fun x d => applyPlace x.index (dstPlaceOf d.tlr x d) d) d
  applyLayers {} none d

/-- The items of the route memory a start-up restores from: none where it does not restore or its checkpoint is unusable. -/
def restoredItems (restore : Bool) (d : Dev) : List JItem :=
  if restore && (routeOf d).usable then (routeOf d).items else []

/-- The Tailor's planning state as a start-up lays it: the device's own resources, the Pattern's destinations. -/
def freshPlanner (d : Dev) : Tlr :=
  { ownResources { started := true, up := d.tlr.up, lanes := d.tlr.lanes, away := d.tlr.away } d with
    dests := d.pat.dests.foldl (fun acc x => tabSet {} acc x.num (patternDest x)) [] }

/-- The device before the restored records are replayed: the restored items other than records are in force, and the planner is fresh. -/
def beforeReplay (items : List JItem) (d : Dev) : Dev :=
  let d := forEach (items.filter (fun x => x.kind != 0)) restoreItem d
  { d with tlr := freshPlanner d, health := if sequences d then [] else d.health.filter (·.own) }

/-- The restored records replayed in order over a fresh plan. -/
def replayAll (items : List JItem) (d : Dev) : Replay :=
  forEach (items.filter (fun x => x.kind == 0)) (fun x r => replayRecord x.data r) { p := residentPlan (beginPlan (nibOf d.ntw) d) d, d := d }

/-- What a start-up leaves of the map: the settled plan applied, the epoch at 0, and what stays unplaced reported. -/
def settleStart (durable : Nat) (t : Tlr) (d : Dev) : Dev :=
  let d := { d with tlr := t }
  let d := wr TLR_EPOCH_epoch [] 0 (wr TOP_ROUTE_SEQ_durable_seq [] durable d)
  let d := if (strandedItems d.tlr d).isEmpty then d else fire 83 (wr TLR_STATUS_unplaced [] 1 d)
  applyMap d

/-- What a restoring start-up reports: the records restored and dropped, the last sequence number and the state of the route memory. -/
def noteRestore (usable : Bool) (r : Replay) (d : Dev) : Dev :=
  let d := { d with xpt := { d.xpt with accepted := decide (r.restored ≠ 0) }, sea := { d.sea with applied := 0, kept := [], waits := [], marks := [] } }
  let d := wr XPT_SEQ_seq [] r.last (wr TOP_ROUTE_CNT_restored [] r.restored (wr TOP_ROUTE_CNT_dropped [] r.dropped d))
  let d := forUpTo r.dropped (fun _ d => fire 261 d) (if r.dropped = 0 then d else wr TOP_STICKY_restore_drop [] 1 d)
  let d := wr TOP_BOOT_ST_restore_src [] (if usable then 0 else 1) d
  let d := if usable then d else fire 260 (wr TOP_STICKY_route_lost [] 1 d)
  markInput 0 0 d

/-- The start-up input. `restore`: records and settings come from this device's own route memory. -/
def startUp (restore : Bool) (d : Dev) : Dev :=
  let items := restoredItems restore d
  let r := replayAll items (beforeReplay items d)
  let started := settleStart (lastDurable (routeOf d)) (settleFresh r.p.t) r.d
  if restore then noteRestore (routeOf d).usable r started else started

end Sys2Proof.Machine
end

