-- ==== Sys2Proof/Machine/Fabric.lean ====
section
/-! DEFINITION. Fabrics and twins: messages between members, announced inputs, digests, state transfer, takeover (R96 to R100, R147, R429 to
R437, R477). -/

namespace Sys2Proof.Machine

/-! ### Announced inputs (R97 to R99, R147) -/

/-- P0: the frame period of FAM00 in nib. -/
def p0 (d : Dev) : Nat := famPeriod 0 d

/-- A member waits for the acting master's state. -/
def waitsForState (d : Dev) : Bool := rd TOP_BOOT_ST_phase [] d == 10 || d.sea.transfer != 0

/-- Apply an announced input in its turn. Health records take effect at their E; a salvo or layer input is decided at once (log entry 32). -/
def applyAnnounced (index at_ : Nat) (i : PInput) (d : Dev) : Dev :=
  match i with
  | .salvo m b posted s =>
    let d := noteInput index at_ i false (drainHealth d)
    markInput index at_ (followSalvo { member := m, bank := b, at_ := unitsOfNib posted, salvo := s } index at_ d)
  | .layer m l w =>
    let d := drainHealth d
    let a := at_ - inputLatch w 0 d
    (match placeLayer m l w a (beginPlan at_ d) d with
     | .ok p => applyLayerInput m l w index at_ false p d
     | .error e => markInput index at_ (showRefusal e 0xFFF (noteInput index at_ i false d)))
  | .health m kind num v =>
    noteInput index at_ i false { d with health := d.health ++ [{ kind := kind, num := num, member := m, value := v, at_ := unitsOfNib at_, index := index }] }
  | .answer .. => d

/-- Apply what waits as far as the indices run without a gap, and note since when one is missing (R147). -/
def applyWaiting (d : Dev) : Dev :=
  let one := fun (_ : Nat) (d : Dev) =>
    if waitsForState d || !d.tlr.started then d
    else
      match d.sea.waits.find? (fun x => x.1 == d.sea.applied + 1) with
      | some (k, at_, i) => applyAnnounced k at_ i { d with sea := { d.sea with waits := d.sea.waits.filter (fun x => x.1 != k) } }
      | none => d
  let d := forUpTo d.sea.waits.length one d
  let d := { d with sea := { d.sea with waits := d.sea.waits.filter (fun x => waitsForState d || decide (d.sea.applied < x.1)) } }
  if d.sea.waits.isEmpty || waitsForState d then { d with sea := { d.sea with gapAt := 0 } }
  else if d.sea.gapAt = 0 then { d with sea := { d.sea with gapAt := max 1 d.devTime } }
  else d

/-- An announcement arrives: a copy already seen is discarded; another is forwarded once and waits for its turn. -/
def announced (n index at_ : Nat) (i : PInput) (d : Dev) : Dev :=
  if index ≤ d.sea.applied || d.sea.waits.any (fun x => x.1 == index) then d
  else
    let d := sendAllBut (some n) (.announce index at_ i) d
    let d := count DUC_ANN_ST_rx [] 1 d
    let short := match i with | .salvo .. => decide (at_ < nibOf d.ntw + p0 d) | _ => false
    let d := if short then fire 51 (count DUC_ANN_ST_short [] 1 (wr DUC_STATUS_ann_short [] 1 d)) else d
    applyWaiting { d with sea := { d.sea with waits := d.sea.waits ++ [(index, at_, i)] } }

/-- An index that stays missing longer than 2 P0: the neighbours are asked, in ascending link number (R147, R431). -/
def gapTimeout (d : Dev) : Dev :=
  if d.sea.gapAt = 0 then d
  else
    let d := advanceDev (d.sea.gapAt + unitsOfNib (2 * p0 d)) d
    let d := sendAllBut none (.request (d.sea.applied + 1)) { d with sea := { d.sea with gapAt := max 1 d.devTime } }
    fire 85 (wr TLR_STATUS_gap [] 1 d)

/-! ### Forwarded inputs and answers (R96, R97, R120, R147) -/

/-- The master's answer to a salvo or layer of this member. -/
def takeAnswer (slot code firstBad at_ : Nat) (d : Dev) : Dev :=
  if slot < 2 then
    if !bankPosted slot d then d
    else if code = 0 then setRes slot 0 0x1FFF false false (wr XPT_MBX_L_ntw [slot] (ntwWord (unitsOfNib at_)) d)
    else if code = 1 then notExecuted slot (salvoTag (bankSalvo slot d)) d
    else fire 64 (wr XPT_STATUS_refused [] 1 (setRes slot code firstBad false false d))
  else if layerPending (slot - 2) d then layerRefused (slot - 2) code d
  else d

/-- A forwarded input arrives over link n: the device that sequences inputs takes it as its own, another passes it on. -/
def forwarded (n : Nat) (i : PInput) (d : Dev) : Dev :=
  match i with
  | .answer m slot code fb at_ hops =>
    if m = selfMember d then takeAnswer slot code fb at_ d
    else if hops = 0 then d
    else sendAllBut (some n) (.forward (.answer m slot code fb at_ (hops - 1))) d
  | _ =>
    if !sequences d then
      match towardsMaster d with
      | some up => sendMsg up (.forward i) d
      | none => d
    else
      match i with
      | .salvo m b _ s =>
        if inSafe d then answer m b 1 0x1FFF 0 d
        else { d with xpt := { d.xpt with posted := d.xpt.posted ++ [{ member := m, bank := b, at_ := d.ntw, salvo := s }] } }
      | .layer m l w => { d with tlr := { d.tlr with layerIn := d.tlr.layerIn ++ [(m, l, w)] } }
      | .health m kind num v =>
        let r : HealthRec := { kind := kind, num := num, member := m, value := v, at_ := d.ntw + unitsOfNib 2646000 }
        if !d.tlr.started then healthQuiet r d
        else
          let (r, d) := indexHealth r d
          { d with health := d.health ++ [r] }
      | .answer .. => d

/-! ### Digests (R432, R433, R435) -/

/-- 48 bytes in the opposite order. -/
def revBytes (n x : Nat) : Nat := (List.range n).foldl (fun acc k => 256 * acc + x / 256 ^ k % 256) 0

/-- The epoch and last sequence number after input n, with what the next snapshot may still need. -/
def marksAt (snap : Nat) (ms : List (Nat × Nat × Nat × Nat)) : Option (Nat × Nat) × List (Nat × Nat × Nat × Nat) :=
  let past := ms.takeWhile (fun m => decide (m.2.1 ≤ snap))
  match past.getLast? with
  | some m => (some (m.2.2.1, m.2.2.2), m :: ms.drop past.length)
  | none => (none, ms)

/-- The digest of R432 for a snapshot, byte 0 in its highest byte. -/
def digestAt (epoch seq : Nat) (d : Dev) : Nat :=
  Config.sha384 (beBytes 48 d.pat.digest ++ beBytes 4 (rd TOP_FW_VER_version [] d) ++ beBytes 8 epoch ++ beBytes 4 seq)

/-- A handover completes where the two digests agree (R435). -/
def handoverDone (n : Nat) (d : Dev) : Dev :=
  let named := rd SEA_FABRIC_master [] d
  let direct := (List.range 24).any (fun k => running (fSeam k) d && linkPeer k d == named)
  if d.sea.handover && selfActing d && (linkPeer n d == named || !direct) then
    followMaster named (wr SEA_CMD_ST_handover_done [] 1 { d with sea := { d.sea with handover := false } })
  else d

/-- A neighbour's digest of the latest snapshot is compared with this device's. -/
def compareDigest (n v : Nat) (d : Dev) : Dev :=
  let d := setSeaLink n { seaLink n d with digestSeen := true } d
  if v = revBytes 48 (rd SEA_DIGEST_digest [] d) then
    let d := wr SEA_LINK_ST_digest_ok [n] 1 d
    let peer := linkPeer n d
    let back := d.tlr.away.contains peer && !d.health.any (fun r => r.kind == 2 && r.num == peer && r.value == 1)
    handoverDone n (if back then raiseHealth 2 peer 1 d else d)
  else fire 245 (count SEA_DIGEST_CNT_mismatches [] 1 (wr SEA_STATUS_mismatch [] 1 (wr SEA_LINK_ST_digest_ok [n] 0 d)))

/-- A neighbour's digest arrives: for the latest snapshot, or ahead of this device's own. -/
def digestArrives (n v at_ : Nat) (d : Dev) : Dev :=
  let last := rd SEA_DIGEST_AT_ntw [] d
  if ntwWord (unitsOfNib at_) = last then compareDigest n v d
  else if d.ntw ≤ unitsOfNib at_ + unitsOfNib 5292000000 then setSeaLink n { seaLink n d with early := some (v, at_) } d
  else d

/-- The digest snapshot: every 100 ms (R90, R432). -/
def digestSnapshot (d : Dev) : Dev :=
  let d := atGrid 5292000000 0 3 d
  if roleOf d = 0 || !d.tlr.started then d
  else
    let snap := (tabGet 0 d.lastAt 3) / Config.fracPerNib
    let (m, rest) := marksAt snap d.sea.marks
    let (epoch, seq) := m.getD (rd TLR_EPOCH_epoch [] d, rd XPT_SEQ_seq [] d)
    let v := digestAt epoch seq d
    let d := wr SEA_DIGEST_digest [] (revBytes 48 v) (wr SEA_DIGEST_AT_ntw [] (ntwWord (unitsOfNib snap)) { d with sea := { d.sea with marks := rest } })
    let d := forUpTo 24 (fun n d => if running (fSeam n) d then setSeaLink n { seaLink n d with digestSeen := false } d else d) d
    let d := sendAllBut none (.digest v snap) d
    forUpTo 24 (fun n d => match (seaLink n d).early with
      | some (v, at_) => if at_ = snap then compareDigest n v (setSeaLink n { seaLink n d with early := none } d) else d
      | none => d) d

/-- 100 µs after a snapshot: a neighbour whose link is up and whose digest has not come (R432). -/
def digestTimeout (d : Dev) : Dev :=
  if tabGet 0 d.lastAt 3 = 0 || roleOf d = 0 then d
  else
    let d := advanceTo (tabGet 0 d.lastAt 3 + unitsOfNib 5292000) d
    forUpTo 24 (fun n d =>
      if rdB SEA_LINK_ST_up [n] d && !(seaLink n d).digestSeen then
        let d := setSeaLink n { seaLink n d with digestSeen := true } d
        fire 245 (count SEA_DIGEST_CNT_mismatches [] 1 (wr SEA_STATUS_mismatch [] 1 (wr SEA_LINK_ST_digest_ok [n] 0 d)))
      else d) d

/-! ### State transfer (R434, R477) -/

/-- The state as of this master's latest input. -/
def stateImage (d : Dev) : StateImage :=
  { digest := d.pat.digest, items := d.tlr.items.map (fun (it : TItem) => { it with live := false }), nextId := d.tlr.nextId, map := d.tlr.dests
    layers := d.tlr.layers, up := d.tlr.up, lanes := d.tlr.lanes, away := d.tlr.away, migs := d.tlr.migs, epoch := rd TLR_EPOCH_epoch [] d
    lastSeq := rd XPT_SEQ_seq [] d, accepted := d.xpt.accepted, index := d.sea.applied }

/-- A request for the master's state arrives. -/
def stateAsked (n : Nat) (d : Dev) : Dev :=
  if selfActing d then (if d.tlr.started then sendMsg n (.state (stateImage d)) d else d)
  else
    match towardsMaster d with
    | some up => sendMsg up .stateReq { d with sea := { d.sea with stateFor := d.sea.stateFor ++ [n] } }
    | none => d

/-- A transfer fails and changes nothing (R434). -/
def resyncFails (d : Dev) : Dev := wr SEA_CMD_ST_resync_fail [] 1 { d with sea := { d.sea with transfer := 0, image := none } }

/-- The master's state arrives. -/
def stateArrives (img : StateImage) (d : Dev) : Dev :=
  let d := forEach d.sea.stateFor (fun n d => sendMsg n (.state img) d) d
  let d := { d with sea := { d.sea with stateFor := [] } }
  if d.sea.transfer ≠ 1 then d
  else if img.digest ≠ d.pat.digest then resyncFails d
  else { d with sea := { d.sea with transfer := 2, image := some img, er := boundaryFrom (p0 d) (nibOf d.ntw + 2 * p0 d) } }

/-- A write of resync, or the transfer that a start begins by itself. -/
def askState (d : Dev) : Dev :=
  if d.sea.transfer ≠ 0 || roleOf d = 0 || selfActing d then d
  else
    match towardsMaster d with
    | some up => sendMsg up .stateReq { d with sea := { d.sea with transfer := 1 } }
    | none => d
def resync (d : Dev) : Dev :=
  if roleOf d ≠ 0 && !selfActing d && d.sea.transfer == 0 && (towardsMaster d).isNone then resyncFails d else askState d

/-- An item by where it lies, apart from its number and users. -/
def bareItem (it : TItem) : TItem := { it with id := 0, since := 0, live := false, dead := false, users := [] }

/-- A local destination's settings as a map gives them. -/
def takeDest (x : DstDesc) (td : TDest) (d : Dev) : Dev :=
  let i := x.index
  let d := wr XPT_DST_SRC_src [i] td.prim.src (wr XPT_DST_SRC_prot [i] td.prot.src d)
  let d := wr XPT_DST_POLICY_policy [i] td.policy (wr XPT_DST_POLICY_secondary [i] td.secondary (wr XPT_DST_POLICY_revert [i] td.revert
    (wr XPT_DST_POLICY_revert_frames [i] td.revertFrames (wr XPT_DST_FMT_fam [i] td.fam (wr XPT_DST_FMT_fmt [i] td.fmt d)))))
  let map := d.xpt.chmap.filter (fun p => p.1 / 64 != i)
  { d with xpt := { d.xpt with chmap := td.chans.foldl (fun t q => tabSet 0 t (64 * i + q.1) q.2) map } }

/-- The image takes effect as one input: items that it leaves where they are stay, others are given back. -/
def applyImage (img : StateImage) (d : Dev) : Dev :=
  let old := d.tlr.items.filter (fun it => it.live)
  let stays := fun (it : TItem) => old.any (fun o => bareItem o == bareItem it)
  let d := forEach (old.filter (fun o => !img.items.any (fun it => bareItem o == bareItem it))) freeItem d
  let items := img.items.map (fun (it : TItem) => { it with live := stays it })
  let t : Tlr := { started := true, items := items, nextId := img.nextId, dests := img.map, layers := img.layers, up := img.up
                   lanes := img.lanes, away := img.away, migs := img.migs }
  let queue := d.xpt.queue.map (fun (q : QSalvo) => { q with places := [], before := [], added := [], ended := [], migs := [] })
  let d := { d with tlr := t, xpt := { d.xpt with queue := queue, accepted := img.accepted }
                    sea := { d.sea with applied := img.index, kept := [], transfer := 0, image := none } }
  let d := wr TLR_EPOCH_epoch [] img.epoch (wr XPT_SEQ_seq [] img.lastSeq d)
  let d := forEach (localDsts d) (fun x d => takeDest x (tdest x.num d.tlr) d) d
  markInput img.index d.sea.er (applyMap { d with sea := { d.sea with marks := [] } })

/-- At Er the fetched state is applied; a transfer whose link went down, or that the master has outrun, fails (R434). -/
def resyncApply (d : Dev) : Dev :=
  match d.sea.transfer, d.sea.image with
  | 0, _ => d
  | _, none => if (towardsMaster d).isNone || !rdB SEA_LINK_ST_up [rd SEA_TIME_upstream [] d] d then resyncFails d else d
  | _, some img =>
    let last := d.sea.waits.foldl (fun m x => max m x.1) 0
    if img.index + 4096 < last then resyncFails d
    else
      let d := advanceTo (unitsOfNib d.sea.er) d
      let d := wr SEA_CMD_ST_resync_done [] 1 (applyImage img d)
      let d := if rd TOP_BOOT_ST_phase [] d = 10 then
          let d := wr TOP_BOOT_ST_phase [] 5 (wr TOP_BOOT_ST_restore_src [] 2 d)
          { d with boot := { d.boot with configuredAt := d.devTime } }
        else d
      applyWaiting { d with sea := { d.sea with waits := d.sea.waits.filter (fun x => decide (d.sea.applied < x.1)) } }

/-- 60 s of waiting for the master's state (R477). -/
def fabricWaitTimeout (d : Dev) : Dev :=
  if rd TOP_BOOT_ST_phase [] d ≠ 10 || d.boot.waitLate then d
  else
    let d := advanceDev (d.sea.waitFrom + 60 * secUnits) d
    fire 264 (wr TOP_STICKY_fabric_wait [] 1 { d with boot := { d.boot with waitLate := true } })

/-! ### Takeover and handover (R435) -/

/-- The standby takes over. One that does not hold the master's state restores from its own route memory (R477). -/
def takeover (d : Dev) : Dev :=
  if roleOf d ≠ 3 || selfActing d || !rdB RUL_STATUS_time_set [] d then d
  else
    let d := advanceDev (d.sea.advancedAt + rd SEA_TIMING_takeover_ms [] d * msUnits) d
    let waiting := rd TOP_BOOT_ST_phase [] d == 10
    let d := fire 247 (followMaster (selfMember d) d)
    let d := { d with sea := { d.sea with transfer := 0, image := none, waits := [], gapAt := 0 } }
    if waiting then
      let d := wr TOP_BOOT_ST_phase [] 5 (startUp true d)
      { d with boot := { d.boot with configuredAt := d.devTime } }
    else d

/-- A write of handover. -/
def handoverAsked (d : Dev) : Dev := if roleOf d = 3 && selfActing d then { d with sea := { d.sea with handover := true } } else d

/-! ### Twins (R300, R349, R436) -/

/-- Member 0 of a twin pair chooses for both. -/
def leadsTwin (d : Dev) : Bool := twinned d && decide ((d.pat.members.map (·.num)).head? = some (selfMember d))

/-- Send over the twin link. -/
def sendTwin (b : SeaBody) (d : Dev) : Dev := forUpTo 24 (fun n d => if isTwin n d then sendMsg n b d else d) d

/-- After an output frame of a read side, given what it had emitted before: the choice goes to the partner, as frames after that one. -/
def twinChoice (n before : Nat) (d : Dev) : Dev :=
  let now := (syncRun n d).prev
  if leadsTwin d && before != 0 && now != 0 then sendTwin (.twin [(n, now - before)] []) d else d

/-- At a frame boundary of a family: the buffers its heads read, and the next sequence number of its transmit entries. -/
def twinBoundary (fam : Nat) (d : Dev) : Dev :=
  if !leadsTwin d then d
  else
    let heads := (List.range 16).filter (fun h => headFam h d == fam)
    let shots := heads.flatMap (fun h => (headRun h d).shots.flatMap (fun x =>
      (match x.pic with | some fr => [(65536 + 2 * x.layer, fr.start)] | none => []) ++ (match x.key with | some fr => [(65536 + 2 * x.layer + 1, fr.start)] | none => [])))
    let seqs := (d.flw.tx.filter (fun p => dstFam p.2.dst d == fam)).map (fun p => (p.1, rd FLW_TX_seq [p.1] d))
    sendTwin (.twin shots seqs) d

/-- The partner's choices and sequence numbers. -/
def twinArrives (choices seqs : List (Nat × Nat)) (d : Dev) : Dev :=
  let d := forEach (choices.filter (fun q => decide (q.1 < 65536))) (fun q d => setSyncRun q.1 { syncRun q.1 d with forced := some q.2 } d) d
  let shots := (choices.filter (fun q => decide (65536 ≤ q.1))).map (fun q => (q.1 - 65536, q.2))
  let keep := fun (xs new : List (Nat × Nat)) => xs.filter (fun x => !new.any (fun y => y.1 == x.1)) ++ new
  { d with sea := { d.sea with twinShots := keep d.sea.twinShots shots, twinSeqs := keep d.sea.twinSeqs seqs } }

/-! ### Messages (R429, R430) -/

/-- What a message of link n does once its turn has come. -/
def handleBody (n : Nat) (b : SeaBody) (d : Dev) : Dev :=
  match b with
  | .ack nums => ackMsgs n nums d
  | .forward i => forwarded n i d
  | .announce index at_ i => announced n index at_ i d
  | .request index =>
    (match d.sea.kept.find? (fun k => k.1 == index) with
     | some (_, at_, i) => sendMsg n (.announce index at_ i) d
     | none => d)
  | .digest v at_ => digestArrives n v at_ d
  | .twin c s => twinArrives c s d
  | .stateReq => stateAsked n d
  | .state img => stateArrives img d

/-- A message arrives on link n. -/
def message (n num : Nat) (b : SeaBody) (d : Dev) : Dev :=
  if !running (fSeam n) d then d
  else
    let (bs, d) := receiveMsg n num b d
    forEach bs (handleBody n) d

end Sys2Proof.Machine
end

