-- ==== Sys2Proof/Machine/Reset.lean ====
section
/-! DEFINITION. The resets: what they clear and what they keep (R67, R415, R461, R463, R531). -/

namespace Sys2Proof.Machine

/-- Everything returns to its value after PORST_N but flash, OTP, and the levels of input pins that the reset does not touch; MEMBER_ID is
sampled (R415, R463). The counters of free values and outputs are the model's own. -/
def powerOnReset (memberId : Nat) (d : Dev) : Dev :=
  let fresh : Dev := { nv := d.nv, freeCtr := d.freeCtr, out := d.out, pins := { testEn := d.pins.testEn, perstLow := d.pins.perstLow } }
  wr SEA_FABRIC_member [] memberId fresh

/-- A register field keeps its value through SRST_N: the Ruling's, BLT_STICKY, BLT_RECOV, BLT_SELF, TOP_RESET_CAUSE, the PCIe link and
configuration state, and CORE_VID (R461, R463, R531, R552). -/
def keptBySoftReset (key : Nat) : Bool :=
  (regsRul ++ [BLT_STICKY, BLT_RECOV, BLT_SELF, TOP_RESET_CAUSE, TOP_PCIE_ST, TOP_VID]).any (fun r => r.flds.any (fun f => f.no == keyNo key))

/-- A soft reset with its cause: 1 SRST_N, 2 lockstep, 3 watchdog, 4 activation. Conditions that still hold fire afresh (R461). -/
def softReset (cause : Nat) (d : Dev) : Dev :=
  let stood := ((List.range 48).filter (fun n => decide (16 ≤ n) && rawOf n d))
  let member := rd SEA_FABRIC_member [] d
  let fresh : Dev :=
    { regs := d.regs.filter (fun p => keptBySoftReset p.1), ntw := d.ntw, devTime := d.devTime, freeCtr := d.freeCtr, out := d.out
      lastAt := d.lastAt, rul := d.rul, nv := d.nv
      pins := { d.pins with healthHb := false }
      blt := { exits := d.blt.exits }
      icn := { perstAt := d.icn.perstAt }
      boot := { releasedAt := d.devTime } }
  let fresh := wr SEA_FABRIC_member [] member (count TOP_RESET_CAUSE_soft_count [] 1 (wr TOP_RESET_CAUSE_cause [] cause fresh))
  forEach stood (fun n d => setRaw n true d) fresh

end Sys2Proof.Machine
end

