-- ==== Sys2Proof/Machine/Thimble.lean ====
section
/-! DEFINITION. The Thimble: attestation, update sessions, activation, the trial of an image, test access (19_thimble_and_update.md). -/

namespace Sys2Proof.Machine

/-- The second of NTW (R5). -/
def ntwSecond (d : Dev) : Nat := nibOf d.ntw / Config.nibsPerSec

/-! ### Headers (R494, R495) -/

def hdrType (h : List Nat) : Nat := hdrField h 6 2
def hdrLength (h : List Nat) : Nat := hdrField h 0x18 4
def hdrPieces (h : List Nat) : Nat := hdrField h 0x1C 4
def hdrKey (h : List Nat) : Nat := hdrField h 0x20 4
def hdrRollback (h : List Nat) : Nat := hdrByte h 0x24

/-- The pieces of the piece table. -/
def hdrTable (h : List Nat) : Nat := ceilDiv (hdrPieces h) 64
def hdrTotal (h : List Nat) : Nat := hdrTable h + hdrPieces h

/-- The bytes of a header. -/
def hdrBytes (h : List Nat) : List Nat := (List.range 256).map (hdrByte h)

/-- The image digest: SHA-384 of the header. -/
def imageDigest (h : List Nat) : Nat := Config.sha384 (hdrBytes h)

/-- Check 1 of R496. -/
def hdrFormOk (h : List Nat) : Bool :=
  let t := hdrType h
  let n := hdrLength h
  let zero := [0x25, 0x2C, 0x2D, 0x2E, 0x2F] ++ (List.range 16).map (fun k => 0x90 + k)
  hdrField h 0 4 == 0x425A5550 && hdrField h 4 2 == 1 && decide (1 ≤ t ∧ t ≤ 4) && zero.all (fun i => hdrByte h i == 0)
    && decide (1 ≤ n ∧ n ≤ (if t = 3 then 65536 else 16711680)) && hdrPieces h == ceilDiv n 1024

/-- Check 2 of R496. -/
def hdrPartOk (h : List Nat) (d : Dev) : Bool :=
  hdrField h 8 4 == 0x2416 && decide (hdrField h 0x0C 4 ≤ 256 * rd TOP_ID_letter [] d + rd TOP_ID_digit [] d)

/-! ### What UPD and THM show -/

def openSess (d : Dev) : Option Sess := match d.nv.sess with | some s => if s.state = 0 then none else some s | none => none

/-- The lowest missing piece; 0xFFFF where none is. -/
def firstMissing (s : Sess) : Nat := ((List.range (hdrTotal s.hdr)).find? (fun i => !s.pieces.any (fun p => p.1 == i))).getD 0xFFFF

/-- UPD_STATUS and what describes the session, as flash holds them (R526). -/
def showUpdate (d : Dev) : Dev :=
  let nv := d.nv
  let s := nv.sess.getD {}
  let have_ := nv.sess.isSome
  let d := wr UPD_STATUS_sess_state [] s.state (wrB UPD_STATUS_table_ok [] s.tableOk (wr UPD_STATUS_type [] (if have_ then hdrType s.hdr else 0) d))
  let d := wr UPD_STATUS_target [] s.target (wrB UPD_STATUS_trial [] nv.trial (wr UPD_STATUS_active [] nv.active d))
  let d := wr UPD_STATUS_prev_state [] nv.prevState (wr UPD_STATUS_trial_boots [] nv.trialBoots (wr UPD_STATUS_sources [] (min 7 s.sources.length) d))
  let d := wr UPD_PIECES_total [] (if have_ then hdrTotal s.hdr else 0) (wr UPD_PIECES_held [] s.pieces.length (wr UPD_MISS_first [] (if have_ then firstMissing s else 0xFFFF) d))
  let d := wr UPD_VERSION_version [] (hdrField s.hdr 0x10 8) (wr UPD_START_sec [] (s.start.getD 0) d)
  let d := if have_ then wr UPD_DIGEST_digest [] (imageDigest s.hdr) d else wr UPD_DIGEST_digest [] 0 d
  wr UPD_LAST_outcome [] nv.outcome (wr UPD_LAST_slot [] nv.outcomeSlot d)

/-- THM_STATUS, THM_SERIAL, THM_RB, THM_OWNER and THM_CERT_LEN, as the OTP holds them (R525). -/
def showThimble (d : Dev) : Dev :=
  let nv := d.nv
  let mask := fun (f : Nat × Bool × Bool → Bool) => (List.range 4).foldl (fun a s => if f (nv.owners.getD s (0, false, false)) then a + 2 ^ s else a) 0
  let d := wrB THM_STATUS_keys_present [] nv.keys (wrB THM_STATUS_test_open [] nv.testOpen d)
  let d := wr THM_STATUS_owner_valid [] (mask (fun o => o.2.1 && !o.2.2)) (wr THM_STATUS_owner_revoked [] (mask (fun o => o.2.2)) d)
  let d := wr THM_SERIAL_serial [] nv.serial (wr THM_RB_fw [] nv.rbFw (wr THM_RB_pat [] nv.rbPat (wr THM_CERT_LEN_bytes [] nv.cert.length d)))
  forUpTo 4 (fun s d => wr THM_OWNER_key_id [s] (nv.owners.getD s (0, false, false)).1 d) d

def setNv (x : Nv) (d : Dev) : Dev := showUpdate { d with nv := x }
def setSess (s : Option Sess) (d : Dev) : Dev := setNv { d.nv with sess := s } d

/-- The result of a UPD command: busy clears, which raises UPDATE (R505, R534). -/
def updResult (code detail : Nat) (d : Dev) : Dev := raiseIrq 3 (wr UPD_RES_code [] code (wr UPD_RES_detail [] detail (wr UPD_RES_busy [] 0 d)))

/-- A flash or OTP operation of the Thimble fails. -/
def thimbleFlashFails (d : Dev) : Dev := fire 282 d

/-! ### Attestation (R491) -/

/-- A write of start. -/
def attestStart (d : Dev) : Dev :=
  if rdB THM_ATT_ST_busy [] d then d
  else
    let nonce := (List.range 12).foldl (fun acc k => acc * 2 ^ 32 + rd THM_ATT_NONCE_word [k] d) 0
    wr THM_ATT_ST_busy [] 1 (wr THM_ATT_ST_done [] 0 (wr THM_ATT_ST_err [] 0 { d with boot := { d.boot with nonce := some nonce } }))

/-- The bytes that are signed. -/
def attestBytes (nonce : Nat) (d : Dev) : List Nat :=
  beBytes 48 nonce ++ beBytes 8 d.nv.serial
    ++ beBytes 4 (65536 * rd TOP_ID_part [] d + 256 * rd TOP_ID_letter [] d + rd TOP_ID_digit [] d) ++ beBytes 4 (rd TOP_FW_VER_version [] d)
    ++ beBytes 48 d.pat.digest ++ beBytes 8 (rd TOP_PAT_ID_pat_version [] d) ++ beBytes 16 (ntwWord d.ntw) ++ [d.nv.rbFw % 256, d.nv.rbPat % 256]

/-- The signing ends. -/
def attestDone (d : Dev) : Dev :=
  match d.boot.nonce with
  | none => d
  | some nonce =>
    let d := wr THM_ATT_ST_busy [] 0 { d with boot := { d.boot with nonce := none } }
    if !d.nv.keys then raiseIrq 4 (wr THM_ATT_ST_err [] 1 d)
    else
      let sig := Config.ecdsaSign (beBytes 48 (Config.sha384 (attestBytes nonce d)))
      let d := forUpTo 24 (fun k d => wr THM_ATT_SIG_word [k] (sig / 2 ^ (32 * (23 - k))) d) d
      raiseIrq 4 (wr THM_ATT_ST_done [] 1 (wr THM_ATT_AT_ntw [] (ntwWord d.ntw) d))

/-! ### Offers (R496, R497) -/

/-- The code of the first check of R496 that fails; 0 where all hold. -/
def offerCode (h : List Nat) (v : OfferView) (d : Dev) : Nat :=
  let t := hdrType h
  let owner := d.nv.owners.any (fun o => o.1 == hdrKey h && o.2.1 && !o.2.2)
  let counter := if t = 1 then d.nv.rbFw else if t = 2 then d.nv.rbPat else 0
  if !hdrFormOk h then 2
  else if !hdrPartOk h d then 3
  else if (t == 4) == d.nv.keys then 7
  else if !(if t = 1 ∨ t = 4 then v.romKey else owner) then 4
  else if !v.sigOk then 5
  else if hdrRollback h < counter then 6
  else if d.boot.window then 8
  else if t ≠ 3 ∧ !v.flash then 13
  else
    match openSess d with
    | some s => if imageDigest s.hdr = imageDigest h then 0 else 1
    | none => 0

/-- An offer from a source (0 PCIe, else 1 + its address in band): its code, and what it leaves. -/
def offer (h : List Nat) (source : Nat) (v : OfferView) (d : Dev) : Nat × Dev :=
  let code := offerCode h v d
  if code = 1 then (1, fire 274 d)
  else if code ≠ 0 then (code, fire 272 d)
  else
    match openSess d with
    | some s => (0, setSess (some { s with sources := if s.sources.contains source then s.sources else s.sources ++ [source] }) d)
    | none =>
      let nv := if hdrType h = 3 then d.nv else { d.nv with prevState := 1, generation := d.nv.generation + 1 }
      let start := if rdB RUL_STATUS_time_set [] d then some (ntwSecond d) else none
      (0, setNv { nv with sess := some { hdr := h, target := 1 - nv.active, start := start, state := 1, sources := [source] } } d)

/-- The moment time is set becomes the start second of a session that has none (R497). -/
def startSession (d : Dev) : Dev :=
  match openSess d with
  | some s => if s.start.isNone ∧ rdB RUL_STATUS_time_set [] d then setSess (some { s with start := some (ntwSecond d) }) d else d
  | none => d

/-! ### Pieces (R499, R500) -/

/-- The length of a piece. -/
def pieceLength (h : List Nat) (i : Nat) : Nat := if i + 1 = hdrTotal h ∧ hdrTable h ≤ i then hdrLength h - 1024 * (hdrPieces h - 1) else 1024

def pieceOf (s : Sess) (i : Nat) : Option (List Nat) := (s.pieces.find? (fun p => p.1 == i)).map (·.2)

/-- The bytes of the piece table, without padding. -/
def tableBytes (s : Sess) : List Nat := (((List.range (hdrTable s.hdr)).flatMap (fun i => (pieceOf s i).getD []))).take (16 * hdrPieces s.hdr)

/-- An image piece agrees with its entry of the table. -/
def pieceMatches (s : Sess) (i : Nat) (bytes : List Nat) : Bool :=
  let entry := ((tableBytes s).drop (16 * (i - hdrTable s.hdr))).take 16
  beBytes 16 (Config.sha384 (beBytes 4 i ++ bytes) / 2 ^ 256) == entry

/-- A piece or the table fails its digest: n more are refused or cleared. -/
def pieceFails (n : Nat) (d : Dev) : Dev := fire 273 (count UPD_MISS_refused [] n d)

/-- Once the table is held it is checked, and with it every image piece that is held (R500). -/
def checkTable (s : Sess) (d : Dev) : Sess × Dev :=
  let t := hdrTable s.hdr
  if s.tableOk || !(List.range t).all (fun i => (pieceOf s i).isSome) then (s, d)
  else if Config.sha384 (tableBytes s) ≠ (List.range 48).foldl (fun acc k => 256 * acc + hdrByte s.hdr (0x60 + k)) 0 then
    ({ s with pieces := s.pieces.filter (fun p => decide (t ≤ p.1)) }, pieceFails t d)
  else
    let bad := s.pieces.filter (fun p => decide (t ≤ p.1) && !pieceMatches s p.1 p.2)
    ({ s with tableOk := true, pieces := s.pieces.filter (fun p => !bad.contains p) }, forEach bad (fun _ d => pieceFails 1 d) d)

/-- Every piece is held: the final check begins (R502). -/
def checkFull (s : Sess) : Sess := if s.state = 1 ∧ s.tableOk ∧ s.pieces.length = hdrTotal s.hdr then { s with state := 2 } else s

/-- A piece for an image digest (none: the open session's). `fails`: its write to flash fails three times. -/
def putPiece (digest : Option Nat) (i : Nat) (bytes : List Nat) (fails : Bool) (d : Dev) : Nat × Dev :=
  match openSess d with
  | none => (9, d)
  | some s =>
    if s.state != 1 || (match digest with | some x => x != imageDigest s.hdr | none => false) then (9, d)
    else if hdrTotal s.hdr ≤ i ∨ bytes.length ≠ pieceLength s.hdr i then (10, d)
    else if (pieceOf s i).isSome then (0, d)
    else if s.tableOk ∧ hdrTable s.hdr ≤ i ∧ !pieceMatches s i bytes then (11, pieceFails 1 d)
    else if fails then (13, thimbleFlashFails d)
    else
      let (s, d) := checkTable { s with pieces := s.pieces ++ [(i, bytes)] } d
      (0, setSess (some (checkFull s)) d)

/-! ### PCIe commands (R498 to R505) -/

/-- A write of offer. -/
def updOffer (v : OfferView) (d : Dev) : Dev :=
  let (code, d) := offer ((List.range 64).map (fun r => rd UPD_HDR_word [r] d)) 0 v d
  updResult code 0 d

/-- The staged piece. -/
def stagedPiece (d : Dev) : List Nat :=
  let n := rd UPD_PIECE_LEN_len [] d
  if n < 1 ∨ 1024 < n then [] else (List.range n).map (fun b => rd UPD_PIECE_DATA_word [b / 4] d / 256 ^ (3 - b % 4) % 256)

/-- A write of put. -/
def updPut (fails : Bool) (d : Dev) : Dev :=
  let (code, d) := putPiece none (rd UPD_PIECE_IDX_index [] d) (stagedPiece d) fails d
  updResult code 0 d

/-- A session ends and keeps its pieces until the next offer. -/
def endSession (d : Dev) : Dev :=
  let d := { d with boot := { d.boot with copied := false } }
  match d.nv.sess with | some s => setSess (some { s with state := 0 }) d | none => d

/-- A write of abort. -/
def updAbort (d : Dev) : Dev :=
  match openSess d with
  | some _ => updResult 0 0 (fire 275 (endSession d))
  | none => updResult 9 0 d

/-- The session is 30 days old, or its start lies a day ahead (R503). -/
def sessionExpiry (d : Dev) : Dev :=
  match openSess d with
  | some s =>
    (match s.start with
     | some t =>
       if !rdB RUL_STATUS_time_set [] d then d
       else if ntwSecond d + 86400 ≤ t then fire 275 (endSession d)
       else fire 275 (endSession (advanceTo (unitsOfNib ((t + 2592000) * Config.nibsPerSec)) d))
     | none => d)
  | none => d

/-! ### The final check (R492, R502) -/

def ownerSlot (k : Nat) (d : Dev) : Nat × Bool × Bool := d.nv.owners.getD k (0, false, false)

/-- A key record obeys R492. -/
def keyRecOk (r : KeyRec) (d : Dev) : Bool :=
  let o := ownerSlot r.slot d
  let others := (List.range 4).any (fun k => k != r.slot && (ownerSlot k d).2.1 && !(ownerSlot k d).2.2)
  decide (r.slot < 4) && (if r.revoke then others else !o.2.1 && !o.2.2 && o.1 == 0)

/-- The final check ends: `ok` for the decryption, tag and digests, and for a Pattern the code of its own checks. -/
def finalCheckDone (ok : Bool) (patErr : Nat) (r : KeyRec) (d : Dev) : Dev :=
  match openSess d with
  | some s =>
    if s.state ≠ 2 then d
    else
      let t := hdrType s.hdr
      if ok && (t != 2 || patErr == 0) && (t != 3 || keyRecOk r d) then setSess (some { s with state := 3, rec_ := (r.slot, r.revoke, r.key) }) d
      else updResult 12 (if t = 2 then patErr else 0) (fire 276 (endSession d))
  | none => d

/-! ### Activation (R509, R517) -/

/-- The window of a trial ends at this device time (R511). -/
def windowEnd (d : Dev) : Nat := d.boot.releasedAt + d.nv.windowS * secUnits

/-- Program a key record (R509, type 3). -/
def programKey (r : KeyRec) (d : Dev) : Dev :=
  let o := ownerSlot r.slot d
  let new := if r.revoke then (o.1, o.2.1, true) else (r.key, true, false)
  showThimble { d with nv := { d.nv with owners := (List.range 4).map (fun k => if k = r.slot then new else ownerSlot k d) } }

/-- UPD_ACT_AT as a linear value, 0 for at once; none where it is malformed. -/
def actAt (d : Dev) : Option Nat := ntwOfWord (rd UPD_ACT_AT_ntw [] d)

/-- A write of activate. -/
def updActivate (d : Dev) : Dev :=
  match openSess d with
  | none => updResult 9 0 d
  | some s =>
    if s.state ≠ 3 then updResult 9 0 d
    else if d.boot.window then updResult 8 0 d
    else
      let t := hdrType s.hdr
      let f := writesFormat d
      if t = 1 ∧ (f < hdrField s.hdr 0x26 2 ∨ hdrField s.hdr 0x28 2 < f) then updResult 14 0 (fire 279 d)
      else if t = 3 then updResult 0 0 (fire 277 (endSession (programKey ⟨s.rec_.1, s.rec_.2.1, s.rec_.2.2⟩ d)))
      else
        let far := match actAt d with | some a => decide (d.ntw + 86400 * secUnits < a) | none => true
        if far then updResult 9 0 d
        else updResult 0 0 (setSess (some { s with state := 4 }) { d with boot := { d.boot with copied := false } })

/-- A write of revert (R517). -/
def updRevert (d : Dev) : Dev :=
  let prev := slotOf (1 - d.nv.active) d
  let low := fun (i : Option Img) (c : Nat) => match i with | some x => decide (hdrRollback x.hdr < c) | none => false
  if (openSess d).isSome || d.boot.window || d.nv.prevState != 0 then updResult 9 0 d
  else if low prev.fw d.nv.rbFw || low prev.pat d.nv.rbPat then updResult 6 0 d
  else updResult 0 0 { d with boot := { d.boot with revert := true, copied := false } }

/-- The image a session has gathered. -/
def sessionImage (s : Sess) : Img :=
  { hdr := s.hdr, data := (s.pieces.filter (fun p => decide (hdrTable s.hdr ≤ p.1))).map (fun p => (p.1 - hdrTable s.hdr, p.2)) }

/-- The copy forward ends: the other image and the route memory of the active slot are in the target slot, or the flash failed. -/
def copyForwardDone (ok : Bool) (d : Dev) : Dev :=
  let act := slotOf d.nv.active d
  if d.boot.copied then d
  else
    match openSess d with
    | some s =>
      if s.state ≠ 4 then d
      else if !ok then updResult 13 0 (thimbleFlashFails (setSess (some { s with state := 3 }) d))
      else
        let img := sessionImage s
        let x : Slot := if hdrType s.hdr = 2 then { fw := act.fw, pat := some img, route := act.route } else { fw := some img, pat := act.pat, route := act.route }
        setSlot s.target x { d with boot := { d.boot with copied := true } }
    | none =>
      if !d.boot.revert then d
      else if !ok then updResult 13 0 (thimbleFlashFails { d with boot := { d.boot with revert := false } })
      else
        let other := slotOf (1 - d.nv.active) d
        setSlot (1 - d.nv.active) { other with route := act.route } { d with boot := { d.boot with copied := true } }

/-- The activation instant: the tail of the journal, the boot record in TRIAL, and the restart (R509 steps 2 to 5). -/
def activationInstant (d : Dev) : Dev :=
  let going := match openSess d with | some s => s.state == 4 | none => d.boot.revert
  if !d.boot.copied || !going then d
  else
    let d := if d.boot.revert then d else advanceTo ((actAt d).getD 0) d
    let target := 1 - d.nv.active
    let d := setSlot target { slotOf target d with route := (slotOf d.nv.active d).route } d
    let nv := { d.nv with active := target, trial := true, trialBoots := 0, prevState := 0, windowS := rd UPD_CFG_window_s [] d
                          hostGate := rdB UPD_CFG_host_gate [] d, generation := d.nv.generation + 1 }
    softReset 4 (fire 277 (setNv nv d))

/-! ### The trial (R511 to R516) -/

/-- The health window of a trial is open. -/
def windowOpen (d : Dev) : Bool := d.boot.window && decide (d.devTime ≤ windowEnd d)

/-- A write of approve. -/
def updApprove (d : Dev) : Dev := updResult 0 0 (if windowOpen d then { d with boot := { d.boot with approved := true } } else d)

/-- A counter advances to the index of the slot's image of its kind (R518). -/
def advanceCounter (c : Nat) (i : Option Img) : Nat := match i with | some x => max c (hdrRollback x.hdr) | none => c

/-- The new image confirms itself. -/
def healthConfirm (d : Dev) : Dev :=
  let fit := windowOpen d && rd TOP_BOOT_ST_phase [] d == 6 && decide (rd TOP_BOOT_ST_restore_src [] d ≤ 1) && !inSafe d && !d.boot.incompatible
    && (!d.nv.hostGate || d.boot.approved)
  if !fit then d
  else
    let slot := slotOf d.nv.active d
    let nv := { d.nv with trial := false, trialBoots := 0, outcome := 1, outcomeSlot := d.nv.active, generation := d.nv.generation + 1
                          rbFw := advanceCounter d.nv.rbFw slot.fw, rbPat := advanceCounter d.nv.rbPat slot.pat }
    let d := { d with boot := { d.boot with window := false } }
    let d := wr UPD_HEALTH_CONFIRM_confirm [] 1 (showThimble (setNv nv d))
    endSession (fire 280 d)

/-- The record of a fallback to the other slot (R508, R514). -/
def fallbackRecord (outcome : Nat) (nv : Nv) : Nv :=
  { nv with active := 1 - nv.active, trial := false, trialBoots := 0, prevState := 2, outcome := outcome, outcomeSlot := nv.active
            generation := nv.generation + 1, owesFallback := true
            sess := nv.sess.map (fun s => if s.state = 4 then { s with state := 0 } else s) }

/-- The Thimble falls back and restarts the device. -/
def fallBack (outcome : Nat) (d : Dev) : Dev := softReset 4 { d with nv := fallbackRecord outcome d.nv }

/-- The window ends without a confirm. -/
def windowExpiry (d : Dev) : Dev := if !d.boot.window then d else fallBack 2 (advanceDev (windowEnd d) d)

/-! ### Test access (R519 to R523) -/

/-- The words of the unlock sequence. -/
def unlockWords (d : Dev) : List Nat := [0x54455354, 0xABBAACAB, d.nv.serial % 2 ^ 32]

/-- A complete sequence: the keys are erased and test access opens. The cause that TOP_RESET_CAUSE then shows is not stated: a free value. -/
def openTestAccess (d : Dev) : Dev :=
  let nv := { d.nv with eraseStarted := true, keys := false, testOpen := true }
  let (cause, d) := takeFree 19 d
  softReset (cause % 8) { d with nv := nv }

/-- A word is shifted in through UNLOCK while TEST_EN is high. -/
def unlockWord (w : Nat) (d : Dev) : Dev :=
  let d := { d with pins := { d.pins with testEn := true } }
  let late := decide (d.boot.unlockAt + secUnits < d.devTime)
  let got := if late then [] else d.boot.unlock
  let expect := (unlockWords d).getD got.length 0
  if w ≠ expect then { d with boot := { d.boot with unlock := [] } }
  else if got.length = 2 then openTestAccess { d with boot := { d.boot with unlock := [] } }
  else { d with boot := { d.boot with unlock := got ++ [w], unlockAt := if got.isEmpty then d.devTime else d.boot.unlockAt } }

/-- More than 1 s since the first word. -/
def unlockTimeout (d : Dev) : Dev :=
  if d.boot.unlock.isEmpty then d
  else
    let d := advanceDev (d.boot.unlockAt + secUnits + 1) d
    { d with boot := { d.boot with unlock := [] } }

/-- The device runs as factory test firmware on a unit with test access open (R460, R522). -/
def testMode (d : Dev) : Bool := d.nv.testOpen && (match (slotOf (bootSlot d) d).fw with | some i => hdrType i.hdr == 4 | none => false)

end Sys2Proof.Machine
end

