-- ==== Sys2Proof/Machine/Shown.lean ====
section
/-! DEFINITION. What the registers that follow live state show at a read: time, functions, safe state, lanes, outputs, audio, Quilt, and the
Tailor's budgets (R37, R160, R172, R223, R368, R414, R448, R462, R488). -/

namespace Sys2Proof.Machine

/-! ### The Tailor's budgets (R172) -/

/-- The placement map at the present instant. -/
def planNow (d : Dev) : Plan := { t := d.tlr, at_ := nibOf d.ntw }

/-- Tenths of a Gbit/s, rounded up, of a rate in bit/s. -/
def tenthGbit (r : Nat) : Nat := min 65535 (ceilDiv r 100000000)

/-- The units of one kind that this device uses. -/
def unitsUsed (kind : Nat) (p : Plan) (d : Dev) : Nat :=
  (((held p).filter (fun it => it.kind == kind && it.member == selfMember d)).map (·.width)).sum

/-- A migration involves a DRAM channel of this device. -/
def chanMigrates (c : Nat) (p : Plan) (d : Dev) : Bool :=
  p.t.migs.any (fun g =>
    let s := itemOf p.t g.item
    g.toCh != 0 && s.member == selfMember d && (s.ch == c + 1 || g.toCh == c + 1) && (g.endAt == 0 || decide (p.at_ < g.endAt)))

/-- TLR_INK[c]. -/
def showInk (c : Nat) (d : Dev) : Dev :=
  let p := planNow d
  let m := selfMember d
  let unit : Nat := 184320
  let fixed := match chanRes m c d with | some (f, _, _) => f | none => false
  let n := ((held p).filter (fun it => it.member == m && isSurface it.kind && it.ch == c + 1)).length
  wr TLR_INK_cap [c] (tenthGbit (ceilDiv (chanCap d.tlr m c d) unit)) (wr TLR_INK_charged [c] (tenthGbit (ceilDiv (chanCharge p d m c) unit))
    (wr TLR_INK_mem_mib [c] (min 65535 (ceilDiv (chanBytes p d m c) 1048576)) (wr TLR_INK_surfaces [c] n
    (wrB TLR_INK_fixed [c] fixed (wrB TLR_INK_usable [c] (usable d.tlr m 0 c) (wrB TLR_INK_migrating [c] (chanMigrates c p d) d))))))

/-- TLR_SCL[u]. -/
def showScaler (u : Nat) (d : Dev) : Dev :=
  let p := planNow d
  let on := (held p).filter (fun it => it.kind == 11 && it.member == selfMember d && it.unit == u)
  let rate := (on.map (fun it => ceilDiv (it.load * Config.nibsPerSec) (max 1 (famPeriod it.fam d)))).sum
  let keys := (on.map (·.key)).eraseDups
  wr TLR_SCL_charged [u] (min 2047 (ceilDiv rate 1000000)) (wr TLR_SCL_head [u] (((on.head?).map (fun it => it.via.headD 0)).getD 0)
    (wr TLR_SCL_layers [u] (keys.filter (fun k => decide (k < 65536))).length (wrB TLR_SCL_conv [u] (keys.any (fun k => decide (65536 ≤ k))) d)))

/-- TLR_SEA[n]: the direction out of a link. -/
def showSeaBudget (n : Nat) (d : Dev) : Dev :=
  let m := selfMember d
  let lanes := match (fabMember m d).links.find? (fun l => l.link == n) with | some l => lanesInto d.tlr l.peer l.peerLink | none => 0
  wr TLR_SEA_cap [n] (tenthGbit (100800000000 * lanes)) (wr TLR_SEA_charged [n] (tenthGbit (linkCharge (planNow d) m n)) d)

/-- TLR_MAC[n]. -/
def showMacBudget (n : Nat) (d : Dev) : Dev :=
  let m := selfMember d
  wr TLR_MAC_cap [n] (tenthGbit (macCap d.tlr m n d)) (wr TLR_MAC_charged [n] (tenthGbit (macCharge (planNow d) m n)) d)

/-- TLR_LAYER[l]. -/
def showLayerPlace (l : Nat) (d : Dev) : Dev :=
  let m := selfMember d
  let x := tlayer (512 * m + l) d.tlr
  let mine := d.tlr.items.filter (fun it => it.member == m && holds (userLayer m l) it)
  let surf := mine.find? (fun it => it.kind == 2 && it.key == x.words.getD 1 65535)
  let div := layerDiv x.words
  if !x.placed && !x.unplaced then forEach [TLR_LAYER_scaler, TLR_LAYER_proxy, TLR_LAYER_ink_ch, TLR_LAYER_valid, TLR_LAYER_head, TLR_LAYER_unplaced] (fun f d => wr f [l] 0 d) d
  else
    wr TLR_LAYER_scaler [l] (((mine.find? (fun it => it.kind == 11)).map (fun it => it.unit % 64)).getD 0)
      (wr TLR_LAYER_proxy [l] (if div = 4 then 2 else if div = 2 then 1 else 0) (wr TLR_LAYER_ink_ch [l] ((surf.map (fun it => it.ch - 1)).getD 0)
      (wrB TLR_LAYER_valid [l] x.placed (wr TLR_LAYER_head [l] (x.words.getD 14 0 % 16) (wrB TLR_LAYER_unplaced [l] x.unplaced d)))))

/-- Items that are unplaced: paths, shuffled channels, hold stores and layers (R168). -/
def unplacedCount (t : Tlr) : Nat :=
  (t.dests.map (fun q =>
    let b := fun (x : Bool) => if x then 1 else 0
    b q.2.prim.unplaced + b q.2.prot.unplaced + b q.2.holdDown + (q.2.shuf.filter (fun s => !s.2.2)).length)).sum
    + (t.layers.filter (fun q => q.2.unplaced)).length

/-- TLR_FLOW, TLR_SLOTS, TLR_GATHER, TLR_MIG, TLR_UNPLACED. -/
def showBudgets (d : Dev) : Dev :=
  let p := planNow d
  let sum := fun (side : Nat) => ((unitsIn p (selfMember d) side).map (·.2)).sum
  wr TLR_FLOW_rx_used [] (unitsUsed 7 p d) (wr TLR_FLOW_tx_used [] (unitsUsed 8 p d) (wr TLR_SLOTS_ssl_used [] (sum 0)
    (wr TLR_SLOTS_dsl_used [] (sum 1) (wr TLR_GATHER_used [] (unitsUsed 9 p d)
    (wr TLR_MIG_active [] ((d.tlr.migs.filter (fun g => g.stage != 0)).length) (wr TLR_MIG_waiting [] (min 4095 ((d.tlr.migs.filter (fun g => g.stage == 0)).length))
    (wr TLR_UNPLACED_count [] (min 4095 (unplacedCount d.tlr)) d)))))))

/-! ### Other live registers -/

/-- BLT_STATUS (R448, R454). -/
def showBlotter (d : Dev) : Dev :=
  let any := (List.range 64).any (fun w => rd BLT_STICKY_bits [w] d != 0)
  let bad := sourceTable.any (fun s => stickyOf s.1 d && decide (2 ≤ severityOf s.1 d))
  wrB BLT_STATUS_fault_n [] (faultN d) (wrB BLT_STATUS_any_record [] any (wrB BLT_STATUS_any_degrade [] bad (wrB BLT_STATUS_standing [] (safeStands d) d)))

/-- BLT_SUM (R462). -/
def stickySummary (d : Dev) : Nat := (List.range 64).foldl (fun acc w => if rd BLT_STICKY_bits [w] d = 0 then acc else acc + 2 ^ w) 0

/-- The quiet time still needed, in ms rounded up; while a SAFE source stands, all of it (R454). -/
def quietLeft (d : Dev) : Nat :=
  let q := rd BLT_QUIET_quiet_ms [] d
  if !inSafe d then 0 else if safeStands d then q else q - (d.devTime - d.blt.quietFrom) / msUnits

/-- Automatic exits within the last 3,600 s (R456). -/
def recentExits (d : Dev) : Nat := (d.blt.exits.filter (fun t => decide (d.devTime < t + 3600 * secUnits))).length

/-- The age of the oldest item not yet durable, in ms (R488). -/
def journalLag (d : Dev) : Nat := match d.journal.head? with | some j => (d.devTime - j.at_) / msUnits | none => 0

/-- SDI_OUT_ST[l]. -/
def showSdiOut (l : Nat) (d : Dev) : Dev :=
  let w := sdiOutStatus l d
  wr SDI_OUT_ST_state [l] (w % 4) (wr SDI_OUT_ST_link [l] (w / 16 % 8) (wr SDI_OUT_ST_fmt [l] (w / 256 % 256) (wr SDI_OUT_ST_fam [l] (w / 65536 % 16)
    (wr SDI_OUT_ST_level_b [l] (w / 2 ^ 20 % 2) d))))

/-- GTH_DST_CH[c]. -/
def showDstChan (c : Nat) (d : Dev) : Dev :=
  let w := dstChLive c d
  wr GTH_DST_CH_src_ch [c] (w % 32768) (wr GTH_DST_CH_valid [c] (w / 2 ^ 15) (wr GTH_DST_CH_present [c] (w / 2 ^ 16) (wr GTH_DST_CH_rate_mis [c] (w / 2 ^ 17)
    (wr GTH_DST_CH_xfade [c] (w / 2 ^ 18) (wr GTH_DST_CH_shuffled [c] (w / 2 ^ 19) d)))))

/-- QLT_HEAD_STATUS[h]. -/
def showHead (h : Nat) (d : Dev) : Dev :=
  wr QLT_HEAD_STATUS_layers [h] (layersOf h d).length (wrB QLT_HEAD_STATUS_pool [h] (inPool h d) (wrB QLT_HEAD_STATUS_conv_active [h] (decide ((headRun h d).conv ≠ 0) && running (fHead h) d) d))

/-- INK_CH[c]: measured traffic and lead are numbers the spec leaves to the traffic; each read finds free values. -/
def showInkTraffic (c : Nat) (d : Dev) : Dev :=
  let (a, d) := takeFree 1 d
  let (b, d) := takeFree 2 d
  let (l, d) := takeFree 3 d
  wr INK_CH_charged_meas [c] a (wr INK_CH_uncharged_meas [c] b (wr INK_CH_prefetch_min_us [c] l d))

/-- UPD_WINDOW_LEFT. -/
def windowLeft (d : Dev) : Nat := if windowOpen d then ceilDiv (windowEnd d - d.devTime) secUnits else 0

/-- Word w of UPD_BITMAP. -/
def bitmapWord (w : Nat) (d : Dev) : Nat :=
  match d.nv.sess with
  | some s => (s.pieces.filter (fun p => p.1 / 32 == w)).foldl (fun acc p => Nat.lor acc (2 ^ (p.1 % 32))) 0
  | none => 0

/-- Word w of THM_CERT: the chain as it lies in the flash, most significant byte first. -/
def certWord (w : Nat) (d : Dev) : Nat := (List.range 4).foldl (fun acc k => 256 * acc + d.nv.cert.getD (4 * w + k) 0) 0

/-- Give the fields of one register instance that follow live state their present values. -/
def refresh (base : Nat) (ix : List Nat) (d : Dev) : Dev :=
  let i := ix.headD 0
  if base = TOP_FUNC.base then let w := topFunc i d; wr TOP_FUNC_state [i] (w % 8) (wr TOP_FUNC_en [i] (w / 16 % 2) (wr TOP_FUNC_queued [i] (w / 32 % 2) d))
  else if base = TOP_ROUTE_ST.base then wr TOP_ROUTE_ST_lag_ms [] (min 65535 (journalLag d)) d
  else if base = RUL_NTW.base then wr RUL_NTW_ntw [] (ntwWord d.ntw) d
  else if base = DUC_FAM_STATUS.base then wrB DUC_FAM_STATUS_pre_align [i] (preAlign i d) d
  else if base = DUC_FAM_FRAME.base then wr DUC_FAM_FRAME_frame [i] (famFrame i d) d
  else if base = TLR_FLOW.base ∨ base = TLR_SLOTS.base ∨ base = TLR_GATHER.base ∨ base = TLR_MIG.base ∨ base = TLR_UNPLACED.base then showBudgets d
  else if base = TLR_INK.base then showInk i d
  else if base = TLR_SCL.base then showScaler i d
  else if base = TLR_SEA.base then showSeaBudget i d
  else if base = TLR_MAC.base then showMacBudget i d
  else if base = TLR_LAYER.base then showLayerPlace i d
  else if base = LNS_STATUS.base then wrB LNS_STATUS_tx_on [i] (txOn i d) d
  else if base = MAC_PAUSE.base then wr MAC_PAUSE_quanta_left [i] (quantaLeft i d) d
  else if base = SDI_OUT_ST.base then showSdiOut i d
  else if base = INK_SURF_CNT.base then wr INK_SURF_CNT_used [] ((held (planNow d)).filter (fun it => it.member == selfMember d && isSurface it.kind)).length d
  else if base = INK_CH.base then showInkTraffic i d
  else if base = QLT_USE.base then
    let mask := fun (f : Nat → Dev → Bool) => (List.range 16).foldl (fun acc k => if f k d then acc + 2 ^ k else acc) 0
    wr QLT_USE_banks [] (mask bankInUse) (wr QLT_USE_progs [] (mask progInUse) d)
  else if base = QLT_HEAD_STATUS.base then showHead i d
  else if base = GTH_STATUS.base then wr GTH_STATUS_inputs [] (unitsUsed 9 (planNow d) d) d
  else if base = GTH_IN.base then let w := gthInLive i d; wr GTH_IN_present [i] (w / 2 ^ 20) (wr GTH_IN_npcm [i] (w / 2 ^ 21) (wr GTH_IN_rate_mis [i] (w / 2 ^ 22) d))
  else if base = GTH_SRC_CH.base then let w := srcChLive i d; wr GTH_SRC_CH_present [i] (w / 4) (wr GTH_SRC_CH_npcm [i] (w / 8) d)
  else if base = GTH_DST_CH.base then showDstChan i d
  else if base = BLT_STATUS.base then showBlotter d
  else if base = BLT_QUIET_LEFT.base then wr BLT_QUIET_LEFT_ms [] (quietLeft d) d
  else if base = BLT_RECOV.base then wr BLT_RECOV_window [] (recentExits d) d
  else if base = BLT_SUM.base then wr BLT_SUM_word [] (stickySummary d) d
  else if base = THM_CERT.base then wr THM_CERT_data [i] (certWord i d) d
  else if base = UPD_WINDOW_LEFT.base then wr UPD_WINDOW_LEFT_s [] (windowLeft d) d
  else if base = UPD_BITMAP.base then wr UPD_BITMAP_word [i] (bitmapWord i d) d
  else d

end Sys2Proof.Machine
end

