-- ==== Sys2Proof/Machine/HostAccess.lean ====
section
/-! DEFINITION. A host master's access to the BAR0 space: where an offset lies, what a read returns and clears, what a write changes and triggers
(R8 to R12, R283, R530 to R540). -/

namespace Sys2Proof.Machine

/-! ### The map (R532) -/

/-- A register block: its first and last offset, its registers, and whether they lie in the core domain. -/
structure Block where
  first : Nat
  last : Nat
  regs : List RegD
  core : Bool

/-- The blocks of R532. -/
def blocks : List Block :=
  [⟨0x0, 0xFFFF, regsTop, false⟩, ⟨0x100000, 0x100FFF, regsRul, true⟩, ⟨0x200000, 0x200FFF, regsDuc, true⟩, ⟨0x300000, 0x39FFFF, regsXpt, true⟩,
   ⟨0x400000, 0x42FFFF, regsTlr, true⟩, ⟨0x800000, 0x8BFFFF, regsLns, true⟩, ⟨0x1000000, 0x102FFFF, regsMac, true⟩, ⟨0x1100000, 0x147FFFF, regsFlw, true⟩,
   ⟨0x2000000, 0x201BFFF, regsSdi, true⟩, ⟨0x3000000, 0x305FFFF, regsInk, true⟩] ++
  [⟨0x3100000, 0x31BFFFF, regsDrc, true⟩, ⟨0x3200000, 0x33FFFFF, regsQlt, true⟩, ⟨0x3400000, 0x371FFFF, regsGth, true⟩, ⟨0x3800000, 0x3BFFFFF, [], true⟩,
   ⟨0x3C00000, 0x3C3FFFF, regsApt, true⟩, ⟨0x3D00000, 0x3D02FFF, regsSea, true⟩, ⟨0x3E00000, 0x3E01FFF, regsBlt, true⟩, ⟨0x3F00000, 0x3F02FFF, regsThm, false⟩,
   ⟨0x3F40000, 0x3F41FFF, regsUpd, false⟩, ⟨0x3F80000, 0x3F80FFF, regsIcn, false⟩]

/-- The block of an offset; none reaches the default target (R9). -/
def blockOf (off : Nat) : Option Block := blocks.find? (fun b => decide (b.first ≤ off ∧ off ≤ b.last))

/-- The indices that an offset from a register's base spells, and what is left. -/
def indexOf (dims : List (Nat × Nat)) (o : Nat) : Option (List Nat × Nat) :=
  match dims with
  | [] => some ([], o)
  | (stride, n) :: rest =>
    if n ≤ o / max 1 stride then none
    else match indexOf rest (o % max 1 stride) with | some (ix, r) => some (o / max 1 stride :: ix, r) | none => none

/-- A register instance and the word of it at an offset. -/
structure Place where
  reg : RegD
  ix : List Nat
  word : Nat

def placeIn (r : RegD) (off : Nat) : Option Place :=
  if off < r.base then none
  else match indexOf r.dims (off - r.base) with
    | some (ix, o) => if o / 4 < r.words then some ⟨r, ix, o / 4⟩ else none
    | none => none

/-- The register word at an offset of a block; none where the block holds no register (R9). -/
def placeOf (b : Block) (off : Nat) : Option Place := b.regs.findSome? (fun r => placeIn r off)

/-! ### Error responses (R530, R539) -/

/-- An error response is recorded. `kind`: 1 default target, 2 byte enables, 3 timeout, 4 parity, 5 reset mid-burst. -/
def recordError (m off : Nat) (write : Bool) (kind target : Nat) (d : Dev) : Dev :=
  wr ICN_ERR_ADDR_offset [] off (wr ICN_ERR_INFO_master [] m (wrB ICN_ERR_INFO_write [] write (wr ICN_ERR_INFO_kind [] kind (wr ICN_ERR_INFO_target [] target d))))

/-- The target an offset belongs to: 0 core registers, 1 control registers, 7 the default target. -/
def targetOf (off : Nat) : Nat := match blockOf off with | some b => if b.core then 0 else 1 | none => 7

/-- An access reaches the default target. -/
def defaultTarget (m off : Nat) (write : Bool) (d : Dev) : Dev :=
  fire 288 (count ICN_CNT0_dflt [] 1 (wr ICN_STATUS_dflt [] 1 (recordError m off write 1 7 d)))

/-- A word is refused for its byte enables (R530). -/
def refuseEnables (m off : Nat) (write : Bool) (d : Dev) : Dev :=
  fire 289 (count ICN_CNT0_be_refused [] 1 (wr ICN_STATUS_be [] 1 (recordError m off write 2 (targetOf off) d)))

/-- A beat fails its parity check (R538). -/
def parityError (m off : Nat) (write : Bool) (d : Dev) : Dev :=
  fire 295 (count ICN_CNT1_parity [] 1 (wr ICN_STATUS_parity [] 1 (recordError m off write 4 (targetOf off) d)))

/-- An access is not answered within 10 ms (R539). -/
def accessTimeout (m off : Nat) (write : Bool) (target : Nat) (d : Dev) : Dev :=
  fire 291 (count ICN_CNT1_timeouts [] 1 (wr ICN_STATUS_timeout [] 1 (recordError m off write 3 target d)))

/-- A master is reset in the middle of a burst (R540). -/
def resetAbort (m off : Nat) (write : Bool) (target : Nat) (d : Dev) : Dev :=
  fire 290 (count ICN_CNT1_reset_aborts [] 1 (wr ICN_STATUS_reset_abort [] 1 (recordError m off write 5 target d)))

/-- A master has a path to the register blocks (R536). -/
def hasPath (m : Nat) (d : Dev) : Bool := m != 4 && decide (m < 6) && (m != 5 || d.nv.testOpen)

/-- An access to a core-domain block waits until 100 µs after the release of a soft reset (R537, R565). -/
def holdAccess (b : Block) (d : Dev) : Dev := if b.core && d.boot.releasedAt != 0 then advanceDev (d.boot.releasedAt + 100 * usUnits) d else d

/-! ### Fields and words -/

/-- What a field with a value shows in word k of its register. -/
def fldPart (f : Fld) (v k : Nat) : Nat := v * 2 ^ f.lo / 2 ^ (32 * k) % 2 ^ 32

/-- The field has bits in word k. -/
def inWord (f : Fld) (k : Nat) : Bool := decide (f.lo / 32 ≤ k ∧ k ≤ (f.lo + f.w - 1) / 32)

/-- The field is wider than one word. -/
def spanning (f : Fld) : Bool := decide (f.lo / 32 ≠ (f.lo + f.w - 1) / 32)

/-- Bring a value into the range of its field (R46, R77, R101, R462 and the like). -/
def clampFld (f : Fld) (v : Nat) : Nat :=
  match f.lim with
  | none => v
  | some (lo, hi) => if lo < 0 then ofSigned f.w (clampI lo hi (toSigned f.w v)) else (clampI lo hi v).toNat

/-- The holding registers of a master (R11, R537). -/
def heldVal (m key : Nat) (d : Dev) : Nat := (tabGet none d.held (8 * key + m)).getD 0
def setHeld (m key v : Nat) (d : Dev) : Dev := { d with held := tabSet none d.held (8 * key + m) (some v) }

/-- A key for the whole of a register instance, beside the keys of its fields. -/
def entryKey (p : Place) : Nat := (p.reg.base + instOffset p.reg.dims p.ix) * 1024 + 1023

/-- The whole value of a register instance. -/
def wholeReg (p : Place) (d : Dev) : Nat := p.reg.flds.foldl (fun acc f => acc + rd f p.ix d * 2 ^ f.lo) 0

/-- A field as word k of its register is read: its bits there, and what the read leaves (R8, R11); TOP_TEMP.tj_peak is loaded with the current
reading in place of zero (R579). -/
def readFld (m : Nat) (p : Place) (f : Fld) (d : Dev) : Nat × Dev :=
  if !inWord f p.word then (0, d)
  else
    let after : Nat := if f.base = TOP_TEMP_tj_peak.base then rd TOP_TEMP_tj [] d else 0
  let clear := fun (d : Dev) => if f.acc = .rc then wr f p.ix after d else d
    let v := rd f p.ix d
    if spanning f && (f.acc == .ro || f.acc == .rc) then
      if p.word = f.lo / 32 then (fldPart f v p.word, clear (setHeld m (fldKey f p.ix) v d)) else (fldPart f (heldVal m (fldKey f p.ix) d) p.word, d)
    else (fldPart f v p.word, clear d)

/-- All fields of a word. -/
def readFlds (m : Nat) (p : Place) (fs : List Fld) (acc : Nat) (d : Dev) : Nat × Dev :=
  match fs with
  | [] => (acc, d)
  | f :: rest => let (v, d) := readFld m p f d; readFlds m p rest (acc + v) d

/-- A read of a register word. A flow-table entry is copied whole by its first word (R283), and the two registers of a delay are one value. -/
def readPlace (m : Nat) (p : Place) (d : Dev) : Nat × Dev :=
  let d := refresh p.reg.base p.ix d
  let part := fun (v : Nat) => v / 2 ^ (32 * p.word) % 2 ^ 32
  if p.reg.base = FLW_RX.base ∨ p.reg.base = FLW_TX.base then
    let valid := if p.reg.base = FLW_RX.base then rdB FLW_RX_valid p.ix d else rdB FLW_TX_valid p.ix d
    let d := if p.word = 0 then setHeld m (entryKey p) (if valid then wholeReg p d else 0) d else d
    (part (heldVal m (entryKey p) d), d)
  else if p.reg.base = XPT_DST_DELAY.base then
    (rd XPT_DST_DELAY_do_nib p.ix d, setHeld m (entryKey p) (rd XPT_DST_DELAY_HI_do_nib_hi p.ix d) d)
  else if p.reg.base = XPT_DST_DELAY_HI.base then (heldVal m (entryKey { p with reg := XPT_DST_DELAY }) d, d)
  else readFlds m p p.reg.flds 0 d

/-! ### What stands outside the register tables: the MSI-X structures and the gain table (R402, R534) -/

/-- Word w of the pending bit array. -/
def pendingWord (w : Nat) (d : Dev) : Nat :=
  if w = 0 then (List.range 16).foldl (fun acc v => if Nat.testBit d.irq.owed v && vectorMasked v d then acc + 2 ^ v else acc) 0 else 0

/-- Send every message that nothing holds back any more. -/
def sendAll (d : Dev) : Dev := forUpTo 16 sendOwed d

/-- A write to a word of the MSI-X table; unmasking a vector sends what it owes (R535). -/
def msixWrite (w v : Nat) (d : Dev) : Dev :=
  let dflt : Nat := if w % 4 = 3 then 1 else 0
  sendAll { d with irq := { d.irq with table := tabSet dflt d.irq.table w (if w % 4 = 3 then v % 2 else v % 2 ^ 32) } }

/-- A read of one word at an offset that a master may read: its value, and what the read leaves. -/
def readWord (m off : Nat) (d : Dev) : Nat × Dev :=
  if 0x8000 ≤ off ∧ off < 0x8100 then (msixWord ((off - 0x8000) / 4) d, d)
  else if 0x9000 ≤ off ∧ off < 0x9008 then (pendingWord ((off - 0x9000) / 4) d, d)
  else if 0x3800000 ≤ off ∧ off < 0x3C00000 then (gainEntry ((off - 0x3800000) / 4) d, d)
  else
    match (blockOf off).bind (fun b => placeOf b off) with
    | some p => readPlace m p d
    | none => (0, d)

/-! ### Writes -/

/-- The function that owns the RWP fields of a register instance (R12). -/
def ownerOf (base : Nat) (ix : List Nat) : Option Nat :=
  let i := ix.headD 0
  if 0x200100 ≤ base ∧ base < 0x200500 then some (fFam i)
  else if base = LNS_OCT_SYNTH.base then some (fOct i)
  else if base = LNS_MODE.base ∨ base = LNS_TX_TAP.base ∨ base = SDI_OUT_CFG.base then some (fOct (i / 8))
  else if 0x1000000 ≤ base ∧ base < 0x1030000 then some (fMac i)
  else if 0x3100000 ≤ base ∧ base < 0x31C0000 then some (fDram i)
  else if 0x3201000 ≤ base ∧ base < 0x3202000 then some (fHead i)
  else if base = GTH_CFG.base then some fGather
  else if 0x3C10000 ≤ base ∧ base < 0x3C20000 then some (fTdm i)
  else if 0x3C20000 ≤ base ∧ base < 0x3C30000 then some (fAin i)
  else if 0x3C30000 ≤ base ∧ base < 0x3C40000 then some (fAout i)
  else if 0x3D01000 ≤ base ∧ base < 0x3D02800 then some (fSeam i)
  else none

/-- A layer's head may change to another: both heads are STOPPED, or not one of the 16 (R343). -/
def headMovable (l new : Nat) (d : Dev) : Bool :=
  let stopped := fun (h : Nat) => decide (16 ≤ h) || funcState (fHead h) d == 0
  stopped (rd QLT_SH_CFG_head [l] d) && stopped new

/-- An RWP field of a register instance may take a value now (R12). -/
def rwpOpen (p : Place) (f : Fld) (v : Nat) (d : Dev) : Bool :=
  if p.reg.base = QLT_SH_CFG.base then headMovable (p.ix.headD 0) v d
  else match ownerOf p.reg.base p.ix with
    | some k => funcState k d == 0
    | none => f.acc == .rwp

/-- A malformed NTW leaves its register unchanged (R6). -/
def wellFormedValue (base v : Nat) : Bool := !(base == RUL_NTW_SET.base || base == UPD_ACT_AT.base) || (ntwOfWord v).isSome

/-- The words of a multi-word value that a master has staged (R11, R537). -/
def stageKey (m : Nat) (p : Place) (f : Fld) (k : Nat) : Nat := (fldKey f p.ix * 64 + k) * 8 + m
def stagedWord (m : Nat) (p : Place) (f : Fld) (k : Nat) (d : Dev) : Nat := (tabGet none d.staged (stageKey m p f k)).getD (fldPart f (rd f p.ix d) k)

/-- The value that a write of a word gives a field that host software writes, where the write gives it one: a multi-word value takes effect
with its highest word (R11). -/
def writtenValue (m : Nat) (p : Place) (f : Fld) (w : Nat) (d : Dev) : Option Nat :=
  if !inWord f p.word then none
  else if spanning f then
    let top := (f.lo + f.w - 1) / 32
    if p.word ≠ top then none
    else
      let all := (List.range top).foldl (fun acc k => acc + stagedWord m p f k d * 2 ^ (32 * k)) (w % 2 ^ 32 * 2 ^ (32 * top))
      some (clampFld f (all / 2 ^ f.lo % 2 ^ f.w))
  else some (clampFld f (w % 2 ^ 32 / 2 ^ (f.lo % 32) % 2 ^ f.w))

/-- A word of a multi-word value below its highest is staged; the highest empties the stage. -/
def stageWrite (m : Nat) (p : Place) (f : Fld) (w : Nat) (d : Dev) : Dev :=
  if !spanning f || !inWord f p.word then d
  else if p.word = (f.lo + f.w - 1) / 32 then forUpTo p.word (fun k d => { d with staged := tabDel d.staged (stageKey m p f k) }) d
  else { d with staged := tabSet none d.staged (stageKey m p f p.word) (some (w % 2 ^ 32)) }

/-- One field under a write, by its access type (R8); the answer says whether R12 rejects it. -/
def writeFld (m : Nat) (p : Place) (f : Fld) (w : Nat) (d : Dev) : Dev × Bool :=
  if !inWord f p.word then (d, false)
  else
    match f.acc with
    | .rw =>
      let v := writtenValue m p f w d
      let d := stageWrite m p f w d
      (match v with | some v => if wellFormedValue p.reg.base v then wr f p.ix v d else d | none => d, false)
    | .rwp =>
      let v := writtenValue m p f w d
      let d := stageWrite m p f w d
      (match v with
       | some v => if rd f p.ix d = v then (d, false) else if rwpOpen p f v d then (wr f p.ix v d, false) else (d, true)
       | none => (d, false))
    | .w1c => let b := w % 2 ^ 32 / 2 ^ (f.lo % 32) % 2 ^ f.w; let v := rd f p.ix d; (wr f p.ix (v - Nat.land v b) d, false)
    | .w1s => let b := w % 2 ^ 32 / 2 ^ (f.lo % 32) % 2 ^ f.w; (wr f p.ix (Nat.lor (rd f p.ix d) b) d, false)
    | _ => (d, false)

/-- All fields of a word; whether any was rejected. -/
def writeFlds (m : Nat) (p : Place) (fs : List Fld) (w : Nat) (rej : Bool) (d : Dev) : Dev × Bool :=
  match fs with
  | [] => (d, rej)
  | f :: rest => let (d, r) := writeFld m p f w d; writeFlds m p rest w (rej || r) d

/-- A write was rejected: the block's sticky bit and its source (R12, R443). -/
def rejected (p : Place) (d : Dev) : Dev :=
  if p.reg.base = SDI_OUT_CFG.base then fire 119 (wr SDI_OUT_STICKY_rej_write p.ix 1 d)
  else if p.reg.base = QLT_SH_CFG.base then fire 193 (wr QLT_STATUS_rej_write [] 1 d)
  else match ownerOf p.reg.base p.ix with | some k => rejectWrite k d | none => d

/-- A severity word as it can be: FS0000 to FS0003 keep their severity, reserved sources read IGNORE (R442, R445). -/
def gradable (r w : Nat) : Nat :=
  (List.range 16).foldl (fun acc j =>
    let n := 16 * r + j
    acc + 4 ^ j * (if n < 4 then sourceSeverity n else if sourceListed n then w / 4 ^ j % 4 else 0)) 0

/-- What follows from a field's new value at once. -/
def afterWrite (p : Place) (before d : Dev) : Dev :=
  let b := p.reg.base
  let i := p.ix.headD 0
  if b = TOP_IRQ_EN.base then dropDisabled d
  else if b = RUL_REF_CFG.base ∨ b = RUL_REF_FP_PERIOD.base ∨ b = RUL_REF_FP_OFFSET.base then candRewritten i d
  else if b = RUL_PTP_CFG.base ∨ b = RUL_PTP_VLAN.base then candRewritten (2 + i) d
  else if b = BLT_SEV.base then
    let d := wr BLT_SEV_sevs [i] (gradable i (rd BLT_SEV_sevs [i] d)) d
    let old := tabGet (rd BLT_SEV_sevs [i] before) before.blt.sevOld i
    { d with blt := { d.blt with sevOld := tabIns (tabDel d.blt.sevOld i) i old, sevBad := d.blt.sevBad.filter (fun r => r != i) } }
  else d

/-- A write by the access types of a register's fields. -/
def writeTyped (m : Nat) (p : Place) (w : Nat) (d : Dev) : Dev :=
  let (d', rej) := writeFlds m p p.reg.flds w false d
  let d' := afterWrite p d d'
  if rej then rejected p d' else d'

/-- What the Thimble's engines would find about the staged offer, where the write itself does not say: free values. -/
def freeView (d : Dev) : OfferView × Dev :=
  let (a, d) := takeFree 16 d
  let (b, d) := takeFree 17 d
  let (c, d) := takeFree 18 d
  ({ romKey := a % 2 == 1, sigOk := b % 2 == 1, flash := c % 2 == 1 }, d)

/-- A write to UPD_CMD: each command in its order of bits. Whether a signature verifies or the flash fails is a free value here. -/
def updCommand (w : Nat) (d : Dev) : Dev :=
  let bit := fun (k : Nat) (g : Dev → Dev) (d : Dev) => if Nat.testBit w k then g d else d
  let putFree := fun (d : Dev) => let (a, d) := takeFree 18 d; updPut (a % 2 == 1) d
  let offerFree := fun (d : Dev) => let (v, d) := freeView d; updOffer v d
  bit 5 updRevert (bit 4 updApprove (bit 3 updActivate (bit 2 updAbort (bit 1 putFree (bit 0 offerFree d)))))

/-- A write to SEA_CMD (R434, R435). -/
def seaCommand (w : Nat) (d : Dev) : Dev :=
  let d := if Nat.testBit w 0 then resync d else d
  if Nat.testBit w 1 then handoverAsked d else d

/-- A write to BLT_CMD (R448, R457). -/
def bltCommand (w : Nat) (d : Dev) : Dev :=
  let d := if Nat.testBit w 0 then releasePin d else d
  if Nat.testBit w 1 then { d with blt := { d.blt with safeRelease := true } } else d

/-- A write to RUL_CMD (R56, R69). -/
def rulCommand (w : Nat) (d : Dev) : Dev :=
  let d := if Nat.testBit w 0 then requestStep (Nat.testBit w 1) d else d
  clrHoldoff (bitsOf w 13 8) d

/-- A write to BLT_INJ (R460). -/
def injectFault (w : Nat) (d : Dev) : Dev := if testMode d && Nat.testBit w 15 then fire (w % 2048) d else d

/-- A write to a layer's shadow registers (R343, R346). -/
def shadowWrite (m : Nat) (p : Place) (w : Nat) (d : Dev) : Dev :=
  let l := p.ix.headD 0
  if layerReserved l d then wr QLT_STATUS_rej_write [] 1 d
  else if layerPending l d then fire 197 (wr QLT_STATUS_busy [] 1 d)
  else writeTyped m p w d

/-- A write to a coefficient bank or colour program (R348). -/
def bankWrite (m : Nat) (p : Place) (w : Nat) (d : Dev) : Dev :=
  let k := p.ix.headD 0
  let prog := decide (0x3300000 ≤ p.reg.base)
  if (if prog then progInUse k d else bankInUse k d) then inUseWrite d else writeTyped m p w d

/-- A write of a register word. -/
def writePlace (m : Nat) (p : Place) (w : Nat) (d : Dev) : Dev :=
  let b := p.reg.base
  let i := p.ix.headD 0
  if b = RUL_CMD.base then rulCommand w d
  else if b = DUC_PAUSE_CFG.base then pauseCfgWrite (w % 128) d
  else if b = XPT_DOORBELL.base then doorbell (Nat.testBit w 0) (Nat.testBit w 1) d
  else if b = XPT_MBX_HDR.base then mailboxWrite i none (p.ix.getD 1 0) (w % 2 ^ 32) d
  else if b = XPT_MBX_REC.base then mailboxWrite i (some (p.ix.getD 1 0)) (p.ix.getD 2 0) (w % 2 ^ 32) d
  else if b = LNS_EYE_CTRL.base ∧ Nat.testBit w 0 then scanStart i w d
  else if b = MAC_PAUSE.base then pauseEnWrite i (Nat.testBit w 0) d
  else if b = INK_OVL.base then overlayFlip i (Nat.testBit w 0) d
  else if b = INK_CAP_CTRL.base then captureStart (Nat.testBit w 0) (bitsOf w 2 1) (bitsOf w 27 16) d
  else if b = DRC_SPEED.base then speedWrite i (w % 8) d
  else if b = QLT_SH_COMMIT.base then (if Nat.testBit w 0 then layerCommit i d else d)
  else if 0x3210000 ≤ b ∧ b < 0x3220000 then shadowWrite m p w d
  else if (0x3240000 ≤ b ∧ b < 0x3248100) ∨ (0x3300000 ≤ b ∧ b < 0x3400000) then bankWrite m p w d
  else if b = GTH_BQ.base then biquadWrite i (p.ix.getD 1 0) (p.ix.getD 2 0) (w % 2 ^ 32) d
  else if b = SEA_CMD.base then seaCommand w d
  else if b = BLT_CMD.base then bltCommand w d
  else if b = BLT_INJ.base then injectFault w d
  else if b = THM_ATT_CTRL.base then (if Nat.testBit w 0 then attestStart d else d)
  else if b = UPD_CMD.base then updCommand w d
  else writeTyped m p w d

/-- A write of one word at an offset that a master may write. -/
def writeWord (m off w : Nat) (d : Dev) : Dev :=
  if 0x8000 ≤ off ∧ off < 0x8100 then msixWrite ((off - 0x8000) / 4) w d
  else if 0x3800000 ≤ off ∧ off < 0x3C00000 then gainWrite ((off - 0x3800000) / 4) w d
  else
    match (blockOf off).bind (fun b => placeOf b off) with
    | some p => writePlace m p w d
    | none => d

/-! ### Requests (R530, R543) -/

/-- An access to one word: the value read where it is served, and what it leaves. -/
def accessRead (m off : Nat) (parity : Bool) (d : Dev) : Option Nat × Dev :=
  match blockOf off with
  | none => (none, defaultTarget m off false d)
  | some b =>
    if !hasPath m d then (none, defaultTarget m off false d)
    else if !parity then (none, parityError m off false d)
    else let (v, d) := readWord m off (holdAccess b d); (some v, d)

/-- A write access to one word, and whether it was served. -/
def accessWrite (m off : Nat) (x : Beat) (d : Dev) : Bool × Dev :=
  match blockOf off with
  | none => (false, defaultTarget m off true d)
  | some b =>
    if !hasPath m d then (false, defaultTarget m off true d)
    else if !x.parity then (true, parityError m off true d)
    else if !x.enabled then (true, refuseEnables m off true d)
    else (true, writeWord m off x.data (holdAccess b d))

/-- Words read in ascending order up to the first error response. -/
def readFrom (m off n : Nat) (acc : List Nat) (d : Dev) : List Nat × Bool × Dev :=
  match n with
  | 0 => (acc, true, d)
  | n + 1 =>
    match accessRead m off true d with
    | (some v, d) => readFrom m (off + 4) n (acc ++ [v]) d
    | (none, d) => (acc, false, d)

/-- Words written in ascending order: for the in-band agent up to the first error response (R545), else all of them. -/
def writeFrom (m off : Nat) (stop : Bool) (xs : List Beat) (done : Nat) (d : Dev) : Nat × Bool × Dev :=
  match xs with
  | [] => (done, true, d)
  | x :: rest =>
    let (ok, d) := accessWrite m off x d
    if !ok && stop then (done, false, d)
    else let (n, all, d) := writeFrom m (off + 4) stop rest (if ok then done + 1 else done) d; (n, ok && all, d)

/-- The endpoint takes memory requests: the link is up and the function in D0 (R527, R531). -/
def pcieOpen (d : Dev) : Bool := rdB TOP_PCIE_ST_link_up [] d && rd TOP_PCIE_ST_dstate [] d == 0

/-- The master can present an access at all. -/
def canAsk (m : Nat) (d : Dev) : Bool := m != 2 || pcieOpen d

/-- A read completes with an error: Completer Abort on PCIe (R530). -/
def readFails (m : Nat) (d : Dev) : Dev := emit (.errorResponse m) (if m = 2 then count TOP_PCIE_CNT_ca_sent [] 1 d else d)

/-- A host master's read request of words; a word without all its byte enables makes the whole of it fail (R530). -/
def hostRead (m off n : Nat) (enabled parity : Bool) (d : Dev) : Dev :=
  if !canAsk m d then d
  else if !enabled then readFails m (refuseEnables m off false d)
  else if !parity then readFails m (accessRead m off false d).2
  else
    let (vs, ok, d) := readFrom m off n [] d
    if ok then forEach vs (fun v d => emit (.readData m v) d) d else readFails m d

/-- A host master's write request. -/
def hostWrite (m off : Nat) (xs : List Beat) (d : Dev) : Dev :=
  if !canAsk m d then d else (writeFrom m off false xs 0 d).2.2

/-! ### The Pattern loader and firmware (R533) -/

/-- Word k of a register takes a value whatever its access types. -/
def putPlace (p : Place) (w : Nat) (d : Dev) : Dev :=
  forEach p.reg.flds (fun f d =>
    if !inWord f p.word || f.acc == .wo then d
    else
      let all := rd f p.ix d * 2 ^ f.lo
      let rest := all - all / 2 ^ (32 * p.word) % 2 ^ 32 * 2 ^ (32 * p.word)
      wr f p.ix ((rest + w % 2 ^ 32 * 2 ^ (32 * p.word)) / 2 ^ f.lo) d) d

/-- A write of the Pattern loader. -/
def loaderWrite (off w : Nat) (d : Dev) : Dev :=
  if 0x3800000 ≤ off ∧ off < 0x3C00000 then putGain ((off - 0x3800000) / 4) w d
  else match (blockOf off).bind (fun b => placeOf b off) with
    | some p =>
      if p.reg.base = GTH_BQ.base then biquadWrite (p.ix.headD 0) (p.ix.getD 1 0) (p.ix.getD 2 0) (w % 2 ^ 32) d
      else if p.reg.base = DUC_PAUSE_CFG.base then pauseCfgWrite (w % 128) d
      else afterWrite p d (putPlace p w d)
    | none => d

end Sys2Proof.Machine
end

