-- ==== Sys2Proof/Machine/Pattern.lean ====
section
/-! DEFINITION. The Pattern: the checks of R471, the validation of R472, and its application (R469 to R474). -/

namespace Sys2Proof.Machine

/-! ### The header (R469) -/

/-- Bytes of the Pattern image stored in a slot, in order of its pieces. -/
def patImage (i : Img) : List Nat := (sortBy (·.1) i.data).flatMap (·.2)

/-- The first bytes of the image. -/
def patHead (i : Img) : List Nat := ((i.data.find? (fun p => p.1 == 0)).map (·.2)).getD []

/-- A big-endian field of n bytes. -/
def patField (h : List Nat) (off n : Nat) : Nat := (List.range n).foldl (fun acc k => 256 * acc + h.getD (off + k) 0) 0

def patVersion (h : List Nat) : Nat := patField h 0x10 8
def patLength (h : List Nat) : Nat := patField h 0x18 4

/-- Bytes of the header that must be zero. -/
def patZero (h : List Nat) : Bool := ([0x1E, 0x1F, 0x2C, 0x2D, 0x2E, 0x2F] ++ (List.range 200).map (fun k => 0x38 + k)).all (fun i => h.getD i 0 == 0)

/-- An error of TOP_PAT_ERR: its code and section. -/
abbrev PatErr := Nat × Nat

/-- The whole image (R472). -/
def wholeImage : Nat := 0xFFFF

/-- Check 1 of R471 as TOP_PAT_ERR tells it apart (R488). -/
def headerErr (h : List Nat) (d : Dev) : Option PatErr :=
  let n := patLength h
  let k := patField h 0x1C 2
  if patField h 0 4 ≠ 0x425A5054 ∨ patField h 4 2 ≠ 1 ∨ patField h 6 2 ≠ 256 then some (1, wholeImage)
  else if !patZero h || !decide (1048576 ≤ n ∧ n ≤ 16711680) || !decide (1 ≤ k ∧ k ≤ 256) then some (1, wholeImage)
  else if patField h 8 4 ≠ 0x2416 ∨ 256 * rd TOP_ID_letter [] d + rd TOP_ID_digit [] d < patField h 0x0C 4 then some (2, wholeImage)
  else if rd TOP_FW_VER_version [] d < patField h 0x24 4 then some (3, wholeImage)
  else none

/-- The Thimble holds a valid Pattern key of this identifier (R489, R492). -/
def patKeyHeld (key : Nat) (d : Dev) : Bool := d.nv.keys && d.nv.owners.any (fun o => o.1 == key && o.2.1 && !o.2.2)

/-! ### The section table (R470, R471) -/

/-- The section table of n entries lies within the image of a length, its sections lie after it, before the signature, and do not overlap. -/
def tableOk (n length : Nat) (ss : List PatSection) : Bool :=
  let first := 256 + 48 * n
  let within := fun (s : PatSection) => s.offset % 64 == 0 && decide (first ≤ s.offset ∧ s.offset + s.stored + 96 ≤ length)
  let apart := fun (a b : PatSection) => decide (a.offset + a.stored ≤ b.offset) || decide (b.offset + b.stored ≤ a.offset)
  ss.length == n && decide (first + 96 ≤ length) && ss.all within && decide (ss.Pairwise (fun a b => apart a b = true))

/-- The position of the first section that has a property. -/
def firstSection (ss : List PatSection) (f : PatSection → Bool) : Option Nat := ss.findIdx? f

/-- A section of this type is there. -/
def hasSection (ss : List PatSection) (t : Nat) : Bool := ss.any (fun s => s.type == t)

/-- The section types that a Pattern must hold (R473). -/
def requiredTypes (x : Pat) : List Nat :=
  let ports := x.sources.any (fun s => match s.producer with | .port _ => true | .mix _ => true | _ => false) || x.dests.any (fun t => t.kind == 7)
  let flows := x.sources.any (fun s => !s.rx.isEmpty) || x.dests.any (fun t => !t.tx.isEmpty) || x.control.isSome
  let heads := x.sources.any (fun s => match s.producer with | .head _ => true | _ => false) || !x.layers.isEmpty || !x.conv.isEmpty || x.res.any (fun r => !r.pool.isEmpty)
  let sdi := x.sources.any (fun s => match s.producer with | .sdi _ => true | _ => false) || x.dests.any (fun t => t.kind == 1)
  [1, 2, 5, 8, 9] ++ (if x.res.any (fun r => !r.drams.isEmpty) then [4] else []) ++ (if flows || x.res.any (fun r => !r.macs.isEmpty) then [6] else [])
    ++ (if x.members.any (fun m => m.role != 0) then [7] else []) ++ (if sdi then [10] else []) ++ (if flows then [11] else [])
    ++ (if heads then [12] else []) ++ (if ports then [13] else [])

/-! ### Validation (R472) -/

/-- No two entries of a list are equal. -/
def distinct (xs : List Nat) : Bool := xs.eraseDups.length == xs.length

def fmtOk (x : Pat) (e : Nat) : Bool := x.formats.any (fun p => p.1 == e)
def srcOk (x : Pat) (n : Nat) : Bool := x.sources.any (fun s => s.num == n)
def famOk (n : Nat) (d : Dev) : Bool := decide (n < 16) && famPeriod n d != 0

/-- A member that the Pattern names: one that the fabric section lists, or any where it lists none. -/
def memberOk (x : Pat) (m : Nat) : Bool := decide (m < 24) && (x.members.isEmpty || x.members.any (fun q => q.num == m))

def memberRole (x : Pat) (m : Nat) : Nat := ((x.members.find? (fun q => q.num == m)).map (·.role)).getD 0

/-- The fabric section: its numbers, links and limits (R415, R428). -/
def fabricOk (x : Pat) : Bool :=
  let leaves := x.members.filter (fun m => m.role == 1)
  let spines := x.members.filter (fun m => m.role == 2)
  let linkOk := fun (m : FabMember) (k : FabLink) =>
    decide (k.link < 24 ∧ 1 ≤ k.lanes ∧ k.lanes ≤ 8) && k.peer != m.num
      && (match x.members.find? (fun q => q.num == k.peer) with
          | some q => q.links.any (fun b => b.link == k.peerLink && b.peer == m.num && b.peerLink == k.link)
          | none => false)
      && (if m.role = 1 then memberRole x k.peer == 2 else if m.role = 2 then memberRole x k.peer == 1 else true)
  let whole := leaves.all (fun m => spines.all (fun s => m.links.any (fun k => k.peer == s.num)))
  let limits := leaves.isEmpty && spines.isEmpty || decide (1 ≤ leaves.length ∧ leaves.length ≤ 16 ∧ 1 ≤ spines.length ∧ spines.length ≤ 8)
  let bare := spines.all (fun m => !x.sources.any (fun s => s.member == m.num) && !x.dests.any (fun t => t.member == m.num))
  distinct (x.members.map (·.num)) && x.members.all (fun m => decide (m.num < 24 ∧ m.role ≤ 3 ∧ m.links.length ≤ 24) && distinct (m.links.map (·.link)) && m.links.all (linkOk m))
    && whole && limits && bare && (x.members.isEmpty || (memberOk x x.master && memberOk x x.standby)) && decide (1 ≤ x.annLead ∧ x.annLead ≤ 15)

/-- The device section's control flow (R541). -/
def controlOk (x : Pat) : Bool :=
  match x.control with
  | none => true
  | some c => decide (1 ≤ c.legs.length ∧ c.legs.length ≤ 2) && decide (c.keys.length ≤ 4) && distinct (c.keys.map (·.1)) && c.keys.all (fun k => decide (k.1 < 4)
      && (match k.2 with | some ps => decide (ps.length ≤ 8) | none => true))

/-- The DRAM section: channels, and at most two fixed-delay channels, each with its set (R323). -/
def dramOk (x : Pat) : Bool :=
  x.res.all (fun r => distinct (r.drams.map (·.1)) && r.drams.all (fun q => decide (q.1 < 12)) && decide ((r.drams.filter (fun q => q.2.1)).length ≤ 2)
    && (match r.capture with | some c => r.drams.any (fun q => q.1 == c) | none => true))
    && decide (x.delaySets.length ≤ 2) && x.delaySets.all (fun s => decide (s.channel < 12))
    && x.res.all (fun r => r.drams.all (fun q => !q.2.1 || x.delaySets.any (fun s => s.channel == q.1)))

/-- Families and formats (R35, R36, R48, R92); the device reads the families from their registers. -/
def familiesOk (x : Pat) (d : Dev) : Bool :=
  let geometry := fun (n : Nat) =>
    activeFits { lines := famLines n d, activeLines := rd DUC_FAM_ACTIVE_active_lines [n] d, scan := rd DUC_FAM_TIMING_scan [n] d, field2Line := rd DUC_FAM_TIMING_field2_line [n] d }
  famOk 0 d && (List.range 16).all (fun n => famPeriod n d == 0 || (famCheck n d && geometry n))
    && distinct (x.formats.map (·.1)) && x.formats.all (fun p => decide (p.1 < 256) && activeFits p.2)

/-- A source that holds its slot from start-up on (R584), and the channels and slots that such sources need in all. -/
def permanentOk (x : Pat) (d : Dev) : Bool :=
  (placeMembers d).all (fun m =>
    let own := x.sources.filter (fun s => isPermanent s && placeMember s.member d == m)
    let slots := (own.map (fun s => if s.stream = 3 then 0 else slotsFor (sourceRate s d))).sum
    let chans := (own.map (fun s => if bringsRun s then s.channels else 0)).sum
    decide (slots ≤ ownSlots d ∧ chans ≤ 31744))

/-- Sources and destinations: numbers, references, the limits of R108, R118 and R584. -/
def routesOk (x : Pat) (d : Dev) : Bool :=
  let src := fun (s : SrcDesc) =>
    decide (s.num < 65535 ∧ s.stream ≤ 3 ∧ s.channels ≤ 64 ∧ s.rate < 4) && memberOk x s.member && (s.stream == 3 || (famOk s.fam d && fmtOk x s.fmt))
  let dst := fun (t : DstDesc) =>
    decide (t.num < 65535 ∧ t.index < 1536 ∧ 1 ≤ t.kind ∧ t.kind ≤ 7 ∧ t.channels ≤ 64 ∧ t.rate < 4 ∧ t.policy ≤ 3 ∧ t.secondary ≤ 3 ∧ t.priority ≤ 3) && memberOk x t.member
      && (t.kind == 4 || t.kind == 7 || (famOk t.fam d && fmtOk x t.fmt && decide (t.doNib < max 1 (famPeriod t.fam d)))) && (t.prot == 65535 || srcOk x t.prot)
  let group := fun (m : Nat) => distinct ((x.dests.filter (fun t => placeMember t.member d == m)).map (·.index))
  distinct (x.sources.map (·.num)) && distinct (x.dests.map (·.num)) && x.sources.all src && x.dests.all dst && (x.dests.map (fun t => placeMember t.member d)).eraseDups.all group && permanentOk x d

/-- SDI inputs and outputs (R178, R204, R205, R215). -/
def sdiOk (x : Pat) (d : Dev) : Bool :=
  let lanesOk := fun (iface : Nat) (ls : List Nat) =>
    let n := ifaceLinks iface
    let l := ls.headD 0
    iface != 0 && ls == (List.range n).map (l + ·) && l % n == 0 && decide (l + n ≤ 192)
  let input := fun (s : SrcDesc) =>
    match s.producer with
    | .sdi ls => let f := fmtOf s.fmt d; lanesOk f.iface ls && decide (s.channels ≤ ifaceChannels f.iface * (if f.iface = 0 then 0 else 1))
    | _ => true
  let output := fun (t : DstDesc) =>
    t.kind != 1 || (lanesOk (fmtOf t.fmt d).iface t.lanes && (placeMember t.member d != selfMember d || t.lanes.all (fun l => laneClocked l d)))
  x.sources.all input && x.dests.all output

/-- A leg names what it must (R244, R582). -/
def legOkay (l : Leg) : Bool := decide (l.mac < 48 ∧ l.dport < 65536) && (match l.vlan with | some v => decide (v < 4096) | none => true)

/-- A receive descriptor has the fields that its kind needs, in their ranges (R244, R582). -/
def rxOk (x : Pat) (s : SrcDesc) (r : RxDesc) (d : Dev) : Bool :=
  let inSome := fun (v : Option Nat) (lo hi : Nat) => match v with | some v => decide (lo ≤ v ∧ v ≤ hi) | none => false
  let picture := (match r.fmt with | some e => fmtOk x e | none => false) && (match r.fam with | some n => famOk n d | none => false)
  let p := rxPeriod r d
  let common := r.source == s.num && decide (1 ≤ r.legs.length ∧ r.legs.length ≤ 2) && r.legs.all legOkay && decide (r.window ≤ 1693440000) && (r.legs.length == 2 || r.window == 0)
  let kind :=
    if r.kind = 0 then picture && inSome r.npackets 1 262143 && inSome r.rxType 0 2 && decide (r.troAdj ≤ p / 2)
    else if r.kind = 4 then picture && inSome r.npackets 1 262143 && decide (r.troAdj ≤ p / 2)
    else if r.kind = 3 then picture && decide (r.troAdj ≤ p / 2)
    else if r.kind = 1 ∨ r.kind = 2 then
      inSome r.rate 0 3 && inSome r.channels 1 64 && (if r.kind = 1 then inSome r.encoding 0 1 else inSome r.encoding 2 2)
        && (match r.spp with | some n => [6, 12, 16, 24, 32, 48, 96].contains n | none => false)
        && decide (r.spp.getD 48 ≤ rxDra r ∧ rxDra r * rxTs r ≤ 1693440000)
    else if r.kind = 5 then (match r.fam with | some n => famOk n d | none => false) && r.peak.isSome && inSome r.drOp 0 p
    else r.kind == 6
  common && kind

/-- A transmit descriptor has the fields that its kind needs, in their ranges (R265, R583). -/
def txOk (r : TxDesc) : Bool :=
  let sizeOk := fun (need : Bool) => match r.payloadMax with | some n => decide (200 ≤ n ∧ n ≤ 8960) | none => !need
  let common := decide (1 ≤ r.legs.length ∧ r.legs.length ≤ 2) && r.legs.all (fun l => legOkay l && l.sport.isSome) && r.ssrc.isSome
    && (match r.pt with | some n => decide (96 ≤ n ∧ n ≤ 127) | none => false)
  let kind :=
    if r.kind = 0 ∨ r.kind = 3 then sizeOk true && r.shapingW.isSome
    else if r.kind = 1 ∨ r.kind = 2 then
      sizeOk false && (match r.channels with | some n => decide (1 ≤ n ∧ n ≤ 64) | none => false)
        && (match r.spp with | some n => [6, 12, 16, 24, 32, 48, 96].contains n | none => false)
        && (match r.encoding with | some n => if r.kind = 1 then decide (n ≤ 1) else n == 2 | none => false)
    else (r.kind == 4 || r.kind == 5) && sizeOk false
  common && kind

/-- The descriptors a destination owns (R583). -/
def txCounts (t : DstDesc) : Bool :=
  let n := fun (k : Nat) => (t.tx.filter (fun r => r.kind == k)).length
  let audio := n 1 + n 2
  let chans : Nat := (t.tx.map (fun r => if isAudio r.kind then r.channels.getD 0 else 0)).sum
  decide (chans ≤ 64) &&
    (if t.kind = 2 then n 0 == 1 && decide (n 3 ≤ 1 ∧ audio ≤ 8) && n 4 == 0 && n 5 == 0
     else if t.kind = 3 then n 4 == 1 && t.tx.length == 1
     else if t.kind = 4 then decide (1 ≤ audio ∧ audio ≤ 8) && t.tx.length == audio
     else if t.kind = 5 then n 3 == 1 && t.tx.length == 1
     else if t.kind = 6 then n 5 == 1 && t.tx.length == 1
     else t.tx.isEmpty)

/-- The largest payload of a transmit descriptor's packets, its payload header included (R265, R275). -/
def txLargest (r : TxDesc) : Nat :=
  if r.kind = 0 ∨ r.kind = 3 then r.payloadMax.getD 8960 + 8
  else if r.kind = 4 then 1384
  else if isAudio r.kind then r.channels.getD 0 * sampleBytes (r.encoding.getD 2) * r.spp.getD 48
  else r.payloadMax.getD 8960

/-- Every frame of a flow fits its MAC (R233). -/
def txFits (r : TxDesc) (d : Dev) : Bool := r.kind == 5 || r.legs.all (fun l => decide (wireLen l (txLargest r) ≤ rd MAC_CFG_max_frame [l.mac] d))

/-- The receive descriptors of a member. -/
def memberRx (x : Pat) (m : Nat) (d : Dev) : List RxDesc := (x.sources.filter (fun s => placeMember s.member d == m)).flatMap (·.rx)

/-- No two legs can match the same packet in the same pass (R247). -/
def keysApart (ls : List Leg) : Bool := decide ((ls.map (fun l => (legPass l, legKey l))).Pairwise (fun a b => a ≠ b))

/-- Resident flows fit the tables (R163). -/
def residentOk (rs : List RxDesc) : Bool :=
  let res := rs.filter (·.resident)
  let buckets := res.flatMap (fun r => r.legs.map (fun l => flowBucket (legKey l)))
  decide (res.length ≤ 16384) && buckets.all (fun b => decide ((buckets.filter (· == b)).length ≤ 4))

/-- The demands on each MAC's pages stay within its share (R254). -/
def poolOk (rs : List RxDesc) (d : Dev) : Bool :=
  (List.range 48).all (fun m => decide ((rs.map (fun r => if poolMac r = m then poolDemand r d else 0)).sum ≤ rd FLW_POOL_share [m] d))

/-- Receive and transmit descriptors, and pool shares (R163, R233, R247, R254, R582, R583). -/
def flowsOk (x : Pat) (d : Dev) : Bool :=
  let control := (x.control.map (·.legs)).getD []
  x.sources.all (fun s => s.rx.all (fun r => rxOk x s r d)) && x.dests.all (fun t => t.tx.all (fun r => txOk r && txFits r d) && txCounts t)
    && (placeMembers d).all (fun m => let rs := memberRx x m d; keysApart (control ++ rs.flatMap (·.legs)) && residentOk rs)
    && poolOk (memberRx x (selfMember d) d) d && decide (((List.range 48).map (fun m => rd FLW_POOL_share [m] d)).sum ≤ 32768)

/-- Heads, conversion and layers refer to what is defined. -/
def quiltOk (x : Pat) (d : Dev) : Bool :=
  x.conv.all (fun q => fmtOk x q.1 && fmtOk x q.2.1) && x.layers.all (fun q => memberOk x (q.1 / 512)) &&
    x.res.all (fun r => r.pool.all (fun h => decide (h < 16)) && distinct r.pool && r.overlays.all (fun q => decide (q.1 < 16) && famOk q.2.1 d && fmtOk x q.2.2.1)) &&
    x.sources.all (fun s => match s.producer with | .head h => decide (h < 16) | _ => true)

/-- Ports, mixes and feeds refer to what exists. -/
def audioOk (x : Pat) : Bool :=
  x.sources.all (fun s => match s.producer with | .port p => decide (p < 16) | .mix o => decide (o + s.channels ≤ 512) | _ => true)
    && x.dests.all (fun t => t.kind != 7 || decide (t.port ≤ 16))

/-- Pins name what is defined. -/
def pinsOk (x : Pat) : Bool :=
  x.pins.all (fun p => decide (p.what ≤ 6) && (if p.what = 0 ∨ p.what = 5 ∨ p.what = 6 ∨ p.what = 3 then x.dests.any (fun t => t.num == p.item) || p.what == 6 else if p.what = 1 ∨ p.what = 2 then srcOk x p.item else true))

/-- Whether the sections of a type pass, on a device to which the Pattern has been applied. -/
def sectionOk (t : Nat) (x : Pat) (d : Dev) : Bool :=
  if t = 1 then fabricOk x && controlOk x
  else if t = 4 then dramOk x
  else if t = 8 then familiesOk x d
  else if t = 9 then routesOk x d
  else if t = 10 then sdiOk x d
  else if t = 11 then flowsOk x d
  else if t = 12 then quiltOk x d
  else if t = 13 then audioOk x
  else if t = 14 then pinsOk x
  else true

/-! ### Application (R473) -/

/-- The writes of the sections of one type. -/
def applySections (t : Nat) (x : Pat) (d : Dev) : Dev :=
  forEach (x.sections.filter (fun s => s.type == t)) (fun s d => forEach s.writes (fun w d => loaderWrite w.1 w.2 d) d) d

/-- This member's place in the fabric, and the announcement lead (R415, R426, DUC_FABRIC). -/
def applyFabric (x : Pat) (d : Dev) : Dev :=
  let m := selfMember d
  let role := memberRole x m
  let self := role != 0 && x.master == m
  let d := wr SEA_FABRIC_topo [] role (wr SEA_FABRIC_master [] x.master (wr SEA_FABRIC_standby [] x.standby d))
  let d := wr DUC_FABRIC_role [] (if role = 0 then 0 else if self then 2 else if x.standby = m then 3 else 1) (wr DUC_FABRIC_ann_lead [] x.annLead d)
  if role = 0 then d else wr SEA_TIME_acting [] x.master (wrB SEA_TIME_self_acting [] self (wr SEA_TIME_hop [] (if self then 0 else 255) d))

/-- What the registers of a destination show before its first record (R108, R488). -/
def applyDst (x : DstDesc) (d : Dev) : Dev :=
  let i := x.index
  let d := wr XPT_DST_ID_num [i] x.num (wr XPT_DST_ID_kind [i] x.kind (wr XPT_DST_SRC_prot [i] x.prot d))
  let d := wr XPT_DST_POLICY_policy [i] x.policy (wr XPT_DST_POLICY_secondary [i] x.secondary (wrB XPT_DST_POLICY_revert [i] x.revert (wr XPT_DST_POLICY_revert_frames [i] x.revertFrames d)))
  let d := wr XPT_DST_FMT_fam [i] x.fam (wr XPT_DST_FMT_fmt [i] x.fmt (wrB XPT_DST_FMT_direct [i] x.direct d))
  let d := wr XPT_DST_DELAY_do_nib [i] x.doNib (wr XPT_DST_DELAY_HI_do_nib_hi [i] (x.doNib / 2 ^ 32) d)
  wr TLR_DST_MAP_priority [i] x.priority (wrBit BLT_DST_SAFE_hold [i / 32] (i % 32) x.safeHold d)

/-- What the registers of an SDI input show (R205). -/
def applySdiIn (s : SrcDesc) (d : Dev) : Dev :=
  match s.producer with
  | .sdi (l :: rest) =>
    let n := rest.length + 1
    let d := wr SDI_IN_CFG_fmt [l] s.fmt (wr SDI_IN_CFG_fam [l] s.fam (wr SDI_IN_CFG_links [l] (if n = 4 then 2 else if n = 2 then 1 else 0) d))
    wrB SDI_IN_CFG_psid_req [l] s.psidReq (wr SDI_IN_CFG_audio_ch [l] s.channels (wr SDI_IN_CFG_defined [l] 1 d))
  | _ => d

/-- The layers that the Pattern sets are in use from the start: their active settings are the shadow's. -/
def applyLayerRegs (d : Dev) : Dev :=
  let pairs := (QLT_SH_CFG_head, QLT_AC_CFG_head) :: (QLT_SH_MCH_even, QLT_AC_MCH_even) :: (QLT_SH_MCH_odd, QLT_AC_MCH_odd) :: (placementFields ++ otherFields)
  { d with regs := d.regs.foldl (fun t p => match pairs.find? (fun q => fldKey q.1 [] == keyNo p.1) with
    | some q => tabSet 0 t (1024 * keyOffset p.1 + fldKey q.2 []) p.2
    | none => t) d.regs }

/-- The registers that follow from the Pattern's tables. -/
def applyTables (x : Pat) (d : Dev) : Dev :=
  let d := applyFabric x { d with pat := x }
  let r := resOf (selfMember d) d
  let mask := fun (xs : List Nat) => xs.foldl (fun acc k => Nat.lor acc (2 ^ k)) 0
  let d := wr TLR_CFG_fixed_mask [] (mask ((r.drams.filter (fun q => q.2.1)).map (·.1))) (wr TLR_CFG_conv_pool [] (mask r.pool) d)
  let d := forEach (localDsts d) applyDst d
  forEach (x.sources.filter (fun s => twinned d || s.member == selfMember d)) applySdiIn d

/-- The whole Pattern takes effect, section type by section type. -/
def applyPattern (x : Pat) (d : Dev) : Dev :=
  let d := applyTables x d
  let d := forEach ((List.range 14).map (· + 1)) (fun t d => applySections t x d) d
  let d := applyLayerRegs d
  match x.control with
  | none => d
  | some c => wr ICN_IB_ST_enabled [] 1 (wr ICN_IB_ST_keys [] (c.keys.foldl (fun acc k => Nat.lor acc (2 ^ k.1)) 0) d)

/-! ### The outcome (R471, R472, R474) -/

/-- Checks 4 to 6 of R471. -/
def sectionErr (h : List Nat) (x : Pat) : Option PatErr :=
  if !tableOk (patField h 0x1C 2) (patLength h) x.sections then some (6, wholeImage)
  else match firstSection x.sections (fun s => s.encrypted && !s.opens) with
    | some i => some (7, i)
    | none =>
      match firstSection x.sections (fun s => s.critical && !decide (1 ≤ s.type ∧ s.type ≤ 14)) with
      | some i => some (8, i)
      | none => if (requiredTypes x).all (hasSection x.sections) then none else some (8, wholeImage)

/-- The first failing position of the validation. -/
def validationErr (x : Pat) (d : Dev) : Option PatErr :=
  let d := applyPattern x d
  (x.sections.findIdx? (fun s => !sectionOk s.type x d)).map (fun i => (9, i))

/-- The error of a Pattern image in a slot; none where it may be applied. -/
def patternErr (i : Option Img) (v : PatView) (d : Dev) : Option PatErr :=
  match i with
  | none => some (1, wholeImage)
  | some i =>
    if !v.readOk then some (10, wholeImage)
    else
      let h := patHead i
      match headerErr h d with
      | some e => some e
      | none =>
        if !patKeyHeld (patField h 0x20 4) d then some (4, wholeImage)
        else if !v.sigOk then some (5, wholeImage)
        else match sectionErr h v.pat with
          | some e => some e
          | none => validationErr v.pat d

/-- The device stays unconfigured (R474). -/
def refusePattern (e : PatErr) (d : Dev) : Dev :=
  let d := wr TOP_PAT_ERR_code [] e.1 (wr TOP_PAT_ERR_section [] e.2 (wr TOP_BOOT_ST_phase [] 8 d))
  fire 256 (wr TOP_STICKY_pat_fail [] 1 d)

/-- Firmware has read, checked and applied the Pattern, or refuses it. -/
def patternApplyDone (v : PatView) (d : Dev) : Dev :=
  let phase := rd TOP_BOOT_ST_phase [] d
  if phase ≠ 1 ∧ phase ≠ 2 then d
  else
    let slot := slotOf (bootSlot d) d
    match patternErr slot.pat v d with
    | some e => refusePattern e d
    | none =>
      let i := slot.pat.getD {}
      let version := patVersion (patHead i)
      let d := applyPattern { v.pat with version := version, digest := Config.sha384 (patImage i) } d
      wr TOP_PAT_ID_pat_version [] version (wr TOP_BOOT_ST_phase [] 3 d)

/-- The checks of a Pattern that a session holds, against the running firmware (R502). -/
def sessionPatErr (v : PatView) (d : Dev) : Nat :=
  match openSess d with
  | some s => match patternErr (some (sessionImage s)) v d with | some e => e.1 | none => 0
  | none => 0

end Sys2Proof.Machine
end

