-- ==== Sys2Proof/Machine/Boot.lean ====
section
/-! DEFINITION. From release to serving: the boot ROM, the start-up input, serving, and the route memory's journal (R463 to R480, R506 to R515). -/

namespace Sys2Proof.Machine

/-! ### The boot ROM (R465 to R467, R506 to R508) -/

/-- The ROM verifies the firmware of a slot (R508). -/
def romVerifies (ok : Bool) (k : Nat) (d : Dev) : Bool :=
  match (slotOf k d).fw with
  | none => false
  | some i =>
    let t := hdrType i.hdr
    ok && hdrFormOk i.hdr && hdrPartOk i.hdr d && (if d.nv.keys then t == 1 else t == 4) && (t != 1 || decide (d.nv.rbFw ≤ hdrRollback i.hdr))

/-- What the ROM decides: the boot record it leaves, the slot it boots (none: ROM_FAIL), and whether that is the other slot under R466. -/
structure RomChoice where
  nv : Nv
  slot : Option Nat := none
  other : Bool := false

/-- Read the record and verify (R508). -/
def romChoose (okA okB : Bool) (d : Dev) : RomChoice :=
  let nv := d.nv
  let good := fun (k : Nat) => romVerifies (if k = 0 then okA else okB) k d
  let a := nv.active
  let b := 1 - nv.active
  let bootB := if good b then some b else none
  if nv.trial then
    if 3 ≤ nv.trialBoots then { nv := fallbackRecord 3 nv, slot := bootB }
    else if good a then { nv := { nv with trialBoots := nv.trialBoots + 1, generation := nv.generation + 1 }, slot := some a }
    else { nv := fallbackRecord 5 { nv with generation := nv.generation + 1 }, slot := bootB, other := true }
  else if good a then { nv := nv, slot := some a }
  else if nv.prevState = 0 then { nv := nv, slot := bootB, other := true }
  else { nv := nv }

/-- An activation whose record was never written left its session READY (R501). -/
def settleSession (nv : Nv) : Nv :=
  { nv with sess := nv.sess.map (fun s => if s.state = 4 && !nv.trial then { s with state := 3 } else s) }

/-- The ROM starts the Scribe on a slot's firmware. -/
def startScribe (slot : Nat) (other : Bool) (d : Dev) : Dev :=
  let d := wr TOP_BOOT_ST_slot [] slot (wrB TOP_BOOT_ST_fallback [] other (wr TOP_BOOT_ST_phase [] 1 d))
  let d := wr TOP_FW_VER_version [] (hdrField (runningHdr d) 0x14 4) { d with boot := { d.boot with window := d.nv.trial } }
  let d := if other then fire 257 d else d
  if d.nv.owesFallback then fire 278 { d with nv := { d.nv with owesFallback := false } } else d

/-- The ROM has read the boot record and verified firmware. What flash and OTP hold is supplied once, by the first ROM that reads them; every
start takes a new boot identifier (R541). -/
def romVerifyDone (v : RomView) (d : Dev) : Dev :=
  if rd TOP_BOOT_ST_phase [] d ≠ 0 then d
  else
    let nv := if d.nv.known then d.nv else { v.found with known := true }
    let nv := if nv.eraseStarted && !nv.testOpen then { nv with keys := false, testOpen := true } else nv
    let d := { d with nv := nv }
    let r := romChoose v.okA v.okB d
    let (id, d) := takeFree 20 { d with nv := settleSession r.nv }
    let d := showThimble (showUpdate (wr ICN_IB_BOOT_boot [] id d))
    let d := if d.nv.testOpen then fire 281 d else d
    match r.slot with
    | some k => startScribe k r.other d
    | none => wr TOP_BOOT_ST_phase [] 9 d

/-! ### The start-up input and serving (R475 to R477, R515) -/

/-- A function that the Pattern enables has left STARTING. -/
def pastStarting (k : Nat) (d : Dev) : Bool :=
  let f := funcOf k
  !funcEn k d || (funcState k d != 1 && (funcState k d != 0 || rdB f.startErr f.errIx d))

/-- Every enabled octet and DRAM channel has (R475). -/
def startUpReady (d : Dev) : Bool := (List.range 24).all (fun o => pastStarting (fOct o) d) && (List.range 12).all (fun c => pastStarting (fDram c) d)

/-- Firmware meets a settings format that it cannot read (R515). -/
def settingsForeign (d : Dev) : Bool := (routeOf d).items.any (fun x => !readsFormat x.fmt d)

/-- The start-up input at a tick. -/
def startUpInput (d : Dev) : Dev :=
  if rd TOP_BOOT_ST_phase [] d ≠ 3 || !startUpReady d then d
  else
    let d := atGrid 52920000 0 5 d
    let restore := sequences d
    if restore && settingsForeign d then fallBack 4 (fire 279 { d with boot := { d.boot with incompatible := true } })
    else
      let d := startUp restore d
      let d := if restore && !(routeOf d).usable then setRoute {} d else d
      let d := { d with boot := { d.boot with configuredAt := d.devTime } }
      if restore then wr TOP_BOOT_ST_phase [] 5 d else wr TOP_BOOT_ST_phase [] 10 { d with sea := { d.sea with waitFrom := d.devTime } }

/-- At a frame boundary of FAM00: the device serves from the first at which FAM00 is RUNNING and the start-up input applied (R476). -/
def serveCheck (d : Dev) : Dev :=
  if rd TOP_BOOT_ST_phase [] d = 5 ∧ famRunning 0 d then wr TOP_SERVE_AT_ntw [] (ntwWord d.ntw) (wr TOP_BOOT_ST_phase [] 6 d) else d

/-- 60 s since the device was configured. -/
def serveTimeout (d : Dev) : Dev :=
  let p := rd TOP_BOOT_ST_phase [] d
  if (p ≠ 5 ∧ p ≠ 10) || d.boot.serveLate then d
  else
    let d := advanceDev (d.boot.configuredAt + 60 * secUnits) d
    fire 265 { d with boot := { d.boot with serveLate := true } }

/-! ### The journal (R479) -/

/-- A flash operation of firmware fails: its block is retired. -/
def flashFails (d : Dev) : Dev := fire 263 (wr TOP_STICKY_flash_err [] 1 (count TOP_ROUTE_ST_retired [] 1 d))

/-- An item lags by more than 1 s. -/
def lags (d : Dev) : Bool := match d.journal.head? with | some j => decide (j.at_ + secUnits < d.devTime) | none => false

/-- The oldest item that waits becomes durable, or its write fails. -/
def journalEntry (ok : Bool) (d : Dev) : Dev :=
  match d.journal with
  | [] => d
  | j :: rest =>
    if !ok then flashFails d
    else
      let r := routeOf d
      let d := setRoute { r with items := r.items ++ [{ j with at_ := 0, fmt := writesFormat d }] } { d with journal := rest }
      let d := if j.kind = 0 then wr TOP_ROUTE_SEQ_durable_seq [] (j.data.headD 0) d else d
      if lags d then d else { d with boot := { d.boot with lagFired := false } }

/-- A new checkpoint is complete and verified, or its write fails. -/
def checkpoint (ok : Bool) (d : Dev) : Dev := if ok then setRoute { routeOf d with usable := true } d else flashFails d

/-- The oldest item is not durable 1 s after its event. -/
def durabilityLag (d : Dev) : Dev :=
  match d.journal with
  | [] => d
  | j :: _ =>
    if d.boot.lagFired then d
    else
      let d := advanceDev (j.at_ + secUnits + 1) d
      fire 262 (wr TOP_STICKY_route_lag [] 1 { d with boot := { d.boot with lagFired := true } })

end Sys2Proof.Machine
end

