-- ==== Sys2Proof/Machine/Host.lean ====
section
/-! DEFINITION. The PCIe endpoint's events, the in-band agent, and what resets a master (R527 to R531, R535, R539 to R545). -/

namespace Sys2Proof.Machine

/-! ### PCIe (R528, R531) -/

/-- A burst that an event cuts off, of a master (R540). -/
def cutBurst (m : Nat) (c : Option Cut) (d : Dev) : Dev :=
  match c with
  | some c => resetAbort m c.offset c.write c.target d
  | none => d

/-- Configuration space, the MSI-X table and PBA, and TOP_IRQ_EN. -/
def resetConfig (d : Dev) : Dev :=
  let d := wr TOP_PCIE_ST_bme [] 0 (wr TOP_PCIE_ST_msix_en [] 0 (wr TOP_PCIE_ST_msix_fmask [] 0 (wr TOP_PCIE_ST_dstate [] 0 d)))
  wr TOP_IRQ_EN_en [] 0 { d with irq := { d.irq with table := [], owed := 0 } }

/-- The link goes down. -/
def linkFalls (d : Dev) : Dev :=
  if rdB TOP_PCIE_ST_link_up [] d then
    let d := wr TOP_PCIE_ST_speed [] 0 (wr TOP_PCIE_ST_width [] 0 (wr TOP_PCIE_ST_link_up [] 0 d))
    fire 292 (count TOP_PCIE_CNT_link_downs [] 1 (wr TOP_PCIE_STICKY_link_down [] 1 d))
  else d

/-- An edge of PCIE_PERST_N. -/
def perstEdge (low : Bool) (c : Option Cut) (d : Dev) : Dev :=
  if low then wr TOP_PCIE_STICKY_perst [] 1 (resetConfig (linkFalls (cutBurst 2 c { d with pins := { d.pins with perstLow := true } })))
  else { d with pins := { d.pins with perstLow := false }, icn := { d.icn with perstAt := d.devTime } }

/-- A hot reset, or the loss of the link. -/
def hotReset (hot : Bool) (c : Option Cut) (d : Dev) : Dev :=
  let d := resetConfig (linkFalls (cutBurst 2 c d))
  if hot then wr TOP_PCIE_STICKY_hot_reset [] 1 d else d

/-- A function level reset. -/
def functionReset (c : Option Cut) (d : Dev) : Dev := wr TOP_PCIE_STICKY_flr [] 1 (resetConfig (cutBurst 2 c d))

/-- The link trains to L0. -/
def linkTrains (speed width : Nat) (d : Dev) : Dev :=
  if d.pins.perstLow then d else wr TOP_PCIE_ST_speed [] speed (wr TOP_PCIE_ST_width [] width (wr TOP_PCIE_ST_link_up [] 1 d))

/-- Configuration requests are still answered with retry status (R528): device time runs from the release of PORST_N. -/
def configRetry (d : Dev) : Bool := decide (d.devTime < d.icn.perstAt + 100 * msUnits)

/-- A configuration request; `set`: Bus Master Enable, MSI-X Enable, Function Mask and D3hot, where it writes them. -/
def configRequest (set : Option (Bool × Bool × Bool × Bool)) (d : Dev) : Dev :=
  if !rdB TOP_PCIE_ST_link_up [] d then d
  else if configRetry d then emit (.config true) d
  else
    match set with
    | none => emit (.config false) d
    | some (bme, en, mask, d3) =>
      let d := wrB TOP_PCIE_ST_bme [] bme (wrB TOP_PCIE_ST_msix_en [] en (wrB TOP_PCIE_ST_msix_fmask [] mask (wr TOP_PCIE_ST_dstate [] (if d3 then 3 else 0) d)))
      emit (.config false) (sendAll (dropDisabled d))

/-! ### Holdoffs and masks (R535) -/

/-- The holdoff of a vector expires. -/
def holdoffEnd (v : Nat) (d : Dev) : Dev :=
  if !Nat.testBit d.irq.holding v then d
  else
    let d := advanceDev (tabGet 0 d.irq.holdEnd v) d
    sendOwed v { d with irq := { d.irq with holding := withBit d.irq.holding v false, holdEnd := tabDel d.irq.holdEnd v } }

/-- The function (none) or a vector is unmasked. -/
def vectorUnmask (v : Option Nat) (d : Dev) : Dev :=
  match v with
  | none => sendAll (wr TOP_PCIE_ST_msix_fmask [] 0 d)
  | some v => msixWrite (4 * v + 3) 0 d

/-! ### BAR2 (R306) -/

/-- An access of a master through BAR2: it waits for a waking channel, then reads n bytes or writes bytes at their offsets. -/
def windowAccess (m off n : Nat) (write : Option (List (Nat × Nat))) (d : Dev) : Dev :=
  if !canAsk m d then d
  else if m = 3 ∨ 5 < m ∨ (m = 5 ∧ !d.nv.testOpen) then emit (.errorResponse m) (defaultTarget m off write.isSome d)
  else
    let d := match bar2Channel off d with | some c => wakeChannel c d | none => d
    match write with
    | none => forUpTo n (fun k d => emit (.readData m (bar2Read (off + k) d)) d) d
    | some bs =>
      let full := decide (bs.map (·.1) = List.range bs.length)
      if full then bar2Write off (bs.map (·.2)) d else forEach bs (fun b d => bar2Write (off + b.1) [b.2] d) d

/-! ### Timeouts and test access (R539, R540) -/

/-- An access that no target answers within 10 ms. `late`: a write's words that complete at their target afterwards. -/
def accessTimesOut (m off target : Nat) (write : Bool) (late : List Nat) (d : Dev) : Dev :=
  let d := advanceDev (d.devTime + 10 * msUnits) d
  let d := accessTimeout m off write target d
  let d := if write then d else readFails m d
  if write then
    forEach ((List.range late.length).zip late) (fun q d => if target = 3 then bar2Write (off + 4 * q.1) (beBytes 4 q.2) d else writeWord m (off + 4 * q.1) q.2 d) d
  else d

/-! ### Control operations (R543, R545) -/

/-- The size of the BAR that an operation works in. -/
def opSpace (o : CtlOp) : Nat := if o.code ≤ 2 then 0x4000000 else 0x40000000

/-- BAD_OP of R545. -/
def opBad (o : CtlOp) : Bool :=
  !decide (1 ≤ o.code ∧ o.code ≤ 4) || !decide (1 ≤ o.count ∧ o.count ≤ 2048) || o.offset % 4 != 0 || !decide (o.offset + 4 * o.count ≤ opSpace o)

/-- Bytes that an operation adds to the reply. -/
def opReply (o : CtlOp) : Nat := 4 + (if o.code = 1 ∨ o.code = 3 then 4 * o.count else 0)

/-- The status word of an operation. -/
def opStatus (code done : Nat) : Nat := code * 2 ^ 24 + done

/-- Run one operation through the in-band agent: whether it succeeded, its status and read data. -/
def runOp (o : CtlOp) (d : Dev) : Bool × List Nat × Dev :=
  if o.code = 1 then
    let (vs, ok, d) := readFrom 1 o.offset o.count [] d
    (ok, opStatus (if ok then 0 else 1) vs.length :: vs, d)
  else if o.code = 2 then
    let (n, ok, d) := writeFrom 1 o.offset true ((List.range o.count).map (fun k => ({ data := o.data.getD k 0 } : Beat))) 0 d
    (ok, [opStatus (if ok then 0 else 1) n], d)
  else
    let d := match bar2Channel o.offset d with | some c => wakeChannel c d | none => d
    if o.code = 3 then
      let word := fun (k : Nat) => (List.range 4).foldl (fun acc b => 256 * acc + bar2Read (o.offset + 4 * k + b) d) 0
      (true, opStatus 0 o.count :: (List.range o.count).map word, d)
    else
      (true, [opStatus 0 o.count], forUpTo o.count (fun k d => bar2Write (o.offset + 4 * k) (beBytes 4 (o.data.getD k 0)) d) d)

/-- Run operations in order; those after an error are not run. -/
def runOps (os : List CtlOp) (acc : List Nat) (d : Dev) : List Nat × Dev :=
  match os with
  | [] => (acc, d)
  | o :: rest =>
    let (ok, ws, d) := runOp o d
    if ok then runOps rest (acc ++ ws) d else (acc ++ ws ++ rest.map (fun _ => opStatus 4 0), d)

/-- The first operation that makes the whole request fail, with its code (R545). -/
def checkOps (os : List CtlOp) (i size : Nat) : Option (Nat × Nat) :=
  match os with
  | [] => none
  | o :: rest => if opBad o then some (i, 2) else if 8192 < size + opReply o then some (i, 3) else checkOps rest (i + 1) (size + opReply o)

/-- Execute a request: the plaintext of its reply as words. -/
def runRequest (os : List CtlOp) (d : Dev) : List Nat × Dev :=
  match checkOps os 0 0 with
  | some (i, code) => ((List.range os.length).map (fun k => if k = i then opStatus code 0 else opStatus 4 0), d)
  | none => runOps os [] (count ICN_IB_CNT0_executed [] 1 d)

/-- A single operation of a request, run and answered on its own. -/
def singleOp (o : CtlOp) (d : Dev) : Dev :=
  if inSafe d || !rdB ICN_IB_ST_enabled [] d then d
  else let (ws, d) := runRequest [o] d; emit (.control 2 0 0 ws) d

/-! ### Control datagrams (R544) -/

def ibKey (k : Nat) (d : Dev) : IbKey := tabGet {} d.icn.keys k
def setIbKey (k : Nat) (x : IbKey) (d : Dev) : Dev := { d with icn := { d.icn with keys := tabSet {} d.icn.keys k x } }

/-- A reply leaves on the MAC its request came from. -/
def sendControl (r : CtlReq) (kind : Nat) (ws : List Nat) (d : Dev) : Dev :=
  let plain := if kind = 3 then 0 else 4 * ws.length + 16
  emit (.control kind r.key r.seq ws) (offerMgmt r.mac { len := 32 + plain + 8 + (if r.v6 then 40 else 20) + 18 } d)

/-- A sender of at most 100 replies a second to a source. -/
def rateOk (t : Tab (Nat × Nat)) (src : Nat) (d : Dev) : Bool × Tab (Nat × Nat) :=
  let s := ntwSecond d + 1
  let (last, n) := tabGet (0, 0) t src
  let n := if last = s then n else 0
  if n < 100 then (true, tabSet (0, 0) t src (s, n + 1)) else (false, t)

/-- The key slot is defined and the source permitted. -/
def peerOk (r : CtlReq) (d : Dev) : Bool :=
  match d.pat.control with
  | none => false
  | some c => c.keys.any (fun k => k.1 == r.key && (match k.2 with | none => true | some ps => ps.contains r.src))

/-- A sequence number is new (R544). -/
def seqNew (k seq : Nat) (d : Dev) : Bool :=
  let high := rd ICN_IB_SEQ_seq [k] d
  decide (high < seq) || (decide (seq < high ∧ high ≤ seq + 64) && !(ibKey k d).seen.contains seq)

/-- Note an accepted number and the reply kept for it. -/
def noteSeq (k seq : Nat) (reply : List Nat) (d : Dev) : Dev :=
  let high := max (rd ICN_IB_SEQ_seq [k] d) seq
  let x := ibKey k d
  setIbKey k { any := true, seen := (seq :: x.seen).filter (fun q => decide (high ≤ q + 64)), replies := ((seq, reply) :: x.replies).take 16 } (wr ICN_IB_SEQ_seq [k] high d)

/-- A request whose boot identifier is another. -/
def staleRequest (r : CtlReq) (d : Dev) : Dev :=
  let (ok, t) := rateOk d.icn.stale r.src d
  let d := count ICN_IB_CNT1_stale [] 1 { d with icn := { d.icn with stale := t } }
  if ok then sendControl r 3 [] d else d

/-- A datagram at the control entry. -/
def controlRequest (r : CtlReq) (d : Dev) : Dev :=
  if !rdB ICN_IB_ST_enabled [] d then d
  else if inSafe d then count ICN_IB_CNT2_dropped_safe [] 1 d
  else if !r.formOk || r.kind != 1 then count ICN_IB_CNT1_malformed [] 1 d
  else if !peerOk r d then count ICN_IB_CNT1_auth_fail [] 1 d
  else if !r.tagOk then firePerSecond 293 197100 (wr ICN_STATUS_auth_fail [] 1 (count ICN_IB_CNT1_auth_fail [] 1 d))
  else if r.boot ≠ rd ICN_IB_BOOT_boot [] d then staleRequest r d
  else if seqNew r.key r.seq d then
    let (ws, d) := runRequest r.ops d
    sendControl r 2 ws (noteSeq r.key r.seq ws d)
  else
    match (ibKey r.key d).replies.find? (fun p => p.1 == r.seq) with
    | some p => sendControl r 2 p.2 (count ICN_IB_CNT0_resent [] 1 d)
    | none => firePerSecond 294 197101 (wr ICN_STATUS_replay [] 1 (count ICN_IB_CNT1_replay [] 1 d))

/-! ### Update messages in band (R504) -/

/-- Firmware takes an update message from a source. -/
def updatesTaken (d : Dev) : Bool := rdB UPD_CFG_inband_en [] d

/-- An OFFER or QUERY is answered, if its source stays within 100 a second. -/
def answerUpdate (mac src : Nat) (v6 : Bool) (work : Dev → Nat × Dev) (first : Nat) (d : Dev) : Dev :=
  if !updatesTaken d then d
  else
    let (ok, t) := rateOk d.icn.updates src d
    let d := { d with icn := { d.icn with updates := t } }
    if !ok then d else let (code, d) := work d; emit (.updateReply code first) (offerMgmt mac { len := 200 + 8 + (if v6 then 40 else 20) + 18 } d)

/-- An OFFER message. -/
def offerDatagram (mac src : Nat) (v6 : Bool) (h : List Nat) (v : OfferView) (d : Dev) : Dev := answerUpdate mac src v6 (offer h (1 + src) v) 0 d

/-- A PIECE message. -/
def pieceDatagram (digest i : Nat) (bytes : List Nat) (fails : Bool) (d : Dev) : Dev := if updatesTaken d then (putPiece (some digest) i bytes fails d).2 else d

/-- A QUERY message. -/
def queryMessage (mac src : Nat) (v6 : Bool) (digest first : Nat) (d : Dev) : Dev :=
  answerUpdate mac src v6 (fun d => ((match openSess d with | some s => if imageDigest s.hdr = digest then 0 else 9 | none => 9), d)) first d

end Sys2Proof.Machine
end

