-- ==== Sys2Proof/Machine/Electrical.lean ====
section
/-! DEFINITION. Supplies, temperature, the thermal trip, clocks, and the pins that power-up drives (21_electrical_and_package.md). -/

namespace Sys2Proof.Machine

/-! ### Resets by pins and supplies (R463, R554, R555) -/

/-- PORST_N is asserted and released; while a detector of R554 holds the device it stays held. -/
def porstPulse (memberId : Nat) (d : Dev) : Dev :=
  let held := d.pins.porstLow
  let d := powerOnReset memberId d
  { d with pins := { d.pins with porstLow := held } }

/-- A supply falls below its detector threshold for more than 2 µs: the device is held as under PORST_N. -/
def supplyFalls (d : Dev) : Dev :=
  let d := powerOnReset 0 d
  { d with pins := { d.pins with porstLow := true } }

/-- 10 ms after every supply is back, with PORST_N high: the release. -/
def supplyReturns (memberId : Nat) (d : Dev) : Dev :=
  if !d.pins.porstLow then d
  else
    let d := powerOnReset memberId d
    { d with pins := { d.pins with porstLow := false } }

/-- A supply has been outside its operating range for 10 µs (R554, R579). -/
def supplyExcursion (s : Nat) (d : Dev) : Dev :=
  fire (if s = 0 then 21 else 20) (wrBit TOP_SUPPLY_excursion [] s true (wrBit TOP_SUPPLY_in_range [] s false d))

/-! ### Temperature (R559, R560) -/

/-- A threshold source that is a level with a sticky bit. -/
def threshold (n : Nat) (sticky : Fld) (on off : Bool) (d : Dev) : Dev :=
  if rawOf n d then (if off then setRaw n false d else d)
  else if on then setRaw n true (wr sticky [] 1 d) else d

/-- The valid readings of the sixteen sensors, with their sensors. -/
def validReadings (xs : List (Option Int)) : List (Nat × Int) :=
  ((List.range 16).zip xs).filterMap (fun q => q.2.map (fun v => (q.1, v)))

/-- The highest reading, of the lowest-numbered sensor that shows it. -/
def highest (xs : List (Nat × Int)) : Option (Nat × Int) :=
  xs.foldl (fun acc q => match acc with | some b => if b.2 < q.2 then some q else some b | none => some q) none

/-- A sample of the sensors, in quarters of a degree (none: it fails its self-check), VDD_CORE in mV, and the supplies in range, at the next whole
millisecond. -/
def temperatureSample (xs : List (Option Int)) (coreMv inRange : Nat) (d : Dev) : Dev :=
  let d := atGrid 52920000 0 6 d
  let d := wr TOP_VID_core_mv [] coreMv (wr TOP_SUPPLY_in_range [] inRange d)
  let good := validReadings xs
  let okMask := good.foldl (fun acc q => acc + 2 ^ q.1) 0
  let d := wr TOP_TEMP_CFG_sensor_ok [] okMask d
  let bad := decide (okMask ≠ 0xFFFF)
  let d := threshold 22 TOP_MON_STICKY_sensor_fail bad (!bad) d
  match highest good with
  | none => d
  | some (n, t) =>
    let d := wrS TOP_TEMP_tj [] t (wr TOP_TEMP_sensor [] n d)
    let d := if rdS TOP_TEMP_tj_peak [] d < t then wrS TOP_TEMP_tj_peak [] t d else d
    let w : Int := 4 * rd TOP_TEMP_CFG_tj_warn [] d
    let d := threshold 16 TOP_MON_STICKY_warn (decide (w ≤ t)) (decide (t < w - 20)) d
    let d := threshold 17 TOP_MON_STICKY_over150 (decide (600 < t)) (decide (t ≤ 580)) d
    let d := threshold 18 TOP_MON_STICKY_over160 (decide (640 ≤ t)) (decide (t < 620)) d
    threshold 19 TOP_MON_STICKY_under40 (decide (t < -160)) (decide (-140 ≤ t)) d

/-- The thermal trip: pins to their states, and every clock stops (R560, R562). -/
def thermalTrip (d : Dev) : Dev :=
  { d with clocksStopped := true, pins := { d.pins with thermtrip := true, healthHb := false, refOutFp := false, ppsOut := false } }

/-! ### Clocks and CORE_VID (R552, R578) -/

/-- The control-domain PLL or a DRAM channel's PLL loses lock. -/
def pllLoss (d : Dev) : Dev := fire 23 (wr TOP_MON_STICKY_pll_unlock [] 1 d)

/-- The Thimble drives the unit's code; codes 21 to 31 are never driven. -/
def coreVidValid (d : Dev) : Dev :=
  let c := rd TOP_VID_code [] d
  if d.pins.coreVidValid || 20 < c then d
  else wr TOP_VID_valid [] 1 { d with pins := { d.pins with coreVid := c, coreVidValid := true } }

end Sys2Proof.Machine
end

