-- ==== Sys2Proof/Machine/Blotter.lean ====
section
/-! DEFINITION. The Blotter's state machine: entry into and exit from safe state, the pin's timer, severities at a tick, and its checks of itself
(R445 to R458). -/

namespace Sys2Proof.Machine

/-! ### FAULT_N's timer (R448) -/

/-- The minimum-width timer expires: a release that waits for it clears the latch. -/
def faultTimer (d : Dev) : Dev :=
  let d := advanceDev d.blt.timerEnd d
  if d.blt.releasePending then releasePin d else d

/-! ### Entry (R449, R450, R452, R453) -/

/-- The device enters safe state in the core cycle after a SAFE firing. -/
def safeEntry (d : Dev) : Dev :=
  if !d.blt.entryPending then d
  else
    let d := advance 1 { d with blt := { d.blt with entryPending := false } }
    if inSafe d then d
    else
      let d := wr BLT_STATUS_safe [] 1 (wr BLT_SAFE_AT_ntw [] (ntwWord d.ntw) { d with pins := { d.pins with healthHb := false } })
      let d := startMute (dropSalvos d)
      let d := forEach (localDsts d) (fun x d => txHalt x.index d) d
      seamIdle d

/-! ### Exit (R454 to R457) -/

/-- The device latches in safe state. -/
def latchSafe (d : Dev) : Dev := setRaw 1 true (wr BLT_STATUS_latched [] 1 d)

/-- What the exit applies at X. -/
def leaveSafe (d : Dev) : Dev :=
  let d := wr BLT_STATUS_safe [] 0 (wr BLT_EXIT_AT_ntw [] (ntwWord d.ntw) d)
  reportAll none (restartMigs (retrainEth (endMute d)))

/-- The quiet period has run in full, nothing stands and nothing has just fired. -/
def quietOver (d : Dev) : Bool :=
  !safeStands d && !d.blt.entryPending && decide (d.blt.quietFrom + rd BLT_QUIET_quiet_ms [] d * msUnits ≤ d.devTime)

/-- At a tick: leave safe state automatically, or latch after eight exits in 3,600 s. -/
def autoExit (d : Dev) : Dev :=
  if !inSafe d || rdB BLT_STATUS_latched [] d || !quietOver d then d
  else if 8 ≤ recentExits d then latchSafe d
  else
    let exits := (d.blt.exits.filter (fun t => decide (d.devTime < t + 3600 * secUnits))) ++ [d.devTime]
    let d := leaveSafe (count BLT_RECOV_count [] 1 { d with blt := { d.blt with exits := exits } })
    fire 3 d

/-- At a tick: safe_release takes effect. -/
def releaseAtTick (d : Dev) : Dev :=
  if !d.blt.safeRelease then d
  else
    let d := setRaw 1 false (wr BLT_STATUS_latched [] 0 { d with blt := { d.blt with safeRelease := false, exits := [] } })
    if inSafe d && !safeStands d && !d.blt.entryPending && d.blt.quietFrom ≠ d.devTime then leaveSafe d else d

/-- The exit's tick: the first at which the quiet period has run in full. -/
def safeExit (d : Dev) : Dev :=
  if !inSafe d then d
  else
    let left := d.blt.quietFrom + rd BLT_QUIET_quiet_ms [] d * msUnits - d.devTime
    autoExit (advanceTo (nextMultiple 52920000 (if left = 0 then d.ntw + 1 - cycleUnits (steering d) else d.ntw + left)) d)

/-- A write of safe_release, to its tick. -/
def safeReleaseWrite (d : Dev) : Dev := releaseAtTick (atGrid 52920000 0 8 { d with blt := { d.blt with safeRelease := true } })

/-! ### Severities at a tick (R445) -/

/-- A source whose raw state is 1 fires again where its severity has risen. -/
def regrade (r old : Nat) (d : Dev) : Dev :=
  forUpTo 16 (fun j d =>
    let n := 16 * r + j
    let sev := severityOf n d
    if 4 ≤ n && sourceListed n && rawOf n d && decide (old / 4 ^ j % 4 < sev) then fireAt sev n d else d) d

/-- Written severities take effect. A source that no longer stands at SAFE lets the quiet period run from here. -/
def severitiesTick (d : Dev) : Dev :=
  let olds := d.blt.sevOld
  if olds.isEmpty then d
  else
    let stood := safeStands d
    let d := forEach olds (fun p d => regrade p.1 p.2 d) { d with blt := { d.blt with sevOld := [] } }
    if stood && !safeStands d then { d with blt := { d.blt with quietFrom := d.devTime } } else d

/-! ### Checks of itself (R458) -/

/-- The fields of the Blotter's configuration. -/
def cfgFlds : List Fld :=
  [BLT_SEV_sevs, BLT_CTRL_pin_thr, BLT_CTRL_irq_thr, BLT_FAULTN_WIDTH_width, BLT_QUIET_quiet_ms]

/-- One word that the Pattern writes, where it is one of the Blotter's configuration. -/
def rewriteWord (w : Nat × Nat) (d : Dev) : Dev :=
  let part := fun (f : Fld) => wr f [] (w.2 / 2 ^ f.lo)
  if w.1 = BLT_CTRL.base then part BLT_CTRL_pin_thr (part BLT_CTRL_irq_thr d)
  else if w.1 = BLT_FAULTN_WIDTH.base then part BLT_FAULTN_WIDTH_width d
  else if w.1 = BLT_QUIET.base then part BLT_QUIET_quiet_ms d
  else if BLT_SEV.base ≤ w.1 ∧ w.1 < BLT_SEV.base + 512 ∧ w.1 % 4 = 0 then
    let r := (w.1 - BLT_SEV.base) / 4
    wr BLT_SEV_sevs [r] (gradable r (w.2 % 2 ^ 32)) d
  else d

/-- The Blotter's configuration as the Pattern gives it. -/
def rewriteConfig (d : Dev) : Dev :=
  let keep := fun (key : Nat) => cfgFlds.all (fun f => keyNo key != f.no % 1024)
  let d := { d with regs := d.regs.filter (fun p => keep p.1), blt := { d.blt with sevBad := [], sevOld := [], rewrite := false } }
  let ws := (d.pat.sections.filter (fun s => s.type == 3)).flatMap (·.writes)
  forEach ws rewriteWord d

/-- All bits of a word of BLT_STICKY, once an error in it cannot be corrected. -/
def stickyOnes (w : Nat) (d : Dev) : Dev := wr BLT_STICKY_bits [w] 0xFFFFFFFF d

/-- A check of the protected words finds errors. -/
def selfCheck (o : BltObs) (d : Dev) : Dev :=
  let d := if o.corrected = 0 then d else fire 2 (count BLT_SELF_ce [] o.corrected d)
  let ue := o.badSticky.length + o.badRaw + o.badSev.length + o.badCtrl
  if ue = 0 then d
  else
    let d := forEach o.badSticky stickyOnes d
    let bad := d.blt.sevBad ++ o.badSev.filter (fun r => !d.blt.sevBad.contains r)
    let d := count BLT_SELF_ue [] ue { d with blt := { d.blt with sevBad := bad, rewrite := true } }
    latchSafe (fire 0 d)

/-- The Blotter at a tick, up to the decision about the exit. -/
def blotterTick (o : BltObs) (d : Dev) : Dev :=
  let d := if d.blt.rewrite then rewriteConfig d else d
  selfCheck o (severitiesTick d)

/-- The decision about the exit, once everything that can fire at the tick has been evaluated. -/
def exitTick (d : Dev) : Dev := autoExit (releaseAtTick d)

end Sys2Proof.Machine
end

