-- ==== Sys2Proof/Machine/Events.lean ====
section
/-! DEFINITION. Events that several units take part in: the 1 ms tick, frame boundaries and switch points, and what a lane's loss or a received
frame means to the unit behind it (R21, R90 to R92, R103, R185, R197, R198, R228 to R231, R483). -/

namespace Sys2Proof.Machine

/-! ### Lanes and what they serve (R185, R198) -/

/-- A lane's loss of lock reaches its adapter. -/
def adapterLoss (l : Nat) (d : Dev) : Dev :=
  let m := rxMode l d
  if m = 1 then sdiLaneLoss l d
  else if isEthMode m then macLaneLoss l d
  else match laneLink l d with
    | some (n, i) => seamLaneLoss n i d
    | none => d

/-- A receiver declares loss (R185). -/
def receiverLoss (l : Nat) (below : Bool) (d : Dev) : Dev := if rxRuns l d then adapterLoss l (laneLoss l below d) else d

/-- An octet begins to stop, and with its lanes what they serve (R182, R485). -/
def octetStops (o : Nat) (d : Dev) : Dev :=
  let lost := ((List.range 8).map (8 * o + ·)).filter (fun l => rdB LNS_STATUS_lock [l] d)
  forEach lost adapterLoss (octStop o d)

/-- At the end of a dwell an SDI receiver that has locked informs its framer (R186, R208). -/
def huntEnds (l rate : Nat) (div : Bool) (freq : Int) (d : Dev) : Dev :=
  let d := huntDwellEnd l rate div freq d
  if rdB LNS_STATUS_lock [l] d then sdiLaneLock l d else d

/-- Synthesisers lock; an octet that comes to run lets its MACs run (R181, R224). -/
def synthesisersLock (o mask : Nat) (d : Dev) : Dev :=
  let d := synthLock o mask d
  if running (fOct o) d then octMacs o d else d

/-! ### The tick (R90) -/

/-- What the Inkwell's traffic lost (R294, R295). -/
def inkLosses (o : TickObs) (d : Dev) : Dev :=
  let d := forEach (o.shed.filter (fun p => p.2 != 0)) (fun p d =>
    firePerSecond 160 (262144 + p.1) (count INK_CH_overruns [p.1] p.2 (wr INK_STATUS_overrun [] 1 d))) d
  let d := forEach o.bad spoil d
  if o.overtakes = 0 then d else fire 161 (count INK_CNT_overtakes [] o.overtakes (wr INK_STATUS_overtake [] 1 d))

/-- What error correction finds as codewords are read (R329, R330). -/
def readErrors (es : List EccObs) (d : Dev) : Dev := forEach es (fun e d => forEach e.bad spoil (eccEvents e.channel e.ce e.ues d)) d

/-- Firmware has taken received frames and transmit timestamps from a MAC's queues (R230, R239). -/
def firmwareTook (p : Nat × Nat × Nat) (d : Dev) : Dev :=
  let r := macRun p.1 d
  showQueues p.1 (setMacRun p.1 { r with firmware := r.firmware.drop p.2.1, stamps := r.stamps.drop p.2.2 } d)

/-- The Ruling's evaluation, with what the Seam measures for it and what a step does to queued salvos (R89). -/
def timeTick (o : TickObs) (d : Dev) : Dev :=
  let d := forUpTo 24 seamTick d
  let before := d.ntw
  let d := seamAfterRuling (rulingTick o.cands o.xo d)
  if d.ntw = before then d else lateByStep d

/-- A family's function at a tick; a RUNNING family stops at its own frame boundary instead (R90, R103). -/
def famTick (n : Nat) (d : Dev) : Dev :=
  if famRunning n d then d else launchFunc (fFam n) (famCheck n) (fun d => d) (fun d => setFuncState (fFam n) 0 d) d

/-- The starts and stops that a tick launches, and the settings that it applies. -/
def tickLaunches (d : Dev) : Dev :=
  let d := forUpTo 24 (fun o d => launchFunc (fOct o) (octCheck o) (fun d => synthesisersLock o 0 (octStart o d)) (octetStops o) d) d
  let d := forUpTo 48 (fun m d => launchFunc (fMac m) (macCheck m) (macRun' m) (macStop m) d) d
  let d := forUpTo 12 (fun c d => launchFunc (fDram c) (dramCheck c) (dramStart c) (fun d => d) d) d
  let d := forUpTo 16 famTick d
  let d := forUpTo 16 (fun h d => headLaunch h false d) d
  forUpTo 24 portTick (gatherTick d)

/-- The 1 ms tick. -/
def tick (o : TickObs) (d : Dev) : Dev :=
  let d := inkLosses o (blotterTick o.blt (atTick d))
  let d := forEach o.taken firmwareTook d
  let d := exitTick (startSession (timeTick o d))
  metersTick (tickLaunches d)

/-! ### Frame boundaries and switch points (R36, R79, R90 to R92) -/

/-- A family enters RUNNING. -/
def famStarts (n : Nat) (d : Dev) : Dev := forEach (famDsts n d) dstStart (setFuncState (fFam n) 2 d)

/-- The heads of family n whose raster is their own source's. -/
def rasterHeads (n : Nat) (d : Dev) : List Nat :=
  (List.range 16).filter (fun h => headFam h d == n && running (fHead h) d && leadHead h d == h && (headRun h d).conv == 0)

/-- A family stops: its destinations send nothing, and its heads lose their raster (R485). -/
def famStops (n : Nat) (d : Dev) : Dev :=
  let d := forEach (rasterHeads n d) (fun h d => headLaunch h true (headFrameEnds h d)) d
  let d := forEach (rasterHeads n d) (fun h d =>
    let d := setHeadRun h { headRun h d with emit := none, composed := none, shots := [] } d
    match headSource h d with | some s => declareLoss s d | none => d) d
  let d := forEach (famDsts n d) (fun x d => txHalt x.index (dstStop x d)) d
  setFuncState (fFam n) 0 (setFuncState (fFam n) 3 d)

/-- Heads that run on have their raster again. -/
def rastersReturn (n : Nat) (d : Dev) : Dev :=
  forEach (rasterHeads n d) (fun h d => match headSource h d with | some s => if srcPresent s d then d else declareRecovery s d | none => d) d

/-- What FAM00's boundaries pace: serving and HEALTH_HB (R92, R453, R476). -/
def firstFamily (d : Dev) : Dev :=
  let d := serveCheck d
  if rd TOP_BOOT_ST_phase [] d = 6 ∧ !inSafe d then { d with pins := { d.pins with healthHb := !d.pins.healthHb } } else d

/-- The frame boundary of a RUNNING family. -/
def famBoundary (n : Nat) (d : Dev) : Dev :=
  let t := nibOf (tabGet 0 d.lastAt (keyFam n))
  let d := forEach (famDsts n d) (fun x d => if x.kind = 1 ∨ x.kind = 3 then sdiOutFrame x (dstFrame x.index d) else dstFrame x.index d) d
  let d := twinBoundary n (quiltFrame n t d)
  let d := if n = 0 then firstFamily d else d
  refOutFpPulse n (famPeriod n d) d

/-- The next frame boundary of family n comes; `es`: what error correction finds in what is read for its frame. -/
def frameBoundary (n : Nat) (es : List EccObs) (d : Dev) : Dev :=
  let d := readErrors es (atFrame n d)
  let st := funcState (fFam n) d
  if st = 1 ∧ rdB RUL_STATUS_time_set [] d then famBoundary n (rastersReturn n (famStarts n d))
  else if st = 2 then (if funcEn (fFam n) d || inSafe d then famBoundary n d else famStops n d)
  else d

/-- A destination's switch point, and the packets of the frame that it begins. -/
def outputSwitch (i : Nat) (d : Dev) : Dev :=
  let old := (dstRun i d).carry
  let d := switchPoint i d
  let d := if (dstAt i d).any (fun x => x.kind == 6) then opaqueSwitch i old (dstRun i d).carry d else d
  if (dstAt i d).any (fun x => famRunning (dstFam x.index d) d) then txSwitch i d else d

/-- A frame synchroniser's output instant (R298), and its choice for the partner (R436). -/
def syncOutputFrame (n : Nat) (es : List EccObs) (d : Dev) : Dev :=
  let d := readErrors es d
  let r := syncRun n d
  if !syncValid n d || r.head || !famRunning r.fam d then d else twinChoice n r.prev (syncOutput n d)

/-! ### Received frames (R197, R228 to R231) -/

/-- Symbols corrected on a lane whose receiver runs (R197). -/
def symbolsCorrected (l n : Nat) (d : Dev) : Dev := if n = 0 || !rxRuns l d then d else count LNS_SYMERR_corrected [l] n d

/-- A link comes up or goes down, with or without the partner's remote fault (R225). -/
def linkDown (m : Nat) (rfault : Bool) (d : Dev) : Dev :=
  let d := linkGoesDown m d
  if running (fMac m) d && !linkUp m d then wrB MAC_STATUS_rx_rfault [m] rfault d else d

/-- A link comes up and its groups are reported again (R279). -/
def linkRises (m : Nat) (d : Dev) : Dev :=
  let was := linkUp m d
  let d := linkComesUp m d
  if linkUp m d && !was then reportAll (some m) d else d

/-- MAC m is named in RUL_PTP_CFG. -/
def ptpMac (m : Nat) (d : Dev) : Bool := (List.range 2).any (fun k => rd RUL_PTP_CFG_mac [k] d == m)

/-- The consumer of an offered frame (R229): flow engine, firmware or none. -/
def consume (m : Nat) (f : RxFrame) (d : Dev) : Dev :=
  let arrival := ((f.arrival : Int) + rdS MAC_TS_ADJ_rx_adj [m] d).toNat
  let firmware := fun (kind : Nat) => toFirmware m kind arrival d
  let broadcast := decide (f.dmac = 0xFFFFFFFFFFFF)
  let multicast := decide (f.dmac / 2 ^ 40 % 2 = 1)
  if 2 ≤ f.tags ∨ (!multicast && f.dmac != rd MAC_ADDR_addr [m] d) then dropUnknown m d
  else
    match f.body with
    | .control _ _ => dropUnknown m d
    | .arp => firmware 0
    | .icmp => firmware 1
    | .ptp ev => if ptpMac m d then firmware (if ev then 2 else 3) else dropUnknown m d
    | .query group version =>
      let room := decide ((macRun m d).firmware.length < 64)
      let d := firmware 4
      if room then answerQuery m (if f.tags = 0 then 0 else f.vlan + 1) group version d else d
    | .ip p =>
      if p.update then firmware 5
      else if broadcast then dropUnknown m d
      else
        match flowReceive m (if f.tags = 0 then none else some f.vlan) p arrival d, p.rtp with
        | some (e, g), some r => flowPacket e g r arrival d
        | _, _ => dropUnknown m d
    | .other => dropUnknown m d

/-- A frame arrives on a MAC: R228's rows from the top. -/
def receiveFrame (m : Nat) (f : RxFrame) (d : Dev) : Dev :=
  let d := forEach ((macLanes m d).zip f.syms) (fun p d => symbolsCorrected p.1 p.2 d) d
  if !running (fMac m) d || !linkUp m d then d
  else
    let ctl := match f.body with | .control op _ => some op | _ => none
    match rxFate f.len (rd MAC_CFG_max_frame [m] d) f.dmac (rd MAC_ADDR_addr [m] d) f.bad ctl with
    | .runt => count MAC_CNT0_runt [m] 1 d
    | .oversize => count MAC_CNT0_oversize [m] 1 d
    | .fcs => count MAC_CNT0_fcs_err [m] 1 d
    | .pause => pauseFrame m (match f.body with | .control _ q => q | _ => 0) d
    | .offered => consume m f d

/-- Firmware hands over frames, and at a frame boundary on the wire the MAC takes the next one (R232). -/
def sendFrame (m : Nat) (fw : List TxFrame) (d : Dev) : Dev := (transmitFrame m (forEach fw (offerMgmt m) d)).1

/-- A Seam frame arrives on bundle lane i of link n, with its corrected symbols (R197, R418). -/
def seamReceives (n i : Nat) (f : SeamRx) (d : Dev) : Dev := seamFrame n i f (symbolsCorrected (linkLane n i d) f.symbols d)

/-- A MAC's shut-down completes (R484). -/
def macStopped (m : Nat) (d : Dev) : Dev := if funcState (fMac m) d = 3 then setFuncState (fMac m) 0 d else d

/-! ### The Blotter and test access (R458, R520, R540) -/

/-- What the Blotter's check finds counts where an access reaches its registers (R458). -/
def bltChecked (off : Nat) (o : BltObs) (d : Dev) : Dev := if 0x3E00000 ≤ off ∧ off < 0x3E02000 then selfCheck o d else d

/-- An edge of PCIE_PERST_N; a held or stopped device only sees the pin's level. -/
def perstPin (low : Bool) (c : Option Cut) (d : Dev) : Dev :=
  if d.pins.porstLow || d.clocksStopped then { d with pins := { d.pins with perstLow := low } } else perstEdge low c d

/-- TEST_EN falls: the unlock sequence starts again, and test access's burst is cut off. -/
def testEnFalls (c : Option Cut) (d : Dev) : Dev :=
  let d := cutBurst 5 c d
  { d with pins := { d.pins with testEn := false }, boot := { d.boot with unlock := [] } }

end Sys2Proof.Machine
end

