-- ==== Sys2Proof/WellFormed.lean ====
section
/-! DEFINITION. Which commands name things the device has: lanes, channels, banks and numbers inside the spec's ranges. -/

namespace Sys2Proof

/-- The operands lie in the ranges the spec gives. -/
def Instr.wf : Instr → Bool
  | .porstN memberId => decide (memberId < 32)
  | .srstN => true
  | .lockstepMismatch => true
  | .watchdogExpiry => true
  | .supplyDetector => true
  | .supplyExcursion supply => decide (supply < 7)
  | .thermalTrip => true
  | .temperatureSample sensors _ _ => decide (sensors.length = 16)
  | .pllLossOfLock => true
  | .coreVidValid => true
  | .romVerifyDone _ => true
  | .patternApplyDone _ => true
  | .startUpInput => true
  | .serveTimeout => true
  | .fabricWaitTimeout => true
  | .stateTransferStart => true
  | .tick obs => obs.shed.all (fun p => decide (p.1 < 12)) && obs.taken.all (fun p => decide (p.1 < 48))
  | .holdOffExpiry cand => decide (cand < 6)
  | .refFramePulse cand _ => decide (cand < 2)
  | .sync cand _ _ _ => decide (2 ≤ cand) && decide (cand < 4)
  | .xoInLost => true
  | .step _ => true
  | .clrHoldoff mask => decide (mask < 64)
  | .candidateConfigWrite off word => decide (0x100060 ≤ off) && decide (off < 0x1000A0) && decide (off % 4 = 0) && decide (word < 4294967296)
  | .ppsOutPulse => true
  | .pulseWidthEnd _ => true
  | .doorbell _ _ => true
  | .mailboxWrite bank record word value => decide (bank < 2) && record.all (fun r => decide (r < 4096)) && decide (word < (if record.isSome then 4 else 8)) && decide (value < 4294967296)
  | .salvoAcceptance _ => true
  | .launch => true
  | .switchPoint dst => decide (dst < 1536)
  | .audioGridSample rate => decide (rate < 4)
  | .crossfadeComplete dst channel => decide (dst < 1536) && decide (channel < 64)
  | .frameBoundary fam reads => decide (fam < 16) && reads.all (fun e => decide (e.channel < 12))
  | .dualWriteStart => true
  | .migrationCompletion => true
  | .migrationRelease => true
  | .resourceRelease => true
  | .safeStateEntry => true
  | .safeStateExit => true
  | .safeRelease => true
  | .pinRelease => true
  | .faultNTimerExpiry => true
  | .fire word => decide (word < 4294967296)
  | .retrainingPause ch => decide (ch < 12)
  | .pauseEvaluation ch _ => decide (ch < 12)
  | .pauseEnd ch => decide (ch < 12)
  | .evacuation => true
  | .placementGapTimeout => true
  | .digestSnapshot => true
  | .digestTimeout => true
  | .signalDetect lane => decide (lane < 192)
  | .huntDwellEnd lane rate _ _ => decide (lane < 192) && decide (rate < 7)
  | .lossOfLock lane _ => decide (lane < 192)
  | .synthesiserLock octet mask => decide (octet < 24) && decide (mask < 16)
  | .octetStartTimeout octet => decide (octet < 24)
  | .octetStopped octet => decide (octet < 24)
  | .trainingComplete lane _ _ _ _ _ => decide (lane < 192)
  | .trainingTimeout lane => decide (lane < 192)
  | .trainingRetry lane => decide (lane < 192)
  | .frequencyOutOfRange lane _ => decide (lane < 192)
  | .scanStart lane word => decide (lane < 192) && decide (word < 4294967296)
  | .scanDone lane _ _ _ _ => decide (lane < 192)
  | .ethRefclkLoss ref => decide (ref < 4)
  | .ethRefclkReturn ref => decide (ref < 4)
  | .synthesiserUnlock octet synth => decide (octet < 24) && decide (synth < 4)
  | .sdiLine lane _ => decide (lane < 192)
  | .st352Packet lane _ => decide (lane < 192)
  | .linkUp mac => decide (mac < 48)
  | .linkDown mac _ => decide (mac < 48)
  | .receiveFrame mac _ => decide (mac < 48)
  | .pauseExpiry mac => decide (mac < 48)
  | .pauseEnWrite mac _ => decide (mac < 48)
  | .transmitFrame mac _ => decide (mac < 48)
  | .packetOffer entry => decide (entry < 16384)
  | .packetRelease entry => decide (entry < 16384)
  | .opaqueFlowTimeout entry => decide (entry < 16384)
  | .opaqueMarkerTimeout dst => decide (dst < 1536)
  | .reportRepeat _ => true
  | .syncOutputFrame slot reads => decide (slot < 1536) && reads.all (fun e => decide (e.channel < 12))
  | .flip head => decide (head < 16)
  | .overlayExchange head => decide (head < 16)
  | .captureStart picture surf => decide (picture < 4) && decide (surf < 4096)
  | .captureDone => true
  | .bar2Access master off size _ => decide (master < 6) && decide (off + size ≤ 1073741824)
  | .trainingSubstepEnd ch _ => decide (ch < 12)
  | .speedTargetWrite ch target => decide (ch < 12) && decide (target < 8)
  | .channelStopped ch => decide (ch < 12)
  | .driftTracking ch _ => decide (ch < 12)
  | .idleTimeout ch => decide (ch < 12)
  | .selfRefreshEntered ch => decide (ch < 12)
  | .wakeComplete ch _ => decide (ch < 12)
  | .patrolScrub ch _ _ => decide (ch < 12)
  | .refreshRateRead ch _ _ => decide (ch < 12)
  | .commit layer => decide (layer < 512)
  | .layerInput layer _ => decide (layer < 512)
  | .commitLanding layer => decide (layer < 512)
  | .shadowWrite layer word value => decide (layer < 512) && decide (word < 31) && decide (value < 4294967296)
  | .bankProgramWrite off value => ((decide (0x3240000 ≤ off) && decide (off < 0x3248100)) || (decide (0x3300000 ≤ off) && decide (off < 0x3400000))) && decide (off % 4 = 0) && decide (value < 4294967296)
  | .portFrame port _ => decide (port < 16)
  | .portClockLoss port => decide (port < 16)
  | .portStopComplete port => decide (port < 24)
  | .gainWrite node word => decide (node < 1048576) && decide (word < 4294967296)
  | .biquadCoefficientWrite output biquad coef word => decide (output < 1024) && decide (biquad < 4) && decide (coef < 5) && decide (word < 4294967296)
  | .gatherStopComplete => true
  | .seamFrame link lane _ => decide (link < 24) && decide (lane < 8)
  | .seamFrameTransmit link => decide (link < 24)
  | .trainingFrame link lane _ => decide (link < 24) && decide (lane < 8)
  | .laneRejoin link lane => decide (link < 24) && decide (lane < 8)
  | .ack link _ => decide (link < 24)
  | .forward link num _ => decide (link < 24) && decide (num < 65536)
  | .announce link num _ _ _ => decide (link < 24) && decide (num < 65536)
  | .request link num _ => decide (link < 24) && decide (num < 65536)
  | .digest link num _ _ => decide (link < 24) && decide (num < 65536)
  | .twinSync link num _ _ => decide (link < 24) && decide (num < 65536)
  | .state link num _ => decide (link < 24) && decide (num < 65536)
  | .messageResend link => decide (link < 24)
  | .takeover => true
  | .timeValidExpiry => true
  | .resync => true
  | .resyncApply => true
  | .handover => true
  | .journalEntry _ => true
  | .checkpoint _ => true
  | .durabilityLag => true
  | .attestationStart => true
  | .attestationDone => true
  | .offer _ => true
  | .put _ => true
  | .offerDatagram mac _ _ _ _ => decide (mac < 48)
  | .piece _ _ _ _ => true
  | .query mac _ _ _ _ => decide (mac < 48)
  | .finalCheckDone _ _ _ => true
  | .abort => true
  | .sessionExpiry => true
  | .activate => true
  | .copyForwardDone _ => true
  | .activationInstant => true
  | .approve => true
  | .healthConfirm => true
  | .healthWindowExpiry => true
  | .unlock word => decide (word < 4294967296)
  | .testEnFall _ => true
  | .unlockTimeout => true
  | .registerWrite master off beats _ => decide (master < 6) && decide (off < 0x4000000) && decide (off % 4 = 0) && beats.all (fun b => decide (b.data < 4294967296))
  | .clearOnRead master off _ _ _ _ => decide (master < 6) && decide (off < 0x4000000) && decide (off % 4 = 0)
  | .snapshotRead master off _ _ _ _ => decide (master < 6) && decide (off < 0x4000000) && decide (off % 4 = 0)
  | .accessTimeout master _ _ _ _ => decide (master < 6)
  | .pciePerstN _ _ => true
  | .hotReset _ _ => true
  | .functionLevelReset _ => true
  | .holdoffEnd vector => decide (vector < 16)
  | .vectorUnmask vector => vector.all (fun v => decide (v < 16))
  | .controlRequest _ => true
  | .read _ _ => true
  | .write _ _ => true
  | .winRead _ _ => true
  | .winWrite _ _ => true
  | .receiverLock lane _ _ _ _ => decide (lane < 192)
  | .updRevert => true
  | .supplyRecovery memberId => decide (memberId < 32)
  | .configurationRequest _ => true
  | .pcieLinkUp _ _ => true
  | .shutDownFinished seam number => decide (number < (if seam then 24 else 48))
  | .testReset _ => true

end Sys2Proof
end

