-- ==== Sys2Proof/Machine/Perform.lean ====
section
/-! DEFINITION. How a command is carried out: its operands are checked, a held or stopped device does nothing, and vectors that follow a change
of state are raised (R463, R534, R554, R560). -/

namespace Sys2Proof.Machine

/-- Nothing works: a power-on reset is held (R554) or every clock is stopped (R560). -/
def heldDown (d : Dev) : Bool := d.pins.porstLow || d.clocksStopped

/-- A raise that follows from what a command changed; one message for several changes of one instant. -/
def raiseIf (v : Nat) (b : Bool) (d : Dev) : Dev :=
  if b && !d.out.any (fun o => match o with | .msi w _ _ => w == v | _ => false) then raiseIrq v d else d

/-- A bit that is 1 now and was 0. -/
def bitSet (f : Fld) (before d : Dev) : Bool := rdB f [] d && !rdB f [] before

/-- The vectors raised by what lies between two states (R534): UPDATE, INKWELL, FABRIC and BOOT. A reset raises none. -/
def raises (before d : Dev) : Dev :=
  let phase := rd TOP_BOOT_ST_phase [] d
  if phase = 0 then d
  else
    let sess := rd UPD_STATUS_sess_state [] d != rd UPD_STATUS_sess_state [] before || (d.boot.window && !before.boot.window)
    let flipped := (List.range 16).any (fun h => rdB INK_OVL_pending [h] before && !rdB INK_OVL_pending [h] d)
    let cap := bitSet INK_CAP_ST_done before d || bitSet INK_CAP_ST_err before d
    let cmd := SEA_CMD_ST.flds.any (fun f => rd f [] d > rd f [] before)
    let acting := rd SEA_TIME_acting [] d != rd SEA_TIME_acting [] before
    raiseIf 9 (phase != rd TOP_BOOT_ST_phase [] before) (raiseIf 8 (cmd || acting) (raiseIf 7 (cap || flipped) (raiseIf 3 sess d)))

/-- What a command does to the device. -/
def run (f : Dev → Dev) (d : Dev) : Dev :=
  let d := { d with out := [] }
  if heldDown d then d else raises d (f d)

/-- Carry out a command whose operands name things the device has. -/
def perform (c : Instr) (f : Dev → Dev) (s : State) : Host.Outcome State Fault Refusal :=
  if c.wf then .next { s with dev := run f s.dev } else .fault .illFormed

/-- Carry out a command that acts on a held or stopped device as well. -/
def performAlways (c : Instr) (f : Dev → Dev) (s : State) : Host.Outcome State Fault Refusal :=
  if c.wf then .next { s with dev := f { s.dev with out := [] } } else .fault .illFormed

end Sys2Proof.Machine
end

