-- ==== Sys2Proof/Machine/AudioCommands.lean ====
section
/-! DEFINITION. The meanings of the commands: channel space, audio ports and Gather (14_audio_ports.md, 15_gather.md). -/

namespace Sys2Proof.Machine

/-- A rate's next sample instant (R45). -/
def execAudioGridSample (rate : Nat) (s : State) : Host.Outcome State Fault Refusal := perform (.audioGridSample rate) (audioSample rate) s

/-- A channel's crossfade runs to its end (R129). -/
def execCrossfadeComplete (dst : Nat) (channel : Nat) (s : State) : Host.Outcome State Fault Refusal :=
  perform (.crossfadeComplete dst channel) (fadeCompletes dst channel) s

/-- A frame of an input port or of a TDM port (R378). -/
def execPortFrame (port : Nat) (frame : PortFrame) (s : State) : Host.Outcome State Fault Refusal :=
  perform (.portFrame port frame) (portFrame port frame) s

/-- A port's clock, frame sync or preamble has been missing for its limit (R379). -/
def execPortClockLoss (port : Nat) (s : State) : Host.Outcome State Fault Refusal := perform (.portClockLoss port) (portClockLoss port) s

/-- A STOPPING port's shut-down completes (R390). -/
def execPortStopComplete (port : Nat) (s : State) : Host.Outcome State Fault Refusal := perform (.portStopComplete port) (portStopComplete port) s

/-- A host's write to the gain table (R403). -/
def execGainWrite (node : Nat) (word : Nat) (s : State) : Host.Outcome State Fault Refusal := perform (.gainWrite node word) (gainWrite node word) s

/-- A host's write of a biquad's coefficient (R409). -/
def execBiquadCoefficientWrite (output : Nat) (biquad : Nat) (coef : Nat) (word : Nat) (s : State) : Host.Outcome State Fault Refusal :=
  perform (.biquadCoefficientWrite output biquad coef word) (biquadWrite output biquad coef word) s

/-- Gather's stop ramp has ended (R412). -/
def execGatherStopComplete (s : State) : Host.Outcome State Fault Refusal := perform .gatherStopComplete gatherStopComplete s

end Sys2Proof.Machine
end

