-- ==== Sys2Proof/Machine/BlotterCommands.lean ====
section
/-! DEFINITION. The meanings of the commands: safe state, the pin and fault injection (17_blotter.md). -/

namespace Sys2Proof.Machine

/-- The core cycle after a SAFE firing (R449). -/
def execSafeStateEntry (s : State) : Host.Outcome State Fault Refusal := perform .safeStateEntry safeEntry s

/-- The first tick after the quiet period (R455). -/
def execSafeStateExit (s : State) : Host.Outcome State Fault Refusal := perform .safeStateExit safeExit s

/-- A write of safe_release, to its tick (R457). -/
def execSafeRelease (s : State) : Host.Outcome State Fault Refusal := perform .safeRelease safeReleaseWrite s

/-- A write of pin_release (R448). -/
def execPinRelease (s : State) : Host.Outcome State Fault Refusal := perform .pinRelease releasePin s

/-- The minimum-width timer of FAULT_N expires (R448). -/
def execFaultNTimerExpiry (s : State) : Host.Outcome State Fault Refusal := perform .faultNTimerExpiry faultTimer s

/-- A write to BLT_INJ (R460). -/
def execFire (word : Nat) (s : State) : Host.Outcome State Fault Refusal := perform (.fire word) (injectFault word) s

end Sys2Proof.Machine
end

