-- ==== Sys2Proof/Machine/BootCommands.lean ====
section
/-! DEFINITION. The meanings of the commands: boot, Pattern and route memory (18_pattern_and_startup.md). -/

namespace Sys2Proof.Machine

/-- The ROM has verified the slots' firmware (R466). -/
def execRomVerifyDone (view : RomView) (s : State) : Host.Outcome State Fault Refusal := perform (.romVerifyDone view) (romVerifyDone view) s

/-- Firmware has read, verified and validated the Pattern (R471). -/
def execPatternApplyDone (view : PatView) (s : State) : Host.Outcome State Fault Refusal := perform (.patternApplyDone view) (patternApplyDone view) s

/-- The first tick at which every enabled channel and octet has left STARTING (R475). -/
def execStartUpInput (s : State) : Host.Outcome State Fault Refusal := perform .startUpInput startUpInput s

/-- 60 s since the device was configured (R476). -/
def execServeTimeout (s : State) : Host.Outcome State Fault Refusal := perform .serveTimeout serveTimeout s

/-- 60 s of waiting for the master's state (R477). -/
def execFabricWaitTimeout (s : State) : Host.Outcome State Fault Refusal := perform .fabricWaitTimeout fabricWaitTimeout s

/-- Firmware writes the oldest waiting item to flash (R479). -/
def execJournalEntry (ok : Bool) (s : State) : Host.Outcome State Fault Refusal := perform (.journalEntry ok) (journalEntry ok) s

/-- Firmware writes a new checkpoint (R479). -/
def execCheckpoint (ok : Bool) (s : State) : Host.Outcome State Fault Refusal := perform (.checkpoint ok) (checkpoint ok) s

/-- An item has not been durable for 1 s (R479). -/
def execDurabilityLag (s : State) : Host.Outcome State Fault Refusal := perform .durabilityLag durabilityLag s

end Sys2Proof.Machine
end

