-- ==== Sys2Proof/Machine/EthernetCommands.lean ====
section
/-! DEFINITION. The meanings of the commands: Ethernet MACs and media flows (09_ethernet_mac.md, 10_media_flows.md). -/

namespace Sys2Proof.Machine

/-- A MAC's lanes, PCS and FEC have locked (R225). -/
def execLinkUp (mac : Nat) (s : State) : Host.Outcome State Fault Refusal := perform (.linkUp mac) (linkRises mac) s

/-- A MAC's link fails, or its partner's remote fault changes (R226). -/
def execLinkDown (mac : Nat) (rfault : Bool) (s : State) : Host.Outcome State Fault Refusal := perform (.linkDown mac rfault) (linkDown mac rfault) s

/-- A frame arrives (R228). -/
def execReceiveFrame (mac : Nat) (frame : RxFrame) (s : State) : Host.Outcome State Fault Refusal :=
  perform (.receiveFrame mac frame) (receiveFrame mac frame) s

/-- A pause's time expires (R235). -/
def execPauseExpiry (mac : Nat) (s : State) : Host.Outcome State Fault Refusal := perform (.pauseExpiry mac) (pauseExpiry mac) s

/-- A write of pause_en (R235). -/
def execPauseEnWrite (mac : Nat) (en : Bool) (s : State) : Host.Outcome State Fault Refusal := perform (.pauseEnWrite mac en) (pauseEnWrite mac en) s

/-- A frame boundary on the wire, after the frames that firmware has handed over (length, tag of a marked one) (R232). -/
def execTransmitFrame (mac : Nat) (handed : List (Nat × Option Nat)) (s : State) : Host.Outcome State Fault Refusal :=
  perform (.transmitFrame mac handed) (sendFrame mac (handed.map (fun p => { len := p.1, mark := p.2 }))) s

/-- A transmit entry's next packet (R269). -/
def execPacketOffer (entry : Nat) (s : State) : Host.Outcome State Fault Refusal := perform (.packetOffer entry) (packetOffer entry) s

/-- A receive entry's next release (R250). -/
def execPacketRelease (entry : Nat) (s : State) : Host.Outcome State Fault Refusal := perform (.packetRelease entry) (packetRelease entry) s

/-- 2 × P without a packet of an opaque flow (R263). -/
def execOpaqueFlowTimeout (entry : Nat) (s : State) : Host.Outcome State Fault Refusal := perform (.opaqueFlowTimeout entry) (opaqueTimeout entry) s

/-- Two frame periods without a marker of the old source (R125). -/
def execOpaqueMarkerTimeout (dst : Nat) (s : State) : Host.Outcome State Fault Refusal :=
  perform (.opaqueMarkerTimeout dst) (opaqueMarkerTimeout dst) s

/-- The repeat of a state-change report falls due (R277). -/
def execReportRepeat (report : Nat) (s : State) : Host.Outcome State Fault Refusal := perform (.reportRepeat report) (reportRepeat report) s

end Sys2Proof.Machine
end

