-- ==== Sys2Proof/Machine/HostCommands.lean ====
section
/-! DEFINITION. The meanings of the commands: register access, PCIe, interrupts and the in-band agent (20_host_and_interconnect.md). -/

namespace Sys2Proof.Machine

/-- A write request of a master, and what the Blotter's check finds where it is accessed (R8). -/
def execRegisterWrite (master : Nat) (off : Nat) (beats : List Beat) (blt : BltObs) (s : State) : Host.Outcome State Fault Refusal :=
  perform (.registerWrite master off beats blt) (fun d => hostWrite master off beats (bltChecked off blt d)) s

/-- A read request of a master (R8). -/
def execClearOnRead (master : Nat) (off : Nat) (words : Nat) (enabled : Bool) (parity : Bool) (blt : BltObs) (s : State) : Host.Outcome State Fault Refusal :=
  perform (.clearOnRead master off words enabled parity blt) (fun d => hostRead master off words enabled parity (bltChecked off blt d)) s

/-- A read request of a master whose lowest word takes the whole value (R11). -/
def execSnapshotRead (master : Nat) (off : Nat) (words : Nat) (enabled : Bool) (parity : Bool) (blt : BltObs) (s : State) : Host.Outcome State Fault Refusal :=
  perform (.snapshotRead master off words enabled parity blt) (fun d => hostRead master off words enabled parity (bltChecked off blt d)) s

/-- No target answers within 10 ms (R539). -/
def execAccessTimeout (master : Nat) (off : Nat) (target : Nat) (write : Bool) (late : List Nat) (s : State) : Host.Outcome State Fault Refusal :=
  perform (.accessTimeout master off target write late) (accessTimesOut master off target write late) s

/-- An edge of PCIE_PERST_N (R531). -/
def execPciePerstN (low : Bool) (cut : Option Cut) (s : State) : Host.Outcome State Fault Refusal :=
  performAlways (.pciePerstN low cut) (perstPin low cut) s

/-- A hot reset, or the loss of the link (R531). -/
def execHotReset (hot : Bool) (cut : Option Cut) (s : State) : Host.Outcome State Fault Refusal := perform (.hotReset hot cut) (hotReset hot cut) s

/-- A function level reset (R531). -/
def execFunctionLevelReset (cut : Option Cut) (s : State) : Host.Outcome State Fault Refusal :=
  perform (.functionLevelReset cut) (functionReset cut) s

/-- The link trains to L0 (R531). -/
def execPcieLinkUp (speed : Nat) (width : Nat) (s : State) : Host.Outcome State Fault Refusal :=
  perform (.pcieLinkUp speed width) (linkTrains speed width) s

/-- A configuration request, and the bits it sets (R528). -/
def execConfigurationRequest (set : Option (Bool × Bool × Bool × Bool)) (s : State) : Host.Outcome State Fault Refusal :=
  perform (.configurationRequest set) (configRequest set) s

/-- A vector's holdoff ends (R535). -/
def execHoldoffEnd (vector : Nat) (s : State) : Host.Outcome State Fault Refusal := perform (.holdoffEnd vector) (holdoffEnd vector) s

/-- A vector, or the function, is unmasked (R535). -/
def execVectorUnmask (vector : Option Nat) (s : State) : Host.Outcome State Fault Refusal := perform (.vectorUnmask vector) (vectorUnmask vector) s

/-- A datagram of the in-band control flow (R544). -/
def execControlRequest (request : CtlReq) (s : State) : Host.Outcome State Fault Refusal :=
  perform (.controlRequest request) (controlRequest request) s

/-- A READ operation of the in-band agent (R543). -/
def execRead (off : Nat) (words : Nat) (s : State) : Host.Outcome State Fault Refusal :=
  perform (.read off words) (singleOp { code := 1, count := words, offset := off }) s

/-- A WRITE operation of the in-band agent (R543). -/
def execWrite (off : Nat) (data : List Nat) (s : State) : Host.Outcome State Fault Refusal :=
  perform (.write off data) (singleOp { code := 2, count := data.length, offset := off, data := data }) s

/-- A WIN_READ operation of the in-band agent (R543). -/
def execWinRead (off : Nat) (words : Nat) (s : State) : Host.Outcome State Fault Refusal :=
  perform (.winRead off words) (singleOp { code := 3, count := words, offset := off }) s

/-- A WIN_WRITE operation of the in-band agent (R543). -/
def execWinWrite (off : Nat) (data : List Nat) (s : State) : Host.Outcome State Fault Refusal :=
  perform (.winWrite off data) (singleOp { code := 4, count := data.length, offset := off, data := data }) s

/-- The test reset ends the test-access master's accesses (R540). -/
def execTestReset (cut : Option Cut) (s : State) : Host.Outcome State Fault Refusal := perform (.testReset cut) (cutBurst 5 cut) s

/-- A MAC's or Seam link's shut-down completes (R484). -/
def execShutDownFinished (seam : Bool) (number : Nat) (s : State) : Host.Outcome State Fault Refusal :=
  perform (.shutDownFinished seam number) (fun d => if seam then seamStopped number d else macStopped number d) s

end Sys2Proof.Machine
end

