-- ==== Sys2Proof/Machine/InkwellCommands.lean ====
section
/-! DEFINITION. The meanings of the commands: surfaces, frame synchronisers and DRAM channels (11_inkwell_surfaces.md, 12_inkwell_dram.md). -/

namespace Sys2Proof.Machine

/-- A frame synchroniser's next t_out (R298). -/
def execSyncOutputFrame (slot : Nat) (reads : List EccObs) (s : State) : Host.Outcome State Fault Refusal :=
  perform (.syncOutputFrame slot reads) (syncOutputFrame slot reads) s

/-- A write of flip to INK_OVL (R307). -/
def execFlip (head : Nat) (s : State) : Host.Outcome State Fault Refusal := perform (.flip head) (overlayFlip head true) s

/-- The next frame boundary of an overlay's head (R307). -/
def execOverlayExchange (head : Nat) (s : State) : Host.Outcome State Fault Refusal := perform (.overlayExchange head) (overlayExchange head) s

/-- A write to INK_CAP_CTRL with start (R308). -/
def execCaptureStart (picture : Nat) (surf : Nat) (s : State) : Host.Outcome State Fault Refusal :=
  perform (.captureStart picture surf) (captureStart true picture surf) s

/-- The capture engine finishes (R308). -/
def execCaptureDone (s : State) : Host.Outcome State Fault Refusal := perform .captureDone captureDone s

/-- An access through BAR2: a read of a number of bytes, or a write of bytes at their places (R306). -/
def execBar2Access (master : Nat) (off : Nat) (size : Nat) (bytes : Option (List (Nat × Nat))) (s : State) : Host.Outcome State Fault Refusal :=
  perform (.bar2Access master off size bytes) (windowAccess master off size bytes) s

/-- A channel's next pause slot (R320). -/
def execRetrainingPause (ch : Nat) (s : State) : Host.Outcome State Fault Refusal := perform (.retrainingPause ch) (pauseBegins ch) s

/-- The pause's measurements are evaluated (R322). -/
def execPauseEvaluation (ch : Nat) (lanes : List (Nat × Nat)) (s : State) : Host.Outcome State Fault Refusal :=
  perform (.pauseEvaluation ch lanes) (pauseEvaluation ch lanes) s

/-- The pause ends (R320). -/
def execPauseEnd (ch : Nat) (s : State) : Host.Outcome State Fault Refusal := perform (.pauseEnd ch) (pauseEnd ch) s

/-- A sub-step of a channel's training ends (R317). -/
def execTrainingSubstepEnd (ch : Nat) (obs : TrainObs) (s : State) : Host.Outcome State Fault Refusal :=
  perform (.trainingSubstepEnd ch obs) (substepEnd ch obs) s

/-- A write to DRC_SPEED (R318). -/
def execSpeedTargetWrite (ch : Nat) (target : Nat) (s : State) : Host.Outcome State Fault Refusal :=
  perform (.speedTargetWrite ch target) (speedWrite ch target) s

/-- A STOPPING channel's last item is released (R319). -/
def execChannelStopped (ch : Nat) (s : State) : Host.Outcome State Fault Refusal := perform (.channelStopped ch) (channelStopped ch) s

/-- A fixed-delay channel reads its strobe oscillators (R325). -/
def execDriftTracking (ch : Nat) (drift : List Int) (s : State) : Host.Outcome State Fault Refusal :=
  perform (.driftTracking ch drift) (driftTracking ch drift) s

/-- A channel has been idle for idle_us (R326). -/
def execIdleTimeout (ch : Nat) (s : State) : Host.Outcome State Fault Refusal := perform (.idleTimeout ch) (idleTimeout ch) s

/-- ENTERING completes (R326). -/
def execSelfRefreshEntered (ch : Nat) (s : State) : Host.Outcome State Fault Refusal := perform (.selfRefreshEntered ch) (selfRefreshEntered ch) s

/-- A waking channel has restarted and retrained (R327). -/
def execWakeComplete (ch : Nat) (lanes : List (Nat × Nat)) (s : State) : Host.Outcome State Fault Refusal :=
  perform (.wakeComplete ch lanes) (wakeComplete ch lanes) s

/-- A channel's patrol scrub, with what it finds (R331). -/
def execPatrolScrub (ch : Nat) (ce : Nat) (ues : List Nat) (s : State) : Host.Outcome State Fault Refusal :=
  perform (.patrolScrub ch ce ues) (patrolScrub ch ce ues) s

/-- The devices' refresh-rate registers are read (R332). -/
def execRefreshRateRead (ch : Nat) (rates : List Nat) (high : Bool) (s : State) : Host.Outcome State Fault Refusal :=
  perform (.refreshRateRead ch rates high) (refreshRead ch rates high) s

end Sys2Proof.Machine
end

