-- ==== Sys2Proof/Machine/LaneCommands.lean ====
section
/-! DEFINITION. The meanings of the commands: serial lanes and SDI (07_lanes.md, 08_sdi_streams.md). -/

namespace Sys2Proof.Machine

/-- A running receiver's input rises above the threshold (R185). -/
def execSignalDetect (lane : Nat) (s : State) : Host.Outcome State Fault Refusal := perform (.signalDetect lane) (signalDetect lane) s

/-- A dwell ends, with the rate on which it locked (0 none), whether divided by 1.001, and the frequency measured (R186). -/
def execHuntDwellEnd (lane : Nat) (rate : Nat) (div : Bool) (freq : Int) (s : State) : Host.Outcome State Fault Refusal :=
  perform (.huntDwellEnd lane rate div freq) (huntEnds lane rate div freq) s

/-- A receiver loses its input, below the threshold or not (R185). -/
def execLossOfLock (lane : Nat) (below : Bool) (s : State) : Host.Outcome State Fault Refusal :=
  perform (.lossOfLock lane below) (receiverLoss lane below) s

/-- An Ethernet or Seam receiver locks, with its frequency and equalisation (R185). -/
def execReceiverLock (lane : Nat) (freq : Int) (ctle : Nat) (snr : Nat) (dfe : Nat) (s : State) : Host.Outcome State Fault Refusal :=
  perform (.receiverLock lane freq ctle snr dfe) (receiverLock lane freq ctle snr dfe) s

/-- Synthesisers of an octet lock (R181). -/
def execSynthesiserLock (octet : Nat) (mask : Nat) (s : State) : Host.Outcome State Fault Refusal :=
  perform (.synthesiserLock octet mask) (synthesisersLock octet mask) s

/-- 10 ms after an octet's start (R181). -/
def execOctetStartTimeout (octet : Nat) (s : State) : Host.Outcome State Fault Refusal := perform (.octetStartTimeout octet) (octTimeout octet) s

/-- An octet's shut-down completes (R182). -/
def execOctetStopped (octet : Nat) (s : State) : Host.Outcome State Fault Refusal := perform (.octetStopped octet) (octStopped octet) s

/-- A lane's training completes with the taps its partner asked for (R190). -/
def execTrainingComplete (lane : Nat) (m3 : Int) (m2 : Int) (m1 : Int) (c0 : Int) (p1 : Int) (s : State) : Host.Outcome State Fault Refusal :=
  perform (.trainingComplete lane m3 m2 m1 c0 p1) (trainingComplete lane m3 m2 m1 c0 p1) s

/-- A lane's training has taken too long (R192). -/
def execTrainingTimeout (lane : Nat) (s : State) : Host.Outcome State Fault Refusal := perform (.trainingTimeout lane) (trainingTimeout lane) s

/-- One second after a training failure (R192). -/
def execTrainingRetry (lane : Nat) (s : State) : Host.Outcome State Fault Refusal := perform (.trainingRetry lane) (trainingRetry lane) s

/-- A locked lane's measured frequency offset changes (R187). -/
def execFrequencyOutOfRange (lane : Nat) (freq : Int) (s : State) : Host.Outcome State Fault Refusal :=
  perform (.frequencyOutOfRange lane freq) (measureFreq lane freq) s

/-- A write to LNS_EYE_CTRL with start (R195). -/
def execScanStart (lane : Nat) (word : Nat) (s : State) : Host.Outcome State Fault Refusal := perform (.scanStart lane word) (scanStart lane word) s

/-- An eye scan completes (R195). -/
def execScanDone (lane : Nat) (errors : Nat) (h : Nat) (v : Nat) (moved : Bool) (s : State) : Host.Outcome State Fault Refusal :=
  perform (.scanDone lane errors h v moved) (scanDone lane errors h v moved) s

/-- An Ethernet lane reference stops or leaves its range (R199). -/
def execEthRefclkLoss (ref : Nat) (s : State) : Host.Outcome State Fault Refusal := perform (.ethRefclkLoss ref) (ethRefLoss ref adapterLoss) s

/-- An Ethernet lane reference returns (R199). -/
def execEthRefclkReturn (ref : Nat) (s : State) : Host.Outcome State Fault Refusal := perform (.ethRefclkReturn ref) (ethRefReturn ref) s

/-- A DCO-sourced synthesiser loses lock (R199). -/
def execSynthesiserUnlock (octet : Nat) (synth : Nat) (s : State) : Host.Outcome State Fault Refusal :=
  perform (.synthesiserUnlock octet synth) (synthUnlock octet synth) s

/-- A line of a link (R209). -/
def execSdiLine (lane : Nat) (line : SdiLine) (s : State) : Host.Outcome State Fault Refusal := perform (.sdiLine lane line) (sdiLine lane line) s

/-- An ST 352 packet of a link (R210). -/
def execSt352Packet (lane : Nat) (psid : Psid) (s : State) : Host.Outcome State Fault Refusal :=
  perform (.st352Packet lane psid) (st352Packet lane psid) s

end Sys2Proof.Machine
end

