-- ==== Sys2Proof/Machine/QuiltCommands.lean ====
section
/-! DEFINITION. The meanings of the commands: the Quilt (13_quilt.md). -/

namespace Sys2Proof.Machine

/-- A write of commit to a layer (R346). -/
def execCommit (layer : Nat) (s : State) : Host.Outcome State Fault Refusal := perform (.commit layer) (layerCommit layer) s

/-- A pending commit's landing (R347). -/
def execCommitLanding (layer : Nat) (s : State) : Host.Outcome State Fault Refusal := perform (.commitLanding layer) (commitLanding layer) s

/-- A host's write of word k of a layer's shadow registers (R346). -/
def execShadowWrite (layer : Nat) (word : Nat) (value : Nat) (s : State) : Host.Outcome State Fault Refusal :=
  perform (.shadowWrite layer word value) (writeWord 2 (0x3210000 + 128 * layer + 4 * word) value) s

/-- A host's write to a coefficient bank or colour program (R348). -/
def execBankProgramWrite (off : Nat) (value : Nat) (s : State) : Host.Outcome State Fault Refusal :=
  perform (.bankProgramWrite off value) (writeWord 2 off value) s

end Sys2Proof.Machine
end

