-- ==== Sys2Proof/Machine/ResetCommands.lean ====
section
/-! DEFINITION. The meanings of the commands: resets, supplies, temperature and clocks (18_pattern_and_startup.md, 21_electrical_and_package.md). -/

namespace Sys2Proof.Machine

/-- PORST_N is asserted and released; MEMBER_ID is sampled (R463). -/
def execPorstN (memberId : Nat) (s : State) : Host.Outcome State Fault Refusal := performAlways (.porstN memberId) (porstPulse memberId) s

/-- SRST_N is asserted and released (R463). -/
def execSrstN (s : State) : Host.Outcome State Fault Refusal := perform .srstN (softReset 1) s

/-- The Scribe's two cores disagree: FS0258, then an internal soft reset (R486). -/
def execLockstepMismatch (s : State) : Host.Outcome State Fault Refusal := perform .lockstepMismatch (fun d => softReset 2 (fire 258 d)) s

/-- The Scribe's watchdog expires: FS0259, then an internal soft reset (R486). -/
def execWatchdogExpiry (s : State) : Host.Outcome State Fault Refusal := perform .watchdogExpiry (fun d => softReset 3 (fire 259 d)) s

/-- A supply falls below its detector threshold (R554). -/
def execSupplyDetector (s : State) : Host.Outcome State Fault Refusal := performAlways .supplyDetector supplyFalls s

/-- A supply (by its bit of TOP_SUPPLY) has left its operating range (R554). -/
def execSupplyExcursion (supply : Nat) (s : State) : Host.Outcome State Fault Refusal := perform (.supplyExcursion supply) (supplyExcursion supply) s

/-- A sensor reads the trip temperature (R560). -/
def execThermalTrip (s : State) : Host.Outcome State Fault Refusal := perform .thermalTrip thermalTrip s

/-- The sensors' readings, in quarters of a degree, with VDD_CORE and the supplies in range (R559). -/
def execTemperatureSample (sensors : List (Option Int)) (coreMv : Nat) (inRange : Nat) (s : State) : Host.Outcome State Fault Refusal :=
  perform (.temperatureSample sensors coreMv inRange) (temperatureSample sensors coreMv inRange) s

/-- A PLL of the control domain or of a DRAM channel loses lock (R578). -/
def execPllLossOfLock (s : State) : Host.Outcome State Fault Refusal := perform .pllLossOfLock pllLoss s

/-- The Thimble has driven CORE_VID (R552). -/
def execCoreVidValid (s : State) : Host.Outcome State Fault Refusal := perform .coreVidValid coreVidValid s

/-- Every supply has been back for 10 ms (R554). -/
def execSupplyRecovery (memberId : Nat) (s : State) : Host.Outcome State Fault Refusal :=
  performAlways (.supplyRecovery memberId) (supplyReturns memberId) s

end Sys2Proof.Machine
end

