-- ==== Sys2Proof/Machine/RulingCommands.lean ====
section
/-! DEFINITION. The meanings of the commands: the tick and the Ruling (03_ruling.md, 04_ductus.md). -/

namespace Sys2Proof.Machine

/-- The 1 ms tick (R90). -/
def execTick (obs : TickObs) (s : State) : Host.Outcome State Fault Refusal := perform (.tick obs) (tick obs) s

/-- A candidate's hold-off ends (R56). -/
def execHoldOffExpiry (cand : Nat) (s : State) : Host.Outcome State Fault Refusal := perform (.holdOffExpiry cand) (holdOffExpiry cand) s

/-- A frame pulse of candidate 0 or 1, at the nib at which its edge arrives (R52). -/
def execRefFramePulse (cand : Nat) (arrival : Nat) (s : State) : Host.Outcome State Fault Refusal :=
  perform (.refFramePulse cand arrival) (refFramePulse cand arrival) s

/-- A PTP Sync of candidate 2 or 3: firmware's filtered estimate of its time in seconds and nanoseconds, and the local instant of it in units of 2^-44 nib (R53). -/
def execSync (cand : Nat) (sec : Nat) (ns : Nat) (rx : Nat) (s : State) : Host.Outcome State Fault Refusal :=
  perform (.sync cand sec ns rx) (ptpSync cand sec ns rx) s

/-- XO_IN is lost (R71). -/
def execXoInLost (s : State) : Host.Outcome State Fault Refusal := perform .xoInLost xoInLost s

/-- A write of step with its step_src (R69). -/
def execStep (src : Bool) (s : State) : Host.Outcome State Fault Refusal := perform (.step src) (requestStep src) s

/-- A write of clr_holdoff (R56). -/
def execClrHoldoff (mask : Nat) (s : State) : Host.Outcome State Fault Refusal := perform (.clrHoldoff mask) (clrHoldoff mask) s

/-- A host's write of a candidate's type-specific configuration register (R57). -/
def execCandidateConfigWrite (off : Nat) (word : Nat) (s : State) : Host.Outcome State Fault Refusal :=
  perform (.candidateConfigWrite off word) (writeWord 2 off word) s

/-- The next whole second (R74). -/
def execPpsOutPulse (s : State) : Host.Outcome State Fault Refusal := perform .ppsOutPulse ppsOutPulse s

/-- The pulse on PPS_OUT (true) or REF_OUT_FP (false) ends (R74). -/
def execPulseWidthEnd (pps : Bool) (s : State) : Host.Outcome State Fault Refusal := perform (.pulseWidthEnd pps) (pulseWidthEnd pps) s

end Sys2Proof.Machine
end

