-- ==== Sys2Proof/Machine/SeamCommands.lean ====
section
/-! DEFINITION. The meanings of the commands: Seam links, fabrics and twins (16_seam_fabric.md). -/

namespace Sys2Proof.Machine

/-- A Seam frame arrives on a bundle lane (R418). -/
def execSeamFrame (link : Nat) (lane : Nat) (frame : SeamRx) (s : State) : Host.Outcome State Fault Refusal :=
  perform (.seamFrame link lane frame) (seamReceives link lane frame) s

/-- A link's next 52,920-nib instant (R419). -/
def execSeamFrameTransmit (link : Nat) (s : State) : Host.Outcome State Fault Refusal := perform (.seamFrameTransmit link) (seamFrameTransmit link) s

/-- A training frame arrives on a bundle lane (R423). -/
def execTrainingFrame (link : Nat) (lane : Nat) (frame : TrainRx) (s : State) : Host.Outcome State Fault Refusal :=
  perform (.trainingFrame link lane frame) (trainingFrame link lane frame) s

/-- A retrained lane's first frame at least 8 µs after rx_ok (R425). -/
def execLaneRejoin (link : Nat) (lane : Nat) (s : State) : Host.Outcome State Fault Refusal :=
  perform (.laneRejoin link lane) (laneRejoin link lane) s

/-- An ACK arrives (R430). -/
def execAck (link : Nat) (nums : List Nat) (s : State) : Host.Outcome State Fault Refusal :=
  perform (.ack link nums) (fun d => if running (fSeam link) d then ackMsgs link nums d else d) s

/-- A FORWARD arrives (R96). -/
def execForward (link : Nat) (num : Nat) (input : PInput) (s : State) : Host.Outcome State Fault Refusal :=
  perform (.forward link num input) (message link num (.forward input)) s

/-- An ANNOUNCE arrives (R98). -/
def execAnnounce (link : Nat) (num : Nat) (index : Nat) (instant : Nat) (input : PInput) (s : State) : Host.Outcome State Fault Refusal :=
  perform (.announce link num index instant input) (message link num (.announce index instant input)) s

/-- A REQUEST arrives (R431). -/
def execRequest (link : Nat) (num : Nat) (index : Nat) (s : State) : Host.Outcome State Fault Refusal :=
  perform (.request link num index) (message link num (.request index)) s

/-- A DIGEST arrives, with its snapshot's instant (R432). -/
def execDigest (link : Nat) (num : Nat) (value : Nat) (instant : Nat) (s : State) : Host.Outcome State Fault Refusal :=
  perform (.digest link num value instant) (message link num (.digest value instant)) s

/-- A TWIN_SYNC arrives (R436). -/
def execTwinSync (link : Nat) (num : Nat) (choices : List (Nat × Nat)) (seqs : List (Nat × Nat)) (s : State) : Host.Outcome State Fault Refusal :=
  perform (.twinSync link num choices seqs) (message link num (.twin choices seqs)) s

/-- A request for the state arrives (none), or the last piece of one (R434). -/
def execState (link : Nat) (num : Nat) (image : Option StateImage) (s : State) : Host.Outcome State Fault Refusal :=
  perform (.state link num image) (message link num (match image with | some i => .state i | none => .stateReq)) s

/-- 20 µs without an ACK of a link's oldest message (R430). -/
def execMessageResend (link : Nat) (s : State) : Host.Outcome State Fault Refusal := perform (.messageResend link) (messageResend link) s

/-- The next whole 100 ms (R432). -/
def execDigestSnapshot (s : State) : Host.Outcome State Fault Refusal := perform .digestSnapshot digestSnapshot s

/-- 100 µs after a snapshot (R432). -/
def execDigestTimeout (s : State) : Host.Outcome State Fault Refusal := perform .digestTimeout digestTimeout s

/-- origin_count has not advanced for takeover_ms (R435). -/
def execTakeover (s : State) : Host.Outcome State Fault Refusal := perform .takeover takeover s

/-- hold_ms since SEAM was selected (R426). -/
def execTimeValidExpiry (s : State) : Host.Outcome State Fault Refusal := perform .timeValidExpiry timeValidExpiry s

/-- A write of resync to SEA_CMD (R434). -/
def execResync (s : State) : Host.Outcome State Fault Refusal := perform .resync resync s

/-- The fetched state's Er comes, or the transfer fails (R434). -/
def execResyncApply (s : State) : Host.Outcome State Fault Refusal := perform .resyncApply resyncApply s

/-- A write of handover to SEA_CMD (R435). -/
def execHandover (s : State) : Host.Outcome State Fault Refusal := perform .handover handoverAsked s

/-- A member that waits for the master's state asks for it (R477). -/
def execStateTransferStart (s : State) : Host.Outcome State Fault Refusal := perform .stateTransferStart askState s

end Sys2Proof.Machine
end

