-- ==== Sys2Proof/Machine/TakeCommands.lean ====
section
/-! DEFINITION. The meanings of the commands: salvos, switching and placement (04_ductus.md, 05_stitches_and_takes.md, 06_tailor.md). -/

namespace Sys2Proof.Machine

/-- A write to XPT_DOORBELL (R113). -/
def execDoorbell (ring0 : Bool) (ring1 : Bool) (s : State) : Host.Outcome State Fault Refusal :=
  perform (.doorbell ring0 ring1) (doorbell ring0 ring1) s

/-- A write of a word of a bank's header, or of one of its records (R113). -/
def execMailboxWrite (bank : Nat) (record : Option Nat) (word : Nat) (value : Nat) (s : State) : Host.Outcome State Fault Refusal :=
  perform (.mailboxWrite bank record word value) (mailboxWrite bank record word value) s

/-- The Tailor's next decision, the given microseconds after it could begin, no later than its bound (R153). -/
def execSalvoAcceptance (us : Nat) (s : State) : Host.Outcome State Fault Refusal := perform (.salvoAcceptance us) (salvoAcceptance us) s

/-- The launch instant of the queue's first salvo comes (R82). -/
def execLaunch (s : State) : Host.Outcome State Fault Refusal := perform .launch launchSalvos s

/-- A local destination's next switch point comes (R79). -/
def execSwitchPoint (dst : Nat) (s : State) : Host.Outcome State Fault Refusal := perform (.switchPoint dst) (outputSwitch dst) s

/-- A family's next frame boundary comes (R36). -/
def execFrameBoundary (fam : Nat) (reads : List EccObs) (s : State) : Host.Outcome State Fault Refusal :=
  perform (.frameBoundary fam reads) (frameBoundary fam reads) s

/-- The earliest W of a migration comes (R165). -/
def execDualWriteStart (s : State) : Host.Outcome State Fault Refusal := perform .dualWriteStart dualWriteStart s

/-- The earliest C of a migration comes (R165). -/
def execMigrationCompletion (s : State) : Host.Outcome State Fault Refusal := perform .migrationCompletion migrationCompletion s

/-- The earliest C + P of a migration comes (R165). -/
def execMigrationRelease (s : State) : Host.Outcome State Fault Refusal := perform .migrationRelease migrationRelease s

/-- The oldest health record's E comes (R168). -/
def execEvacuation (s : State) : Host.Outcome State Fault Refusal := perform .evacuation evacuation s

/-- The earliest release instant comes (R154). -/
def execResourceRelease (s : State) : Host.Outcome State Fault Refusal := perform .resourceRelease resourceRelease s

/-- The Tailor's decision on a layer's commit (R144). -/
def execLayerInput (layer : Nat) (us : Nat) (s : State) : Host.Outcome State Fault Refusal := perform (.layerInput layer us) (layerInput layer us) s

/-- A placement-input index has been missing for longer than 2 × P0 (R147). -/
def execPlacementGapTimeout (s : State) : Host.Outcome State Fault Refusal := perform .placementGapTimeout gapTimeout s

end Sys2Proof.Machine
end

