-- ==== Sys2Proof/Machine/ThimbleCommands.lean ====
section
/-! DEFINITION. The meanings of the commands: attestation, update and test access (19_thimble_and_update.md). -/

namespace Sys2Proof.Machine

/-- A write of start to THM_ATT_CTRL (R491). -/
def execAttestationStart (s : State) : Host.Outcome State Fault Refusal := perform .attestationStart attestStart s

/-- The Thimble has signed (R491). -/
def execAttestationDone (s : State) : Host.Outcome State Fault Refusal := perform .attestationDone attestDone s

/-- A write of offer to UPD_CMD, with what the Thimble's engines find (R496). -/
def execOffer (view : OfferView) (s : State) : Host.Outcome State Fault Refusal := perform (.offer view) (updOffer view) s

/-- A write of put to UPD_CMD; `fails`: a flash write or erase fails (R499). -/
def execPut (fails : Bool) (s : State) : Host.Outcome State Fault Refusal := perform (.put fails) (updPut fails) s

/-- An OFFER message arrives in band (R504). -/
def execOfferDatagram (mac : Nat) (addr : Nat) (v6 : Bool) (header : List Nat) (view : OfferView) (s : State) : Host.Outcome State Fault Refusal :=
  perform (.offerDatagram mac addr v6 header view) (offerDatagram mac addr v6 header view) s

/-- A PIECE message arrives in band (R504). -/
def execPiece (digest : Nat) (index : Nat) (bytes : List Nat) (fails : Bool) (s : State) : Host.Outcome State Fault Refusal :=
  perform (.piece digest index bytes fails) (pieceDatagram digest index bytes fails) s

/-- A QUERY message arrives in band (R504). -/
def execQuery (mac : Nat) (addr : Nat) (v6 : Bool) (digest : Nat) (first : Nat) (s : State) : Host.Outcome State Fault Refusal :=
  perform (.query mac addr v6 digest first) (queryMessage mac addr v6 digest first) s

/-- The final check of an image: whether it passes the engines' checks, the Pattern or key record it holds (R502). -/
def execFinalCheckDone (ok : Bool) (view : PatView) (key : KeyRec) (s : State) : Host.Outcome State Fault Refusal :=
  perform (.finalCheckDone ok view key) (fun d => finalCheckDone ok (sessionPatErr view d) key d) s

/-- A write of abort to UPD_CMD (R503). -/
def execAbort (s : State) : Host.Outcome State Fault Refusal := perform .abort updAbort s

/-- The session's last second (R503). -/
def execSessionExpiry (s : State) : Host.Outcome State Fault Refusal := perform .sessionExpiry sessionExpiry s

/-- A write of activate to UPD_CMD (R509). -/
def execActivate (s : State) : Host.Outcome State Fault Refusal := perform .activate updActivate s

/-- A write of revert to UPD_CMD (R517). -/
def execUpdRevert (s : State) : Host.Outcome State Fault Refusal := perform .updRevert updRevert s

/-- The copy into the target slot completes or fails (R509). -/
def execCopyForwardDone (ok : Bool) (s : State) : Host.Outcome State Fault Refusal := perform (.copyForwardDone ok) (copyForwardDone ok) s

/-- UPD_ACT_AT comes (R509). -/
def execActivationInstant (s : State) : Host.Outcome State Fault Refusal := perform .activationInstant activationInstant s

/-- A write of approve to UPD_CMD (R512). -/
def execApprove (s : State) : Host.Outcome State Fault Refusal := perform .approve updApprove s

/-- The trial meets its conditions within the window (R513). -/
def execHealthConfirm (s : State) : Host.Outcome State Fault Refusal := perform .healthConfirm healthConfirm s

/-- The window ends (R514). -/
def execHealthWindowExpiry (s : State) : Host.Outcome State Fault Refusal := perform .healthWindowExpiry windowExpiry s

/-- A word is shifted through UNLOCK with TEST_EN high (R520). -/
def execUnlock (word : Nat) (s : State) : Host.Outcome State Fault Refusal := perform (.unlock word) (unlockWord word) s

/-- 1 s since the first word (R520). -/
def execUnlockTimeout (s : State) : Host.Outcome State Fault Refusal := perform .unlockTimeout unlockTimeout s

/-- TEST_EN falls (R520). -/
def execTestEnFall (cut : Option Cut) (s : State) : Host.Outcome State Fault Refusal := perform (.testEnFall cut) (testEnFalls cut) s

end Sys2Proof.Machine
end

