-- ==== Sys2Proof/Machine/Dispatch.lean ====
section
/-! DEFINITION. The command's effect on everything but the queue: one arm per command, one meaning each. -/

namespace Sys2Proof.Machine

def exec (i : Instr) (s : State) : Host.Outcome State Fault Refusal :=
  match i with
  | .porstN memberId => Sys2Proof.Machine.execPorstN memberId s
  | .srstN => Sys2Proof.Machine.execSrstN s
  | .lockstepMismatch => Sys2Proof.Machine.execLockstepMismatch s
  | .watchdogExpiry => Sys2Proof.Machine.execWatchdogExpiry s
  | .supplyDetector => Sys2Proof.Machine.execSupplyDetector s
  | .supplyExcursion supply => Sys2Proof.Machine.execSupplyExcursion supply s
  | .thermalTrip => Sys2Proof.Machine.execThermalTrip s
  | .temperatureSample sensors coreMv inRange => Sys2Proof.Machine.execTemperatureSample sensors coreMv inRange s
  | .pllLossOfLock => Sys2Proof.Machine.execPllLossOfLock s
  | .coreVidValid => Sys2Proof.Machine.execCoreVidValid s
  | .romVerifyDone view => Sys2Proof.Machine.execRomVerifyDone view s
  | .patternApplyDone view => Sys2Proof.Machine.execPatternApplyDone view s
  | .startUpInput => Sys2Proof.Machine.execStartUpInput s
  | .serveTimeout => Sys2Proof.Machine.execServeTimeout s
  | .fabricWaitTimeout => Sys2Proof.Machine.execFabricWaitTimeout s
  | .stateTransferStart => Sys2Proof.Machine.execStateTransferStart s
  | .tick obs => Sys2Proof.Machine.execTick obs s
  | .holdOffExpiry cand => Sys2Proof.Machine.execHoldOffExpiry cand s
  | .refFramePulse cand arrival => Sys2Proof.Machine.execRefFramePulse cand arrival s
  | .sync cand sec ns rx => Sys2Proof.Machine.execSync cand sec ns rx s
  | .xoInLost => Sys2Proof.Machine.execXoInLost s
  | .step src => Sys2Proof.Machine.execStep src s
  | .clrHoldoff mask => Sys2Proof.Machine.execClrHoldoff mask s
  | .candidateConfigWrite off word => Sys2Proof.Machine.execCandidateConfigWrite off word s
  | .ppsOutPulse => Sys2Proof.Machine.execPpsOutPulse s
  | .pulseWidthEnd pps => Sys2Proof.Machine.execPulseWidthEnd pps s
  | .doorbell ring0 ring1 => Sys2Proof.Machine.execDoorbell ring0 ring1 s
  | .mailboxWrite bank record word value => Sys2Proof.Machine.execMailboxWrite bank record word value s
  | .salvoAcceptance us => Sys2Proof.Machine.execSalvoAcceptance us s
  | .launch => Sys2Proof.Machine.execLaunch s
  | .switchPoint dst => Sys2Proof.Machine.execSwitchPoint dst s
  | .audioGridSample rate => Sys2Proof.Machine.execAudioGridSample rate s
  | .crossfadeComplete dst channel => Sys2Proof.Machine.execCrossfadeComplete dst channel s
  | .frameBoundary fam reads => Sys2Proof.Machine.execFrameBoundary fam reads s
  | .dualWriteStart => Sys2Proof.Machine.execDualWriteStart s
  | .migrationCompletion => Sys2Proof.Machine.execMigrationCompletion s
  | .migrationRelease => Sys2Proof.Machine.execMigrationRelease s
  | .resourceRelease => Sys2Proof.Machine.execResourceRelease s
  | .safeStateEntry => Sys2Proof.Machine.execSafeStateEntry s
  | .safeStateExit => Sys2Proof.Machine.execSafeStateExit s
  | .safeRelease => Sys2Proof.Machine.execSafeRelease s
  | .pinRelease => Sys2Proof.Machine.execPinRelease s
  | .faultNTimerExpiry => Sys2Proof.Machine.execFaultNTimerExpiry s
  | .fire word => Sys2Proof.Machine.execFire word s
  | .retrainingPause ch => Sys2Proof.Machine.execRetrainingPause ch s
  | .pauseEvaluation ch lanes => Sys2Proof.Machine.execPauseEvaluation ch lanes s
  | .pauseEnd ch => Sys2Proof.Machine.execPauseEnd ch s
  | .evacuation => Sys2Proof.Machine.execEvacuation s
  | .placementGapTimeout => Sys2Proof.Machine.execPlacementGapTimeout s
  | .digestSnapshot => Sys2Proof.Machine.execDigestSnapshot s
  | .digestTimeout => Sys2Proof.Machine.execDigestTimeout s
  | .signalDetect lane => Sys2Proof.Machine.execSignalDetect lane s
  | .huntDwellEnd lane rate div freq => Sys2Proof.Machine.execHuntDwellEnd lane rate div freq s
  | .lossOfLock lane below => Sys2Proof.Machine.execLossOfLock lane below s
  | .synthesiserLock octet mask => Sys2Proof.Machine.execSynthesiserLock octet mask s
  | .octetStartTimeout octet => Sys2Proof.Machine.execOctetStartTimeout octet s
  | .octetStopped octet => Sys2Proof.Machine.execOctetStopped octet s
  | .trainingComplete lane m3 m2 m1 c0 p1 => Sys2Proof.Machine.execTrainingComplete lane m3 m2 m1 c0 p1 s
  | .trainingTimeout lane => Sys2Proof.Machine.execTrainingTimeout lane s
  | .trainingRetry lane => Sys2Proof.Machine.execTrainingRetry lane s
  | .frequencyOutOfRange lane freq => Sys2Proof.Machine.execFrequencyOutOfRange lane freq s
  | .scanStart lane word => Sys2Proof.Machine.execScanStart lane word s
  | .scanDone lane errors h v moved => Sys2Proof.Machine.execScanDone lane errors h v moved s
  | .ethRefclkLoss ref => Sys2Proof.Machine.execEthRefclkLoss ref s
  | .ethRefclkReturn ref => Sys2Proof.Machine.execEthRefclkReturn ref s
  | .synthesiserUnlock octet synth => Sys2Proof.Machine.execSynthesiserUnlock octet synth s
  | .sdiLine lane line => Sys2Proof.Machine.execSdiLine lane line s
  | .st352Packet lane psid => Sys2Proof.Machine.execSt352Packet lane psid s
  | .linkUp mac => Sys2Proof.Machine.execLinkUp mac s
  | .linkDown mac rfault => Sys2Proof.Machine.execLinkDown mac rfault s
  | .receiveFrame mac frame => Sys2Proof.Machine.execReceiveFrame mac frame s
  | .pauseExpiry mac => Sys2Proof.Machine.execPauseExpiry mac s
  | .pauseEnWrite mac en => Sys2Proof.Machine.execPauseEnWrite mac en s
  | .transmitFrame mac handed => Sys2Proof.Machine.execTransmitFrame mac handed s
  | .packetOffer entry => Sys2Proof.Machine.execPacketOffer entry s
  | .packetRelease entry => Sys2Proof.Machine.execPacketRelease entry s
  | .opaqueFlowTimeout entry => Sys2Proof.Machine.execOpaqueFlowTimeout entry s
  | .opaqueMarkerTimeout dst => Sys2Proof.Machine.execOpaqueMarkerTimeout dst s
  | .reportRepeat report => Sys2Proof.Machine.execReportRepeat report s
  | .syncOutputFrame slot reads => Sys2Proof.Machine.execSyncOutputFrame slot reads s
  | .flip head => Sys2Proof.Machine.execFlip head s
  | .overlayExchange head => Sys2Proof.Machine.execOverlayExchange head s
  | .captureStart picture surf => Sys2Proof.Machine.execCaptureStart picture surf s
  | .captureDone => Sys2Proof.Machine.execCaptureDone s
  | .bar2Access master off size bytes => Sys2Proof.Machine.execBar2Access master off size bytes s
  | .trainingSubstepEnd ch obs => Sys2Proof.Machine.execTrainingSubstepEnd ch obs s
  | .speedTargetWrite ch target => Sys2Proof.Machine.execSpeedTargetWrite ch target s
  | .channelStopped ch => Sys2Proof.Machine.execChannelStopped ch s
  | .driftTracking ch drift => Sys2Proof.Machine.execDriftTracking ch drift s
  | .idleTimeout ch => Sys2Proof.Machine.execIdleTimeout ch s
  | .selfRefreshEntered ch => Sys2Proof.Machine.execSelfRefreshEntered ch s
  | .wakeComplete ch lanes => Sys2Proof.Machine.execWakeComplete ch lanes s
  | .patrolScrub ch ce ues => Sys2Proof.Machine.execPatrolScrub ch ce ues s
  | .refreshRateRead ch rates high => Sys2Proof.Machine.execRefreshRateRead ch rates high s
  | .commit layer => Sys2Proof.Machine.execCommit layer s
  | .layerInput layer us => Sys2Proof.Machine.execLayerInput layer us s
  | .commitLanding layer => Sys2Proof.Machine.execCommitLanding layer s
  | .shadowWrite layer word value => Sys2Proof.Machine.execShadowWrite layer word value s
  | .bankProgramWrite off value => Sys2Proof.Machine.execBankProgramWrite off value s
  | .portFrame port frame => Sys2Proof.Machine.execPortFrame port frame s
  | .portClockLoss port => Sys2Proof.Machine.execPortClockLoss port s
  | .portStopComplete port => Sys2Proof.Machine.execPortStopComplete port s
  | .gainWrite node word => Sys2Proof.Machine.execGainWrite node word s
  | .biquadCoefficientWrite output biquad coef word => Sys2Proof.Machine.execBiquadCoefficientWrite output biquad coef word s
  | .gatherStopComplete => Sys2Proof.Machine.execGatherStopComplete s
  | .seamFrame link lane frame => Sys2Proof.Machine.execSeamFrame link lane frame s
  | .seamFrameTransmit link => Sys2Proof.Machine.execSeamFrameTransmit link s
  | .trainingFrame link lane frame => Sys2Proof.Machine.execTrainingFrame link lane frame s
  | .laneRejoin link lane => Sys2Proof.Machine.execLaneRejoin link lane s
  | .ack link nums => Sys2Proof.Machine.execAck link nums s
  | .forward link num input => Sys2Proof.Machine.execForward link num input s
  | .announce link num index instant input => Sys2Proof.Machine.execAnnounce link num index instant input s
  | .request link num index => Sys2Proof.Machine.execRequest link num index s
  | .digest link num value instant => Sys2Proof.Machine.execDigest link num value instant s
  | .twinSync link num choices seqs => Sys2Proof.Machine.execTwinSync link num choices seqs s
  | .state link num image => Sys2Proof.Machine.execState link num image s
  | .messageResend link => Sys2Proof.Machine.execMessageResend link s
  | .takeover => Sys2Proof.Machine.execTakeover s
  | .timeValidExpiry => Sys2Proof.Machine.execTimeValidExpiry s
  | .resync => Sys2Proof.Machine.execResync s
  | .resyncApply => Sys2Proof.Machine.execResyncApply s
  | .handover => Sys2Proof.Machine.execHandover s
  | .journalEntry ok => Sys2Proof.Machine.execJournalEntry ok s
  | .checkpoint ok => Sys2Proof.Machine.execCheckpoint ok s
  | .durabilityLag => Sys2Proof.Machine.execDurabilityLag s
  | .attestationStart => Sys2Proof.Machine.execAttestationStart s
  | .attestationDone => Sys2Proof.Machine.execAttestationDone s
  | .offer view => Sys2Proof.Machine.execOffer view s
  | .put fails => Sys2Proof.Machine.execPut fails s
  | .offerDatagram mac addr v6 header view => Sys2Proof.Machine.execOfferDatagram mac addr v6 header view s
  | .piece digest index bytes fails => Sys2Proof.Machine.execPiece digest index bytes fails s
  | .query mac addr v6 digest first => Sys2Proof.Machine.execQuery mac addr v6 digest first s
  | .finalCheckDone ok view key => Sys2Proof.Machine.execFinalCheckDone ok view key s
  | .abort => Sys2Proof.Machine.execAbort s
  | .sessionExpiry => Sys2Proof.Machine.execSessionExpiry s
  | .activate => Sys2Proof.Machine.execActivate s
  | .copyForwardDone ok => Sys2Proof.Machine.execCopyForwardDone ok s
  | .activationInstant => Sys2Proof.Machine.execActivationInstant s
  | .approve => Sys2Proof.Machine.execApprove s
  | .healthConfirm => Sys2Proof.Machine.execHealthConfirm s
  | .healthWindowExpiry => Sys2Proof.Machine.execHealthWindowExpiry s
  | .unlock word => Sys2Proof.Machine.execUnlock word s
  | .testEnFall cut => Sys2Proof.Machine.execTestEnFall cut s
  | .unlockTimeout => Sys2Proof.Machine.execUnlockTimeout s
  | .registerWrite master off beats blt => Sys2Proof.Machine.execRegisterWrite master off beats blt s
  | .clearOnRead master off words enabled parity blt => Sys2Proof.Machine.execClearOnRead master off words enabled parity blt s
  | .snapshotRead master off words enabled parity blt => Sys2Proof.Machine.execSnapshotRead master off words enabled parity blt s
  | .accessTimeout master off target write late => Sys2Proof.Machine.execAccessTimeout master off target write late s
  | .pciePerstN low cut => Sys2Proof.Machine.execPciePerstN low cut s
  | .hotReset hot cut => Sys2Proof.Machine.execHotReset hot cut s
  | .functionLevelReset cut => Sys2Proof.Machine.execFunctionLevelReset cut s
  | .holdoffEnd vector => Sys2Proof.Machine.execHoldoffEnd vector s
  | .vectorUnmask vector => Sys2Proof.Machine.execVectorUnmask vector s
  | .controlRequest request => Sys2Proof.Machine.execControlRequest request s
  | .read off words => Sys2Proof.Machine.execRead off words s
  | .write off data => Sys2Proof.Machine.execWrite off data s
  | .winRead off words => Sys2Proof.Machine.execWinRead off words s
  | .winWrite off data => Sys2Proof.Machine.execWinWrite off data s
  | .receiverLock lane freq ctle snr dfe => Sys2Proof.Machine.execReceiverLock lane freq ctle snr dfe s
  | .updRevert => Sys2Proof.Machine.execUpdRevert s
  | .supplyRecovery memberId => Sys2Proof.Machine.execSupplyRecovery memberId s
  | .configurationRequest set => Sys2Proof.Machine.execConfigurationRequest set s
  | .pcieLinkUp speed width => Sys2Proof.Machine.execPcieLinkUp speed width s
  | .shutDownFinished seam number => Sys2Proof.Machine.execShutDownFinished seam number s
  | .testReset cut => Sys2Proof.Machine.execTestReset cut s

end Sys2Proof.Machine
end

