-- ==== Sys2Proof/Machine/Step.lean ====
section
/-! DEFINITION. One step of the block: the command at the front of the queue, or, with none waiting, one core cycle. -/

namespace Sys2Proof.Machine

/-- What an empty queue leaves to do: one core cycle of device time passes (R31; DESIGN CHOICE, notes/assumptions/1.md). -/
def idle (s : State) : State := { s with dev := advance 1 s.dev }

/-- Carry out the command at the front of the queue with the queue's rest; with an empty queue, idle. -/
def step (s : State) : Host.Outcome State Fault Refusal :=
  match s.pending with
  | [] => .next (idle s)
  | c :: rest => exec c { s with pending := rest }

/-- The state with the command a word spells at the front of its queue; unchanged where the word spells none. -/
def State.withFetchWord (s : State) (nbits w : Nat) : State :=
  match decodeTableWord nbits w with
  | some c => { s with pending := c :: s.pending }
  | none => s

end Sys2Proof.Machine
end

