-- ==== Sys2Proof/Safety.lean ====
section
/-! DEFINITION. What a safe step is, and the words in which the statements say what a command leaves alone. -/

namespace Sys2Proof

/-- The step answers a next state. -/
def SafeStep (s : Machine.State) : Prop := ∃ t, Machine.step s = Host.Outcome.next t

/-- The commands that act on a held or stopped device: the power-on resets, and the level of PCIE_PERST_N (R463, R531, R554). -/
def Instr.worksHeld : Instr → Bool
  | .porstN _
  | .supplyDetector
  | .supplyRecovery _
  | .pciePerstN _ _ => true
  | _ => false

/-- The power-on resets (R463, R554). -/
def Instr.isPowerOn : Instr → Bool
  | .porstN _
  | .supplyDetector
  | .supplyRecovery _ => true
  | _ => false

/-- The commands that reset the device or may end in a reset: the power-on resets, the soft resets, a start-up that falls back, an activation, the end
of a health window and the opening of test access (R463, R486, R509, R514, R521). -/
def Instr.isReset : Instr → Bool
  | .porstN _
  | .supplyDetector
  | .supplyRecovery _
  | .srstN
  | .lockstepMismatch
  | .watchdogExpiry
  | .startUpInput
  | .activationInstant
  | .healthWindowExpiry
  | .unlock _ => true
  | _ => false

/-- The commands that read or write registers by address (R8, R11, R539, R541). -/
def Instr.accessesRegisters : Instr → Bool
  | .candidateConfigWrite _ _
  | .shadowWrite _ _ _
  | .bankProgramWrite _ _
  | .registerWrite _ _ _ _
  | .clearOnRead _ _ _ _ _ _
  | .snapshotRead _ _ _ _ _ _
  | .accessTimeout _ _ _ _ _
  | .controlRequest _
  | .read _ _
  | .write _ _
  | .winRead _ _
  | .winWrite _ _ => true
  | _ => false

/-- The commands under which flash or OTP may change. -/
def Instr.mayWriteFlash : Instr → Bool
  | .romVerifyDone _
  | .startUpInput
  | .tick _
  | .candidateConfigWrite _ _
  | .shadowWrite _ _ _
  | .bankProgramWrite _ _
  | .journalEntry _
  | .checkpoint _
  | .offer _
  | .put _
  | .offerDatagram _ _ _ _ _
  | .piece _ _ _ _
  | .finalCheckDone _ _ _
  | .abort
  | .sessionExpiry
  | .activate
  | .copyForwardDone _
  | .activationInstant
  | .healthConfirm
  | .healthWindowExpiry
  | .unlock _
  | .registerWrite _ _ _ _
  | .accessTimeout _ _ _ _ _
  | .controlRequest _
  | .read _ _
  | .write _ _
  | .winRead _ _
  | .winWrite _ _ => true
  | _ => false

namespace Machine

/-- Every register field instance but those whose keys are listed reads in `e` as it does in `d`. -/
def RegsKept (ks : List Nat) (d e : Dev) : Prop := ∀ k, k ∉ ks → tabGet 0 e.regs k = tabGet 0 d.regs k

/-- The key of TOP_IRQ_ST.raised, which any vector raised sets a bit of (R535). -/
def irqKey : Nat := fldKey TOP_IRQ_ST_raised []

/-- The keys of what a firing of source n can set: its sticky word, the raised vectors and the pin latch (R444, R447, R448). -/
def fireKeys (n : Nat) : List Nat := [fldKey BLT_STICKY_bits [n / 32], irqKey, fldKey BLT_STATUS_pin_latch []]

/-- Beside registers, only interrupts, the Blotter's own state and the outputs differ. -/
def OnlyFaults (d e : Dev) : Prop := e = { d with regs := e.regs, irq := e.irq, out := e.out, blt := e.blt }

/-- Every table of the device is in canonical form: the register table, the staged and held words, the limits per second, the grid instants, the
DRAM channels, MACs and SDI inputs, and the bytes behind BAR2 (rising indices, no entry equal to what an unlisted index reads as). -/
structure Canon (d : Dev) : Prop where
  regs : tabWf 0 d.regs = true
  staged : tabWf none d.staged = true
  held : tabWf none d.held = true
  lastSecond : tabWf 0 d.lastSecond = true
  lastAt : tabWf 0 d.lastAt = true
  drams : tabWf {} d.drams = true
  macs : tabWf {} d.macs = true
  sdi : tabWf {} d.sdi = true
  bytes : tabWf 0 d.ink.bytes = true

/-- The parts of a device, one per field of `Dev`. -/
inductive DevPart where
  | regs
  | staged
  | held
  | ntw
  | devTime
  | freeCtr
  | out
  | lastSecond
  | clocksStopped
  | lastAt
  | pins
  | rul
  | blt
  | irq
  | xpt
  | lns
  | ink
  | drams
  | flw
  | macs
  | sdi
  | qlt
  | aud
  | apt
  | gth
  | sea
  | tlr
  | icn
  | journal
  | nv
  | boot
  | pat
  | health
  deriving DecidableEq, Repr

/-- A part as a bit. -/
def DevPart.mask : DevPart → Nat
  | .regs => 0x1
  | .staged => 0x2
  | .held => 0x4
  | .ntw => 0x8
  | .devTime => 0x10
  | .freeCtr => 0x20
  | .out => 0x40
  | .lastSecond => 0x80
  | .clocksStopped => 0x100
  | .lastAt => 0x200
  | .pins => 0x400
  | .rul => 0x800
  | .blt => 0x1000
  | .irq => 0x2000
  | .xpt => 0x4000
  | .lns => 0x8000
  | .ink => 0x10000
  | .drams => 0x20000
  | .flw => 0x40000
  | .macs => 0x80000
  | .sdi => 0x100000
  | .qlt => 0x200000
  | .aud => 0x400000
  | .apt => 0x800000
  | .gth => 0x1000000
  | .sea => 0x2000000
  | .tlr => 0x4000000
  | .icn => 0x8000000
  | .journal => 0x10000000
  | .nv => 0x20000000
  | .boot => 0x40000000
  | .pat => 0x80000000
  | .health => 0x100000000

/-- Parts as a mask. -/
def partsMask (ps : List DevPart) : Nat := ps.foldl (fun m p => Nat.lor m p.mask) 0

/-- The bit of a mask within which a sticky bit may be cleared. -/
def stickyMask : Nat := 2 ^ 1057

/-- A field as a bit of a mask, with the bit of the register table; BLT_STICKY also with that of a clearing. -/
def fldMask (f : Fld) : Nat :=
  Nat.lor (Nat.lor 0x1 (2 ^ (33 + f.no % 1024))) (if f.no % 1024 = BLT_STICKY_bits.no then stickyMask else 0)

/-- Fields as a mask, within which no sticky bit may be cleared. -/
def regsMask (fs : List Fld) : Nat := fs.foldl (fun m f => Nat.lor m (Nat.lor 0x1 (2 ^ (33 + f.no % 1024)))) 0

/-- From `d` to `e` the tables keep their canonical form, no part outside the mask changes, no instance of a field outside
it, and no sticky bit is cleared unless the mask allows it. -/
structure Kept (m : Nat) (d e : Dev) : Prop where
  canon : Canon d → Canon e
  regs : Nat.land m 0x1 = 0 → e.regs = d.regs
  staged : Nat.land m 0x2 = 0 → e.staged = d.staged
  held : Nat.land m 0x4 = 0 → e.held = d.held
  ntw : Nat.land m 0x8 = 0 → e.ntw = d.ntw
  devTime : Nat.land m 0x10 = 0 → e.devTime = d.devTime
  freeCtr : Nat.land m 0x20 = 0 → e.freeCtr = d.freeCtr
  out : Nat.land m 0x40 = 0 → e.out = d.out
  lastSecond : Nat.land m 0x80 = 0 → e.lastSecond = d.lastSecond
  clocksStopped : Nat.land m 0x100 = 0 → e.clocksStopped = d.clocksStopped
  lastAt : Nat.land m 0x200 = 0 → e.lastAt = d.lastAt
  pins : Nat.land m 0x400 = 0 → e.pins = d.pins
  rul : Nat.land m 0x800 = 0 → e.rul = d.rul
  blt : Nat.land m 0x1000 = 0 → e.blt = d.blt
  irq : Nat.land m 0x2000 = 0 → e.irq = d.irq
  xpt : Nat.land m 0x4000 = 0 → e.xpt = d.xpt
  lns : Nat.land m 0x8000 = 0 → e.lns = d.lns
  ink : Nat.land m 0x10000 = 0 → e.ink = d.ink
  drams : Nat.land m 0x20000 = 0 → e.drams = d.drams
  flw : Nat.land m 0x40000 = 0 → e.flw = d.flw
  macs : Nat.land m 0x80000 = 0 → e.macs = d.macs
  sdi : Nat.land m 0x100000 = 0 → e.sdi = d.sdi
  qlt : Nat.land m 0x200000 = 0 → e.qlt = d.qlt
  aud : Nat.land m 0x400000 = 0 → e.aud = d.aud
  apt : Nat.land m 0x800000 = 0 → e.apt = d.apt
  gth : Nat.land m 0x1000000 = 0 → e.gth = d.gth
  sea : Nat.land m 0x2000000 = 0 → e.sea = d.sea
  tlr : Nat.land m 0x4000000 = 0 → e.tlr = d.tlr
  icn : Nat.land m 0x8000000 = 0 → e.icn = d.icn
  journal : Nat.land m 0x10000000 = 0 → e.journal = d.journal
  nv : Nat.land m 0x20000000 = 0 → e.nv = d.nv
  boot : Nat.land m 0x40000000 = 0 → e.boot = d.boot
  pat : Nat.land m 0x80000000 = 0 → e.pat = d.pat
  health : Nat.land m 0x100000000 = 0 → e.health = d.health
  inst : ∀ k, Nat.testBit m (33 + keyNo k) = false → tabGet 0 e.regs k = tabGet 0 d.regs k
  sticky : Nat.testBit m 1057 = false → ∀ n < 2048, stickyOf n d = true → stickyOf n e = true

/-- The fields of registers. -/
def fieldsOf (rs : List RegD) : List Fld := rs.flatMap (fun r => r.flds)

/-- The fields that the firing of a source can change: its sticky bit and the pin latch (R446, R448). -/
def firing : List Fld := [BLT_STICKY_bits, BLT_STATUS_pin_latch]

/-- From `d` to `e` nothing changes but the parts named, instances of the fields named, and what any command may leave: outputs, interrupts owed
and TOP_IRQ_ST (R534, R535). No sticky bit of the Blotter is cleared. The tables keep their canonical form. -/
def Changes (ps : List DevPart) (fs : List Fld) (d e : Dev) : Prop :=
  Kept (Nat.lor (partsMask (.out :: .irq :: ps)) (regsMask (TOP_IRQ_ST_raised :: fs))) d e

/-- As `Changes`, for a command that can carry out a soft reset, which also drops entries of the register table that belong to no field. -/
def ChangesByReset (ps : List DevPart) (fs : List Fld) (d e : Dev) : Prop :=
  Kept (Nat.lor (Nat.lor (partsMask (.out :: .irq :: ps)) (regsMask (TOP_IRQ_ST_raised :: fs))) (2 ^ 1057 - 2 ^ 1020)) d e

/-- From `d` to `e` nothing changes but registers, outputs, interrupts owed and the parts named. The tables keep their canonical form. -/
def ChangesParts (ps : List DevPart) (d e : Dev) : Prop :=
  Kept (Nat.lor (partsMask (.out :: .irq :: .regs :: ps)) (2 ^ 1058 - 2 ^ 33)) d e

/-- Nothing changes: the command's outputs are none. -/
def Unchanged (d e : Dev) : Prop := e = { d with out := [] }

/-- The command is carried out: power-on reset is not held and the clocks run (R463, R554, R560). -/
def Awake (s : State) : Prop := heldDown s.dev = false

/-- The next state a command answers, with the queue left as it is. -/
def Completes (c : Instr) (s : State) (p : Dev → Prop) : Prop :=
  ∃ t, exec c s = Host.Outcome.next t ∧ t.pending = s.pending ∧ p t.dev

/-- A command whose operands name things the device has completes in every state in which the device works, and `p` holds of the device
before it and after it. -/
def Carried (c : Instr) (p : Dev → Dev → Prop) : Prop := c.wf = true → ∀ s, Awake s → Completes c s (p s.dev)

/-- Source n fires: unless it stands already or is graded NONE, its sticky bit is 1 afterwards (R440, R444). -/
def Fired (n : Nat) (d e : Dev) : Prop :=
  sourceListed n = true → rawOf n d = false → severityOf n d ≠ 0 → stickyOf n e = true

/-- The device lets core cycles pass until the NTW first equals or passes an instant, none where it has (R31, R32). -/
def Comes (t : Nat) (d e : Dev) : Prop :=
  e.ntw = (advanceTo t d).ntw ∧ e.devTime = (advanceTo t d).devTime

/-- The device lets core cycles pass until device time first equals or passes an instant, none where it has. -/
def Passes (t : Nat) (d e : Dev) : Prop :=
  e.ntw = (advanceDev t d).ntw ∧ e.devTime = (advanceDev t d).devTime

/-- Everything is at its value after PORST_N with a MEMBER_ID sampled, but what the reset does not touch: flash and OTP, the levels of TEST_EN and
PCIE_PERST_N, and the count of free values (R415, R463). -/
def AfterPorst (member : Nat) (d e : Dev) : Prop :=
  e.nv = d.nv ∧ rd SEA_FABRIC_member [] e = member ∧ (∀ f ix, fldKey f ix ≠ fldKey SEA_FABRIC_member [] → rd f ix e = f.reset ix) ∧
    e = { regs := e.regs, nv := d.nv, freeCtr := d.freeCtr, pins := { testEn := d.pins.testEn, perstLow := d.pins.perstLow, porstLow := e.pins.porstLow } }

/-- The registers that a soft reset writes beside returning them to their reset values or keeping them: its cause and count, the member number,
and what the conditions that still hold fire (R461, R463). -/
def resetWrites : List Fld := [TOP_RESET_CAUSE_cause, SEA_FABRIC_member, BLT_RAW_bits, BLT_STICKY_bits, BLT_STATUS_pin_latch, TOP_IRQ_ST_raised]

/-- What a soft reset leaves: time, the Ruling, flash and OTP, the sticky bits and the kept registers as they were; its cause recorded and
counted; every other register at its reset value and every queue and unit empty (R463, R486). -/
def AfterSoftReset (cause : Nat) (d e : Dev) : Prop :=
  e.ntw = d.ntw ∧ e.devTime = d.devTime ∧ e.rul = d.rul ∧ e.nv = d.nv ∧
    rd TOP_RESET_CAUSE_cause [] e = cause ∧ rd TOP_RESET_CAUSE_soft_count [] e = min 65535 (rd TOP_RESET_CAUSE_soft_count [] d + 1) ∧
    rd SEA_FABRIC_member [] e = rd SEA_FABRIC_member [] d % 32 ∧
    (∀ f ix, (∀ g ∈ resetWrites, f.no % 1024 ≠ g.no % 1024) → rd f ix e = if keptBySoftReset (fldKey f ix) then rd f ix d else f.reset ix) ∧
    e.xpt = {} ∧ e.lns = {} ∧ e.ink = {} ∧ e.drams = [] ∧ e.flw = {} ∧ e.macs = [] ∧ e.sdi = [] ∧ e.qlt = {} ∧ e.aud = {} ∧ e.apt = {} ∧ e.gth = {} ∧
    e.sea = {} ∧ e.tlr = {} ∧ e.journal = [] ∧ e.pat = {} ∧ e.health = []

end Machine

end Sys2Proof
end

