-- ==== Sys2Proof/Certificates/Slice0/Obligations.lean ====
section
/-! DEFINITION. The statements for the provers. A clause for a command says that it completes, what it leaves alone, and what it does. -/

section

open Sys2Proof Sys2Proof.Machine

/-- State.reset's register table, staged and held words, per-second limits, grid instants, DRAM channels, MACs, SDI inputs and the bytes behind BAR2
are all in canonical form: rising indices, and no entry equal to what an unlisted index reads as. -/
def Obligations.CanonicalTablesAtReset : Prop :=
  Canon State.reset.dev

/-- From every state whose device has its tables in canonical form, whatever command stands at the front of the queue and also with an empty queue,
the state a step answers has them in canonical form: equal contents are equal data, in the register file, the memory behind BAR2, and the tables
of channels, MACs and SDI inputs. -/
def Obligations.EveryStepKeepsCanonicalTables : Prop :=
  ∀ s t : State, Canon s.dev → step s = Host.Outcome.next t → Canon t.dev

/-- Right after PORST_N no command waits, NTW and device time are 0, the steering is 0 in FREE, every register field reads its reset value, the phase
is 0 (ROM), every function is STOPPED, no fault stands, pin_thr is DEGRADE, quiet_ms is 2,000, the FAULT_N width is 100, hold-off is 10 s, jump
threshold 200 ns, the device is not in safe state and FAULT_N is released. -/
def Obligations.ResetHoldsTheSpecsValues : Prop :=
  State.reset.pending = [] ∧ State.reset.dev.ntw = 0 ∧ State.reset.dev.devTime = 0 ∧ steering State.reset.dev = 0 ∧
  (∀ f ix, rd f ix State.reset.dev = f.reset ix) ∧ rd RUL_STATUS_state [] State.reset.dev = 0 ∧ rd TOP_BOOT_ST_phase [] State.reset.dev = 0 ∧
  (∀ n < 165, funcState n State.reset.dev = 0) ∧ (∀ n < 512, rawOf n State.reset.dev = false ∧ stickyOf n State.reset.dev = false) ∧
  rd BLT_CTRL_pin_thr [] State.reset.dev = 2 ∧ rd BLT_QUIET_quiet_ms [] State.reset.dev = 2000 ∧ rd BLT_FAULTN_WIDTH_width [] State.reset.dev = 100 ∧
  rd RUL_JUMP_thresh_ns [] State.reset.dev = 200 ∧ rd RUL_JUMP_holdoff_s [] State.reset.dev = 10 ∧
  inSafe State.reset.dev = false ∧ faultN State.reset.dev = false

/-- For every command c and state s, the step of s with c at the front of its queue is exec c on s with the queue's rest. -/
def Obligations.StepRunsTheFrontCommand : Prop :=
  ∀ (c : Instr) (rest : List Instr) (s : State), step { s with pending := c :: rest } = exec c { s with pending := rest }

/-- With an empty queue a step answers a next state (the model's choice, notes/assumptions/1.md) in which NTW and device time have advanced by one
core cycle, which is 40 nib and 640 times the steering's remainder in units of 2^-44 nib, where Sd is S rounded to the nearest multiple of 256
with halves up; every register, every other part and the empty queue stay. While the clocks are stopped or the device is held, nothing passes. -/
def Obligations.EmptyQueueLetsOneCoreCyclePass : Prop :=
  ∀ s : State, s.pending = [] → ∃ t, step s = Host.Outcome.next t ∧ t.pending = [] ∧ Changes [.ntw, .devTime] [] s.dev t.dev ∧
  (heldDown s.dev = true → t.dev = s.dev) ∧
  (heldDown s.dev = false → ∀ sd : Int, sd % 256 = 0 → -128 ≤ steering s.dev - sd → steering s.dev - sd ≤ 127 →
    (t.dev.ntw : Int) = s.dev.ntw + (40 * 17592186044416 + 640 * (steering s.dev - sd)) ∧
    (t.dev.devTime : Int) = s.dev.devTime + (40 * 17592186044416 + 640 * (steering s.dev - sd)))

/-- In every state, every command whose operands name things the device has answers a next state with the queue as it is, and every other command
answers the fault illFormed: no command is refused and no ordinary data ends a run. -/
def Obligations.EveryCommandIsCarriedOutOrIllFormed : Prop :=
  ∀ (c : Instr) (s : State), (c.wf = true → ∃ t, exec c s = Host.Outcome.next t ∧ t.pending = s.pending) ∧
  (c.wf = false → exec c s = Host.Outcome.fault Fault.illFormed)

/-- While a supply detector holds the device or a thermal trip has stopped its clocks, every well-formed command but PORST_N, the supply detector,
supply recovery and PCIE_PERST_N completes and leaves everything as it was, with no output. Of the others, PCIE_PERST_N leaves the device held; a
trip is ended by PORST_N, a detector and its recovery only. -/
def Obligations.HeldDeviceIgnoresCommands : Prop :=
  ∀ (c : Instr) (s : State), c.wf = true → heldDown s.dev = true →
  (c.worksHeld = false → exec c s = Host.Outcome.next { s with dev := { s.dev with out := [] } }) ∧
  (∀ t, exec c s = Host.Outcome.next t → s.dev.clocksStopped = true → t.dev.clocksStopped = false → c.isPowerOn = true)

/-- If the clocks stand after a command and ran before it, the command is a thermal trip. -/
def Obligations.ClocksStopOnlyAtAThermalTrip : Prop :=
  ∀ (c : Instr) (s t : State), exec c s = Host.Outcome.next t → s.dev.clocksStopped = false → t.dev.clocksStopped = true → c = .thermalTrip

/-- A command outside the boot steps, the route-memory and update commands, test access, firmware's tick and the commands that write registers leaves
flash and OTP as they are; PORST_N and SRST_N among those that leave them. -/
def Obligations.FlashAndOtpChangeOnlyUnder : Prop :=
  ∀ (c : Instr) (s t : State), exec c s = Host.Outcome.next t → c.mayWriteFlash = false → t.dev.nv = s.dev.nv

/-- Whatever command runs, a sticky bit of the Blotter that is set stays set, whatever the raw state does meanwhile, unless the command accesses
registers by address, is a power-on reset or applies the Pattern; soft resets keep it, and so does a step with no command waiting. -/
def Obligations.StickyBitsStayUntilWrittenOrReset : Prop :=
  (∀ (c : Instr) (s t : State), exec c s = Host.Outcome.next t → c.accessesRegisters = false → c.isPowerOn = false → (∀ v, c ≠ .patternApplyDone v) →
    ∀ n < 2048, stickyOf n s.dev = true → stickyOf n t.dev = true) ∧
  (∀ s t : State, s.pending = [] → step s = Host.Outcome.next t → ∀ n, stickyOf n t.dev = stickyOf n s.dev)

/-- Outside the commands that access registers by address, the resets and the application of the Pattern: the Ruling state, time_set and the steering
in use change only at a tick; safe changes only at an entry, an exit, a safe_release and a tick; the source a destination carries changes only at
a launch, at a takeover and at a resync; the recovery count changes only at an exit and a tick; the record of the last reset and the member
number never change; and the boot phase changes only when the ROM has verified, at a frame boundary, at a takeover and at a resync. -/
def Obligations.StatusChangesOnlyUnderItsOwnCommands : Prop :=
  ∀ (c : Instr) (s t : State), exec c s = Host.Outcome.next t → c.accessesRegisters = false → c.isReset = false → (∀ v, c ≠ .patternApplyDone v) →
  ((∀ o, c ≠ .tick o) → rd RUL_STATUS_state [] t.dev = rd RUL_STATUS_state [] s.dev ∧ rd RUL_STATUS_time_set [] t.dev = rd RUL_STATUS_time_set [] s.dev ∧
    steering t.dev = steering s.dev) ∧
  (c ≠ .safeStateEntry → c ≠ .safeStateExit → c ≠ .safeRelease → (∀ o, c ≠ .tick o) → inSafe t.dev = inSafe s.dev) ∧
  (c ≠ .launch → c ≠ .takeover → c ≠ .resyncApply → ∀ dst, rd XPT_DST_SRC_src [dst] t.dev = rd XPT_DST_SRC_src [dst] s.dev) ∧
  (c ≠ .safeStateExit → (∀ o, c ≠ .tick o) → rd BLT_RECOV_count [] t.dev = rd BLT_RECOV_count [] s.dev) ∧
  rd TOP_RESET_CAUSE_cause [] t.dev = rd TOP_RESET_CAUSE_cause [] s.dev ∧ rd SEA_FABRIC_member [] t.dev = rd SEA_FABRIC_member [] s.dev ∧
  ((∀ v, c ≠ .romVerifyDone v) → (∀ fam reads, c ≠ .frameBoundary fam reads) → c ≠ .takeover → c ≠ .resyncApply →
    rd TOP_BOOT_ST_phase [] t.dev = rd TOP_BOOT_ST_phase [] s.dev)

/-- Once CORE_VID_VALID is raised, every command but the power-on resets leaves the code on CORE_VID and CORE_VID_VALID unchanged; soft resets leave
both. -/
def Obligations.CoreVoltageCodeStaysWhilePowered : Prop :=
  ∀ (c : Instr) (s t : State), exec c s = Host.Outcome.next t → c.isPowerOn = false → s.dev.pins.coreVidValid = true →
  t.dev.pins.coreVidValid = true ∧ t.dev.pins.coreVid = s.dev.pins.coreVid

/-- PORST_N leaves every register at its reset value, the member number sampled from MEMBER_ID, every unit empty and flash and OTP as they were; a
device that a detector holds stays held. A detector does the same and holds the device; recovery, on a held device, does the same and releases
it, and on any other device changes nothing. They act on a held or stopped device too. -/
def Obligations.PowerOnResetClearsAllButFlashAndOtp : Prop :=
  (∀ m s, m < 32 → Completes (.porstN m) s (fun e => AfterPorst m s.dev e ∧ e.pins.porstLow = s.dev.pins.porstLow)) ∧
  (∀ s, Completes .supplyDetector s (fun e => AfterPorst 0 s.dev e ∧ e.pins.porstLow = true)) ∧
  (∀ m s, m < 32 → Completes (.supplyRecovery m) s (fun e =>
    (s.dev.pins.porstLow = true → AfterPorst m s.dev e ∧ e.pins.porstLow = false) ∧ (s.dev.pins.porstLow = false → Unchanged s.dev e)))

/-- SRST_N (cause 1), a lockstep mismatch (cause 2, FS0258) and a watchdog expiry (cause 3, FS0259) keep time, the Ruling and its registers, flash
and OTP, BLT_STICKY, BLT_RECOV, BLT_SELF, the reset record, the PCIe link state, CORE_VID and the member number; the cause is recorded and
counted, and every other register returns to its reset value with every unit and queue empty. -/
def Obligations.SoftResetKeepsTimeAndRecordsItsCause : Prop :=
  Carried .srstN (fun d e => AfterSoftReset 1 d e) ∧
  Carried .lockstepMismatch (fun d e => e.ntw = d.ntw ∧ e.devTime = d.devTime ∧ AfterSoftReset 2 (fire 258 d) e ∧ Fired 258 d e) ∧
  Carried .watchdogExpiry (fun d e => e.ntw = d.ntw ∧ e.devTime = d.devTime ∧ AfterSoftReset 3 (fire 259 d) e ∧ Fired 259 d e)

/-- PORST_N resets the Ruling: the DCO has steering 0, in FREE, and the NTW is 0 s + 0 nib. SRST_N leaves the Ruling, its DCO, its NTW and every
register of its block unchanged. -/
def Obligations.RulingIsResetByPorstAndKeptBySrst : Prop :=
  (∀ m s, m < 32 → Completes (.porstN m) s (fun e =>
    e.rul = {} ∧ (∀ r ∈ regsRul, ∀ f ∈ r.flds, ∀ ix, rd f ix e = f.reset ix) ∧ steering e = 0 ∧ rd RUL_STATUS_state [] e = 0 ∧ e.ntw = 0)) ∧
  Carried .srstN (fun d e => e.rul = d.rul ∧ steering e = steering d ∧ e.ntw = d.ntw ∧ e.devTime = d.devTime ∧
    ∀ r ∈ regsRul, ∀ f ∈ r.flds, ∀ i < 6, rd f [] e = rd f [] d ∧ rd f [i] e = rd f [i] d)

/-- A supply excursion clears the supply's in-range bit, sets its excursion bit and fires FS0021 for VDD_CORE and FS0020 for every other supply. A
PLL loss of lock sets pll_unlock and fires FS0023. CORE_VID is driven with the unit's code, once, and never with a code above 20. -/
def Obligations.SupplyAndClockMonitors : Prop :=
  (∀ supply, Carried (.supplyExcursion supply) (fun d e =>
    Changes [.blt] (firing ++ fieldsOf [TOP_SUPPLY]) d e ∧
    rdBit TOP_SUPPLY_excursion [] supply e = true ∧ rdBit TOP_SUPPLY_in_range [] supply e = false ∧ Fired (if supply = 0 then 21 else 20) d e ∧
    ∀ k, k ≠ supply → k < 7 → rdBit TOP_SUPPLY_excursion [] k e = rdBit TOP_SUPPLY_excursion [] k d ∧ rdBit TOP_SUPPLY_in_range [] k e = rdBit TOP_SUPPLY_in_range [] k d)) ∧
  (Carried .pllLossOfLock (fun d e =>
    Changes [.blt] (firing ++ [TOP_MON_STICKY_pll_unlock]) d e ∧
    rd TOP_MON_STICKY_pll_unlock [] e = 1 ∧ Fired 23 d e)) ∧
  (Carried .coreVidValid (fun d e =>
    Changes [.pins] [TOP_VID_valid] d e ∧
    (d.pins.coreVidValid = false → rd TOP_VID_code [] d ≤ 20 →
      rd TOP_VID_valid [] e = 1 ∧ e.pins.coreVidValid = true ∧ e.pins.coreVid = rd TOP_VID_code [] d) ∧
    (d.pins.coreVidValid = true ∨ 20 < rd TOP_VID_code [] d → Unchanged d e)))

/-- A sample falls at the next whole millisecond. tj shows the highest valid reading and its sensor, and the peak follows. FS0018 is raw at 160
degrees or more and not below 155; FS0016 at tj_warn or more and not 5 degrees below; FS0017 above 150 and not at 145 or below; FS0019 below -40
and not at -35 or above; FS0022 stands exactly while a sensor fails. With no valid reading tj and the four sources keep their values. A trip
asserts THERMTRIP_N and FAULT_N, drives HEALTH_HB low and stops the clocks. Where a threshold source turns at the hysteresis boundary is
notes/assumptions/40.md. -/
def Obligations.TemperatureSampleAndTrip : Prop :=
  (∀ xs mv rng, Carried (.temperatureSample xs mv rng) (fun d e =>
    Changes [.ntw, .devTime, .lastAt, .blt] (firing ++ [TOP_TEMP_CFG_sensor_ok, TOP_SUPPLY_in_range, TOP_VID_core_mv, TOP_MON_STICKY_warn, TOP_MON_STICKY_over150, TOP_MON_STICKY_over160, TOP_MON_STICKY_under40, TOP_MON_STICKY_sensor_fail, BLT_RAW_bits] ++ fieldsOf [TOP_TEMP]) d e ∧
    Comes (nextGrid 52920000 0 6 d) d e ∧ rd TOP_VID_core_mv [] e = mv % 4096 ∧ rd TOP_SUPPLY_in_range [] e = rng % 128 ∧
    rawOf 22 e = xs.any (fun x => x.isNone) ∧
    (∀ n t, highest (validReadings xs) = some (n, t) → -1024 ≤ t → t < 1024 →
      rdS TOP_TEMP_tj [] e = t ∧ rd TOP_TEMP_sensor [] e = n ∧ rdS TOP_TEMP_tj_peak [] e = max (rdS TOP_TEMP_tj_peak [] d) t ∧
      (640 ≤ t → rawOf 18 e = true) ∧ (t < 620 → rawOf 18 e = false) ∧
      (4 * (rd TOP_TEMP_CFG_tj_warn [] d : Int) ≤ t → rawOf 16 e = true) ∧ (t < 4 * (rd TOP_TEMP_CFG_tj_warn [] d : Int) - 20 → rawOf 16 e = false) ∧
      (600 < t → rawOf 17 e = true) ∧ (t ≤ 580 → rawOf 17 e = false) ∧ (t < -160 → rawOf 19 e = true) ∧ (-140 ≤ t → rawOf 19 e = false)) ∧
    (highest (validReadings xs) = none → rdS TOP_TEMP_tj [] e = rdS TOP_TEMP_tj [] d ∧ rd TOP_TEMP_sensor [] e = rd TOP_TEMP_sensor [] d ∧
      ∀ n, 16 ≤ n → n < 20 → rawOf n e = rawOf n d))) ∧
  (Carried .thermalTrip (fun d e =>
    Changes [.clocksStopped, .pins] [] d e ∧
    e.clocksStopped = true ∧ e.pins.thermtrip = true ∧ e.pins.healthHb = false ∧ faultN e = true ∧ heldDown e = true))

/-- A firing of a listed source that does not stand sets its sticky bit where its severity is not IGNORE; at or above irq_thr, and never below
RECORD, the fault vector is raised; at or above pin_thr, or at SAFE whatever pin_thr is, the pin latch is set and its timer of width x 10 us
restarts; at SAFE the quiet period restarts and, outside safe state, an entry is pending. Graded IGNORE, standing already or not listed, it does
nothing; no other sticky bit changes. -/
def Obligations.FiringSetsItsStickyBit : Prop :=
  ∀ n (d : Dev), Changes [.blt] [BLT_STATUS_pin_latch, BLT_STICKY_bits] d (fire n d) ∧
  (sourceListed n = false ∨ rawOf n d = true ∨ severityOf n d = 0 → fire n d = d) ∧
  (sourceListed n = true → rawOf n d = false → severityOf n d ≠ 0 →
    stickyOf n (fire n d) = true ∧ (∀ k, k ≠ n → stickyOf k (fire n d) = stickyOf k d) ∧
    (max 1 (rd BLT_CTRL_irq_thr [] d) ≤ severityOf n d → rdBit TOP_IRQ_ST_raised [] 1 (fire n d) = true) ∧
    (max 1 (rd BLT_CTRL_pin_thr [] d) ≤ severityOf n d ∨ severityOf n d = 3 →
      rd BLT_STATUS_pin_latch [] (fire n d) = 1 ∧ faultN (fire n d) = true ∧ (fire n d).blt.releasePending = false ∧
      (fire n d).blt.timerEnd = d.devTime + max 1 (rd BLT_FAULTN_WIDTH_width [] d) * 10 * usUnits) ∧
    (severityOf n d = 3 → (fire n d).blt.quietFrom = d.devTime ∧ (inSafe d = false → (fire n d).blt.entryPending = true)))

/-- For a source number that is not listed, neither an event nor a condition changes anything, and it grades as IGNORE. In test mode a write of
BLT_INJ with its fire bit fires the source it names; in every other mode, or without that bit, it changes nothing. -/
def Obligations.ReservedSourcesAndInjection : Prop :=
  (∀ n (b : Bool) (d : Dev), sourceListed n = false → fire n d = d ∧ setRaw n b d = d ∧ severityOf n d = 0) ∧
  ((∀ w, Carried (.fire w) (fun d e =>
    Changes [.blt] firing d e ∧
    (testMode d = true → Nat.testBit w 15 = true → Fired (w % 2048) d e) ∧
    (testMode d = false ∨ Nat.testBit w 15 = false → Unchanged d e))))

/-- Writing pin_release clears the latch where the timer has expired, and waits otherwise. The timer's expiry comes at its end and clears the latch
where a release waits and only there. -/
def Obligations.PinLatchIsReleasedAtItsTimersEnd : Prop :=
  (Carried .pinRelease (fun d e =>
    Changes [.blt] [BLT_STATUS_pin_latch] d e ∧
    (d.blt.timerEnd ≤ d.devTime → rd BLT_STATUS_pin_latch [] e = 0 ∧ e.blt.releasePending = false) ∧
    (d.devTime < d.blt.timerEnd → rd BLT_STATUS_pin_latch [] e = rd BLT_STATUS_pin_latch [] d ∧ e.blt.releasePending = true) ∧
    rd BLT_STATUS_safe [] e = rd BLT_STATUS_safe [] d)) ∧
  (Carried .faultNTimerExpiry (fun d e =>
    Changes [.ntw, .devTime, .blt] [BLT_STATUS_pin_latch] d e ∧
    Passes d.blt.timerEnd d e ∧ (d.blt.releasePending = true → rd BLT_STATUS_pin_latch [] e = 0 ∧ e.blt.releasePending = false) ∧
    (d.blt.releasePending = false → rd BLT_STATUS_pin_latch [] e = rd BLT_STATUS_pin_latch [] d) ∧ rd BLT_STATUS_safe [] e = rd BLT_STATUS_safe [] d))

/-- Where an entry is pending and the device is not in safe state, one core cycle passes, safe reads 1, FAULT_N is asserted, HEALTH_HB is low,
BLT_SAFE_AT holds the entry instant and no salvo is queued or posted any more. Where no entry is pending nothing changes, and a device in safe
state only loses the pending entry. -/
def Obligations.SafeStateEntersAndDropsTheQueue : Prop :=
  (Carried .safeStateEntry (fun d e =>
    Changes [.ntw, .devTime, .pins, .blt, .xpt, .ink, .flw, .qlt, .aud, .gth, .sea, .tlr, .health] (firing ++ [DUC_NEXT_L_ntw, DUC_FAM_STATUS_state, XPT_STATUS_not_exec, XPT_NX_tag, XPT_NX_CNT_count, XPT_MBX_RES_state, XPT_MBX_RES_code, XPT_STITCH_src_slot, XPT_STITCH_valid, XPT_STITCH_gang, XPT_STITCH_member, XPT_DST_ST_lost, XPT_DST_CNT_losses, TLR_EPOCH_epoch, LNS_OCT_STATUS_state, MAC_STATUS_state, FLW_POOL_used, FLW_BKT_ways, INK_STATUS_cap_err, INK_STATUS_audio_absent, INK_CAP_ST_busy, INK_CAP_ST_err, DRC_STATUS_state, QLT_HEAD_CTRL_en, QLT_HEAD_STATUS_state, QLT_HEAD_STATUS_gang_role, QLT_HEAD_FMT_fmt, QLT_HEAD_FMT_fam, QLT_HEAD_FMT_cspace, QLT_HEAD_FMT_gang, QLT_SH_CFG_en, QLT_SH_CFG_z, QLT_SH_CFG_filter, QLT_SH_CFG_field, QLT_SH_CFG_bank, QLT_SH_CFG_prog, QLT_SH_CFG_alpha_mode, QLT_SH_CFG_lost_mode, QLT_SH_CFG_ovl, QLT_SH_ALPHA_alpha, QLT_SH_METER_count, QLT_AC_CFG_en, QLT_AC_CFG_z, QLT_AC_CFG_filter, QLT_AC_CFG_field, QLT_AC_CFG_bank, QLT_AC_CFG_prog, QLT_AC_CFG_alpha_mode, QLT_AC_CFG_lost_mode, QLT_AC_CFG_ovl, QLT_AC_ALPHA_alpha, QLT_AC_METER_count, GTH_STATUS_state, GTH_IN_dst, GTH_IN_ch, GTH_IN_valid, GTH_SRC_CH_rate, GTH_SRC_CH_producer, GTH_SRC_CH_index, GTH_SRC_CH_source, GTH_DST_CH_dst, GTH_DST_CH_index, APT_TDM_STATUS_state, APT_AIN_STATUS_state, APT_AOUT_STATUS_state, SEA_STATUS_twin_down, SEA_TIME_hop, SEA_TIME_upstream, SEA_TIME_up_valid, SEA_LINK_STICKY_down, BLT_STATUS_safe, BLT_SAFE_AT_ntw] ++ fieldsOf [DUC_QUEUE, XPT_SSL_ST, FLW_MEMB, FLW_RX, FLW_TX, INK_SURF, INK_SYNC, QLT_SH_SRC, QLT_SH_CROP_XY, QLT_SH_CROP_WH, QLT_SH_RECT_XY, QLT_SH_RECT_WH, QLT_SH_BORDER, QLT_AC_SRC, QLT_AC_CROP_XY, QLT_AC_CROP_WH, QLT_AC_RECT_XY, QLT_AC_RECT_WH, QLT_AC_BORDER, GTH_PEAK, SEA_LINK_ST]) d e ∧
    (d.blt.entryPending = true → Comes (d.ntw + 1) d e ∧ e.blt.entryPending = false) ∧
    (d.blt.entryPending = true → inSafe d = false →
      inSafe e = true ∧ faultN e = true ∧ e.pins.healthHb = false ∧ e.xpt.queue = [] ∧ e.xpt.posted = [] ∧ rd BLT_SAFE_AT_ntw [] e = ntwWord e.ntw) ∧
    (d.blt.entryPending = true → inSafe d = true → Changes [.ntw, .devTime, .blt] [] d e) ∧
    (d.blt.entryPending = false → Unchanged d e)))

/-- Outside safe state the exit command changes nothing. In safe state it comes at the 1 ms tick at which the quiet period has run: unless latched,
with fewer than eight exits in 3,600 s, safe reads 0, BLT_EXIT_AT holds the instant and the recovery counter advances; with eight, the latch is
set and safe stays. While latched, or while a SAFE source stands, safe stays. A written safe_release clears the latch and empties the window at
its tick, and leaves safe state there if no SAFE source stands and none has fired. -/
def Obligations.SafeStateIsLeftAfterTheQuietPeriod : Prop :=
  (Carried .safeStateExit (fun d e =>
    Changes [.ntw, .devTime, .blt, .flw, .aud, .tlr] (firing ++ [LNS_STATUS_train, LNS_STICKY_eye_void, LNS_EYE_RES_busy, LNS_EYE_RES_done, LNS_EYE_RES_void, LNS_EYE_RES_void_cause, FLW_MEMB_reports, BLT_STATUS_safe, BLT_STATUS_latched, BLT_RECOV_count, BLT_EXIT_AT_ntw, BLT_RAW_bits]) d e ∧
    (inSafe d = false → Unchanged d e) ∧
    (inSafe d = true → ∀ x, x = advanceTo (nextMultiple 52920000 (if d.blt.quietFrom + rd BLT_QUIET_quiet_ms [] d * msUnits - d.devTime = 0
        then d.ntw + 1 - cycleUnits (steering d) else d.ntw + (d.blt.quietFrom + rd BLT_QUIET_quiet_ms [] d * msUnits - d.devTime))) d →
      e.ntw = x.ntw ∧ e.devTime = x.devTime ∧
      (rdB BLT_STATUS_latched [] d = true ∨ quietOver x = false → inSafe e = true) ∧
      (rdB BLT_STATUS_latched [] d = false → quietOver x = true → 8 ≤ recentExits x → inSafe e = true ∧ rd BLT_STATUS_latched [] e = 1) ∧
      (rdB BLT_STATUS_latched [] d = false → quietOver x = true → recentExits x < 8 → inSafe e = false ∧ rd BLT_EXIT_AT_ntw [] e = ntwWord x.ntw ∧
        rd BLT_RECOV_count [] e = min (2 ^ BLT_RECOV_count.w - 1) (rd BLT_RECOV_count [] d + 1) % 2 ^ BLT_RECOV_count.w)))) ∧
  (Carried .safeRelease (fun d e =>
    Changes [.ntw, .devTime, .lastAt, .blt, .flw, .aud, .tlr] (firing ++ [LNS_STATUS_train, LNS_STICKY_eye_void, LNS_EYE_RES_busy, LNS_EYE_RES_done, LNS_EYE_RES_void, LNS_EYE_RES_void_cause, FLW_MEMB_reports, BLT_STATUS_safe, BLT_STATUS_latched, BLT_EXIT_AT_ntw, BLT_RAW_bits]) d e ∧
    Comes (nextGrid 52920000 0 8 d) d e ∧ rd BLT_STATUS_latched [] e = 0 ∧ e.blt.exits = [] ∧ e.blt.safeRelease = false ∧
    (safeStands d = false → d.blt.entryPending = false → d.blt.quietFrom < d.devTime → inSafe e = false) ∧
    (inSafe d = false → rd BLT_STATUS_safe [] e = rd BLT_STATUS_safe [] d) ∧
    rd BLT_RECOV_count [] e = rd BLT_RECOV_count [] d))

/-- The linear value of an NTW word is ((sec x 52,920,000,000 + nib) x 2^44 + frac), and two linear values compare in the same order as their 128-bit
words compared as unsigned integers; the difference of two NTWs is the difference of the linear values. -/
def Obligations.NtwWordsCompareAsLinearValues : Prop :=
  ∀ t u : Nat, t < 2 ^ 48 * (52920000000 * 2 ^ 44) → u < 2 ^ 48 * (52920000000 * 2 ^ 44) →
  ((ntwWord t / 2 ^ 80) * 52920000000 + ntwWord t / 2 ^ 44 % 2 ^ 36) * 2 ^ 44 + ntwWord t % 2 ^ 44 = t ∧
  ntwWord t / 2 ^ 44 % 2 ^ 36 < 52920000000 ∧ (t < u ↔ ntwWord t < ntwWord u) ∧ ntwOfWord (ntwWord t) = some t ∧
  ∀ a b : Nat, ntwOfWord (ntwWord t) = some a → ntwOfWord (ntwWord u) = some b → (a : Int) - b = (t : Int) - u

/-- A hold-off's expiry comes at its end and clears the candidate's hold-off; a candidate in no hold-off is left alone. A write of the clear mask
clears the hold-off of exactly the candidates it names. A step request waits for the next tick. -/
def Obligations.HoldOffEndsByItselfOrByCommand : Prop :=
  (∀ n, Carried (.holdOffExpiry n) (fun d e =>
    Changes [.ntw, .devTime] [RUL_CAND_ST_holdoff] d e ∧
    (rdB RUL_CAND_ST_holdoff [n] d = true → rd RUL_CAND_ST_holdoff [n] e = 0 ∧ Passes (candOf n d).holdEnd d e) ∧
    (rdB RUL_CAND_ST_holdoff [n] d = false → Unchanged d e) ∧ ∀ k, k ≠ n → rd RUL_CAND_ST_holdoff [k] e = rd RUL_CAND_ST_holdoff [k] d)) ∧
  (∀ mask, Carried (.clrHoldoff mask) (fun d e =>
    Changes [] [RUL_CAND_ST_holdoff] d e ∧
    ∀ n < 6, (Nat.testBit mask n = true → rd RUL_CAND_ST_holdoff [n] e = 0) ∧
    (Nat.testBit mask n = false → rd RUL_CAND_ST_holdoff [n] e = rd RUL_CAND_ST_holdoff [n] d) ∧ rd RUL_CAND_ST_qualified [n] e = rd RUL_CAND_ST_qualified [n] d)) ∧
  (∀ src, Carried (.step src) (fun d e =>
    Changes [.rul] [] d e ∧
    e.rul = { d.rul with stepReq := some src } ∧ e.ntw = d.ntw))

/-- XO_IN lost sets xo_lost, leaves no candidate qualified or part-way through its count, and gives FS0040 the raw state 1; NTW and steering stay,
and FS0040 sets its sticky bit where it did not stand and is not graded IGNORE. -/
def Obligations.LosingTheOscillatorDisqualifiesEveryCandidate : Prop :=
  (Carried .xoInLost (fun d e =>
    Changes [.rul, .blt] (firing ++ [RUL_STATUS_xo_lost, RUL_STATUS_qual, RUL_CAND_ST_qualified, RUL_CAND_ST_qual_elapsed_s, BLT_RAW_bits]) d e ∧
    rd RUL_STATUS_xo_lost [] e = 1 ∧ rawOf 40 e = true ∧ steering e = steering d ∧ e.ntw = d.ntw ∧
    ∀ n < 6, rdB RUL_CAND_ST_qualified [n] e = false ∧ rd RUL_CAND_ST_qual_elapsed_s [n] e = 0 ∧ (candOf n e).qualRun = 0))

/-- A pulse comes at its arrival and measures the phase of its candidate against the predicted pulse, within half a pulse period; a Sync measures the
grandmaster's time minus the arrival. Where the jump detector is armed and the phase differs from the one predicted by more than thresh_ns, the
candidate enters a hold-off of holdoff_s and its jump counter advances. With a pulse period of 0, nothing but the passage of time changes. No
other candidate changes. -/
def Obligations.PhaseMeasurementsAndJumps : Prop :=
  (∀ n arrival, Carried (.refFramePulse n arrival) (fun d e =>
    Changes [.ntw, .devTime, .freeCtr, .rul, .blt] (firing ++ [RUL_CAND_ST_holdoff, RUL_CAND_ST_jumps, RUL_CAND_PHASE_phase]) d e ∧
    Comes (unitsOfNib arrival) d e ∧ (∀ k, k ≠ n → candOf k e = candOf k d ∧ rd RUL_CAND_ST_holdoff [k] e = rd RUL_CAND_ST_holdoff [k] d) ∧
    (rd RUL_REF_FP_PERIOD_period [n] d = 0 → candOf n e = candOf n d) ∧
    (∀ x ph, x = advanceTo (unitsOfNib arrival) d → rd RUL_REF_FP_PERIOD_period [n] d ≠ 0 →
      ph = wrapPhase (rdS RUL_REF_FP_OFFSET_offset [n] d - arrival) (rd RUL_REF_FP_PERIOD_period [n] d) * (Config.fracPerNib : Int) →
      (candOf n e).phase = ph ∧ (candOf n e).measuredAt = x.devTime ∧
      (jumpArmed n d = true → exceedsNs (wrapPhase (ph - predictedPhase n x.devTime x) (wrapUnits n d)) (rd RUL_JUMP_thresh_ns [] d) = true →
        rd RUL_CAND_ST_holdoff [n] e = 1 ∧ (candOf n e).jumped = true ∧ (candOf n e).holdEnd = x.devTime + rd RUL_JUMP_holdoff_s [] d * secUnits)))) ∧
  (∀ n sec ns rx, Carried (.sync n sec ns rx) (fun d e =>
    Changes [.ntw, .devTime, .freeCtr, .rul, .blt] (firing ++ [RUL_CAND_ST_holdoff, RUL_CAND_ST_jumps, RUL_CAND_PHASE_phase]) d e ∧
    Comes rx d e ∧ (∀ k, k ≠ n → candOf k e = candOf k d ∧ rd RUL_CAND_ST_holdoff [k] e = rd RUL_CAND_ST_holdoff [k] d) ∧
    (∀ x, x = advanceTo rx d → (candOf n e).phase = (ptpToNtw sec ns : Int) - rx ∧ (candOf n e).measuredAt = x.devTime ∧
      (jumpArmed n d = true → exceedsNs (wrapPhase ((ptpToNtw sec ns : Int) - rx - predictedPhase n x.devTime x) (wrapUnits n d)) (rd RUL_JUMP_thresh_ns [] d) = true →
        rd RUL_CAND_ST_holdoff [n] e = 1 ∧ (candOf n e).jumped = true ∧ (candOf n e).holdEnd = x.devTime + rd RUL_JUMP_holdoff_s [] d * secUnits))))

/-- The PPS pulse comes at the next whole second advanced by RUL_OUT_ADV; PPS_OUT is driven where it is enabled and not squelched, and stays as it
was otherwise. The end of a pulse comes where it is due and drives its pin low, the other pin staying as it was. -/
def Obligations.ClockOutputPulses : Prop :=
  (Carried .ppsOutPulse (fun d e =>
    Changes [.ntw, .devTime, .lastAt, .pins] [] d e ∧
    Comes (nextGrid Config.nibsPerSec ((-(rdS RUL_OUT_ADV_adv [] d)) % (Config.nibsPerSec : Int)).toNat 2 d) d e ∧ e.pins.refOutFp = d.pins.refOutFp ∧
    (rdB RUL_OUT_CFG_pps_en [] d = true → squelched d = false →
      e.pins.ppsOut = true ∧ e.pins.ppsOutEnd = e.devTime + pulseWidth (rd RUL_OUT_WIDTH_pps_width_ms [] d * msUnits) secUnits) ∧
    (rdB RUL_OUT_CFG_pps_en [] d = false ∨ squelched d = true → e.pins = d.pins))) ∧
  (∀ pps, Carried (.pulseWidthEnd pps) (fun d e =>
    Changes [.ntw, .devTime, .pins] [] d e ∧
    (pps = true → e.pins.ppsOut = false ∧ e.pins.refOutFp = d.pins.refOutFp ∧ (d.pins.ppsOut = true → Passes d.pins.ppsOutEnd d e)) ∧
    (pps = false → e.pins.refOutFp = false ∧ e.pins.ppsOut = d.pins.ppsOut ∧ (d.pins.refOutFp = true → Passes d.pins.refOutFpEnd d e))))

/-- Among the qualified candidates within reach: with none, none is chosen; otherwise the one chosen is among them. In non-revertive mode the
selected candidate stays chosen while it is among them. Otherwise no other among them has a lower rank; at equal rank the selected one is chosen,
and else the one of the lowest index. For the states 0 (FREE), 1 (ACQUIRING), 2 (LOCKED), 3 (SWITCHING), 4 (HOLDOVER) and 5 (open loop), with the
oscillator present and the choice being none, the crystal (5) or another candidate: open loop is entered while it is asked for; it is left
towards FREE, ACQUIRING or HOLDOVER; FREE and HOLDOVER go to ACQUIRING when a candidate other than the crystal is chosen; the following states go
to FREE when the crystal is chosen, to HOLDOVER when none is, to SWITCHING when another is; ACQUIRING and SWITCHING go to LOCKED on the lock
condition, LOCKED goes to ACQUIRING on the unlock condition; in every other case the state stays. -/
def Obligations.RulingChoosesAndChangesState : Prop :=
  (∀ (d : Dev) (ok : Nat → Bool) (rank : Nat → Nat) (sel : Nat), ok = (fun n => qualified n d && !beyondReach n d) → rank = (fun n => rd RUL_CAND_CFG_rank [n] d) →
  sel = rd RUL_STATUS_sel [] d →
  (chooseAmong [0, 1, 2, 3, 4, 5] true d = none ↔ ∀ n < 6, ok n = false) ∧
  (rdB RUL_CTRL_revertive [] d = false → sel < 6 → ok sel = true → chooseAmong [0, 1, 2, 3, 4, 5] true d = some sel) ∧
  (∀ b, chooseAmong [0, 1, 2, 3, 4, 5] true d = some b → b < 6 ∧ ok b = true ∧
    ((rdB RUL_CTRL_revertive [] d = true ∨ ok sel = false) → ∀ n < 6, ok n = true → rank b ≤ rank n ∧
      (rank n = rank b → n ≠ b → b = sel ∨ (n ≠ sel ∧ b < n))))) ∧
  (∀ (st sel : Nat) (xoLost locked unlocked : Bool) (best : Option Nat), st < 6 →
  nextRulState st true xoLost best sel locked unlocked = 5 ∧
  nextRulState st false true best sel locked unlocked = st ∧
  (∀ nx, nx = nextRulState st false false best sel locked unlocked →
    (best = some 5 → nx = 0) ∧
    (best = none → (st = 0 → nx = 0) ∧ (st ≠ 0 → nx = 4)) ∧
    (∀ b, best = some b → b ≠ 5 →
      (st = 0 ∨ st = 4 ∨ st = 5 → nx = 1) ∧
      (st = 1 ∨ st = 2 ∨ st = 3 → (b ≠ sel → nx = 3) ∧
        (b = sel → (st ≠ 2 → nx = if locked then 2 else st) ∧ (st = 2 → nx = if unlocked then 1 else 2))))))

/-- The core cycles up to the next tick instant pass, the choice being evaluated there; while RUL_CTRL.open is 1 the state after the tick is 5 and no
candidate is selected. A write of a candidate's configuration word changes registers and the staging of a multi-word field only as a register
write does, and the device's NTW and time stay. -/
def Obligations.TickComesAtItsInstant : Prop :=
  (∀ o, Carried (.tick o) (fun d e =>
    Changes [.ntw, .devTime, .freeCtr, .lastSecond, .lastAt, .rul, .blt, .xpt, .lns, .ink, .drams, .flw, .macs, .sdi, .qlt, .aud, .apt, .gth, .sea, .tlr, .journal, .nv, .health] (firing ++ [RUL_CAND_PHASE_phase, RUL_CAND_FREQ_freq, RUL_DCO_SET_value, RUL_DCO_ACT_value, RUL_HOLD_FREQ_value, RUL_SLEW_ACT_value, DUC_STATUS_late, DUC_LATE_CNT_late, DUC_FAM_STATUS_state, DUC_FAM_STATUS_start_err, XPT_MBX_RES_late, XPT_SSL_ST_lost, XPT_DST_ST_lost, XPT_DST_CNT_losses, LNS_STATUS_sig, LNS_STATUS_lock, LNS_STATUS_rate, LNS_STATUS_div1001, LNS_STATUS_train, LNS_STATUS_freq_oor, LNS_STICKY_eye_void, LNS_FREQ_freq, LNS_EYE_RES_busy, LNS_EYE_RES_done, LNS_EYE_RES_void, LNS_EYE_RES_void_cause, MAC_STATUS_state, MAC_STATUS_link, MAC_STATUS_pcs_aligned, MAC_STATUS_fec_lock, MAC_STATUS_paused, MAC_STATUS_ts_level, MAC_STATUS_fw_q_level, MAC_PAUSE_quanta_left, MAC_STICKY_link_down, MAC_STICKY_start_err, MAC_CNT1_link_downs, FLW_MEMB_reports, SDI_IN_ST_state, SDI_IN_ST_lost, SDI_IN_ST_link, SDI_IN_ST_psid_present, SDI_IN_ST_cause, SDI_IN_STICKY_lost, SDI_IN_LOSS_losses, SDI_IN_AUD_grp_present, INK_STATUS_overrun, INK_STATUS_overtake, INK_CNT_overtakes, INK_CH_overruns, INK_SURF_writing, DRC_STATUS_state, DRC_STATUS_degraded, DRC_STATUS_fixed, DRC_STATUS_fail_count, DRC_STATUS_speed, DRC_STATUS_target_pending, DRC_STATUS_train_step, DRC_STATUS_failed_cause, DRC_STICKY_start_err, QLT_STATUS_start_err, QLT_HEAD_STATUS_state, QLT_HEAD_STATUS_gang_role, GTH_STATUS_state, GTH_STICKY_start_err, APT_TDM_RXMASK_ACT_mask, APT_TDM_TXMASK_ACT_mask, APT_TDM_FREQ_freq, APT_TDM_STICKY_lost, APT_TDM_STICKY_rate_mis, APT_TDM_STICKY_start_err, APT_TDM_CNT1_losses, APT_AIN_STATUS_state, APT_AIN_STATUS_lock, APT_AIN_STATUS_ramping, APT_AIN_STATUS_fill, APT_AIN_FREQ_freq, APT_AIN_STICKY_lost, APT_AIN_STICKY_rate_mis, APT_AIN_STICKY_start_err, APT_AIN_CNT1_losses, APT_AOUT_STATUS_state, APT_AOUT_STICKY_start_err, SEA_STATUS_twin_down, SEA_TIME_hop, SEA_TIME_upstream, SEA_TIME_up_valid, SEA_LINK_OFFSET_offset, SEA_LINK_STICKY_lane_lost, SEA_LINK_STICKY_down, SEA_LINK_STICKY_start_err, SEA_LINK_CNT1_lane_drops, BLT_STATUS_safe, BLT_STATUS_latched, BLT_FAULTN_WIDTH_width, BLT_QUIET_quiet_ms, BLT_RECOV_count, BLT_EXIT_AT_ntw, BLT_RAW_bits, BLT_SEV_sevs, UPD_MISS_first, UPD_VERSION_version, UPD_START_sec, UPD_DIGEST_digest] ++ fieldsOf [RUL_STATUS, RUL_CMD_ST, RUL_CAND_ST, LNS_TX_TAP_ACT, LNS_OCT_STATUS, MAC_TXQ, DRC_DLY_DQ, DRC_DLY_DQS, DRC_DLY_CA, GTH_QUEUE, APT_STATUS, APT_TDM_STATUS, SEA_LINK_ST, BLT_CTRL, BLT_SELF, UPD_STATUS, UPD_PIECES, UPD_LAST]) d e ∧
    e.devTime = (advanceTo (nextGrid 52920000 0 keyTick d) d).devTime ∧
    (rd RUL_CTRL_open [] d = 1 → rd RUL_STATUS_state [] e = 5 ∧ rd RUL_STATUS_sel [] e = 7))) ∧
  (∀ off word, Carried (.candidateConfigWrite off word) (fun d e =>
    ChangesParts [.staged, .freeCtr, .rul, .blt, .xpt, .lns, .ink, .drams, .macs, .qlt, .gth, .sea, .nv, .boot] d e ∧
    e.ntw = d.ntw ∧ e.devTime = d.devTime))

/-- In phase ROM, with the contents of the flash known and no erasure of keys under way: an active image that verifies is started from its slot; in
no trial, one that fails gives way to the previous slot where that may run and verifies, with the fallback shown and FS0257 fired, and otherwise
the phase is ROM_FAIL. In a trial an active image that verifies is started and counted until three boots are counted; after three, or on one that
fails, the device falls back: the active slot is the other, the trial is over and the outcome is 3 or 5. In any other phase the command does
nothing. -/
def Obligations.BootRomChoosesTheSlot : Prop :=
  (∀ v, Carried (.romVerifyDone v) (fun d e =>
    Changes [.freeCtr, .blt, .nv, .boot] (firing ++ [TOP_BOOT_ST_phase, TOP_BOOT_ST_slot, TOP_BOOT_ST_fallback, TOP_FW_VER_version, THM_STATUS_keys_present, THM_STATUS_test_open, THM_STATUS_owner_valid, THM_STATUS_owner_revoked, THM_SERIAL_serial, THM_OWNER_key_id, THM_CERT_LEN_bytes, UPD_MISS_first, UPD_VERSION_version, UPD_START_sec, UPD_DIGEST_digest, ICN_IB_BOOT_boot] ++ fieldsOf [THM_RB, UPD_STATUS, UPD_PIECES, UPD_LAST]) d e ∧
    (rd TOP_BOOT_ST_phase [] d ≠ 0 → Unchanged d e) ∧
    (rd TOP_BOOT_ST_phase [] d = 0 → d.nv.known = true → d.nv.eraseStarted = false → ∀ (good : Nat → Bool), good = (fun k => romVerifies (if k = 0 then v.okA else v.okB) k d) →
      (d.nv.trial = false → good d.nv.active = true →
        rd TOP_BOOT_ST_phase [] e = 1 ∧ rd TOP_BOOT_ST_slot [] e = d.nv.active % 2 ∧ rd TOP_BOOT_ST_fallback [] e = 0 ∧ e.nv.active = d.nv.active) ∧
      (d.nv.trial = false → good d.nv.active = false → d.nv.prevState = 0 → good (1 - d.nv.active) = true →
        rd TOP_BOOT_ST_phase [] e = 1 ∧ rd TOP_BOOT_ST_slot [] e = (1 - d.nv.active) % 2 ∧ rd TOP_BOOT_ST_fallback [] e = 1 ∧ Fired 257 d e) ∧
      (d.nv.trial = false → good d.nv.active = false → d.nv.prevState ≠ 0 ∨ good (1 - d.nv.active) = false → rd TOP_BOOT_ST_phase [] e = 9) ∧
      (d.nv.trial = true → d.nv.trialBoots < 3 → good d.nv.active = true →
        rd TOP_BOOT_ST_phase [] e = 1 ∧ rd TOP_BOOT_ST_slot [] e = d.nv.active % 2 ∧ e.nv.trialBoots = d.nv.trialBoots + 1 ∧ e.nv.active = d.nv.active) ∧
      (d.nv.trial = true → 3 ≤ d.nv.trialBoots ∨ good d.nv.active = false →
        e.nv.active = 1 - d.nv.active ∧ e.nv.trial = false ∧ e.nv.outcome = (if 3 ≤ d.nv.trialBoots then 3 else 5) ∧
        rd TOP_BOOT_ST_phase [] e = if good (1 - d.nv.active) then 1 else 9))))

/-- In phase 1 or 2, the Pattern of the booted slot is held against what was found of it: with an error, the phase is NO_PATTERN, the code and
section are shown, the sticky bit is set, FS0256 fires and the Pattern in force stays; without one, the phase is start-up pending and the version
is shown. In any other phase the command does nothing. -/
def Obligations.PatternIsAppliedOrRefused : Prop :=
  (∀ v, Carried (.patternApplyDone v) (fun d e =>
    ChangesParts [.rul, .blt, .xpt, .gth, .pat] d e ∧
    (rd TOP_BOOT_ST_phase [] d ≠ 1 → rd TOP_BOOT_ST_phase [] d ≠ 2 → Unchanged d e) ∧
    (rd TOP_BOOT_ST_phase [] d = 1 ∨ rd TOP_BOOT_ST_phase [] d = 2 → ∀ img, img = (slotOf (bootSlot d) d).pat →
      (∀ x, patternErr img v { d with out := [] } = some x →
        rd TOP_BOOT_ST_phase [] e = 8 ∧ rd TOP_PAT_ERR_code [] e = x.1 % 2 ^ TOP_PAT_ERR_code.w ∧
        rd TOP_PAT_ERR_section [] e = x.2 % 2 ^ TOP_PAT_ERR_section.w ∧ rd TOP_STICKY_pat_fail [] e = 1 ∧ e.pat = d.pat ∧ Fired 256 d e) ∧
      (patternErr img v { d with out := [] } = none →
        rd TOP_BOOT_ST_phase [] e = 3 ∧ rd TOP_PAT_ID_pat_version [] e = patVersion (patHead (img.getD {})) % 2 ^ TOP_PAT_ID_pat_version.w))))

/-- In phase start-up pending, with every octet and DRAM channel past STARTING, the input comes at the next tick instant; a member that sequences its
fabric goes on to phase 5 and any other to the wait for the fabric. Settings in a format this image does not read make the device fall back to
the other slot: a soft reset of cause 4, with outcome 4. Before, or in another phase, the command does nothing. The limit on reaching SERVING
passes 60 s after the member was configured, in phases 5 and 10 and once; FS0265 fires. The limit on the wait for the fabric passes 60 s after
the wait began, in phase 10 and once; the sticky bit is set and FS0264 fires. Otherwise neither does anything. -/
def Obligations.StartUpAndItsLimits : Prop :=
  ((Carried .startUpInput (fun d e =>
    ChangesByReset [.staged, .held, .ntw, .devTime, .lastSecond, .clocksStopped, .lastAt, .pins, .blt, .xpt, .lns, .ink, .drams, .flw, .macs, .sdi, .qlt, .aud, .apt, .gth, .sea, .tlr, .icn, .journal, .nv, .boot, .pat, .health] ([TOP_SCRATCH_value, TOP_IRQ_EN_en, TOP_IRQ_HOLD_us, TOP_FW_VER_version, TOP_PAT_ID_pat_version, TOP_ROUTE_SEQ_durable_seq, TOP_SERVE_AT_ntw, BLT_FAULTN_WIDTH_width, BLT_QUIET_quiet_ms, BLT_QUIET_LEFT_ms, BLT_SAFE_AT_ntw, BLT_EXIT_AT_ntw, BLT_SUM_word, BLT_STICKY_bits, BLT_RAW_bits, BLT_SEV_sevs, BLT_DST_SAFE_hold] ++ fieldsOf ([TOP_ID, TOP_PCIE_STICKY, TOP_PCIE_CNT, TOP_RESET_CAUSE, TOP_BOOT_ST, TOP_PAT_ERR, TOP_ROUTE_ST, TOP_ROUTE_CNT, TOP_STICKY, TOP_FUNC, TOP_TEMP, TOP_TEMP_CFG, TOP_SUPPLY, TOP_MON_STICKY, BLT_STATUS, BLT_CTRL, BLT_CMD, BLT_INJ] ++ regsDuc ++ regsXpt ++ regsTlr ++ regsLns ++ regsMac ++ regsFlw ++ regsSdi ++ regsInk ++ regsDrc ++ regsQlt ++ regsGth ++ regsApt ++ regsSea ++ regsThm ++ regsUpd ++ regsIcn)) d e ∧
    (rd TOP_BOOT_ST_phase [] d ≠ 3 ∨ startUpReady d = false → Unchanged d e) ∧
    (rd TOP_BOOT_ST_phase [] d = 3 → startUpReady d = true →
      Comes (nextGrid 52920000 0 5 d) d e ∧
      (sequences d = true → settingsForeign d = true →
        rd TOP_BOOT_ST_phase [] e = 0 ∧ rd TOP_RESET_CAUSE_cause [] e = 4 ∧ e.nv = fallbackRecord 4 d.nv) ∧
      (sequences d = true → settingsForeign d = false → rd TOP_BOOT_ST_phase [] e = 5 ∧ e.boot.configuredAt = e.devTime) ∧
      (sequences d = false → rd TOP_BOOT_ST_phase [] e = 10 ∧ e.sea.waitFrom = e.devTime))))) ∧
  ((Carried .serveTimeout (fun d e =>
    Changes [.ntw, .devTime, .blt, .boot] firing d e ∧
    ((rd TOP_BOOT_ST_phase [] d ≠ 5 ∧ rd TOP_BOOT_ST_phase [] d ≠ 10) ∨ d.boot.serveLate = true → Unchanged d e) ∧
    (rd TOP_BOOT_ST_phase [] d = 5 ∨ rd TOP_BOOT_ST_phase [] d = 10 → d.boot.serveLate = false →
      Passes (d.boot.configuredAt + 60 * secUnits) d e ∧ e.boot.serveLate = true ∧ Fired 265 d e))) ∧
  (Carried .fabricWaitTimeout (fun d e =>
    Changes [.ntw, .devTime, .blt, .boot] (firing ++ [TOP_STICKY_fabric_wait]) d e ∧
    (rd TOP_BOOT_ST_phase [] d ≠ 10 ∨ d.boot.waitLate = true → Unchanged d e) ∧
    (rd TOP_BOOT_ST_phase [] d = 10 → d.boot.waitLate = false →
      Passes (d.sea.waitFrom + 60 * secUnits) d e ∧ e.boot.waitLate = true ∧ rd TOP_STICKY_fabric_wait [] e = 1 ∧ Fired 264 d e))))

/-- An entry written takes the oldest item of the journal into the route memory of the booted slot and, where it is a take, shows its sequence number
as durable; a write that fails leaves the item waiting, counts a retired block, sets the sticky bit and fires FS0263. A checkpoint makes the
route memory usable. An item that waits for more than a second fires FS0262 once. With nothing waiting, the entry and the lag do nothing. -/
def Obligations.RouteMemory : Prop :=
  (∀ ok, Carried (.journalEntry ok) (fun d e =>
    Changes [.blt, .journal, .nv, .boot] (firing ++ [TOP_ROUTE_SEQ_durable_seq, TOP_ROUTE_ST_retired, TOP_STICKY_flash_err]) d e ∧
    (d.journal = [] → Unchanged d e) ∧ (∀ j rest, d.journal = j :: rest →
      (ok = true → e.journal = rest ∧ (routeOf e).items = (routeOf d).items ++ [{ j with at_ := 0, fmt := writesFormat d }] ∧
        (routeOf e).usable = (routeOf d).usable ∧
        (j.kind = 0 → rd TOP_ROUTE_SEQ_durable_seq [] e = j.data.headD 0 % 2 ^ TOP_ROUTE_SEQ_durable_seq.w)) ∧
      (ok = false → e.journal = d.journal ∧ routeOf e = routeOf d ∧ rd TOP_STICKY_flash_err [] e = 1 ∧ Fired 263 d e)))) ∧
  (∀ ok, Carried (.checkpoint ok) (fun d e =>
    Changes [.blt, .nv] (firing ++ [TOP_ROUTE_ST_retired, TOP_STICKY_flash_err]) d e ∧
    (ok = true → (routeOf e).usable = true ∧ (routeOf e).items = (routeOf d).items) ∧
    (ok = false → routeOf e = routeOf d ∧ rd TOP_STICKY_flash_err [] e = 1 ∧ Fired 263 d e))) ∧
  (Carried .durabilityLag (fun d e =>
    Changes [.ntw, .devTime, .blt, .boot] (firing ++ [TOP_STICKY_route_lag]) d e ∧
    (d.journal = [] ∨ d.boot.lagFired = true → Unchanged d e) ∧ (∀ j rest, d.journal = j :: rest → d.boot.lagFired = false →
      Passes (j.at_ + secUnits + 1) d e ∧ e.boot.lagFired = true ∧ rd TOP_STICKY_route_lag [] e = 1 ∧ Fired 262 d e)))

/-- A word written to a bank that is not posted reads as written, and one written to a posted bank is dropped with the write-busy bit set and FS0069
fired. A doorbell of a bank that is not posted posts it: its result is state 1 with a code of 0, and its salvo waits at the end of the queue of
posted salvos with the receipt's instant; in safe state it is answered not executed instead. A doorbell of a posted bank sets the ring-error bit
and fires FS0069. A bank that is not rung keeps its result. Where the mailbox is not open yet a doorbell does nothing. -/
def Obligations.MailboxBanks : Prop :=
  (∀ ring0 ring1, Carried (.doorbell ring0 ring1) (fun d e =>
    Changes [.blt, .xpt] (firing ++ [XPT_STATUS_ring_err, XPT_STATUS_not_exec, XPT_NX_tag, XPT_NX_CNT_count] ++ fieldsOf [XPT_MBX_RES]) d e ∧
    (mailboxOpen d = false → Unchanged d e) ∧
    (mailboxOpen d = true → ∀ b r, b < 2 → r = (if b = 0 then ring0 else ring1) →
      (r = false → rd XPT_MBX_RES_state [b] e = rd XPT_MBX_RES_state [b] d) ∧
      (r = true → bankPosted b d = true → rd XPT_STATUS_ring_err [] e = 1 ∧ rd XPT_MBX_RES_state [b] e = 1 ∧ Fired 69 d e) ∧
      (r = true → bankPosted b d = false → inSafe d = false →
        rd XPT_MBX_RES_state [b] e = 1 ∧ rd XPT_MBX_RES_code [b] e = 0 ∧ ({ member := selfMember d, bank := b, at_ := d.ntw, salvo := bankSalvo b d } : Posted) ∈ e.xpt.posted) ∧
      (r = true → bankPosted b d = false → inSafe d = true →
        rd XPT_MBX_RES_state [b] e = 2 ∧ rd XPT_MBX_RES_code [b] e = 1 ∧ rd XPT_STATUS_not_exec [] e = 1 ∧ Fired 65 d e)))) ∧
  (∀ bank record word value, Carried (.mailboxWrite bank record word value) (fun d e =>
    Changes [.blt] (firing ++ [XPT_STATUS_wr_busy, XPT_MBX_HDR_word, XPT_MBX_REC_word]) d e ∧
    (bankPosted bank d = true → rd XPT_STATUS_wr_busy [] e = 1 ∧ Fired 69 d e ∧
      (∀ r w, rd XPT_MBX_REC_word [bank, r, w] e = rd XPT_MBX_REC_word [bank, r, w] d) ∧ ∀ w, rd XPT_MBX_HDR_word [bank, w] e = rd XPT_MBX_HDR_word [bank, w] d) ∧
    (bankPosted bank d = false → (∀ r, record = some r → rd XPT_MBX_REC_word [bank, r, word] e = value % 2 ^ 32) ∧
      (record = none → rd XPT_MBX_HDR_word [bank, word] e = value % 2 ^ 32))))

/-- With nothing posted, before start-up, or in safe state, no salvo is accepted. On the master, with no report of resources waiting, a salvo of its
own whose check fails is refused whole: its bank reads state 2 with the code and the first failing record, the refused bit is set and FS0064
fires. A launch comes at the launch instant of the earliest queued salvo; with none queued, or in safe state, nothing happens. -/
def Obligations.SalvosAreDecidedAndLaunched : Prop :=
  (∀ us, Carried (.salvoAcceptance us) (fun d e =>
    Changes [.ntw, .devTime, .blt, .xpt, .ink, .drams, .flw, .qlt, .aud, .gth, .sea, .tlr, .health] (firing ++ [DUC_STATUS_late, DUC_STATUS_refused_late, DUC_STATUS_deferred, DUC_NEXT_L_ntw, DUC_FAM_STATUS_state, XPT_STATUS_refused, XPT_SEQ_seq, XPT_MBX_A_ntw, XPT_MBX_L_ntw, XPT_DST_ST_slot, XPT_DST_ST_gang, XPT_DST_ST_sync, XPT_DST_ST_conv, TLR_STATUS_refused, TLR_STATUS_flow_refused, TLR_STATUS_pin_missed, TLR_STATUS_mig_abort, TLR_STATUS_unplaced, TLR_EPOCH_epoch, TLR_MIG_CNT_aborted, TLR_PIN_missed, TLR_DST_MAP_sync, TLR_DST_MAP_conv, TLR_DST_MAP_conv_head, TLR_DST_MAP_spine, TLR_DST_MAP_spine_valid, TLR_DST_MAP_unplaced, TLR_DST_MAP_pinned_miss, TLR_DST_MAP_ink_ch, TLR_DST_MAP_ink_bank, TLR_DST_MAP_hold_ch, TLR_DST_MAP_hold_valid, TLR_DST_MAP_tx_count, TLR_DST_MAP_tx_entry, TLR_DST_MAP_rx_entry, TLR_DST_MAP_epoch, LNS_OCT_STATUS_state, MAC_STATUS_state, FLW_POOL_used, FLW_BKT_ways, INK_STATUS_cap_err, INK_STATUS_audio_absent, INK_CAP_ST_busy, INK_CAP_ST_err, DRC_STATUS_state, DRC_STATUS_sub, DRC_SR_CNT_wakes, QLT_STATUS_undrawn, QLT_STATUS_fb, QLT_HEAD_CTRL_en, QLT_HEAD_STATUS_state, QLT_HEAD_STATUS_gang_role, QLT_HEAD_FMT_fmt, QLT_HEAD_FMT_fam, QLT_HEAD_FMT_cspace, QLT_HEAD_FMT_gang, QLT_SH_CFG_en, QLT_SH_CFG_z, QLT_SH_CFG_filter, QLT_SH_CFG_field, QLT_SH_CFG_bank, QLT_SH_CFG_prog, QLT_SH_CFG_alpha_mode, QLT_SH_CFG_lost_mode, QLT_SH_CFG_ovl, QLT_SH_ALPHA_alpha, QLT_SH_METER_count, QLT_AC_CFG_en, QLT_AC_CFG_z, QLT_AC_CFG_filter, QLT_AC_CFG_field, QLT_AC_CFG_bank, QLT_AC_CFG_prog, QLT_AC_CFG_alpha_mode, QLT_AC_CFG_lost_mode, QLT_AC_CFG_ovl, QLT_AC_ALPHA_alpha, QLT_AC_METER_count, QLT_LAYER_ST_mode, QLT_LAYER_ST_fallback, GTH_STATUS_state, GTH_IN_dst, GTH_IN_ch, GTH_IN_valid, GTH_SRC_CH_rate, GTH_SRC_CH_producer, GTH_SRC_CH_index, GTH_SRC_CH_source, GTH_DST_CH_dst, GTH_DST_CH_index, APT_TDM_STATUS_state, APT_AIN_STATUS_state, APT_AOUT_STATUS_state, SEA_LINK_ST_state] ++ fieldsOf [DUC_QUEUE, DUC_LATE_CNT, XPT_MBX_RES, XPT_STITCH, XPT_SSL_ST, TLR_PLACE_TIME, TLR_LAST_REF, TLR_FLOW_REF, FLW_MEMB, FLW_RX, FLW_TX, INK_SURF, INK_SYNC, QLT_SH_SRC, QLT_SH_CROP_XY, QLT_SH_CROP_WH, QLT_SH_RECT_XY, QLT_SH_RECT_WH, QLT_SH_BORDER, QLT_AC_SRC, QLT_AC_CROP_XY, QLT_AC_CROP_WH, QLT_AC_RECT_XY, QLT_AC_RECT_WH, QLT_AC_BORDER, GTH_PEAK]) d e ∧
    (d.tlr.started = false ∨ inSafe d = true ∨ d.xpt.posted = [] → Unchanged d e) ∧
    (∀ q rest c i, d.tlr.started = true → inSafe d = false → d.xpt.posted = q :: rest → roleOf d = 0 → d.health = [] → q.member = selfMember d → q.bank < 2 →
      checkSalvo q.salvo q.at_ { d with out := [] } = some (c, i) →
      rd XPT_MBX_RES_state [q.bank] e = 2 ∧ rd XPT_MBX_RES_code [q.bank] e = c % 2 ^ XPT_MBX_RES_code.w ∧
      rd XPT_MBX_RES_first_bad [q.bank] e = i % 2 ^ XPT_MBX_RES_first_bad.w ∧ rd XPT_STATUS_refused [] e = 1 ∧ e.xpt.posted = rest ∧ e.xpt.queue = d.xpt.queue ∧ Fired 64 d e))) ∧
  (Carried .launch (fun d e =>
    Changes [.ntw, .devTime, .blt, .xpt, .ink, .flw, .qlt, .aud, .gth, .sea, .tlr, .journal, .health] (firing ++ [DUC_LAST_SEQ_seq, DUC_NEXT_L_ntw, DUC_FAM_STATUS_state, XPT_DST_SRC_src, XPT_DST_ST_slot, XPT_DST_ST_gang, XPT_DST_ST_on_protect, XPT_DST_ST_sync, XPT_DST_ST_conv, TLR_DST_MAP_sync, TLR_DST_MAP_conv, TLR_DST_MAP_conv_head, TLR_DST_MAP_spine, TLR_DST_MAP_spine_valid, TLR_DST_MAP_unplaced, TLR_DST_MAP_pinned_miss, TLR_DST_MAP_ink_ch, TLR_DST_MAP_ink_bank, TLR_DST_MAP_hold_ch, TLR_DST_MAP_hold_valid, TLR_DST_MAP_tx_count, TLR_DST_MAP_tx_entry, TLR_DST_MAP_rx_entry, TLR_DST_MAP_epoch, LNS_OCT_STATUS_state, MAC_STATUS_state, FLW_POOL_used, FLW_BKT_ways, INK_STATUS_cap_err, INK_STATUS_audio_absent, INK_CAP_ST_busy, INK_CAP_ST_err, DRC_STATUS_state, QLT_HEAD_CTRL_en, QLT_HEAD_STATUS_state, QLT_HEAD_STATUS_gang_role, QLT_HEAD_FMT_fmt, QLT_HEAD_FMT_fam, QLT_HEAD_FMT_cspace, QLT_HEAD_FMT_gang, QLT_SH_CFG_en, QLT_SH_CFG_z, QLT_SH_CFG_filter, QLT_SH_CFG_field, QLT_SH_CFG_bank, QLT_SH_CFG_prog, QLT_SH_CFG_alpha_mode, QLT_SH_CFG_lost_mode, QLT_SH_CFG_ovl, QLT_SH_ALPHA_alpha, QLT_SH_METER_count, QLT_AC_CFG_en, QLT_AC_CFG_z, QLT_AC_CFG_filter, QLT_AC_CFG_field, QLT_AC_CFG_bank, QLT_AC_CFG_prog, QLT_AC_CFG_alpha_mode, QLT_AC_CFG_lost_mode, QLT_AC_CFG_ovl, QLT_AC_ALPHA_alpha, QLT_AC_METER_count, GTH_STATUS_state, GTH_IN_dst, GTH_IN_ch, GTH_IN_valid, GTH_SRC_CH_rate, GTH_SRC_CH_producer, GTH_SRC_CH_index, GTH_SRC_CH_source, GTH_DST_CH_dst, GTH_DST_CH_index, APT_TDM_STATUS_state, APT_AIN_STATUS_state, APT_AOUT_STATUS_state, SEA_LINK_ST_state] ++ fieldsOf [DUC_QUEUE, XPT_STITCH, XPT_SSL_ST, FLW_MEMB, FLW_RX, FLW_TX, INK_SURF, INK_SYNC, QLT_SH_SRC, QLT_SH_CROP_XY, QLT_SH_CROP_WH, QLT_SH_RECT_XY, QLT_SH_RECT_WH, QLT_SH_BORDER, QLT_AC_SRC, QLT_AC_CROP_XY, QLT_AC_CROP_WH, QLT_AC_RECT_XY, QLT_AC_RECT_WH, QLT_AC_BORDER, GTH_PEAK]) d e ∧
    (d.xpt.queue = [] ∨ inSafe d = true → Unchanged d e) ∧
    (∀ q rest, d.xpt.queue = q :: rest → inSafe d = false → Comes (unitsOfNib q.launch) d e)))

/-- A destination's switch point comes at the next instant of its family's period offset to its switching line, where the family runs; an audio
sample at the next instant of its rate; a frame boundary at the next of its family. At its own frame boundary a starting family runs once the
time is set, a running one that is no longer enabled stops outside safe state, and any other keeps its state. A crossfade that is not under way,
and a destination the Pattern does not have, have nothing done to them. -/
def Obligations.OutputsComeAtTheirGrids : Prop :=
  (∀ dst, Carried (.switchPoint dst) (fun d e =>
    Changes [.ntw, .devTime, .lastAt, .blt, .xpt, .flw] (firing ++ [XPT_MBX_RES_switched, XPT_DST_SRC_prot, XPT_DST_FMT_fam, XPT_DST_FMT_fmt, XPT_DST_ST_lost, XPT_DST_ST_on_protect, XPT_DST_ST_both_lost, FLW_TX_sending] ++ fieldsOf [XPT_DST_POLICY, XPT_DST_CNT]) d e ∧
    (dstAt dst d = none → Unchanged d e) ∧
    (∀ x off, dstAt dst d = some x → switchOffset dst x.kind d = some off → famRunning (dstFam dst d) d = true →
      Comes (nextGrid (famPeriod (dstFam dst d) d) off (keyDst dst) d) d e))) ∧
  (∀ rate, Carried (.audioGridSample rate) (fun d e =>
    Changes [.ntw, .devTime, .lastSecond, .lastAt, .blt, .xpt, .ink, .flw, .sdi, .aud, .apt, .gth, .sea] (firing ++ [XPT_MBX_RES_switched, SDI_IN_NPCM_pairs, INK_STATUS_audio_absent, INK_SYNC_slips, GTH_STICKY_sat, GTH_STICKY_rate_mis, GTH_STICKY_npcm_in, GTH_SAT_CNT_count, GTH_OUT_SCALE_s, GTH_OUT_SAT_sat, APT_TDM_STATUS_ramping, APT_TDM_STATUS_rx_fill, APT_TDM_STATUS_tx_fill, APT_TDM_STICKY_slip, APT_TDM_STICKY_npcm_slip, APT_TDM_CNT1_npcm_slips, APT_AIN_STATUS_ramping, APT_AIN_STATUS_fill, APT_AIN_STICKY_slip, APT_AIN_STICKY_npcm_slip, APT_AIN_CNT0_slips, APT_AIN_CNT1_npcm_slips, APT_AOUT_STATUS_npcm] ++ fieldsOf [GTH_OUT_ST, GTH_PEAK, APT_STATUS, APT_TDM_CNT0]) d e ∧
    Comes (nextGrid (samplePeriod rate) 0 (keyAudio rate) d) d e)) ∧
  (∀ dst channel, Carried (.crossfadeComplete dst channel) (fun d e =>
    Changes [.ntw, .devTime, .lastSecond, .lastAt, .blt, .xpt, .ink, .flw, .sdi, .aud, .apt, .gth, .sea] (firing ++ [XPT_MBX_RES_switched, SDI_IN_NPCM_pairs, INK_STATUS_audio_absent, INK_SYNC_slips, GTH_STICKY_sat, GTH_STICKY_rate_mis, GTH_STICKY_npcm_in, GTH_SAT_CNT_count, GTH_OUT_SCALE_s, GTH_OUT_SAT_sat, APT_TDM_STATUS_ramping, APT_TDM_STATUS_rx_fill, APT_TDM_STATUS_tx_fill, APT_TDM_STICKY_slip, APT_TDM_STICKY_npcm_slip, APT_TDM_CNT1_npcm_slips, APT_AIN_STATUS_ramping, APT_AIN_STATUS_fill, APT_AIN_STICKY_slip, APT_AIN_STICKY_npcm_slip, APT_AIN_CNT0_slips, APT_AIN_CNT1_npcm_slips, APT_AOUT_STATUS_npcm] ++ fieldsOf [GTH_OUT_ST, GTH_PEAK, APT_STATUS, APT_TDM_CNT0]) d e ∧
    (dstAt dst d = none → Unchanged d e) ∧
    (∀ x c, dstAt dst d = some x → dstChan (dstPlace dst d) x channel = some c → (dchan c d).fade = 0 → Unchanged d e))) ∧
  (∀ fam reads, Carried (.frameBoundary fam reads) (fun d e =>
    Changes [.ntw, .devTime, .freeCtr, .lastSecond, .lastAt, .pins, .blt, .xpt, .ink, .drams, .flw, .qlt, .sea, .health] (firing ++ [TOP_BOOT_ST_phase, TOP_SERVE_AT_ntw, DUC_FAM_STATUS_state, DUC_FAM_STATUS_start_err, XPT_SSL_ST_lost, XPT_DST_ST_lost, XPT_DST_ST_hold_ready, LNS_OCT_STATUS_state, LNS_OCT_STATUS_start_err, MAC_STATUS_state, MAC_STICKY_start_err, FLW_TX_sending, SDI_OUT_STICKY_anc_drop, INK_STATUS_anc_drop, INK_STATUS_cap_err, INK_CNT_anc_drop, INK_CAP_ST_busy, INK_CAP_ST_err, INK_SURF_wr_buf, INK_SURF_last_buf, INK_SURF_writing, INK_SURF_lines_written, INK_SURF_frame, DRC_STATUS_state, DRC_STATUS_sub, DRC_STATUS_train_step, DRC_STATUS_failed_cause, DRC_INFO_cap_mib, DRC_STICKY_failed, DRC_STICKY_start_err, DRC_STICKY_ue, DRC_STICKY_ce_thr, DRC_LAST_UE_addr, QLT_STATUS_start_err, QLT_STATUS_tear, QLT_HEAD_STATUS_state, QLT_HEAD_STATUS_gang_role, QLT_LAYER_ST_lost, QLT_LAYER_ST_tears, GTH_STATUS_state, GTH_STICKY_start_err, APT_TDM_STATUS_state, APT_TDM_STICKY_start_err, APT_AIN_STATUS_state, APT_AIN_STICKY_start_err, APT_AOUT_STATUS_state, APT_AOUT_STICKY_start_err, SEA_LINK_ST_state, SEA_LINK_STICKY_start_err] ++ fieldsOf [XPT_DST_CNT, SDI_OUT_CNT, DRC_ECC_CNT, QLT_HEAD_CONV, APT_STATUS]) d e ∧
    Comes (nextGrid (famPeriod fam d) 0 (keyFam fam) d) d e ∧
    (funcState (fFam fam) d = 1 → funcState (fFam fam) e = if rdB RUL_STATUS_time_set [] d then 2 else 1) ∧
    (funcState (fFam fam) d = 2 → funcState (fFam fam) e = if funcEn (fFam fam) d || inSafe d then 2 else 0) ∧
    (funcState (fFam fam) d ≠ 1 → funcState (fFam fam) d ≠ 2 → funcState (fFam fam) e = funcState (fFam fam) d)))

/-- With no migration in the stage a command ends, nothing happens; in safe state no dual write starts and none completes. Otherwise the one due
first comes at its instant, and a completion is counted. A resource release comes at the first instant at which something held is due, if any.
With no report waiting, nothing happens; a report sequenced by the master is applied once its instant has come. Before start-up, or in safe
state, no layer placement is decided. A gap in the order of placements that has stood for two program periods sets the gap bit, fires FS0085 and
is looked for again from then on; with no gap, nothing happens. -/
def Obligations.MigrationsAndPlacementInputs : Prop :=
  ((Carried .dualWriteStart (fun d e =>
    Changes [.ntw, .devTime, .xpt, .sea, .tlr] ([XPT_STITCH_src_slot, XPT_STITCH_valid, XPT_STITCH_gang, XPT_STITCH_member] ++ fieldsOf [XPT_SSL_ST]) d e ∧
    (earliest (·.w) (d.tlr.migs.filter (fun g => g.stage == 1)) = none ∨ inSafe d = true → Unchanged d e) ∧
    (∀ g, earliest (·.w) (d.tlr.migs.filter (fun g => g.stage == 1)) = some g → inSafe d = false → Comes (unitsOfNib g.w) d e))) ∧
  (Carried .migrationCompletion (fun d e =>
    Changes [.ntw, .devTime, .blt, .xpt, .ink, .qlt, .tlr] (firing ++ [XPT_DST_ST_slot, XPT_DST_ST_gang, XPT_DST_ST_sync, XPT_DST_ST_conv, TLR_MIG_CNT_done, TLR_DST_MAP_sync, TLR_DST_MAP_conv, TLR_DST_MAP_conv_head, TLR_DST_MAP_spine, TLR_DST_MAP_spine_valid, TLR_DST_MAP_unplaced, TLR_DST_MAP_pinned_miss, TLR_DST_MAP_ink_ch, TLR_DST_MAP_ink_bank, TLR_DST_MAP_hold_ch, TLR_DST_MAP_hold_valid, TLR_DST_MAP_tx_count, TLR_DST_MAP_tx_entry, TLR_DST_MAP_rx_entry, TLR_DST_MAP_epoch, INK_SURF_ch, INK_SURF_bank, INK_SURF_src_slot, QLT_STATUS_undrawn, QLT_STATUS_fb, QLT_LAYER_ST_mode, QLT_LAYER_ST_fallback] ++ fieldsOf [XPT_STITCH]) d e ∧
    (earliest (·.c) (d.tlr.migs.filter (fun g => g.stage == 2)) = none ∨ inSafe d = true → Unchanged d e) ∧
    (∀ g, earliest (·.c) (d.tlr.migs.filter (fun g => g.stage == 2)) = some g → inSafe d = false → Comes (unitsOfNib g.c) d e ∧
      rd TLR_MIG_CNT_done [] e = min (2 ^ TLR_MIG_CNT_done.w - 1) (rd TLR_MIG_CNT_done [] d + 1)))) ∧
  (Carried .migrationRelease (fun d e =>
    Changes [.ntw, .devTime, .xpt, .sea, .tlr] ([XPT_STITCH_src_slot, XPT_STITCH_valid, XPT_STITCH_gang, XPT_STITCH_member] ++ fieldsOf [XPT_SSL_ST]) d e ∧
    (earliest (·.endAt) (d.tlr.migs.filter (fun g => g.stage == 3)) = none → Unchanged d e) ∧
    (∀ g, earliest (·.endAt) (d.tlr.migs.filter (fun g => g.stage == 3)) = some g → Comes (unitsOfNib g.endAt) d e))) ∧
  (Carried .resourceRelease (fun d e =>
    Changes [.ntw, .devTime, .blt, .xpt, .ink, .flw, .qlt, .aud, .gth, .sea, .tlr, .health] (firing ++ [DUC_FAM_STATUS_state, XPT_STITCH_src_slot, XPT_STITCH_valid, XPT_STITCH_gang, XPT_STITCH_member, LNS_OCT_STATUS_state, MAC_STATUS_state, FLW_POOL_used, FLW_BKT_ways, INK_STATUS_cap_err, INK_STATUS_audio_absent, INK_CAP_ST_busy, INK_CAP_ST_err, DRC_STATUS_state, QLT_HEAD_CTRL_en, QLT_HEAD_STATUS_state, QLT_HEAD_STATUS_gang_role, QLT_HEAD_FMT_fmt, QLT_HEAD_FMT_fam, QLT_HEAD_FMT_cspace, QLT_HEAD_FMT_gang, QLT_SH_CFG_en, QLT_SH_CFG_z, QLT_SH_CFG_filter, QLT_SH_CFG_field, QLT_SH_CFG_bank, QLT_SH_CFG_prog, QLT_SH_CFG_alpha_mode, QLT_SH_CFG_lost_mode, QLT_SH_CFG_ovl, QLT_SH_ALPHA_alpha, QLT_SH_METER_count, QLT_AC_CFG_en, QLT_AC_CFG_z, QLT_AC_CFG_filter, QLT_AC_CFG_field, QLT_AC_CFG_bank, QLT_AC_CFG_prog, QLT_AC_CFG_alpha_mode, QLT_AC_CFG_lost_mode, QLT_AC_CFG_ovl, QLT_AC_ALPHA_alpha, QLT_AC_METER_count, GTH_STATUS_state, GTH_IN_dst, GTH_IN_ch, GTH_IN_valid, GTH_SRC_CH_rate, GTH_SRC_CH_producer, GTH_SRC_CH_index, GTH_SRC_CH_source, GTH_DST_CH_dst, GTH_DST_CH_index, APT_TDM_STATUS_state, APT_AIN_STATUS_state, APT_AOUT_STATUS_state, SEA_LINK_ST_state] ++ fieldsOf [XPT_SSL_ST, FLW_MEMB, FLW_RX, FLW_TX, INK_SURF, INK_SYNC, QLT_SH_SRC, QLT_SH_CROP_XY, QLT_SH_CROP_WH, QLT_SH_RECT_XY, QLT_SH_RECT_WH, QLT_SH_BORDER, QLT_AC_SRC, QLT_AC_CROP_XY, QLT_AC_CROP_WH, QLT_AC_RECT_XY, QLT_AC_RECT_WH, QLT_AC_BORDER, GTH_PEAK]) d e ∧
    (nextRelease d = none → Unchanged d e) ∧ (∀ t, nextRelease d = some t → Comes (unitsOfNib t) d e)))) ∧
  ((Carried .evacuation (fun d e =>
    Changes [.ntw, .devTime, .blt, .xpt, .ink, .drams, .flw, .qlt, .aud, .gth, .sea, .tlr, .health] (firing ++ [DUC_FAM_STATUS_state, XPT_DST_ST_slot, XPT_DST_ST_gang, XPT_DST_ST_sync, XPT_DST_ST_conv, TLR_STATUS_pin_missed, TLR_STATUS_mig_abort, TLR_STATUS_unplaced, TLR_EPOCH_epoch, TLR_MIG_CNT_aborted, TLR_PIN_missed, TLR_DST_MAP_sync, TLR_DST_MAP_conv, TLR_DST_MAP_conv_head, TLR_DST_MAP_spine, TLR_DST_MAP_spine_valid, TLR_DST_MAP_unplaced, TLR_DST_MAP_pinned_miss, TLR_DST_MAP_ink_ch, TLR_DST_MAP_ink_bank, TLR_DST_MAP_hold_ch, TLR_DST_MAP_hold_valid, TLR_DST_MAP_tx_count, TLR_DST_MAP_tx_entry, TLR_DST_MAP_rx_entry, TLR_DST_MAP_epoch, LNS_OCT_STATUS_state, MAC_STATUS_state, FLW_POOL_used, FLW_BKT_ways, INK_STATUS_cap_err, INK_STATUS_audio_absent, INK_CAP_ST_busy, INK_CAP_ST_err, DRC_STATUS_state, DRC_STATUS_sub, DRC_SR_CNT_wakes, QLT_STATUS_undrawn, QLT_STATUS_fb, QLT_HEAD_CTRL_en, QLT_HEAD_STATUS_state, QLT_HEAD_STATUS_gang_role, QLT_HEAD_FMT_fmt, QLT_HEAD_FMT_fam, QLT_HEAD_FMT_cspace, QLT_HEAD_FMT_gang, QLT_SH_CFG_en, QLT_SH_CFG_z, QLT_SH_CFG_filter, QLT_SH_CFG_field, QLT_SH_CFG_bank, QLT_SH_CFG_prog, QLT_SH_CFG_alpha_mode, QLT_SH_CFG_lost_mode, QLT_SH_CFG_ovl, QLT_SH_ALPHA_alpha, QLT_SH_METER_count, QLT_AC_CFG_en, QLT_AC_CFG_z, QLT_AC_CFG_filter, QLT_AC_CFG_field, QLT_AC_CFG_bank, QLT_AC_CFG_prog, QLT_AC_CFG_alpha_mode, QLT_AC_CFG_lost_mode, QLT_AC_CFG_ovl, QLT_AC_ALPHA_alpha, QLT_AC_METER_count, QLT_LAYER_ST_mode, QLT_LAYER_ST_fallback, GTH_STATUS_state, GTH_IN_dst, GTH_IN_ch, GTH_IN_valid, GTH_SRC_CH_rate, GTH_SRC_CH_producer, GTH_SRC_CH_index, GTH_SRC_CH_source, GTH_DST_CH_dst, GTH_DST_CH_index, APT_TDM_STATUS_state, APT_AIN_STATUS_state, APT_AOUT_STATUS_state, SEA_LINK_ST_state] ++ fieldsOf [XPT_STITCH, XPT_SSL_ST, FLW_MEMB, FLW_RX, FLW_TX, INK_SURF, INK_SYNC, QLT_SH_SRC, QLT_SH_CROP_XY, QLT_SH_CROP_WH, QLT_SH_RECT_XY, QLT_SH_RECT_WH, QLT_SH_BORDER, QLT_AC_SRC, QLT_AC_CROP_XY, QLT_AC_CROP_WH, QLT_AC_RECT_XY, QLT_AC_RECT_WH, QLT_AC_BORDER, GTH_PEAK]) d e ∧
    (d.health = [] → Unchanged d e) ∧ (∀ r rest, d.health = r :: rest → r.own = false → d.tlr.started = true → Comes r.at_ d e))) ∧
  (∀ layer us, Carried (.layerInput layer us) (fun d e =>
    Changes [.ntw, .devTime, .blt, .xpt, .ink, .drams, .flw, .qlt, .aud, .gth, .sea, .tlr, .health] (firing ++ [DUC_FAM_STATUS_state, XPT_DST_ST_slot, XPT_DST_ST_gang, XPT_DST_ST_sync, XPT_DST_ST_conv, TLR_STATUS_refused, TLR_STATUS_flow_refused, TLR_STATUS_pin_missed, TLR_STATUS_mig_abort, TLR_STATUS_unplaced, TLR_EPOCH_epoch, TLR_MIG_CNT_aborted, TLR_PIN_missed, TLR_DST_MAP_sync, TLR_DST_MAP_conv, TLR_DST_MAP_conv_head, TLR_DST_MAP_spine, TLR_DST_MAP_spine_valid, TLR_DST_MAP_unplaced, TLR_DST_MAP_pinned_miss, TLR_DST_MAP_ink_ch, TLR_DST_MAP_ink_bank, TLR_DST_MAP_hold_ch, TLR_DST_MAP_hold_valid, TLR_DST_MAP_tx_count, TLR_DST_MAP_tx_entry, TLR_DST_MAP_rx_entry, TLR_DST_MAP_epoch, LNS_OCT_STATUS_state, MAC_STATUS_state, FLW_POOL_used, FLW_BKT_ways, INK_STATUS_cap_err, INK_STATUS_audio_absent, INK_CAP_ST_busy, INK_CAP_ST_err, DRC_STATUS_state, DRC_STATUS_sub, DRC_SR_CNT_wakes, QLT_STATUS_undrawn, QLT_STATUS_fb, QLT_STATUS_commit_ref, QLT_HEAD_CTRL_en, QLT_HEAD_STATUS_state, QLT_HEAD_STATUS_gang_role, QLT_HEAD_FMT_fmt, QLT_HEAD_FMT_fam, QLT_HEAD_FMT_cspace, QLT_HEAD_FMT_gang, QLT_SH_CFG_en, QLT_SH_CFG_z, QLT_SH_CFG_filter, QLT_SH_CFG_field, QLT_SH_CFG_bank, QLT_SH_CFG_prog, QLT_SH_CFG_alpha_mode, QLT_SH_CFG_lost_mode, QLT_SH_CFG_ovl, QLT_SH_ALPHA_alpha, QLT_SH_METER_count, QLT_AC_CFG_en, QLT_AC_CFG_z, QLT_AC_CFG_filter, QLT_AC_CFG_field, QLT_AC_CFG_bank, QLT_AC_CFG_prog, QLT_AC_CFG_alpha_mode, QLT_AC_CFG_lost_mode, QLT_AC_CFG_ovl, QLT_AC_ALPHA_alpha, QLT_AC_METER_count, QLT_LAYER_ST_mode, QLT_LAYER_ST_fallback, GTH_STATUS_state, GTH_IN_dst, GTH_IN_ch, GTH_IN_valid, GTH_SRC_CH_rate, GTH_SRC_CH_producer, GTH_SRC_CH_index, GTH_SRC_CH_source, GTH_DST_CH_dst, GTH_DST_CH_index, APT_TDM_STATUS_state, APT_AIN_STATUS_state, APT_AOUT_STATUS_state, SEA_LINK_ST_state] ++ fieldsOf [XPT_STITCH, XPT_SSL_ST, TLR_PLACE_TIME, TLR_LAST_REF, TLR_FLOW_REF, FLW_MEMB, FLW_RX, FLW_TX, INK_SURF, INK_SYNC, QLT_SH_SRC, QLT_SH_CROP_XY, QLT_SH_CROP_WH, QLT_SH_RECT_XY, QLT_SH_RECT_WH, QLT_SH_BORDER, QLT_AC_SRC, QLT_AC_CROP_XY, QLT_AC_CROP_WH, QLT_AC_RECT_XY, QLT_AC_RECT_WH, QLT_AC_BORDER, QLT_LAYER_RES, GTH_PEAK]) d e ∧
    (d.tlr.started = false ∨ inSafe d = true → Unchanged d e))) ∧
  (Carried .placementGapTimeout (fun d e =>
    Changes [.ntw, .devTime, .blt, .sea] (firing ++ [TLR_STATUS_gap]) d e ∧
    (d.sea.gapAt = 0 → Unchanged d e) ∧ (d.sea.gapAt ≠ 0 →
      Passes (d.sea.gapAt + unitsOfNib (2 * p0 d)) d e ∧ rd TLR_STATUS_gap [] e = 1 ∧ e.sea.gapAt = max 1 e.devTime ∧ Fired 85 d e))))

/-- A channel that runs, is no fixed-delay channel and has not paused within 12 ms pauses at its slot: the pause is shown active with that channel
and counted. Its evaluation comes 58,212 nib after the pause began, once; the end clears the active bit. Without a pause, the evaluation and the
end do nothing. -/
def Obligations.RetrainingPauses : Prop :=
  (∀ ch, Carried (.retrainingPause ch) (fun d e =>
    Changes [.ntw, .devTime, .lastAt, .xpt, .drams] (fieldsOf [DUC_PAUSE_ST]) d e ∧
    (dramActive ch d = true → isFixed ch d = false → tabGet 0 d.xpt.lastPause ch = 0 →
      rd DUC_PAUSE_ST_active [] e = 1 ∧ rd DUC_PAUSE_ST_last_ch [] e = ch % 2 ^ DUC_PAUSE_ST_last_ch.w ∧ (dramRun ch e).pauseAt = e.ntw + 1 ∧ (dramRun ch e).evaluated = false))) ∧
  (∀ ch lanes, Carried (.pauseEvaluation ch lanes) (fun d e =>
    Changes [.ntw, .devTime, .blt, .drams] (firing ++ [DRC_STATUS_degraded, DRC_STATUS_fail_count, DRC_STICKY_retrain_fail, DRC_MARGIN_rd_min, DRC_MARGIN_wr_min, DRC_LAST_TRAIN_ntw, DRC_DLY_DQ_rd, DRC_DLY_DQ_wr] ++ fieldsOf [DRC_CNT]) d e ∧
    ((dramRun ch d).pauseAt = 0 ∨ (dramRun ch d).evaluated = true → Unchanged d e) ∧
    ((dramRun ch d).pauseAt ≠ 0 → (dramRun ch d).evaluated = false →
      Comes ((dramRun ch d).pauseAt - 1 + unitsOfNib 58212) d e ∧ (dramRun ch e).evaluated = true))) ∧
  (∀ ch, Carried (.pauseEnd ch) (fun d e =>
    Changes [.blt, .ink, .drams, .health] (firing ++ [DUC_PAUSE_ST_active, DUC_FAM_STATUS_state, LNS_OCT_STATUS_state, MAC_STATUS_state, INK_STATUS_cap_err, INK_CAP_ST_busy, INK_CAP_ST_err, INK_SURF_writing, DRC_STATUS_state, DRC_STATUS_sub, DRC_STATUS_train_step, DRC_STATUS_failed_cause, DRC_INFO_cap_mib, DRC_STICKY_failed, QLT_HEAD_STATUS_state, GTH_STATUS_state, APT_TDM_STATUS_state, APT_AIN_STATUS_state, APT_AOUT_STATUS_state, SEA_LINK_ST_state]) d e ∧
    ((dramRun ch d).pauseAt = 0 → Unchanged d e) ∧ ((dramRun ch d).pauseAt ≠ 0 → rd DUC_PAUSE_ST_active [] e = 0)))

/-- A snapshot comes at the next multiple of 5,292,000,000 nib. A master without one, or before the first, times nothing out; otherwise the limit
comes 5,292,000 nib after the last snapshot, and every link that is up and whose partner's digest has not come shows no agreement: the mismatch
bit is set and FS0245 fires. The master, a self-acting member and one that has asked already send nothing; another with a way towards the master
has asked afterwards. -/
def Obligations.DigestsAndStateTransfer : Prop :=
  ((Carried .digestSnapshot (fun d e =>
    Changes [.ntw, .devTime, .lastAt, .blt, .sea, .health] (firing ++ [XPT_STATUS_not_exec, XPT_NX_tag, XPT_NX_CNT_count, XPT_MBX_RES_state, XPT_MBX_RES_code, SEA_STATUS_mismatch, SEA_STATUS_takeover, SEA_CMD_ST_handover_done, SEA_DIGEST_digest, SEA_DIGEST_AT_ntw, SEA_DIGEST_CNT_mismatches, SEA_LINK_ST_upstream, SEA_LINK_ST_digest_ok] ++ fieldsOf [SEA_TIME]) d e ∧
    Comes (nextGrid 5292000000 0 3 d) d e)) ∧
  (Carried .digestTimeout (fun d e =>
    Changes [.ntw, .devTime, .blt, .sea] (firing ++ [SEA_STATUS_mismatch, SEA_DIGEST_CNT_mismatches, SEA_LINK_ST_digest_ok]) d e ∧
    (tabGet 0 d.lastAt 3 = 0 ∨ roleOf d = 0 → Unchanged d e) ∧
    (tabGet 0 d.lastAt 3 ≠ 0 → roleOf d ≠ 0 → Comes (tabGet 0 d.lastAt 3 + unitsOfNib 5292000) d e ∧
      ∀ n < 24, rdB SEA_LINK_ST_up [n] d = true → (seaLink n d).digestSeen = false →
        rd SEA_LINK_ST_digest_ok [n] e = 0 ∧ rd SEA_STATUS_mismatch [] e = 1 ∧ Fired 245 d e)))) ∧
  ((Carried .stateTransferStart (fun d e =>
    Changes [.sea] [] d e ∧
    (d.sea.transfer ≠ 0 ∨ roleOf d = 0 ∨ selfActing d = true → Unchanged d e) ∧
    (d.sea.transfer = 0 → roleOf d ≠ 0 → selfActing d = false → ∀ up, towardsMaster d = some up → e.sea.transfer = 1))))

/-- A commit of a reserved layer sets the rejected-write bit and of a pending one the busy bit, firing FS0197; neither changes the layer's result. In
safe state it ends at once, not executed. Otherwise its result is state 1 with a code of 0 until it lands. A landing with no commit pending, or
whose placement is not decided, does nothing; on a layer of no head it comes at its latching instant. -/
def Obligations.LayerCommits : Prop :=
  (∀ layer, Carried (.commit layer) (fun d e =>
    Changes [.blt, .qlt] (firing ++ [QLT_STATUS_rej_write, QLT_STATUS_busy] ++ fieldsOf [QLT_LAYER_RES]) d e ∧
    (layerReserved layer d = true → rd QLT_STATUS_rej_write [] e = 1 ∧ rd QLT_LAYER_RES_state [layer] e = rd QLT_LAYER_RES_state [layer] d) ∧
    (layerReserved layer d = false → layerPending layer d = true → rd QLT_STATUS_busy [] e = 1 ∧ rd QLT_LAYER_RES_state [layer] e = rd QLT_LAYER_RES_state [layer] d ∧ Fired 197 d e) ∧
    (layerReserved layer d = false → layerPending layer d = false → inSafe d = true →
      rd QLT_LAYER_RES_state [layer] e = 2 ∧ rd QLT_LAYER_RES_code [layer] e = 1) ∧
    (layerReserved layer d = false → layerPending layer d = false → inSafe d = false →
      rd QLT_LAYER_RES_state [layer] e = 1 ∧ rd QLT_LAYER_RES_code [layer] e = 0))) ∧
  (∀ layer, Carried (.commitLanding layer) (fun d e =>
    Changes [.ntw, .devTime, .freeCtr, .blt, .qlt, .journal] (firing ++ [QLT_STATUS_undrawn, QLT_STATUS_fb, QLT_STATUS_tear, QLT_AC_CFG_en, QLT_AC_CFG_z, QLT_AC_CFG_filter, QLT_AC_CFG_field, QLT_AC_CFG_bank, QLT_AC_CFG_prog, QLT_AC_CFG_alpha_mode, QLT_AC_CFG_lost_mode, QLT_AC_CFG_ovl, QLT_AC_ALPHA_alpha, QLT_AC_BCOL_colour, QLT_AC_LCOL_colour, QLT_LAYER_ST_mode, QLT_LAYER_ST_fallback, QLT_LAYER_ST_tears] ++ fieldsOf [QLT_AC_SRC, QLT_AC_CROP_XY, QLT_AC_CROP_WH, QLT_AC_RECT_XY, QLT_AC_RECT_WH, QLT_AC_BORDER, QLT_AC_METER, QLT_AC_MCH, QLT_LAYER_RES]) d e ∧
    (layerPending layer d = false ∨ (layerRun layer d).input = true → Unchanged d e) ∧
    (layerPending layer d = true → (layerRun layer d).input = false → layerHead layer d = none →
      (inSafe d = true → rd QLT_LAYER_RES_state [layer] e = 2 ∧ rd QLT_LAYER_RES_code [layer] e = 1) ∧
      (inSafe d = false → Comes (unitsOfNib (layerRun layer d).latch) d e))))

/-- On a lane whose receiver runs, a signal shows as present, a lock of a receiver that does not hunt shows as locked with what was measured, a loss
clears the lock and the rate, and a lane that was locked then counts the event, sets its sticky bit and fires FS0096. A dwell of the hunt comes
at its end: at the hunted rate the lane is locked at it, otherwise the next rate is dwelt at for 20 us. A frequency is kept only while the lane
is locked, and shows out of range beyond 100 ppm. On a lane whose receiver does not run, none of these does anything; the lock of every other
lane stays at a signal, a lock, a dwell and a measurement. -/
def Obligations.LaneReceivers : Prop :=
  (∀ lane, Carried (.signalDetect lane) (fun d e =>
    Changes [.lns] [LNS_STATUS_sig] d e ∧
    (rxRuns lane d = false → Unchanged d e) ∧
    (rxRuns lane d = true → rd LNS_STATUS_sig [lane] e = 1 ∧ rd LNS_STATUS_lock [lane] e = rd LNS_STATUS_lock [lane] d) ∧
    (∀ k < 192, k ≠ lane → laneRun k e = laneRun k d ∧ rd LNS_STATUS_sig [k] e = rd LNS_STATUS_sig [k] d))) ∧
  (∀ lane freq ctle snr dfe, Carried (.receiverLock lane freq ctle snr dfe) (fun d e =>
    Changes [.blt] (firing ++ [LNS_STATUS_sig, LNS_STATUS_lock, LNS_STATUS_train, LNS_STATUS_freq_oor, LNS_STICKY_freq_oor, LNS_STICKY_eye_void, LNS_FREQ_freq, LNS_EYE_RES_busy, LNS_EYE_RES_done, LNS_EYE_RES_void, LNS_EYE_RES_adapt_moved, LNS_EYE_RES_void_cause, BLT_RAW_bits] ++ fieldsOf [LNS_RX_EQ]) d e ∧
    (rxRuns lane d = false ∨ rxMode lane d = 1 → Unchanged d e) ∧
    (rxRuns lane d = true → rxMode lane d ≠ 1 → rd LNS_STATUS_sig [lane] e = 1 ∧ rd LNS_STATUS_lock [lane] e = 1 ∧
      rd LNS_RX_EQ_snr [lane] e = snr % 2 ^ LNS_RX_EQ_snr.w ∧ rd LNS_STATUS_freq_oor [lane] e = if 109951162 < freq.natAbs then 1 else 0) ∧
    (∀ k < 192, k ≠ lane → rd LNS_STATUS_lock [k] e = rd LNS_STATUS_lock [k] d))) ∧
  (∀ lane below, Carried (.lossOfLock lane below) (fun d e =>
    Changes [.blt, .xpt, .lns, .macs, .sdi, .sea] (firing ++ [XPT_SSL_ST_lost, XPT_DST_ST_lost, XPT_DST_CNT_losses, LNS_STATUS_sig, LNS_STATUS_lock, LNS_STATUS_rate, LNS_STATUS_div1001, LNS_STATUS_train, LNS_STATUS_freq_oor, LNS_STICKY_lol, LNS_STICKY_eye_void, LNS_CNT_lol_events, LNS_FREQ_freq, LNS_EYE_RES_busy, LNS_EYE_RES_done, LNS_EYE_RES_void, LNS_EYE_RES_void_cause, MAC_STATUS_link, MAC_STATUS_pcs_aligned, MAC_STATUS_fec_lock, MAC_STATUS_paused, MAC_STATUS_ts_level, MAC_STATUS_fw_q_level, MAC_PAUSE_quanta_left, MAC_STICKY_link_down, MAC_CNT1_link_downs, SDI_IN_ST_state, SDI_IN_ST_lost, SDI_IN_ST_link, SDI_IN_ST_psid_present, SDI_IN_ST_cause, SDI_IN_STICKY_lost, SDI_IN_LOSS_losses, SDI_IN_AUD_grp_present, INK_SURF_writing, SEA_STATUS_twin_down, SEA_TIME_hop, SEA_TIME_upstream, SEA_TIME_up_valid, SEA_LINK_ST_up, SEA_LINK_ST_rx_ok, SEA_LINK_ST_time_valid, SEA_LINK_ST_upstream, SEA_LINK_ST_digest_ok, SEA_LINK_STICKY_lane_lost, SEA_LINK_STICKY_down, SEA_LINK_CNT1_lane_drops, BLT_RAW_bits] ++ fieldsOf [MAC_TXQ]) d e ∧
    (rxRuns lane d = false → Unchanged d e) ∧
    (rxRuns lane d = true → rd LNS_STATUS_lock [lane] e = 0 ∧ rd LNS_STATUS_rate [lane] e = 0 ∧ (below = true → rd LNS_STATUS_sig [lane] e = 0) ∧
      (rdB LNS_STATUS_lock [lane] d = true → rd LNS_STICKY_lol [lane] e = 1 ∧ Fired 96 d e)))) ∧
  (∀ lane rate div freq, Carried (.huntDwellEnd lane rate div freq) (fun d e =>
    Changes [.ntw, .devTime, .blt, .xpt, .lns, .sdi] (firing ++ [XPT_SSL_ST_lost, XPT_DST_ST_lost, XPT_DST_CNT_losses, LNS_STATUS_lock, LNS_STATUS_rate, LNS_STATUS_div1001, LNS_STATUS_train, LNS_STATUS_freq_oor, LNS_STICKY_freq_oor, LNS_FREQ_freq, FLW_STATUS_content, SDI_IN_ST_state, SDI_IN_ST_lost, SDI_IN_ST_cause, SDI_IN_STICKY_lost, SDI_IN_STICKY_mismatch, SDI_IN_LOSS_losses, SDI_IN_AUD_grp_present, INK_SURF_writing, BLT_RAW_bits]) d e ∧
    ((laneRun lane d).hunt = 0 ∨ rxRuns lane d = false → e.ntw = d.ntw ∧ e.devTime = d.devTime ∧ laneRun lane e = laneRun lane d) ∧
    ((laneRun lane d).hunt ≠ 0 → rxRuns lane d = true →
      Passes (laneRun lane d).dwellEnd d e ∧
      (rate = (laneRun lane d).hunt → rd LNS_STATUS_lock [lane] e = 1 ∧ rd LNS_STATUS_rate [lane] e = rate % 2 ^ LNS_STATUS_rate.w) ∧
      (rate ≠ (laneRun lane d).hunt → (laneRun lane e).dwellEnd = e.devTime + 20 * usUnits ∧ (laneRun lane e).hunt = huntNext lane (laneRun lane d).hunt d)) ∧
    (∀ k < 192, k ≠ lane → rd LNS_STATUS_lock [k] e = rd LNS_STATUS_lock [k] d))) ∧
  (∀ lane freq, Carried (.frequencyOutOfRange lane freq) (fun d e =>
    Changes [.blt] (firing ++ [LNS_STATUS_freq_oor, LNS_STICKY_freq_oor, LNS_FREQ_freq, BLT_RAW_bits]) d e ∧
    (rdB LNS_STATUS_lock [lane] d = false → Unchanged d e) ∧
    (rdB LNS_STATUS_lock [lane] d = true → rd LNS_STATUS_freq_oor [lane] e = if 109951162 < freq.natAbs then 1 else 0) ∧
    (rdB LNS_STATUS_lock [lane] d = true → 109951162 < freq.natAbs → rd LNS_STATUS_freq_oor [lane] d = 0 → rd LNS_STICKY_freq_oor [lane] e = 1)))

/-- Training under way that completes shows as done, and taps that the mode allows are the taps in use; other taps leave those in use as they are.
Training that times out counts, sets its sticky bit, fires FS0097 and is tried again a second later: the retry comes at that instant and training
begins anew. On a lane that does not train, none of these does anything, and every other lane keeps its taps and its training. A scan asked for
while one is under way sets the busy sticky bit and leaves it under way. On a locked lane it is then under way and not done; on any other it is
done at once and void with cause 1. A scan under way that ends shows what was found; where none is under way nothing changes. -/
def Obligations.LaneTrainingAndEyeScans : Prop :=
  ((∀ lane m3 m2 m1 c0 p1, Carried (.trainingComplete lane m3 m2 m1 c0 p1) (fun d e =>
    Changes [] ([LNS_STATUS_train] ++ fieldsOf [LNS_TX_TAP_ACT]) d e ∧
    (∀ t, t = rd LNS_STATUS_train [lane] d →
      (rxRuns lane d = false ∨ (t ≠ 1 ∧ t ≠ 2) → Unchanged d e) ∧
      (rxRuns lane d = true → t = 1 ∨ t = 2 → rd LNS_STATUS_train [lane] e = 3 ∧
        (tapsOk (txMode lane d) m3 m2 m1 c0 p1 = true → rd LNS_TX_TAP_ACT_c0 [lane] e = (c0 % (2 ^ LNS_TX_TAP_ACT_c0.w : Nat)).toNat ∧
          rd LNS_TX_TAP_ACT_c_p1 [lane] e = (p1 % (2 ^ LNS_TX_TAP_ACT_c_p1.w : Nat)).toNat) ∧
        (tapsOk (txMode lane d) m3 m2 m1 c0 p1 = false → rd LNS_TX_TAP_ACT_c0 [lane] e = rd LNS_TX_TAP_ACT_c0 [lane] d))) ∧
    (∀ k < 192, k ≠ lane → rd LNS_TX_TAP_ACT_c0 [k] e = rd LNS_TX_TAP_ACT_c0 [k] d ∧ rd LNS_STATUS_train [k] e = rd LNS_STATUS_train [k] d))) ∧
  (∀ lane, Carried (.trainingTimeout lane) (fun d e =>
    Changes [.blt, .lns] (firing ++ [LNS_STATUS_train, LNS_STICKY_train_fail, LNS_CNT_train_fails]) d e ∧
    (∀ t, t = rd LNS_STATUS_train [lane] d →
      (rxRuns lane d = false ∨ (t ≠ 1 ∧ t ≠ 2) → Unchanged d e) ∧
      (rxRuns lane d = true → t = 1 ∨ t = 2 → rd LNS_STATUS_train [lane] e = 5 ∧ rd LNS_STICKY_train_fail [lane] e = 1 ∧
        (laneRun lane e).retryAt = d.devTime + secUnits ∧ Fired 97 d e)) ∧
    (∀ k < 192, k ≠ lane → rd LNS_STATUS_train [k] e = rd LNS_STATUS_train [k] d ∧ laneRun k e = laneRun k d))) ∧
  (∀ lane, Carried (.trainingRetry lane) (fun d e =>
    Changes [.ntw, .devTime, .lns] [LNS_STATUS_train, LNS_STICKY_eye_void, LNS_EYE_RES_busy, LNS_EYE_RES_done, LNS_EYE_RES_void, LNS_EYE_RES_void_cause] d e ∧
    (rxRuns lane d = false ∨ rd LNS_STATUS_train [lane] d ≠ 5 → Unchanged d e) ∧
    (rxRuns lane d = true → rd LNS_STATUS_train [lane] d = 5 → Passes (laneRun lane d).retryAt d e ∧ (laneRun lane e).retryAt = 0 ∧
      (rdB LNS_MODE_train_en [lane] d = false → rd LNS_STATUS_train [lane] e = 4))))) ∧
  ((∀ lane word, Carried (.scanStart lane word) (fun d e =>
    Changes [.lns] [LNS_STICKY_eye_busy, LNS_STICKY_eye_void, LNS_EYE_CTRL_mode, LNS_EYE_CTRL_eye, LNS_EYE_CTRL_dwell, LNS_EYE_CTRL_phase, LNS_EYE_CTRL_volt, LNS_EYE_RES_busy, LNS_EYE_RES_done, LNS_EYE_RES_void, LNS_EYE_RES_adapt_moved, LNS_EYE_RES_void_cause] d e ∧
    (rdB LNS_EYE_RES_busy [lane] d = true → rd LNS_STICKY_eye_busy [lane] e = 1 ∧ rd LNS_EYE_RES_busy [lane] e = 1 ∧ rd LNS_EYE_RES_done [lane] e = rd LNS_EYE_RES_done [lane] d) ∧
    (rdB LNS_EYE_RES_busy [lane] d = false → rxRuns lane d = true → rdB LNS_STATUS_lock [lane] d = true → rd LNS_EYE_RES_busy [lane] e = 1 ∧ rd LNS_EYE_RES_done [lane] e = 0) ∧
    (rdB LNS_EYE_RES_busy [lane] d = false → rxRuns lane d = false ∨ rdB LNS_STATUS_lock [lane] d = false →
      rd LNS_EYE_RES_busy [lane] e = 0 ∧ rd LNS_EYE_RES_done [lane] e = 1 ∧ rd LNS_EYE_RES_void [lane] e = 1 ∧ rd LNS_EYE_RES_void_cause [lane] e = 1))) ∧
  (∀ lane errors h v moved, Carried (.scanDone lane errors h v moved) (fun d e =>
    Changes [] [LNS_EYE_RES_busy, LNS_EYE_RES_done, LNS_EYE_RES_adapt_moved, LNS_EYE_RES_h_open, LNS_EYE_RES_v_open, LNS_EYE_ERR_errors] d e ∧
    (rdB LNS_EYE_RES_busy [lane] d = false → Unchanged d e) ∧
    (rdB LNS_EYE_RES_busy [lane] d = true → rd LNS_EYE_RES_busy [lane] e = 0 ∧ rd LNS_EYE_RES_done [lane] e = 1 ∧
      rd LNS_EYE_ERR_errors [lane] e = min errors (2 ^ 32 - 1) ∧ (moved = true → rd LNS_EYE_RES_adapt_moved [lane] e = 1) ∧
      ((laneRun lane d).scanOpening = true → rd LNS_EYE_RES_h_open [lane] e = min h 64 % 2 ^ LNS_EYE_RES_h_open.w)))))

/-- A synthesiser of an octet that starts or runs locks where it has a source whose reference is present; one that unlocks shows so and, if in use,
sets its sticky bit and fires FS0098. An octet that still starts 10 ms after its start fails with FS0098; one that was stopping is stopped, with
no synthesiser locked. The loss of an Ethernet reference takes its presence from its six octets and fires FS0099 as a level, and its return gives
it back; other octets keep theirs. -/
def Obligations.OctetsAndReferences : Prop :=
  (∀ octet mask, Carried (.synthesiserLock octet mask) (fun d e =>
    Changes [.health] [DUC_FAM_STATUS_state, LNS_OCT_STATUS_state, LNS_OCT_STATUS_q0a_lock, LNS_OCT_STATUS_q0b_lock, LNS_OCT_STATUS_q1a_lock, LNS_OCT_STATUS_q1b_lock, LNS_OCT_STATUS_ref_present, MAC_STATUS_state, DRC_STATUS_state, QLT_HEAD_STATUS_state, GTH_STATUS_state, APT_TDM_STATUS_state, APT_AIN_STATUS_state, APT_AOUT_STATUS_state, SEA_LINK_ST_state] d e ∧
    (∀ s < 4, Nat.testBit mask s = true → funcState (fOct octet) d = 1 ∨ funcState (fOct octet) d = 2 → synthSource octet s d ≠ 0 →
      (synthSource octet s d = 3 ∨ d.lns.refLost.contains (octet / 6) = false) → synthLocked octet s e = true) ∧
    (funcState (fOct octet) d ≠ 1 → funcState (fOct octet) d ≠ 2 → ∀ s < 4, synthLocked octet s e = synthLocked octet s d))) ∧
  (∀ octet synth, Carried (.synthesiserUnlock octet synth) (fun d e =>
    Changes [.blt] (firing ++ [LNS_OCT_STATUS_q0a_lock, LNS_OCT_STATUS_q0b_lock, LNS_OCT_STATUS_q1a_lock, LNS_OCT_STATUS_q1b_lock, LNS_OCT_STICKY_synth_unlock]) d e ∧
    (synthLocked octet synth d = false → Unchanged d e) ∧
    (synthLocked octet synth d = true → synthLocked octet synth e = false ∧
      (synthInUse octet synth d = true → rd LNS_OCT_STICKY_synth_unlock [octet] e = 1 ∧ Fired 98 d e)) ∧
    (∀ s < 4, s ≠ synth → synthLocked octet s e = synthLocked octet s d))) ∧
  (∀ octet, Carried (.octetStartTimeout octet) (fun d e =>
    Changes [.ntw, .devTime, .blt, .health] (firing ++ [DUC_FAM_STATUS_state, LNS_OCT_STATUS_state, MAC_STATUS_state, DRC_STATUS_state, QLT_HEAD_STATUS_state, GTH_STATUS_state, APT_TDM_STATUS_state, APT_AIN_STATUS_state, APT_AOUT_STATUS_state, SEA_LINK_ST_state]) d e ∧
    (funcState (fOct octet) d ≠ 1 → Unchanged d e) ∧
    (funcState (fOct octet) d = 1 → Passes (tabGet 0 d.lns.startAt octet + 10 * msUnits) d e ∧ funcState (fOct octet) e = 4 ∧ Fired 98 d e))) ∧
  (∀ octet, Carried (.octetStopped octet) (fun d e =>
    Changes [.health] [DUC_FAM_STATUS_state, LNS_OCT_STATUS_state, LNS_OCT_STATUS_q0a_lock, LNS_OCT_STATUS_q0b_lock, LNS_OCT_STATUS_q1a_lock, LNS_OCT_STATUS_q1b_lock, MAC_STATUS_state, DRC_STATUS_state, QLT_HEAD_STATUS_state, GTH_STATUS_state, APT_TDM_STATUS_state, APT_AIN_STATUS_state, APT_AOUT_STATUS_state, SEA_LINK_ST_state] d e ∧
    (funcState (fOct octet) d ≠ 3 → Unchanged d e) ∧
    (funcState (fOct octet) d = 3 → funcState (fOct octet) e = 0 ∧ ∀ s < 4, synthLocked octet s e = false))) ∧
  (∀ ref, Carried (.ethRefclkLoss ref) (fun d e =>
    Changes [.blt, .xpt, .lns, .macs, .sdi, .sea] (firing ++ [XPT_SSL_ST_lost, XPT_DST_ST_lost, XPT_DST_CNT_losses, LNS_STATUS_sig, LNS_STATUS_lock, LNS_STATUS_rate, LNS_STATUS_div1001, LNS_STATUS_train, LNS_STATUS_freq_oor, LNS_STICKY_lol, LNS_STICKY_eye_void, LNS_CNT_lol_events, LNS_FREQ_freq, LNS_EYE_RES_busy, LNS_EYE_RES_done, LNS_EYE_RES_void, LNS_EYE_RES_void_cause, LNS_OCT_STATUS_q0a_lock, LNS_OCT_STATUS_q0b_lock, LNS_OCT_STATUS_q1a_lock, LNS_OCT_STATUS_q1b_lock, LNS_OCT_STATUS_ref_present, LNS_OCT_STICKY_synth_unlock, LNS_OCT_STICKY_ref_lost, MAC_STATUS_link, MAC_STATUS_pcs_aligned, MAC_STATUS_fec_lock, MAC_STATUS_paused, MAC_STATUS_ts_level, MAC_STATUS_fw_q_level, MAC_PAUSE_quanta_left, MAC_STICKY_link_down, MAC_CNT1_link_downs, SDI_IN_ST_state, SDI_IN_ST_lost, SDI_IN_ST_link, SDI_IN_ST_psid_present, SDI_IN_ST_cause, SDI_IN_STICKY_lost, SDI_IN_LOSS_losses, SDI_IN_AUD_grp_present, INK_SURF_writing, SEA_STATUS_twin_down, SEA_TIME_hop, SEA_TIME_upstream, SEA_TIME_up_valid, SEA_LINK_ST_up, SEA_LINK_ST_rx_ok, SEA_LINK_ST_time_valid, SEA_LINK_ST_upstream, SEA_LINK_ST_digest_ok, SEA_LINK_STICKY_lane_lost, SEA_LINK_STICKY_down, SEA_LINK_CNT1_lane_drops, BLT_RAW_bits] ++ fieldsOf [MAC_TXQ]) d e ∧
    (∀ o < 24, rd LNS_OCT_STATUS_ref_present [o] e = if o / 6 = ref then 0 else rd LNS_OCT_STATUS_ref_present [o] d) ∧ rawOf 99 e = true ∧ Fired 99 d e ∧
    (∀ o < 24, o / 6 = ref → usesEthRef o d = true → rd LNS_OCT_STICKY_ref_lost [o] e = 1))) ∧
  (∀ ref, Carried (.ethRefclkReturn ref) (fun d e =>
    Changes [.blt, .lns] (firing ++ [LNS_OCT_STATUS_ref_present, BLT_RAW_bits]) d e ∧
    (∀ o < 24, rd LNS_OCT_STATUS_ref_present [o] e = if o / 6 = ref then 1 else rd LNS_OCT_STATUS_ref_present [o] d) ∧
    rawOf 99 e = !(d.lns.refLost.filter (fun x => x != ref)).isEmpty))

/-- On a lane of a declared input that is not waiting for its lanes, a payload identifier is shown with its link, a changed one setting the sticky
bit. One whose scan is not the declared one takes an input that is not in mismatch already into state 4 with cause 4, sets the sticky bit and
fires FS0113. On a lane of no declared input, or of one that waits, neither an identifier nor a line does anything. -/
def Obligations.SdiPayloadIdentifiers : Prop :=
  (∀ lane psid, Carried (.st352Packet lane psid) (fun d e =>
    Changes [.blt, .xpt, .sdi] (firing ++ [XPT_SSL_ST_lost, XPT_DST_ST_lost, XPT_DST_CNT_losses, FLW_STATUS_content, SDI_IN_ST_state, SDI_IN_ST_lost, SDI_IN_ST_link, SDI_IN_ST_psid_present, SDI_IN_ST_level_b, SDI_IN_ST_cause, SDI_IN_PSID_psid, SDI_IN_STICKY_lost, SDI_IN_STICKY_mismatch, SDI_IN_STICKY_psid_chg, SDI_IN_LOSS_losses, SDI_IN_AUD_grp_present, INK_SURF_writing]) d e ∧
    (laneSource' lane d = none → Unchanged d e) ∧ (∀ x lanes, laneSource' lane d = some (x, lanes) → ∀ n, n = lanes.headD lane →
      (inState n d = 0 → Unchanged d e) ∧
      (inState n d ≠ 0 → rd SDI_IN_ST_psid_present [lane] e = 1 ∧ rd SDI_IN_PSID_psid [lane] e = psid.raw % 2 ^ SDI_IN_PSID_psid.w ∧
        (rdB SDI_IN_ST_psid_present [lane] d = true → rd SDI_IN_PSID_psid [lane] d ≠ psid.raw → rd SDI_IN_STICKY_psid_chg [n] e = 1)) ∧
      (inState n d ≠ 0 → inState n d ≠ 4 → n < 192 → psid.scan ≠ (fmtOf x.fmt d).scan →
        inState n e = 4 ∧ rd SDI_IN_ST_cause [n] e = 4 ∧ rd SDI_IN_STICKY_mismatch [n] e = 1 ∧ Fired 113 d e)))) ∧
  (∀ lane line, Carried (.sdiLine lane line) (fun d e =>
    Changes [.blt, .xpt, .ink, .sdi] (firing ++ [XPT_SSL_ST_lost, XPT_SSL_ST_e_nib, XPT_DST_ST_lost, XPT_DST_CNT_losses, FLW_STATUS_content, SDI_IN_ST_state, SDI_IN_ST_lost, SDI_IN_ST_rate_unsup, SDI_IN_ST_skew_err, SDI_IN_ST_cause, SDI_IN_ARR_e, SDI_IN_SKEW_skew, SDI_IN_STICKY_lost, SDI_IN_STICKY_mismatch, SDI_IN_STICKY_crc, SDI_IN_STICKY_edh, SDI_IN_STICKY_anc_cs, SDI_IN_STICKY_anc_ovf, SDI_IN_STICKY_slip, SDI_IN_STICKY_skew, SDI_IN_LOSS_losses, SDI_IN_AUD_grp_present, INK_STATUS_anc_drop, INK_CNT_anc_drop, INK_SURF_wr_buf, INK_SURF_last_buf, INK_SURF_writing, INK_SURF_lines_written, INK_SURF_frame] ++ fieldsOf [SDI_IN_DET, SDI_IN_CNT0, SDI_IN_CNT1, SDI_IN_CNT2]) d e ∧
    (laneSource' lane d = none → Unchanged d e) ∧
    (∀ x lanes, laneSource' lane d = some (x, lanes) → inState (lanes.headD lane) d = 0 → Unchanged d e)))

/-- The link of a running MAC whose lanes are ready comes up outside safe state, with no remote fault; otherwise nothing happens. A link that goes
down empties both queues and ends a pause; while the MAC runs outside safe state it sets link_down, counts and fires FS0128, and in safe state it
does not. The remote fault of a running MAC shows as received while its link is down. The queues of every other MAC stay. A pause under way ends
once its quanta have passed, and at once when pause is disabled; the write shows in the enable and leaves every other MAC alone. Without a link
no frame that firmware hands over is queued and none is sent. -/
def Obligations.EthernetLinksAndPauses : Prop :=
  ((∀ mac, Carried (.linkUp mac) (fun d e =>
    Changes [.flw] [MAC_STATUS_link, MAC_STATUS_pcs_aligned, MAC_STATUS_fec_lock, MAC_STATUS_rx_rfault, FLW_MEMB_reports] d e ∧
    (∀ ready, ready = (running (fMac mac) d && lanesReady mac d && !linkUp mac d && !inSafe d) →
      (ready = false → Unchanged d e) ∧ (ready = true → linkUp mac e = true ∧ rd MAC_STATUS_rx_rfault [mac] e = 0 ∧ e.macs = d.macs)))) ∧
  (∀ mac rfault, Carried (.linkDown mac rfault) (fun d e =>
    Changes [.blt, .macs] (firing ++ [MAC_STATUS_link, MAC_STATUS_pcs_aligned, MAC_STATUS_fec_lock, MAC_STATUS_paused, MAC_STATUS_rx_rfault, MAC_STATUS_ts_level, MAC_STATUS_fw_q_level, MAC_PAUSE_quanta_left, MAC_STICKY_link_down, MAC_CNT1_link_downs] ++ fieldsOf [MAC_TXQ]) d e ∧
    (linkUp mac d = false → running (fMac mac) d = false → Unchanged d e) ∧ linkUp mac e = false ∧
    (linkUp mac d = true → (macRun mac e).media = [] ∧ (macRun mac e).mgmt = [] ∧ rdB MAC_STATUS_paused [mac] e = false ∧
      (running (fMac mac) d = true → inSafe d = false → rd MAC_STICKY_link_down [mac] e = 1 ∧
        rd MAC_CNT1_link_downs [mac] e = min (2 ^ MAC_CNT1_link_downs.w - 1) (rd MAC_CNT1_link_downs [mac] d + 1) ∧ Fired 128 d e) ∧
      (inSafe d = true → rd MAC_STICKY_link_down [mac] e = rd MAC_STICKY_link_down [mac] d ∧ rd MAC_CNT1_link_downs [mac] e = rd MAC_CNT1_link_downs [mac] d)) ∧
    (running (fMac mac) d = true → rdB MAC_STATUS_rx_rfault [mac] e = rfault) ∧ (∀ k < 48, k ≠ mac → macRun k e = macRun k d)))) ∧
  ((∀ mac, Carried (.pauseExpiry mac) (fun d e =>
    Changes [.ntw, .devTime, .macs] [MAC_STATUS_paused, MAC_PAUSE_quanta_left] d e ∧
    (rdB MAC_STATUS_paused [mac] d = false → Unchanged d e) ∧
    (rdB MAC_STATUS_paused [mac] d = true → Passes (macRun mac d).pauseEnd d e ∧ rdB MAC_STATUS_paused [mac] e = false ∧ rd MAC_PAUSE_quanta_left [mac] e = 0) ∧
    (∀ k < 48, k ≠ mac → macRun k e = macRun k d ∧ rd MAC_STATUS_paused [k] e = rd MAC_STATUS_paused [k] d))) ∧
  (∀ mac en, Carried (.pauseEnWrite mac en) (fun d e =>
    Changes [.macs] ([MAC_STATUS_paused] ++ fieldsOf [MAC_PAUSE]) d e ∧
    rdB MAC_PAUSE_pause_en [mac] e = en ∧ (en = false → rdB MAC_STATUS_paused [mac] e = false) ∧
    (en = true → rd MAC_STATUS_paused [mac] e = rd MAC_STATUS_paused [mac] d) ∧ (∀ k < 48, k ≠ mac → macRun k e = macRun k d ∧ rd MAC_PAUSE_pause_en [k] e = rd MAC_PAUSE_pause_en [k] d))) ∧
  (∀ mac handed, Carried (.transmitFrame mac handed) (fun d e =>
    Changes [.blt, .macs] (firing ++ [MAC_STATUS_ts_level, MAC_STATUS_fw_q_level, MAC_STICKY_ts_ovf, MAC_CNT1_ts_lost] ++ fieldsOf [MAC_TXQ]) d e ∧
    (linkUp mac d = false → Unchanged d e) ∧ (linkUp mac d = true → handed = [] → rdB MAC_STATUS_paused [mac] d = true ∨ inSafe d = true → Unchanged d e))))

/-- On a running MAC with its link up, a frame below 64 bytes counts as runt, one above max_frame as oversize whatever its FCS, and one with an error
as fcs_err, each in that counter and in no other of them. A pause frame for the MAC or the pause address counts in pause_rx, sets its sticky bit
and fires FS0133; where pause is enabled it pauses transmission for its quanta, or ends the pause with a quanta of 0. On a MAC that does not run,
or without a link, no counter of these moves. -/
def Obligations.ReceivedFramesMeetTheirFate : Prop :=
  (∀ mac frame, Carried (.receiveFrame mac frame) (fun d e =>
    Changes [.lastSecond, .blt, .xpt, .flw, .macs, .sdi] (firing ++ [XPT_SSL_ST_lost, XPT_SSL_ST_e_nib, XPT_DST_ST_lost, XPT_DST_CNT_losses, LNS_SYMERR_corrected, MAC_STATUS_paused, MAC_STATUS_ts_level, MAC_STATUS_fw_q_level, MAC_PAUSE_quanta_left, MAC_STICKY_pause_seen, MAC_CNT1_unknown_flow, FLW_STATUS_late, FLW_STATUS_early, FLW_STATUS_recentre, FLW_STATUS_ssrc, FLW_STATUS_content, FLW_MEMB_reports, FLW_RX_aligned, FLW_RX_leg0_pkts, FLW_RX_leg1_pkts, FLW_RX_leg0_seq_err, FLW_RX_leg1_seq_err, FLW_RX_late, FLW_RX_discard, FLW_RX_e_o, FLW_RX_recentres, SDI_IN_ST_state, SDI_IN_ST_lost, SDI_IN_ST_cause, SDI_IN_STICKY_lost, SDI_IN_LOSS_losses, SDI_IN_AUD_grp_present, INK_SURF_writing] ++ fieldsOf [MAC_CNT0, MAC_TXQ]) d e ∧
    (running (fMac mac) d = false ∨ linkUp mac d = false → rd MAC_CNT0_runt [mac] e = rd MAC_CNT0_runt [mac] d ∧ rd MAC_CNT0_oversize [mac] e = rd MAC_CNT0_oversize [mac] d ∧
      rd MAC_CNT0_fcs_err [mac] e = rd MAC_CNT0_fcs_err [mac] d ∧ rd MAC_CNT0_pause_rx [mac] e = rd MAC_CNT0_pause_rx [mac] d ∧ e.macs = d.macs) ∧
    (running (fMac mac) d = true → linkUp mac d = true →
      (frame.len < 64 → rd MAC_CNT0_runt [mac] e = min (2 ^ MAC_CNT0_runt.w - 1) (rd MAC_CNT0_runt [mac] d + 1) ∧
        rd MAC_CNT0_oversize [mac] e = rd MAC_CNT0_oversize [mac] d ∧ rd MAC_CNT0_fcs_err [mac] e = rd MAC_CNT0_fcs_err [mac] d ∧ e.macs = d.macs) ∧
      (64 ≤ frame.len → rd MAC_CFG_max_frame [mac] d < frame.len → rd MAC_CNT0_oversize [mac] e = min (2 ^ MAC_CNT0_oversize.w - 1) (rd MAC_CNT0_oversize [mac] d + 1) ∧
        rd MAC_CNT0_runt [mac] e = rd MAC_CNT0_runt [mac] d ∧ rd MAC_CNT0_fcs_err [mac] e = rd MAC_CNT0_fcs_err [mac] d ∧ e.macs = d.macs) ∧
      (64 ≤ frame.len → frame.len ≤ rd MAC_CFG_max_frame [mac] d → frame.bad = true →
        rd MAC_CNT0_fcs_err [mac] e = min (2 ^ MAC_CNT0_fcs_err.w - 1) (rd MAC_CNT0_fcs_err [mac] d + 1) ∧ rd MAC_CNT0_runt [mac] e = rd MAC_CNT0_runt [mac] d ∧ e.macs = d.macs) ∧
      (∀ quanta, 64 ≤ frame.len → frame.len ≤ rd MAC_CFG_max_frame [mac] d → frame.bad = false → frame.body = .control 1 quanta →
        frame.dmac = pauseAddr ∨ frame.dmac = rd MAC_ADDR_addr [mac] d →
        rd MAC_CNT0_pause_rx [mac] e = min (2 ^ MAC_CNT0_pause_rx.w - 1) (rd MAC_CNT0_pause_rx [mac] d + 1) ∧ rd MAC_STICKY_pause_seen [mac] e = 1 ∧ Fired 133 d e ∧
        (rdB MAC_PAUSE_pause_en [mac] d = false → rd MAC_STATUS_paused [mac] e = rd MAC_STATUS_paused [mac] d) ∧
        (rdB MAC_PAUSE_pause_en [mac] d = true → quanta = 0 → rdB MAC_STATUS_paused [mac] e = false) ∧
        (rdB MAC_PAUSE_pause_en [mac] d = true → quanta ≠ 0 → rdB MAC_STATUS_paused [mac] e = true ∧
          (macRun mac e).pauseEnd = d.devTime + quanta * 512 * secUnits / portRate mac d)))))

/-- A transmit entry that is not valid, has no destination or has nothing to send does nothing, nor does it in safe state; an audio entry sends each
packet two sample periods after its last sample, its sequence number one above the last. A receive entry that is not valid or not acquired
releases nothing; an audio flow releases at its base plus its delay. An opaque flow from which nothing came for two periods is lost: the bits are
set and FS0144 fires. A membership report that is owed comes at its instant and counts where its link is up. After a first packet whose number is
kept, the extension of a 16-bit sequence number s is congruent to s modulo 2^16 and lies within 2^15 of the previous extended number on the same
leg plus 1, the earlier value being taken at a tie; all modulo 2^32. -/
def Obligations.MediaFlows : Prop :=
  ((∀ entry, Carried (.packetOffer entry) (fun d e =>
    Changes [.ntw, .devTime, .blt, .flw, .macs] (firing ++ [MAC_STATUS_ts_level, MAC_STATUS_fw_q_level, MAC_STICKY_pause_ovf, FLW_TX_sending, FLW_TX_leg0_pkts, FLW_TX_leg1_pkts, FLW_TX_leg0_drops, FLW_TX_leg1_drops, FLW_TX_seq, FLW_TX_ts] ++ fieldsOf [MAC_TXQ]) d e ∧
    (dstAt (txRun entry d).dst d = none ∨ rdB FLW_TX_valid [entry] d = false ∨ inSafe d = true → Unchanged d e) ∧
    (∀ x, dstAt (txRun entry d).dst d = some x → rdB FLW_TX_valid [entry] d = true → inSafe d = false →
      (isAudio (txRun entry d).desc.kind = false → (txRun entry d).frames = [] → Unchanged d e) ∧
      (isAudio (txRun entry d).desc.kind = true → (txRun entry d).audio = 0 → Unchanged d e) ∧
      (isAudio (txRun entry d).desc.kind = true → (txRun entry d).audio ≠ 0 →
        Comes (unitsOfNib ((txRun entry d).audio * txSpp (txRun entry d).desc * samplePeriod x.rate + 2 * samplePeriod x.rate)) d e ∧
        (txRun entry e).audio = (txRun entry d).audio + 1 ∧ (txRun entry e).sent = true ∧
        ((txRun entry d).sent = true → rd FLW_TX_seq [entry] e = (rd FLW_TX_seq [entry] d + 1) % 2 ^ FLW_TX_seq.w))))) ∧
  (∀ entry, Carried (.packetRelease entry) (fun d e =>
    Changes [.ntw, .devTime, .blt, .xpt, .ink, .flw, .macs, .sdi, .aud] (firing ++ [XPT_SSL_ST_lost, XPT_SSL_ST_e_nib, XPT_DST_ST_lost, XPT_DST_CNT_losses, MAC_STATUS_ts_level, MAC_STATUS_fw_q_level, MAC_STICKY_pause_ovf, FLW_STATUS_flow_lost, FLW_STATUS_leg_lost, FLW_STATUS_content, FLW_RX_lost, FLW_RX_leg0_ok, FLW_RX_leg1_ok, FLW_RX_missing, FLW_RX_discard, FLW_TX_leg0_pkts, FLW_TX_leg1_pkts, FLW_TX_leg0_drops, FLW_TX_leg1_drops, FLW_TX_seq, FLW_TX_ts, SDI_IN_PSID_psid, SDI_IN_ARR_e, SDI_IN_SKEW_skew, SDI_IN_LOSS_losses, SDI_IN_AUD_grp_present, INK_STATUS_anc_drop, INK_CNT_anc_drop, INK_SURF_wr_buf, INK_SURF_last_buf, INK_SURF_writing, INK_SURF_lines_written, INK_SURF_frame] ++ fieldsOf [MAC_TXQ, FLW_LOSS_CNT, FLW_LAST, SDI_IN_ST, SDI_IN_DET, SDI_IN_STICKY, SDI_IN_CNT0, SDI_IN_CNT1, SDI_IN_CNT2, GTH_PEAK]) d e ∧
    ((rxRun entry d).acquired = false ∨ rdB FLW_RX_valid [entry] d = false → Unchanged d e) ∧
    ((rxRun entry d).acquired = true → rdB FLW_RX_valid [entry] d = true → isPicture (rxRun entry d).desc.kind = false → isAudio (rxRun entry d).desc.kind = true →
      Comes (unitsOfNib ((rxRun entry d).base + rxDelay (rxRun entry d).desc d)) d e))) ∧
  (∀ entry, Carried (.opaqueFlowTimeout entry) (fun d e =>
    Changes [.ntw, .devTime, .blt, .xpt, .flw, .aud] (firing ++ [XPT_SSL_ST_lost, XPT_DST_ST_lost, XPT_DST_CNT_losses, FLW_STATUS_flow_lost, FLW_LOSS_CNT_flows, FLW_RX_lost, FLW_RX_leg0_ok, FLW_RX_leg1_ok, INK_SURF_writing] ++ fieldsOf [FLW_LAST, GTH_PEAK]) d e ∧
    ((rxRun entry d).desc.kind ≠ 5 ∨ rdB FLW_RX_lost [entry] d = true ∨ rdB FLW_RX_valid [entry] d = false → Unchanged d e) ∧
    ((rxRun entry d).desc.kind = 5 → rdB FLW_RX_lost [entry] d = false → rdB FLW_RX_valid [entry] d = true →
      Comes (unitsOfNib ((rxRun entry d).arrived + 2 * rxPeriod (rxRun entry d).desc d)) d e ∧ rd FLW_RX_lost [entry] e = 1 ∧ rd FLW_STATUS_flow_lost [] e = 1 ∧ Fired 144 d e))) ∧
  (∀ dst, Carried (.opaqueMarkerTimeout dst) (fun d e =>
    Changes [.ntw, .devTime, .xpt] [] d e ∧
    ((dstRun dst d).opaqueOld = none → Unchanged d e) ∧ (∀ x, (dstRun dst d).opaqueOld = some x →
      Comes x.2 d e ∧ (dstRun dst e).opaqueOld = none ∧ (dstRun dst e).opaqueWait = true) ∧ (∀ k, k ≠ dst → dstRun k e = dstRun k d))) ∧
  (∀ report, Carried (.reportRepeat report) (fun d e =>
    Changes [.ntw, .devTime, .flw] [FLW_MEMB_reports] d e ∧
    (d.flw.memb[report]? = none → Unchanged d e) ∧ (∀ m, d.flw.memb[report]? = some m →
      (m.left = 0 → Unchanged d e) ∧
      (m.left ≠ 0 → Passes m.nextAt d e ∧
        rd FLW_MEMB_reports [] e = if linkUp m.mac d then min (2 ^ FLW_MEMB_reports.w - 1) (rd FLW_MEMB_reports [] d + 1) else rd FLW_MEMB_reports [] d))))) ∧
  (∀ q v : Nat, v < 65536 → extendSeq none v = v ∧ ∀ x, x = extendSeq (some q) v → x < 2 ^ 32 ∧ x % 65536 = v ∧
  ∃ near : Int, -32768 ≤ near ∧ near < 32768 ∧ ((x : Int) - ((q : Int) + 1 + near)) % 4294967296 = 0)

/-- A read through the window leaves every byte behind it as it was. A write changes only the bytes its addresses name, and a byte of the back buffer
of an overlay that waits for no flip holds what was written; a master that may not ask, or may not use the window, changes none. A flip asked for
waits, and is carried out at the next frame boundary of the head's running family, which exchanges the buffers; every other head keeps its front
buffer. -/
def Obligations.WindowAndOverlays : Prop :=
  (∀ master off size bytes, Carried (.bar2Access master off size bytes) (fun d e =>
    Changes [.blt, .ink, .drams] (firing ++ [INK_STATUS_win_busy, DRC_STATUS_sub, DRC_SR_CNT_wakes, ICN_STATUS_dflt, ICN_ERR_ADDR_offset, ICN_CNT0_dflt] ++ fieldsOf [ICN_ERR_INFO]) d e ∧
    (bytes = none → e.ink.bytes = d.ink.bytes) ∧
    (canAsk master d = false → e.ink = d.ink) ∧ (master = 3 ∨ (master = 5 ∧ d.nv.testOpen = false) → e.ink = d.ink) ∧
    (∀ bs, bytes = some bs →
      (∀ k, (∀ b w, b ∈ bs → bar2Target (off + b.1) d ≠ some (k, w)) → tabGet 0 e.ink.bytes k = tabGet 0 d.ink.bytes k) ∧
      (∀ o v k, bs = [(o, v)] → canAsk master d = true → master < 3 ∨ master = 4 → bar2Target (off + o) d = some (k, true) →
        rdB INK_OVL_pending [rd INK_WIN_head [(off + o) / 33554432 % 32] d] d = false → tabGet 0 e.ink.bytes k = v % 256)))) ∧
  (∀ head, Carried (.flip head) (fun d e =>
    Changes [] [INK_OVL_pending] d e ∧
    rd INK_OVL_pending [head] e = 1 ∧ (∀ k < 16, rd INK_OVL_front [k] e = rd INK_OVL_front [k] d) ∧ (∀ k < 16, k ≠ head → rd INK_OVL_pending [k] e = rd INK_OVL_pending [k] d))) ∧
  (∀ head, Carried (.overlayExchange head) (fun d e =>
    Changes [.ntw, .devTime, .lastAt] [INK_OVL_pending, INK_OVL_front] d e ∧
    (∀ fam, fam = rd QLT_HEAD_FMT_fam [head] d →
      (rdB INK_OVL_pending [head] d = false ∨ famRunning fam d = false → Unchanged d e) ∧
      (rdB INK_OVL_pending [head] d = true → famRunning fam d = true →
        Comes (nextGrid (famPeriod fam d) 0 (60 + head) d) d e ∧ rd INK_OVL_pending [head] e = 0 ∧
        rd INK_OVL_front [head] e = (1 - rd INK_OVL_front [head] d) % 2 ^ INK_OVL_front.w)) ∧
    (∀ k < 16, k ≠ head → rd INK_OVL_front [k] e = rd INK_OVL_front [k] d)))

/-- A capture asked for while one is under way fails with FS0165 and leaves that one; one of an invalid surface ends at once with an error; a started
one is busy until its picture is stored, and then done. The stored picture is the only part of the memory behind the window that changes. A frame
synchroniser that is not used, belongs to a head, or whose family does not run gives no frame; another gives its frame at the next instant of its
output grid. -/
def Obligations.CapturesAndSynchronisers : Prop :=
  (∀ picture surf, Carried (.captureStart picture surf) (fun d e =>
    Changes [.blt, .ink] (firing ++ [INK_STATUS_cap_err, INK_CAP_CTRL_picture, INK_CAP_CTRL_surf, INK_CAP_ST_busy, INK_CAP_ST_done, INK_CAP_ST_err]) d e ∧
    (rdB INK_CAP_ST_busy [] d = true → rd INK_STATUS_cap_err [] e = 1 ∧ Fired 165 d e ∧ e.ink = d.ink ∧ rdB INK_CAP_ST_busy [] e = true) ∧
    (rdB INK_CAP_ST_busy [] d = false → surfValid surf { d with out := [] } = false →
      rd INK_CAP_ST_busy [] e = 0 ∧ rd INK_CAP_ST_err [] e = 1 ∧ e.ink.cap = none ∧ rd INK_STATUS_cap_err [] e = 1 ∧ Fired 165 d e) ∧
    e.ink.bytes = d.ink.bytes)) ∧
  (Carried .captureDone (fun d e =>
    Changes [.blt, .ink] (firing ++ [INK_STATUS_cap_err] ++ fieldsOf [INK_CAP_ST]) d e ∧
    (d.ink.cap = none → Unchanged d e) ∧ (∀ c, d.ink.cap = some c → c.frame = none → Unchanged d e) ∧
    (∀ c fr, d.ink.cap = some c → c.frame = some fr → e.ink.cap = none ∧ rd INK_CAP_ST_busy [] e = 0 ∧
      (rd INK_CAP_ST_done [] e = 1 ∨ rd INK_CAP_ST_err [] e = 1)) ∧
    (∀ k < 4294967296, tabGet 0 e.ink.bytes k = tabGet 0 d.ink.bytes k))) ∧
  (∀ slot reads, Carried (.syncOutputFrame slot reads) (fun d e =>
    Changes [.ntw, .devTime, .lastSecond, .lastAt, .blt, .xpt, .ink, .drams, .sea, .health] (firing ++ [DUC_FAM_STATUS_state, XPT_SSL_ST_lost, XPT_DST_ST_lost, XPT_DST_CNT_losses, LNS_OCT_STATUS_state, MAC_STATUS_state, INK_STATUS_cap_err, INK_CAP_ST_busy, INK_CAP_ST_err, INK_SURF_wr_buf, INK_SURF_last_buf, INK_SURF_writing, INK_SURF_lines_written, INK_SYNC_dv, INK_SYNC_drops, INK_SYNC_repeats, INK_SYNC_av_offset, DRC_STATUS_state, DRC_STATUS_sub, DRC_STATUS_train_step, DRC_STATUS_failed_cause, DRC_INFO_cap_mib, DRC_STICKY_failed, DRC_STICKY_ue, DRC_STICKY_ce_thr, DRC_LAST_UE_addr, QLT_HEAD_STATUS_state, GTH_STATUS_state, APT_TDM_STATUS_state, APT_AIN_STATUS_state, APT_AOUT_STATUS_state, SEA_LINK_ST_state] ++ fieldsOf [DRC_ECC_CNT]) d e ∧
    (reads = [] → ∀ r p, r = syncRun slot d → p = famPeriod r.fam d →
      (syncValid slot d = false ∨ r.head = true ∨ famRunning r.fam d = false → Unchanged d e) ∧
      (syncValid slot d = true → r.head = false → famRunning r.fam d = true →
        Comes (nextGrid p (((r.doNib : Int) - linePeriod (fmtOf r.fmt d) p - 1920) % (max 1 p : Nat)).toNat (keySync slot) d) d e))))

/-- Training goes on by its sub-steps to RUNNING at the seventh; one that fails ends in FAILED with FS0178, and in a stopping channel the end of a
sub-step stops it. A new target speed shows as pending on a running channel. A stopping channel on which nothing is placed stops. An idle channel
with self-refresh enabled begins to enter it when its time has passed; once in, it is counted, and wakes again where a wake waits; a wake that
completes makes it active. Refresh temperatures show, a first high one firing FS0181; a scrub comes at its instant and counts its errors; a
fixed-delay channel moves each bit by at most one step a reading and 16 in all. -/
def Obligations.DramChannels : Prop :=
  (∀ ch obs, Carried (.trainingSubstepEnd ch obs) (fun d e =>
    Changes [.blt, .drams, .health] (firing ++ [DUC_FAM_STATUS_state, LNS_OCT_STATUS_state, MAC_STATUS_state, DRC_STATUS_state, DRC_STATUS_sub, DRC_STATUS_speed, DRC_STATUS_train_step, DRC_STATUS_failed_cause, DRC_INFO_cap_mib, DRC_STICKY_start_err, DRC_LAST_TRAIN_ntw, QLT_HEAD_STATUS_state, GTH_STATUS_state, APT_TDM_STATUS_state, APT_AIN_STATUS_state, APT_AOUT_STATUS_state, SEA_LINK_ST_state] ++ fieldsOf [DRC_DLY_DQ, DRC_DLY_DQS, DRC_DLY_CA]) d e ∧
    (∀ st step, st = funcState (fDram ch) d → step = rd DRC_STATUS_train_step [ch] d →
      (step = 0 ∨ (st ≠ 1 ∧ st ≠ 3) → Unchanged d e) ∧
      (step ≠ 0 → st = 3 → funcState (fDram ch) e = 0) ∧
      (step ≠ 0 → st = 1 → (dramRun ch d).restart = true → rd DRC_STATUS_train_step [ch] e = 1 ∧ (dramRun ch e).restart = false) ∧
      (step ≠ 0 → st = 1 → (dramRun ch d).restart = false → obs.failed = true →
        funcState (fDram ch) e = 4 ∧ rd DRC_STATUS_failed_cause [ch] e = 1 ∧ rd DRC_STICKY_start_err [ch] e = 1 ∧ Fired 178 d e) ∧
      (step ≠ 0 → st = 1 → (dramRun ch d).restart = false → obs.failed = false → obs.stepDone = true →
        (step = 7 → funcState (fDram ch) e = 2 ∧ rd DRC_STATUS_train_step [ch] e = 0) ∧
        (step ≠ 7 → funcState (fDram ch) e = 1 ∧ rd DRC_STATUS_train_step [ch] e = if isFixed ch d then 7 else (step + 1) % 2 ^ DRC_STATUS_train_step.w))))) ∧
  (∀ ch target, Carried (.speedTargetWrite ch target) (fun d e =>
    Changes [.drams] [DRC_STATUS_speed, DRC_STATUS_target_pending, DRC_STATUS_train_step, DRC_SPEED_target] d e ∧
    rd DRC_SPEED_target [ch] e = target % 2 ^ DRC_SPEED_target.w ∧
    (funcState (fDram ch) d = 2 → rdB DRC_STATUS_target_pending [ch] e = (target != rd DRC_STATUS_speed [ch] d)))) ∧
  (∀ ch, Carried (.channelStopped ch) (fun d e =>
    Changes [.drams, .health] [DUC_FAM_STATUS_state, LNS_OCT_STATUS_state, MAC_STATUS_state, DRC_STATUS_state, DRC_STATUS_sub, DRC_STATUS_train_step, DRC_INFO_cap_mib, QLT_HEAD_STATUS_state, GTH_STATUS_state, APT_TDM_STATUS_state, APT_AIN_STATUS_state, APT_AOUT_STATUS_state, SEA_LINK_ST_state] d e ∧
    (∀ stops, stops = (decide (funcState (fDram ch) d = 3 ∧ rd DRC_STATUS_train_step [ch] d = 0) && !placedOn ch d) →
      (stops = true → funcState (fDram ch) e = 0) ∧ (stops = false → Unchanged d e)))) ∧
  (∀ ch drift, Carried (.driftTracking ch drift) (fun d e =>
    Changes [.blt, .drams] (firing ++ [DRC_STICKY_drift_limit, DRC_MARGIN_drift, DRC_DLY_DQ_wr]) d e ∧
    (isFixed ch d = false ∨ running (fDram ch) d = false → Unchanged d e) ∧
    (isFixed ch d = true → running (fDram ch) d = true → ∀ b < 80,
      tabGet 0 (dramRun ch e).moves b =
        ofSigned 16 (clampI (-16) 16 (toSigned 16 (tabGet 0 (dramRun ch d).moves b) + clampI (-1) 1 (drift.getD b 0)))))) ∧
  (∀ ch, Carried (.idleTimeout ch) (fun d e =>
    Changes [.ntw, .devTime, .drams] [DRC_STATUS_sub] d e ∧
    (∀ idle, idle = (dramActive ch d && rdB DRC_SR_sr_en [ch] d && !placedOn ch d && !captureOn ch d) →
      (idle = false → Unchanged d e) ∧
      (idle = true → Passes ((dramRun ch d).idleFrom + rd DRC_SR_idle_us [ch] d * usUnits) d e ∧
        ((dramRun ch d).pauseAt = 0 → rd DRC_STATUS_sub [ch] e = 1) ∧ ((dramRun ch d).pauseAt ≠ 0 → (dramRun ch e).idlePending = true))))) ∧
  (∀ ch, Carried (.selfRefreshEntered ch) (fun d e =>
    Changes [.drams] ([DRC_STATUS_sub] ++ fieldsOf [DRC_SR_CNT]) d e ∧
    (running (fDram ch) d = false ∨ rd DRC_STATUS_sub [ch] d ≠ 1 → Unchanged d e) ∧
    (running (fDram ch) d = true → rd DRC_STATUS_sub [ch] d = 1 →
      rd DRC_SR_CNT_entries [ch] e = min (2 ^ DRC_SR_CNT_entries.w - 1) (rd DRC_SR_CNT_entries [ch] d + 1) ∧
      rd DRC_STATUS_sub [ch] e = if (dramRun ch d).wakePending then 3 else 2))) ∧
  (∀ ch lanes, Carried (.wakeComplete ch lanes) (fun d e =>
    Changes [.blt, .ink, .drams, .health] (firing ++ [DUC_FAM_STATUS_state, LNS_OCT_STATUS_state, MAC_STATUS_state, INK_STATUS_cap_err, INK_CAP_ST_busy, INK_CAP_ST_err, INK_SURF_writing, DRC_STATUS_state, DRC_STATUS_sub, DRC_STATUS_degraded, DRC_STATUS_fail_count, DRC_STATUS_train_step, DRC_STATUS_failed_cause, DRC_INFO_cap_mib, DRC_STICKY_retrain_fail, DRC_STICKY_failed, DRC_MARGIN_rd_min, DRC_MARGIN_wr_min, DRC_LAST_TRAIN_ntw, DRC_DLY_DQ_rd, DRC_DLY_DQ_wr, QLT_HEAD_STATUS_state, GTH_STATUS_state, APT_TDM_STATUS_state, APT_AIN_STATUS_state, APT_AOUT_STATUS_state, SEA_LINK_ST_state] ++ fieldsOf [DRC_CNT]) d e ∧
    (running (fDram ch) d = false ∨ rd DRC_STATUS_sub [ch] d ≠ 3 → Unchanged d e) ∧
    (running (fDram ch) d = true → rd DRC_STATUS_sub [ch] d = 3 → isFixed ch d = true ∨ maskOk lanes = true →
      rd DRC_STATUS_sub [ch] e = 0 ∧ (dramRun ch e).idleFrom = d.devTime))) ∧
  (∀ ch ce ues, Carried (.patrolScrub ch ce ues) (fun d e =>
    Changes [.ntw, .devTime, .lastSecond, .blt, .ink, .drams, .health] (firing ++ [DUC_FAM_STATUS_state, LNS_OCT_STATUS_state, MAC_STATUS_state, INK_STATUS_cap_err, INK_CAP_ST_busy, INK_CAP_ST_err, INK_SURF_writing, DRC_STATUS_state, DRC_STATUS_sub, DRC_STATUS_train_step, DRC_STATUS_failed_cause, DRC_INFO_cap_mib, DRC_STICKY_failed, DRC_STICKY_ue, DRC_STICKY_ce_thr, DRC_LAST_UE_addr, QLT_HEAD_STATUS_state, GTH_STATUS_state, APT_TDM_STATUS_state, APT_AIN_STATUS_state, APT_AOUT_STATUS_state, SEA_LINK_ST_state] ++ fieldsOf [DRC_ECC_CNT]) d e ∧
    (dramActive ch d = false → Unchanged d e) ∧ (dramActive ch d = true → Passes (dramRun ch d).scrubAt d e ∧
      rd DRC_ECC_CNT_ce [ch] e = min (2 ^ DRC_ECC_CNT_ce.w - 1) (rd DRC_ECC_CNT_ce [ch] d + ce) ∧ (ues ≠ [] → rd DRC_STICKY_ue [ch] e = 1)))) ∧
  (∀ ch rates high, Carried (.refreshRateRead ch rates high) (fun d e =>
    Changes [.blt] (firing ++ [DRC_STICKY_temp_high] ++ fieldsOf [DRC_TEMP]) d e ∧
    (running (fDram ch) d = false → Unchanged d e) ∧ (running (fDram ch) d = true → rdB DRC_TEMP_high [ch] e = high ∧
      (high = true → rdB DRC_TEMP_high [ch] d = false → rd DRC_STICKY_temp_high [ch] e = 1 ∧ Fired 181 d e))))

/-- A valid frame at an unlocked running AES input begins its acquisition; the third invalid frame in a row at a locked one, or the loss of its
clock, ends its lock and fires FS0208; an invalid frame at a master TDM port does nothing. A port or Gather that stops is stopped when its time
has passed. A gain written while Gather runs joins its queue of 16,384, or sets the queue-full bit and fires FS0225; written otherwise it is the
node's gain at once and no other node's. A biquad coefficient reads as written, and the last of five gives the section its new set. -/
def Obligations.AudioPortsAndGather : Prop :=
  (∀ port frame, Carried (.portFrame port frame) (fun d e =>
    Changes [.lastSecond, .blt, .xpt, .apt, .journal] (firing ++ [XPT_SSL_ST_lost, XPT_DST_ST_lost, XPT_DST_CNT_losses, INK_SURF_writing, APT_TDM_STATUS_rx_lock, APT_TDM_STATUS_tx_lock, APT_TDM_STATUS_mask_pending, APT_TDM_STATUS_ramping, APT_TDM_STATUS_rx_fill, APT_TDM_STATUS_tx_fill, APT_TDM_RXMASK_ACT_mask, APT_TDM_TXMASK_ACT_mask, APT_TDM_FREQ_freq, APT_TDM_STICKY_lost, APT_TDM_STICKY_slip, APT_TDM_STICKY_fsync_err, APT_TDM_STICKY_rate_mis, APT_TDM_STICKY_npcm_slip, APT_TDM_NPCM_pairs, APT_AIN_STATUS_lock, APT_AIN_STATUS_npcm, APT_AIN_STATUS_ramping, APT_AIN_STATUS_fill, APT_AIN_FREQ_freq, APT_AIN_CS_block, APT_AIN_STICKY_lost, APT_AIN_STICKY_slip, APT_AIN_STICKY_fsync_err, APT_AIN_STICKY_parity, APT_AIN_STICKY_cs_crc, APT_AIN_STICKY_rate_mis, APT_AIN_STICKY_npcm_slip] ++ fieldsOf [APT_STATUS, APT_TDM_CNT0, APT_TDM_CNT1, APT_AIN_CNT0, APT_AIN_CNT1]) d e ∧
    (portMaster port d = true → frame.valid = false → Unchanged d e) ∧
    (8 ≤ port → running (portFunc port) d = true →
      (frame.valid = true → sideState port d = 0 → sideState port e = 1) ∧
      (frame.valid = false → 2 ≤ (side port d).invalid → sideState port d = 2 → sideState port e = 0 ∧ Fired 208 d e)))) ∧
  (∀ port, Carried (.portClockLoss port) (fun d e =>
    Changes [.blt, .xpt, .apt] (firing ++ [XPT_SSL_ST_lost, XPT_DST_ST_lost, XPT_DST_CNT_losses, INK_SURF_writing, APT_TDM_STATUS_rx_lock, APT_TDM_STATUS_tx_lock, APT_TDM_STATUS_ramping, APT_TDM_STATUS_rx_fill, APT_TDM_STATUS_tx_fill, APT_TDM_FREQ_freq, APT_TDM_STICKY_lost, APT_TDM_CNT1_losses, APT_AIN_STATUS_lock, APT_AIN_STATUS_ramping, APT_AIN_STATUS_fill, APT_AIN_FREQ_freq, APT_AIN_STICKY_lost, APT_AIN_CNT1_losses] ++ fieldsOf [APT_STATUS]) d e ∧
    (portMaster port d = true → Unchanged d e) ∧
    (8 ≤ port → running (portFunc port) d = true → sideState port d = 1 ∨ sideState port d = 2 →
      sideState port e = 0 ∧ (sideState port d = 2 → Fired 208 d e)))) ∧
  (∀ port, Carried (.portStopComplete port) (fun d e =>
    Changes [.ntw, .devTime, .blt, .xpt, .apt, .health] (firing ++ [DUC_FAM_STATUS_state, XPT_SSL_ST_lost, XPT_DST_ST_lost, XPT_DST_CNT_losses, LNS_OCT_STATUS_state, MAC_STATUS_state, INK_SURF_writing, DRC_STATUS_state, QLT_HEAD_STATUS_state, GTH_STATUS_state, APT_TDM_FREQ_freq, APT_AIN_STATUS_state, APT_AIN_STATUS_lock, APT_AIN_STATUS_ramping, APT_AIN_STATUS_fill, APT_AIN_FREQ_freq, APT_AOUT_STATUS_state, SEA_LINK_ST_state] ++ fieldsOf [APT_TDM_STATUS]) d e ∧
    (funcState (portFunc port) d ≠ 3 → Unchanged d e) ∧
    (funcState (portFunc port) d = 3 → Passes (tabGet 0 d.apt.stopping port - 1 + 5 * msUnits) d e ∧ funcState (portFunc port) e = 0))) ∧
  (∀ node word, Carried (.gainWrite node word) (fun d e =>
    Changes [.blt, .gth] (firing ++ [GTH_STICKY_q_full] ++ fieldsOf [GTH_QUEUE]) d e ∧
    (funcState fGather d = 2 → d.gth.queue.length < 16384 → e.gth.queue = d.gth.queue ++ [(node, word % 2 ^ 28)] ∧ e.gth.gains = d.gth.gains) ∧
    (funcState fGather d = 2 → 16384 ≤ d.gth.queue.length → e.gth = d.gth ∧ rd GTH_STICKY_q_full [] e = 1 ∧ Fired 225 d e) ∧
    (funcState fGather d ≠ 2 → e.gth.queue = d.gth.queue ∧ tabGet 0 e.gth.gains node = word % 2 ^ 28 ∧
      ∀ k, k ≠ node → tabGet 0 e.gth.gains k = tabGet 0 d.gth.gains k))) ∧
  (∀ output biquad coef word, Carried (.biquadCoefficientWrite output biquad coef word) (fun d e =>
    Changes [.gth] [GTH_BQ_coef] d e ∧
    rd GTH_BQ_coef [output, biquad, coef] e = word % 2 ^ GTH_BQ_coef.w ∧ (coef ≠ 4 → e.gth = d.gth) ∧
    (coef = 4 → tabGet [] e.gth.bqPend (4 * output + biquad) = (List.range 5).map (fun k => rd GTH_BQ_coef [output, biquad, k] e)))) ∧
  (Carried .gatherStopComplete (fun d e =>
    Changes [.ntw, .devTime, .gth, .health] [DUC_FAM_STATUS_state, LNS_OCT_STATUS_state, MAC_STATUS_state, DRC_STATUS_state, QLT_HEAD_STATUS_state, GTH_STATUS_state, APT_TDM_STATUS_state, APT_AIN_STATUS_state, APT_AOUT_STATUS_state, SEA_LINK_ST_state] d e ∧
    (funcState fGather d ≠ 3 → Unchanged d e) ∧
    (funcState fGather d = 3 → Passes (d.gth.stopAt + 5 * msUnits) d e ∧ funcState fGather e = 0 ∧ e.gth.nodes = [] ∧ e.gth.outs = [] ∧ e.gth.ins = [])))

/-- A link that does not run takes no frame and sends none, and a lane without lock takes none; a frame of another version than 1 changes nothing of
the link. One that names another member or link as its partner shows the lane miswired and fires FS0242 once. Frames go out at the multiples of
52,920 nib. A training frame counts only on a lane in training: an answered request whose wish is not met yet is followed by the next one. A lane
that the partner receives again is used again from the next frame instant 423,360 nib after. -/
def Obligations.SeamFramesAndLanes : Prop :=
  (∀ link lane frame, Carried (.seamFrame link lane frame) (fun d e =>
    Changes [.lastSecond, .blt, .xpt, .ink, .sea] (firing ++ [XPT_STATUS_not_exec, XPT_NX_tag, XPT_NX_CNT_count, XPT_MBX_RES_state, XPT_MBX_RES_code, XPT_SSL_ST_lost, XPT_DST_ST_lost, XPT_DST_CNT_losses, LNS_SYMERR_corrected, INK_STATUS_anc_drop, INK_CNT_anc_drop, INK_SURF_wr_buf, INK_SURF_last_buf, INK_SURF_writing, INK_SURF_lines_written, INK_SURF_frame, SEA_STATUS_takeover, SEA_STATUS_two_masters, SEA_STATUS_twin_down, SEA_LINK_ST_up, SEA_LINK_ST_rx_ok, SEA_LINK_ST_time_valid, SEA_LINK_ST_upstream, SEA_LINK_ST_digest_ok, SEA_LINK_DELAY_delay, SEA_LINK_STICKY_lane_lost, SEA_LINK_STICKY_down, SEA_LINK_STICKY_miswire, SEA_LINK_STICKY_skew, SEA_LINK_STICKY_cw_unc, SEA_LINK_CNT1_lane_drops] ++ fieldsOf [SEA_TIME, SEA_LINK_PARTNER, SEA_LINK_CNT0]) d e ∧
    (running (fSeam link) d = false ∨ rdB LNS_STATUS_lock [linkLane link lane d] d = false → e.sea = d.sea ∧ rd SEA_LINK_CNT0_cw_corr [link] e = rd SEA_LINK_CNT0_cw_corr [link] d) ∧
    (running (fSeam link) d = true → rdB LNS_STATUS_lock [linkLane link lane d] d = true →
      (frame.ctl = none → e.sea = d.sea ∧ rd SEA_LINK_CNT0_cw_corr [link] e = min (2 ^ SEA_LINK_CNT0_cw_corr.w - 1) (rd SEA_LINK_CNT0_cw_corr [link] d + frame.corrected)) ∧
      (∀ c, frame.ctl = some c → c.version ≠ 1 → e.sea = d.sea) ∧
      (∀ c, frame.ctl = some c → c.version = 1 → c.member ≠ linkPeer link d ∨ c.link ≠ rd SEA_LINK_CFG_partner_link [link] d →
        (seaLane link lane d).miswired = false → rd SEA_LINK_STICKY_miswire [link] e = 1 ∧ Fired 242 d e)))) ∧
  (∀ link, Carried (.seamFrameTransmit link) (fun d e =>
    Changes [.ntw, .devTime, .lastAt, .blt, .xpt, .sea, .health] (firing ++ [XPT_SSL_ST_lost, XPT_DST_ST_lost, XPT_DST_CNT_losses, INK_SURF_writing, SEA_STATUS_twin_down, SEA_TIME_hop, SEA_TIME_upstream, SEA_TIME_up_valid, SEA_LINK_ST_up, SEA_LINK_ST_rx_ok, SEA_LINK_ST_tx_lanes, SEA_LINK_ST_time_valid, SEA_LINK_ST_upstream, SEA_LINK_ST_digest_ok, SEA_LINK_STICKY_down, SEA_LINK_STICKY_anc_drop] ++ fieldsOf [SEA_LINK_CNT2]) d e ∧
    (running (fSeam link) d = false → Unchanged d e) ∧ (running (fSeam link) d = true → Comes (nextGrid 52920 0 (1024 + link) d) d e))) ∧
  (∀ link lane frame, Carried (.trainingFrame link lane frame) (fun d e =>
    Changes [.sea] ([LNS_STATUS_train] ++ fieldsOf [LNS_TX_TAP_ACT]) d e ∧
    (∀ live, live = (running (fSeam link) d && rdB LNS_STATUS_lock [linkLane link lane d] d && rd LNS_STATUS_train [linkLane link lane d] d == 2) →
      (live = false → Unchanged d e) ∧
      (live = true → frame.req = none → frame.status = none → (seaLane link lane d).answered = true → frame.want.ready = false →
        (seaLane link lane e).readyTx = 0 ∧ (seaLane link lane e).reqId = ((seaLane link lane d).reqId + 1) % 256 ∧ (seaLane link lane e).answered = false)))) ∧
  (∀ link lane, Carried (.laneRejoin link lane) (fun d e =>
    Changes [.ntw, .devTime, .blt, .xpt, .sea, .health] (firing ++ [XPT_SSL_ST_lost, XPT_DST_ST_lost, XPT_DST_CNT_losses, INK_SURF_writing, SEA_STATUS_twin_down, SEA_TIME_hop, SEA_TIME_upstream, SEA_TIME_up_valid, SEA_LINK_ST_up, SEA_LINK_ST_rx_ok, SEA_LINK_ST_tx_lanes, SEA_LINK_ST_time_valid, SEA_LINK_ST_upstream, SEA_LINK_ST_digest_ok, SEA_LINK_STICKY_down, SEA_LINK_CNT1_rejoins]) d e ∧
    (∀ off, off = (!running (fSeam link) d || inSafe d || (seaLane link lane d).rejoinAt == 0 || !Nat.testBit (seaLink link d).peerOk lane ||
        Nat.testBit (rd SEA_LINK_ST_tx_lanes [link] d) lane) →
      (off = true → Unchanged d e) ∧
      (off = false → Comes (unitsOfNib (ceilDiv (seaLane link lane d).rejoinAt 52920 * 52920)) d e ∧ Nat.testBit (rd SEA_LINK_ST_tx_lanes [link] e) lane = true))))

/-- Every message on a running link is acknowledged. One whose number has been taken before does nothing else, and one ahead of the number awaited is
held, with nothing done of it yet; registers, placements and stitches stay. An acknowledgement removes the messages it names. A message not
acknowledged for 20 us is sent again, counted, and after 17 sendings the link gives up its lanes: the sticky bit is set and FS0250 fires. A link
that does not run takes none. -/
def Obligations.SeamMessages : Prop :=
  (∀ link num input, Carried (.forward link num input) (fun d e =>
    Changes [.ntw, .devTime, .blt, .xpt, .ink, .drams, .flw, .qlt, .aud, .gth, .sea, .tlr, .health] (firing ++ [DUC_STATUS_late, DUC_STATUS_deferred, DUC_STATUS_ann_short, DUC_STATUS_fabric_missed, DUC_LATE_CNT_late, DUC_NEXT_L_ntw, DUC_FAM_STATUS_state, XPT_STATUS_refused, XPT_STATUS_not_exec, XPT_SEQ_seq, XPT_NX_tag, XPT_NX_CNT_count, XPT_MBX_A_ntw, XPT_MBX_L_ntw, XPT_DST_ST_slot, XPT_DST_ST_gang, XPT_DST_ST_sync, XPT_DST_ST_conv, TLR_STATUS_refused, TLR_STATUS_flow_refused, TLR_STATUS_pin_missed, TLR_STATUS_mig_abort, TLR_STATUS_unplaced, TLR_EPOCH_epoch, TLR_MIG_CNT_aborted, TLR_PIN_missed, TLR_DST_MAP_sync, TLR_DST_MAP_conv, TLR_DST_MAP_conv_head, TLR_DST_MAP_spine, TLR_DST_MAP_spine_valid, TLR_DST_MAP_unplaced, TLR_DST_MAP_pinned_miss, TLR_DST_MAP_ink_ch, TLR_DST_MAP_ink_bank, TLR_DST_MAP_hold_ch, TLR_DST_MAP_hold_valid, TLR_DST_MAP_tx_count, TLR_DST_MAP_tx_entry, TLR_DST_MAP_rx_entry, TLR_DST_MAP_epoch, LNS_OCT_STATUS_state, MAC_STATUS_state, FLW_POOL_used, FLW_BKT_ways, INK_STATUS_cap_err, INK_STATUS_audio_absent, INK_CAP_ST_busy, INK_CAP_ST_err, DRC_STATUS_state, DRC_STATUS_sub, DRC_SR_CNT_wakes, QLT_STATUS_undrawn, QLT_STATUS_fb, QLT_STATUS_commit_ref, QLT_HEAD_CTRL_en, QLT_HEAD_STATUS_state, QLT_HEAD_STATUS_gang_role, QLT_HEAD_FMT_fmt, QLT_HEAD_FMT_fam, QLT_HEAD_FMT_cspace, QLT_HEAD_FMT_gang, QLT_SH_CFG_en, QLT_SH_CFG_z, QLT_SH_CFG_filter, QLT_SH_CFG_field, QLT_SH_CFG_bank, QLT_SH_CFG_prog, QLT_SH_CFG_alpha_mode, QLT_SH_CFG_lost_mode, QLT_SH_CFG_ovl, QLT_SH_ALPHA_alpha, QLT_SH_METER_count, QLT_AC_CFG_en, QLT_AC_CFG_z, QLT_AC_CFG_filter, QLT_AC_CFG_field, QLT_AC_CFG_bank, QLT_AC_CFG_prog, QLT_AC_CFG_alpha_mode, QLT_AC_CFG_lost_mode, QLT_AC_CFG_ovl, QLT_AC_ALPHA_alpha, QLT_AC_METER_count, QLT_LAYER_ST_mode, QLT_LAYER_ST_fallback, GTH_STATUS_state, GTH_IN_dst, GTH_IN_ch, GTH_IN_valid, GTH_SRC_CH_rate, GTH_SRC_CH_producer, GTH_SRC_CH_index, GTH_SRC_CH_source, GTH_DST_CH_dst, GTH_DST_CH_index, APT_TDM_STATUS_state, APT_AIN_STATUS_state, APT_AOUT_STATUS_state, SEA_STATUS_mismatch, SEA_STATUS_takeover, SEA_CMD_ST_resync_fail, SEA_CMD_ST_handover_done, SEA_DIGEST_CNT_mismatches, SEA_LINK_ST_state, SEA_LINK_ST_upstream, SEA_LINK_ST_digest_ok] ++ fieldsOf [DUC_QUEUE, DUC_ANN_ST, XPT_MBX_RES, XPT_STITCH, XPT_SSL_ST, TLR_LAST_REF, TLR_FLOW_REF, FLW_MEMB, FLW_RX, FLW_TX, INK_SURF, INK_SYNC, QLT_SH_SRC, QLT_SH_CROP_XY, QLT_SH_CROP_WH, QLT_SH_RECT_XY, QLT_SH_RECT_WH, QLT_SH_BORDER, QLT_AC_SRC, QLT_AC_CROP_XY, QLT_AC_CROP_WH, QLT_AC_RECT_XY, QLT_AC_RECT_WH, QLT_AC_BORDER, QLT_LAYER_RES, GTH_PEAK, SEA_TIME]) d e ∧
    (running (fSeam link) d = false → Unchanged d e) ∧
    (running (fSeam link) d = true → ∀ k ahead, k = seaLink link d → ahead = (num + 65536 - k.nextRx) % 65536 →
      (32768 ≤ ahead → seaLink link e = { k with acks := if k.acks.contains num then k.acks else k.acks ++ [num] } ∧ e.tlr = d.tlr ∧ e.xpt = d.xpt ∧ e.regs = d.regs) ∧
      (ahead ≠ 0 → ahead < 32768 → k.ahead = [] → (seaLink link e).ahead = [(num, SeaBody.forward input)] ∧ (seaLink link e).nextRx = k.nextRx ∧ num ∈ (seaLink link e).acks ∧
        e.tlr = d.tlr ∧ e.xpt = d.xpt ∧ e.regs = d.regs)))) ∧
  (∀ link num index instant input, Carried (.announce link num index instant input) (fun d e =>
    Changes [.ntw, .devTime, .blt, .xpt, .ink, .drams, .flw, .qlt, .aud, .gth, .sea, .tlr, .health] (firing ++ [DUC_STATUS_late, DUC_STATUS_deferred, DUC_STATUS_ann_short, DUC_STATUS_fabric_missed, DUC_LATE_CNT_late, DUC_NEXT_L_ntw, DUC_FAM_STATUS_state, XPT_STATUS_refused, XPT_STATUS_not_exec, XPT_SEQ_seq, XPT_NX_tag, XPT_NX_CNT_count, XPT_MBX_A_ntw, XPT_MBX_L_ntw, XPT_DST_ST_slot, XPT_DST_ST_gang, XPT_DST_ST_sync, XPT_DST_ST_conv, TLR_STATUS_refused, TLR_STATUS_flow_refused, TLR_STATUS_pin_missed, TLR_STATUS_mig_abort, TLR_STATUS_unplaced, TLR_EPOCH_epoch, TLR_MIG_CNT_aborted, TLR_PIN_missed, TLR_DST_MAP_sync, TLR_DST_MAP_conv, TLR_DST_MAP_conv_head, TLR_DST_MAP_spine, TLR_DST_MAP_spine_valid, TLR_DST_MAP_unplaced, TLR_DST_MAP_pinned_miss, TLR_DST_MAP_ink_ch, TLR_DST_MAP_ink_bank, TLR_DST_MAP_hold_ch, TLR_DST_MAP_hold_valid, TLR_DST_MAP_tx_count, TLR_DST_MAP_tx_entry, TLR_DST_MAP_rx_entry, TLR_DST_MAP_epoch, LNS_OCT_STATUS_state, MAC_STATUS_state, FLW_POOL_used, FLW_BKT_ways, INK_STATUS_cap_err, INK_STATUS_audio_absent, INK_CAP_ST_busy, INK_CAP_ST_err, DRC_STATUS_state, DRC_STATUS_sub, DRC_SR_CNT_wakes, QLT_STATUS_undrawn, QLT_STATUS_fb, QLT_STATUS_commit_ref, QLT_HEAD_CTRL_en, QLT_HEAD_STATUS_state, QLT_HEAD_STATUS_gang_role, QLT_HEAD_FMT_fmt, QLT_HEAD_FMT_fam, QLT_HEAD_FMT_cspace, QLT_HEAD_FMT_gang, QLT_SH_CFG_en, QLT_SH_CFG_z, QLT_SH_CFG_filter, QLT_SH_CFG_field, QLT_SH_CFG_bank, QLT_SH_CFG_prog, QLT_SH_CFG_alpha_mode, QLT_SH_CFG_lost_mode, QLT_SH_CFG_ovl, QLT_SH_ALPHA_alpha, QLT_SH_METER_count, QLT_AC_CFG_en, QLT_AC_CFG_z, QLT_AC_CFG_filter, QLT_AC_CFG_field, QLT_AC_CFG_bank, QLT_AC_CFG_prog, QLT_AC_CFG_alpha_mode, QLT_AC_CFG_lost_mode, QLT_AC_CFG_ovl, QLT_AC_ALPHA_alpha, QLT_AC_METER_count, QLT_LAYER_ST_mode, QLT_LAYER_ST_fallback, GTH_STATUS_state, GTH_IN_dst, GTH_IN_ch, GTH_IN_valid, GTH_SRC_CH_rate, GTH_SRC_CH_producer, GTH_SRC_CH_index, GTH_SRC_CH_source, GTH_DST_CH_dst, GTH_DST_CH_index, APT_TDM_STATUS_state, APT_AIN_STATUS_state, APT_AOUT_STATUS_state, SEA_STATUS_mismatch, SEA_STATUS_takeover, SEA_CMD_ST_resync_fail, SEA_CMD_ST_handover_done, SEA_DIGEST_CNT_mismatches, SEA_LINK_ST_state, SEA_LINK_ST_upstream, SEA_LINK_ST_digest_ok] ++ fieldsOf [DUC_QUEUE, DUC_ANN_ST, XPT_MBX_RES, XPT_STITCH, XPT_SSL_ST, TLR_LAST_REF, TLR_FLOW_REF, FLW_MEMB, FLW_RX, FLW_TX, INK_SURF, INK_SYNC, QLT_SH_SRC, QLT_SH_CROP_XY, QLT_SH_CROP_WH, QLT_SH_RECT_XY, QLT_SH_RECT_WH, QLT_SH_BORDER, QLT_AC_SRC, QLT_AC_CROP_XY, QLT_AC_CROP_WH, QLT_AC_RECT_XY, QLT_AC_RECT_WH, QLT_AC_BORDER, QLT_LAYER_RES, GTH_PEAK, SEA_TIME]) d e ∧
    (running (fSeam link) d = false → Unchanged d e) ∧
    (running (fSeam link) d = true → ∀ k ahead, k = seaLink link d → ahead = (num + 65536 - k.nextRx) % 65536 →
      (32768 ≤ ahead → seaLink link e = { k with acks := if k.acks.contains num then k.acks else k.acks ++ [num] } ∧ e.tlr = d.tlr ∧ e.xpt = d.xpt ∧ e.regs = d.regs) ∧
      (ahead ≠ 0 → ahead < 32768 → k.ahead = [] → (seaLink link e).ahead = [(num, SeaBody.announce index instant input)] ∧ (seaLink link e).nextRx = k.nextRx ∧ num ∈ (seaLink link e).acks ∧
        e.tlr = d.tlr ∧ e.xpt = d.xpt ∧ e.regs = d.regs)))) ∧
  (∀ link num index, Carried (.request link num index) (fun d e =>
    Changes [.ntw, .devTime, .blt, .xpt, .ink, .drams, .flw, .qlt, .aud, .gth, .sea, .tlr, .health] (firing ++ [DUC_STATUS_late, DUC_STATUS_deferred, DUC_STATUS_ann_short, DUC_STATUS_fabric_missed, DUC_LATE_CNT_late, DUC_NEXT_L_ntw, DUC_FAM_STATUS_state, XPT_STATUS_refused, XPT_STATUS_not_exec, XPT_SEQ_seq, XPT_NX_tag, XPT_NX_CNT_count, XPT_MBX_A_ntw, XPT_MBX_L_ntw, XPT_DST_ST_slot, XPT_DST_ST_gang, XPT_DST_ST_sync, XPT_DST_ST_conv, TLR_STATUS_refused, TLR_STATUS_flow_refused, TLR_STATUS_pin_missed, TLR_STATUS_mig_abort, TLR_STATUS_unplaced, TLR_EPOCH_epoch, TLR_MIG_CNT_aborted, TLR_PIN_missed, TLR_DST_MAP_sync, TLR_DST_MAP_conv, TLR_DST_MAP_conv_head, TLR_DST_MAP_spine, TLR_DST_MAP_spine_valid, TLR_DST_MAP_unplaced, TLR_DST_MAP_pinned_miss, TLR_DST_MAP_ink_ch, TLR_DST_MAP_ink_bank, TLR_DST_MAP_hold_ch, TLR_DST_MAP_hold_valid, TLR_DST_MAP_tx_count, TLR_DST_MAP_tx_entry, TLR_DST_MAP_rx_entry, TLR_DST_MAP_epoch, LNS_OCT_STATUS_state, MAC_STATUS_state, FLW_POOL_used, FLW_BKT_ways, INK_STATUS_cap_err, INK_STATUS_audio_absent, INK_CAP_ST_busy, INK_CAP_ST_err, DRC_STATUS_state, DRC_STATUS_sub, DRC_SR_CNT_wakes, QLT_STATUS_undrawn, QLT_STATUS_fb, QLT_STATUS_commit_ref, QLT_HEAD_CTRL_en, QLT_HEAD_STATUS_state, QLT_HEAD_STATUS_gang_role, QLT_HEAD_FMT_fmt, QLT_HEAD_FMT_fam, QLT_HEAD_FMT_cspace, QLT_HEAD_FMT_gang, QLT_SH_CFG_en, QLT_SH_CFG_z, QLT_SH_CFG_filter, QLT_SH_CFG_field, QLT_SH_CFG_bank, QLT_SH_CFG_prog, QLT_SH_CFG_alpha_mode, QLT_SH_CFG_lost_mode, QLT_SH_CFG_ovl, QLT_SH_ALPHA_alpha, QLT_SH_METER_count, QLT_AC_CFG_en, QLT_AC_CFG_z, QLT_AC_CFG_filter, QLT_AC_CFG_field, QLT_AC_CFG_bank, QLT_AC_CFG_prog, QLT_AC_CFG_alpha_mode, QLT_AC_CFG_lost_mode, QLT_AC_CFG_ovl, QLT_AC_ALPHA_alpha, QLT_AC_METER_count, QLT_LAYER_ST_mode, QLT_LAYER_ST_fallback, GTH_STATUS_state, GTH_IN_dst, GTH_IN_ch, GTH_IN_valid, GTH_SRC_CH_rate, GTH_SRC_CH_producer, GTH_SRC_CH_index, GTH_SRC_CH_source, GTH_DST_CH_dst, GTH_DST_CH_index, APT_TDM_STATUS_state, APT_AIN_STATUS_state, APT_AOUT_STATUS_state, SEA_STATUS_mismatch, SEA_STATUS_takeover, SEA_CMD_ST_resync_fail, SEA_CMD_ST_handover_done, SEA_DIGEST_CNT_mismatches, SEA_LINK_ST_state, SEA_LINK_ST_upstream, SEA_LINK_ST_digest_ok] ++ fieldsOf [DUC_QUEUE, DUC_ANN_ST, XPT_MBX_RES, XPT_STITCH, XPT_SSL_ST, TLR_LAST_REF, TLR_FLOW_REF, FLW_MEMB, FLW_RX, FLW_TX, INK_SURF, INK_SYNC, QLT_SH_SRC, QLT_SH_CROP_XY, QLT_SH_CROP_WH, QLT_SH_RECT_XY, QLT_SH_RECT_WH, QLT_SH_BORDER, QLT_AC_SRC, QLT_AC_CROP_XY, QLT_AC_CROP_WH, QLT_AC_RECT_XY, QLT_AC_RECT_WH, QLT_AC_BORDER, QLT_LAYER_RES, GTH_PEAK, SEA_TIME]) d e ∧
    (running (fSeam link) d = false → Unchanged d e) ∧
    (running (fSeam link) d = true → ∀ k ahead, k = seaLink link d → ahead = (num + 65536 - k.nextRx) % 65536 →
      (32768 ≤ ahead → seaLink link e = { k with acks := if k.acks.contains num then k.acks else k.acks ++ [num] } ∧ e.tlr = d.tlr ∧ e.xpt = d.xpt ∧ e.regs = d.regs) ∧
      (ahead ≠ 0 → ahead < 32768 → k.ahead = [] → (seaLink link e).ahead = [(num, SeaBody.request index)] ∧ (seaLink link e).nextRx = k.nextRx ∧ num ∈ (seaLink link e).acks ∧
        e.tlr = d.tlr ∧ e.xpt = d.xpt ∧ e.regs = d.regs)))) ∧
  (∀ link num value instant, Carried (.digest link num value instant) (fun d e =>
    Changes [.ntw, .devTime, .blt, .xpt, .ink, .drams, .flw, .qlt, .aud, .gth, .sea, .tlr, .health] (firing ++ [DUC_STATUS_late, DUC_STATUS_deferred, DUC_STATUS_ann_short, DUC_STATUS_fabric_missed, DUC_LATE_CNT_late, DUC_NEXT_L_ntw, DUC_FAM_STATUS_state, XPT_STATUS_refused, XPT_STATUS_not_exec, XPT_SEQ_seq, XPT_NX_tag, XPT_NX_CNT_count, XPT_MBX_A_ntw, XPT_MBX_L_ntw, XPT_DST_ST_slot, XPT_DST_ST_gang, XPT_DST_ST_sync, XPT_DST_ST_conv, TLR_STATUS_refused, TLR_STATUS_flow_refused, TLR_STATUS_pin_missed, TLR_STATUS_mig_abort, TLR_STATUS_unplaced, TLR_EPOCH_epoch, TLR_MIG_CNT_aborted, TLR_PIN_missed, TLR_DST_MAP_sync, TLR_DST_MAP_conv, TLR_DST_MAP_conv_head, TLR_DST_MAP_spine, TLR_DST_MAP_spine_valid, TLR_DST_MAP_unplaced, TLR_DST_MAP_pinned_miss, TLR_DST_MAP_ink_ch, TLR_DST_MAP_ink_bank, TLR_DST_MAP_hold_ch, TLR_DST_MAP_hold_valid, TLR_DST_MAP_tx_count, TLR_DST_MAP_tx_entry, TLR_DST_MAP_rx_entry, TLR_DST_MAP_epoch, LNS_OCT_STATUS_state, MAC_STATUS_state, FLW_POOL_used, FLW_BKT_ways, INK_STATUS_cap_err, INK_STATUS_audio_absent, INK_CAP_ST_busy, INK_CAP_ST_err, DRC_STATUS_state, DRC_STATUS_sub, DRC_SR_CNT_wakes, QLT_STATUS_undrawn, QLT_STATUS_fb, QLT_STATUS_commit_ref, QLT_HEAD_CTRL_en, QLT_HEAD_STATUS_state, QLT_HEAD_STATUS_gang_role, QLT_HEAD_FMT_fmt, QLT_HEAD_FMT_fam, QLT_HEAD_FMT_cspace, QLT_HEAD_FMT_gang, QLT_SH_CFG_en, QLT_SH_CFG_z, QLT_SH_CFG_filter, QLT_SH_CFG_field, QLT_SH_CFG_bank, QLT_SH_CFG_prog, QLT_SH_CFG_alpha_mode, QLT_SH_CFG_lost_mode, QLT_SH_CFG_ovl, QLT_SH_ALPHA_alpha, QLT_SH_METER_count, QLT_AC_CFG_en, QLT_AC_CFG_z, QLT_AC_CFG_filter, QLT_AC_CFG_field, QLT_AC_CFG_bank, QLT_AC_CFG_prog, QLT_AC_CFG_alpha_mode, QLT_AC_CFG_lost_mode, QLT_AC_CFG_ovl, QLT_AC_ALPHA_alpha, QLT_AC_METER_count, QLT_LAYER_ST_mode, QLT_LAYER_ST_fallback, GTH_STATUS_state, GTH_IN_dst, GTH_IN_ch, GTH_IN_valid, GTH_SRC_CH_rate, GTH_SRC_CH_producer, GTH_SRC_CH_index, GTH_SRC_CH_source, GTH_DST_CH_dst, GTH_DST_CH_index, APT_TDM_STATUS_state, APT_AIN_STATUS_state, APT_AOUT_STATUS_state, SEA_STATUS_mismatch, SEA_STATUS_takeover, SEA_CMD_ST_resync_fail, SEA_CMD_ST_handover_done, SEA_DIGEST_CNT_mismatches, SEA_LINK_ST_state, SEA_LINK_ST_upstream, SEA_LINK_ST_digest_ok] ++ fieldsOf [DUC_QUEUE, DUC_ANN_ST, XPT_MBX_RES, XPT_STITCH, XPT_SSL_ST, TLR_LAST_REF, TLR_FLOW_REF, FLW_MEMB, FLW_RX, FLW_TX, INK_SURF, INK_SYNC, QLT_SH_SRC, QLT_SH_CROP_XY, QLT_SH_CROP_WH, QLT_SH_RECT_XY, QLT_SH_RECT_WH, QLT_SH_BORDER, QLT_AC_SRC, QLT_AC_CROP_XY, QLT_AC_CROP_WH, QLT_AC_RECT_XY, QLT_AC_RECT_WH, QLT_AC_BORDER, QLT_LAYER_RES, GTH_PEAK, SEA_TIME]) d e ∧
    (running (fSeam link) d = false → Unchanged d e) ∧
    (running (fSeam link) d = true → ∀ k ahead, k = seaLink link d → ahead = (num + 65536 - k.nextRx) % 65536 →
      (32768 ≤ ahead → seaLink link e = { k with acks := if k.acks.contains num then k.acks else k.acks ++ [num] } ∧ e.tlr = d.tlr ∧ e.xpt = d.xpt ∧ e.regs = d.regs) ∧
      (ahead ≠ 0 → ahead < 32768 → k.ahead = [] → (seaLink link e).ahead = [(num, SeaBody.digest value instant)] ∧ (seaLink link e).nextRx = k.nextRx ∧ num ∈ (seaLink link e).acks ∧
        e.tlr = d.tlr ∧ e.xpt = d.xpt ∧ e.regs = d.regs)))) ∧
  (∀ link num choices seqs, Carried (.twinSync link num choices seqs) (fun d e =>
    Changes [.ntw, .devTime, .blt, .xpt, .ink, .drams, .flw, .qlt, .aud, .gth, .sea, .tlr, .health] (firing ++ [DUC_STATUS_late, DUC_STATUS_deferred, DUC_STATUS_ann_short, DUC_STATUS_fabric_missed, DUC_LATE_CNT_late, DUC_NEXT_L_ntw, DUC_FAM_STATUS_state, XPT_STATUS_refused, XPT_STATUS_not_exec, XPT_SEQ_seq, XPT_NX_tag, XPT_NX_CNT_count, XPT_MBX_A_ntw, XPT_MBX_L_ntw, XPT_DST_ST_slot, XPT_DST_ST_gang, XPT_DST_ST_sync, XPT_DST_ST_conv, TLR_STATUS_refused, TLR_STATUS_flow_refused, TLR_STATUS_pin_missed, TLR_STATUS_mig_abort, TLR_STATUS_unplaced, TLR_EPOCH_epoch, TLR_MIG_CNT_aborted, TLR_PIN_missed, TLR_DST_MAP_sync, TLR_DST_MAP_conv, TLR_DST_MAP_conv_head, TLR_DST_MAP_spine, TLR_DST_MAP_spine_valid, TLR_DST_MAP_unplaced, TLR_DST_MAP_pinned_miss, TLR_DST_MAP_ink_ch, TLR_DST_MAP_ink_bank, TLR_DST_MAP_hold_ch, TLR_DST_MAP_hold_valid, TLR_DST_MAP_tx_count, TLR_DST_MAP_tx_entry, TLR_DST_MAP_rx_entry, TLR_DST_MAP_epoch, LNS_OCT_STATUS_state, MAC_STATUS_state, FLW_POOL_used, FLW_BKT_ways, INK_STATUS_cap_err, INK_STATUS_audio_absent, INK_CAP_ST_busy, INK_CAP_ST_err, DRC_STATUS_state, DRC_STATUS_sub, DRC_SR_CNT_wakes, QLT_STATUS_undrawn, QLT_STATUS_fb, QLT_STATUS_commit_ref, QLT_HEAD_CTRL_en, QLT_HEAD_STATUS_state, QLT_HEAD_STATUS_gang_role, QLT_HEAD_FMT_fmt, QLT_HEAD_FMT_fam, QLT_HEAD_FMT_cspace, QLT_HEAD_FMT_gang, QLT_SH_CFG_en, QLT_SH_CFG_z, QLT_SH_CFG_filter, QLT_SH_CFG_field, QLT_SH_CFG_bank, QLT_SH_CFG_prog, QLT_SH_CFG_alpha_mode, QLT_SH_CFG_lost_mode, QLT_SH_CFG_ovl, QLT_SH_ALPHA_alpha, QLT_SH_METER_count, QLT_AC_CFG_en, QLT_AC_CFG_z, QLT_AC_CFG_filter, QLT_AC_CFG_field, QLT_AC_CFG_bank, QLT_AC_CFG_prog, QLT_AC_CFG_alpha_mode, QLT_AC_CFG_lost_mode, QLT_AC_CFG_ovl, QLT_AC_ALPHA_alpha, QLT_AC_METER_count, QLT_LAYER_ST_mode, QLT_LAYER_ST_fallback, GTH_STATUS_state, GTH_IN_dst, GTH_IN_ch, GTH_IN_valid, GTH_SRC_CH_rate, GTH_SRC_CH_producer, GTH_SRC_CH_index, GTH_SRC_CH_source, GTH_DST_CH_dst, GTH_DST_CH_index, APT_TDM_STATUS_state, APT_AIN_STATUS_state, APT_AOUT_STATUS_state, SEA_STATUS_mismatch, SEA_STATUS_takeover, SEA_CMD_ST_resync_fail, SEA_CMD_ST_handover_done, SEA_DIGEST_CNT_mismatches, SEA_LINK_ST_state, SEA_LINK_ST_upstream, SEA_LINK_ST_digest_ok] ++ fieldsOf [DUC_QUEUE, DUC_ANN_ST, XPT_MBX_RES, XPT_STITCH, XPT_SSL_ST, TLR_LAST_REF, TLR_FLOW_REF, FLW_MEMB, FLW_RX, FLW_TX, INK_SURF, INK_SYNC, QLT_SH_SRC, QLT_SH_CROP_XY, QLT_SH_CROP_WH, QLT_SH_RECT_XY, QLT_SH_RECT_WH, QLT_SH_BORDER, QLT_AC_SRC, QLT_AC_CROP_XY, QLT_AC_CROP_WH, QLT_AC_RECT_XY, QLT_AC_RECT_WH, QLT_AC_BORDER, QLT_LAYER_RES, GTH_PEAK, SEA_TIME]) d e ∧
    (running (fSeam link) d = false → Unchanged d e) ∧
    (running (fSeam link) d = true → ∀ k ahead, k = seaLink link d → ahead = (num + 65536 - k.nextRx) % 65536 →
      (32768 ≤ ahead → seaLink link e = { k with acks := if k.acks.contains num then k.acks else k.acks ++ [num] } ∧ e.tlr = d.tlr ∧ e.xpt = d.xpt ∧ e.regs = d.regs) ∧
      (ahead ≠ 0 → ahead < 32768 → k.ahead = [] → (seaLink link e).ahead = [(num, SeaBody.twin choices seqs)] ∧ (seaLink link e).nextRx = k.nextRx ∧ num ∈ (seaLink link e).acks ∧
        e.tlr = d.tlr ∧ e.xpt = d.xpt ∧ e.regs = d.regs)))) ∧
  (∀ link num image, Carried (.state link num image) (fun d e =>
    Changes [.ntw, .devTime, .blt, .xpt, .ink, .drams, .flw, .qlt, .aud, .gth, .sea, .tlr, .health] (firing ++ [DUC_STATUS_late, DUC_STATUS_deferred, DUC_STATUS_ann_short, DUC_STATUS_fabric_missed, DUC_LATE_CNT_late, DUC_NEXT_L_ntw, DUC_FAM_STATUS_state, XPT_STATUS_refused, XPT_STATUS_not_exec, XPT_SEQ_seq, XPT_NX_tag, XPT_NX_CNT_count, XPT_MBX_A_ntw, XPT_MBX_L_ntw, XPT_DST_ST_slot, XPT_DST_ST_gang, XPT_DST_ST_sync, XPT_DST_ST_conv, TLR_STATUS_refused, TLR_STATUS_flow_refused, TLR_STATUS_pin_missed, TLR_STATUS_mig_abort, TLR_STATUS_unplaced, TLR_EPOCH_epoch, TLR_MIG_CNT_aborted, TLR_PIN_missed, TLR_DST_MAP_sync, TLR_DST_MAP_conv, TLR_DST_MAP_conv_head, TLR_DST_MAP_spine, TLR_DST_MAP_spine_valid, TLR_DST_MAP_unplaced, TLR_DST_MAP_pinned_miss, TLR_DST_MAP_ink_ch, TLR_DST_MAP_ink_bank, TLR_DST_MAP_hold_ch, TLR_DST_MAP_hold_valid, TLR_DST_MAP_tx_count, TLR_DST_MAP_tx_entry, TLR_DST_MAP_rx_entry, TLR_DST_MAP_epoch, LNS_OCT_STATUS_state, MAC_STATUS_state, FLW_POOL_used, FLW_BKT_ways, INK_STATUS_cap_err, INK_STATUS_audio_absent, INK_CAP_ST_busy, INK_CAP_ST_err, DRC_STATUS_state, DRC_STATUS_sub, DRC_SR_CNT_wakes, QLT_STATUS_undrawn, QLT_STATUS_fb, QLT_STATUS_commit_ref, QLT_HEAD_CTRL_en, QLT_HEAD_STATUS_state, QLT_HEAD_STATUS_gang_role, QLT_HEAD_FMT_fmt, QLT_HEAD_FMT_fam, QLT_HEAD_FMT_cspace, QLT_HEAD_FMT_gang, QLT_SH_CFG_en, QLT_SH_CFG_z, QLT_SH_CFG_filter, QLT_SH_CFG_field, QLT_SH_CFG_bank, QLT_SH_CFG_prog, QLT_SH_CFG_alpha_mode, QLT_SH_CFG_lost_mode, QLT_SH_CFG_ovl, QLT_SH_ALPHA_alpha, QLT_SH_METER_count, QLT_AC_CFG_en, QLT_AC_CFG_z, QLT_AC_CFG_filter, QLT_AC_CFG_field, QLT_AC_CFG_bank, QLT_AC_CFG_prog, QLT_AC_CFG_alpha_mode, QLT_AC_CFG_lost_mode, QLT_AC_CFG_ovl, QLT_AC_ALPHA_alpha, QLT_AC_METER_count, QLT_LAYER_ST_mode, QLT_LAYER_ST_fallback, GTH_STATUS_state, GTH_IN_dst, GTH_IN_ch, GTH_IN_valid, GTH_SRC_CH_rate, GTH_SRC_CH_producer, GTH_SRC_CH_index, GTH_SRC_CH_source, GTH_DST_CH_dst, GTH_DST_CH_index, APT_TDM_STATUS_state, APT_AIN_STATUS_state, APT_AOUT_STATUS_state, SEA_STATUS_mismatch, SEA_STATUS_takeover, SEA_CMD_ST_resync_fail, SEA_CMD_ST_handover_done, SEA_DIGEST_CNT_mismatches, SEA_LINK_ST_state, SEA_LINK_ST_upstream, SEA_LINK_ST_digest_ok] ++ fieldsOf [DUC_QUEUE, DUC_ANN_ST, XPT_MBX_RES, XPT_STITCH, XPT_SSL_ST, TLR_LAST_REF, TLR_FLOW_REF, FLW_MEMB, FLW_RX, FLW_TX, INK_SURF, INK_SYNC, QLT_SH_SRC, QLT_SH_CROP_XY, QLT_SH_CROP_WH, QLT_SH_RECT_XY, QLT_SH_RECT_WH, QLT_SH_BORDER, QLT_AC_SRC, QLT_AC_CROP_XY, QLT_AC_CROP_WH, QLT_AC_RECT_XY, QLT_AC_RECT_WH, QLT_AC_BORDER, QLT_LAYER_RES, GTH_PEAK, SEA_TIME]) d e ∧
    (running (fSeam link) d = false → Unchanged d e) ∧
    (running (fSeam link) d = true → ∀ k ahead, k = seaLink link d → ahead = (num + 65536 - k.nextRx) % 65536 →
      (32768 ≤ ahead → seaLink link e = { k with acks := if k.acks.contains num then k.acks else k.acks ++ [num] } ∧ e.tlr = d.tlr ∧ e.xpt = d.xpt ∧ e.regs = d.regs) ∧
      (ahead ≠ 0 → ahead < 32768 → k.ahead = [] → (seaLink link e).ahead = [(num, (match image with | some i => SeaBody.state i | none => SeaBody.stateReq))] ∧ (seaLink link e).nextRx = k.nextRx ∧ num ∈ (seaLink link e).acks ∧
        e.tlr = d.tlr ∧ e.xpt = d.xpt ∧ e.regs = d.regs)))) ∧
  (∀ link nums, Carried (.ack link nums) (fun d e =>
    Changes [.sea] [] d e ∧
    (running (fSeam link) d = false → Unchanged d e) ∧
    (running (fSeam link) d = true → seaLink link e = { seaLink link d with unacked := (seaLink link d).unacked.filter (fun m => !nums.contains m.num) }))) ∧
  (∀ link, Carried (.messageResend link) (fun d e =>
    Changes [.ntw, .devTime, .blt, .xpt, .sea] (firing ++ [XPT_SSL_ST_lost, XPT_DST_ST_lost, XPT_DST_CNT_losses, INK_SURF_writing, SEA_STATUS_twin_down, SEA_TIME_hop, SEA_TIME_upstream, SEA_TIME_up_valid, SEA_LINK_ST_up, SEA_LINK_ST_rx_ok, SEA_LINK_ST_tx_lanes, SEA_LINK_ST_time_valid, SEA_LINK_ST_upstream, SEA_LINK_ST_digest_ok, SEA_LINK_STICKY_down, SEA_LINK_STICKY_msg_fail, SEA_LINK_CNT1_msg_resends]) d e ∧
    ((seaLink link d).unacked = [] → Unchanged d e) ∧ (∀ m rest, (seaLink link d).unacked = m :: rest →
      Passes (m.sentAt + 20 * usUnits) d e ∧
      (m.sent < 17 → rd SEA_LINK_CNT1_msg_resends [link] e = min (2 ^ SEA_LINK_CNT1_msg_resends.w - 1) (rd SEA_LINK_CNT1_msg_resends [link] d + 1) ∧
        (seaLink link e).unacked = rest ∧ (seaLink link e).waiting = { m with left := msgBytes m.body } :: (seaLink link d).waiting) ∧
      (17 ≤ m.sent → rd SEA_LINK_STICKY_msg_fail [link] e = 1 ∧ rd SEA_LINK_ST_tx_lanes [link] e = 0 ∧ Fired 250 d e))))

/-- The standby whose time is set, and which does not act as master, does so once the master has been silent for takeover_ms: FS0247 fires. Any other
member does not. A resynchronisation asked for fails where no way leads to the master, and so does one whose link has gone down before the state
came; the master, a self-acting member and one that asks already ask for nothing. A handover is owed only by an acting standby. Sent time stops
being valid hold_ms after SEAM was last selected. -/
def Obligations.MastersAndResynchronisation : Prop :=
  (Carried .takeover (fun d e =>
    Changes [.ntw, .devTime, .blt, .xpt, .ink, .drams, .flw, .qlt, .aud, .gth, .sea, .tlr, .boot, .health] (firing ++ [TOP_BOOT_ST_phase, TOP_BOOT_ST_restore_src, TOP_ROUTE_SEQ_durable_seq, TOP_STICKY_route_lost, TOP_STICKY_restore_drop, DUC_FAM_STATUS_state, XPT_STATUS_not_exec, XPT_SEQ_seq, XPT_NX_tag, XPT_NX_CNT_count, XPT_MBX_RES_state, XPT_MBX_RES_code, XPT_DST_FMT_fam, XPT_DST_FMT_fmt, XPT_DST_ST_slot, XPT_DST_ST_gang, XPT_DST_ST_on_protect, XPT_DST_ST_sync, XPT_DST_ST_conv, TLR_STATUS_unplaced, TLR_EPOCH_epoch, TLR_DST_MAP_sync, TLR_DST_MAP_conv, TLR_DST_MAP_conv_head, TLR_DST_MAP_spine, TLR_DST_MAP_spine_valid, TLR_DST_MAP_unplaced, TLR_DST_MAP_pinned_miss, TLR_DST_MAP_ink_ch, TLR_DST_MAP_ink_bank, TLR_DST_MAP_hold_ch, TLR_DST_MAP_hold_valid, TLR_DST_MAP_tx_count, TLR_DST_MAP_tx_entry, TLR_DST_MAP_rx_entry, TLR_DST_MAP_epoch, LNS_OCT_STATUS_state, MAC_STATUS_state, FLW_POOL_used, FLW_BKT_ways, INK_STATUS_cap_err, INK_STATUS_audio_absent, INK_CAP_ST_busy, INK_CAP_ST_err, DRC_STATUS_state, DRC_STATUS_sub, DRC_SR_CNT_wakes, QLT_STATUS_undrawn, QLT_STATUS_fb, QLT_HEAD_CTRL_en, QLT_HEAD_STATUS_state, QLT_HEAD_STATUS_gang_role, QLT_HEAD_FMT_fmt, QLT_HEAD_FMT_fam, QLT_HEAD_FMT_cspace, QLT_HEAD_FMT_gang, QLT_SH_CFG_en, QLT_SH_CFG_z, QLT_SH_CFG_filter, QLT_SH_CFG_field, QLT_SH_CFG_bank, QLT_SH_CFG_prog, QLT_SH_CFG_alpha_mode, QLT_SH_CFG_lost_mode, QLT_SH_CFG_ovl, QLT_SH_ALPHA_alpha, QLT_SH_BCOL_colour, QLT_SH_LCOL_colour, QLT_AC_CFG_en, QLT_AC_CFG_z, QLT_AC_CFG_filter, QLT_AC_CFG_field, QLT_AC_CFG_bank, QLT_AC_CFG_prog, QLT_AC_CFG_alpha_mode, QLT_AC_CFG_lost_mode, QLT_AC_CFG_ovl, QLT_AC_ALPHA_alpha, QLT_AC_BCOL_colour, QLT_AC_LCOL_colour, QLT_LAYER_ST_mode, QLT_LAYER_ST_fallback, QLT_LUT1_value, QLT_LUT2_value, QLT_MAT_value, QLT_OFS_value, GTH_STATUS_state, GTH_IN_dst, GTH_IN_ch, GTH_IN_valid, GTH_BQ_coef, GTH_SRC_CH_rate, GTH_SRC_CH_producer, GTH_SRC_CH_index, GTH_SRC_CH_source, GTH_DST_CH_dst, GTH_DST_CH_index, APT_TDM_STATUS_state, APT_TDM_RXMASK_mask, APT_TDM_TXMASK_mask, APT_TDM_RXMASK_ACT_mask, APT_TDM_TXMASK_ACT_mask, APT_AIN_STATUS_state, APT_AOUT_STATUS_state, SEA_STATUS_takeover, SEA_LINK_ST_state, SEA_LINK_ST_upstream] ++ fieldsOf [TOP_ROUTE_CNT, XPT_STITCH, XPT_SSL_ST, XPT_DST_SRC, XPT_DST_POLICY, FLW_MEMB, FLW_RX, FLW_TX, INK_SURF, INK_SYNC, QLT_SH_SRC, QLT_SH_CROP_XY, QLT_SH_CROP_WH, QLT_SH_RECT_XY, QLT_SH_RECT_WH, QLT_SH_BORDER, QLT_SH_METER, QLT_SH_MCH, QLT_AC_SRC, QLT_AC_CROP_XY, QLT_AC_CROP_WH, QLT_AC_RECT_XY, QLT_AC_RECT_WH, QLT_AC_BORDER, QLT_AC_METER, QLT_AC_MCH, QLT_BANK_H, QLT_BANK_V, QLT_BANK_CFG, GTH_OUT_CFG, GTH_PEAK, SEA_TIME]) d e ∧
    (roleOf d ≠ 3 ∨ selfActing d = true ∨ rdB RUL_STATUS_time_set [] d = false → Unchanged d e) ∧
    (roleOf d = 3 → selfActing d = false → rdB RUL_STATUS_time_set [] d = true →
      Passes (d.sea.advancedAt + rd SEA_TIMING_takeover_ms [] d * msUnits) d e ∧ Fired 247 d e ∧
      (rd TOP_BOOT_ST_phase [] d ≠ 10 → selfMember d < 2 ^ SEA_TIME_acting.w → rd SEA_TIME_acting [] e = selfMember d)))) ∧
  (Carried .timeValidExpiry (fun d e =>
    Changes [.ntw, .devTime, .sea] [] d e ∧
    (selfActing d = true ∨ d.sea.sendValid = false ∨ seamSelected d = true → Unchanged d e) ∧
    (selfActing d = false → d.sea.sendValid = true → seamSelected d = false →
      Passes (d.sea.seamAt + rd SEA_TIMING_hold_ms [] d * msUnits) d e ∧ e.sea.sendValid = false))) ∧
  (Carried .resync (fun d e =>
    Changes [.sea] [SEA_CMD_ST_resync_fail] d e ∧
    (roleOf d = 0 ∨ selfActing d = true ∨ d.sea.transfer ≠ 0 → Unchanged d e) ∧
    (roleOf d ≠ 0 → selfActing d = false → d.sea.transfer = 0 →
      (towardsMaster d = none → rd SEA_CMD_ST_resync_fail [] e = 1 ∧ e.sea.transfer = 0) ∧ (∀ up, towardsMaster d = some up → e.sea.transfer = 1)))) ∧
  (Carried .resyncApply (fun d e =>
    Changes [.ntw, .devTime, .blt, .xpt, .ink, .drams, .flw, .qlt, .aud, .gth, .sea, .tlr, .boot, .health] (firing ++ [TOP_BOOT_ST_phase, TOP_BOOT_ST_restore_src, DUC_STATUS_late, DUC_STATUS_deferred, DUC_STATUS_fabric_missed, DUC_LATE_CNT_late, DUC_NEXT_L_ntw, DUC_FAM_STATUS_state, XPT_SEQ_seq, XPT_MBX_A_ntw, XPT_MBX_L_ntw, XPT_DST_FMT_fam, XPT_DST_FMT_fmt, XPT_DST_ST_slot, XPT_DST_ST_gang, XPT_DST_ST_sync, XPT_DST_ST_conv, TLR_STATUS_refused, TLR_STATUS_flow_refused, TLR_STATUS_pin_missed, TLR_STATUS_mig_abort, TLR_STATUS_unplaced, TLR_EPOCH_epoch, TLR_MIG_CNT_aborted, TLR_PIN_missed, TLR_DST_MAP_sync, TLR_DST_MAP_conv, TLR_DST_MAP_conv_head, TLR_DST_MAP_spine, TLR_DST_MAP_spine_valid, TLR_DST_MAP_unplaced, TLR_DST_MAP_pinned_miss, TLR_DST_MAP_ink_ch, TLR_DST_MAP_ink_bank, TLR_DST_MAP_hold_ch, TLR_DST_MAP_hold_valid, TLR_DST_MAP_tx_count, TLR_DST_MAP_tx_entry, TLR_DST_MAP_rx_entry, TLR_DST_MAP_epoch, LNS_OCT_STATUS_state, MAC_STATUS_state, FLW_POOL_used, FLW_BKT_ways, INK_STATUS_cap_err, INK_STATUS_audio_absent, INK_CAP_ST_busy, INK_CAP_ST_err, DRC_STATUS_state, DRC_STATUS_sub, DRC_SR_CNT_wakes, QLT_STATUS_undrawn, QLT_STATUS_fb, QLT_HEAD_CTRL_en, QLT_HEAD_STATUS_state, QLT_HEAD_STATUS_gang_role, QLT_HEAD_FMT_fmt, QLT_HEAD_FMT_fam, QLT_HEAD_FMT_cspace, QLT_HEAD_FMT_gang, QLT_SH_CFG_en, QLT_SH_CFG_z, QLT_SH_CFG_filter, QLT_SH_CFG_field, QLT_SH_CFG_bank, QLT_SH_CFG_prog, QLT_SH_CFG_alpha_mode, QLT_SH_CFG_lost_mode, QLT_SH_CFG_ovl, QLT_SH_ALPHA_alpha, QLT_SH_METER_count, QLT_AC_CFG_en, QLT_AC_CFG_z, QLT_AC_CFG_filter, QLT_AC_CFG_field, QLT_AC_CFG_bank, QLT_AC_CFG_prog, QLT_AC_CFG_alpha_mode, QLT_AC_CFG_lost_mode, QLT_AC_CFG_ovl, QLT_AC_ALPHA_alpha, QLT_AC_METER_count, QLT_LAYER_ST_mode, QLT_LAYER_ST_fallback, GTH_STATUS_state, GTH_IN_dst, GTH_IN_ch, GTH_IN_valid, GTH_SRC_CH_rate, GTH_SRC_CH_producer, GTH_SRC_CH_index, GTH_SRC_CH_source, GTH_DST_CH_dst, GTH_DST_CH_index, APT_TDM_STATUS_state, APT_AIN_STATUS_state, APT_AOUT_STATUS_state, SEA_CMD_ST_resync_done, SEA_CMD_ST_resync_fail, SEA_LINK_ST_state] ++ fieldsOf [DUC_QUEUE, XPT_MBX_RES, XPT_STITCH, XPT_SSL_ST, XPT_DST_SRC, XPT_DST_POLICY, TLR_LAST_REF, TLR_FLOW_REF, FLW_MEMB, FLW_RX, FLW_TX, INK_SURF, INK_SYNC, QLT_SH_SRC, QLT_SH_CROP_XY, QLT_SH_CROP_WH, QLT_SH_RECT_XY, QLT_SH_RECT_WH, QLT_SH_BORDER, QLT_AC_SRC, QLT_AC_CROP_XY, QLT_AC_CROP_WH, QLT_AC_RECT_XY, QLT_AC_RECT_WH, QLT_AC_BORDER, GTH_PEAK]) d e ∧
    (d.sea.transfer = 0 → Unchanged d e) ∧
    (d.sea.transfer ≠ 0 → d.sea.image = none → ∀ gone, gone = ((towardsMaster d).isNone || !rdB SEA_LINK_ST_up [rd SEA_TIME_upstream [] d] d) →
      (gone = true → rd SEA_CMD_ST_resync_fail [] e = 1 ∧ e.sea.transfer = 0) ∧ (gone = false → Unchanged d e)) ∧
    (∀ img, d.sea.transfer ≠ 0 → d.sea.image = some img → img.index + 4096 < d.sea.waits.foldl (fun m x => max m x.1) 0 →
      rd SEA_CMD_ST_resync_fail [] e = 1 ∧ e.sea.transfer = 0 ∧ e.sea.image = none))) ∧
  (Carried .handover (fun d e =>
    Changes [.sea] [] d e ∧
    (roleOf d = 3 → selfActing d = true → e.sea = { d.sea with handover := true }) ∧ (roleOf d ≠ 3 ∨ selfActing d = false → Unchanged d e)))

/-- An attestation takes the nonce and is busy until it is done, or ends with an error once the keys are erased. An offer that passes opens a session
for the slot that is not active, or joins the open one; one that fails the signature fires FS0274, any other failure FS0272, and neither changes
what flash holds. A piece without a session in its state 1 is answered 9. A check that fails ends the session with code 12 and FS0276; one of a
firmware image that passes makes it ready. An abort ends an open session with FS0275, and so does its expiry, which comes 2,592,000 s after its
start by the time that is set. In-band messages are not taken where they are disabled. -/
def Obligations.UpdateSessions : Prop :=
  (Carried .attestationStart (fun d e =>
    Changes [.boot] (fieldsOf [THM_ATT_ST]) d e ∧
    (rdB THM_ATT_ST_busy [] d = true → Unchanged d e) ∧
    (rdB THM_ATT_ST_busy [] d = false → rd THM_ATT_ST_busy [] e = 1 ∧ rd THM_ATT_ST_done [] e = 0 ∧ rd THM_ATT_ST_err [] e = 0 ∧
      e.boot.nonce = some ((List.range 12).foldl (fun acc k => acc * 2 ^ 32 + rd THM_ATT_NONCE_word [k] d) 0)))) ∧
  (Carried .attestationDone (fun d e =>
    Changes [.boot] ([THM_ATT_SIG_word, THM_ATT_AT_ntw] ++ fieldsOf [THM_ATT_ST]) d e ∧
    (d.boot.nonce = none → Unchanged d e) ∧ (d.boot.nonce ≠ none → rd THM_ATT_ST_busy [] e = 0 ∧ e.boot.nonce = none ∧
      (d.nv.keys = false → rd THM_ATT_ST_err [] e = 1 ∧ ∀ k, rd THM_ATT_SIG_word [k] e = rd THM_ATT_SIG_word [k] d) ∧ (d.nv.keys = true → rd THM_ATT_ST_done [] e = 1)))) ∧
  (∀ view, Carried (.offer view) (fun d e =>
    Changes [.blt, .nv] (firing ++ [UPD_MISS_first, UPD_VERSION_version, UPD_START_sec, UPD_DIGEST_digest] ++ fieldsOf [UPD_STATUS, UPD_PIECES, UPD_RES, UPD_LAST]) d e ∧
    (∀ h code, h = (List.range 64).map (fun r => rd UPD_HDR_word [r] d) → code = offerCode h view { d with out := [] } →
      rd UPD_RES_code [] e = code % 2 ^ UPD_RES_code.w ∧ rd UPD_RES_busy [] e = 0 ∧
      (code = 1 → e.nv = d.nv ∧ Fired 274 d e) ∧ (code ≠ 0 → code ≠ 1 → e.nv = d.nv ∧ Fired 272 d e) ∧
      (code = 0 → openSess d = none → ∃ x, e.nv.sess = some x ∧ x.hdr = h ∧ x.state = 1 ∧ x.target = 1 - d.nv.active ∧ x.pieces = []) ∧
      (code = 0 → ∀ x, openSess d = some x → ∃ y, e.nv.sess = some y ∧ y.hdr = x.hdr ∧ y.pieces = x.pieces ∧ 0 ∈ y.sources)))) ∧
  (∀ fails, Carried (.put fails) (fun d e =>
    Changes [.blt, .nv] (firing ++ [UPD_VERSION_version, UPD_START_sec, UPD_DIGEST_digest] ++ fieldsOf [UPD_STATUS, UPD_PIECES, UPD_MISS, UPD_RES, UPD_LAST]) d e ∧
    rd UPD_RES_busy [] e = 0 ∧ (openSess d = none → rd UPD_RES_code [] e = 9 ∧ e.nv = d.nv) ∧
    (∀ x, openSess d = some x → x.state ≠ 1 → rd UPD_RES_code [] e = 9 ∧ e.nv = d.nv))) ∧
  (∀ mac addr v6 header view, Carried (.offerDatagram mac addr v6 header view) (fun d e =>
    Changes [.blt, .macs, .icn, .nv] (firing ++ [UPD_MISS_first, UPD_VERSION_version, UPD_START_sec, UPD_DIGEST_digest] ++ fieldsOf [UPD_STATUS, UPD_PIECES, UPD_LAST]) d e ∧
    (updatesTaken d = false → Unchanged d e))) ∧
  (∀ digest index bytes fails, Carried (.piece digest index bytes fails) (fun d e =>
    Changes [.blt, .nv] (firing ++ [UPD_VERSION_version, UPD_START_sec, UPD_DIGEST_digest] ++ fieldsOf [UPD_STATUS, UPD_PIECES, UPD_MISS, UPD_LAST]) d e ∧
    (updatesTaken d = false ∨ openSess d = none → Unchanged d e))) ∧
  (∀ mac addr v6 digest first, Carried (.query mac addr v6 digest first) (fun d e =>
    Changes [.macs, .icn] [] d e ∧
    (updatesTaken d = false → Unchanged d e))) ∧
  (∀ ok view key, Carried (.finalCheckDone ok view key) (fun d e =>
    Changes [.blt, .nv, .boot] (firing ++ [UPD_MISS_first, UPD_VERSION_version, UPD_START_sec, UPD_DIGEST_digest] ++ fieldsOf [UPD_STATUS, UPD_PIECES, UPD_RES, UPD_LAST]) d e ∧
    (openSess d = none → Unchanged d e) ∧ (∀ x, openSess d = some x →
      (x.state ≠ 2 → Unchanged d e) ∧
      (x.state = 2 → ok = false → openSess e = none ∧ rd UPD_RES_code [] e = 12 ∧ Fired 276 d e) ∧
      (x.state = 2 → ok = true → hdrType x.hdr = 1 → ∃ y, openSess e = some y ∧ y.state = 3 ∧ y.hdr = x.hdr)))) ∧
  (Carried .abort (fun d e =>
    Changes [.blt, .nv, .boot] (firing ++ [UPD_MISS_first, UPD_VERSION_version, UPD_START_sec, UPD_DIGEST_digest] ++ fieldsOf [UPD_STATUS, UPD_PIECES, UPD_RES, UPD_LAST]) d e ∧
    (openSess d = none → rd UPD_RES_code [] e = 9 ∧ e.nv = d.nv) ∧ (openSess d ≠ none → openSess e = none ∧ rd UPD_RES_code [] e = 0 ∧ Fired 275 d e))) ∧
  (Carried .sessionExpiry (fun d e =>
    Changes [.ntw, .devTime, .blt, .nv, .boot] (firing ++ [UPD_MISS_first, UPD_VERSION_version, UPD_START_sec, UPD_DIGEST_digest] ++ fieldsOf [UPD_STATUS, UPD_PIECES, UPD_LAST]) d e ∧
    (openSess d = none ∨ rdB RUL_STATUS_time_set [] d = false → Unchanged d e) ∧ (∀ x, openSess d = some x →
      (x.start = none → Unchanged d e) ∧
      (∀ first, x.start = some first → rdB RUL_STATUS_time_set [] d = true → openSess e = none ∧ Fired 275 d e ∧
        (first < ntwSecond d + 86400 → Comes (unitsOfNib ((first + 2592000) * Config.nibsPerSec)) d e)))))

/-- An update is activated only when it is ready and no window is open; its content is then copied forward, and at its instant the other slot becomes
the active one, on trial, by a soft reset of cause 4. A trial that meets the conditions is confirmed: the trial and the window are over, the
outcome is 1, FS0280 fires and the session ends; an approval counts within the window only. A window that passes unconfirmed falls back by a soft
reset. A revert needs no session, no window and a previous slot that may run. Unlock words in their order, none later than a second after the
first, open test access, erase the keys and reset the device; a wrong word, the fall of TEST_EN and that second start them anew. -/
def Obligations.ActivationAndTestAccess : Prop :=
  (Carried .activate (fun d e =>
    Changes [.blt, .nv, .boot] (firing ++ [THM_STATUS_keys_present, THM_STATUS_test_open, THM_STATUS_owner_valid, THM_STATUS_owner_revoked, THM_SERIAL_serial, THM_OWNER_key_id, THM_CERT_LEN_bytes, UPD_MISS_first, UPD_VERSION_version, UPD_START_sec, UPD_DIGEST_digest] ++ fieldsOf [THM_RB, UPD_STATUS, UPD_PIECES, UPD_RES, UPD_LAST]) d e ∧
    (openSess d = none → rd UPD_RES_code [] e = 9 ∧ e.nv = d.nv) ∧ (∀ x, openSess d = some x →
      (x.state ≠ 3 → rd UPD_RES_code [] e = 9 ∧ e.nv = d.nv) ∧ (x.state = 3 → d.boot.window = true → rd UPD_RES_code [] e = 8 ∧ e.nv = d.nv) ∧
      (x.state = 3 → d.boot.window = false → hdrType x.hdr = 2 → ∀ far, far = (match actAt d with | some a => decide (d.ntw + 86400 * secUnits < a) | none => true) →
        (far = true → rd UPD_RES_code [] e = 9 ∧ e.nv = d.nv) ∧ (far = false → rd UPD_RES_code [] e = 0 ∧ e.nv.sess = some { x with state := 4 } ∧ e.boot.copied = false))))) ∧
  (∀ ok, Carried (.copyForwardDone ok) (fun d e =>
    Changes [.blt, .nv, .boot] (firing ++ [UPD_MISS_first, UPD_VERSION_version, UPD_START_sec, UPD_DIGEST_digest] ++ fieldsOf [UPD_STATUS, UPD_PIECES, UPD_RES, UPD_LAST]) d e ∧
    (d.boot.copied = true → Unchanged d e) ∧ (∀ x, d.boot.copied = false → openSess d = some x →
      (x.state ≠ 4 → Unchanged d e) ∧
      (x.state = 4 → ok = false → rd UPD_RES_code [] e = 13 ∧ e.nv.sess = some { x with state := 3 }) ∧
      (x.state = 4 → ok = true → e.boot.copied = true ∧ (slotOf x.target e).route = (slotOf d.nv.active d).route ∧
        (hdrType x.hdr = 2 → (slotOf x.target e).pat = some (sessionImage x) ∧ (slotOf x.target e).fw = (slotOf d.nv.active d).fw) ∧
        (hdrType x.hdr ≠ 2 → (slotOf x.target e).fw = some (sessionImage x) ∧ (slotOf x.target e).pat = (slotOf d.nv.active d).pat))))) ∧
  (Carried .activationInstant (fun d e =>
    ChangesByReset [.staged, .held, .ntw, .devTime, .lastSecond, .clocksStopped, .pins, .blt, .xpt, .lns, .ink, .drams, .flw, .macs, .sdi, .qlt, .aud, .apt, .gth, .sea, .tlr, .icn, .journal, .nv, .boot, .pat, .health] ([TOP_SCRATCH_value, TOP_IRQ_EN_en, TOP_IRQ_HOLD_us, TOP_FW_VER_version, TOP_PAT_ID_pat_version, TOP_ROUTE_SEQ_durable_seq, TOP_SERVE_AT_ntw, BLT_FAULTN_WIDTH_width, BLT_QUIET_quiet_ms, BLT_QUIET_LEFT_ms, BLT_SAFE_AT_ntw, BLT_EXIT_AT_ntw, BLT_SUM_word, BLT_STICKY_bits, BLT_RAW_bits, BLT_SEV_sevs, BLT_DST_SAFE_hold] ++ fieldsOf ([TOP_ID, TOP_PCIE_STICKY, TOP_PCIE_CNT, TOP_RESET_CAUSE, TOP_BOOT_ST, TOP_PAT_ERR, TOP_ROUTE_ST, TOP_ROUTE_CNT, TOP_STICKY, TOP_FUNC, TOP_TEMP, TOP_TEMP_CFG, TOP_SUPPLY, TOP_MON_STICKY, BLT_STATUS, BLT_CTRL, BLT_CMD, BLT_INJ] ++ regsDuc ++ regsXpt ++ regsTlr ++ regsLns ++ regsMac ++ regsFlw ++ regsSdi ++ regsInk ++ regsDrc ++ regsQlt ++ regsGth ++ regsApt ++ regsSea ++ regsThm ++ regsUpd ++ regsIcn)) d e ∧
    (∀ going, going = (match openSess d with | some x => x.state == 4 | none => d.boot.revert) →
      (d.boot.copied = false ∨ going = false → Unchanged d e) ∧
      (d.boot.copied = true → going = true → e.nv.active = 1 - d.nv.active ∧ e.nv.trial = true ∧ e.nv.trialBoots = 0 ∧
        rd TOP_BOOT_ST_phase [] e = 0 ∧ rd TOP_RESET_CAUSE_cause [] e = 4 ∧ (d.boot.revert = false → Comes ((actAt d).getD 0) d e))))) ∧
  (Carried .approve (fun d e =>
    Changes [.boot] (fieldsOf [UPD_RES]) d e ∧
    rd UPD_RES_code [] e = 0 ∧ e.boot = if windowOpen d then { d.boot with approved := true } else d.boot)) ∧
  (Carried .healthConfirm (fun d e =>
    Changes [.blt, .nv, .boot] (firing ++ [THM_STATUS_keys_present, THM_STATUS_test_open, THM_STATUS_owner_valid, THM_STATUS_owner_revoked, THM_SERIAL_serial, THM_OWNER_key_id, THM_CERT_LEN_bytes, UPD_MISS_first, UPD_VERSION_version, UPD_START_sec, UPD_DIGEST_digest, UPD_HEALTH_CONFIRM_confirm] ++ fieldsOf [THM_RB, UPD_STATUS, UPD_PIECES, UPD_LAST]) d e ∧
    (∀ fit, fit = (windowOpen d && rd TOP_BOOT_ST_phase [] d == 6 && decide (rd TOP_BOOT_ST_restore_src [] d ≤ 1) && !inSafe d && !d.boot.incompatible &&
        (!d.nv.hostGate || d.boot.approved)) →
      (fit = false → Unchanged d e) ∧
      (fit = true → e.nv.trial = false ∧ e.nv.outcome = 1 ∧ e.nv.outcomeSlot = d.nv.active ∧ e.boot.window = false ∧ openSess e = none ∧
        rd UPD_HEALTH_CONFIRM_confirm [] e = 1 ∧ e.nv.rbFw = advanceCounter d.nv.rbFw (slotOf d.nv.active d).fw ∧ Fired 280 d e)))) ∧
  (Carried .healthWindowExpiry (fun d e =>
    ChangesByReset [.staged, .held, .ntw, .devTime, .lastSecond, .clocksStopped, .pins, .blt, .xpt, .lns, .ink, .drams, .flw, .macs, .sdi, .qlt, .aud, .apt, .gth, .sea, .tlr, .icn, .journal, .nv, .boot, .pat, .health] ([TOP_SCRATCH_value, TOP_IRQ_EN_en, TOP_IRQ_HOLD_us, TOP_FW_VER_version, TOP_PAT_ID_pat_version, TOP_ROUTE_SEQ_durable_seq, TOP_SERVE_AT_ntw, BLT_FAULTN_WIDTH_width, BLT_QUIET_quiet_ms, BLT_QUIET_LEFT_ms, BLT_SAFE_AT_ntw, BLT_EXIT_AT_ntw, BLT_SUM_word, BLT_STICKY_bits, BLT_RAW_bits, BLT_SEV_sevs, BLT_DST_SAFE_hold] ++ fieldsOf ([TOP_ID, TOP_PCIE_STICKY, TOP_PCIE_CNT, TOP_RESET_CAUSE, TOP_BOOT_ST, TOP_PAT_ERR, TOP_ROUTE_ST, TOP_ROUTE_CNT, TOP_STICKY, TOP_FUNC, TOP_TEMP, TOP_TEMP_CFG, TOP_SUPPLY, TOP_MON_STICKY, BLT_STATUS, BLT_CTRL, BLT_CMD, BLT_INJ] ++ regsDuc ++ regsXpt ++ regsTlr ++ regsLns ++ regsMac ++ regsFlw ++ regsSdi ++ regsInk ++ regsDrc ++ regsQlt ++ regsGth ++ regsApt ++ regsSea ++ regsThm ++ regsUpd ++ regsIcn)) d e ∧
    (d.boot.window = false → Unchanged d e) ∧
    (d.boot.window = true → rd TOP_BOOT_ST_phase [] e = 0 ∧ rd TOP_RESET_CAUSE_cause [] e = 4 ∧ e.nv = fallbackRecord 2 d.nv ∧ Passes (windowEnd d) d e))) ∧
  (Carried .updRevert (fun d e =>
    Changes [.boot] (fieldsOf [UPD_RES]) d e ∧
    ((openSess d).isSome = true ∨ d.boot.window = true ∨ d.nv.prevState ≠ 0 → rd UPD_RES_code [] e = 9 ∧ e.boot = d.boot) ∧
    (openSess d = none → d.boot.window = false → d.nv.prevState = 0 →
      (slotOf (1 - d.nv.active) d).fw = none → (slotOf (1 - d.nv.active) d).pat = none →
      rd UPD_RES_code [] e = 0 ∧ e.boot.revert = true ∧ e.boot.copied = false))) ∧
  (∀ word, Carried (.unlock word) (fun d e =>
    ChangesByReset [.staged, .held, .freeCtr, .lastSecond, .clocksStopped, .pins, .blt, .xpt, .lns, .ink, .drams, .flw, .macs, .sdi, .qlt, .aud, .apt, .gth, .sea, .tlr, .icn, .journal, .nv, .boot, .pat, .health] ([TOP_SCRATCH_value, TOP_IRQ_EN_en, TOP_IRQ_HOLD_us, TOP_FW_VER_version, TOP_PAT_ID_pat_version, TOP_ROUTE_SEQ_durable_seq, TOP_SERVE_AT_ntw, BLT_FAULTN_WIDTH_width, BLT_QUIET_quiet_ms, BLT_QUIET_LEFT_ms, BLT_SAFE_AT_ntw, BLT_EXIT_AT_ntw, BLT_SUM_word, BLT_STICKY_bits, BLT_RAW_bits, BLT_SEV_sevs, BLT_DST_SAFE_hold] ++ fieldsOf ([TOP_ID, TOP_PCIE_STICKY, TOP_PCIE_CNT, TOP_RESET_CAUSE, TOP_BOOT_ST, TOP_PAT_ERR, TOP_ROUTE_ST, TOP_ROUTE_CNT, TOP_STICKY, TOP_FUNC, TOP_TEMP, TOP_TEMP_CFG, TOP_SUPPLY, TOP_MON_STICKY, BLT_STATUS, BLT_CTRL, BLT_CMD, BLT_INJ] ++ regsDuc ++ regsXpt ++ regsTlr ++ regsLns ++ regsMac ++ regsFlw ++ regsSdi ++ regsInk ++ regsDrc ++ regsQlt ++ regsGth ++ regsApt ++ regsSea ++ regsThm ++ regsUpd ++ regsIcn)) d e ∧
    (∀ got, got = (if decide (d.boot.unlockAt + secUnits < d.devTime) then [] else d.boot.unlock) →
      e.pins.testEn = true ∧
      (word ≠ (unlockWords d).getD got.length 0 → e.boot.unlock = [] ∧ e.nv = d.nv) ∧
      (word = (unlockWords d).getD got.length 0 → got.length = 2 → e.nv = { d.nv with eraseStarted := true, keys := false, testOpen := true } ∧ rd TOP_BOOT_ST_phase [] e = 0) ∧
      (word = (unlockWords d).getD got.length 0 → got.length ≠ 2 → e.boot.unlock = got ++ [word] ∧ e.nv = d.nv)))) ∧
  (∀ cut, Carried (.testEnFall cut) (fun d e =>
    Changes [.pins, .blt, .boot] (firing ++ [ICN_STATUS_reset_abort, ICN_ERR_ADDR_offset, ICN_CNT1_reset_aborts] ++ fieldsOf [ICN_ERR_INFO]) d e ∧
    e.pins.testEn = false ∧ e.boot.unlock = [])) ∧
  (Carried .unlockTimeout (fun d e =>
    Changes [.ntw, .devTime, .boot] [] d e ∧
    (d.boot.unlock = [] → Unchanged d e) ∧ (d.boot.unlock ≠ [] → Passes (d.boot.unlockAt + secUnits + 1) d e ∧ e.boot.unlock = [])))

/-- An access outside every block ends at the default target with FS0288, a read then with an error response; a word with a parity error is not
written and fires FS0295, and one without all byte enables is refused with FS0289. RUL_OUT_ADV reads and is written whole. A target that does not
answer within 10 ms times out with FS0291. A master that may not ask changes nothing. A shadow word of a layer is written unless the layer is
reserved or its commit is pending; a coefficient bank in use refuses its words. In safe state, or with the in-band flow not enabled, no operation
runs and a request is counted as dropped or ignored; a malformed one and one of an unknown peer are counted. -/
def Obligations.RegisterAccesses : Prop :=
  (∀ master off beats blt, Carried (.registerWrite master off beats blt) (fun d e =>
    ChangesParts [.staged, .ntw, .devTime, .freeCtr, .rul, .blt, .xpt, .lns, .ink, .drams, .macs, .qlt, .gth, .sea, .nv, .boot] d e ∧
    (canAsk master d = false → off < 0x3E00000 ∨ 0x3E02000 ≤ off → Unchanged d e) ∧
    (∀ x, beats = [x] → canAsk master d = true →
      (blockOf off = none → rd ICN_STATUS_dflt [] e = 1 ∧ rd ICN_ERR_ADDR_offset [] e = off % 2 ^ ICN_ERR_ADDR_offset.w ∧ Fired 288 d e) ∧
      (hasPath master d = true → off = 0x100248 → x.parity = false → rd RUL_OUT_ADV_adv [] e = rd RUL_OUT_ADV_adv [] d ∧ rd ICN_STATUS_parity [] e = 1 ∧ Fired 295 d e) ∧
      (hasPath master d = true → off = 0x100248 → x.parity = true → x.enabled = false → rd RUL_OUT_ADV_adv [] e = rd RUL_OUT_ADV_adv [] d ∧ rd ICN_STATUS_be [] e = 1 ∧ Fired 289 d e) ∧
      (hasPath master d = true → off = 0x100248 → x.parity = true → x.enabled = true → rd RUL_OUT_ADV_adv [] e = x.data)))) ∧
  (∀ master off words enabled parity blt, Carried (.clearOnRead master off words enabled parity blt) (fun d e =>
    ChangesParts [.held, .ntw, .devTime, .freeCtr, .blt] d e ∧
    (canAsk master d = false → off < 0x3E00000 ∨ 0x3E02000 ≤ off → Unchanged d e) ∧
    (canAsk master d = true → enabled = true → parity = true → words = 1 → blockOf off = none →
      Out.errorResponse master ∈ e.out ∧ rd ICN_STATUS_dflt [] e = 1 ∧ Fired 288 d e) ∧
    (canAsk master d = true → enabled = false → Out.errorResponse master ∈ e.out))) ∧
  (∀ master off words enabled parity blt, Carried (.snapshotRead master off words enabled parity blt) (fun d e =>
    ChangesParts [.held, .ntw, .devTime, .freeCtr, .blt] d e ∧
    (canAsk master d = false → off < 0x3E00000 ∨ 0x3E02000 ≤ off → Unchanged d e) ∧
    (canAsk master d = true → hasPath master d = true → enabled = true → parity = true → words = 1 → off = 0x100248 →
      (rd RUL_OUT_ADV_adv [] d < 2 ^ 32 → Out.readData master (rd RUL_OUT_ADV_adv [] d) ∈ e.out) ∧ rd RUL_OUT_ADV_adv [] e = rd RUL_OUT_ADV_adv [] d) ∧
    (canAsk master d = true → enabled = false → Out.errorResponse master ∈ e.out))) ∧
  (∀ master off target write late, Carried (.accessTimeout master off target write late) (fun d e =>
    ChangesParts [.staged, .ntw, .devTime, .freeCtr, .rul, .blt, .xpt, .lns, .ink, .drams, .macs, .qlt, .gth, .sea, .nv, .boot] d e ∧
    (late = [] ∨ write = false → Passes (d.devTime + 10 * msUnits) d e ∧ rd ICN_STATUS_timeout [] e = 1 ∧
      rd ICN_CNT1_timeouts [] e = min (2 ^ ICN_CNT1_timeouts.w - 1) (rd ICN_CNT1_timeouts [] d + 1) ∧ Fired 291 d e) ∧
    (write = false → Out.errorResponse master ∈ e.out))) ∧
  (∀ layer word value, Carried (.shadowWrite layer word value) (fun d e =>
    ChangesParts [.staged, .freeCtr, .rul, .blt, .xpt, .lns, .ink, .drams, .macs, .qlt, .gth, .sea, .nv, .boot] d e ∧
    (word = 0 →
      (layerReserved layer d = true → rd QLT_STATUS_rej_write [] e = 1 ∧ rd QLT_SH_CFG_z [layer] e = rd QLT_SH_CFG_z [layer] d) ∧
      (layerReserved layer d = false → layerPending layer d = true → rd QLT_STATUS_busy [] e = 1 ∧ rd QLT_SH_CFG_z [layer] e = rd QLT_SH_CFG_z [layer] d ∧ Fired 197 d e) ∧
      (layerReserved layer d = false → layerPending layer d = false → rd QLT_SH_CFG_z [layer] e = value / 256 % 64) ∧
      (∀ k < 512, k ≠ layer → rd QLT_SH_CFG_z [k] e = rd QLT_SH_CFG_z [k] d)))) ∧
  (∀ off value, Carried (.bankProgramWrite off value) (fun d e =>
    ChangesParts [.staged, .freeCtr, .rul, .blt, .xpt, .lns, .ink, .drams, .macs, .qlt, .gth, .sea, .nv, .boot] d e ∧
    (off = 0x3240000 → bankInUse 0 d = true → rd QLT_STATUS_inuse_write [] e = 1 ∧ Fired 195 d e))) ∧
  (∀ off words, Carried (.read off words) (fun d e =>
    ChangesParts [.staged, .held, .ntw, .devTime, .freeCtr, .rul, .blt, .xpt, .lns, .ink, .drams, .macs, .qlt, .gth, .sea, .nv, .boot] d e ∧
    (inSafe d = true ∨ rdB ICN_IB_ST_enabled [] d = false → Unchanged d e) ∧
    (inSafe d = false → rdB ICN_IB_ST_enabled [] d = true → ∃ ws, Out.control 2 0 0 ws ∈ e.out))) ∧
  (∀ off data, Carried (.write off data) (fun d e =>
    ChangesParts [.staged, .held, .ntw, .devTime, .freeCtr, .rul, .blt, .xpt, .lns, .ink, .drams, .macs, .qlt, .gth, .sea, .nv, .boot] d e ∧
    (inSafe d = true ∨ rdB ICN_IB_ST_enabled [] d = false → Unchanged d e) ∧
    (inSafe d = false → rdB ICN_IB_ST_enabled [] d = true → ∃ ws, Out.control 2 0 0 ws ∈ e.out))) ∧
  (∀ off words, Carried (.winRead off words) (fun d e =>
    ChangesParts [.staged, .held, .ntw, .devTime, .freeCtr, .rul, .blt, .xpt, .lns, .ink, .drams, .macs, .qlt, .gth, .sea, .nv, .boot] d e ∧
    (inSafe d = true ∨ rdB ICN_IB_ST_enabled [] d = false → Unchanged d e) ∧
    (inSafe d = false → rdB ICN_IB_ST_enabled [] d = true → ∃ ws, Out.control 2 0 0 ws ∈ e.out) ∧ e.ink.bytes = d.ink.bytes)) ∧
  (∀ off data, Carried (.winWrite off data) (fun d e =>
    ChangesParts [.staged, .held, .ntw, .devTime, .freeCtr, .rul, .blt, .xpt, .lns, .ink, .drams, .macs, .qlt, .gth, .sea, .nv, .boot] d e ∧
    (inSafe d = true ∨ rdB ICN_IB_ST_enabled [] d = false → Unchanged d e) ∧
    (inSafe d = false → rdB ICN_IB_ST_enabled [] d = true → ∃ ws, Out.control 2 0 0 ws ∈ e.out) ∧
    (∀ k, (∀ a w, a < off + 4 * data.length → off ≤ a → bar2Target a d ≠ some (k, w)) → tabGet 0 e.ink.bytes k = tabGet 0 d.ink.bytes k))) ∧
  (∀ request, Carried (.controlRequest request) (fun d e =>
    ChangesParts [.staged, .held, .ntw, .devTime, .freeCtr, .lastSecond, .rul, .blt, .xpt, .lns, .ink, .drams, .macs, .qlt, .gth, .sea, .icn, .nv, .boot] d e ∧
    (rdB ICN_IB_ST_enabled [] d = false → Unchanged d e) ∧
    (rdB ICN_IB_ST_enabled [] d = true → inSafe d = true → rd ICN_IB_CNT2_dropped_safe [] e = min (2 ^ ICN_IB_CNT2_dropped_safe.w - 1) (rd ICN_IB_CNT2_dropped_safe [] d + 1)) ∧
    (rdB ICN_IB_ST_enabled [] d = true → inSafe d = false → request.formOk = false ∨ request.kind ≠ 1 →
      rd ICN_IB_CNT1_malformed [] e = min (2 ^ ICN_IB_CNT1_malformed.w - 1) (rd ICN_IB_CNT1_malformed [] d + 1) ∧ e.icn = d.icn) ∧
    (rdB ICN_IB_ST_enabled [] d = true → inSafe d = false → request.formOk = true → request.kind = 1 → peerOk request d = false →
      rd ICN_IB_CNT1_auth_fail [] e = min (2 ^ ICN_IB_CNT1_auth_fail.w - 1) (rd ICN_IB_CNT1_auth_fail [] d + 1) ∧ e.icn = d.icn)))

/-- PERST_N low, a hot reset and a function-level reset clear the configuration, the vectors owed and their enables, each setting its sticky bit; the
first two take the link down. Configuration requests are answered only with the link up, with a retry within 100 ms of the release of PERST_N,
and otherwise set what they carry. The link comes up while PERST_N is high. A hold-off ends at its end; without one owed nothing happens. A MAC
or Seam link that was stopping is stopped. -/
def Obligations.PcieAndInterrupts : Prop :=
  (∀ low cut, Carried (.pciePerstN low cut) (fun d e =>
    Changes [.pins, .blt, .icn] (firing ++ [TOP_PCIE_STICKY_link_down, TOP_PCIE_STICKY_perst, TOP_PCIE_CNT_link_downs, TOP_IRQ_EN_en, ICN_STATUS_reset_abort, ICN_ERR_ADDR_offset, ICN_CNT1_reset_aborts] ++ fieldsOf [TOP_PCIE_ST, ICN_ERR_INFO]) d e ∧
    e.pins.perstLow = low ∧ (low = false → e.icn.perstAt = d.devTime) ∧
    (low = true → rd TOP_PCIE_ST_link_up [] e = 0 ∧ rd TOP_PCIE_STICKY_perst [] e = 1 ∧ rd TOP_PCIE_ST_bme [] e = 0 ∧ rd TOP_IRQ_EN_en [] e = 0 ∧ e.irq.owed = 0 ∧ e.irq.table = []))) ∧
  (∀ hot cut, Carried (.hotReset hot cut) (fun d e =>
    Changes [.blt] (firing ++ [TOP_PCIE_STICKY_link_down, TOP_PCIE_STICKY_hot_reset, TOP_PCIE_CNT_link_downs, TOP_IRQ_EN_en, ICN_STATUS_reset_abort, ICN_ERR_ADDR_offset, ICN_CNT1_reset_aborts] ++ fieldsOf [TOP_PCIE_ST, ICN_ERR_INFO]) d e ∧
    (rdB TOP_PCIE_ST_link_up [] d = true → rd TOP_PCIE_ST_link_up [] e = 0 ∧ rd TOP_PCIE_STICKY_link_down [] e = 1 ∧ Fired 292 d e) ∧
    rd TOP_PCIE_ST_bme [] e = 0 ∧ rd TOP_IRQ_EN_en [] e = 0 ∧ e.irq.owed = 0 ∧ e.irq.table = [] ∧ (hot = true → rd TOP_PCIE_STICKY_hot_reset [] e = 1))) ∧
  (∀ cut, Carried (.functionLevelReset cut) (fun d e =>
    Changes [.blt] (firing ++ [TOP_PCIE_ST_bme, TOP_PCIE_ST_msix_en, TOP_PCIE_ST_msix_fmask, TOP_PCIE_ST_dstate, TOP_PCIE_STICKY_flr, TOP_IRQ_EN_en, ICN_STATUS_reset_abort, ICN_ERR_ADDR_offset, ICN_CNT1_reset_aborts] ++ fieldsOf [ICN_ERR_INFO]) d e ∧
    rd TOP_PCIE_ST_link_up [] e = rd TOP_PCIE_ST_link_up [] d ∧ rd TOP_PCIE_STICKY_flr [] e = 1 ∧ rd TOP_PCIE_ST_bme [] e = 0 ∧ rd TOP_IRQ_EN_en [] e = 0 ∧
    e.irq.owed = 0 ∧ e.irq.table = [])) ∧
  (∀ set, Carried (.configurationRequest set) (fun d e =>
    Changes [] [TOP_PCIE_ST_bme, TOP_PCIE_ST_msix_en, TOP_PCIE_ST_msix_fmask, TOP_PCIE_ST_dstate] d e ∧
    (rdB TOP_PCIE_ST_link_up [] d = false → Unchanged d e) ∧
    (rdB TOP_PCIE_ST_link_up [] d = true → configRetry d = true → Out.config true ∈ e.out ∧ e.regs = d.regs) ∧
    (rdB TOP_PCIE_ST_link_up [] d = true → configRetry d = false → Out.config false ∈ e.out ∧
      ∀ bme en mask d3, set = some (bme, en, mask, d3) → rdB TOP_PCIE_ST_bme [] e = bme ∧ rdB TOP_PCIE_ST_msix_en [] e = en ∧
        rdB TOP_PCIE_ST_msix_fmask [] e = mask ∧ rd TOP_PCIE_ST_dstate [] e = if d3 then 3 else 0))) ∧
  (∀ speed width, Carried (.pcieLinkUp speed width) (fun d e =>
    Changes [] [TOP_PCIE_ST_speed, TOP_PCIE_ST_width, TOP_PCIE_ST_link_up] d e ∧
    (d.pins.perstLow = true → Unchanged d e) ∧ (d.pins.perstLow = false → rd TOP_PCIE_ST_link_up [] e = 1 ∧
      rd TOP_PCIE_ST_speed [] e = speed % 2 ^ TOP_PCIE_ST_speed.w ∧ rd TOP_PCIE_ST_width [] e = width % 2 ^ TOP_PCIE_ST_width.w))) ∧
  (∀ vector, Carried (.holdoffEnd vector) (fun d e =>
    Changes [.ntw, .devTime] [] d e ∧
    (Nat.testBit d.irq.holding vector = false → Unchanged d e) ∧
    (Nat.testBit d.irq.holding vector = true → Passes (tabGet 0 d.irq.holdEnd vector) d e ∧
      (Nat.testBit d.irq.owed vector = false → Nat.testBit e.irq.holding vector = false)))) ∧
  (∀ vector, Carried (.vectorUnmask vector) (fun d e =>
    Changes [] [TOP_PCIE_ST_msix_fmask] d e ∧
    (vector = none → rd TOP_PCIE_ST_msix_fmask [] e = 0) ∧
    (∀ v, vector = some v → tabGet 1 e.irq.table (4 * v + 3) = 0 ∧ rd TOP_PCIE_ST_msix_fmask [] e = rd TOP_PCIE_ST_msix_fmask [] d))) ∧
  (∀ seam number, Carried (.shutDownFinished seam number) (fun d e =>
    Changes [.health] [DUC_FAM_STATUS_state, LNS_OCT_STATUS_state, MAC_STATUS_state, DRC_STATUS_state, QLT_HEAD_STATUS_state, GTH_STATUS_state, APT_TDM_STATUS_state, APT_AIN_STATUS_state, APT_AOUT_STATUS_state, SEA_LINK_ST_state] d e ∧
    (∀ f, f = (if seam then fSeam number else fMac number) →
      (funcState f d ≠ 3 → Unchanged d e) ∧ (funcState f d = 3 → funcState f e = 0)))) ∧
  (∀ cut, Carried (.testReset cut) (fun d e =>
    Changes [.blt] (firing ++ [ICN_STATUS_reset_abort, ICN_ERR_ADDR_offset, ICN_CNT1_reset_aborts] ++ fieldsOf [ICN_ERR_INFO]) d e ∧
    (cut = none → Unchanged d e) ∧ (cut ≠ none → rd ICN_STATUS_reset_abort [] e = 1 ∧ Fired 290 d e)))

end
end

