-- ==== Sys2Proof/Laws/State.lean ====
section
/-! SUPPORT. What each update of the state leaves of every field: one lemma per field and update, all true by unfolding. -/

namespace Sys2Proof.Machine

/-! ### `wr` -/

@[simp] theorem wr_staged (f : Fld) (ix : List Nat) (v : Nat) (d : Dev) : (wr f ix v d).staged = d.staged := rfl
@[simp] theorem wr_held (f : Fld) (ix : List Nat) (v : Nat) (d : Dev) : (wr f ix v d).held = d.held := rfl
@[simp] theorem wr_ntw (f : Fld) (ix : List Nat) (v : Nat) (d : Dev) : (wr f ix v d).ntw = d.ntw := rfl
@[simp] theorem wr_devTime (f : Fld) (ix : List Nat) (v : Nat) (d : Dev) : (wr f ix v d).devTime = d.devTime := rfl
@[simp] theorem wr_freeCtr (f : Fld) (ix : List Nat) (v : Nat) (d : Dev) : (wr f ix v d).freeCtr = d.freeCtr := rfl
@[simp] theorem wr_out (f : Fld) (ix : List Nat) (v : Nat) (d : Dev) : (wr f ix v d).out = d.out := rfl
@[simp] theorem wr_lastSecond (f : Fld) (ix : List Nat) (v : Nat) (d : Dev) : (wr f ix v d).lastSecond = d.lastSecond := rfl
@[simp] theorem wr_clocksStopped (f : Fld) (ix : List Nat) (v : Nat) (d : Dev) : (wr f ix v d).clocksStopped = d.clocksStopped := rfl
@[simp] theorem wr_lastAt (f : Fld) (ix : List Nat) (v : Nat) (d : Dev) : (wr f ix v d).lastAt = d.lastAt := rfl
@[simp] theorem wr_pins (f : Fld) (ix : List Nat) (v : Nat) (d : Dev) : (wr f ix v d).pins = d.pins := rfl
@[simp] theorem wr_rul (f : Fld) (ix : List Nat) (v : Nat) (d : Dev) : (wr f ix v d).rul = d.rul := rfl
@[simp] theorem wr_blt (f : Fld) (ix : List Nat) (v : Nat) (d : Dev) : (wr f ix v d).blt = d.blt := rfl
@[simp] theorem wr_irq (f : Fld) (ix : List Nat) (v : Nat) (d : Dev) : (wr f ix v d).irq = d.irq := rfl
@[simp] theorem wr_xpt (f : Fld) (ix : List Nat) (v : Nat) (d : Dev) : (wr f ix v d).xpt = d.xpt := rfl
@[simp] theorem wr_lns (f : Fld) (ix : List Nat) (v : Nat) (d : Dev) : (wr f ix v d).lns = d.lns := rfl
@[simp] theorem wr_ink (f : Fld) (ix : List Nat) (v : Nat) (d : Dev) : (wr f ix v d).ink = d.ink := rfl
@[simp] theorem wr_drams (f : Fld) (ix : List Nat) (v : Nat) (d : Dev) : (wr f ix v d).drams = d.drams := rfl
@[simp] theorem wr_flw (f : Fld) (ix : List Nat) (v : Nat) (d : Dev) : (wr f ix v d).flw = d.flw := rfl
@[simp] theorem wr_macs (f : Fld) (ix : List Nat) (v : Nat) (d : Dev) : (wr f ix v d).macs = d.macs := rfl
@[simp] theorem wr_sdi (f : Fld) (ix : List Nat) (v : Nat) (d : Dev) : (wr f ix v d).sdi = d.sdi := rfl
@[simp] theorem wr_qlt (f : Fld) (ix : List Nat) (v : Nat) (d : Dev) : (wr f ix v d).qlt = d.qlt := rfl
@[simp] theorem wr_aud (f : Fld) (ix : List Nat) (v : Nat) (d : Dev) : (wr f ix v d).aud = d.aud := rfl
@[simp] theorem wr_apt (f : Fld) (ix : List Nat) (v : Nat) (d : Dev) : (wr f ix v d).apt = d.apt := rfl
@[simp] theorem wr_gth (f : Fld) (ix : List Nat) (v : Nat) (d : Dev) : (wr f ix v d).gth = d.gth := rfl
@[simp] theorem wr_sea (f : Fld) (ix : List Nat) (v : Nat) (d : Dev) : (wr f ix v d).sea = d.sea := rfl
@[simp] theorem wr_tlr (f : Fld) (ix : List Nat) (v : Nat) (d : Dev) : (wr f ix v d).tlr = d.tlr := rfl
@[simp] theorem wr_icn (f : Fld) (ix : List Nat) (v : Nat) (d : Dev) : (wr f ix v d).icn = d.icn := rfl
@[simp] theorem wr_journal (f : Fld) (ix : List Nat) (v : Nat) (d : Dev) : (wr f ix v d).journal = d.journal := rfl
@[simp] theorem wr_nv (f : Fld) (ix : List Nat) (v : Nat) (d : Dev) : (wr f ix v d).nv = d.nv := rfl
@[simp] theorem wr_boot (f : Fld) (ix : List Nat) (v : Nat) (d : Dev) : (wr f ix v d).boot = d.boot := rfl
@[simp] theorem wr_pat (f : Fld) (ix : List Nat) (v : Nat) (d : Dev) : (wr f ix v d).pat = d.pat := rfl
@[simp] theorem wr_health (f : Fld) (ix : List Nat) (v : Nat) (d : Dev) : (wr f ix v d).health = d.health := rfl

/-! ### `wrB` -/

@[simp] theorem wrB_staged (f : Fld) (ix : List Nat) (v : Bool) (d : Dev) : (wrB f ix v d).staged = d.staged := rfl
@[simp] theorem wrB_held (f : Fld) (ix : List Nat) (v : Bool) (d : Dev) : (wrB f ix v d).held = d.held := rfl
@[simp] theorem wrB_ntw (f : Fld) (ix : List Nat) (v : Bool) (d : Dev) : (wrB f ix v d).ntw = d.ntw := rfl
@[simp] theorem wrB_devTime (f : Fld) (ix : List Nat) (v : Bool) (d : Dev) : (wrB f ix v d).devTime = d.devTime := rfl
@[simp] theorem wrB_freeCtr (f : Fld) (ix : List Nat) (v : Bool) (d : Dev) : (wrB f ix v d).freeCtr = d.freeCtr := rfl
@[simp] theorem wrB_out (f : Fld) (ix : List Nat) (v : Bool) (d : Dev) : (wrB f ix v d).out = d.out := rfl
@[simp] theorem wrB_lastSecond (f : Fld) (ix : List Nat) (v : Bool) (d : Dev) : (wrB f ix v d).lastSecond = d.lastSecond := rfl
@[simp] theorem wrB_clocksStopped (f : Fld) (ix : List Nat) (v : Bool) (d : Dev) : (wrB f ix v d).clocksStopped = d.clocksStopped := rfl
@[simp] theorem wrB_lastAt (f : Fld) (ix : List Nat) (v : Bool) (d : Dev) : (wrB f ix v d).lastAt = d.lastAt := rfl
@[simp] theorem wrB_pins (f : Fld) (ix : List Nat) (v : Bool) (d : Dev) : (wrB f ix v d).pins = d.pins := rfl
@[simp] theorem wrB_rul (f : Fld) (ix : List Nat) (v : Bool) (d : Dev) : (wrB f ix v d).rul = d.rul := rfl
@[simp] theorem wrB_blt (f : Fld) (ix : List Nat) (v : Bool) (d : Dev) : (wrB f ix v d).blt = d.blt := rfl
@[simp] theorem wrB_irq (f : Fld) (ix : List Nat) (v : Bool) (d : Dev) : (wrB f ix v d).irq = d.irq := rfl
@[simp] theorem wrB_xpt (f : Fld) (ix : List Nat) (v : Bool) (d : Dev) : (wrB f ix v d).xpt = d.xpt := rfl
@[simp] theorem wrB_lns (f : Fld) (ix : List Nat) (v : Bool) (d : Dev) : (wrB f ix v d).lns = d.lns := rfl
@[simp] theorem wrB_ink (f : Fld) (ix : List Nat) (v : Bool) (d : Dev) : (wrB f ix v d).ink = d.ink := rfl
@[simp] theorem wrB_drams (f : Fld) (ix : List Nat) (v : Bool) (d : Dev) : (wrB f ix v d).drams = d.drams := rfl
@[simp] theorem wrB_flw (f : Fld) (ix : List Nat) (v : Bool) (d : Dev) : (wrB f ix v d).flw = d.flw := rfl
@[simp] theorem wrB_macs (f : Fld) (ix : List Nat) (v : Bool) (d : Dev) : (wrB f ix v d).macs = d.macs := rfl
@[simp] theorem wrB_sdi (f : Fld) (ix : List Nat) (v : Bool) (d : Dev) : (wrB f ix v d).sdi = d.sdi := rfl
@[simp] theorem wrB_qlt (f : Fld) (ix : List Nat) (v : Bool) (d : Dev) : (wrB f ix v d).qlt = d.qlt := rfl
@[simp] theorem wrB_aud (f : Fld) (ix : List Nat) (v : Bool) (d : Dev) : (wrB f ix v d).aud = d.aud := rfl
@[simp] theorem wrB_apt (f : Fld) (ix : List Nat) (v : Bool) (d : Dev) : (wrB f ix v d).apt = d.apt := rfl
@[simp] theorem wrB_gth (f : Fld) (ix : List Nat) (v : Bool) (d : Dev) : (wrB f ix v d).gth = d.gth := rfl
@[simp] theorem wrB_sea (f : Fld) (ix : List Nat) (v : Bool) (d : Dev) : (wrB f ix v d).sea = d.sea := rfl
@[simp] theorem wrB_tlr (f : Fld) (ix : List Nat) (v : Bool) (d : Dev) : (wrB f ix v d).tlr = d.tlr := rfl
@[simp] theorem wrB_icn (f : Fld) (ix : List Nat) (v : Bool) (d : Dev) : (wrB f ix v d).icn = d.icn := rfl
@[simp] theorem wrB_journal (f : Fld) (ix : List Nat) (v : Bool) (d : Dev) : (wrB f ix v d).journal = d.journal := rfl
@[simp] theorem wrB_nv (f : Fld) (ix : List Nat) (v : Bool) (d : Dev) : (wrB f ix v d).nv = d.nv := rfl
@[simp] theorem wrB_boot (f : Fld) (ix : List Nat) (v : Bool) (d : Dev) : (wrB f ix v d).boot = d.boot := rfl
@[simp] theorem wrB_pat (f : Fld) (ix : List Nat) (v : Bool) (d : Dev) : (wrB f ix v d).pat = d.pat := rfl
@[simp] theorem wrB_health (f : Fld) (ix : List Nat) (v : Bool) (d : Dev) : (wrB f ix v d).health = d.health := rfl

/-! ### `wrBit` -/

@[simp] theorem wrBit_staged (f : Fld) (ix : List Nat) (j : Nat) (v : Bool) (d : Dev) : (wrBit f ix j v d).staged = d.staged := rfl
@[simp] theorem wrBit_held (f : Fld) (ix : List Nat) (j : Nat) (v : Bool) (d : Dev) : (wrBit f ix j v d).held = d.held := rfl
@[simp] theorem wrBit_ntw (f : Fld) (ix : List Nat) (j : Nat) (v : Bool) (d : Dev) : (wrBit f ix j v d).ntw = d.ntw := rfl
@[simp] theorem wrBit_devTime (f : Fld) (ix : List Nat) (j : Nat) (v : Bool) (d : Dev) : (wrBit f ix j v d).devTime = d.devTime := rfl
@[simp] theorem wrBit_freeCtr (f : Fld) (ix : List Nat) (j : Nat) (v : Bool) (d : Dev) : (wrBit f ix j v d).freeCtr = d.freeCtr := rfl
@[simp] theorem wrBit_out (f : Fld) (ix : List Nat) (j : Nat) (v : Bool) (d : Dev) : (wrBit f ix j v d).out = d.out := rfl
@[simp] theorem wrBit_lastSecond (f : Fld) (ix : List Nat) (j : Nat) (v : Bool) (d : Dev) : (wrBit f ix j v d).lastSecond = d.lastSecond := rfl
@[simp] theorem wrBit_clocksStopped (f : Fld) (ix : List Nat) (j : Nat) (v : Bool) (d : Dev) : (wrBit f ix j v d).clocksStopped = d.clocksStopped := rfl
@[simp] theorem wrBit_lastAt (f : Fld) (ix : List Nat) (j : Nat) (v : Bool) (d : Dev) : (wrBit f ix j v d).lastAt = d.lastAt := rfl
@[simp] theorem wrBit_pins (f : Fld) (ix : List Nat) (j : Nat) (v : Bool) (d : Dev) : (wrBit f ix j v d).pins = d.pins := rfl
@[simp] theorem wrBit_rul (f : Fld) (ix : List Nat) (j : Nat) (v : Bool) (d : Dev) : (wrBit f ix j v d).rul = d.rul := rfl
@[simp] theorem wrBit_blt (f : Fld) (ix : List Nat) (j : Nat) (v : Bool) (d : Dev) : (wrBit f ix j v d).blt = d.blt := rfl
@[simp] theorem wrBit_irq (f : Fld) (ix : List Nat) (j : Nat) (v : Bool) (d : Dev) : (wrBit f ix j v d).irq = d.irq := rfl
@[simp] theorem wrBit_xpt (f : Fld) (ix : List Nat) (j : Nat) (v : Bool) (d : Dev) : (wrBit f ix j v d).xpt = d.xpt := rfl
@[simp] theorem wrBit_lns (f : Fld) (ix : List Nat) (j : Nat) (v : Bool) (d : Dev) : (wrBit f ix j v d).lns = d.lns := rfl
@[simp] theorem wrBit_ink (f : Fld) (ix : List Nat) (j : Nat) (v : Bool) (d : Dev) : (wrBit f ix j v d).ink = d.ink := rfl
@[simp] theorem wrBit_drams (f : Fld) (ix : List Nat) (j : Nat) (v : Bool) (d : Dev) : (wrBit f ix j v d).drams = d.drams := rfl
@[simp] theorem wrBit_flw (f : Fld) (ix : List Nat) (j : Nat) (v : Bool) (d : Dev) : (wrBit f ix j v d).flw = d.flw := rfl
@[simp] theorem wrBit_macs (f : Fld) (ix : List Nat) (j : Nat) (v : Bool) (d : Dev) : (wrBit f ix j v d).macs = d.macs := rfl
@[simp] theorem wrBit_sdi (f : Fld) (ix : List Nat) (j : Nat) (v : Bool) (d : Dev) : (wrBit f ix j v d).sdi = d.sdi := rfl
@[simp] theorem wrBit_qlt (f : Fld) (ix : List Nat) (j : Nat) (v : Bool) (d : Dev) : (wrBit f ix j v d).qlt = d.qlt := rfl
@[simp] theorem wrBit_aud (f : Fld) (ix : List Nat) (j : Nat) (v : Bool) (d : Dev) : (wrBit f ix j v d).aud = d.aud := rfl
@[simp] theorem wrBit_apt (f : Fld) (ix : List Nat) (j : Nat) (v : Bool) (d : Dev) : (wrBit f ix j v d).apt = d.apt := rfl
@[simp] theorem wrBit_gth (f : Fld) (ix : List Nat) (j : Nat) (v : Bool) (d : Dev) : (wrBit f ix j v d).gth = d.gth := rfl
@[simp] theorem wrBit_sea (f : Fld) (ix : List Nat) (j : Nat) (v : Bool) (d : Dev) : (wrBit f ix j v d).sea = d.sea := rfl
@[simp] theorem wrBit_tlr (f : Fld) (ix : List Nat) (j : Nat) (v : Bool) (d : Dev) : (wrBit f ix j v d).tlr = d.tlr := rfl
@[simp] theorem wrBit_icn (f : Fld) (ix : List Nat) (j : Nat) (v : Bool) (d : Dev) : (wrBit f ix j v d).icn = d.icn := rfl
@[simp] theorem wrBit_journal (f : Fld) (ix : List Nat) (j : Nat) (v : Bool) (d : Dev) : (wrBit f ix j v d).journal = d.journal := rfl
@[simp] theorem wrBit_nv (f : Fld) (ix : List Nat) (j : Nat) (v : Bool) (d : Dev) : (wrBit f ix j v d).nv = d.nv := rfl
@[simp] theorem wrBit_boot (f : Fld) (ix : List Nat) (j : Nat) (v : Bool) (d : Dev) : (wrBit f ix j v d).boot = d.boot := rfl
@[simp] theorem wrBit_pat (f : Fld) (ix : List Nat) (j : Nat) (v : Bool) (d : Dev) : (wrBit f ix j v d).pat = d.pat := rfl
@[simp] theorem wrBit_health (f : Fld) (ix : List Nat) (j : Nat) (v : Bool) (d : Dev) : (wrBit f ix j v d).health = d.health := rfl

/-! ### `wrS` -/

@[simp] theorem wrS_staged (f : Fld) (ix : List Nat) (v : Int) (d : Dev) : (wrS f ix v d).staged = d.staged := rfl
@[simp] theorem wrS_held (f : Fld) (ix : List Nat) (v : Int) (d : Dev) : (wrS f ix v d).held = d.held := rfl
@[simp] theorem wrS_ntw (f : Fld) (ix : List Nat) (v : Int) (d : Dev) : (wrS f ix v d).ntw = d.ntw := rfl
@[simp] theorem wrS_devTime (f : Fld) (ix : List Nat) (v : Int) (d : Dev) : (wrS f ix v d).devTime = d.devTime := rfl
@[simp] theorem wrS_freeCtr (f : Fld) (ix : List Nat) (v : Int) (d : Dev) : (wrS f ix v d).freeCtr = d.freeCtr := rfl
@[simp] theorem wrS_out (f : Fld) (ix : List Nat) (v : Int) (d : Dev) : (wrS f ix v d).out = d.out := rfl
@[simp] theorem wrS_lastSecond (f : Fld) (ix : List Nat) (v : Int) (d : Dev) : (wrS f ix v d).lastSecond = d.lastSecond := rfl
@[simp] theorem wrS_clocksStopped (f : Fld) (ix : List Nat) (v : Int) (d : Dev) : (wrS f ix v d).clocksStopped = d.clocksStopped := rfl
@[simp] theorem wrS_lastAt (f : Fld) (ix : List Nat) (v : Int) (d : Dev) : (wrS f ix v d).lastAt = d.lastAt := rfl
@[simp] theorem wrS_pins (f : Fld) (ix : List Nat) (v : Int) (d : Dev) : (wrS f ix v d).pins = d.pins := rfl
@[simp] theorem wrS_rul (f : Fld) (ix : List Nat) (v : Int) (d : Dev) : (wrS f ix v d).rul = d.rul := rfl
@[simp] theorem wrS_blt (f : Fld) (ix : List Nat) (v : Int) (d : Dev) : (wrS f ix v d).blt = d.blt := rfl
@[simp] theorem wrS_irq (f : Fld) (ix : List Nat) (v : Int) (d : Dev) : (wrS f ix v d).irq = d.irq := rfl
@[simp] theorem wrS_xpt (f : Fld) (ix : List Nat) (v : Int) (d : Dev) : (wrS f ix v d).xpt = d.xpt := rfl
@[simp] theorem wrS_lns (f : Fld) (ix : List Nat) (v : Int) (d : Dev) : (wrS f ix v d).lns = d.lns := rfl
@[simp] theorem wrS_ink (f : Fld) (ix : List Nat) (v : Int) (d : Dev) : (wrS f ix v d).ink = d.ink := rfl
@[simp] theorem wrS_drams (f : Fld) (ix : List Nat) (v : Int) (d : Dev) : (wrS f ix v d).drams = d.drams := rfl
@[simp] theorem wrS_flw (f : Fld) (ix : List Nat) (v : Int) (d : Dev) : (wrS f ix v d).flw = d.flw := rfl
@[simp] theorem wrS_macs (f : Fld) (ix : List Nat) (v : Int) (d : Dev) : (wrS f ix v d).macs = d.macs := rfl
@[simp] theorem wrS_sdi (f : Fld) (ix : List Nat) (v : Int) (d : Dev) : (wrS f ix v d).sdi = d.sdi := rfl
@[simp] theorem wrS_qlt (f : Fld) (ix : List Nat) (v : Int) (d : Dev) : (wrS f ix v d).qlt = d.qlt := rfl
@[simp] theorem wrS_aud (f : Fld) (ix : List Nat) (v : Int) (d : Dev) : (wrS f ix v d).aud = d.aud := rfl
@[simp] theorem wrS_apt (f : Fld) (ix : List Nat) (v : Int) (d : Dev) : (wrS f ix v d).apt = d.apt := rfl
@[simp] theorem wrS_gth (f : Fld) (ix : List Nat) (v : Int) (d : Dev) : (wrS f ix v d).gth = d.gth := rfl
@[simp] theorem wrS_sea (f : Fld) (ix : List Nat) (v : Int) (d : Dev) : (wrS f ix v d).sea = d.sea := rfl
@[simp] theorem wrS_tlr (f : Fld) (ix : List Nat) (v : Int) (d : Dev) : (wrS f ix v d).tlr = d.tlr := rfl
@[simp] theorem wrS_icn (f : Fld) (ix : List Nat) (v : Int) (d : Dev) : (wrS f ix v d).icn = d.icn := rfl
@[simp] theorem wrS_journal (f : Fld) (ix : List Nat) (v : Int) (d : Dev) : (wrS f ix v d).journal = d.journal := rfl
@[simp] theorem wrS_nv (f : Fld) (ix : List Nat) (v : Int) (d : Dev) : (wrS f ix v d).nv = d.nv := rfl
@[simp] theorem wrS_boot (f : Fld) (ix : List Nat) (v : Int) (d : Dev) : (wrS f ix v d).boot = d.boot := rfl
@[simp] theorem wrS_pat (f : Fld) (ix : List Nat) (v : Int) (d : Dev) : (wrS f ix v d).pat = d.pat := rfl
@[simp] theorem wrS_health (f : Fld) (ix : List Nat) (v : Int) (d : Dev) : (wrS f ix v d).health = d.health := rfl

/-! ### `count` -/

@[simp] theorem count_staged (f : Fld) (ix : List Nat) (n : Nat) (d : Dev) : (count f ix n d).staged = d.staged := rfl
@[simp] theorem count_held (f : Fld) (ix : List Nat) (n : Nat) (d : Dev) : (count f ix n d).held = d.held := rfl
@[simp] theorem count_ntw (f : Fld) (ix : List Nat) (n : Nat) (d : Dev) : (count f ix n d).ntw = d.ntw := rfl
@[simp] theorem count_devTime (f : Fld) (ix : List Nat) (n : Nat) (d : Dev) : (count f ix n d).devTime = d.devTime := rfl
@[simp] theorem count_freeCtr (f : Fld) (ix : List Nat) (n : Nat) (d : Dev) : (count f ix n d).freeCtr = d.freeCtr := rfl
@[simp] theorem count_out (f : Fld) (ix : List Nat) (n : Nat) (d : Dev) : (count f ix n d).out = d.out := rfl
@[simp] theorem count_lastSecond (f : Fld) (ix : List Nat) (n : Nat) (d : Dev) : (count f ix n d).lastSecond = d.lastSecond := rfl
@[simp] theorem count_clocksStopped (f : Fld) (ix : List Nat) (n : Nat) (d : Dev) : (count f ix n d).clocksStopped = d.clocksStopped := rfl
@[simp] theorem count_lastAt (f : Fld) (ix : List Nat) (n : Nat) (d : Dev) : (count f ix n d).lastAt = d.lastAt := rfl
@[simp] theorem count_pins (f : Fld) (ix : List Nat) (n : Nat) (d : Dev) : (count f ix n d).pins = d.pins := rfl
@[simp] theorem count_rul (f : Fld) (ix : List Nat) (n : Nat) (d : Dev) : (count f ix n d).rul = d.rul := rfl
@[simp] theorem count_blt (f : Fld) (ix : List Nat) (n : Nat) (d : Dev) : (count f ix n d).blt = d.blt := rfl
@[simp] theorem count_irq (f : Fld) (ix : List Nat) (n : Nat) (d : Dev) : (count f ix n d).irq = d.irq := rfl
@[simp] theorem count_xpt (f : Fld) (ix : List Nat) (n : Nat) (d : Dev) : (count f ix n d).xpt = d.xpt := rfl
@[simp] theorem count_lns (f : Fld) (ix : List Nat) (n : Nat) (d : Dev) : (count f ix n d).lns = d.lns := rfl
@[simp] theorem count_ink (f : Fld) (ix : List Nat) (n : Nat) (d : Dev) : (count f ix n d).ink = d.ink := rfl
@[simp] theorem count_drams (f : Fld) (ix : List Nat) (n : Nat) (d : Dev) : (count f ix n d).drams = d.drams := rfl
@[simp] theorem count_flw (f : Fld) (ix : List Nat) (n : Nat) (d : Dev) : (count f ix n d).flw = d.flw := rfl
@[simp] theorem count_macs (f : Fld) (ix : List Nat) (n : Nat) (d : Dev) : (count f ix n d).macs = d.macs := rfl
@[simp] theorem count_sdi (f : Fld) (ix : List Nat) (n : Nat) (d : Dev) : (count f ix n d).sdi = d.sdi := rfl
@[simp] theorem count_qlt (f : Fld) (ix : List Nat) (n : Nat) (d : Dev) : (count f ix n d).qlt = d.qlt := rfl
@[simp] theorem count_aud (f : Fld) (ix : List Nat) (n : Nat) (d : Dev) : (count f ix n d).aud = d.aud := rfl
@[simp] theorem count_apt (f : Fld) (ix : List Nat) (n : Nat) (d : Dev) : (count f ix n d).apt = d.apt := rfl
@[simp] theorem count_gth (f : Fld) (ix : List Nat) (n : Nat) (d : Dev) : (count f ix n d).gth = d.gth := rfl
@[simp] theorem count_sea (f : Fld) (ix : List Nat) (n : Nat) (d : Dev) : (count f ix n d).sea = d.sea := rfl
@[simp] theorem count_tlr (f : Fld) (ix : List Nat) (n : Nat) (d : Dev) : (count f ix n d).tlr = d.tlr := rfl
@[simp] theorem count_icn (f : Fld) (ix : List Nat) (n : Nat) (d : Dev) : (count f ix n d).icn = d.icn := rfl
@[simp] theorem count_journal (f : Fld) (ix : List Nat) (n : Nat) (d : Dev) : (count f ix n d).journal = d.journal := rfl
@[simp] theorem count_nv (f : Fld) (ix : List Nat) (n : Nat) (d : Dev) : (count f ix n d).nv = d.nv := rfl
@[simp] theorem count_boot (f : Fld) (ix : List Nat) (n : Nat) (d : Dev) : (count f ix n d).boot = d.boot := rfl
@[simp] theorem count_pat (f : Fld) (ix : List Nat) (n : Nat) (d : Dev) : (count f ix n d).pat = d.pat := rfl
@[simp] theorem count_health (f : Fld) (ix : List Nat) (n : Nat) (d : Dev) : (count f ix n d).health = d.health := rfl

/-! ### `countWrap` -/

@[simp] theorem countWrap_staged (f : Fld) (ix : List Nat) (n : Nat) (d : Dev) : (countWrap f ix n d).staged = d.staged := rfl
@[simp] theorem countWrap_held (f : Fld) (ix : List Nat) (n : Nat) (d : Dev) : (countWrap f ix n d).held = d.held := rfl
@[simp] theorem countWrap_ntw (f : Fld) (ix : List Nat) (n : Nat) (d : Dev) : (countWrap f ix n d).ntw = d.ntw := rfl
@[simp] theorem countWrap_devTime (f : Fld) (ix : List Nat) (n : Nat) (d : Dev) : (countWrap f ix n d).devTime = d.devTime := rfl
@[simp] theorem countWrap_freeCtr (f : Fld) (ix : List Nat) (n : Nat) (d : Dev) : (countWrap f ix n d).freeCtr = d.freeCtr := rfl
@[simp] theorem countWrap_out (f : Fld) (ix : List Nat) (n : Nat) (d : Dev) : (countWrap f ix n d).out = d.out := rfl
@[simp] theorem countWrap_lastSecond (f : Fld) (ix : List Nat) (n : Nat) (d : Dev) : (countWrap f ix n d).lastSecond = d.lastSecond := rfl
@[simp] theorem countWrap_clocksStopped (f : Fld) (ix : List Nat) (n : Nat) (d : Dev) : (countWrap f ix n d).clocksStopped = d.clocksStopped := rfl
@[simp] theorem countWrap_lastAt (f : Fld) (ix : List Nat) (n : Nat) (d : Dev) : (countWrap f ix n d).lastAt = d.lastAt := rfl
@[simp] theorem countWrap_pins (f : Fld) (ix : List Nat) (n : Nat) (d : Dev) : (countWrap f ix n d).pins = d.pins := rfl
@[simp] theorem countWrap_rul (f : Fld) (ix : List Nat) (n : Nat) (d : Dev) : (countWrap f ix n d).rul = d.rul := rfl
@[simp] theorem countWrap_blt (f : Fld) (ix : List Nat) (n : Nat) (d : Dev) : (countWrap f ix n d).blt = d.blt := rfl
@[simp] theorem countWrap_irq (f : Fld) (ix : List Nat) (n : Nat) (d : Dev) : (countWrap f ix n d).irq = d.irq := rfl
@[simp] theorem countWrap_xpt (f : Fld) (ix : List Nat) (n : Nat) (d : Dev) : (countWrap f ix n d).xpt = d.xpt := rfl
@[simp] theorem countWrap_lns (f : Fld) (ix : List Nat) (n : Nat) (d : Dev) : (countWrap f ix n d).lns = d.lns := rfl
@[simp] theorem countWrap_ink (f : Fld) (ix : List Nat) (n : Nat) (d : Dev) : (countWrap f ix n d).ink = d.ink := rfl
@[simp] theorem countWrap_drams (f : Fld) (ix : List Nat) (n : Nat) (d : Dev) : (countWrap f ix n d).drams = d.drams := rfl
@[simp] theorem countWrap_flw (f : Fld) (ix : List Nat) (n : Nat) (d : Dev) : (countWrap f ix n d).flw = d.flw := rfl
@[simp] theorem countWrap_macs (f : Fld) (ix : List Nat) (n : Nat) (d : Dev) : (countWrap f ix n d).macs = d.macs := rfl
@[simp] theorem countWrap_sdi (f : Fld) (ix : List Nat) (n : Nat) (d : Dev) : (countWrap f ix n d).sdi = d.sdi := rfl
@[simp] theorem countWrap_qlt (f : Fld) (ix : List Nat) (n : Nat) (d : Dev) : (countWrap f ix n d).qlt = d.qlt := rfl
@[simp] theorem countWrap_aud (f : Fld) (ix : List Nat) (n : Nat) (d : Dev) : (countWrap f ix n d).aud = d.aud := rfl
@[simp] theorem countWrap_apt (f : Fld) (ix : List Nat) (n : Nat) (d : Dev) : (countWrap f ix n d).apt = d.apt := rfl
@[simp] theorem countWrap_gth (f : Fld) (ix : List Nat) (n : Nat) (d : Dev) : (countWrap f ix n d).gth = d.gth := rfl
@[simp] theorem countWrap_sea (f : Fld) (ix : List Nat) (n : Nat) (d : Dev) : (countWrap f ix n d).sea = d.sea := rfl
@[simp] theorem countWrap_tlr (f : Fld) (ix : List Nat) (n : Nat) (d : Dev) : (countWrap f ix n d).tlr = d.tlr := rfl
@[simp] theorem countWrap_icn (f : Fld) (ix : List Nat) (n : Nat) (d : Dev) : (countWrap f ix n d).icn = d.icn := rfl
@[simp] theorem countWrap_journal (f : Fld) (ix : List Nat) (n : Nat) (d : Dev) : (countWrap f ix n d).journal = d.journal := rfl
@[simp] theorem countWrap_nv (f : Fld) (ix : List Nat) (n : Nat) (d : Dev) : (countWrap f ix n d).nv = d.nv := rfl
@[simp] theorem countWrap_boot (f : Fld) (ix : List Nat) (n : Nat) (d : Dev) : (countWrap f ix n d).boot = d.boot := rfl
@[simp] theorem countWrap_pat (f : Fld) (ix : List Nat) (n : Nat) (d : Dev) : (countWrap f ix n d).pat = d.pat := rfl
@[simp] theorem countWrap_health (f : Fld) (ix : List Nat) (n : Nat) (d : Dev) : (countWrap f ix n d).health = d.health := rfl

/-! ### `toReset` -/

@[simp] theorem toReset_staged (f : Fld) (ix : List Nat) (d : Dev) : (toReset f ix d).staged = d.staged := rfl
@[simp] theorem toReset_held (f : Fld) (ix : List Nat) (d : Dev) : (toReset f ix d).held = d.held := rfl
@[simp] theorem toReset_ntw (f : Fld) (ix : List Nat) (d : Dev) : (toReset f ix d).ntw = d.ntw := rfl
@[simp] theorem toReset_devTime (f : Fld) (ix : List Nat) (d : Dev) : (toReset f ix d).devTime = d.devTime := rfl
@[simp] theorem toReset_freeCtr (f : Fld) (ix : List Nat) (d : Dev) : (toReset f ix d).freeCtr = d.freeCtr := rfl
@[simp] theorem toReset_out (f : Fld) (ix : List Nat) (d : Dev) : (toReset f ix d).out = d.out := rfl
@[simp] theorem toReset_lastSecond (f : Fld) (ix : List Nat) (d : Dev) : (toReset f ix d).lastSecond = d.lastSecond := rfl
@[simp] theorem toReset_clocksStopped (f : Fld) (ix : List Nat) (d : Dev) : (toReset f ix d).clocksStopped = d.clocksStopped := rfl
@[simp] theorem toReset_lastAt (f : Fld) (ix : List Nat) (d : Dev) : (toReset f ix d).lastAt = d.lastAt := rfl
@[simp] theorem toReset_pins (f : Fld) (ix : List Nat) (d : Dev) : (toReset f ix d).pins = d.pins := rfl
@[simp] theorem toReset_rul (f : Fld) (ix : List Nat) (d : Dev) : (toReset f ix d).rul = d.rul := rfl
@[simp] theorem toReset_blt (f : Fld) (ix : List Nat) (d : Dev) : (toReset f ix d).blt = d.blt := rfl
@[simp] theorem toReset_irq (f : Fld) (ix : List Nat) (d : Dev) : (toReset f ix d).irq = d.irq := rfl
@[simp] theorem toReset_xpt (f : Fld) (ix : List Nat) (d : Dev) : (toReset f ix d).xpt = d.xpt := rfl
@[simp] theorem toReset_lns (f : Fld) (ix : List Nat) (d : Dev) : (toReset f ix d).lns = d.lns := rfl
@[simp] theorem toReset_ink (f : Fld) (ix : List Nat) (d : Dev) : (toReset f ix d).ink = d.ink := rfl
@[simp] theorem toReset_drams (f : Fld) (ix : List Nat) (d : Dev) : (toReset f ix d).drams = d.drams := rfl
@[simp] theorem toReset_flw (f : Fld) (ix : List Nat) (d : Dev) : (toReset f ix d).flw = d.flw := rfl
@[simp] theorem toReset_macs (f : Fld) (ix : List Nat) (d : Dev) : (toReset f ix d).macs = d.macs := rfl
@[simp] theorem toReset_sdi (f : Fld) (ix : List Nat) (d : Dev) : (toReset f ix d).sdi = d.sdi := rfl
@[simp] theorem toReset_qlt (f : Fld) (ix : List Nat) (d : Dev) : (toReset f ix d).qlt = d.qlt := rfl
@[simp] theorem toReset_aud (f : Fld) (ix : List Nat) (d : Dev) : (toReset f ix d).aud = d.aud := rfl
@[simp] theorem toReset_apt (f : Fld) (ix : List Nat) (d : Dev) : (toReset f ix d).apt = d.apt := rfl
@[simp] theorem toReset_gth (f : Fld) (ix : List Nat) (d : Dev) : (toReset f ix d).gth = d.gth := rfl
@[simp] theorem toReset_sea (f : Fld) (ix : List Nat) (d : Dev) : (toReset f ix d).sea = d.sea := rfl
@[simp] theorem toReset_tlr (f : Fld) (ix : List Nat) (d : Dev) : (toReset f ix d).tlr = d.tlr := rfl
@[simp] theorem toReset_icn (f : Fld) (ix : List Nat) (d : Dev) : (toReset f ix d).icn = d.icn := rfl
@[simp] theorem toReset_journal (f : Fld) (ix : List Nat) (d : Dev) : (toReset f ix d).journal = d.journal := rfl
@[simp] theorem toReset_nv (f : Fld) (ix : List Nat) (d : Dev) : (toReset f ix d).nv = d.nv := rfl
@[simp] theorem toReset_boot (f : Fld) (ix : List Nat) (d : Dev) : (toReset f ix d).boot = d.boot := rfl
@[simp] theorem toReset_pat (f : Fld) (ix : List Nat) (d : Dev) : (toReset f ix d).pat = d.pat := rfl
@[simp] theorem toReset_health (f : Fld) (ix : List Nat) (d : Dev) : (toReset f ix d).health = d.health := rfl

/-! ### `emit` -/

@[simp] theorem emit_regs (o : Out) (d : Dev) : (emit o d).regs = d.regs := rfl
@[simp] theorem emit_staged (o : Out) (d : Dev) : (emit o d).staged = d.staged := rfl
@[simp] theorem emit_held (o : Out) (d : Dev) : (emit o d).held = d.held := rfl
@[simp] theorem emit_ntw (o : Out) (d : Dev) : (emit o d).ntw = d.ntw := rfl
@[simp] theorem emit_devTime (o : Out) (d : Dev) : (emit o d).devTime = d.devTime := rfl
@[simp] theorem emit_freeCtr (o : Out) (d : Dev) : (emit o d).freeCtr = d.freeCtr := rfl
@[simp] theorem emit_lastSecond (o : Out) (d : Dev) : (emit o d).lastSecond = d.lastSecond := rfl
@[simp] theorem emit_clocksStopped (o : Out) (d : Dev) : (emit o d).clocksStopped = d.clocksStopped := rfl
@[simp] theorem emit_lastAt (o : Out) (d : Dev) : (emit o d).lastAt = d.lastAt := rfl
@[simp] theorem emit_pins (o : Out) (d : Dev) : (emit o d).pins = d.pins := rfl
@[simp] theorem emit_rul (o : Out) (d : Dev) : (emit o d).rul = d.rul := rfl
@[simp] theorem emit_blt (o : Out) (d : Dev) : (emit o d).blt = d.blt := rfl
@[simp] theorem emit_irq (o : Out) (d : Dev) : (emit o d).irq = d.irq := rfl
@[simp] theorem emit_xpt (o : Out) (d : Dev) : (emit o d).xpt = d.xpt := rfl
@[simp] theorem emit_lns (o : Out) (d : Dev) : (emit o d).lns = d.lns := rfl
@[simp] theorem emit_ink (o : Out) (d : Dev) : (emit o d).ink = d.ink := rfl
@[simp] theorem emit_drams (o : Out) (d : Dev) : (emit o d).drams = d.drams := rfl
@[simp] theorem emit_flw (o : Out) (d : Dev) : (emit o d).flw = d.flw := rfl
@[simp] theorem emit_macs (o : Out) (d : Dev) : (emit o d).macs = d.macs := rfl
@[simp] theorem emit_sdi (o : Out) (d : Dev) : (emit o d).sdi = d.sdi := rfl
@[simp] theorem emit_qlt (o : Out) (d : Dev) : (emit o d).qlt = d.qlt := rfl
@[simp] theorem emit_aud (o : Out) (d : Dev) : (emit o d).aud = d.aud := rfl
@[simp] theorem emit_apt (o : Out) (d : Dev) : (emit o d).apt = d.apt := rfl
@[simp] theorem emit_gth (o : Out) (d : Dev) : (emit o d).gth = d.gth := rfl
@[simp] theorem emit_sea (o : Out) (d : Dev) : (emit o d).sea = d.sea := rfl
@[simp] theorem emit_tlr (o : Out) (d : Dev) : (emit o d).tlr = d.tlr := rfl
@[simp] theorem emit_icn (o : Out) (d : Dev) : (emit o d).icn = d.icn := rfl
@[simp] theorem emit_journal (o : Out) (d : Dev) : (emit o d).journal = d.journal := rfl
@[simp] theorem emit_nv (o : Out) (d : Dev) : (emit o d).nv = d.nv := rfl
@[simp] theorem emit_boot (o : Out) (d : Dev) : (emit o d).boot = d.boot := rfl
@[simp] theorem emit_pat (o : Out) (d : Dev) : (emit o d).pat = d.pat := rfl
@[simp] theorem emit_health (o : Out) (d : Dev) : (emit o d).health = d.health := rfl

/-! ### `advance` -/

@[simp] theorem advance_regs (n : Nat) (d : Dev) : (advance n d).regs = d.regs := by unfold advance; split <;> rfl
@[simp] theorem advance_staged (n : Nat) (d : Dev) : (advance n d).staged = d.staged := by unfold advance; split <;> rfl
@[simp] theorem advance_held (n : Nat) (d : Dev) : (advance n d).held = d.held := by unfold advance; split <;> rfl
@[simp] theorem advance_freeCtr (n : Nat) (d : Dev) : (advance n d).freeCtr = d.freeCtr := by unfold advance; split <;> rfl
@[simp] theorem advance_out (n : Nat) (d : Dev) : (advance n d).out = d.out := by unfold advance; split <;> rfl
@[simp] theorem advance_lastSecond (n : Nat) (d : Dev) : (advance n d).lastSecond = d.lastSecond := by unfold advance; split <;> rfl
@[simp] theorem advance_clocksStopped (n : Nat) (d : Dev) : (advance n d).clocksStopped = d.clocksStopped := by unfold advance; split <;> rfl
@[simp] theorem advance_lastAt (n : Nat) (d : Dev) : (advance n d).lastAt = d.lastAt := by unfold advance; split <;> rfl
@[simp] theorem advance_pins (n : Nat) (d : Dev) : (advance n d).pins = d.pins := by unfold advance; split <;> rfl
@[simp] theorem advance_rul (n : Nat) (d : Dev) : (advance n d).rul = d.rul := by unfold advance; split <;> rfl
@[simp] theorem advance_blt (n : Nat) (d : Dev) : (advance n d).blt = d.blt := by unfold advance; split <;> rfl
@[simp] theorem advance_irq (n : Nat) (d : Dev) : (advance n d).irq = d.irq := by unfold advance; split <;> rfl
@[simp] theorem advance_xpt (n : Nat) (d : Dev) : (advance n d).xpt = d.xpt := by unfold advance; split <;> rfl
@[simp] theorem advance_lns (n : Nat) (d : Dev) : (advance n d).lns = d.lns := by unfold advance; split <;> rfl
@[simp] theorem advance_ink (n : Nat) (d : Dev) : (advance n d).ink = d.ink := by unfold advance; split <;> rfl
@[simp] theorem advance_drams (n : Nat) (d : Dev) : (advance n d).drams = d.drams := by unfold advance; split <;> rfl
@[simp] theorem advance_flw (n : Nat) (d : Dev) : (advance n d).flw = d.flw := by unfold advance; split <;> rfl
@[simp] theorem advance_macs (n : Nat) (d : Dev) : (advance n d).macs = d.macs := by unfold advance; split <;> rfl
@[simp] theorem advance_sdi (n : Nat) (d : Dev) : (advance n d).sdi = d.sdi := by unfold advance; split <;> rfl
@[simp] theorem advance_qlt (n : Nat) (d : Dev) : (advance n d).qlt = d.qlt := by unfold advance; split <;> rfl
@[simp] theorem advance_aud (n : Nat) (d : Dev) : (advance n d).aud = d.aud := by unfold advance; split <;> rfl
@[simp] theorem advance_apt (n : Nat) (d : Dev) : (advance n d).apt = d.apt := by unfold advance; split <;> rfl
@[simp] theorem advance_gth (n : Nat) (d : Dev) : (advance n d).gth = d.gth := by unfold advance; split <;> rfl
@[simp] theorem advance_sea (n : Nat) (d : Dev) : (advance n d).sea = d.sea := by unfold advance; split <;> rfl
@[simp] theorem advance_tlr (n : Nat) (d : Dev) : (advance n d).tlr = d.tlr := by unfold advance; split <;> rfl
@[simp] theorem advance_icn (n : Nat) (d : Dev) : (advance n d).icn = d.icn := by unfold advance; split <;> rfl
@[simp] theorem advance_journal (n : Nat) (d : Dev) : (advance n d).journal = d.journal := by unfold advance; split <;> rfl
@[simp] theorem advance_nv (n : Nat) (d : Dev) : (advance n d).nv = d.nv := by unfold advance; split <;> rfl
@[simp] theorem advance_boot (n : Nat) (d : Dev) : (advance n d).boot = d.boot := by unfold advance; split <;> rfl
@[simp] theorem advance_pat (n : Nat) (d : Dev) : (advance n d).pat = d.pat := by unfold advance; split <;> rfl
@[simp] theorem advance_health (n : Nat) (d : Dev) : (advance n d).health = d.health := by unfold advance; split <;> rfl

/-! ### The queue -/

@[simp] theorem State.setDev_pending (s : State) (d : Dev) : ({ s with dev := d } : State).pending = s.pending := rfl
@[simp] theorem State.setDev_dev (s : State) (d : Dev) : ({ s with dev := d } : State).dev = d := rfl
@[simp] theorem State.setPending_dev (s : State) (q : List Instr) : ({ s with pending := q } : State).dev = s.dev := rfl
@[simp] theorem State.setPending_pending (s : State) (q : List Instr) : ({ s with pending := q } : State).pending = q := rfl

end Sys2Proof.Machine
end

