-- ==== Sys2Proof/Laws/Tables.lean ====
section
/-! SUPPORT. What the table operations do: a read after a write, the canonical form they keep, and that equal tables are equal data. -/

namespace Sys2Proof.Machine

variable {α : Type}

/-- Every index of a table is above a bound. -/
def tabAbove (b : Nat) (t : Tab α) : Prop := ∀ p ∈ t, b < p.1

theorem tabGet_nil (d : α) (k : Nat) : tabGet d [] k = d := rfl

theorem tabGet_absent (d : α) (t : Tab α) (k : Nat) (h : ∀ p ∈ t, p.1 ≠ k) : tabGet d t k = d := by
  induction t with
  | nil => rfl
  | cons p rest ih =>
    have h1 : p.1 ≠ k := h p (by simp)
    simp only [tabGet, if_neg h1]
    exact ih (fun q hq => h q (by simp [hq]))

theorem tabDel_absent (t : Tab α) (k : Nat) : ∀ p ∈ tabDel t k, p.1 ≠ k := by
  intro p hp; simp only [tabDel, List.mem_filter] at hp; simpa using hp.2

theorem tabGet_del_same (d : α) (t : Tab α) (k : Nat) : tabGet d (tabDel t k) k = d :=
  tabGet_absent d _ k (tabDel_absent t k)

theorem tabGet_del_ne (d : α) (t : Tab α) {j k : Nat} (h : j ≠ k) : tabGet d (tabDel t k) j = tabGet d t j := by
  induction t with
  | nil => rfl
  | cons p rest ih =>
    by_cases hp : p.1 = k
    · have : tabDel (p :: rest) k = tabDel rest k := by simp [tabDel, hp]
      rw [this, ih]; simp only [tabGet]; rw [if_neg (by omega)]
    · have : tabDel (p :: rest) k = p :: tabDel rest k := by simp [tabDel, hp]
      rw [this]; simp only [tabGet]; rw [ih]

theorem tabGet_ins_same (d : α) (t : Tab α) (k : Nat) (v : α) (h : ∀ p ∈ t, p.1 ≠ k) : tabGet d (tabIns t k v) k = v := by
  induction t with
  | nil => simp [tabIns, tabGet]
  | cons p rest ih =>
    simp only [tabIns]; split
    · simp [tabGet]
    · simp only [tabGet]; rw [if_neg (h p (by simp))]; exact ih (fun q hq => h q (by simp [hq]))

theorem tabGet_ins_ne (d : α) (t : Tab α) {j k : Nat} (v : α) (h : j ≠ k) : tabGet d (tabIns t k v) j = tabGet d t j := by
  induction t with
  | nil => simp [tabIns, tabGet]; omega
  | cons p rest ih =>
    simp only [tabIns]; split
    · simp only [tabGet]; rw [if_neg (show ¬ k = j by omega)]
    · simp only [tabGet, ih]

variable [DecidableEq α]

/-- A read after a write of the same index gives what was written. -/
@[simp] theorem tabGet_set_same (d : α) (t : Tab α) (k : Nat) (v : α) : tabGet d (tabSet d t k v) k = v := by
  unfold tabSet; split
  · rename_i h; rw [h]; exact tabGet_del_same d t k
  · exact tabGet_ins_same d _ k v (tabDel_absent t k)

/-- A write leaves every other index alone. -/
theorem tabGet_set_ne (d : α) (t : Tab α) {j k : Nat} (v : α) (h : j ≠ k) : tabGet d (tabSet d t k v) j = tabGet d t j := by
  unfold tabSet; split
  · exact tabGet_del_ne d t h
  · rw [tabGet_ins_ne d _ v h]; exact tabGet_del_ne d t h

theorem tabGet_set (d : α) (t : Tab α) (j k : Nat) (v : α) : tabGet d (tabSet d t k v) j = if j = k then v else tabGet d t j := by
  split
  · rename_i h; rw [h]; exact tabGet_set_same d t k v
  · rename_i h; exact tabGet_set_ne d t v h

/-! ### The canonical form -/

theorem tabWf_nil (d : α) : tabWf d ([] : Tab α) = true := rfl

theorem tabWf_cons (d : α) (p : Nat × α) (t : Tab α) : tabWf d (p :: t) = true ↔ p.2 ≠ d ∧ tabAbove p.1 t ∧ tabWf d t = true := by
  obtain ⟨k, v⟩ := p
  simp only [tabWf, Bool.and_eq_true, decide_eq_true_eq, List.all_eq_true, tabAbove]
  constructor
  · rintro ⟨⟨a, b⟩, c⟩; exact ⟨a, b, c⟩
  · rintro ⟨a, b, c⟩; exact ⟨⟨a, b⟩, c⟩

theorem tabWf_filter (d : α) (t : Tab α) (q : Nat × α → Bool) (h : tabWf d t = true) : tabWf d (t.filter q) = true := by
  induction t with
  | nil => exact h
  | cons p rest ih =>
    rw [tabWf_cons] at h
    by_cases hq : q p = true
    · rw [List.filter_cons_of_pos hq, tabWf_cons]
      exact ⟨h.1, fun x hx => h.2.1 x (List.mem_filter.1 hx).1, ih h.2.2⟩
    · rw [List.filter_cons_of_neg hq]; exact ih h.2.2

theorem tabWf_del (d : α) (t : Tab α) (k : Nat) (h : tabWf d t = true) : tabWf d (tabDel t k) = true := tabWf_filter d t _ h

omit [DecidableEq α] in
theorem tabIns_mem (t : Tab α) (k : Nat) (v : α) : ∀ p ∈ tabIns t k v, p = (k, v) ∨ p ∈ t := by
  induction t with
  | nil => intro p hp; simp only [tabIns, List.mem_singleton] at hp; exact Or.inl hp
  | cons q rest ih =>
    intro p hp
    simp only [tabIns] at hp
    split at hp
    · rcases List.mem_cons.1 hp with hp | hp
      · exact Or.inl hp
      · exact Or.inr hp
    · rcases List.mem_cons.1 hp with hp | hp
      · exact Or.inr (List.mem_cons.2 (Or.inl hp))
      · rcases ih p hp with h | h
        · exact Or.inl h
        · exact Or.inr (List.mem_cons_of_mem _ h)

theorem tabWf_ins (d : α) (t : Tab α) (k : Nat) (v : α) (hv : v ≠ d) (hk : ∀ p ∈ t, p.1 ≠ k) (h : tabWf d t = true) :
    tabWf d (tabIns t k v) = true := by
  induction t with
  | nil => simp [tabIns, tabWf, hv]
  | cons q rest ih =>
    have h' := (tabWf_cons d q rest).1 h
    simp only [tabIns]; split
    · rename_i hlt
      rw [tabWf_cons]; refine ⟨hv, ?_, h⟩
      intro x hx; simp only [List.mem_cons] at hx
      rcases hx with hx | hx
      · rw [hx]; exact hlt
      · exact Nat.lt_trans hlt (h'.2.1 x hx)
    · rename_i hlt
      have hne := hk q (by simp)
      have hlt' : q.1 < k := by omega
      show tabWf d (q :: tabIns rest k v) = true
      rw [tabWf_cons]; refine ⟨h'.1, ?_, ih (fun p hp => hk p (by simp [hp])) h'.2.2⟩
      intro x hx
      rcases tabIns_mem rest k v x hx with hx | hx
      · rw [hx]; exact hlt'
      · exact h'.2.1 x hx

/-- A write keeps the canonical form. -/
theorem tabWf_set (d : α) (t : Tab α) (k : Nat) (v : α) (h : tabWf d t = true) : tabWf d (tabSet d t k v) = true := by
  unfold tabSet; split
  · exact tabWf_del d t k h
  · rename_i hv; exact tabWf_ins d _ k v hv (tabDel_absent t k) (tabWf_del d t k h)

theorem tabWf_mod (d : α) (t : Tab α) (k : Nat) (f : α → α) (h : tabWf d t = true) : tabWf d (tabMod d t k f) = true := tabWf_set d t k _ h

omit [DecidableEq α] in
theorem tabGet_below (d : α) (t : Tab α) (k : Nat) (h : tabAbove k t) : tabGet d t k = d :=
  tabGet_absent d t k (fun p hp => by have := h p hp; omega)

/-- Two tables in canonical form that read alike are the same data. -/
theorem tab_ext (d : α) (s t : Tab α) (hs : tabWf d s = true) (ht : tabWf d t = true) (h : ∀ k, tabGet d s k = tabGet d t k) : s = t := by
  induction s generalizing t with
  | nil =>
    cases t with
    | nil => rfl
    | cons q rest =>
      have hq := (tabWf_cons d q rest).1 ht
      have := h q.1
      simp only [tabGet, if_true] at this
      exact absurd this.symm hq.1
  | cons p rest ih =>
    have hp := (tabWf_cons d p rest).1 hs
    cases t with
    | nil =>
      have := h p.1
      simp only [tabGet, if_true] at this
      exact absurd this hp.1
    | cons q rest' =>
      have hq := (tabWf_cons d q rest').1 ht
      have e1 := h p.1
      have e2 := h q.1
      simp only [tabGet, if_true] at e1 e2
      have hk : p.1 = q.1 := by
        rcases Nat.lt_trichotomy p.1 q.1 with hlt | heq | hgt
        · rw [if_neg (by omega), tabGet_below d rest' p.1 (fun x hx => Nat.lt_trans hlt (hq.2.1 x hx))] at e1
          exact absurd e1 hp.1
        · exact heq
        · rw [if_neg (by omega), tabGet_below d rest q.1 (fun x hx => Nat.lt_trans hgt (hp.2.1 x hx))] at e2
          exact absurd e2.symm hq.1
      rw [if_pos hk.symm] at e1
      have hpq : p = q := Prod.ext hk e1
      subst hpq
      congr 1
      apply ih rest' hp.2.2 hq.2.2
      intro k
      by_cases hkk : k = p.1
      · rw [hkk, tabGet_below d rest p.1 hp.2.1, tabGet_below d rest' p.1 hq.2.1]
      · have := h k
        simp only [tabGet] at this
        rwa [if_neg (fun e => hkk e.symm), if_neg (fun e => hkk e.symm)] at this

end Sys2Proof.Machine
end

