-- ==== Sys2Proof/Laws/Registers.lean ====
section
/-! SUPPORT. What the operations on register fields do: each writes one field instance, keeps its width and leaves every other alone. -/

namespace Sys2Proof.Machine

theorem Nat.xor_self_right (a b : Nat) : Nat.xor (Nat.xor a b) b = a := by
  show (a ^^^ b) ^^^ b = a
  rw [Nat.xor_assoc, Nat.xor_self, Nat.xor_zero]

/-- A field reads back what was written, in its width. -/
theorem rd_wr_same (f : Fld) (ix : List Nat) (v : Nat) (d : Dev) : rd f ix (wr f ix v d) = v % 2 ^ f.w := by
  unfold rd wr; simp only [tabGet_set_same]; exact Nat.xor_self_right _ _

/-- Writing one field instance leaves every other alone. -/
theorem rd_wr_ne {f g : Fld} {ix jx : List Nat} (v : Nat) (d : Dev) (h : fldKey g jx ≠ fldKey f ix) :
    rd g jx (wr f ix v d) = rd g jx d := by
  unfold rd wr; simp only [tabGet_set_ne _ _ _ h]

theorem rd_wrB_ne {f g : Fld} {ix jx : List Nat} (v : Bool) (d : Dev) (h : fldKey g jx ≠ fldKey f ix) :
    rd g jx (wrB f ix v d) = rd g jx d := rd_wr_ne _ d h

theorem rd_wrBit_ne {f g : Fld} {ix jx : List Nat} (j : Nat) (v : Bool) (d : Dev) (h : fldKey g jx ≠ fldKey f ix) :
    rd g jx (wrBit f ix j v d) = rd g jx d := rd_wr_ne _ d h

theorem rd_wrS_ne {f g : Fld} {ix jx : List Nat} (v : Int) (d : Dev) (h : fldKey g jx ≠ fldKey f ix) :
    rd g jx (wrS f ix v d) = rd g jx d := rd_wr_ne _ d h

theorem rd_count_ne {f g : Fld} {ix jx : List Nat} (n : Nat) (d : Dev) (h : fldKey g jx ≠ fldKey f ix) :
    rd g jx (count f ix n d) = rd g jx d := rd_wr_ne _ d h

theorem rd_countWrap_ne {f g : Fld} {ix jx : List Nat} (n : Nat) (d : Dev) (h : fldKey g jx ≠ fldKey f ix) :
    rd g jx (countWrap f ix n d) = rd g jx d := rd_wr_ne _ d h

theorem rd_toReset_same (f : Fld) (ix : List Nat) (d : Dev) : rd f ix (toReset f ix d) = f.reset ix := by
  unfold rd toReset; simp only [tabGet_del_same]; exact Nat.zero_xor _

theorem rd_toReset_ne {f g : Fld} {ix jx : List Nat} (d : Dev) (h : fldKey g jx ≠ fldKey f ix) :
    rd g jx (toReset f ix d) = rd g jx d := by
  unfold rd toReset; simp only [tabGet_del_ne _ _ h]

/-- A one-bit field reads back the truth value written. -/
theorem rdB_wrB_same (f : Fld) (ix : List Nat) (b : Bool) (d : Dev) (h : 1 ≤ f.w) : rdB f ix (wrB f ix b d) = b := by
  unfold rdB wrB; rw [rd_wr_same]
  have : 2 ≤ 2 ^ f.w := Nat.le_trans (by decide) (Nat.pow_le_pow_right (by decide) h)
  cases b
  · simp
  · simp only [if_true]; rw [Nat.mod_eq_of_lt (by omega)]; rfl

theorem rdB_wr_ne {f g : Fld} {ix jx : List Nat} (v : Nat) (d : Dev) (h : fldKey g jx ≠ fldKey f ix) :
    rdB g jx (wr f ix v d) = rdB g jx d := by unfold rdB; rw [rd_wr_ne v d h]

/-- A saturating counter. -/
theorem rd_count_same (f : Fld) (ix : List Nat) (n : Nat) (d : Dev) :
    rd f ix (count f ix n d) = min (2 ^ f.w - 1) (rd f ix d + n) := by
  unfold count; rw [rd_wr_same]
  have : 1 ≤ 2 ^ f.w := Nat.one_le_two_pow
  exact Nat.mod_eq_of_lt (by omega)

theorem rd_countWrap_same (f : Fld) (ix : List Nat) (n : Nat) (d : Dev) :
    rd f ix (countWrap f ix n d) = (rd f ix d + n) % 2 ^ f.w := rd_wr_same f ix _ d

/-- What a field reads depends on the register table only. -/
theorem rd_congr (f : Fld) (ix : List Nat) {d e : Dev} (h : d.regs = e.regs) : rd f ix d = rd f ix e := by
  unfold rd; rw [h]

theorem rdB_congr (f : Fld) (ix : List Nat) {d e : Dev} (h : d.regs = e.regs) : rdB f ix d = rdB f ix e := by
  unfold rdB; rw [rd_congr f ix h]

/-- The steering in force, and with it the length of a core cycle, depend on the registers only. -/
theorem rd_advance (f : Fld) (ix : List Nat) (n : Nat) (d : Dev) : rd f ix (advance n d) = rd f ix d :=
  rd_congr f ix (advance_regs n d)

theorem advance_running (n : Nat) (d : Dev) (h : d.clocksStopped = false) (p : d.pins.porstLow = false) :
    advance n d = { d with ntw := d.ntw + n * cycleUnits (steering d), devTime := d.devTime + n * cycleUnits (steering d) } := by
  unfold advance; simp [h, p]

theorem advance_stopped (n : Nat) (d : Dev) (h : d.clocksStopped = true ∨ d.pins.porstLow = true) : advance n d = d := by
  unfold advance; rcases h with h | h <;> simp [h]

theorem tabWf_wr (f : Fld) (ix : List Nat) (v : Nat) (d : Dev) (h : tabWf 0 d.regs = true) : tabWf 0 (wr f ix v d).regs = true :=
  tabWf_set 0 _ _ _ h

theorem tabWf_toReset (f : Fld) (ix : List Nat) (d : Dev) (h : tabWf 0 d.regs = true) : tabWf 0 (toReset f ix d).regs = true :=
  tabWf_del 0 _ _ h

/-! ### Bits of a field -/

theorem testBit_clear_above (x j k : Nat) (h : Nat.testBit x j = true) (hk : j < k) : Nat.testBit (x - 2 ^ j) k = Nat.testBit x k := by
  have hle : 2 ^ j ≤ x := Nat.ge_two_pow_of_testBit h
  have hxy : x = 2 ^ j + (x - 2 ^ j) := by omega
  generalize x - 2 ^ j = y at hxy
  have hy : Nat.testBit y j = false := by rw [hxy, Nat.testBit_two_pow_add_eq] at h; simpa using h
  have hb : y % 2 ^ (j + 1) < 2 ^ j := by
    rw [Nat.testBit_eq_decide_div_mod_eq] at hy
    have h0 : y / 2 ^ j % 2 = 0 := by have := of_decide_eq_false hy; omega
    rw [Nat.mod_pow_succ, h0]; simp; exact Nat.mod_lt _ (Nat.two_pow_pos j)
  have hp : 2 ^ (j + 1) = 2 ^ j + 2 ^ j := by rw [Nat.pow_succ]; omega
  have e1 : y = 2 ^ (j + 1) * (y / 2 ^ (j + 1)) + y % 2 ^ (j + 1) := (Nat.div_add_mod y _).symm
  have e2 : x = 2 ^ (j + 1) * (y / 2 ^ (j + 1)) + (2 ^ j + y % 2 ^ (j + 1)) := by omega
  have hy' := Nat.testBit_two_pow_mul_add (y / 2 ^ (j + 1)) (show y % 2 ^ (j + 1) < 2 ^ (j + 1) by omega) k
  rw [← e1, if_neg (by omega)] at hy'
  rw [e2, Nat.testBit_two_pow_mul_add _ (by omega), if_neg (by omega), hy']

/-- Setting or clearing a bit changes that bit alone. -/
theorem testBit_withBit (x j k : Nat) (b : Bool) : Nat.testBit (withBit x j b) k = if k = j then b else Nat.testBit x k := by
  unfold withBit
  cases b with
  | true =>
    simp only [if_true]
    show (x ||| 2 ^ j).testBit k = _
    rw [Nat.testBit_or, Nat.testBit_two_pow]
    by_cases h : k = j
    · simp [h]
    · rw [if_neg h]; have : decide (j = k) = false := decide_eq_false (fun e => h e.symm); rw [this, Bool.or_false]
  | false =>
    simp only [Bool.false_eq_true, if_false]
    by_cases hx : Nat.testBit x j = true
    · rw [if_pos hx]
      have hle : 2 ^ j ≤ x := Nat.ge_two_pow_of_testBit hx
      have hxy : x = 2 ^ j + (x - 2 ^ j) := by omega
      rcases Nat.lt_trichotomy k j with hk | hk | hk
      · rw [if_neg (by omega)]; have e := Nat.testBit_two_pow_add_gt hk (x - 2 ^ j); rw [← hxy] at e; exact e.symm
      · rw [if_pos hk, hk]; have := hx; rw [hxy, Nat.testBit_two_pow_add_eq] at this; simpa using this
      · rw [if_neg (by omega)]; exact testBit_clear_above x j k hx hk
    · rw [if_neg hx]; split
      · rename_i h; rw [h]; simpa using hx
      · rfl

theorem withBit_lt {x j w : Nat} (b : Bool) (hx : x < 2 ^ w) (hj : j < w) : withBit x j b < 2 ^ w := by
  unfold withBit
  cases b with
  | true => simp only [if_true]; exact Nat.or_lt_two_pow hx (Nat.pow_lt_pow_right (by decide) hj)
  | false =>
    simp only [Bool.false_eq_true, if_false]; split
    · exact Nat.lt_of_le_of_lt (Nat.sub_le _ _) hx
    · exact hx

/-- A bit written reads back, and the field's other bits stay. -/
theorem rdBit_wrBit_same (f : Fld) (ix : List Nat) (j k : Nat) (b : Bool) (d : Dev) (hk : k < f.w) :
    rdBit f ix k (wrBit f ix j b d) = if k = j then b else rdBit f ix k d := by
  unfold rdBit wrBit
  rw [rd_wr_same, Nat.testBit_mod_two_pow, testBit_withBit]
  simp [hk]

theorem rdBit_wr_ne {f g : Fld} {ix jx : List Nat} (v j : Nat) (d : Dev) (h : fldKey g jx ≠ fldKey f ix) :
    rdBit g jx j (wr f ix v d) = rdBit g jx j d := by unfold rdBit; rw [rd_wr_ne v d h]

theorem rdBit_wrBit_ne {f g : Fld} {ix jx : List Nat} (i j : Nat) (b : Bool) (d : Dev) (h : fldKey g jx ≠ fldKey f ix) :
    rdBit g jx j (wrBit f ix i b d) = rdBit g jx j d := by unfold rdBit; rw [rd_wrBit_ne i b d h]

end Sys2Proof.Machine
end

