-- ==== Sys2Proof/Laws/Flags.lean ====
section
/-! SUPPORT. What raising a vector, firing a source and giving a source its raw state can do. -/

namespace Sys2Proof.Machine

/-! ### Registers kept -/

theorem RegsKept.refl (ks : List Nat) (d : Dev) : RegsKept ks d d := fun _ _ => rfl

theorem RegsKept.trans {ks : List Nat} {a b c : Dev} (h : RegsKept ks a b) (g : RegsKept ks b c) : RegsKept ks a c :=
  fun k hk => (g k hk).trans (h k hk)

theorem RegsKept.mono {ks ls : List Nat} {a b : Dev} (h : RegsKept ks a b) (hs : ∀ k ∈ ks, k ∈ ls) : RegsKept ls a b :=
  fun k hk => h k (fun hm => hk (hs k hm))

theorem RegsKept.of_eq (ks : List Nat) {a b : Dev} (h : b.regs = a.regs) : RegsKept ks a b := fun _ _ => by rw [h]

theorem RegsKept.rd {ks : List Nat} {a b : Dev} (h : RegsKept ks a b) (f : Fld) (ix : List Nat) (hk : fldKey f ix ∉ ks) :
    rd f ix b = rd f ix a := by unfold Machine.rd; rw [h _ hk]

theorem RegsKept.rdB {ks : List Nat} {a b : Dev} (h : RegsKept ks a b) (f : Fld) (ix : List Nat) (hk : fldKey f ix ∉ ks) :
    rdB f ix b = rdB f ix a := by unfold Machine.rdB; rw [h.rd f ix hk]

theorem RegsKept.rdBit {ks : List Nat} {a b : Dev} (h : RegsKept ks a b) (f : Fld) (ix : List Nat) (j : Nat) (hk : fldKey f ix ∉ ks) :
    rdBit f ix j b = rdBit f ix j a := by unfold Machine.rdBit; rw [h.rd f ix hk]

theorem regsKept_wr (ks : List Nat) (f : Fld) (ix : List Nat) (v : Nat) (d : Dev) (h : fldKey f ix ∈ ks) : RegsKept ks d (wr f ix v d) :=
  fun k hk => by show tabGet 0 (tabSet 0 _ _ _) k = _; rw [tabGet_set_ne]; intro e; exact hk (e ▸ h)

theorem regsKept_wrB (ks : List Nat) (f : Fld) (ix : List Nat) (v : Bool) (d : Dev) (h : fldKey f ix ∈ ks) : RegsKept ks d (wrB f ix v d) :=
  regsKept_wr ks f ix _ d h

theorem regsKept_wrBit (ks : List Nat) (f : Fld) (ix : List Nat) (j : Nat) (v : Bool) (d : Dev) (h : fldKey f ix ∈ ks) :
    RegsKept ks d (wrBit f ix j v d) := regsKept_wr ks f ix _ d h

theorem regsKept_count (ks : List Nat) (f : Fld) (ix : List Nat) (n : Nat) (d : Dev) (h : fldKey f ix ∈ ks) : RegsKept ks d (count f ix n d) :=
  regsKept_wr ks f ix _ d h

theorem regsKept_wrS (ks : List Nat) (f : Fld) (ix : List Nat) (v : Int) (d : Dev) (h : fldKey f ix ∈ ks) : RegsKept ks d (wrS f ix v d) :=
  regsKept_wr ks f ix _ d h

theorem regsKept_toReset (ks : List Nat) (f : Fld) (ix : List Nat) (d : Dev) (h : fldKey f ix ∈ ks) : RegsKept ks d (toReset f ix d) :=
  fun k hk => by show tabGet 0 (tabDel _ _) k = _; rw [tabGet_del_ne]; intro e; exact hk (e ▸ h)

/-! ### Only faults -/

theorem OnlyFaults.refl (d : Dev) : OnlyFaults d d := rfl

theorem OnlyFaults.trans {a b c : Dev} (h : OnlyFaults a b) (g : OnlyFaults b c) : OnlyFaults a c := by
  unfold OnlyFaults at *; rw [g, h]

theorem onlyFaults_wr (f : Fld) (ix : List Nat) (v : Nat) (d : Dev) : OnlyFaults d (wr f ix v d) := rfl
theorem onlyFaults_wrB (f : Fld) (ix : List Nat) (v : Bool) (d : Dev) : OnlyFaults d (wrB f ix v d) := rfl
theorem onlyFaults_wrBit (f : Fld) (ix : List Nat) (j : Nat) (v : Bool) (d : Dev) : OnlyFaults d (wrBit f ix j v d) := rfl
theorem onlyFaults_count (f : Fld) (ix : List Nat) (n : Nat) (d : Dev) : OnlyFaults d (count f ix n d) := rfl

/-! ### Vectors -/

theorem sendOwed_regs (v : Nat) (d : Dev) : (sendOwed v d).regs = d.regs := by unfold sendOwed; split <;> rfl

theorem sendOwed_only (v : Nat) (d : Dev) : OnlyFaults d (sendOwed v d) := by unfold sendOwed; split <;> rfl

theorem raiseIrq_only (v : Nat) (d : Dev) : OnlyFaults d (raiseIrq v d) := by
  unfold raiseIrq; simp only []
  split
  · exact OnlyFaults.trans (onlyFaults_wrBit _ _ _ _ d) (OnlyFaults.trans (b := { wrBit TOP_IRQ_ST_raised [] v true d with irq := _ }) rfl (sendOwed_only v _))
  · rfl

theorem raiseIrq_kept (v : Nat) (d : Dev) : RegsKept [irqKey] d (raiseIrq v d) := by
  unfold raiseIrq; simp only []
  have h : RegsKept [irqKey] d (wrBit TOP_IRQ_ST_raised [] v true d) := regsKept_wrBit _ _ _ _ _ d (by simp [irqKey])
  split
  · exact h.trans (RegsKept.of_eq _ (by rw [sendOwed_regs]))
  · exact h

/-- Raising a vector sets its bit of TOP_IRQ_ST, whatever is enabled (R535). -/
theorem raiseIrq_raised (v : Nat) (d : Dev) (hv : v < TOP_IRQ_ST_raised.w) : rdBit TOP_IRQ_ST_raised [] v (raiseIrq v d) = true := by
  unfold raiseIrq; simp only []
  have h : rdBit TOP_IRQ_ST_raised [] v (wrBit TOP_IRQ_ST_raised [] v true d) = true := by
    rw [rdBit_wrBit_same _ _ _ _ _ _ hv]; simp
  split
  · unfold rdBit; rw [rd_congr _ _ (sendOwed_regs v _)]; exact h
  · exact h

/-! ### Firing -/

theorem latchPin_only (d : Dev) : OnlyFaults d (latchPin d) := rfl

theorem latchPin_kept (ks : List Nat) (d : Dev) (h : fldKey BLT_STATUS_pin_latch [] ∈ ks) : RegsKept ks d (latchPin d) :=
  (regsKept_wr ks BLT_STATUS_pin_latch [] 1 d h).trans (RegsKept.of_eq _ rfl)

theorem fireAt_only (sev n : Nat) (d : Dev) : OnlyFaults d (fireAt sev n d) := by
  have hi : ∀ (c : Prop) [Decidable c] (v : Nat) (d : Dev), OnlyFaults d (if c then raiseIrq v d else d) := by
    intro c _ v d; split
    · exact raiseIrq_only v d
    · rfl
  have hp : ∀ (c : Prop) [Decidable c] (d : Dev), OnlyFaults d (if c then latchPin d else d) := by
    intro c _ d; split <;> rfl
  have h := ((onlyFaults_wrBit BLT_STICKY_bits [n / 32] (n % 32) true d).trans (hi (max 1 (rd BLT_CTRL_irq_thr [] (wrBit BLT_STICKY_bits [n / 32] (n % 32) true d)) ≤ sev) 1 _)).trans
    (hp (max 1 (rd BLT_CTRL_pin_thr [] (if max 1 (rd BLT_CTRL_irq_thr [] (wrBit BLT_STICKY_bits [n / 32] (n % 32) true d)) ≤ sev then raiseIrq 1 (wrBit BLT_STICKY_bits [n / 32] (n % 32) true d) else (wrBit BLT_STICKY_bits [n / 32] (n % 32) true d))) ≤ sev ∨ sev = 3) _)
  unfold fireAt
  split
  · rfl
  · simp only []
    split
    · exact h.trans rfl
    · exact h

theorem fireAt_kept (sev n : Nat) (d : Dev) : RegsKept (fireKeys n) d (fireAt sev n d) := by
  have h1 : ∀ d, RegsKept (fireKeys n) d (wrBit BLT_STICKY_bits [n / 32] (n % 32) true d) := fun d => regsKept_wrBit _ _ _ _ _ d (by simp [fireKeys])
  have h2 : ∀ (c : Prop) [Decidable c] (d : Dev), RegsKept (fireKeys n) d (if c then raiseIrq 1 d else d) := by
    intro c _ d; split
    · exact (raiseIrq_kept 1 d).mono (by simp [fireKeys])
    · exact RegsKept.refl _ d
  have h3 : ∀ (c : Prop) [Decidable c] (d : Dev), RegsKept (fireKeys n) d (if c then latchPin d else d) := by
    intro c _ d; split
    · exact latchPin_kept _ d (by simp [fireKeys])
    · exact RegsKept.refl _ d
  unfold fireAt
  split
  · exact RegsKept.refl _ d
  · simp only []
    split
    · exact (((h1 d).trans (h2 _ _)).trans (h3 _ _)).trans (RegsKept.of_eq _ rfl)
    · exact ((h1 d).trans (h2 _ _)).trans (h3 _ _)

/-- What a firing can change beside registers: interrupts, the Blotter and the outputs. -/
theorem fire_only (n : Nat) (d : Dev) : OnlyFaults d (fire n d) := by
  unfold fire; split
  · exact fireAt_only _ n d
  · rfl

/-- What registers a firing can change: its sticky word, the raised vectors and the pin latch. -/
theorem fire_kept (n : Nat) (d : Dev) : RegsKept (fireKeys n) d (fire n d) := by
  unfold fire; split
  · exact fireAt_kept _ n d
  · exact RegsKept.refl _ d

/-- Fields of registers with different numbers have different keys, whatever their indices. -/
theorem fldKey_ne {f g : Fld} (ix jx : List Nat) (h : f.no % 1024 ≠ g.no % 1024) : fldKey f ix ≠ fldKey g jx := by
  unfold fldKey; omega

theorem stickyKey_ne (n : Nat) : fldKey BLT_STICKY_bits [n / 32] ≠ irqKey ∧ fldKey BLT_STICKY_bits [n / 32] ≠ fldKey BLT_STATUS_pin_latch [] :=
  ⟨fldKey_ne _ _ (by decide), fldKey_ne _ _ (by decide)⟩

/-- A firing of a source that neither stands nor is graded 0 sets its sticky bit (R444). -/
theorem fire_sticky (n : Nat) (d : Dev) (hl : sourceListed n = true) (hr : rawOf n d = false) (hs : severityOf n d ≠ 0) :
    stickyOf n (fire n d) = true := by
  have hk : RegsKept [irqKey, fldKey BLT_STATUS_pin_latch []] (wrBit BLT_STICKY_bits [n / 32] (n % 32) true d) (fire n d) := by
    have h2 : ∀ (c : Prop) [Decidable c] (d : Dev), RegsKept [irqKey, fldKey BLT_STATUS_pin_latch []] d (if c then raiseIrq 1 d else d) := by
      intro c _ d; split
      · exact (raiseIrq_kept 1 d).mono (by simp)
      · exact RegsKept.refl _ d
    have h3 : ∀ (c : Prop) [Decidable c] (d : Dev), RegsKept [irqKey, fldKey BLT_STATUS_pin_latch []] d (if c then latchPin d else d) := by
      intro c _ d; split
      · exact latchPin_kept _ d (by simp)
      · exact RegsKept.refl _ d
    unfold fire fireAt
    rw [hl, hr, if_pos (by rfl), if_neg hs]
    simp only []
    split
    · exact ((h2 _ _).trans (h3 _ _)).trans (RegsKept.of_eq _ rfl)
    · exact (h2 _ _).trans (h3 _ _)
  unfold stickyOf
  rw [hk.rdBit _ _ _ (by have := stickyKey_ne n; simp [this.1, this.2]), rdBit_wrBit_same BLT_STICKY_bits _ _ _ _ _ (show n % 32 < 32 from Nat.mod_lt _ (by decide))]
  simp

/-- A firing of an unlisted source, of one that stands or of one graded 0 does nothing (R440, R442, R444). -/
theorem fire_nothing (n : Nat) (d : Dev) (h : sourceListed n = false ∨ rawOf n d = true ∨ severityOf n d = 0) : fire n d = d := by
  unfold fire fireAt
  rcases h with h | h | h
  · simp [h]
  · simp [h]
  · rw [if_pos h]; split <;> rfl

theorem fire_tabWf (n : Nat) (d : Dev) (h : tabWf 0 d.regs = true) : tabWf 0 (fire n d).regs = true := by
  have hr : ∀ v (d : Dev), tabWf 0 d.regs = true → tabWf 0 (raiseIrq v d).regs = true := by
    intro v d h; unfold raiseIrq; simp only []; split
    · rw [sendOwed_regs]; exact tabWf_wr _ _ _ _ h
    · exact tabWf_wr _ _ _ _ h
  unfold fire fireAt
  split
  · split
    · exact h
    · simp only []
      have h1 : tabWf 0 (wrBit BLT_STICKY_bits [n / 32] (n % 32) true d).regs = true := tabWf_wr _ _ _ _ h
      have h2 : ∀ (c : Prop) [Decidable c] (d : Dev), tabWf 0 d.regs = true → tabWf 0 (if c then raiseIrq 1 d else d).regs = true := by
        intro c _ d h; split
        · exact hr 1 d h
        · exact h
      have h3 : ∀ (c : Prop) [Decidable c] (d : Dev), tabWf 0 d.regs = true → tabWf 0 (if c then latchPin d else d).regs = true := by
        intro c _ d h; split
        · show tabWf 0 (wr BLT_STATUS_pin_latch [] 1 d).regs = true
          exact tabWf_wr _ _ _ _ h
        · exact h
      split
      · exact h3 _ _ (h2 _ _ h1)
      · exact h3 _ _ (h2 _ _ h1)
  · exact h

end Sys2Proof.Machine
end

