-- ==== Sys2Proof/Laws/Canon.lean ====
section
/-! SUPPORT. The canonical form of the state's tables and of the memory behind BAR2, and the operations that write them: each keeps it. -/

namespace Sys2Proof.Machine

theorem tabWf_append_foldl {β : Type} (t : Tab Nat) (xs : List β) (k : β → Nat) (v : β → Nat) (h : tabWf 0 t = true) :
    tabWf 0 (xs.foldl (fun t p => tabSet 0 t (k p) (v p)) t) = true := by
  induction xs generalizing t with
  | nil => exact h
  | cons x rest ih => exact ih _ (tabWf_set 0 t _ _ h)

/-- A change of anything but the tables keeps their form. -/
theorem canon_upd {d : Dev} (h : Canon d) {ntw devTime freeCtr : Nat} {out : List Out} {clocksStopped : Bool} {pins : Pins} {rul : Rul} {blt : Blt}
    {irq : Irq} {xpt : Xpt} {lns : Lns} {ink : Ink} {flw : Flw} {qlt : Qlt} {aud : Aud} {apt : Apt} {gth : Gth} {sea : Sea} {tlr : Tlr} {icn : Icn}
    {journal : List JItem} {nv : Nv} {boot : Boot} {pat : Pat} {health : List HealthRec} (hi : ink.bytes = d.ink.bytes) :
    Canon { regs := d.regs, staged := d.staged, held := d.held, ntw := ntw, devTime := devTime, freeCtr := freeCtr, out := out, lastSecond := d.lastSecond, clocksStopped := clocksStopped, lastAt := d.lastAt, pins := pins, rul := rul, blt := blt, irq := irq, xpt := xpt, lns := lns, ink := ink, drams := d.drams, flw := flw, macs := d.macs, sdi := d.sdi, qlt := qlt, aud := aud, apt := apt, gth := gth, sea := sea, tlr := tlr, icn := icn, journal := journal, nv := nv, boot := boot, pat := pat, health := health } :=
  ⟨h.regs, h.staged, h.held, h.lastSecond, h.lastAt, h.drams, h.macs, h.sdi, by rw [hi]; exact h.bytes⟩

theorem canon_ite {c : Prop} [Decidable c] {a b : Dev} (ha : Canon a) (hb : Canon b) : Canon (if c then a else b) := by
  split
  · exact ha
  · exact hb

theorem canon_ite_1 {β : Type} {c : Prop} [Decidable c] {a b : Dev × β} (ha : Canon a.1) (hb : Canon b.1) : Canon (if c then a else b).1 := by
  split
  · exact ha
  · exact hb

theorem canon_ite_2 {β : Type} {c : Prop} [Decidable c] {a b : β × Dev} (ha : Canon a.2) (hb : Canon b.2) : Canon (if c then a else b).2 := by
  split
  · exact ha
  · exact hb

theorem canon_ite_22 {β γ : Type} {c : Prop} [Decidable c] {a b : β × γ × Dev} (ha : Canon a.2.2) (hb : Canon b.2.2) :
    Canon (if c then a else b).2.2 := by
  split
  · exact ha
  · exact hb

theorem forUpTo_canon {n : Nat} {f : Nat → Dev → Dev} {d : Dev} (h : Canon d) (hf : ∀ i d, Canon d → Canon (f i d)) : Canon (forUpTo n f d) := by
  induction n with
  | zero => exact h
  | succ n ih => exact hf n _ ih

theorem forEach_canon {β : Type} {xs : List β} {f : β → Dev → Dev} {d : Dev} (h : Canon d) (hf : ∀ x d, Canon d → Canon (f x d)) : Canon (forEach xs f d) := by
  induction xs generalizing d with
  | nil => exact h
  | cons x rest ih => exact ih (hf x d h)

theorem wr_canon {f : Fld} {ix : List Nat} {v : Nat} {d : Dev} (h : Canon d) : Canon (wr f ix v d) :=
  { h with regs := tabWf_set 0 _ _ _ h.regs }

theorem toReset_canon {f : Fld} {ix : List Nat} {d : Dev} (h : Canon d) : Canon (toReset f ix d) :=
  { h with regs := tabWf_del 0 _ _ h.regs }

theorem filterRegs_canon {q : Nat × Nat → Bool} {d : Dev} (h : Canon d) : Canon { d with regs := d.regs.filter q } :=
  { h with regs := tabWf_filter 0 _ _ h.regs }

theorem setDramRun_canon {c : Nat} {r : DramRun} {d : Dev} (h : Canon d) : Canon (setDramRun c r d) := { h with drams := tabWf_set _ _ _ _ h.drams }
theorem setMacRun_canon {c : Nat} {r : MacRun} {d : Dev} (h : Canon d) : Canon (setMacRun c r d) := { h with macs := tabWf_set _ _ _ _ h.macs }
theorem setSdiIn_canon {c : Nat} {r : SdiIn} {d : Dev} (h : Canon d) : Canon (setSdiIn c r d) := { h with sdi := tabWf_set _ _ _ _ h.sdi }
theorem setHeld_canon {m key v : Nat} {d : Dev} (h : Canon d) : Canon (setHeld m key v d) := by
  have e := tabWf_set none d.held (8 * key + m) (some v) h.held
  exact { h with held := e }

theorem canon_lastSecond {key v : Nat} {d : Dev} (h : Canon d) : Canon { d with lastSecond := tabSet 0 d.lastSecond key v } :=
  { h with lastSecond := tabWf_set _ _ _ _ h.lastSecond }

theorem canon_lastAt {key v : Nat} {d : Dev} (h : Canon d) : Canon { d with lastAt := tabSet 0 d.lastAt key v } :=
  { h with lastAt := tabWf_set _ _ _ _ h.lastAt }

theorem advance_canon {n : Nat} {d : Dev} (h : Canon d) : Canon (advance n d) := by
  unfold advance; split
  · exact h
  · exact canon_upd h rfl

theorem atGrid_canon {p off key : Nat} {d : Dev} (h : Canon d) : Canon (atGrid p off key d) := by
  unfold atGrid advanceTo; simp only []
  have h2 := advance_canon (n := ceilDiv (nextGrid p off key d - d.ntw) (cycleUnits (steering d))) h
  exact { h2 with lastAt := tabWf_set 0 _ _ _ h.lastAt }

theorem fire_canon {n : Nat} {d : Dev} (h : Canon d) : Canon (fire n d) := by
  have e := fire_only n d
  have hr := fire_tabWf n d h.regs
  unfold OnlyFaults at e; rw [e]
  exact { h with regs := hr }

theorem firePerSecond_canon {n key : Nat} {d : Dev} (h : Canon d) : Canon (firePerSecond n key d) := by
  unfold firePerSecond; simp only []; split
  · exact h
  · exact fire_canon (canon_lastSecond h)

theorem bar2WriteByte_canon {a v : Nat} {d : Dev} (h : Canon d) : Canon (bar2WriteByte a v d) := by
  unfold bar2WriteByte; split
  · split
    · exact h
    · exact { h with bytes := tabWf_set 0 _ _ _ h.bytes }
  · exact h

theorem writeCapture_canon {off : Nat} {bytes : List Nat} {d : Dev} (h : Canon d) : Canon (writeCapture off bytes d) := by
  unfold writeCapture
  refine forEach_canon h (fun x d h => ?_)
  exact { h with bytes := tabWf_set 0 _ _ _ h.bytes }

end Sys2Proof.Machine
end

