-- ==== Sys2Proof/Laws/Kept.lean ====
section
/-! SUPPORT. What a change of one field, a loop and a choice leave of a device: the canonical form, and every part outside a mask. -/

namespace Sys2Proof.Machine

set_option exponentiation.threshold 2048
set_option maxRecDepth 4000
set_option Elab.async false

/-- One mask lies within another. -/
abbrev Sub (a b : Nat) : Prop := Nat.land a b = a

/-- A part outside the greater mask is outside the smaller. -/
theorem Sub.out {a b k : Nat} (h : Sub a b) (hk : Nat.land b k = 0) : Nat.land a k = 0 := by
  show a &&& k = 0
  have e : a &&& b = a := h
  have f : b &&& k = 0 := hk
  rw [← e, Nat.and_assoc, f, Nat.and_zero]

theorem Sub.refl (a : Nat) : Sub a a := Nat.and_self a

/-- Literal masks within each other, then within a third. -/
theorem subW {a b c : Nat} (g : Sub b c) (e : Nat.land a b = a := by decide) : Sub a c := by
  show a &&& c = a
  have e : a &&& b = a := e
  have g : b &&& c = b := g
  rw [← e, Nat.and_assoc, g]

/-- A bit outside the greater mask is outside the smaller. -/
theorem Sub.bit {a b i : Nat} (h : Sub a b) (hi : Nat.testBit b i = false) : Nat.testBit a i = false := by
  have e : a &&& b = a := h
  rw [← e, Nat.testBit_and, hi, Bool.and_false]

/-- The mask of every register and the register table. -/
def regsAll : Nat := 0x3fffffffffffffffffffffffffffffffffffffffffffffffffffffffffffffffffffffffffffffffffffffffffffffffffffffffffffffffffffffffffffffffffffffffffffffffffffffffffffffffffffffffffffffffffffffffffffffffffffffffffffffffffffffffffffffffffffffffffffffffffffffffffffffffe00000001

set_option maxRecDepth 20000 in
/-- The mask of every register has each register's bit. -/
theorem regsAll_bit (k : Nat) : Nat.testBit regsAll (33 + keyNo k) = true := by
  have e : regsAll = 1 ||| (2 ^ 1025 - 1) <<< 33 := by decide
  have hk : keyNo k < 1024 := Nat.mod_lt _ (by decide)
  rw [e, Nat.testBit_or, Nat.testBit_shiftLeft, Nat.testBit_two_pow_sub_one]
  have hl : keyNo k < 1025 := by omega
  simp [hl]

/-- Nothing is said of a register's instance where the mask has them all. -/
theorem inst_any {m k : Nat} {P : Prop} (g : Nat.land regsAll m = regsAll) (h : Nat.testBit m (33 + keyNo k) = false) : P := by
  have := Sub.bit (a := regsAll) g h
  rw [regsAll_bit] at this
  cases this

/-- The bits of a field's mask. -/
theorem fldMask_bit (f : Fld) (i : Nat) : Nat.testBit (fldMask f) i = true ↔
    i = 0 ∨ 33 + f.no % 1024 = i ∨ (f.no % 1024 = BLT_STICKY_bits.no ∧ 33 + 1024 = i) := by
  unfold fldMask stickyMask
  show Nat.testBit ((0x1 ||| 2 ^ (33 + f.no % 1024)) ||| (if f.no % 1024 = BLT_STICKY_bits.no then 2 ^ (33 + 1024) else 0)) i = true ↔ _
  rw [Nat.testBit_or, Nat.testBit_or, Nat.testBit_two_pow, Bool.or_eq_true, Bool.or_eq_true, Nat.testBit_one_eq_true_iff_self_eq_zero, decide_eq_true_iff]
  by_cases hs : f.no % 1024 = BLT_STICKY_bits.no
  · rw [if_pos hs, Nat.testBit_two_pow, decide_eq_true_iff]; simp [hs, or_assoc]
  · rw [if_neg hs]; simp [hs]

theorem fldMask_in {f : Fld} {i : Nat} (h : Nat.testBit (fldMask f) i = true) : Nat.testBit regsAll i = true := by
  rcases (fldMask_bit f i).mp h with rfl | rfl | ⟨_, rfl⟩
  · decide
  · have := regsAll_bit (f.no % 1024)
    unfold keyNo at this
    rwa [Nat.mod_mod] at this
  · decide

/-- A field of any register, within a mask that has them all. -/
theorem subAny {f : Fld} {b c : Nat} (g : Sub b c) (e : Nat.land regsAll b = regsAll := by decide) : Sub (fldMask f) c := by
  refine subW g ?_
  have hr : Nat.land (fldMask f) regsAll = fldMask f := by
    show fldMask f &&& regsAll = fldMask f
    apply Nat.eq_of_testBit_eq
    intro i
    rw [Nat.testBit_and]
    cases hb : Nat.testBit (fldMask f) i with
    | false => rfl
    | true => rw [fldMask_in hb]; rfl
  show fldMask f &&& b = fldMask f
  have hr : fldMask f &&& regsAll = fldMask f := hr
  have e : regsAll &&& b = regsAll := e
  rw [← hr, Nat.and_assoc, e]

/-- A field of a list, within a mask that has the registers of all the list's. -/
theorem subL {L : List Fld} {f : Fld} {b c : Nat} (g : Sub b c) (hf : f ∈ L) (e : L.all (fun f => Nat.land (fldMask f) b == fldMask f) = true := by decide) :
    Sub (fldMask f) c := subW g (by have := List.all_eq_true.mp e f hf; exact eq_of_beq this)

theorem subL1 {L : List (Fld × Fld)} {p : Fld × Fld} {b c : Nat} (g : Sub b c) (hf : p ∈ L)
    (e : L.all (fun p => Nat.land (fldMask p.1) b == fldMask p.1) = true := by decide) : Sub (fldMask p.1) c :=
  subW g (by have := List.all_eq_true.mp e p hf; exact eq_of_beq this)

theorem subL2 {L : List (Fld × Fld)} {p : Fld × Fld} {b c : Nat} (g : Sub b c) (hf : p ∈ L)
    (e : L.all (fun p => Nat.land (fldMask p.2) b == fldMask p.2) = true := by decide) : Sub (fldMask p.2) c :=
  subW g (by have := List.all_eq_true.mp e p hf; exact eq_of_beq this)

/-- Writing a field within a mask changes no instance of a register outside the mask. -/
theorem tabGet_set_out {m k : Nat} {f : Fld} {ix : List Nat} {v : Nat} {t : Tab Nat} (g : Sub (fldMask f) m) (h : Nat.testBit m (33 + keyNo k) = false) :
    tabGet 0 (tabSet 0 t (fldKey f ix) v) k = tabGet 0 t k := by
  refine tabGet_set_ne _ _ _ (fun hk => ?_)
  have := Sub.bit g h
  have e : keyNo k = f.no % 1024 := by subst hk; unfold keyNo fldKey; omega
  rw [e, (fldMask_bit f _).mpr (.inr (.inl rfl))] at this
  cases this

/-- Nothing is said of clearings where the mask has them all. -/
theorem sticky_any {m : Nat} {P : Prop} (g : Nat.land regsAll m = regsAll) (h : Nat.testBit m (33 + 1024) = false) : P := by
  have := Sub.bit (a := regsAll) g h
  rw [show Nat.testBit regsAll (33 + 1024) = true by decide] at this
  cases this

/-- Writing a field within a mask that has no clearing of sticky bits leaves every sticky bit. -/
theorem stickyKey_out {m : Nat} {f : Fld} {ix : List Nat} (g : Sub (fldMask f) m) (h : Nat.testBit m (33 + 1024) = false) (j : Nat) :
    fldKey f ix ≠ fldKey BLT_STICKY_bits [j] := by
  intro hk
  have e : f.no % 1024 = BLT_STICKY_bits.no := by
    have : keyNo (fldKey f ix) = keyNo (fldKey BLT_STICKY_bits [j]) := by rw [hk]
    unfold keyNo fldKey at this
    have e : BLT_STICKY_bits.no % 1024 = BLT_STICKY_bits.no := by decide
    omega
  have := Sub.bit g h
  rw [(fldMask_bit f _).mpr (.inr (.inr ⟨e, rfl⟩))] at this
  cases this

theorem Kept.refl (m : Nat) (d : Dev) : Kept m d d := by constructor <;> intro h <;> first | exact h | rfl | exact fun _ => rfl | exact fun _ _ h => h

theorem Kept.trans {m : Nat} {a b c : Dev} (h : Kept m a b) (g : Kept m b c) : Kept m a c :=
  ⟨fun x => g.canon (h.canon x),
   fun x => (g.regs x).trans (h.regs x),
   fun x => (g.staged x).trans (h.staged x),
   fun x => (g.held x).trans (h.held x),
   fun x => (g.ntw x).trans (h.ntw x),
   fun x => (g.devTime x).trans (h.devTime x),
   fun x => (g.freeCtr x).trans (h.freeCtr x),
   fun x => (g.out x).trans (h.out x),
   fun x => (g.lastSecond x).trans (h.lastSecond x),
   fun x => (g.clocksStopped x).trans (h.clocksStopped x),
   fun x => (g.lastAt x).trans (h.lastAt x),
   fun x => (g.pins x).trans (h.pins x),
   fun x => (g.rul x).trans (h.rul x),
   fun x => (g.blt x).trans (h.blt x),
   fun x => (g.irq x).trans (h.irq x),
   fun x => (g.xpt x).trans (h.xpt x),
   fun x => (g.lns x).trans (h.lns x),
   fun x => (g.ink x).trans (h.ink x),
   fun x => (g.drams x).trans (h.drams x),
   fun x => (g.flw x).trans (h.flw x),
   fun x => (g.macs x).trans (h.macs x),
   fun x => (g.sdi x).trans (h.sdi x),
   fun x => (g.qlt x).trans (h.qlt x),
   fun x => (g.aud x).trans (h.aud x),
   fun x => (g.apt x).trans (h.apt x),
   fun x => (g.gth x).trans (h.gth x),
   fun x => (g.sea x).trans (h.sea x),
   fun x => (g.tlr x).trans (h.tlr x),
   fun x => (g.icn x).trans (h.icn x),
   fun x => (g.journal x).trans (h.journal x),
   fun x => (g.nv x).trans (h.nv x),
   fun x => (g.boot x).trans (h.boot x),
   fun x => (g.pat x).trans (h.pat x),
   fun x => (g.health x).trans (h.health x),
   fun k x => (g.inst k x).trans (h.inst k x),
   fun x n hn z => g.sticky x n hn (h.sticky x n hn z)⟩

theorem Kept.mono {m n : Nat} {a b : Dev} (h : Kept m a b) (s : Sub m n) : Kept n a b :=
  ⟨h.canon,
   fun x => h.regs (s.out x),
   fun x => h.staged (s.out x),
   fun x => h.held (s.out x),
   fun x => h.ntw (s.out x),
   fun x => h.devTime (s.out x),
   fun x => h.freeCtr (s.out x),
   fun x => h.out (s.out x),
   fun x => h.lastSecond (s.out x),
   fun x => h.clocksStopped (s.out x),
   fun x => h.lastAt (s.out x),
   fun x => h.pins (s.out x),
   fun x => h.rul (s.out x),
   fun x => h.blt (s.out x),
   fun x => h.irq (s.out x),
   fun x => h.xpt (s.out x),
   fun x => h.lns (s.out x),
   fun x => h.ink (s.out x),
   fun x => h.drams (s.out x),
   fun x => h.flw (s.out x),
   fun x => h.macs (s.out x),
   fun x => h.sdi (s.out x),
   fun x => h.qlt (s.out x),
   fun x => h.aud (s.out x),
   fun x => h.apt (s.out x),
   fun x => h.gth (s.out x),
   fun x => h.sea (s.out x),
   fun x => h.tlr (s.out x),
   fun x => h.icn (s.out x),
   fun x => h.journal (s.out x),
   fun x => h.nv (s.out x),
   fun x => h.boot (s.out x),
   fun x => h.pat (s.out x),
   fun x => h.health (s.out x),
   fun k x => h.inst k (s.bit x),
   fun x => h.sticky (s.bit x)⟩

theorem upd_regs {m : Nat} {d0 d : Dev} {x : Tab Nat} (h : Kept m d0 d) (hc : Canon d → tabWf 0 x = true) (g : Sub regsAll m) : Kept m d0 { d with regs := x } :=
  ⟨fun y => { h.canon y with regs := hc (h.canon y) },
   fun y => absurd (g.out y) (by decide), h.staged, h.held, h.ntw, h.devTime, h.freeCtr, h.out, h.lastSecond, h.clocksStopped, h.lastAt, h.pins, h.rul, h.blt, h.irq, h.xpt, h.lns, h.ink, h.drams, h.flw, h.macs, h.sdi, h.qlt, h.aud, h.apt, h.gth, h.sea, h.tlr, h.icn, h.journal, h.nv, h.boot, h.pat, h.health, fun k y => inst_any (m := m) g y, fun y => sticky_any (m := m) g y⟩

theorem upd_staged {m : Nat} {d0 d : Dev} {x : Tab (Option Nat)} (h : Kept m d0 d) (hc : Canon d → tabWf none x = true) (g : Sub 0x2 m) : Kept m d0 { d with staged := x } :=
  ⟨fun y => { h.canon y with staged := hc (h.canon y) },
   h.regs, fun y => absurd (g.out y) (by decide), h.held, h.ntw, h.devTime, h.freeCtr, h.out, h.lastSecond, h.clocksStopped, h.lastAt, h.pins, h.rul, h.blt, h.irq, h.xpt, h.lns, h.ink, h.drams, h.flw, h.macs, h.sdi, h.qlt, h.aud, h.apt, h.gth, h.sea, h.tlr, h.icn, h.journal, h.nv, h.boot, h.pat, h.health, h.inst, h.sticky⟩

theorem upd_held {m : Nat} {d0 d : Dev} {x : Tab (Option Nat)} (h : Kept m d0 d) (hc : Canon d → tabWf none x = true) (g : Sub 0x4 m) : Kept m d0 { d with held := x } :=
  ⟨fun y => { h.canon y with held := hc (h.canon y) },
   h.regs, h.staged, fun y => absurd (g.out y) (by decide), h.ntw, h.devTime, h.freeCtr, h.out, h.lastSecond, h.clocksStopped, h.lastAt, h.pins, h.rul, h.blt, h.irq, h.xpt, h.lns, h.ink, h.drams, h.flw, h.macs, h.sdi, h.qlt, h.aud, h.apt, h.gth, h.sea, h.tlr, h.icn, h.journal, h.nv, h.boot, h.pat, h.health, h.inst, h.sticky⟩

theorem upd_ntw {m : Nat} {d0 d : Dev} {x : Nat} (h : Kept m d0 d) (g : Sub 0x8 m) : Kept m d0 { d with ntw := x } :=
  ⟨fun y => canon_upd (h.canon y) rfl,
   h.regs, h.staged, h.held, fun y => absurd (g.out y) (by decide), h.devTime, h.freeCtr, h.out, h.lastSecond, h.clocksStopped, h.lastAt, h.pins, h.rul, h.blt, h.irq, h.xpt, h.lns, h.ink, h.drams, h.flw, h.macs, h.sdi, h.qlt, h.aud, h.apt, h.gth, h.sea, h.tlr, h.icn, h.journal, h.nv, h.boot, h.pat, h.health, h.inst, h.sticky⟩

theorem upd_devTime {m : Nat} {d0 d : Dev} {x : Nat} (h : Kept m d0 d) (g : Sub 0x10 m) : Kept m d0 { d with devTime := x } :=
  ⟨fun y => canon_upd (h.canon y) rfl,
   h.regs, h.staged, h.held, h.ntw, fun y => absurd (g.out y) (by decide), h.freeCtr, h.out, h.lastSecond, h.clocksStopped, h.lastAt, h.pins, h.rul, h.blt, h.irq, h.xpt, h.lns, h.ink, h.drams, h.flw, h.macs, h.sdi, h.qlt, h.aud, h.apt, h.gth, h.sea, h.tlr, h.icn, h.journal, h.nv, h.boot, h.pat, h.health, h.inst, h.sticky⟩

theorem upd_freeCtr {m : Nat} {d0 d : Dev} {x : Nat} (h : Kept m d0 d) (g : Sub 0x20 m) : Kept m d0 { d with freeCtr := x } :=
  ⟨fun y => canon_upd (h.canon y) rfl,
   h.regs, h.staged, h.held, h.ntw, h.devTime, fun y => absurd (g.out y) (by decide), h.out, h.lastSecond, h.clocksStopped, h.lastAt, h.pins, h.rul, h.blt, h.irq, h.xpt, h.lns, h.ink, h.drams, h.flw, h.macs, h.sdi, h.qlt, h.aud, h.apt, h.gth, h.sea, h.tlr, h.icn, h.journal, h.nv, h.boot, h.pat, h.health, h.inst, h.sticky⟩

theorem upd_out {m : Nat} {d0 d : Dev} {x : List Out} (h : Kept m d0 d) (g : Sub 0x40 m) : Kept m d0 { d with out := x } :=
  ⟨fun y => canon_upd (h.canon y) rfl,
   h.regs, h.staged, h.held, h.ntw, h.devTime, h.freeCtr, fun y => absurd (g.out y) (by decide), h.lastSecond, h.clocksStopped, h.lastAt, h.pins, h.rul, h.blt, h.irq, h.xpt, h.lns, h.ink, h.drams, h.flw, h.macs, h.sdi, h.qlt, h.aud, h.apt, h.gth, h.sea, h.tlr, h.icn, h.journal, h.nv, h.boot, h.pat, h.health, h.inst, h.sticky⟩

theorem upd_lastSecond {m : Nat} {d0 d : Dev} {x : Tab Nat} (h : Kept m d0 d) (hc : Canon d → tabWf 0 x = true) (g : Sub 0x80 m) : Kept m d0 { d with lastSecond := x } :=
  ⟨fun y => { h.canon y with lastSecond := hc (h.canon y) },
   h.regs, h.staged, h.held, h.ntw, h.devTime, h.freeCtr, h.out, fun y => absurd (g.out y) (by decide), h.clocksStopped, h.lastAt, h.pins, h.rul, h.blt, h.irq, h.xpt, h.lns, h.ink, h.drams, h.flw, h.macs, h.sdi, h.qlt, h.aud, h.apt, h.gth, h.sea, h.tlr, h.icn, h.journal, h.nv, h.boot, h.pat, h.health, h.inst, h.sticky⟩

theorem upd_clocksStopped {m : Nat} {d0 d : Dev} {x : Bool} (h : Kept m d0 d) (g : Sub 0x100 m) : Kept m d0 { d with clocksStopped := x } :=
  ⟨fun y => canon_upd (h.canon y) rfl,
   h.regs, h.staged, h.held, h.ntw, h.devTime, h.freeCtr, h.out, h.lastSecond, fun y => absurd (g.out y) (by decide), h.lastAt, h.pins, h.rul, h.blt, h.irq, h.xpt, h.lns, h.ink, h.drams, h.flw, h.macs, h.sdi, h.qlt, h.aud, h.apt, h.gth, h.sea, h.tlr, h.icn, h.journal, h.nv, h.boot, h.pat, h.health, h.inst, h.sticky⟩

theorem upd_lastAt {m : Nat} {d0 d : Dev} {x : Tab Nat} (h : Kept m d0 d) (hc : Canon d → tabWf 0 x = true) (g : Sub 0x200 m) : Kept m d0 { d with lastAt := x } :=
  ⟨fun y => { h.canon y with lastAt := hc (h.canon y) },
   h.regs, h.staged, h.held, h.ntw, h.devTime, h.freeCtr, h.out, h.lastSecond, h.clocksStopped, fun y => absurd (g.out y) (by decide), h.pins, h.rul, h.blt, h.irq, h.xpt, h.lns, h.ink, h.drams, h.flw, h.macs, h.sdi, h.qlt, h.aud, h.apt, h.gth, h.sea, h.tlr, h.icn, h.journal, h.nv, h.boot, h.pat, h.health, h.inst, h.sticky⟩

theorem upd_pins {m : Nat} {d0 d : Dev} {x : Pins} (h : Kept m d0 d) (g : Sub 0x400 m) : Kept m d0 { d with pins := x } :=
  ⟨fun y => canon_upd (h.canon y) rfl,
   h.regs, h.staged, h.held, h.ntw, h.devTime, h.freeCtr, h.out, h.lastSecond, h.clocksStopped, h.lastAt, fun y => absurd (g.out y) (by decide), h.rul, h.blt, h.irq, h.xpt, h.lns, h.ink, h.drams, h.flw, h.macs, h.sdi, h.qlt, h.aud, h.apt, h.gth, h.sea, h.tlr, h.icn, h.journal, h.nv, h.boot, h.pat, h.health, h.inst, h.sticky⟩

theorem upd_rul {m : Nat} {d0 d : Dev} {x : Rul} (h : Kept m d0 d) (g : Sub 0x800 m) : Kept m d0 { d with rul := x } :=
  ⟨fun y => canon_upd (h.canon y) rfl,
   h.regs, h.staged, h.held, h.ntw, h.devTime, h.freeCtr, h.out, h.lastSecond, h.clocksStopped, h.lastAt, h.pins, fun y => absurd (g.out y) (by decide), h.blt, h.irq, h.xpt, h.lns, h.ink, h.drams, h.flw, h.macs, h.sdi, h.qlt, h.aud, h.apt, h.gth, h.sea, h.tlr, h.icn, h.journal, h.nv, h.boot, h.pat, h.health, h.inst, h.sticky⟩

theorem upd_blt {m : Nat} {d0 d : Dev} {x : Blt} (h : Kept m d0 d) (g : Sub 0x1000 m) : Kept m d0 { d with blt := x } :=
  ⟨fun y => canon_upd (h.canon y) rfl,
   h.regs, h.staged, h.held, h.ntw, h.devTime, h.freeCtr, h.out, h.lastSecond, h.clocksStopped, h.lastAt, h.pins, h.rul, fun y => absurd (g.out y) (by decide), h.irq, h.xpt, h.lns, h.ink, h.drams, h.flw, h.macs, h.sdi, h.qlt, h.aud, h.apt, h.gth, h.sea, h.tlr, h.icn, h.journal, h.nv, h.boot, h.pat, h.health, h.inst, h.sticky⟩

theorem upd_irq {m : Nat} {d0 d : Dev} {x : Irq} (h : Kept m d0 d) (g : Sub 0x2000 m) : Kept m d0 { d with irq := x } :=
  ⟨fun y => canon_upd (h.canon y) rfl,
   h.regs, h.staged, h.held, h.ntw, h.devTime, h.freeCtr, h.out, h.lastSecond, h.clocksStopped, h.lastAt, h.pins, h.rul, h.blt, fun y => absurd (g.out y) (by decide), h.xpt, h.lns, h.ink, h.drams, h.flw, h.macs, h.sdi, h.qlt, h.aud, h.apt, h.gth, h.sea, h.tlr, h.icn, h.journal, h.nv, h.boot, h.pat, h.health, h.inst, h.sticky⟩

theorem upd_xpt {m : Nat} {d0 d : Dev} {x : Xpt} (h : Kept m d0 d) (g : Sub 0x4000 m) : Kept m d0 { d with xpt := x } :=
  ⟨fun y => canon_upd (h.canon y) rfl,
   h.regs, h.staged, h.held, h.ntw, h.devTime, h.freeCtr, h.out, h.lastSecond, h.clocksStopped, h.lastAt, h.pins, h.rul, h.blt, h.irq, fun y => absurd (g.out y) (by decide), h.lns, h.ink, h.drams, h.flw, h.macs, h.sdi, h.qlt, h.aud, h.apt, h.gth, h.sea, h.tlr, h.icn, h.journal, h.nv, h.boot, h.pat, h.health, h.inst, h.sticky⟩

theorem upd_lns {m : Nat} {d0 d : Dev} {x : Lns} (h : Kept m d0 d) (g : Sub 0x8000 m) : Kept m d0 { d with lns := x } :=
  ⟨fun y => canon_upd (h.canon y) rfl,
   h.regs, h.staged, h.held, h.ntw, h.devTime, h.freeCtr, h.out, h.lastSecond, h.clocksStopped, h.lastAt, h.pins, h.rul, h.blt, h.irq, h.xpt, fun y => absurd (g.out y) (by decide), h.ink, h.drams, h.flw, h.macs, h.sdi, h.qlt, h.aud, h.apt, h.gth, h.sea, h.tlr, h.icn, h.journal, h.nv, h.boot, h.pat, h.health, h.inst, h.sticky⟩

theorem upd_ink {m : Nat} {d0 d : Dev} {x : Ink} (h : Kept m d0 d) (hc : x.bytes = d.ink.bytes) (g : Sub 0x10000 m) : Kept m d0 { d with ink := x } :=
  ⟨fun y => { h.canon y with bytes := by show tabWf 0 x.bytes = true; rw [hc]; exact (h.canon y).bytes },
   h.regs, h.staged, h.held, h.ntw, h.devTime, h.freeCtr, h.out, h.lastSecond, h.clocksStopped, h.lastAt, h.pins, h.rul, h.blt, h.irq, h.xpt, h.lns, fun y => absurd (g.out y) (by decide), h.drams, h.flw, h.macs, h.sdi, h.qlt, h.aud, h.apt, h.gth, h.sea, h.tlr, h.icn, h.journal, h.nv, h.boot, h.pat, h.health, h.inst, h.sticky⟩

theorem upd_drams {m : Nat} {d0 d : Dev} {x : Tab DramRun} (h : Kept m d0 d) (hc : Canon d → tabWf {} x = true) (g : Sub 0x20000 m) : Kept m d0 { d with drams := x } :=
  ⟨fun y => { h.canon y with drams := hc (h.canon y) },
   h.regs, h.staged, h.held, h.ntw, h.devTime, h.freeCtr, h.out, h.lastSecond, h.clocksStopped, h.lastAt, h.pins, h.rul, h.blt, h.irq, h.xpt, h.lns, h.ink, fun y => absurd (g.out y) (by decide), h.flw, h.macs, h.sdi, h.qlt, h.aud, h.apt, h.gth, h.sea, h.tlr, h.icn, h.journal, h.nv, h.boot, h.pat, h.health, h.inst, h.sticky⟩

theorem upd_flw {m : Nat} {d0 d : Dev} {x : Flw} (h : Kept m d0 d) (g : Sub 0x40000 m) : Kept m d0 { d with flw := x } :=
  ⟨fun y => canon_upd (h.canon y) rfl,
   h.regs, h.staged, h.held, h.ntw, h.devTime, h.freeCtr, h.out, h.lastSecond, h.clocksStopped, h.lastAt, h.pins, h.rul, h.blt, h.irq, h.xpt, h.lns, h.ink, h.drams, fun y => absurd (g.out y) (by decide), h.macs, h.sdi, h.qlt, h.aud, h.apt, h.gth, h.sea, h.tlr, h.icn, h.journal, h.nv, h.boot, h.pat, h.health, h.inst, h.sticky⟩

theorem upd_macs {m : Nat} {d0 d : Dev} {x : Tab MacRun} (h : Kept m d0 d) (hc : Canon d → tabWf {} x = true) (g : Sub 0x80000 m) : Kept m d0 { d with macs := x } :=
  ⟨fun y => { h.canon y with macs := hc (h.canon y) },
   h.regs, h.staged, h.held, h.ntw, h.devTime, h.freeCtr, h.out, h.lastSecond, h.clocksStopped, h.lastAt, h.pins, h.rul, h.blt, h.irq, h.xpt, h.lns, h.ink, h.drams, h.flw, fun y => absurd (g.out y) (by decide), h.sdi, h.qlt, h.aud, h.apt, h.gth, h.sea, h.tlr, h.icn, h.journal, h.nv, h.boot, h.pat, h.health, h.inst, h.sticky⟩

theorem upd_sdi {m : Nat} {d0 d : Dev} {x : Tab SdiIn} (h : Kept m d0 d) (hc : Canon d → tabWf {} x = true) (g : Sub 0x100000 m) : Kept m d0 { d with sdi := x } :=
  ⟨fun y => { h.canon y with sdi := hc (h.canon y) },
   h.regs, h.staged, h.held, h.ntw, h.devTime, h.freeCtr, h.out, h.lastSecond, h.clocksStopped, h.lastAt, h.pins, h.rul, h.blt, h.irq, h.xpt, h.lns, h.ink, h.drams, h.flw, h.macs, fun y => absurd (g.out y) (by decide), h.qlt, h.aud, h.apt, h.gth, h.sea, h.tlr, h.icn, h.journal, h.nv, h.boot, h.pat, h.health, h.inst, h.sticky⟩

theorem upd_qlt {m : Nat} {d0 d : Dev} {x : Qlt} (h : Kept m d0 d) (g : Sub 0x200000 m) : Kept m d0 { d with qlt := x } :=
  ⟨fun y => canon_upd (h.canon y) rfl,
   h.regs, h.staged, h.held, h.ntw, h.devTime, h.freeCtr, h.out, h.lastSecond, h.clocksStopped, h.lastAt, h.pins, h.rul, h.blt, h.irq, h.xpt, h.lns, h.ink, h.drams, h.flw, h.macs, h.sdi, fun y => absurd (g.out y) (by decide), h.aud, h.apt, h.gth, h.sea, h.tlr, h.icn, h.journal, h.nv, h.boot, h.pat, h.health, h.inst, h.sticky⟩

theorem upd_aud {m : Nat} {d0 d : Dev} {x : Aud} (h : Kept m d0 d) (g : Sub 0x400000 m) : Kept m d0 { d with aud := x } :=
  ⟨fun y => canon_upd (h.canon y) rfl,
   h.regs, h.staged, h.held, h.ntw, h.devTime, h.freeCtr, h.out, h.lastSecond, h.clocksStopped, h.lastAt, h.pins, h.rul, h.blt, h.irq, h.xpt, h.lns, h.ink, h.drams, h.flw, h.macs, h.sdi, h.qlt, fun y => absurd (g.out y) (by decide), h.apt, h.gth, h.sea, h.tlr, h.icn, h.journal, h.nv, h.boot, h.pat, h.health, h.inst, h.sticky⟩

theorem upd_apt {m : Nat} {d0 d : Dev} {x : Apt} (h : Kept m d0 d) (g : Sub 0x800000 m) : Kept m d0 { d with apt := x } :=
  ⟨fun y => canon_upd (h.canon y) rfl,
   h.regs, h.staged, h.held, h.ntw, h.devTime, h.freeCtr, h.out, h.lastSecond, h.clocksStopped, h.lastAt, h.pins, h.rul, h.blt, h.irq, h.xpt, h.lns, h.ink, h.drams, h.flw, h.macs, h.sdi, h.qlt, h.aud, fun y => absurd (g.out y) (by decide), h.gth, h.sea, h.tlr, h.icn, h.journal, h.nv, h.boot, h.pat, h.health, h.inst, h.sticky⟩

theorem upd_gth {m : Nat} {d0 d : Dev} {x : Gth} (h : Kept m d0 d) (g : Sub 0x1000000 m) : Kept m d0 { d with gth := x } :=
  ⟨fun y => canon_upd (h.canon y) rfl,
   h.regs, h.staged, h.held, h.ntw, h.devTime, h.freeCtr, h.out, h.lastSecond, h.clocksStopped, h.lastAt, h.pins, h.rul, h.blt, h.irq, h.xpt, h.lns, h.ink, h.drams, h.flw, h.macs, h.sdi, h.qlt, h.aud, h.apt, fun y => absurd (g.out y) (by decide), h.sea, h.tlr, h.icn, h.journal, h.nv, h.boot, h.pat, h.health, h.inst, h.sticky⟩

theorem upd_sea {m : Nat} {d0 d : Dev} {x : Sea} (h : Kept m d0 d) (g : Sub 0x2000000 m) : Kept m d0 { d with sea := x } :=
  ⟨fun y => canon_upd (h.canon y) rfl,
   h.regs, h.staged, h.held, h.ntw, h.devTime, h.freeCtr, h.out, h.lastSecond, h.clocksStopped, h.lastAt, h.pins, h.rul, h.blt, h.irq, h.xpt, h.lns, h.ink, h.drams, h.flw, h.macs, h.sdi, h.qlt, h.aud, h.apt, h.gth, fun y => absurd (g.out y) (by decide), h.tlr, h.icn, h.journal, h.nv, h.boot, h.pat, h.health, h.inst, h.sticky⟩

theorem upd_tlr {m : Nat} {d0 d : Dev} {x : Tlr} (h : Kept m d0 d) (g : Sub 0x4000000 m) : Kept m d0 { d with tlr := x } :=
  ⟨fun y => canon_upd (h.canon y) rfl,
   h.regs, h.staged, h.held, h.ntw, h.devTime, h.freeCtr, h.out, h.lastSecond, h.clocksStopped, h.lastAt, h.pins, h.rul, h.blt, h.irq, h.xpt, h.lns, h.ink, h.drams, h.flw, h.macs, h.sdi, h.qlt, h.aud, h.apt, h.gth, h.sea, fun y => absurd (g.out y) (by decide), h.icn, h.journal, h.nv, h.boot, h.pat, h.health, h.inst, h.sticky⟩

theorem upd_icn {m : Nat} {d0 d : Dev} {x : Icn} (h : Kept m d0 d) (g : Sub 0x8000000 m) : Kept m d0 { d with icn := x } :=
  ⟨fun y => canon_upd (h.canon y) rfl,
   h.regs, h.staged, h.held, h.ntw, h.devTime, h.freeCtr, h.out, h.lastSecond, h.clocksStopped, h.lastAt, h.pins, h.rul, h.blt, h.irq, h.xpt, h.lns, h.ink, h.drams, h.flw, h.macs, h.sdi, h.qlt, h.aud, h.apt, h.gth, h.sea, h.tlr, fun y => absurd (g.out y) (by decide), h.journal, h.nv, h.boot, h.pat, h.health, h.inst, h.sticky⟩

theorem upd_journal {m : Nat} {d0 d : Dev} {x : List JItem} (h : Kept m d0 d) (g : Sub 0x10000000 m) : Kept m d0 { d with journal := x } :=
  ⟨fun y => canon_upd (h.canon y) rfl,
   h.regs, h.staged, h.held, h.ntw, h.devTime, h.freeCtr, h.out, h.lastSecond, h.clocksStopped, h.lastAt, h.pins, h.rul, h.blt, h.irq, h.xpt, h.lns, h.ink, h.drams, h.flw, h.macs, h.sdi, h.qlt, h.aud, h.apt, h.gth, h.sea, h.tlr, h.icn, fun y => absurd (g.out y) (by decide), h.nv, h.boot, h.pat, h.health, h.inst, h.sticky⟩

theorem upd_nv {m : Nat} {d0 d : Dev} {x : Nv} (h : Kept m d0 d) (g : Sub 0x20000000 m) : Kept m d0 { d with nv := x } :=
  ⟨fun y => canon_upd (h.canon y) rfl,
   h.regs, h.staged, h.held, h.ntw, h.devTime, h.freeCtr, h.out, h.lastSecond, h.clocksStopped, h.lastAt, h.pins, h.rul, h.blt, h.irq, h.xpt, h.lns, h.ink, h.drams, h.flw, h.macs, h.sdi, h.qlt, h.aud, h.apt, h.gth, h.sea, h.tlr, h.icn, h.journal, fun y => absurd (g.out y) (by decide), h.boot, h.pat, h.health, h.inst, h.sticky⟩

theorem upd_boot {m : Nat} {d0 d : Dev} {x : Boot} (h : Kept m d0 d) (g : Sub 0x40000000 m) : Kept m d0 { d with boot := x } :=
  ⟨fun y => canon_upd (h.canon y) rfl,
   h.regs, h.staged, h.held, h.ntw, h.devTime, h.freeCtr, h.out, h.lastSecond, h.clocksStopped, h.lastAt, h.pins, h.rul, h.blt, h.irq, h.xpt, h.lns, h.ink, h.drams, h.flw, h.macs, h.sdi, h.qlt, h.aud, h.apt, h.gth, h.sea, h.tlr, h.icn, h.journal, h.nv, fun y => absurd (g.out y) (by decide), h.pat, h.health, h.inst, h.sticky⟩

theorem upd_pat {m : Nat} {d0 d : Dev} {x : Pat} (h : Kept m d0 d) (g : Sub 0x80000000 m) : Kept m d0 { d with pat := x } :=
  ⟨fun y => canon_upd (h.canon y) rfl,
   h.regs, h.staged, h.held, h.ntw, h.devTime, h.freeCtr, h.out, h.lastSecond, h.clocksStopped, h.lastAt, h.pins, h.rul, h.blt, h.irq, h.xpt, h.lns, h.ink, h.drams, h.flw, h.macs, h.sdi, h.qlt, h.aud, h.apt, h.gth, h.sea, h.tlr, h.icn, h.journal, h.nv, h.boot, fun y => absurd (g.out y) (by decide), h.health, h.inst, h.sticky⟩

theorem upd_health {m : Nat} {d0 d : Dev} {x : List HealthRec} (h : Kept m d0 d) (g : Sub 0x100000000 m) : Kept m d0 { d with health := x } :=
  ⟨fun y => canon_upd (h.canon y) rfl,
   h.regs, h.staged, h.held, h.ntw, h.devTime, h.freeCtr, h.out, h.lastSecond, h.clocksStopped, h.lastAt, h.pins, h.rul, h.blt, h.irq, h.xpt, h.lns, h.ink, h.drams, h.flw, h.macs, h.sdi, h.qlt, h.aud, h.apt, h.gth, h.sea, h.tlr, h.icn, h.journal, h.nv, h.boot, h.pat, fun y => absurd (g.out y) (by decide), h.inst, h.sticky⟩

/-- Any change within a mask, of nothing that has a canonical form. -/
theorem upd_many {n m : Nat} {d0 d e : Dev} (h : Kept m d0 d) (hk : Kept n d e) (g : Sub n m) : Kept m d0 e := h.trans (hk.mono g)

theorem kept_ite {m : Nat} {d0 : Dev} {c : Prop} [Decidable c] {a b : Dev} (ha : Kept m d0 a) (hb : Kept m d0 b) : Kept m d0 (if c then a else b) := by
  split
  · exact ha
  · exact hb

theorem kept_ite_1 {m : Nat} {d0 : Dev} {β : Type} {c : Prop} [Decidable c] {a b : Dev × β} (ha : Kept m d0 a.1) (hb : Kept m d0 b.1) :
    Kept m d0 (if c then a else b).1 := by
  split
  · exact ha
  · exact hb

theorem kept_ite_2 {m : Nat} {d0 : Dev} {β : Type} {c : Prop} [Decidable c] {a b : β × Dev} (ha : Kept m d0 a.2) (hb : Kept m d0 b.2) :
    Kept m d0 (if c then a else b).2 := by
  split
  · exact ha
  · exact hb

theorem kept_ite_22 {m : Nat} {d0 : Dev} {β γ : Type} {c : Prop} [Decidable c] {a b : β × γ × Dev} (ha : Kept m d0 a.2.2) (hb : Kept m d0 b.2.2) :
    Kept m d0 (if c then a else b).2.2 := by
  split
  · exact ha
  · exact hb

theorem forUpTo_keeps {m : Nat} {d0 : Dev} {n : Nat} {f : Nat → Dev → Dev} {d : Dev} (h : Kept m d0 d) (hf : ∀ i d, Kept m d0 d → Kept m d0 (f i d)) :
    Kept m d0 (forUpTo n f d) := by
  induction n with
  | zero => exact h
  | succ n ih => exact hf n _ ih

theorem forEach_mem_keeps {m : Nat} {d0 : Dev} {β : Type} {xs : List β} {f : β → Dev → Dev} {d : Dev} (h : Kept m d0 d)
    (hf : ∀ x, x ∈ xs → ∀ d, Kept m d0 d → Kept m d0 (f x d)) : Kept m d0 (forEach xs f d) := by
  induction xs generalizing d with
  | nil => exact h
  | cons x rest ih => exact ih (hf x (.head _) d h) (fun y hy => hf y (.tail _ hy))

theorem forEach_keeps {m : Nat} {d0 : Dev} {β : Type} {xs : List β} {f : β → Dev → Dev} {d : Dev} (h : Kept m d0 d)
    (hf : ∀ x d, Kept m d0 d → Kept m d0 (f x d)) : Kept m d0 (forEach xs f d) := by
  induction xs generalizing d with
  | nil => exact h
  | cons x rest ih => exact ih (hf x d h)

theorem forUpTo_holds {α : Type} {P : α → Prop} {n : Nat} {f : Nat → α → α} {a : α} (h : P a) (hf : ∀ i a, P a → P (f i a)) : P (forUpTo n f a) := by
  induction n with
  | zero => exact h
  | succ n ih => exact hf n _ ih

theorem foldl_holds {α β : Type} {P : α → Prop} {xs : List β} {f : α → β → α} {a : α} (h : P a) (hf : ∀ a x, P a → P (f a x)) : P (xs.foldl f a) := by
  induction xs generalizing a with
  | nil => exact h
  | cons x rest ih => exact ih (hf a x h)

theorem forEach_holds {α β : Type} {P : α → Prop} {xs : List β} {f : β → α → α} {a : α} (h : P a) (hf : ∀ x a, P a → P (f x a)) : P (forEach xs f a) := by
  induction xs generalizing a with
  | nil => exact h
  | cons x rest ih => exact ih (hf x a h)


/-! ### The operations that write a table -/

set_option exponentiation.threshold 2048
/-- The registers a function's `state` field can lie in. -/
theorem funcOf_state_in (k : Nat) {b : Nat} (e : Nat.land 0x8000000004000004000000004000000000008000000000000000000000000100000000000001000000000000000000000000000000000000000000000000004000800000000000000000000000000000000000000000000200000000000000000000000000000000000000000001 b = 0x8000000004000004000000004000000000008000000000000000000000000100000000000001000000000000000000000000000000000000000000000000004000800000000000000000000000000000000000000000000200000000000000000000000000000000000000000001 := by decide) : Nat.land (fldMask (funcOf k).state) b = fldMask (funcOf k).state := by
  have h : fldMask (funcOf k).state &&& 0x8000000004000004000000004000000000008000000000000000000000000100000000000001000000000000000000000000000000000000000000000000004000800000000000000000000000000000000000000000000200000000000000000000000000000000000000000001 = fldMask (funcOf k).state := by
    show Nat.land (fldMask (funcOf k).state) 0x8000000004000004000000004000000000008000000000000000000000000100000000000001000000000000000000000000000000000000000000000000004000800000000000000000000000000000000000000000000200000000000000000000000000000000000000000001 = fldMask (funcOf k).state
    unfold funcOf
    repeat' (first | (dsimp only; decide) | split)
  have e : 0x8000000004000004000000004000000000008000000000000000000000000100000000000001000000000000000000000000000000000000000000000000004000800000000000000000000000000000000000000000000200000000000000000000000000000000000000000001 &&& b = 0x8000000004000004000000004000000000008000000000000000000000000100000000000001000000000000000000000000000000000000000000000000004000800000000000000000000000000000000000000000000200000000000000000000000000000000000000000001 := e
  show fldMask (funcOf k).state &&& b = fldMask (funcOf k).state
  rw [← h, Nat.and_assoc, e]

/-- The registers a function's `startErr` field can lie in. -/
theorem funcOf_startErr_in (k : Nat) {b : Nat} (e : Nat.land 0x2000000000000080040000040000000000000000400000000000000000000000000001000000040000000000000000000000000000000000000000000000001000000020000000000000000000000000000000000000000000000800000000000000000000000000000000000000000001 b = 0x2000000000000080040000040000000000000000400000000000000000000000000001000000040000000000000000000000000000000000000000000000001000000020000000000000000000000000000000000000000000000800000000000000000000000000000000000000000001 := by decide) : Nat.land (fldMask (funcOf k).startErr) b = fldMask (funcOf k).startErr := by
  have h : fldMask (funcOf k).startErr &&& 0x2000000000000080040000040000000000000000400000000000000000000000000001000000040000000000000000000000000000000000000000000000001000000020000000000000000000000000000000000000000000000800000000000000000000000000000000000000000001 = fldMask (funcOf k).startErr := by
    show Nat.land (fldMask (funcOf k).startErr) 0x2000000000000080040000040000000000000000400000000000000000000000000001000000040000000000000000000000000000000000000000000000001000000020000000000000000000000000000000000000000000000800000000000000000000000000000000000000000001 = fldMask (funcOf k).startErr
    unfold funcOf
    repeat' (first | (dsimp only; decide) | split)
  have e : 0x2000000000000080040000040000000000000000400000000000000000000000000001000000040000000000000000000000000000000000000000000000001000000020000000000000000000000000000000000000000000000800000000000000000000000000000000000000000001 &&& b = 0x2000000000000080040000040000000000000000400000000000000000000000000001000000040000000000000000000000000000000000000000000000001000000020000000000000000000000000000000000000000000000800000000000000000000000000000000000000000001 := e
  show fldMask (funcOf k).startErr &&& b = fldMask (funcOf k).startErr
  rw [← h, Nat.and_assoc, e]

/-- The registers a function's `rej` field can lie in. -/
theorem funcOf_rej_in (k : Nat) {b : Nat} (e : Nat.land 0x1040020000020000000000000000200000000000000000000000000000800000800000000000000000000000000000000000000000000000000800001000000000000000000000000000000000000000000000000000020000000000000000000000000000000000000001 b = 0x1040020000020000000000000000200000000000000000000000000000800000800000000000000000000000000000000000000000000000000800001000000000000000000000000000000000000000000000000000020000000000000000000000000000000000000001 := by decide) : Nat.land (fldMask (funcOf k).rej) b = fldMask (funcOf k).rej := by
  have h : fldMask (funcOf k).rej &&& 0x1040020000020000000000000000200000000000000000000000000000800000800000000000000000000000000000000000000000000000000800001000000000000000000000000000000000000000000000000000020000000000000000000000000000000000000001 = fldMask (funcOf k).rej := by
    show Nat.land (fldMask (funcOf k).rej) 0x1040020000020000000000000000200000000000000000000000000000800000800000000000000000000000000000000000000000000000000800001000000000000000000000000000000000000000000000000000020000000000000000000000000000000000000001 = fldMask (funcOf k).rej
    unfold funcOf
    repeat' (first | (dsimp only; decide) | split)
  have e : 0x1040020000020000000000000000200000000000000000000000000000800000800000000000000000000000000000000000000000000000000800001000000000000000000000000000000000000000000000000000020000000000000000000000000000000000000001 &&& b = 0x1040020000020000000000000000200000000000000000000000000000800000800000000000000000000000000000000000000000000000000800001000000000000000000000000000000000000000000000000000020000000000000000000000000000000000000001 := e
  show fldMask (funcOf k).rej &&& b = fldMask (funcOf k).rej
  rw [← h, Nat.and_assoc, e]


theorem subFld_regs {f : Fld} (h : Nat.land (fldMask f) 0x1 = 0) : False := by
  have e : Nat.testBit (fldMask f &&& 0x1) 0 = false := by
    have h : fldMask f &&& 0x1 = 0 := h
    rw [h]; rfl
  rw [Nat.testBit_and, (fldMask_bit f 0).mpr (.inl rfl)] at e
  cases e

theorem tabGet_del_out {m k : Nat} {f : Fld} {ix : List Nat} {t : Tab Nat} (g : Sub (fldMask f) m) (h : Nat.testBit m (33 + keyNo k) = false) :
    tabGet 0 (tabDel t (fldKey f ix)) k = tabGet 0 t k := by
  have e : tabSet 0 t (fldKey f ix) 0 = tabDel t (fldKey f ix) := if_pos rfl
  rw [← e]; exact tabGet_set_out g h


theorem sticky_of_regs {d e : Dev} (h : e.regs = d.regs) : ∀ n < 2048, stickyOf n d = true → stickyOf n e = true := by
  intro n _ z
  unfold stickyOf rdBit rd at z ⊢
  rwa [h]

theorem wr_keeps {f : Fld} {ix : List Nat} {v : Nat} {d0 d : Dev} {m : Nat} (h : Kept m d0 d) (g : Sub (fldMask f) m) : Kept m d0 (wr f ix v d) := by
  refine h.trans ?_
  have h1 : ¬ Nat.land m 0x1 = 0 := fun y => subFld_regs (f := f) (g.out y)
  exact ⟨fun c => { c with regs := tabWf_set _ _ _ _ c.regs }, fun y => absurd y h1, fun _ => rfl, fun _ => rfl, fun _ => rfl, fun _ => rfl, fun _ => rfl, fun _ => rfl, fun _ => rfl, fun _ => rfl, fun _ => rfl, fun _ => rfl, fun _ => rfl, fun _ => rfl, fun _ => rfl, fun _ => rfl, fun _ => rfl, fun _ => rfl, fun _ => rfl, fun _ => rfl, fun _ => rfl, fun _ => rfl, fun _ => rfl, fun _ => rfl, fun _ => rfl, fun _ => rfl, fun _ => rfl, fun _ => rfl, fun _ => rfl, fun _ => rfl, fun _ => rfl, fun _ => rfl, fun _ => rfl, fun _ => rfl, fun k y => tabGet_set_out g y,
   fun y n _ z => by unfold stickyOf at z ⊢; rwa [rdBit_wr_ne _ _ _ (stickyKey_out g y _).symm]⟩

theorem toReset_keeps {f : Fld} {ix : List Nat} {d0 d : Dev} {m : Nat} (h : Kept m d0 d) (g : Sub (fldMask f) m) : Kept m d0 (toReset f ix d) := by
  refine h.trans ?_
  have h1 : ¬ Nat.land m 0x1 = 0 := fun y => subFld_regs (f := f) (g.out y)
  exact ⟨fun c => { c with regs := tabWf_del _ _ _ c.regs }, fun y => absurd y h1, fun _ => rfl, fun _ => rfl, fun _ => rfl, fun _ => rfl, fun _ => rfl, fun _ => rfl, fun _ => rfl, fun _ => rfl, fun _ => rfl, fun _ => rfl, fun _ => rfl, fun _ => rfl, fun _ => rfl, fun _ => rfl, fun _ => rfl, fun _ => rfl, fun _ => rfl, fun _ => rfl, fun _ => rfl, fun _ => rfl, fun _ => rfl, fun _ => rfl, fun _ => rfl, fun _ => rfl, fun _ => rfl, fun _ => rfl, fun _ => rfl, fun _ => rfl, fun _ => rfl, fun _ => rfl, fun _ => rfl, fun _ => rfl, fun k y => tabGet_del_out g y,
   fun y n _ z => by
    unfold stickyOf rdBit rd at z ⊢
    have e : tabSet 0 d.regs (fldKey f ix) 0 = (toReset f ix d).regs := if_pos rfl
    rwa [← e, tabGet_set_ne _ _ _ (stickyKey_out g y _).symm]⟩

theorem setDramRun_keeps {c : Nat} {r : DramRun} {d0 d : Dev} {m : Nat} (h : Kept m d0 d) (g : Sub 0x20000 m) : Kept m d0 (setDramRun c r d) :=
  upd_drams h (fun c => tabWf_set _ _ _ _ c.drams) g

theorem setMacRun_keeps {n : Nat} {r : MacRun} {d0 d : Dev} {m : Nat} (h : Kept m d0 d) (g : Sub 0x80000 m) : Kept m d0 (setMacRun n r d) :=
  upd_macs h (fun c => tabWf_set _ _ _ _ c.macs) g

theorem setSdiIn_keeps {n : Nat} {r : SdiIn} {d0 d : Dev} {m : Nat} (h : Kept m d0 d) (g : Sub 0x100000 m) : Kept m d0 (setSdiIn n r d) :=
  upd_sdi h (fun c => tabWf_set _ _ _ _ c.sdi) g

theorem setHeld_keeps {n key v : Nat} {d0 d : Dev} {m : Nat} (h : Kept m d0 d) (g : Sub 0x4 m) : Kept m d0 (setHeld n key v d) :=
  upd_held h (fun c => tabWf_set none d.held (8 * key + n) (some v) c.held) g

theorem advance_keeps' {n : Nat} {d0 d : Dev} {m : Nat} (h : Kept m d0 d) (g : Sub 0x18 m) : Kept m d0 (advance n d) := by
  unfold advance; split
  · exact h
  · exact upd_many (n := 0x18) h (by constructor <;> intro y <;> first | rfl | exact canon_upd y rfl | exact fun _ => rfl | exact fun _ _ h => h | exact absurd y (by decide)) g

theorem atGrid_keeps {p off key : Nat} {d0 d : Dev} {m : Nat} (h : Kept m d0 d) (g : Sub 0x218 m) : Kept m d0 (atGrid p off key d) := by
  unfold atGrid advanceTo; simp only []
  exact upd_lastAt (advance_keeps' h (subW g)) (fun c => by exact tabWf_set _ _ _ _ (by have := c.lastAt; rwa [advance_lastAt] at this)) (subW g)

theorem bar2WriteByte_keeps {a v : Nat} {d0 d : Dev} {m : Nat} (h : Kept m d0 d) (g : Sub 0x10000 m) : Kept m d0 (bar2WriteByte a v d) := by
  refine h.trans (Kept.mono (m := 0x10000) ?_ g)
  unfold bar2WriteByte; split
  · split
    · exact Kept.refl _ d
    · constructor <;> intro y <;> first | rfl | exact fun _ => rfl | exact { y with bytes := tabWf_set 0 _ _ _ y.bytes } | exact fun _ _ h => h | exact absurd y (by decide)
  · exact Kept.refl _ d

theorem writeCapture_keeps {off : Nat} {bytes : List Nat} {d0 d : Dev} {m : Nat} (h : Kept m d0 d) (g : Sub 0x10000 m) :
    Kept m d0 (writeCapture off bytes d) := by
  unfold writeCapture
  refine forEach_keeps h (fun x d h => h.trans (Kept.mono (m := 0x10000) ?_ g))
  constructor <;> intro y <;> first | rfl | exact fun _ => rfl | exact { y with bytes := tabWf_set 0 _ _ _ y.bytes } | exact fun _ _ h => h | exact absurd y (by decide)

theorem stickySet_keeps {w j : Nat} {d0 d : Dev} {m : Nat} (h : Kept m d0 d) (g : Sub 0x40000000000000000000000000000000000000000000000000000000000000000000000000000000000000000000000000000000000000000000000000000000000000000000000000000000000000000000000000000000000000000000000000000000000000000000000000000000000000001 m) : Kept m d0 (wrBit BLT_STICKY_bits [w] j true d) := by
  refine h.trans ?_
  refine ⟨fun c => { c with regs := tabWf_set _ _ _ _ c.regs }, fun y => absurd (g.out y) (by decide), fun _ => rfl, fun _ => rfl, fun _ => rfl, fun _ => rfl, fun _ => rfl, fun _ => rfl, fun _ => rfl, fun _ => rfl, fun _ => rfl, fun _ => rfl, fun _ => rfl, fun _ => rfl, fun _ => rfl, fun _ => rfl, fun _ => rfl, fun _ => rfl, fun _ => rfl, fun _ => rfl, fun _ => rfl, fun _ => rfl, fun _ => rfl, fun _ => rfl, fun _ => rfl, fun _ => rfl, fun _ => rfl, fun _ => rfl, fun _ => rfl, fun _ => rfl, fun _ => rfl, fun _ => rfl, fun _ => rfl, fun _ => rfl, fun k y => ?_, fun _ n _ z => ?_⟩
  · refine tabGet_set_ne _ _ _ (fun hk => ?_)
    have := Sub.bit g y
    have e : keyNo k = BLT_STICKY_bits.no := by subst hk; unfold keyNo fldKey; simp only [BLT_STICKY_bits]; omega
    rw [e] at this
    exact absurd this (by decide)
  · unfold stickyOf at z ⊢
    by_cases hw : n / 32 = w
    · subst hw
      rw [rdBit_wrBit_same BLT_STICKY_bits [n / 32] j (n % 32) true d (Nat.mod_lt n (by decide))]
      split
      · rfl
      · exact z
    · unfold wrBit
      rwa [rdBit_wr_ne _ _ _ (by unfold fldKey; simp only [BLT_STICKY_bits, instOffset]; omega)]

theorem stickyOnes_keeps {w : Nat} {d0 d : Dev} {m : Nat} (h : Kept m d0 d) (g : Sub 0x40000000000000000000000000000000000000000000000000000000000000000000000000000000000000000000000000000000000000000000000000000000000000000000000000000000000000000000000000000000000000000000000000000000000000000000000000000000000000001 m) : Kept m d0 (stickyOnes w d) := by
  refine h.trans ?_
  refine ⟨fun c => { c with regs := tabWf_set _ _ _ _ c.regs }, fun y => absurd (g.out y) (by decide), fun _ => rfl, fun _ => rfl, fun _ => rfl, fun _ => rfl, fun _ => rfl, fun _ => rfl, fun _ => rfl, fun _ => rfl, fun _ => rfl, fun _ => rfl, fun _ => rfl, fun _ => rfl, fun _ => rfl, fun _ => rfl, fun _ => rfl, fun _ => rfl, fun _ => rfl, fun _ => rfl, fun _ => rfl, fun _ => rfl, fun _ => rfl, fun _ => rfl, fun _ => rfl, fun _ => rfl, fun _ => rfl, fun _ => rfl, fun _ => rfl, fun _ => rfl, fun _ => rfl, fun _ => rfl, fun _ => rfl, fun _ => rfl, fun k y => ?_, fun _ n _ z => ?_⟩
  · refine tabGet_set_ne _ _ _ (fun hk => ?_)
    have := Sub.bit g y
    have e : keyNo k = BLT_STICKY_bits.no := by subst hk; unfold keyNo fldKey; simp only [BLT_STICKY_bits]; omega
    rw [e] at this
    exact absurd this (by decide)
  · unfold stickyOf at z ⊢
    by_cases hw : n / 32 = w
    · subst hw
      unfold stickyOnes rdBit
      rw [rd_wr_same]
      have : ∀ k < 32, Nat.testBit (0xFFFFFFFF % 2 ^ BLT_STICKY_bits.w) k = true := by decide
      exact this _ (Nat.mod_lt _ (by decide))
    · unfold stickyOnes
      rwa [rdBit_wr_ne _ _ _ (by unfold fldKey; simp only [BLT_STICKY_bits, instOffset]; omega)]

theorem tabGet_filter (P : Nat → Bool) (r : Tab Nat) (k : Nat) : tabGet 0 (r.filter (fun p => P p.1)) k = if P k = true then tabGet 0 r k else 0 := by
  induction r with
  | nil => simp [tabGet]
  | cons x rest ih =>
    obtain ⟨a, v⟩ := x
    by_cases ha : a = k
    · subst ha
      by_cases hp : P a = true
      · simp [List.filter, hp, tabGet]
      · simp only [List.filter, hp, ih]; simp
    · by_cases hp : P a = true
      · simp only [List.filter, hp, tabGet, ha, if_false, ih]
      · simp only [List.filter, hp, tabGet, ha, if_false, ih]

/-- A filter of fields by their numbers leaves every field outside a mask that holds the others. -/
theorem filter_out {P : Nat → Bool} {M : Nat} (hp : (List.range 1024).all (fun r => Nat.testBit M (33 + r) || P r) = true) {r : Tab Nat} {k : Nat}
    (h : Nat.testBit M (33 + keyNo k) = false) : tabGet 0 (r.filter (fun p => P (keyNo p.1))) k = tabGet 0 r k := by
  rw [tabGet_filter (fun q => P (keyNo q))]
  have := List.all_eq_true.mp hp (keyNo k) (List.mem_range.mpr (Nat.mod_lt _ (by decide)))
  rw [h, Bool.false_or] at this
  exact if_pos this

theorem filter_sticky {P : Nat → Bool} {d e : Dev} (he : e.regs = d.regs.filter (fun p => P (keyNo p.1))) (hp : P BLT_STICKY_bits.no = true)
    (n : Nat) (z : stickyOf n d = true) : stickyOf n e = true := by
  unfold stickyOf rdBit rd at z ⊢
  rw [he, tabGet_filter (fun q => P (keyNo q))]
  have e2 : keyNo (fldKey BLT_STICKY_bits [n / 32]) = BLT_STICKY_bits.no := by
    unfold keyNo fldKey
    have e : BLT_STICKY_bits.no % 1024 = BLT_STICKY_bits.no := by decide
    omega
  rw [e2, if_pos hp]
  exact z

/-- A register table changed only at keys of the fields of a mask that has no bit of BLT_STICKY. -/
theorem regs_keeps {M m : Nat} {d0 d : Dev} {x : Tab Nat} (h : Kept m d0 d) (hc : tabWf 0 d.regs = true → tabWf 0 x = true)
    (hk : ∀ k, Nat.testBit M (33 + keyNo k) = false → tabGet 0 x k = tabGet 0 d.regs k) (g : Sub M m)
    (h0 : ¬ Nat.land M 0x1 = 0 := by decide) (hs : Nat.testBit M (33 + BLT_STICKY_bits.no) = false := by decide) : Kept m d0 { d with regs := x } := by
  refine h.trans ?_
  refine ⟨fun c => { c with regs := hc c.regs }, fun y => absurd (g.out y) h0, fun _ => rfl, fun _ => rfl, fun _ => rfl, fun _ => rfl, fun _ => rfl, fun _ => rfl, fun _ => rfl, fun _ => rfl, fun _ => rfl, fun _ => rfl, fun _ => rfl, fun _ => rfl, fun _ => rfl, fun _ => rfl, fun _ => rfl, fun _ => rfl, fun _ => rfl, fun _ => rfl, fun _ => rfl, fun _ => rfl, fun _ => rfl, fun _ => rfl, fun _ => rfl, fun _ => rfl, fun _ => rfl, fun _ => rfl, fun _ => rfl, fun _ => rfl, fun _ => rfl, fun _ => rfl, fun _ => rfl, fun _ => rfl, fun k y => hk k (Sub.bit g y), fun _ n _ z => ?_⟩
  unfold stickyOf rdBit rd at z ⊢
  have e : keyNo (fldKey BLT_STICKY_bits [n / 32]) = BLT_STICKY_bits.no := by
    unfold keyNo fldKey
    have e : BLT_STICKY_bits.no % 1024 = BLT_STICKY_bits.no := by decide
    omega
  rwa [show tabGet 0 ({ d with regs := x } : Dev).regs (fldKey BLT_STICKY_bits [n / 32]) = tabGet 0 d.regs (fldKey BLT_STICKY_bits [n / 32]) from
    hk _ (by rw [e]; exact hs)]

theorem foldl_mem_holds {α β : Type} {P : α → Prop} {xs : List β} {f : α → β → α} {a : α} (h : P a) (hf : ∀ a x, x ∈ xs → P a → P (f a x)) :
    P (xs.foldl f a) := by
  induction xs generalizing a with
  | nil => exact h
  | cons x rest ih => exact ih (hf a x (.head _) h) (fun a y hy => hf a y (.tail _ hy))

end Sys2Proof.Machine
end

