-- ==== Sys2Proof/Laws/KeepsBase.lean ====
section
/-! SUPPORT. Which parts of a device and which registers the functions of the register file, the faults, the Ruling, the functions, the surfaces and the paths can change: one lemma per
function. A mask's bits are `DevPart.mask` and `fldMask`. -/

namespace Sys2Proof.Machine

set_option maxRecDepth 4000
set_option Elab.async false
set_option exponentiation.threshold 2048
set_option linter.unusedVariables false

theorem advance_keeps {n : Nat} {d d0 : Dev} {mm : Nat} (h : Kept mm d0 d) (g : Sub 0x18 mm) :
    Kept mm d0 (advance n d) := by
  unfold advance; with_reducible exact kept_ite h (upd_many (n := 0x18) h (by constructor <;> intro y <;> first | rfl | exact canon_upd y rfl | exact fun _ => rfl | exact sticky_of_regs rfl | exact inst_any (by decide) | exact sticky_any (by decide) y | exact absurd y (by decide)) (subW g))

theorem advanceTo_keeps {t : Nat} {d d0 : Dev} {mm : Nat} (h : Kept mm d0 d) (g : Sub 0x18 mm) :
    Kept mm d0 (advanceTo t d) := by
  unfold advanceTo; with_reducible exact advance_keeps h (subW g)

theorem wrBit_keeps {f : Fld} {ix : List Nat} {j : Nat} {b : Bool} {d d0 : Dev} {mm : Nat} (h : Kept mm d0 d) (g0 : Sub (fldMask f) mm) (g : Sub 0x0 mm) :
    Kept mm d0 (wrBit f ix j b d) := by
  unfold wrBit; with_reducible exact wr_keeps h g0

theorem wrS_keeps {f : Fld} {ix : List Nat} {v : Int} {d d0 : Dev} {mm : Nat} (h : Kept mm d0 d) (g0 : Sub (fldMask f) mm) (g : Sub 0x0 mm) :
    Kept mm d0 (wrS f ix v d) := by
  unfold wrS; with_reducible exact wr_keeps h g0

theorem count_keeps {f : Fld} {ix : List Nat} {n : Nat} {d d0 : Dev} {mm : Nat} (h : Kept mm d0 d) (g0 : Sub (fldMask f) mm) (g : Sub 0x0 mm) :
    Kept mm d0 (count f ix n d) := by
  unfold count; with_reducible exact wr_keeps h g0

theorem takeFree_keeps {tag : Nat} {d d0 : Dev} {mm : Nat} (h : Kept mm d0 d) (g : Sub 0x20 mm) :
    Kept mm d0 (takeFree tag d).2 := by
  unfold takeFree; with_reducible exact upd_freeCtr h (subW g)

theorem advanceDev_keeps {t : Nat} {d d0 : Dev} {mm : Nat} (h : Kept mm d0 d) (g : Sub 0x18 mm) :
    Kept mm d0 (advanceDev t d) := by
  unfold advanceDev; with_reducible exact advance_keeps h (subW g)

theorem countWrap_keeps {f : Fld} {ix : List Nat} {n : Nat} {d d0 : Dev} {mm : Nat} (h : Kept mm d0 d) (g0 : Sub (fldMask f) mm) (g : Sub 0x0 mm) :
    Kept mm d0 (countWrap f ix n d) := by
  unfold countWrap; with_reducible exact wr_keeps h g0

theorem emit_keeps {o : Out} {d d0 : Dev} {mm : Nat} (h : Kept mm d0 d) (g : Sub 0x40 mm) :
    Kept mm d0 (emit o d) := by
  unfold emit; with_reducible exact upd_out h (subW g)

theorem wrB_keeps {f : Fld} {ix : List Nat} {b : Bool} {d d0 : Dev} {mm : Nat} (h : Kept mm d0 d) (g0 : Sub (fldMask f) mm) (g : Sub 0x0 mm) :
    Kept mm d0 (wrB f ix b d) := by
  unfold wrB; with_reducible exact wr_keeps h g0

theorem sendOwed_keeps {v : Nat} {d d0 : Dev} {mm : Nat} (h : Kept mm d0 d) (g : Sub 0x2040 mm) :
    Kept mm d0 (sendOwed v d) := by
  unfold sendOwed; with_reducible exact kept_ite (upd_irq (emit_keeps h (subW g)) (subW g)) h

theorem raiseIrq_keeps {v : Nat} {d d0 : Dev} {mm : Nat} (h : Kept mm d0 d) (g : Sub 0x4000000002041 mm) :
    Kept mm d0 (raiseIrq v d) := by
  unfold raiseIrq; with_reducible exact kept_ite (sendOwed_keeps (upd_irq (wrBit_keeps h (subW g) (subW g)) (subW g)) (subW g)) (wrBit_keeps h (subW g) (subW g))

theorem latchPin_keeps {d d0 : Dev} {mm : Nat} (h : Kept mm d0 d) (g : Sub 0x1000000000000000000000000000000000000000000000000000000000000000000000000000000000000000000000000000000000000000000000000000000000000000000000000000000000000000000000000000000000000000000000000000000000000000000000000000000001001 mm) :
    Kept mm d0 (latchPin d) := by
  unfold latchPin; with_reducible exact upd_blt (wr_keeps h (subW g)) (subW g)

theorem fireAt_keeps {sev n : Nat} {d d0 : Dev} {mm : Nat} (h : Kept mm d0 d) (g : Sub 0x40001000000000000000000000000000000000000000000000000000000000000000000000000000000000000000000000000000000000000000000000000000000000000000000000000000000000000000000000000000000000000000000000000000000000000000000000004000000003041 mm) :
    Kept mm d0 (fireAt sev n d) := by
  unfold fireAt
  have h1 : Kept mm d0 (wrBit BLT_STICKY_bits [n / 32] (n % 32) true d) := stickySet_keeps h (subW g)
  have h2 := kept_ite (c := max 1 (rd BLT_CTRL_irq_thr [] (wrBit BLT_STICKY_bits [n / 32] (n % 32) true d)) ≤ sev) (raiseIrq_keeps (v := 1) h1 (subW g)) h1
  exact kept_ite h (kept_ite (upd_blt (kept_ite (latchPin_keeps h2 (subW g)) h2) (subW g)) (kept_ite (latchPin_keeps h2 (subW g)) h2))


theorem fire_keeps {n : Nat} {d d0 : Dev} {mm : Nat} (h : Kept mm d0 d) (g : Sub 0x40001000000000000000000000000000000000000000000000000000000000000000000000000000000000000000000000000000000000000000000000000000000000000000000000000000000000000000000000000000000000000000000000000000000000000000000000004000000003041 mm) :
    Kept mm d0 (fire n d) := by
  unfold fire; with_reducible exact kept_ite (fireAt_keeps h (subW g)) h

theorem firePerSecond_keeps {n key : Nat} {d d0 : Dev} {mm : Nat} (h : Kept mm d0 d) (g : Sub 0x400010000000000000000000000000000000000000000000000000000000000000000000000000000000000000000000000000000000000000000000000000000000000000000000000000000000000000000000000000000000000000000000000000000000000000000000000040000000030c1 mm) :
    Kept mm d0 (firePerSecond n key d) := by
  unfold firePerSecond; with_reducible exact kept_ite h (fire_keeps (upd_lastSecond h (fun c => tabWf_set _ _ _ _ c.lastSecond) (subW g)) (subW g))

theorem setRaw_keeps {n : Nat} {b : Bool} {d d0 : Dev} {mm : Nat} (h : Kept mm d0 d) (g : Sub 0xc0001000000000000000000000000000000000000000000000000000000000000000000000000000000000000000000000000000000000000000000000000000000000000000000000000000000000000000000000000000000000000000000000000000000000000000000000004000000003041 mm) :
    Kept mm d0 (setRaw n b d) := by
  unfold setRaw; with_reducible exact kept_ite h (kept_ite (kept_ite h (fireAt_keeps (wrBit_keeps h (subW g) (subW g)) (subW g))) (kept_ite (upd_blt (wrBit_keeps h (subW g) (subW g)) (subW g)) h))

theorem releasePin_keeps {d d0 : Dev} {mm : Nat} (h : Kept mm d0 d) (g : Sub 0x1000000000000000000000000000000000000000000000000000000000000000000000000000000000000000000000000000000000000000000000000000000000000000000000000000000000000000000000000000000000000000000000000000000000000000000000000000000001001 mm) :
    Kept mm d0 (releasePin d) := by
  unfold releasePin; with_reducible exact kept_ite (upd_blt (wr_keeps h (subW g)) (subW g)) (upd_blt h (subW g))

theorem dropDisabled_keeps {d d0 : Dev} {mm : Nat} (h : Kept mm d0 d) (g : Sub 0x2000 mm) :
    Kept mm d0 (dropDisabled d) := by
  unfold dropDisabled; with_reducible exact forUpTo_keeps h (fun _ _ h1 => kept_ite h1 (upd_irq h1 (subW g)))

theorem setCand_keeps {n : Nat} {c : Cand} {d d0 : Dev} {mm : Nat} (h : Kept mm d0 d) (g : Sub 0x800 mm) :
    Kept mm d0 (setCand n c d) := by
  unfold setCand; with_reducible exact upd_rul h (subW g)

theorem setPhase_keeps {n : Nat} {phase : Int} {d d0 : Dev} {mm : Nat} (h : Kept mm d0 d) (g : Sub 0x40000000000000000000000000000000821 mm) :
    Kept mm d0 (setPhase n phase d) := by
  unfold setPhase; with_reducible exact kept_ite (wrS_keeps (setCand_keeps h (subW g)) (subW g) (subW g)) (wr_keeps (takeFree_keeps (setCand_keeps h (subW g)) (subW g)) (subW g))

theorem shiftNtw_keeps {shift : Int} {d d0 : Dev} {mm : Nat} (h : Kept mm d0 d) (g : Sub 0x40000000000000000000000000000000a29 mm) :
    Kept mm d0 (shiftNtw shift d) := by
  unfold shiftNtw
  refine forUpTo_keeps ?_ (fun _ _ h1 => setPhase_keeps h1 (subW g))
  exact upd_many (n := 0x208) h (by constructor <;> intro y <;> first | rfl | exact { y with lastAt := rfl } | exact fun _ => rfl | exact fun _ _ h => h | exact absurd y (by decide)) (subW g)


theorem loadFrom_keeps {n : Nat} {d d0 : Dev} {mm : Nat} (h : Kept mm d0 d) (g : Sub 0x40000000000000000000000000000000a29 mm) :
    Kept mm d0 (loadFrom n d) := by
  unfold loadFrom; with_reducible exact shiftNtw_keeps h (subW g)

theorem measurePhase_keeps {n : Nat} {phase : Int} {d d0 : Dev} {mm : Nat} (h : Kept mm d0 d) (g : Sub 0x40001000000000000000000000000000000000000000000000000000000000000000000000000000000000000000000000000000000000000000000000000000000000000000000000000000000000000000000000000000000000000000000000000064000000000000000000004000000003861 mm) :
    Kept mm d0 (measurePhase n phase d) := by
  unfold measurePhase; with_reducible exact kept_ite (fire_keeps (count_keeps (wr_keeps (setCand_keeps (setCand_keeps (setPhase_keeps h (subW g)) (subW g)) (subW g)) (subW g)) (subW g) (subW g)) (subW g)) (setCand_keeps (setPhase_keeps h (subW g)) (subW g))

theorem holdOffExpiry_keeps {n : Nat} {d d0 : Dev} {mm : Nat} (h : Kept mm d0 d) (g : Sub 0x4000000000000000000000000000000019 mm) :
    Kept mm d0 (holdOffExpiry n d) := by
  unfold holdOffExpiry; with_reducible exact kept_ite (wr_keeps (advanceDev_keeps h (subW g)) (subW g)) h

theorem evalFar_keeps {n : Nat} {d d0 : Dev} {mm : Nat} (h : Kept mm d0 d) (g : Sub 0x40001000000000000000000000000000000000000000000000000000000000000000000000000000000000000000000000000000000000000000000000000000000000000000000000000000000000000000000000000000000000000000000000000008000000000000000000004000000003041 mm) :
    Kept mm d0 (evalFar n d) := by
  unfold evalFar; with_reducible exact kept_ite (fire_keeps (wrB_keeps h (subW g) (subW g)) (subW g)) (wrB_keeps h (subW g) (subW g))

theorem applyStep_keeps {d d0 : Dev} {mm : Nat} (h : Kept mm d0 d) (g : Sub 0x40001000000000000000000000000000000000000000000000000000000000000000000000000000000000000000000000000000000000000000000000000000000000000000000000000000000000000000000000000000000000000000000000000040000001800000000000004000000003a69 mm) :
    Kept mm d0 (applyStep d) := by
  unfold applyStep; with_reducible exact by (try dsimp only); split; exact h; exact (kept_ite (fire_keeps (wr_keeps (upd_rul h (subW g)) (subW g)) (subW g)) (kept_ite (by (try dsimp only); split; exact (wr_keeps (loadFrom_keeps (upd_rul h (subW g)) (subW g)) (subW g)); exact (fire_keeps (wr_keeps (upd_rul h (subW g)) (subW g)) (subW g))) (by (try dsimp only); split; exact (wr_keeps (shiftNtw_keeps (upd_rul h (subW g)) (subW g)) (subW g)); exact (fire_keeps (wr_keeps (upd_rul h (subW g)) (subW g)) (subW g)))))

theorem requestStep_keeps {src : Bool} {d d0 : Dev} {mm : Nat} (h : Kept mm d0 d) (g : Sub 0x800 mm) :
    Kept mm d0 (requestStep src d) := by
  unfold requestStep; with_reducible exact upd_rul h (subW g)

theorem clrHoldoff_keeps {mask : Nat} {d d0 : Dev} {mm : Nat} (h : Kept mm d0 d) (g : Sub 0x4000000000000000000000000000000001 mm) :
    Kept mm d0 (clrHoldoff mask d) := by
  unfold clrHoldoff; with_reducible exact forUpTo_keeps h (fun _ _ h1 => kept_ite (wr_keeps h1 (subW g)) h1)

theorem pulseWidthEnd_keeps {pps : Bool} {d d0 : Dev} {mm : Nat} (h : Kept mm d0 d) (g : Sub 0x418 mm) :
    Kept mm d0 (pulseWidthEnd pps d) := by
  unfold pulseWidthEnd; with_reducible exact kept_ite (kept_ite (upd_pins (advanceDev_keeps h (subW g)) (subW g)) h) (kept_ite (upd_pins (advanceDev_keeps h (subW g)) (subW g)) h)

theorem refFramePulse_keeps {n arrival : Nat} {d d0 : Dev} {mm : Nat} (h : Kept mm d0 d) (g : Sub 0x40001000000000000000000000000000000000000000000000000000000000000000000000000000000000000000000000000000000000000000000000000000000000000000000000000000000000000000000000000000000000000000000000000064000000000000000000004000000003879 mm) :
    Kept mm d0 (refFramePulse n arrival d) := by
  unfold refFramePulse; with_reducible exact kept_ite (advanceTo_keeps h (subW g)) (measurePhase_keeps (advanceTo_keeps h (subW g)) (subW g))

theorem ppsOutPulse_keeps {d d0 : Dev} {mm : Nat} (h : Kept mm d0 d) (g : Sub 0x618 mm) :
    Kept mm d0 (ppsOutPulse d) := by
  unfold ppsOutPulse; with_reducible exact kept_ite (upd_pins (atGrid_keeps h (subW g)) (subW g)) (atGrid_keeps h (subW g))

theorem ptpSync_keeps {n sec ns rx : Nat} {d d0 : Dev} {mm : Nat} (h : Kept mm d0 d) (g : Sub 0x40001000000000000000000000000000000000000000000000000000000000000000000000000000000000000000000000000000000000000000000000000000000000000000000000000000000000000000000000000000000000000000000000000064000000000000000000004000000003879 mm) :
    Kept mm d0 (ptpSync n sec ns rx d) := by
  unfold ptpSync; with_reducible exact measurePhase_keeps (advanceTo_keeps h (subW g)) (subW g)

theorem evalCand_keeps {xo : Bool} {n : Nat} {o : CandObs} {d d0 : Dev} {mm : Nat} (h : Kept mm d0 d) (g : Sub 0x400010000000000000000000000000000000000000000000000000000000000000000000000000000000000000000000000000000000000000000000000000000000000000000000000000000000000000000000000000000000000000000000000000d3000000020000000000004000000003861 mm) :
    Kept mm d0 (evalCand xo n o d) := by
  unfold evalCand; with_reducible exact kept_ite (fire_keeps (wrBit_keeps (wr_keeps (wrB_keeps (wrB_keeps (setCand_keeps (kept_ite (setPhase_keeps (wrS_keeps h (subW g) (subW g)) (subW g)) (wrS_keeps h (subW g) (subW g))) (subW g)) (subW g) (subW g)) (subW g) (subW g)) (subW g)) (subW g) (subW g)) (subW g)) (wrBit_keeps (wr_keeps (wrB_keeps (wrB_keeps (setCand_keeps (kept_ite (setPhase_keeps (wrS_keeps h (subW g) (subW g)) (subW g)) (wrS_keeps h (subW g) (subW g))) (subW g)) (subW g) (subW g)) (subW g) (subW g)) (subW g)) (subW g) (subW g))

theorem candRewritten_keeps {n : Nat} {d d0 : Dev} {mm : Nat} (h : Kept mm d0 d) (g : Sub 0x800 mm) :
    Kept mm d0 (candRewritten n d) := by
  unfold candRewritten; with_reducible exact setCand_keeps h (subW g)

theorem refOutFpPulse_keeps {fam p : Nat} {d d0 : Dev} {mm : Nat} (h : Kept mm d0 d) (g : Sub 0x400 mm) :
    Kept mm d0 (refOutFpPulse fam p d) := by
  unfold refOutFpPulse; with_reducible exact kept_ite (upd_pins h (subW g)) h

theorem xoInLost_keeps {d d0 : Dev} {mm : Nat} (h : Kept mm d0 d) (g : Sub 0xc0001000000000000000000000000000000000000000000000000000000000000000000000000000000000000000000000000000000000000000000000000000000000000000000000000000000000000000000000000000000000000000000000000012000000028000000000004000000003841 mm) :
    Kept mm d0 (xoInLost d) := by
  unfold xoInLost; with_reducible exact setRaw_keeps (forUpTo_keeps (wr_keeps (upd_rul h (subW g)) (subW g)) (fun _ _ h1 => kept_ite (fire_keeps (wr_keeps (wrBit_keeps (setCand_keeps (wr_keeps h1 (subW g)) (subW g)) (subW g) (subW g)) (subW g)) (subW g)) (setCand_keeps (wr_keeps h1 (subW g)) (subW g)))) (subW g)

theorem steer_keeps {from_ st : Nat} {freqs : Nat → Int} {d d0 : Dev} {mm : Nat} (h : Kept mm d0 d) (g : Sub 0xc0001000000000000000000000000000000000000000000000000000000000000000000000000000000000000000000000000000000000000000000000000000000000000000000000000000000000000000000000000000000000000000000000000f00000000006000000000004000000003841 mm) :
    Kept mm d0 (steer from_ st freqs d) := by
  unfold steer; with_reducible exact kept_ite h (setRaw_keeps (wrB_keeps (wrS_keeps (wrS_keeps (upd_rul (kept_ite (wrS_keeps (kept_ite (wrS_keeps (kept_ite (wr_keeps (upd_rul h (subW g)) (subW g)) (upd_rul h (subW g))) (subW g) (subW g)) (kept_ite (wr_keeps (upd_rul h (subW g)) (subW g)) (upd_rul h (subW g)))) (subW g) (subW g)) (kept_ite (wrS_keeps (kept_ite (wr_keeps (upd_rul h (subW g)) (subW g)) (upd_rul h (subW g))) (subW g) (subW g)) (kept_ite (wr_keeps (upd_rul h (subW g)) (subW g)) (upd_rul h (subW g))))) (subW g)) (subW g) (subW g)) (subW g) (subW g)) (subW g) (subW g)) (subW g))

theorem timeSet_keeps {freqs : Nat → Int} {d d0 : Dev} {mm : Nat} (h : Kept mm d0 d) (g : Sub 0x40001000000000000000000000000000000000000000000000000000000000000000000000000000000000000000000000000000000000000000000000000000000000000000000000000000000000000000000000000000000000000000000000000040000000001000000000004000000003a69 mm) :
    Kept mm d0 (timeSet freqs d) := by
  unfold timeSet; with_reducible exact kept_ite h (by (try dsimp only); split; exact (wr_keeps (upd_rul (loadFrom_keeps h (subW g)) (subW g)) (subW g)); exact (kept_ite (fire_keeps (wr_keeps (by (try dsimp only); split; exact (loadFrom_keeps h (subW g)); exact h) (subW g)) (subW g)) h))

theorem evalXo_keeps {xo : Bool} {d d0 : Dev} {mm : Nat} (h : Kept mm d0 d) (g : Sub 0xc0001000000000000000000000000000000000000000000000000000000000000000000000000000000000000000000000000000000000000000000000000000000000000000000000000000000000000000000000000000000000000000000000000000000000008000000000004000000003841 mm) :
    Kept mm d0 (evalXo xo d) := by
  unfold evalXo; with_reducible exact kept_ite h (kept_ite (setRaw_keeps (wr_keeps (upd_rul h (subW g)) (subW g)) (subW g)) (upd_rul h (subW g)))

theorem rulingTick_keeps {obs : List CandObs} {xo : Bool} {d d0 : Dev} {mm : Nat} (h : Kept mm d0 d) (g : Sub 0xc0001000000000000000000000000000000000000000000000000000000000000000000000000000000000000000000000000000000000000000000000000000000000000000000000000000000000000000000000000000000000000000000000000fdb00000183fc00000000004000000003a69 mm) :
    Kept mm d0 (rulingTick obs xo d) := by
  unfold rulingTick; with_reducible exact steer_keeps (kept_ite (raiseIrq_keeps (setRaw_keeps (setRaw_keeps (wr_keeps (wr_keeps (upd_rul (setRaw_keeps (wrB_keeps (forUpTo_keeps (applyStep_keeps (timeSet_keeps (forUpTo_keeps (evalXo_keeps h (subW g)) (fun _ _ h1 => evalCand_keeps h1 (subW g))) (subW g)) (subW g)) (fun _ _ h1 => evalFar_keeps h1 (subW g))) (subW g) (subW g)) (subW g)) (subW g)) (subW g)) (subW g)) (subW g)) (subW g)) (subW g)) (setRaw_keeps (setRaw_keeps (wr_keeps (wr_keeps (upd_rul (setRaw_keeps (wrB_keeps (forUpTo_keeps (applyStep_keeps (timeSet_keeps (forUpTo_keeps (evalXo_keeps h (subW g)) (fun _ _ h1 => evalCand_keeps h1 (subW g))) (subW g)) (subW g)) (fun _ _ h1 => evalFar_keeps h1 (subW g))) (subW g) (subW g)) (subW g)) (subW g)) (subW g)) (subW g)) (subW g)) (subW g))) (subW g)

theorem portEvent_keeps {k : Nat} {d d0 : Dev} {mm : Nat} (h : Kept mm d0 d) (g : Sub 0x1c00000000000000000000000000000000000000000000000000000000000000000000000000000000000000000000000000000000000000000000000000000000000000000000000000000000000000000000000000000000000000000000000001 mm) :
    Kept mm d0 (portEvent k d) := by
  unfold portEvent; with_reducible exact kept_ite (wrBit_keeps h (subW g) (subW g)) (kept_ite (wrBit_keeps h (subW g) (subW g)) (kept_ite (wrBit_keeps h (subW g) (subW g)) h))

theorem raiseHealth_keeps {kind num value : Nat} {d d0 : Dev} {mm : Nat} (h : Kept mm d0 d) (g : Sub 0x100000000 mm) :
    Kept mm d0 (raiseHealth kind num value d) := by
  unfold raiseHealth; with_reducible exact upd_health h (subW g)

theorem setFuncState_keeps {k st : Nat} {d d0 : Dev} {mm : Nat} (h : Kept mm d0 d) (g : Sub 0x8000000004000004000000004000000000008000000000000000000000000100000000000001000000000000000000000000000000000000000000000000004000800000000000000000000000000000000000000000000200000000000000000000000000000004000100002041 mm) :
    Kept mm d0 (setFuncState k st d) := by
  unfold setFuncState; with_reducible exact kept_ite h (kept_ite (raiseIrq_keeps (wr_keeps h (subW g (funcOf_state_in _))) (subW g)) (kept_ite (raiseHealth_keeps (raiseIrq_keeps (wr_keeps h (subW g (funcOf_state_in _))) (subW g)) (subW g)) (raiseHealth_keeps (raiseIrq_keeps (wr_keeps h (subW g (funcOf_state_in _))) (subW g)) (subW g))))

theorem startFails_keeps {k : Nat} {d d0 : Dev} {mm : Nat} (h : Kept mm d0 d) (g : Sub 0x40001002000000000000080040000040000001c00000000400000000000000000000000000001000000040000000000000000000000000000000000000000000000001000000020000000000000000000000000000000000000000000000800000000000000000000000000000004000000003041 mm) :
    Kept mm d0 (startFails k d) := by
  unfold startFails; with_reducible exact fire_keeps (portEvent_keeps (wr_keeps h (subW g (funcOf_startErr_in _))) (subW g)) (subW g)

theorem launchFunc_keeps {k : Nat} {check : Dev → Bool} {start stop : Dev → Dev} {d d0 : Dev} {mm : Nat} (h : Kept mm d0 d) (hstart : ∀ d, Kept mm d0 d → Kept mm d0 (start d)) (hstop : ∀ d, Kept mm d0 d → Kept mm d0 (stop d)) (g : Sub 0x40001002000008000000084040004040000005c00000000408000000000000000000000000101000000040001000000000000000000000000000000000000000000001000004020800000000000000000000000000000000000000000000a00000000000000000000000000000004000100003041 mm) :
    Kept mm d0 (launchFunc k check start stop d) := by
  unfold launchFunc; with_reducible exact kept_ite h (kept_ite (kept_ite (kept_ite (hstart _ (setFuncState_keeps h (subW g))) (startFails_keeps h (subW g))) h) (kept_ite (hstop _ (setFuncState_keeps h (subW g))) (kept_ite (setFuncState_keeps h (subW g)) h)))

theorem rejectWrite_keeps {k : Nat} {d d0 : Dev} {mm : Nat} (h : Kept mm d0 d) (g : Sub 0x40001000000000000001040020000020000001c00000000200000000000000000000000000000800000800000000000000000000000000000000000000000000000000800001000000000000000000000000000000000000000000000000000020000000000000000000000000004000000003041 mm) :
    Kept mm d0 (rejectWrite k d) := by
  unfold rejectWrite; with_reducible exact fire_keeps (portEvent_keeps (wr_keeps h (subW g (funcOf_rej_in _))) (subW g)) (subW g)

theorem atTick_keeps {d d0 : Dev} {mm : Nat} (h : Kept mm d0 d) (g : Sub 0x218 mm) :
    Kept mm d0 (atTick d) := by
  unfold atTick; with_reducible exact atGrid_keeps h (subW g)

theorem atFrame_keeps {n : Nat} {d d0 : Dev} {mm : Nat} (h : Kept mm d0 d) (g : Sub 0x218 mm) :
    Kept mm d0 (atFrame n d) := by
  unfold atFrame; with_reducible exact atGrid_keeps h (subW g)

theorem setDstRun_keeps {i : Nat} {r : DstRun} {d d0 : Dev} {mm : Nat} (h : Kept mm d0 d) (g : Sub 0x4000 mm) :
    Kept mm d0 (setDstRun i r d) := by
  unfold setDstRun; with_reducible exact upd_xpt h (subW g)

theorem setSrcRun_keeps {n : Nat} {r : SrcRun} {d d0 : Dev} {mm : Nat} (h : Kept mm d0 d) (g : Sub 0x4000 mm) :
    Kept mm d0 (setSrcRun n r d) := by
  unfold setSrcRun; with_reducible exact upd_xpt h (subW g)

theorem setSurf_keeps {s : Nat} {x : Surf} {d d0 : Dev} {mm : Nat} (h : Kept mm d0 d) (g : Sub 0x10000 mm) :
    Kept mm d0 (setSurf s x d) := by
  unfold setSurf; with_reducible exact upd_ink h rfl (subW g)

theorem beginFrame_keeps {s start : Nat} {d d0 : Dev} {mm : Nat} (h : Kept mm d0 d) (g : Sub 0x680000000000000000000000000000000000000000000000000000000000000000000000000000000000000000000000000000000000000000000000000000000000000010001 mm) :
    Kept mm d0 (beginFrame s start d) := by
  unfold beginFrame; with_reducible exact kept_ite h (wr_keeps (wr_keeps (wr_keeps (setSurf_keeps h (subW g)) (subW g)) (subW g)) (subW g))

theorem setSyncRun_keeps {n : Nat} {x : SyncRun} {d d0 : Dev} {mm : Nat} (h : Kept mm d0 d) (g : Sub 0x10000 mm) :
    Kept mm d0 (setSyncRun n x d) := by
  unfold setSyncRun; with_reducible exact upd_ink h rfl (subW g)

theorem ringPush_keeps {src ch : Nat} {v : Int} {d d0 : Dev} {mm : Nat} (h : Kept mm d0 d) (g : Sub 0x10000 mm) :
    Kept mm d0 (ringPush src ch v d) := by
  unfold ringPush; with_reducible exact forEach_keeps h (fun _ _ h1 => setSyncRun_keeps h1 (subW g))

theorem noteCapture_keeps {s : Nat} {fr : SFrame} {d d0 : Dev} {mm : Nat} (h : Kept mm d0 d) (g : Sub 0x10000 mm) :
    Kept mm d0 (noteCapture s fr d) := by
  unfold noteCapture; with_reducible exact by (try dsimp only); split; exact (kept_ite (upd_ink h rfl (subW g)) h); exact h

theorem completeFrame_keeps {s : Nat} {d d0 : Dev} {mm : Nat} (h : Kept mm d0 d) (g : Sub 0x1300000000000000000000000000000000000000000000000000000000000000000000000000000000000000000000000000000000000000000000000000000000000000010001 mm) :
    Kept mm d0 (completeFrame s d) := by
  unfold completeFrame; with_reducible exact by (try dsimp only); split; exact (wr_keeps (wr_keeps (wr_keeps (noteCapture_keeps (setSurf_keeps h (subW g)) (subW g)) (subW g)) (subW g)) (subW g)); exact h

theorem writeLine_keeps {s line : Nat} {px : List Px} {d d0 : Dev} {mm : Nat} (h : Kept mm d0 d) (g : Sub 0x1700000000000000000000000000000000000000000000000000000000000000000000000000000000000000000000000000000000000000000000000000000000000000010001 mm) :
    Kept mm d0 (writeLine s line px d) := by
  unfold writeLine; with_reducible exact kept_ite h (by (try dsimp only); split; exact (kept_ite (completeFrame_keeps (wr_keeps (setSurf_keeps h (subW g)) (subW g)) (subW g)) (wr_keeps (setSurf_keeps h (subW g)) (subW g))); exact h)

theorem addLine_keeps {src line : Nat} {px : List Px} {d d0 : Dev} {mm : Nat} (h : Kept mm d0 d) (g : Sub 0x1700000000000000000000000000000000000000000000000000000000000000000000000000000000000000000000000000000000000000000000000000000000000000014001 mm) :
    Kept mm d0 (addLine src line px d) := by
  unfold addLine; with_reducible exact forEach_keeps (setSrcRun_keeps h (subW g)) (fun _ _ h1 => writeLine_keeps h1 (subW g))

theorem spoil_keeps {b : BadData} {d d0 : Dev} {mm : Nat} (h : Kept mm d0 d) (g : Sub 0x10000 mm) :
    Kept mm d0 (spoil b d) := by
  unfold spoil; with_reducible exact kept_ite (setSurf_keeps h (subW g)) h

theorem stopWrite_keeps {s : Nat} {d d0 : Dev} {mm : Nat} (h : Kept mm d0 d) (g : Sub 0x200000000000000000000000000000000000000000000000000000000000000000000000000000000000000000000000000000000000000000000000000000000000000000001 mm) :
    Kept mm d0 (stopWrite s d) := by
  unfold stopWrite; with_reducible exact wr_keeps h (subW g)

theorem stopSource_keeps {src : Nat} {d d0 : Dev} {mm : Nat} (h : Kept mm d0 d) (g : Sub 0x200000000000000000000000000000000000000000000000000000000000000000000000000000000000000000000000000000000000000000000000000000000000000000001 mm) :
    Kept mm d0 (stopSource src d) := by
  unfold stopSource; with_reducible exact forEach_keeps h (fun _ _ h1 => stopWrite_keeps h1 (subW g))

theorem beginSourceFrame_keeps {src start : Nat} {d d0 : Dev} {mm : Nat} (h : Kept mm d0 d) (g : Sub 0x680000000000000000000000000000000000000000000000000000000000000000000000000000000000000000000000000000000000000000000000000000000000000010001 mm) :
    Kept mm d0 (beginSourceFrame src start d) := by
  unfold beginSourceFrame; with_reducible exact kept_ite (forEach_keeps h (fun _ _ h1 => beginFrame_keeps h1 (subW g))) h

theorem passFrame_keeps {src start per : Nat} {fr : SFrame} {d d0 : Dev} {mm : Nat} (h : Kept mm d0 d) (g : Sub 0x780000000000000000000000000000000000000000000000000000000000000000000000000000000000000000000000000000000000000000000000000000000000000010001 mm) :
    Kept mm d0 (passFrame src start per fr d) := by
  unfold passFrame; with_reducible exact forEach_keeps h (fun _ _ h1 => by (try dsimp only); split; exact (kept_ite (beginFrame_keeps h1 (subW g)) (wr_keeps (wr_keeps (setSurf_keeps (beginFrame_keeps h1 (subW g)) (subW g)) (subW g)) (subW g))); exact (beginFrame_keeps h1 (subW g)))

theorem attachAnc_keeps {s : Nat} {pkts : List AncPkt} {d d0 : Dev} {mm : Nat} (h : Kept mm d0 d) (g : Sub 0x40001000000000000000000000000000000000000000000000000000000000000000000000000000000000000000000000002100000000000000000000000000000000000000000000000000000000000000000000000000000000000000000000000000000000000000000000004000000013041 mm) :
    Kept mm d0 (attachAnc s pkts d) := by
  unfold attachAnc; with_reducible exact by (try dsimp only); split; exact (kept_ite (setSurf_keeps h (subW g)) (fire_keeps (count_keeps (wr_keeps (setSurf_keeps h (subW g)) (subW g)) (subW g) (subW g)) (subW g))); exact h

theorem endSourceFrame_keeps {src : Nat} {d d0 : Dev} {mm : Nat} (h : Kept mm d0 d) (g : Sub 0x40001000000000000000000000000000000000000000000000000000000000000000000000000000000000000000000000002100000000000000000000000000000000000000000000000000000000000000000000000000000000000000000000000000000000000000000000004000000017041 mm) :
    Kept mm d0 (endSourceFrame src d) := by
  unfold endSourceFrame; with_reducible exact forEach_keeps (setSrcRun_keeps h (subW g)) (fun _ _ h1 => attachAnc_keeps h1 (subW g))

theorem markSlots_keeps {n : Nat} {lost : Bool} {d d0 : Dev} {mm : Nat} (h : Kept mm d0 d) (g : Sub 0x800000000000000000000000000000000000000000000000000001 mm) :
    Kept mm d0 (markSlots n lost d) := by
  unfold markSlots; with_reducible exact by (try dsimp only); split; exact (forUpTo_keeps h (fun _ _ h1 => wrB_keeps h1 (subW g) (subW g))); exact h

theorem declareRecovery_keeps {n : Nat} {d d0 : Dev} {mm : Nat} (h : Kept mm d0 d) (g : Sub 0x800000000000000000000000000000000000000000000000004001 mm) :
    Kept mm d0 (declareRecovery n d) := by
  unfold declareRecovery; with_reducible exact kept_ite h (markSlots_keeps (setSrcRun_keeps h (subW g)) (subW g))

theorem declareDst_keeps {i : Nat} {d d0 : Dev} {mm : Nat} (h : Kept mm d0 d) (g : Sub 0x40001000000000000000000000000000000000000000000000000000000000000000000000000000000000000000000000000000000000000000000000000000000000000000000000000000000000000000000000000810000000000000000000000000000000000000000000004000000007041 mm) :
    Kept mm d0 (declareDst i d) := by
  unfold declareDst; with_reducible exact kept_ite h (fire_keeps (count_keeps (wr_keeps (setDstRun_keeps h (subW g)) (subW g)) (subW g) (subW g)) (subW g))

theorem startFill_keeps {i line : Nat} {d d0 : Dev} {mm : Nat} (h : Kept mm d0 d) (g : Sub 0x4000 mm) :
    Kept mm d0 (startFill i line d) := by
  unfold startFill; with_reducible exact setDstRun_keeps h (subW g)

theorem slotLost_keeps {n width : Nat} {lost : Bool} {d d0 : Dev} {mm : Nat} (h : Kept mm d0 d) (g : Sub 0x40001000000000000000000000000000000000000000000000000000000000000000000000000000000000000000000000000000000000000000000000000000000000000000000000000000000000000000000000000810000800000000000000000000000000000000000000004000000007041 mm) :
    Kept mm d0 (slotLost n width lost d) := by
  unfold slotLost; with_reducible exact kept_ite (forEach_keeps (forUpTo_keeps h (fun _ _ h1 => wrB_keeps h1 (subW g) (subW g))) (fun _ _ h1 => kept_ite (startFill_keeps (declareDst_keeps h1 (subW g)) (subW g)) h1)) (forUpTo_keeps h (fun _ _ h1 => wrB_keeps h1 (subW g) (subW g)))

theorem declareLoss_keeps {n : Nat} {d d0 : Dev} {mm : Nat} (h : Kept mm d0 d) (g : Sub 0x40001000000000000000000000000000000000000000000000000000000000000000000000000000000000000000200000000000000000000000000000000000000000000000000000000000000000000000000000000810000800000000000000000000000000000000000000004000000007041 mm) :
    Kept mm d0 (declareLoss n d) := by
  unfold declareLoss; with_reducible exact kept_ite h (forEach_keeps (stopSource_keeps (markSlots_keeps (setSrcRun_keeps h (subW g)) (subW g)) (subW g)) (fun _ _ h1 => kept_ite (startFill_keeps (declareDst_keeps (kept_ite (setDstRun_keeps h1 (subW g)) h1) (subW g)) (subW g)) (kept_ite (setDstRun_keeps h1 (subW g)) h1)))

theorem setArrival_keeps {src : Nat} {e : Int} {d d0 : Dev} {mm : Nat} (h : Kept mm d0 d) (g : Sub 0x40001000000000000000000000000000000000000000000000000000000000000000000000000000000000000000000000000000000000000000000000000000000000000000000000000000000000000000000000000810002000000000000000000000000000000000000000004000000007041 mm) :
    Kept mm d0 (setArrival src e d) := by
  unfold setArrival; with_reducible exact kept_ite (fire_keeps (forEach_keeps (setSrcRun_keeps (by (try dsimp only); split; exact (forUpTo_keeps (setSrcRun_keeps h (subW g)) (fun _ _ h1 => wrS_keeps h1 (subW g) (subW g))); exact (setSrcRun_keeps h (subW g))) (subW g)) (fun _ _ h1 => kept_ite (declareDst_keeps h1 (subW g)) h1)) (subW g)) (setSrcRun_keeps (by (try dsimp only); split; exact (forUpTo_keeps (setSrcRun_keeps h (subW g)) (fun _ _ h1 => wrS_keeps h1 (subW g) (subW g))); exact (setSrcRun_keeps h (subW g))) (subW g))

theorem captureFails_keeps {d d0 : Dev} {mm : Nat} (h : Kept mm d0 d) (g : Sub 0x40001000000000000000000000000000000000000000000000000000000000000000000000000000000000000000000000000400000000000000000000000000000000000000000000000000000000000000000000000000000000000000000000000000000000000000000000004000000003041 mm) :
    Kept mm d0 (captureFails d) := by
  unfold captureFails; with_reducible exact fire_keeps (wr_keeps h (subW g)) (subW g)

theorem captureAbort_keeps {d d0 : Dev} {mm : Nat} (h : Kept mm d0 d) (g : Sub 0x40001000000000000000000000000000000000000000000000000000000000000000000000000000000000000000000050000400000000000000000000000000000000000000000000000000000000000000000000000000000000000000000000000000000000000000000000004000000013041 mm) :
    Kept mm d0 (captureAbort d) := by
  unfold captureAbort; with_reducible exact captureFails_keeps (wr_keeps (wr_keeps (upd_ink h rfl (subW g)) (subW g)) (subW g)) (subW g)

theorem freeSurf_keeps {s : Nat} {d d0 : Dev} {mm : Nat} (h : Kept mm d0 d) (g : Sub 0x40001000000000000000000000000000000000000000000000000000000000000000000000000000000000000001ffff50000400000000000000000000000000000000000000000000000000000000000000000000000000000000000000000000000000000000000000000000004000000013041 mm) :
    Kept mm d0 (freeSurf s d) := by
  unfold freeSurf; with_reducible exact by (try dsimp only); split; exact (kept_ite (captureAbort_keeps (forEach_mem_keeps (upd_ink h rfl (subW g)) (fun _ m1 _ h1 => wr_keeps h1 (subL g m1))) (subW g)) (forEach_mem_keeps (upd_ink h rfl (subW g)) (fun _ m1 _ h1 => wr_keeps h1 (subL g m1)))); exact (forEach_mem_keeps (upd_ink h rfl (subW g)) (fun _ m1 _ h1 => wr_keeps h1 (subL g m1)))

theorem overlayExchange_keeps {h_ : Nat} {d d0 : Dev} {mm : Nat} (h : Kept mm d0 d) (g : Sub 0x1800000000000000000000000000000000000000000000000000000000000000000000000000000000000000000000000000000000000000000000000000000000000219 mm) :
    Kept mm d0 (overlayExchange h_ d) := by
  unfold overlayExchange; with_reducible exact kept_ite (wr_keeps (wr_keeps (atGrid_keeps h (subW g)) (subW g)) (subW g)) h

theorem placeSync_keeps {n : Nat} {r : SyncRun} {channels : Nat} {d d0 : Dev} {mm : Nat} (h : Kept mm d0 d) (g : Sub 0x4000100000000000000000000000000000000000000000000000000000000000000000000000000000000000003e000000000800000000000000000000000000000000000000000000000000000000000000000000000000000000000000000000000000000000000000000000004000000013041 mm) :
    Kept mm d0 (placeSync n r channels d) := by
  unfold placeSync; with_reducible exact kept_ite (fire_keeps (wr_keeps (kept_ite (setSyncRun_keeps h (subW g)) (wr_keeps (wrB_keeps (wr_keeps (wr_keeps (wrB_keeps (setSyncRun_keeps h (subW g)) (subW g) (subW g)) (subW g)) (subW g)) (subW g) (subW g)) (subW g))) (subW g)) (subW g)) (kept_ite (setSyncRun_keeps h (subW g)) (wr_keeps (wrB_keeps (wr_keeps (wr_keeps (wrB_keeps (setSyncRun_keeps h (subW g)) (subW g) (subW g)) (subW g)) (subW g)) (subW g) (subW g)) (subW g)))

theorem freeSync_keeps {n : Nat} {d d0 : Dev} {mm : Nat} (h : Kept mm d0 d) (g : Sub 0x7fe000000000000000000000000000000000000000000000000000000000000000000000000000000000000000000000000000000000000000000000000000000000000000010001 mm) :
    Kept mm d0 (freeSync n d) := by
  unfold freeSync; with_reducible exact forEach_mem_keeps (upd_ink h rfl (subW g)) (fun _ m1 _ h1 => wr_keeps h1 (subL g m1))

theorem writeHold_keeps {i : Nat} {clean : Bool} {d d0 : Dev} {mm : Nat} (h : Kept mm d0 d) (g : Sub 0x380000000000000000000000000000000000000000000000000000000000000000000000000000000000000000000000000000000000000000000000000000000000000010001 mm) :
    Kept mm d0 (writeHold i clean d).1 := by
  unfold writeHold; with_reducible exact kept_ite_1 h (kept_ite_1 h (kept_ite_1 h (wr_keeps (wr_keeps (wr_keeps (setSurf_keeps h (subW g)) (subW g)) (subW g)) (subW g))))

theorem captureDone_keeps {d d0 : Dev} {mm : Nat} (h : Kept mm d0 d) (g : Sub 0x400010000000000000000000000000000000000000000000000000000000000000000000000000000000000000000000f0000400000000000000000000000000000000000000000000000000000000000000000000000000000000000000000000000000000000000000000000004000000013041 mm) :
    Kept mm d0 (captureDone d) := by
  unfold captureDone; with_reducible exact by (try dsimp only); split; exact (by (try dsimp only); split; exact (kept_ite (captureAbort_keeps h (subW g)) (wr_keeps (wr_keeps (wr_keeps (upd_ink (forEach_keeps h (fun _ _ h1 => writeCapture_keeps h1 (subW g))) rfl (subW g)) (subW g)) (subW g)) (subW g))); exact h); exact h

theorem placeSurf_keeps {s kind owner fmt fam ch bank depth : Nat} {proxies kHalf ring : Bool} {slot since : Nat} {d d0 : Dev} {mm : Nat} (h : Kept mm d0 d) (g : Sub 0x1ffff00000000000000000000000000000000000000000000000000000000000000000000000000000000000000000000000000000000000000000000000000000000000010001 mm) :
    Kept mm d0 (placeSurf s kind owner fmt fam ch bank depth proxies kHalf ring slot since d) := by
  unfold placeSurf; with_reducible exact wr_keeps (wr_keeps (wr_keeps (wr_keeps (wr_keeps (wr_keeps (wr_keeps (wr_keeps (wrB_keeps (wrB_keeps (wr_keeps (wr_keeps (wr_keeps (wr_keeps (wr_keeps (wr_keeps (wr_keeps (setSurf_keeps h (subW g)) (subW g)) (subW g)) (subW g)) (subW g)) (subW g)) (subW g)) (subW g)) (subW g) (subW g)) (subW g) (subW g)) (subW g)) (subW g)) (subW g)) (subW g)) (subW g)) (subW g)) (subW g)) (subW g)

theorem overlayFlip_keeps {h_ : Nat} {flip : Bool} {d d0 : Dev} {mm : Nat} (h : Kept mm d0 d) (g : Sub 0x800000000000000000000000000000000000000000000000000000000000000000000000000000000000000000000000000000000000000000000000000000000000001 mm) :
    Kept mm d0 (overlayFlip h_ flip d) := by
  unfold overlayFlip; with_reducible exact kept_ite (wr_keeps h (subW g)) h

theorem failSurfaces_keeps {ch : Nat} {d d0 : Dev} {mm : Nat} (h : Kept mm d0 d) (g : Sub 0x40001000000000000000000000000000000000000000000000000000000000000000000000000000000000000000200050000400000000000000000000000000000000000000000000000000000000000000000000000000000000000000000000000000000000000000000000004000000013041 mm) :
    Kept mm d0 (failSurfaces ch d) := by
  unfold failSurfaces; with_reducible exact kept_ite (captureAbort_keeps (forEach_keeps h (fun _ _ h1 => stopWrite_keeps (setSurf_keeps h1 (subW g)) (subW g))) (subW g)) (forEach_keeps h (fun _ _ h1 => stopWrite_keeps (setSurf_keeps h1 (subW g)) (subW g)))

theorem slipPairs_keeps {n code samples : Nat} {d d0 : Dev} {mm : Nat} (h : Kept mm d0 d) (g : Sub 0x10000 mm) :
    Kept mm d0 (slipPairs n code samples d) := by
  unfold slipPairs; with_reducible exact setSyncRun_keeps h (subW g)

theorem emitFrame_keeps {n : Nat} {fr : SFrame} {code tout ps p : Nat} {d d0 : Dev} {mm : Nat} (h : Kept mm d0 d) (g : Sub 0x400010000000000000000000000000000000000000000000000000000000000000000000000000000000000005c0780000000000000000000000000000000000000000000000000000000000000000000000000000000810000800000000000000000000000000000000000000004000000017041 mm) :
    Kept mm d0 (emitFrame n fr code tout ps p d) := by
  unfold emitFrame; with_reducible exact kept_ite (fire_keeps (count_keeps (kept_ite (slipPairs_keeps (passFrame_keeps (slotLost_keeps (wrS_keeps (wr_keeps (setSyncRun_keeps h (subW g)) (subW g)) (subW g) (subW g)) (subW g)) (subW g)) (subW g)) (passFrame_keeps (slotLost_keeps (wrS_keeps (wr_keeps (setSyncRun_keeps h (subW g)) (subW g)) (subW g) (subW g)) (subW g)) (subW g))) (subW g) (subW g)) (subW g)) (kept_ite (fire_keeps (count_keeps (kept_ite (slipPairs_keeps (passFrame_keeps (slotLost_keeps (wrS_keeps (wr_keeps (setSyncRun_keeps h (subW g)) (subW g)) (subW g) (subW g)) (subW g)) (subW g)) (subW g)) (passFrame_keeps (slotLost_keeps (wrS_keeps (wr_keeps (setSyncRun_keeps h (subW g)) (subW g)) (subW g) (subW g)) (subW g)) (subW g))) (subW g) (subW g)) (subW g)) (passFrame_keeps (slotLost_keeps (wrS_keeps (wr_keeps (setSyncRun_keeps h (subW g)) (subW g)) (subW g) (subW g)) (subW g)) (subW g)))

theorem loseSlot_keeps {n : Nat} {d d0 : Dev} {mm : Nat} (h : Kept mm d0 d) (g : Sub 0x40001000000000000000000000000000000000000000000000000000000000000000000000000000000000000000000000000000000000000000000000000000000000000000000000000000000000000000000000000810000800000000000000000000000000000000000000004000000017041 mm) :
    Kept mm d0 (loseSlot n d) := by
  unfold loseSlot; with_reducible exact kept_ite (slotLost_keeps (setSyncRun_keeps h (subW g)) (subW g)) (setSyncRun_keeps h (subW g))

theorem syncOutput_keeps {n : Nat} {d d0 : Dev} {mm : Nat} (h : Kept mm d0 d) (g : Sub 0x400010000000000000000000000000000000000000000000000000000000000000000000000000000000000005c0780000000000000000000000000000000000000000000000000000000000000000000000000000000810000800000000000000000000000000000000000000004000000017259 mm) :
    Kept mm d0 (syncOutput n d) := by
  unfold syncOutput; with_reducible exact kept_ite h (kept_ite (kept_ite (by (try dsimp only); split; exact (kept_ite (emitFrame_keeps (setSyncRun_keeps (atGrid_keeps h (subW g)) (subW g)) (subW g)) (setSyncRun_keeps (atGrid_keeps h (subW g)) (subW g))); exact (loseSlot_keeps (setSyncRun_keeps (atGrid_keeps h (subW g)) (subW g)) (subW g))) (loseSlot_keeps (setSyncRun_keeps (atGrid_keeps h (subW g)) (subW g)) (subW g))) (kept_ite (kept_ite (loseSlot_keeps (atGrid_keeps h (subW g)) (subW g)) (by (try dsimp only); split; exact (emitFrame_keeps (atGrid_keeps h (subW g)) (subW g)); exact (kept_ite (loseSlot_keeps (atGrid_keeps h (subW g)) (subW g)) (atGrid_keeps h (subW g))))) (by (try dsimp only); split; exact (kept_ite (loseSlot_keeps (atGrid_keeps h (subW g)) (subW g)) (slotLost_keeps (wr_keeps (setSyncRun_keeps (atGrid_keeps h (subW g)) (subW g)) (subW g)) (subW g))); exact (loseSlot_keeps (atGrid_keeps h (subW g)) (subW g)))))

theorem bar2Write_keeps {a : Nat} {bytes : List Nat} {d d0 : Dev} {mm : Nat} (h : Kept mm d0 d) (g : Sub 0x40001000000000000000000000000000000000000000000000000000000000000000000000000000000000000000000000000200000000000000000000000000000000000000000000000000000000000000000000000000000000000000000000000000000000000000000000004000000013041 mm) :
    Kept mm d0 (bar2Write a bytes d) := by
  unfold bar2Write; with_reducible exact by (try dsimp only); split; exact (kept_ite (fire_keeps (wr_keeps h (subW g)) (subW g)) (forEach_keeps h (fun _ _ h1 => bar2WriteByte_keeps h1 (subW g)))); exact (forEach_keeps h (fun _ _ h1 => bar2WriteByte_keeps h1 (subW g)))

theorem captureStart_keeps {start : Bool} {picture surf : Nat} {d d0 : Dev} {mm : Nat} (h : Kept mm d0 d) (g : Sub 0x4000100000000000000000000000000000000000000000000000000000000000000000000000000000000000000000007c000400000000000000000000000000000000000000000000000000000000000000000000000000000000000000000000000000000000000000000000004000000013041 mm) :
    Kept mm d0 (captureStart start picture surf d) := by
  unfold captureStart; with_reducible exact kept_ite (wr_keeps (wr_keeps h (subW g)) (subW g)) (kept_ite (captureFails_keeps (wr_keeps (wr_keeps h (subW g)) (subW g)) (subW g)) (kept_ite (captureAbort_keeps (wr_keeps (wr_keeps (wr_keeps (wr_keeps (wr_keeps h (subW g)) (subW g)) (subW g)) (subW g)) (subW g)) (subW g)) (upd_ink (wr_keeps (wr_keeps (wr_keeps (wr_keeps (wr_keeps h (subW g)) (subW g)) (subW g)) (subW g)) (subW g)) rfl (subW g))))

theorem withRes_keeps {b : Nat} {f : Dev → Dev} {d d0 : Dev} {mm : Nat} (h : Kept mm d0 d) (hf : ∀ d, Kept mm d0 d → Kept mm d0 (f d)) (g : Sub 0x4000000002041 mm) :
    Kept mm d0 (withRes b f d) := by
  unfold withRes; with_reducible exact kept_ite (hf _ h) (raiseIrq_keeps (hf _ h) (subW g))

theorem setRes_keeps {b code firstBad : Nat} {late deferred : Bool} {d d0 : Dev} {mm : Nat} (h : Kept mm d0 d) (g : Sub 0x1f80000000000000000000000000000000000004000000002041 mm) :
    Kept mm d0 (setRes b code firstBad late deferred d) := by
  unfold setRes; with_reducible exact withRes_keeps h (fun _ h1 => wr_keeps (wr_keeps (wrB_keeps (wrB_keeps (wr_keeps (wr_keeps h1 (subW g)) (subW g)) (subW g) (subW g)) (subW g) (subW g)) (subW g)) (subW g)) (subW g)

theorem recordDone_keeps {p : Rec → Bool} {d d0 : Dev} {mm : Nat} (h : Kept mm d0 d) (g : Sub 0x800000000000000000000000000000000000004000000006041 mm) :
    Kept mm d0 (recordDone p d) := by
  unfold recordDone; with_reducible exact forEach_keeps (upd_xpt h (subW g)) (fun _ _ h1 => withRes_keeps h1 (fun _ h2 => wr_keeps h2 (subW g)) (subW g))

theorem notExecuted_keeps {b tag : Nat} {d d0 : Dev} {mm : Nat} (h : Kept mm d0 d) (g : Sub 0x4000100000000000000000000000000000000000000000000000000000000000000000000000000000000000000000000000000000000000000000000000000000000000000000000000000000000000000000000000000000000019a000000000000000000000000000000000004000000003041 mm) :
    Kept mm d0 (notExecuted b tag d) := by
  unfold notExecuted; with_reducible exact fire_keeps (wr_keeps (count_keeps (wr_keeps (withRes_keeps h (fun _ h1 => wr_keeps (wr_keeps h1 (subW g)) (subW g)) (subW g)) (subW g)) (subW g) (subW g)) (subW g)) (subW g)

theorem ringBank_keeps {b : Nat} {d d0 : Dev} {mm : Nat} (h : Kept mm d0 d) (g : Sub 0x40001000000000000000000000000000000000000000000000000000000000000000000000000000000000000000000000000000000000000000000000000000000000000000000000000000000000000000000000000000000001f9a800000000000000000000000000000000004000000007041 mm) :
    Kept mm d0 (ringBank b d) := by
  unfold ringBank; with_reducible exact kept_ite (fire_keeps (wr_keeps h (subW g)) (subW g)) (kept_ite (notExecuted_keeps (upd_xpt (withRes_keeps h (fun _ h1 => wr_keeps (wr_keeps (wr_keeps (wr_keeps (wr_keeps (wr_keeps h1 (subW g)) (subW g)) (subW g)) (subW g)) (subW g)) (subW g)) (subW g)) (subW g)) (subW g)) (upd_xpt (upd_xpt (withRes_keeps h (fun _ h1 => wr_keeps (wr_keeps (wr_keeps (wr_keeps (wr_keeps (wr_keeps h1 (subW g)) (subW g)) (subW g)) (subW g)) (subW g)) (subW g)) (subW g)) (subW g)) (subW g)))

theorem doorbell_keeps {ring0 ring1 : Bool} {d d0 : Dev} {mm : Nat} (h : Kept mm d0 d) (g : Sub 0x40001000000000000000000000000000000000000000000000000000000000000000000000000000000000000000000000000000000000000000000000000000000000000000000000000000000000000000000000000000000001f9a800000000000000000000000000000000004000000007041 mm) :
    Kept mm d0 (doorbell ring0 ring1 d) := by
  unfold doorbell; with_reducible exact kept_ite h (kept_ite (ringBank_keeps (kept_ite (ringBank_keeps h (subW g)) h) (subW g)) (kept_ite (ringBank_keeps h (subW g)) h))

theorem mailboxWrite_keeps {b : Nat} {rec : Option Nat} {word value : Nat} {d d0 : Dev} {mm : Nat} (h : Kept mm d0 d) (g : Sub 0x40001000000000000000000000000000000000000000000000000000000000000000000000000000000000000000000000000000000000000000000000000000000000000000000000000000000000000000000000002000000002000400000000000000000000000000000000004000000003041 mm) :
    Kept mm d0 (mailboxWrite b rec word value d) := by
  unfold mailboxWrite; with_reducible exact kept_ite (fire_keeps (wr_keeps h (subW g)) (subW g)) (by (try dsimp only); split; exact (wr_keeps h (subW g)); exact (wr_keeps h (subW g)))

theorem clearStitch_keeps {p : DstPlace} {d d0 : Dev} {mm : Nat} (h : Kept mm d0 d) (g : Sub 0x1f0000000000000000000000000000000000000000000000000001 mm) :
    Kept mm d0 (clearStitch p d) := by
  unfold clearStitch; with_reducible exact kept_ite h (forUpTo_keeps h (fun _ _ h1 => wr_keeps (wr_keeps (wr_keeps (wr_keeps (wr_keeps h1 (subW g)) (subW g)) (subW g)) (subW g)) (subW g)))

theorem wrStitch_keeps {i : Nat} {p : DstPlace} {valid : Bool} {d d0 : Dev} {mm : Nat} (h : Kept mm d0 d) (g : Sub 0x1f0000000000000000000000000000000000000000000000000001 mm) :
    Kept mm d0 (wrStitch i p valid d) := by
  unfold wrStitch; with_reducible exact kept_ite h (forUpTo_keeps h (fun _ _ h1 => wr_keeps (wrB_keeps (wr_keeps (wrB_keeps (wr_keeps h1 (subW g)) (subW g) (subW g)) (subW g)) (subW g) (subW g)) (subW g)))

theorem applyPlace_keeps {i : Nat} {p : DstPlace} {d d0 : Dev} {mm : Nat} (h : Kept mm d0 d) (g : Sub 0x1ffbe0000000000018c0001f0000000000000000000000000000000000000000000000004001 mm) :
    Kept mm d0 (applyPlace i p d) := by
  unfold applyPlace; with_reducible exact wr_keeps (wr_keeps (wr_keeps (wrB_keeps (wr_keeps (wr_keeps (wr_keeps (wrB_keeps (wr_keeps (wrB_keeps (wrB_keeps (wr_keeps (wr_keeps (wrB_keeps (wrB_keeps (wrB_keeps (wrB_keeps (wr_keeps (wr_keeps (wrStitch_keeps (upd_xpt (kept_ite (clearStitch_keeps h (subW g)) h) (subW g)) (subW g)) (subW g)) (subW g)) (subW g) (subW g)) (subW g) (subW g)) (subW g) (subW g)) (subW g) (subW g)) (subW g)) (subW g)) (subW g) (subW g)) (subW g) (subW g)) (subW g)) (subW g) (subW g)) (subW g)) (subW g)) (subW g)) (subW g) (subW g)) (subW g)) (subW g)) (subW g)

theorem showQueue_keeps {d d0 : Dev} {mm : Nat} (h : Kept mm d0 d) (g : Sub 0x8c0000000000000000000000000000000000000001 mm) :
    Kept mm d0 (showQueue d) := by
  unfold showQueue; with_reducible exact wr_keeps (kept_ite (wr_keeps (wr_keeps h (subW g)) (subW g)) (wr_keeps h (subW g))) (subW g)

theorem setCarry_keeps {i at_ : Nat} {c : Carry} {d d0 : Dev} {mm : Nat} (h : Kept mm d0 d) (g : Sub 0x400000000000000000000000000000000000000000000000000000004001 mm) :
    Kept mm d0 (setCarry i at_ c d) := by
  unfold setCarry; with_reducible exact setDstRun_keeps (kept_ite (count_keeps h (subW g) (subW g)) h) (subW g)

theorem recordRoute_keeps {kind : Nat} {data : List Nat} {d d0 : Dev} {mm : Nat} (h : Kept mm d0 d) (g : Sub 0x10000000 mm) :
    Kept mm d0 (recordRoute kind data d) := by
  unfold recordRoute; with_reducible exact upd_journal h (subW g)

theorem dstStart_keeps {x : DstDesc} {d d0 : Dev} {mm : Nat} (h : Kept mm d0 d) (g : Sub 0x400000000000000000000000000000000000000000000000000000004001 mm) :
    Kept mm d0 (dstStart x d) := by
  unfold dstStart; with_reducible exact setCarry_keeps (setDstRun_keeps h (subW g)) (subW g)

theorem dstFrame_keeps {i : Nat} {d d0 : Dev} {mm : Nat} (h : Kept mm d0 d) (g : Sub 0x380000000000000000000000000000000000000000000000000000000000000000000000000000000200000000000000000000000000000000000000000000000000000014001 mm) :
    Kept mm d0 (dstFrame i d) := by
  unfold dstFrame; with_reducible exact setDstRun_keeps (kept_ite (wr_keeps (kept_ite (wr_keeps (writeHold_keeps h (subW g)) (subW g)) (writeHold_keeps h (subW g))) (subW g)) (kept_ite (wr_keeps (writeHold_keeps h (subW g)) (subW g)) (writeHold_keeps h (subW g)))) (subW g)

theorem setSafeCarry_keeps {i at_ : Nat} {c : Carry} {d d0 : Dev} {mm : Nat} (h : Kept mm d0 d) (g : Sub 0x400000000000000000000000000000000000000000000000000000004001 mm) :
    Kept mm d0 (setSafeCarry i at_ c d) := by
  unfold setSafeCarry; with_reducible exact setDstRun_keeps (setCarry_keeps h (subW g)) (subW g)

theorem applyFormat_keeps {i : Nat} {d d0 : Dev} {mm : Nat} (h : Kept mm d0 d) (g : Sub 0xc00000000000000000000000000000000000000000000000000004001 mm) :
    Kept mm d0 (applyFormat i d) := by
  unfold applyFormat; with_reducible exact by (try dsimp only); split; exact (setDstRun_keeps (wr_keeps (wr_keeps h (subW g)) (subW g)) (subW g)); exact h

theorem applyPolicy_keeps {i : Nat} {d d0 : Dev} {mm : Nat} (h : Kept mm d0 d) (g : Sub 0x203e0000000000000000000000000000000000000000000000000004001 mm) :
    Kept mm d0 (applyPolicy i d) := by
  unfold applyPolicy; with_reducible exact by (try dsimp only); split; exact (setDstRun_keeps (kept_ite (wr_keeps (wr_keeps (wr_keeps (wr_keeps (wr_keeps h (subW g)) (subW g)) (subW g)) (subW g)) (subW g)) (wr_keeps (wr_keeps (wr_keeps (wr_keeps (wr_keeps (wr_keeps h (subW g)) (subW g)) (subW g)) (subW g)) (subW g)) (subW g))) (subW g)); exact h

theorem evalOutput_keeps {i kind num : Nat} {d d0 : Dev} {mm : Nat} (h : Kept mm d0 d) (g : Sub 0x40001000000000000000000000000000000000000000000000000000000000000000000000000000000000000000000000000000000000000000000000000000000000000000000000000000000000000000000000000c70fe0000800000000000000000000000000000000000004000000007041 mm) :
    Kept mm d0 (evalOutput i kind num d) := by
  unfold evalOutput; with_reducible exact recordDone_keeps (setDstRun_keeps (setCarry_keeps (kept_ite (fire_keeps (kept_ite (fire_keeps (wrB_keeps (wrB_keeps (wrB_keeps (kept_ite (declareDst_keeps (applyFormat_keeps (applyPolicy_keeps h (subW g)) (subW g)) (subW g)) (applyFormat_keeps (applyPolicy_keeps h (subW g)) (subW g))) (subW g) (subW g)) (subW g) (subW g)) (subW g) (subW g)) (subW g)) (wrB_keeps (wrB_keeps (wrB_keeps (kept_ite (declareDst_keeps (applyFormat_keeps (applyPolicy_keeps h (subW g)) (subW g)) (subW g)) (applyFormat_keeps (applyPolicy_keeps h (subW g)) (subW g))) (subW g) (subW g)) (subW g) (subW g)) (subW g) (subW g))) (subW g)) (kept_ite (fire_keeps (wrB_keeps (wrB_keeps (wrB_keeps (kept_ite (declareDst_keeps (applyFormat_keeps (applyPolicy_keeps h (subW g)) (subW g)) (subW g)) (applyFormat_keeps (applyPolicy_keeps h (subW g)) (subW g))) (subW g) (subW g)) (subW g) (subW g)) (subW g) (subW g)) (subW g)) (wrB_keeps (wrB_keeps (wrB_keeps (kept_ite (declareDst_keeps (applyFormat_keeps (applyPolicy_keeps h (subW g)) (subW g)) (subW g)) (applyFormat_keeps (applyPolicy_keeps h (subW g)) (subW g))) (subW g) (subW g)) (subW g) (subW g)) (subW g) (subW g)))) (subW g)) (subW g)) (subW g)

theorem switchPoint_keeps {i : Nat} {d d0 : Dev} {mm : Nat} (h : Kept mm d0 d) (g : Sub 0x40001000000000000000000000000000000000000000000000000000000000000000000000000000000000000000000000000000000000000000000000000000000000000000000000000000000000000000000000000c70fe0000800000000000000000000000000000000000004000000007259 mm) :
    Kept mm d0 (switchPoint i d) := by
  unfold switchPoint; with_reducible exact by (try dsimp only); split; exact h; exact (by (try dsimp only); split; exact h; exact (kept_ite h (kept_ite (setSafeCarry_keeps (kept_ite (declareDst_keeps (atGrid_keeps h (subW g)) (subW g)) (atGrid_keeps h (subW g))) (subW g)) (evalOutput_keeps (atGrid_keeps h (subW g)) (subW g)))))

theorem putRecord_keeps {x : Rec} {d d0 : Dev} {mm : Nat} (h : Kept mm d0 d) (g : Sub 0x20010000000000000000000000000000000000000000000000000004001 mm) :
    Kept mm d0 (putRecord x d) := by
  unfold putRecord; with_reducible exact by (try dsimp only); split; exact h; exact (kept_ite (kept_ite (wr_keeps (wr_keeps h (subW g)) (subW g)) (setDstRun_keeps (wr_keeps (wr_keeps h (subW g)) (subW g)) (subW g))) (kept_ite (setDstRun_keeps h (subW g)) (kept_ite (upd_xpt h (subW g)) (setDstRun_keeps h (subW g)))))

theorem applyRecord_keeps {x : Rec} {d d0 : Dev} {mm : Nat} (h : Kept mm d0 d) (g : Sub 0x20010000000000000100000000000000000000000000000000010004001 mm) :
    Kept mm d0 (applyRecord x d) := by
  unfold applyRecord; with_reducible exact putRecord_keeps (recordRoute_keeps (wr_keeps h (subW g)) (subW g)) (subW g)

theorem launchOne_keeps {q : QSalvo} {d d0 : Dev} {mm : Nat} (h : Kept mm d0 d) (g : Sub 0x1ffbe000000000001ac0101f0000000000100000000000000000000000000000000010004001 mm) :
    Kept mm d0 (launchOne q d) := by
  unfold launchOne; with_reducible exact kept_ite (upd_xpt (forEach_keeps (forEach_keeps h (fun _ _ h1 => applyRecord_keeps h1 (subW g))) (fun _ _ h1 => applyPlace_keeps h1 (subW g))) (subW g)) (forEach_keeps (forEach_keeps h (fun _ _ h1 => applyRecord_keeps h1 (subW g))) (fun _ _ h1 => applyPlace_keeps h1 (subW g)))

theorem launch_keeps {d d0 : Dev} {mm : Nat} (h : Kept mm d0 d) (g : Sub 0x1ffbe000000000001ac0101f00000000009c0000000000000000000000000000000010004019 mm) :
    Kept mm d0 (launch d) := by
  unfold launch; with_reducible exact by (try dsimp only); split; exact h; exact (showQueue_keeps (forEach_keeps (upd_xpt (advanceTo_keeps h (subW g)) (subW g)) (fun _ _ h1 => launchOne_keeps h1 (subW g))) (subW g))

theorem dstStop_keeps {x : DstDesc} {d d0 : Dev} {mm : Nat} (h : Kept mm d0 d) (g : Sub 0x400000000000000000000000000000000000000000000000000000004001 mm) :
    Kept mm d0 (dstStop x d) := by
  unfold dstStop; with_reducible exact setCarry_keeps h (subW g)

end Sys2Proof.Machine
end

