-- ==== Sys2Proof/Laws/KeepsLanes.lean ====
section
/-! SUPPORT. Which parts of a device and which registers the functions of the lanes, the SDI inputs and outputs and the audio can change: one lemma per
function. A mask's bits are `DevPart.mask` and `fldMask`. -/

namespace Sys2Proof.Machine

set_option maxRecDepth 4000
set_option Elab.async false
set_option exponentiation.threshold 2048
set_option linter.unusedVariables false

theorem voidScan_keeps {l cause : Nat} {d d0 : Dev} {mm : Nat} (h : Kept mm d0 d) (g : Sub 0x5c000002000000000000000000000000000000000000000000000000000000000000000000000000000000001 mm) :
    Kept mm d0 (voidScan l cause d) := by
  unfold voidScan; with_reducible exact kept_ite (wr_keeps (wr_keeps (wr_keeps (wr_keeps (wr_keeps h (subW g)) (subW g)) (subW g)) (subW g)) (subW g)) h

theorem beginTraining_keeps {l : Nat} {d d0 : Dev} {mm : Nat} (h : Kept mm d0 d) (g : Sub 0x5c000002080000000000000000000000000000000000000000000000000000000000000000000000000000001 mm) :
    Kept mm d0 (beginTraining l d) := by
  unfold beginTraining; with_reducible exact kept_ite (voidScan_keeps (wr_keeps h (subW g)) (subW g)) (wr_keeps h (subW g))

theorem evalOor_keeps {d d0 : Dev} {mm : Nat} (h : Kept mm d0 d) (g : Sub 0xc0001000000000000000000000000000000000000000000000000000000000000000000000000000000000000000000000000000000000000000000000000000000000000000000000000000000000000000000000000000000000000000000000000000000000000000000000004000000003041 mm) :
    Kept mm d0 (evalOor d) := by
  unfold evalOor; with_reducible exact setRaw_keeps h (subW g)

theorem setFreq_keeps {l : Nat} {f : Int} {d d0 : Dev} {mm : Nat} (h : Kept mm d0 d) (g : Sub 0xc0001000000000000000000000000000000000000000000000000000000000000000000000000000000000000000000000000000000000000000000000000000000000000000000000000020900000000000000000000000000000000000000000000000000000000000000000004000000003041 mm) :
    Kept mm d0 (setFreq l f d) := by
  unfold setFreq; with_reducible exact evalOor_keeps (kept_ite (wr_keeps (wrB_keeps (wrS_keeps h (subW g) (subW g)) (subW g) (subW g)) (subW g)) (wrB_keeps (wrS_keeps h (subW g) (subW g)) (subW g) (subW g))) (subW g)

theorem setEq_keeps {l ctle snr dfe : Nat} {d d0 : Dev} {mm : Nat} (h : Kept mm d0 d) (g : Sub 0x20070000000000000000000000000000000000000000000000000000000000000000000000000000000000001 mm) :
    Kept mm d0 (setEq l ctle snr dfe d) := by
  unfold setEq; with_reducible exact wr_keeps (wr_keeps (wr_keeps (kept_ite (wr_keeps h (subW g)) h) (subW g)) (subW g)) (subW g)

theorem receiverLock_keeps {l : Nat} {freq : Int} {ctle snr dfe : Nat} {d d0 : Dev} {mm : Nat} (h : Kept mm d0 d) (g : Sub 0xc000100000000000000000000000000000000000000000000000000000000000000000000000000000000000000000000000000000000000000000000000000000000000000000007c07002298c000000000000000000000000000000000000000000000000000000000000000004000000003041 mm) :
    Kept mm d0 (receiverLock l freq ctle snr dfe d) := by
  unfold receiverLock; with_reducible exact kept_ite (kept_ite (beginTraining_keeps (setFreq_keeps (setEq_keeps (wr_keeps (wr_keeps h (subW g)) (subW g)) (subW g)) (subW g)) (subW g)) (wr_keeps (setFreq_keeps (setEq_keeps (wr_keeps (wr_keeps h (subW g)) (subW g)) (subW g)) (subW g)) (subW g))) h

theorem setLaneRun_keeps {l : Nat} {r : LaneRun} {d d0 : Dev} {mm : Nat} (h : Kept mm d0 d) (g : Sub 0x8000 mm) :
    Kept mm d0 (setLaneRun l r d) := by
  unfold setLaneRun; with_reducible exact upd_lns h (subW g)

theorem clearLane_keeps {l : Nat} {d d0 : Dev} {mm : Nat} (h : Kept mm d0 d) (g : Sub 0x201ec000000000000000000000000000000000000000000000000000000000000000000000000008001 mm) :
    Kept mm d0 (clearLane l d) := by
  unfold clearLane; with_reducible exact setLaneRun_keeps (wr_keeps (wr_keeps (wr_keeps (wr_keeps (wr_keeps (wr_keeps (wr_keeps h (subW g)) (subW g)) (subW g)) (subW g)) (subW g)) (subW g)) (subW g)) (subW g)

theorem octStop_keeps {o : Nat} {d d0 : Dev} {mm : Nat} (h : Kept mm d0 d) (g : Sub 0xc000100000000000000000000000000000000000000000000000000000000000000000000000000000000000000000000000000000000000000000000000000000000000000000005c0000221ec00000000000000000000000000000000000000000000000000000000000000000400000000b041 mm) :
    Kept mm d0 (octStop o d) := by
  unfold octStop; with_reducible exact evalOor_keeps (forUpTo_keeps h (fun _ _ h1 => clearLane_keeps (voidScan_keeps h1 (subW g)) (subW g))) (subW g)

theorem trainingRetry_keeps {l : Nat} {d d0 : Dev} {mm : Nat} (h : Kept mm d0 d) (g : Sub 0x5c000002080000000000000000000000000000000000000000000000000000000000000000000000000008019 mm) :
    Kept mm d0 (trainingRetry l d) := by
  unfold trainingRetry; with_reducible exact kept_ite (beginTraining_keeps (setLaneRun_keeps (advanceDev_keeps h (subW g)) (subW g)) (subW g)) h

theorem dwell_keeps {l c : Nat} {d d0 : Dev} {mm : Nat} (h : Kept mm d0 d) (g : Sub 0x8000 mm) :
    Kept mm d0 (dwell l c d) := by
  unfold dwell; with_reducible exact setLaneRun_keeps h (subW g)

theorem huntDwellEnd_keeps {l rate : Nat} {div : Bool} {freq : Int} {d d0 : Dev} {mm : Nat} (h : Kept mm d0 d) (g : Sub 0xc00010000000000000000000000000000000000000000000000000000000000000000000000000000000000000000000000000000000000000000000000000000000000000000000000000209e800000000000000000000000000000000000000000000000000000000000000000400000000b059 mm) :
    Kept mm d0 (huntDwellEnd l rate div freq d) := by
  unfold huntDwellEnd; with_reducible exact kept_ite h (kept_ite (setFreq_keeps (wr_keeps (wr_keeps (wr_keeps (wrB_keeps (setLaneRun_keeps (advanceDev_keeps h (subW g)) (subW g)) (subW g) (subW g)) (subW g)) (subW g)) (subW g)) (subW g)) (dwell_keeps (advanceDev_keeps h (subW g)) (subW g)))

theorem octRun_keeps {o : Nat} {d d0 : Dev} {mm : Nat} (h : Kept mm d0 d) (g : Sub 0x8000000004000004000000004000000000008000000000000000000000000100000000000001000000000000000000000000000000000000000000000000004000800000000000000000000000000000000000000000000200000000000000000000000000000004000100002041 mm) :
    Kept mm d0 (octRun o d) := by
  unfold octRun; with_reducible exact kept_ite (setFuncState_keeps h (subW g)) h

theorem octStopped_keeps {o : Nat} {d d0 : Dev} {mm : Nat} (h : Kept mm d0 d) (g : Sub 0x800000000400000400000000400000000000800000000000000000000000010000000000000100000000000000000000000000000000000000000000000000400f800000000000000000000000000000000000000000000200000000000000000000000000000004000100002041 mm) :
    Kept mm d0 (octStopped o d) := by
  unfold octStopped; with_reducible exact kept_ite (setFuncState_keeps (forUpTo_keeps h (fun _ _ h1 => wr_keeps h1 (subW g (by unfold synthLockFld; repeat' (first | decide | split))))) (subW g)) h

theorem laneLoss_keeps {l : Nat} {below : Bool} {d d0 : Dev} {mm : Nat} (h : Kept mm d0 d) (g : Sub 0xc000100000000000000000000000000000000000000000000000000000000000000000000000000000000000000000000000000000000000000000000000000000000000000000005c0000263ec00000000000000000000000000000000000000000000000000000000000000000400000000b041 mm) :
    Kept mm d0 (laneLoss l below d) := by
  unfold laneLoss; with_reducible exact kept_ite h (kept_ite (fire_keeps (count_keeps (wr_keeps (kept_ite (dwell_keeps (setLaneRun_keeps (voidScan_keeps (evalOor_keeps (wr_keeps (wr_keeps (wr_keeps (wr_keeps (wr_keeps (wr_keeps (kept_ite (wr_keeps h (subW g)) h) (subW g)) (subW g)) (subW g)) (subW g)) (subW g)) (subW g)) (subW g)) (subW g)) (subW g)) (subW g)) (setLaneRun_keeps (voidScan_keeps (evalOor_keeps (wr_keeps (wr_keeps (wr_keeps (wr_keeps (wr_keeps (wr_keeps (kept_ite (wr_keeps h (subW g)) h) (subW g)) (subW g)) (subW g)) (subW g)) (subW g)) (subW g)) (subW g)) (subW g)) (subW g))) (subW g)) (subW g) (subW g)) (subW g)) (kept_ite (dwell_keeps (setLaneRun_keeps (voidScan_keeps (evalOor_keeps (wr_keeps (wr_keeps (wr_keeps (wr_keeps (wr_keeps (wr_keeps (kept_ite (wr_keeps h (subW g)) h) (subW g)) (subW g)) (subW g)) (subW g)) (subW g)) (subW g)) (subW g)) (subW g)) (subW g)) (subW g)) (setLaneRun_keeps (voidScan_keeps (evalOor_keeps (wr_keeps (wr_keeps (wr_keeps (wr_keeps (wr_keeps (wr_keeps (kept_ite (wr_keeps h (subW g)) h) (subW g)) (subW g)) (subW g)) (subW g)) (subW g)) (subW g)) (subW g)) (subW g)) (subW g))))

theorem ethRefLoss_keeps {k : Nat} {lost : Nat → Dev → Dev} {d d0 : Dev} {mm : Nat} (h : Kept mm d0 d) (hlost : ∀ y0 d, Kept mm d0 d → Kept mm d0 (lost y0 d)) (g : Sub 0xc0001000000000000000000000000000000000000000000000000000000000000000000000000000000000000000000000000000000000000000000000000000000000000000c1f05c0000263ec00000000000000000000000000000000000000000000000000000000000000000400000000b041 mm) :
    Kept mm d0 (ethRefLoss k lost d) := by
  unfold ethRefLoss; with_reducible exact setRaw_keeps (forUpTo_keeps (upd_lns h (subW g)) (fun _ _ h2 => kept_ite (forUpTo_keeps (forUpTo_keeps (wr_keeps (wr_keeps (wr_keeps h2 (subW g)) (subW g)) (subW g)) (fun _ _ h3 => kept_ite (wr_keeps h3 (subW g (by unfold synthLockFld; repeat' (first | decide | split)))) h3)) (fun _ _ h3 => kept_ite (hlost _ _ (laneLoss_keeps h3 (subW g))) h3)) (wr_keeps h2 (subW g)))) (subW g)

theorem showTaps_keeps {l : Nat} {d d0 : Dev} {mm : Nat} (h : Kept mm d0 d) (g : Sub 0xf800000000000000000000000000000000000000000000000000000000000000000000000000000000001 mm) :
    Kept mm d0 (showTaps l d) := by
  unfold showTaps; with_reducible exact wr_keeps (wr_keeps (wr_keeps (wr_keeps (wr_keeps h (subW g)) (subW g)) (subW g)) (subW g)) (subW g)

theorem trainingTimeout_keeps {l : Nat} {d d0 : Dev} {mm : Nat} (h : Kept mm d0 d) (g : Sub 0x4000100000000000000000000000000000000000000000000000000000000000000000000000000000000000000000000000000000000000000000000000000000000000000000000000000848000000000000000000000000000000000000000000000000000000000000000000400000000b041 mm) :
    Kept mm d0 (trainingTimeout l d) := by
  unfold trainingTimeout; with_reducible exact kept_ite (fire_keeps (setLaneRun_keeps (wr_keeps (wr_keeps (count_keeps h (subW g) (subW g)) (subW g)) (subW g)) (subW g)) (subW g)) h

theorem measureFreq_keeps {l : Nat} {f : Int} {d d0 : Dev} {mm : Nat} (h : Kept mm d0 d) (g : Sub 0xc0001000000000000000000000000000000000000000000000000000000000000000000000000000000000000000000000000000000000000000000000000000000000000000000000000020900000000000000000000000000000000000000000000000000000000000000000004000000003041 mm) :
    Kept mm d0 (measureFreq l f d) := by
  unfold measureFreq; with_reducible exact kept_ite (setFreq_keeps h (subW g)) h

theorem octTimeout_keeps {o : Nat} {d d0 : Dev} {mm : Nat} (h : Kept mm d0 d) (g : Sub 0x40001000000008000000004000004000000004000000000008000000000000000000000000100000000000001000000000000000000000000000000000000000000000000004000800000000000000000000000000000000000000000000200000000000000000000000000000004000100003059 mm) :
    Kept mm d0 (octTimeout o d) := by
  unfold octTimeout; with_reducible exact kept_ite (fire_keeps (setFuncState_keeps (advanceDev_keeps h (subW g)) (subW g)) (subW g)) h

theorem synthUnlock_keeps {o s : Nat} {d d0 : Dev} {mm : Nat} (h : Kept mm d0 d) (g : Sub 0x4000100000000000000000000000000000000000000000000000000000000000000000000000000000000000000000000000000000000000000000000000000000000000000040f000000000000000000000000000000000000000000000000000000000000000000000000000004000000003041 mm) :
    Kept mm d0 (synthUnlock o s d) := by
  unfold synthUnlock; with_reducible exact kept_ite (kept_ite (fire_keeps (wr_keeps (wr_keeps h (subW g (by unfold synthLockFld; repeat' (first | decide | split)))) (subW g)) (subW g)) (wr_keeps h (subW g (by unfold synthLockFld; repeat' (first | decide | split))))) h

theorem scanDone_keeps {l errors h_ v : Nat} {moved : Bool} {d d0 : Dev} {mm : Nat} (h : Kept mm d0 d) (g : Sub 0x3ac000000000000000000000000000000000000000000000000000000000000000000000000000000000000001 mm) :
    Kept mm d0 (scanDone l errors h_ v moved d) := by
  unfold scanDone; with_reducible exact kept_ite (kept_ite (wr_keeps (wr_keeps (kept_ite (wr_keeps (wr_keeps (wr_keeps (wr_keeps h (subW g)) (subW g)) (subW g)) (subW g)) (wr_keeps (wr_keeps (wr_keeps h (subW g)) (subW g)) (subW g))) (subW g)) (subW g)) (kept_ite (wr_keeps (wr_keeps (wr_keeps (wr_keeps h (subW g)) (subW g)) (subW g)) (subW g)) (wr_keeps (wr_keeps (wr_keeps h (subW g)) (subW g)) (subW g)))) h

theorem signalDetect_keeps {l : Nat} {d d0 : Dev} {mm : Nat} (h : Kept mm d0 d) (g : Sub 0x4000000000000000000000000000000000000000000000000000000000000000000000000008001 mm) :
    Kept mm d0 (signalDetect l d) := by
  unfold signalDetect; with_reducible exact kept_ite (kept_ite (dwell_keeps (wr_keeps h (subW g)) (subW g)) (wr_keeps h (subW g))) h

theorem ethRefReturn_keeps {k : Nat} {d d0 : Dev} {mm : Nat} (h : Kept mm d0 d) (g : Sub 0xc000100000000000000000000000000000000000000000000000000000000000000000000000000000000000000000000000000000000000000000000000000000000000000001000000000000000000000000000000000000000000000000000000000000000000000000000000400000000b041 mm) :
    Kept mm d0 (ethRefReturn k d) := by
  unfold ethRefReturn; with_reducible exact setRaw_keeps (forUpTo_keeps (upd_lns h (subW g)) (fun _ _ h1 => wr_keeps h1 (subW g))) (subW g)

theorem scanStart_keeps {l word : Nat} {d d0 : Dev} {mm : Nat} (h : Kept mm d0 d) (g : Sub 0x7df00003000000000000000000000000000000000000000000000000000000000000000000000000000008001 mm) :
    Kept mm d0 (scanStart l word d) := by
  unfold scanStart; with_reducible exact kept_ite (wr_keeps (wr_keeps (wr_keeps (wr_keeps (wr_keeps (wrS_keeps h (subW g) (subW g)) (subW g)) (subW g)) (subW g)) (subW g)) (subW g)) (kept_ite (setLaneRun_keeps (wr_keeps (wr_keeps (wr_keeps (wr_keeps (wr_keeps (wr_keeps (wr_keeps (wr_keeps (wr_keeps (wrS_keeps h (subW g) (subW g)) (subW g)) (subW g)) (subW g)) (subW g)) (subW g)) (subW g)) (subW g)) (subW g)) (subW g)) (subW g)) (voidScan_keeps (setLaneRun_keeps (wr_keeps (wr_keeps (wr_keeps (wr_keeps (wr_keeps (wr_keeps (wr_keeps (wr_keeps (wr_keeps (wrS_keeps h (subW g) (subW g)) (subW g)) (subW g)) (subW g)) (subW g)) (subW g)) (subW g)) (subW g)) (subW g)) (subW g)) (subW g)) (subW g)))

theorem trainingComplete_keeps {l : Nat} {m3 m2 m1 c0 p1 : Int} {d d0 : Dev} {mm : Nat} (h : Kept mm d0 d) (g : Sub 0xf800080000000000000000000000000000000000000000000000000000000000000000000000000000001 mm) :
    Kept mm d0 (trainingComplete l m3 m2 m1 c0 p1 d) := by
  unfold trainingComplete; with_reducible exact kept_ite (kept_ite (wrS_keeps (wrS_keeps (wrS_keeps (wrS_keeps (wrS_keeps (wr_keeps h (subW g)) (subW g) (subW g)) (subW g) (subW g)) (subW g) (subW g)) (subW g) (subW g)) (subW g) (subW g)) (wr_keeps h (subW g))) h

theorem retrainEth_keeps {d d0 : Dev} {mm : Nat} (h : Kept mm d0 d) (g : Sub 0x5c000002080000000000000000000000000000000000000000000000000000000000000000000000000000001 mm) :
    Kept mm d0 (retrainEth d) := by
  unfold retrainEth; with_reducible exact forUpTo_keeps h (fun _ _ h1 => kept_ite (beginTraining_keeps h1 (subW g)) h1)

theorem synthLock_keeps {o mask : Nat} {d d0 : Dev} {mm : Nat} (h : Kept mm d0 d) (g : Sub 0x800000000400000400000000400000000000800000000000000000000000010000000000000100000000000000000000000000000000000000000000000000401f800000000000000000000000000000000000000000000200000000000000000000000000000004000100002041 mm) :
    Kept mm d0 (synthLock o mask d) := by
  unfold synthLock; with_reducible exact octRun_keeps (forUpTo_keeps h (fun _ _ h1 => kept_ite (wr_keeps (kept_ite (wr_keeps h1 (subW g)) h1) (subW g (by unfold synthLockFld; repeat' (first | decide | split)))) h1)) (subW g)

theorem octStart_keeps {o : Nat} {d d0 : Dev} {mm : Nat} (h : Kept mm d0 d) (g : Sub 0x800000000400000400000000400000000000800000000000000000000000010000000000000100000000000000000000000000000000000000000000000000400f80000f80000000000000000000000000000000000000020000000000000000000000000000000400010000a041 mm) :
    Kept mm d0 (octStart o d) := by
  unfold octStart; with_reducible exact octRun_keeps (forUpTo_keeps (forUpTo_keeps (upd_lns h (subW g)) (fun _ _ h1 => wr_keeps h1 (subW g (by unfold synthLockFld; repeat' (first | decide | split))))) (fun _ _ h1 => showTaps_keeps h1 (subW g))) (subW g)

theorem takeControl_keeps {n iface link : Nat} {p : Nat × Bool} {d d0 : Dev} {mm : Nat} (h : Kept mm d0 d) (g : Sub 0x8000000000000000000000000000000000000000000000000000000000000000000000000000000000000000000000000000000000000000000100001 mm) :
    Kept mm d0 (takeControl n iface link p d) := by
  unfold takeControl; with_reducible exact wrB_keeps (setSdiIn_keeps h (subW g)) (subW g) (subW g)

theorem leavePresent_keeps {n src : Nat} {d d0 : Dev} {mm : Nat} (h : Kept mm d0 d) (g : Sub 0x4000100000000000000000000000000000000000000000000000000000000000000000000000000000000000000020000000000000c000800800000000000000000000000000000000000000000000000000000000000810000800000000000000000000000000000000000000004000000107041 mm) :
    Kept mm d0 (leavePresent n src d) := by
  unfold leavePresent; with_reducible exact kept_ite (declareLoss_keeps (setSdiIn_keeps (wr_keeps (kept_ite (fire_keeps (count_keeps (wr_keeps (wr_keeps h (subW g)) (subW g)) (subW g) (subW g)) (subW g)) (count_keeps (wr_keeps (wr_keeps h (subW g)) (subW g)) (subW g) (subW g))) (subW g)) (subW g)) (subW g)) h

theorem enterState_keeps {n src st : Nat} {d d0 : Dev} {mm : Nat} (h : Kept mm d0 d) (g : Sub 0x4000100000000000000000000000000000000000000000000000000000000000000000000000000000000000000020000000000000c000820c00000000000000000000000000000000000000000000000000000000000810000800000000000000000000000000000000000000004000000107041 mm) :
    Kept mm d0 (enterState n src st d) := by
  unfold enterState; with_reducible exact wr_keeps (kept_ite (setSdiIn_keeps (leavePresent_keeps h (subW g)) (subW g)) (wr_keeps (setSdiIn_keeps (leavePresent_keeps h (subW g)) (subW g)) (subW g))) (subW g)

theorem evalSkew_keeps {n src : Nat} {lanes : List Nat} {d d0 : Dev} {mm : Nat} (h : Kept mm d0 d) (g : Sub 0x4000100000000000000000000000000000000000000000000000000000000000000000000000000000000000000020000000000000c040c30c00000000000000000000000000000000000000000000000000000000000810000800000000000000000000000000000000000000004000000107041 mm) :
    Kept mm d0 (evalSkew n src lanes d) := by
  unfold evalSkew; with_reducible exact kept_ite h (by (try dsimp only); split; exact h; exact (kept_ite (kept_ite (enterState_keeps (kept_ite (wr_keeps (wr_keeps (wr_keeps h (subW g)) (subW g)) (subW g)) (fire_keeps (wr_keeps (wr_keeps (wr_keeps h (subW g)) (subW g)) (subW g)) (subW g))) (subW g)) (kept_ite (wr_keeps (wr_keeps (wr_keeps h (subW g)) (subW g)) (subW g)) (fire_keeps (wr_keeps (wr_keeps (wr_keeps h (subW g)) (subW g)) (subW g)) (subW g)))) (wr_keeps (wr_keeps h (subW g)) (subW g))))

theorem setChan_keeps {c : Nat} {x : Samp} {d d0 : Dev} {mm : Nat} (h : Kept mm d0 d) (g : Sub 0x300000000000000000000000000000000000000000000000000000000000000000000000000000000000000000000000000000000000000000000000000000000000000000000000000000000000000000000000000000000000000000000400001 mm) :
    Kept mm d0 (setChan c x d) := by
  unfold setChan; with_reducible exact kept_ite (kept_ite (wr_keeps (kept_ite (wr_keeps (upd_aud h (subW g)) (subW g)) (upd_aud h (subW g))) (subW g)) (kept_ite (wr_keeps (upd_aud h (subW g)) (subW g)) (upd_aud h (subW g)))) (upd_aud h (subW g))

theorem mismatch_keeps {n src cause : Nat} {d d0 : Dev} {mm : Nat} (h : Kept mm d0 d) (g : Sub 0x4000100000000000000000000000000000000000000000000000000000000000000000000000000000000000000020000000000000c001820c00000000000000010000000000000000000000000000000000000000000810000800000000000000000000000000000000000000004000000107041 mm) :
    Kept mm d0 (mismatch n src cause d) := by
  unfold mismatch; with_reducible exact kept_ite (setSdiIn_keeps (wr_keeps h (subW g)) (subW g)) (kept_ite (fire_keeps (wr_keeps (wr_keeps (enterState_keeps h (subW g)) (subW g)) (subW g)) (subW g)) (fire_keeps (wr_keeps (wr_keeps (enterState_keeps h (subW g)) (subW g)) (subW g)) (subW g)))

theorem st352Body_keeps {n l : Nat} {s : SrcDesc} {lanes : List Nat} {p : Psid} {d d0 : Dev} {mm : Nat} (h : Kept mm d0 d) (g : Sub 0x4000100000000000000000000000000000000000000000000000000000000000000000000000000000000000000020000000000000c081927c00000000000000010000000000000000000000000000000000000000000810000800000000000000000000000000000000000000004000000107041 mm) :
    Kept mm d0 (st352Body n l s lanes p d) := by
  unfold st352Body; with_reducible exact kept_ite h (kept_ite (mismatch_keeps (setSdiIn_keeps (wr_keeps (wr_keeps (wr_keeps (wrB_keeps (kept_ite (wr_keeps h (subW g)) h) (subW g) (subW g)) (subW g)) (subW g)) (subW g)) (subW g)) (subW g)) (kept_ite (mismatch_keeps (setSdiIn_keeps (wr_keeps (wr_keeps (wr_keeps (wrB_keeps (kept_ite (wr_keeps h (subW g)) h) (subW g) (subW g)) (subW g)) (subW g)) (subW g)) (subW g)) (subW g)) (kept_ite (mismatch_keeps (setSdiIn_keeps (wr_keeps (wr_keeps (wr_keeps (wrB_keeps (kept_ite (wr_keeps h (subW g)) h) (subW g) (subW g)) (subW g)) (subW g)) (subW g)) (subW g)) (subW g)) (kept_ite (mismatch_keeps (setSdiIn_keeps (wr_keeps (wr_keeps (wr_keeps (wrB_keeps (kept_ite (wr_keeps h (subW g)) h) (subW g) (subW g)) (subW g)) (subW g)) (subW g)) (subW g)) (subW g)) (setSdiIn_keeps (wr_keeps (wr_keeps (wr_keeps (wrB_keeps (kept_ite (wr_keeps h (subW g)) h) (subW g) (subW g)) (subW g)) (subW g)) (subW g)) (subW g))))))

theorem sdiOutFrame_keeps {x : DstDesc} {d d0 : Dev} {mm : Nat} (h : Kept mm d0 d) (g : Sub 0x40001000000000000000000000000000000000000000000000000000000000000000000000000000000000000000000000000034000000000000000000000000000000000000000000000000000000000000000000000000000000000000000000000000000000000000000000004000000003041 mm) :
    Kept mm d0 (sdiOutFrame x d) := by
  unfold sdiOutFrame; with_reducible exact by (try dsimp only); split; exact h; exact (kept_ite h (fire_keeps (count_keeps (wr_keeps h (subW g)) (subW g) (subW g)) (subW g))); exact (count_keeps h (subW g) (subW g))

theorem st352Packet_keeps {l : Nat} {p : Psid} {d d0 : Dev} {mm : Nat} (h : Kept mm d0 d) (g : Sub 0x4000100000000000000000000000000000000000000000000000000000000000000000000000000000000000000020000000000000c081927c00000000000000010000000000000000000000000000000000000000000810000800000000000000000000000000000000000000004000000107041 mm) :
    Kept mm d0 (st352Packet l p d) := by
  unfold st352Packet; with_reducible exact by (try dsimp only); split; exact h; exact (st352Body_keeps h (subW g))

theorem countError_keeps {n : Nat} {d d0 : Dev} {mm : Nat} (h : Kept mm d0 d) (g : Sub 0x40001000000000000000000000000000000000000000000000000000000000000000000000000000000000000000000000000000000000000000000000000000000000000000000000000000000000000000000000000000000000000000000000000000000000000000000000004000000103041 mm) :
    Kept mm d0 (countError n d) := by
  unfold countError; with_reducible exact kept_ite (fire_keeps (setSdiIn_keeps h (subW g)) (subW g)) (setSdiIn_keeps h (subW g))

theorem takeAnc_keeps {n src : Nat} {p : AncPkt} {d d0 : Dev} {mm : Nat} (h : Kept mm d0 d) (g : Sub 0x40001000000000000000000000000000000000000000000000000000000000000000000000000000000000000000000000000000000c18000000000000000000000000000000000000000000000000000000000000000000000000000000000000000000000000000000000000004000000007041 mm) :
    Kept mm d0 (takeAnc n src p d) := by
  unfold takeAnc; with_reducible exact kept_ite (fire_keeps (count_keeps (wr_keeps h (subW g)) (subW g) (subW g)) (subW g)) (kept_ite h (kept_ite (fire_keeps (count_keeps (wr_keeps h (subW g)) (subW g) (subW g)) (subW g)) (setSrcRun_keeps h (subW g))))

theorem takeAudio_keeps {n src iface link size : Nat} {p : AudPkt} {d d0 : Dev} {mm : Nat} (h : Kept mm d0 d) (g : Sub 0x110000 mm) :
    Kept mm d0 (takeAudio n src iface link size p d) := by
  unfold takeAudio; with_reducible exact forUpTo_keeps (setSdiIn_keeps h (subW g)) (fun _ _ h1 => kept_ite (ringPush_keeps h1 (subW g)) h1)

theorem sdiLineBody_keeps {n l : Nat} {s : SrcDesc} {lanes : List Nat} {x : SdiLine} {d d0 : Dev} {mm : Nat} (h : Kept mm d0 d) (g : Sub 0x4000100000000000000000000000000000000000000000000000000000000000000000000000000000000000000170000000000000ef5fcb8c00000000000000010000000000000000000000000000000000000000000810000800000000000000000000000000000000000000004000000117041 mm) :
    Kept mm d0 (sdiLineBody n l s lanes x d) := by
  unfold sdiLineBody; with_reducible exact kept_ite h (kept_ite (kept_ite (enterState_keeps (kept_ite (mismatch_keeps (evalSkew_keeps (kept_ite (count_keeps (by (try dsimp only); split; exact (wr_keeps (setSdiIn_keeps h (subW g)) (subW g)); exact (setSdiIn_keeps h (subW g))) (subW g) (subW g)) (by (try dsimp only); split; exact (wr_keeps (setSdiIn_keeps h (subW g)) (subW g)); exact (setSdiIn_keeps h (subW g)))) (subW g)) (subW g)) (evalSkew_keeps (kept_ite (count_keeps (by (try dsimp only); split; exact (wr_keeps (setSdiIn_keeps h (subW g)) (subW g)); exact (setSdiIn_keeps h (subW g))) (subW g) (subW g)) (by (try dsimp only); split; exact (wr_keeps (setSdiIn_keeps h (subW g)) (subW g)); exact (setSdiIn_keeps h (subW g)))) (subW g))) (subW g)) (kept_ite (enterState_keeps (kept_ite (mismatch_keeps (evalSkew_keeps (kept_ite (count_keeps (by (try dsimp only); split; exact (wr_keeps (setSdiIn_keeps h (subW g)) (subW g)); exact (setSdiIn_keeps h (subW g))) (subW g) (subW g)) (by (try dsimp only); split; exact (wr_keeps (setSdiIn_keeps h (subW g)) (subW g)); exact (setSdiIn_keeps h (subW g)))) (subW g)) (subW g)) (evalSkew_keeps (kept_ite (count_keeps (by (try dsimp only); split; exact (wr_keeps (setSdiIn_keeps h (subW g)) (subW g)); exact (setSdiIn_keeps h (subW g))) (subW g) (subW g)) (by (try dsimp only); split; exact (wr_keeps (setSdiIn_keeps h (subW g)) (subW g)); exact (setSdiIn_keeps h (subW g)))) (subW g))) (subW g)) (kept_ite (kept_ite (setSdiIn_keeps (enterState_keeps (kept_ite (mismatch_keeps (evalSkew_keeps (kept_ite (count_keeps (by (try dsimp only); split; exact (wr_keeps (setSdiIn_keeps h (subW g)) (subW g)); exact (setSdiIn_keeps h (subW g))) (subW g) (subW g)) (by (try dsimp only); split; exact (wr_keeps (setSdiIn_keeps h (subW g)) (subW g)); exact (setSdiIn_keeps h (subW g)))) (subW g)) (subW g)) (evalSkew_keeps (kept_ite (count_keeps (by (try dsimp only); split; exact (wr_keeps (setSdiIn_keeps h (subW g)) (subW g)); exact (setSdiIn_keeps h (subW g))) (subW g) (subW g)) (by (try dsimp only); split; exact (wr_keeps (setSdiIn_keeps h (subW g)) (subW g)); exact (setSdiIn_keeps h (subW g)))) (subW g))) (subW g)) (subW g)) (kept_ite (mismatch_keeps (evalSkew_keeps (kept_ite (count_keeps (by (try dsimp only); split; exact (wr_keeps (setSdiIn_keeps h (subW g)) (subW g)); exact (setSdiIn_keeps h (subW g))) (subW g) (subW g)) (by (try dsimp only); split; exact (wr_keeps (setSdiIn_keeps h (subW g)) (subW g)); exact (setSdiIn_keeps h (subW g)))) (subW g)) (subW g)) (evalSkew_keeps (kept_ite (count_keeps (by (try dsimp only); split; exact (wr_keeps (setSdiIn_keeps h (subW g)) (subW g)); exact (setSdiIn_keeps h (subW g))) (subW g) (subW g)) (by (try dsimp only); split; exact (wr_keeps (setSdiIn_keeps h (subW g)) (subW g)); exact (setSdiIn_keeps h (subW g)))) (subW g)))) (kept_ite (mismatch_keeps (evalSkew_keeps (kept_ite (count_keeps (by (try dsimp only); split; exact (wr_keeps (setSdiIn_keeps h (subW g)) (subW g)); exact (setSdiIn_keeps h (subW g))) (subW g) (subW g)) (by (try dsimp only); split; exact (wr_keeps (setSdiIn_keeps h (subW g)) (subW g)); exact (setSdiIn_keeps h (subW g)))) (subW g)) (subW g)) (evalSkew_keeps (kept_ite (count_keeps (by (try dsimp only); split; exact (wr_keeps (setSdiIn_keeps h (subW g)) (subW g)); exact (setSdiIn_keeps h (subW g))) (subW g) (subW g)) (by (try dsimp only); split; exact (wr_keeps (setSdiIn_keeps h (subW g)) (subW g)); exact (setSdiIn_keeps h (subW g)))) (subW g)))))) (kept_ite (addLine_keeps (forEach_keeps (forEach_keeps (forEach_keeps (kept_ite (countError_keeps (count_keeps (wr_keeps (kept_ite (countError_keeps (count_keeps (wr_keeps (kept_ite (enterState_keeps (kept_ite (mismatch_keeps (evalSkew_keeps (kept_ite (count_keeps (by (try dsimp only); split; exact (wr_keeps (setSdiIn_keeps h (subW g)) (subW g)); exact (setSdiIn_keeps h (subW g))) (subW g) (subW g)) (by (try dsimp only); split; exact (wr_keeps (setSdiIn_keeps h (subW g)) (subW g)); exact (setSdiIn_keeps h (subW g)))) (subW g)) (subW g)) (evalSkew_keeps (kept_ite (count_keeps (by (try dsimp only); split; exact (wr_keeps (setSdiIn_keeps h (subW g)) (subW g)); exact (setSdiIn_keeps h (subW g))) (subW g) (subW g)) (by (try dsimp only); split; exact (wr_keeps (setSdiIn_keeps h (subW g)) (subW g)); exact (setSdiIn_keeps h (subW g)))) (subW g))) (subW g)) (kept_ite (enterState_keeps (kept_ite (mismatch_keeps (evalSkew_keeps (kept_ite (count_keeps (by (try dsimp only); split; exact (wr_keeps (setSdiIn_keeps h (subW g)) (subW g)); exact (setSdiIn_keeps h (subW g))) (subW g) (subW g)) (by (try dsimp only); split; exact (wr_keeps (setSdiIn_keeps h (subW g)) (subW g)); exact (setSdiIn_keeps h (subW g)))) (subW g)) (subW g)) (evalSkew_keeps (kept_ite (count_keeps (by (try dsimp only); split; exact (wr_keeps (setSdiIn_keeps h (subW g)) (subW g)); exact (setSdiIn_keeps h (subW g))) (subW g) (subW g)) (by (try dsimp only); split; exact (wr_keeps (setSdiIn_keeps h (subW g)) (subW g)); exact (setSdiIn_keeps h (subW g)))) (subW g))) (subW g)) (kept_ite (kept_ite (setSdiIn_keeps (enterState_keeps (kept_ite (mismatch_keeps (evalSkew_keeps (kept_ite (count_keeps (by (try dsimp only); split; exact (wr_keeps (setSdiIn_keeps h (subW g)) (subW g)); exact (setSdiIn_keeps h (subW g))) (subW g) (subW g)) (by (try dsimp only); split; exact (wr_keeps (setSdiIn_keeps h (subW g)) (subW g)); exact (setSdiIn_keeps h (subW g)))) (subW g)) (subW g)) (evalSkew_keeps (kept_ite (count_keeps (by (try dsimp only); split; exact (wr_keeps (setSdiIn_keeps h (subW g)) (subW g)); exact (setSdiIn_keeps h (subW g))) (subW g) (subW g)) (by (try dsimp only); split; exact (wr_keeps (setSdiIn_keeps h (subW g)) (subW g)); exact (setSdiIn_keeps h (subW g)))) (subW g))) (subW g)) (subW g)) (kept_ite (mismatch_keeps (evalSkew_keeps (kept_ite (count_keeps (by (try dsimp only); split; exact (wr_keeps (setSdiIn_keeps h (subW g)) (subW g)); exact (setSdiIn_keeps h (subW g))) (subW g) (subW g)) (by (try dsimp only); split; exact (wr_keeps (setSdiIn_keeps h (subW g)) (subW g)); exact (setSdiIn_keeps h (subW g)))) (subW g)) (subW g)) (evalSkew_keeps (kept_ite (count_keeps (by (try dsimp only); split; exact (wr_keeps (setSdiIn_keeps h (subW g)) (subW g)); exact (setSdiIn_keeps h (subW g))) (subW g) (subW g)) (by (try dsimp only); split; exact (wr_keeps (setSdiIn_keeps h (subW g)) (subW g)); exact (setSdiIn_keeps h (subW g)))) (subW g)))) (kept_ite (mismatch_keeps (evalSkew_keeps (kept_ite (count_keeps (by (try dsimp only); split; exact (wr_keeps (setSdiIn_keeps h (subW g)) (subW g)); exact (setSdiIn_keeps h (subW g))) (subW g) (subW g)) (by (try dsimp only); split; exact (wr_keeps (setSdiIn_keeps h (subW g)) (subW g)); exact (setSdiIn_keeps h (subW g)))) (subW g)) (subW g)) (evalSkew_keeps (kept_ite (count_keeps (by (try dsimp only); split; exact (wr_keeps (setSdiIn_keeps h (subW g)) (subW g)); exact (setSdiIn_keeps h (subW g))) (subW g) (subW g)) (by (try dsimp only); split; exact (wr_keeps (setSdiIn_keeps h (subW g)) (subW g)); exact (setSdiIn_keeps h (subW g)))) (subW g)))))) (subW g)) (subW g) (subW g)) (subW g)) (kept_ite (enterState_keeps (kept_ite (mismatch_keeps (evalSkew_keeps (kept_ite (count_keeps (by (try dsimp only); split; exact (wr_keeps (setSdiIn_keeps h (subW g)) (subW g)); exact (setSdiIn_keeps h (subW g))) (subW g) (subW g)) (by (try dsimp only); split; exact (wr_keeps (setSdiIn_keeps h (subW g)) (subW g)); exact (setSdiIn_keeps h (subW g)))) (subW g)) (subW g)) (evalSkew_keeps (kept_ite (count_keeps (by (try dsimp only); split; exact (wr_keeps (setSdiIn_keeps h (subW g)) (subW g)); exact (setSdiIn_keeps h (subW g))) (subW g) (subW g)) (by (try dsimp only); split; exact (wr_keeps (setSdiIn_keeps h (subW g)) (subW g)); exact (setSdiIn_keeps h (subW g)))) (subW g))) (subW g)) (kept_ite (enterState_keeps (kept_ite (mismatch_keeps (evalSkew_keeps (kept_ite (count_keeps (by (try dsimp only); split; exact (wr_keeps (setSdiIn_keeps h (subW g)) (subW g)); exact (setSdiIn_keeps h (subW g))) (subW g) (subW g)) (by (try dsimp only); split; exact (wr_keeps (setSdiIn_keeps h (subW g)) (subW g)); exact (setSdiIn_keeps h (subW g)))) (subW g)) (subW g)) (evalSkew_keeps (kept_ite (count_keeps (by (try dsimp only); split; exact (wr_keeps (setSdiIn_keeps h (subW g)) (subW g)); exact (setSdiIn_keeps h (subW g))) (subW g) (subW g)) (by (try dsimp only); split; exact (wr_keeps (setSdiIn_keeps h (subW g)) (subW g)); exact (setSdiIn_keeps h (subW g)))) (subW g))) (subW g)) (kept_ite (kept_ite (setSdiIn_keeps (enterState_keeps (kept_ite (mismatch_keeps (evalSkew_keeps (kept_ite (count_keeps (by (try dsimp only); split; exact (wr_keeps (setSdiIn_keeps h (subW g)) (subW g)); exact (setSdiIn_keeps h (subW g))) (subW g) (subW g)) (by (try dsimp only); split; exact (wr_keeps (setSdiIn_keeps h (subW g)) (subW g)); exact (setSdiIn_keeps h (subW g)))) (subW g)) (subW g)) (evalSkew_keeps (kept_ite (count_keeps (by (try dsimp only); split; exact (wr_keeps (setSdiIn_keeps h (subW g)) (subW g)); exact (setSdiIn_keeps h (subW g))) (subW g) (subW g)) (by (try dsimp only); split; exact (wr_keeps (setSdiIn_keeps h (subW g)) (subW g)); exact (setSdiIn_keeps h (subW g)))) (subW g))) (subW g)) (subW g)) (kept_ite (mismatch_keeps (evalSkew_keeps (kept_ite (count_keeps (by (try dsimp only); split; exact (wr_keeps (setSdiIn_keeps h (subW g)) (subW g)); exact (setSdiIn_keeps h (subW g))) (subW g) (subW g)) (by (try dsimp only); split; exact (wr_keeps (setSdiIn_keeps h (subW g)) (subW g)); exact (setSdiIn_keeps h (subW g)))) (subW g)) (subW g)) (evalSkew_keeps (kept_ite (count_keeps (by (try dsimp only); split; exact (wr_keeps (setSdiIn_keeps h (subW g)) (subW g)); exact (setSdiIn_keeps h (subW g))) (subW g) (subW g)) (by (try dsimp only); split; exact (wr_keeps (setSdiIn_keeps h (subW g)) (subW g)); exact (setSdiIn_keeps h (subW g)))) (subW g)))) (kept_ite (mismatch_keeps (evalSkew_keeps (kept_ite (count_keeps (by (try dsimp only); split; exact (wr_keeps (setSdiIn_keeps h (subW g)) (subW g)); exact (setSdiIn_keeps h (subW g))) (subW g) (subW g)) (by (try dsimp only); split; exact (wr_keeps (setSdiIn_keeps h (subW g)) (subW g)); exact (setSdiIn_keeps h (subW g)))) (subW g)) (subW g)) (evalSkew_keeps (kept_ite (count_keeps (by (try dsimp only); split; exact (wr_keeps (setSdiIn_keeps h (subW g)) (subW g)); exact (setSdiIn_keeps h (subW g))) (subW g) (subW g)) (by (try dsimp only); split; exact (wr_keeps (setSdiIn_keeps h (subW g)) (subW g)); exact (setSdiIn_keeps h (subW g)))) (subW g))))))) (subW g)) (subW g) (subW g)) (subW g)) (kept_ite (countError_keeps (count_keeps (wr_keeps (kept_ite (enterState_keeps (kept_ite (mismatch_keeps (evalSkew_keeps (kept_ite (count_keeps (by (try dsimp only); split; exact (wr_keeps (setSdiIn_keeps h (subW g)) (subW g)); exact (setSdiIn_keeps h (subW g))) (subW g) (subW g)) (by (try dsimp only); split; exact (wr_keeps (setSdiIn_keeps h (subW g)) (subW g)); exact (setSdiIn_keeps h (subW g)))) (subW g)) (subW g)) (evalSkew_keeps (kept_ite (count_keeps (by (try dsimp only); split; exact (wr_keeps (setSdiIn_keeps h (subW g)) (subW g)); exact (setSdiIn_keeps h (subW g))) (subW g) (subW g)) (by (try dsimp only); split; exact (wr_keeps (setSdiIn_keeps h (subW g)) (subW g)); exact (setSdiIn_keeps h (subW g)))) (subW g))) (subW g)) (kept_ite (enterState_keeps (kept_ite (mismatch_keeps (evalSkew_keeps (kept_ite (count_keeps (by (try dsimp only); split; exact (wr_keeps (setSdiIn_keeps h (subW g)) (subW g)); exact (setSdiIn_keeps h (subW g))) (subW g) (subW g)) (by (try dsimp only); split; exact (wr_keeps (setSdiIn_keeps h (subW g)) (subW g)); exact (setSdiIn_keeps h (subW g)))) (subW g)) (subW g)) (evalSkew_keeps (kept_ite (count_keeps (by (try dsimp only); split; exact (wr_keeps (setSdiIn_keeps h (subW g)) (subW g)); exact (setSdiIn_keeps h (subW g))) (subW g) (subW g)) (by (try dsimp only); split; exact (wr_keeps (setSdiIn_keeps h (subW g)) (subW g)); exact (setSdiIn_keeps h (subW g)))) (subW g))) (subW g)) (kept_ite (kept_ite (setSdiIn_keeps (enterState_keeps (kept_ite (mismatch_keeps (evalSkew_keeps (kept_ite (count_keeps (by (try dsimp only); split; exact (wr_keeps (setSdiIn_keeps h (subW g)) (subW g)); exact (setSdiIn_keeps h (subW g))) (subW g) (subW g)) (by (try dsimp only); split; exact (wr_keeps (setSdiIn_keeps h (subW g)) (subW g)); exact (setSdiIn_keeps h (subW g)))) (subW g)) (subW g)) (evalSkew_keeps (kept_ite (count_keeps (by (try dsimp only); split; exact (wr_keeps (setSdiIn_keeps h (subW g)) (subW g)); exact (setSdiIn_keeps h (subW g))) (subW g) (subW g)) (by (try dsimp only); split; exact (wr_keeps (setSdiIn_keeps h (subW g)) (subW g)); exact (setSdiIn_keeps h (subW g)))) (subW g))) (subW g)) (subW g)) (kept_ite (mismatch_keeps (evalSkew_keeps (kept_ite (count_keeps (by (try dsimp only); split; exact (wr_keeps (setSdiIn_keeps h (subW g)) (subW g)); exact (setSdiIn_keeps h (subW g))) (subW g) (subW g)) (by (try dsimp only); split; exact (wr_keeps (setSdiIn_keeps h (subW g)) (subW g)); exact (setSdiIn_keeps h (subW g)))) (subW g)) (subW g)) (evalSkew_keeps (kept_ite (count_keeps (by (try dsimp only); split; exact (wr_keeps (setSdiIn_keeps h (subW g)) (subW g)); exact (setSdiIn_keeps h (subW g))) (subW g) (subW g)) (by (try dsimp only); split; exact (wr_keeps (setSdiIn_keeps h (subW g)) (subW g)); exact (setSdiIn_keeps h (subW g)))) (subW g)))) (kept_ite (mismatch_keeps (evalSkew_keeps (kept_ite (count_keeps (by (try dsimp only); split; exact (wr_keeps (setSdiIn_keeps h (subW g)) (subW g)); exact (setSdiIn_keeps h (subW g))) (subW g) (subW g)) (by (try dsimp only); split; exact (wr_keeps (setSdiIn_keeps h (subW g)) (subW g)); exact (setSdiIn_keeps h (subW g)))) (subW g)) (subW g)) (evalSkew_keeps (kept_ite (count_keeps (by (try dsimp only); split; exact (wr_keeps (setSdiIn_keeps h (subW g)) (subW g)); exact (setSdiIn_keeps h (subW g))) (subW g) (subW g)) (by (try dsimp only); split; exact (wr_keeps (setSdiIn_keeps h (subW g)) (subW g)); exact (setSdiIn_keeps h (subW g)))) (subW g)))))) (subW g)) (subW g) (subW g)) (subW g)) (kept_ite (enterState_keeps (kept_ite (mismatch_keeps (evalSkew_keeps (kept_ite (count_keeps (by (try dsimp only); split; exact (wr_keeps (setSdiIn_keeps h (subW g)) (subW g)); exact (setSdiIn_keeps h (subW g))) (subW g) (subW g)) (by (try dsimp only); split; exact (wr_keeps (setSdiIn_keeps h (subW g)) (subW g)); exact (setSdiIn_keeps h (subW g)))) (subW g)) (subW g)) (evalSkew_keeps (kept_ite (count_keeps (by (try dsimp only); split; exact (wr_keeps (setSdiIn_keeps h (subW g)) (subW g)); exact (setSdiIn_keeps h (subW g))) (subW g) (subW g)) (by (try dsimp only); split; exact (wr_keeps (setSdiIn_keeps h (subW g)) (subW g)); exact (setSdiIn_keeps h (subW g)))) (subW g))) (subW g)) (kept_ite (enterState_keeps (kept_ite (mismatch_keeps (evalSkew_keeps (kept_ite (count_keeps (by (try dsimp only); split; exact (wr_keeps (setSdiIn_keeps h (subW g)) (subW g)); exact (setSdiIn_keeps h (subW g))) (subW g) (subW g)) (by (try dsimp only); split; exact (wr_keeps (setSdiIn_keeps h (subW g)) (subW g)); exact (setSdiIn_keeps h (subW g)))) (subW g)) (subW g)) (evalSkew_keeps (kept_ite (count_keeps (by (try dsimp only); split; exact (wr_keeps (setSdiIn_keeps h (subW g)) (subW g)); exact (setSdiIn_keeps h (subW g))) (subW g) (subW g)) (by (try dsimp only); split; exact (wr_keeps (setSdiIn_keeps h (subW g)) (subW g)); exact (setSdiIn_keeps h (subW g)))) (subW g))) (subW g)) (kept_ite (kept_ite (setSdiIn_keeps (enterState_keeps (kept_ite (mismatch_keeps (evalSkew_keeps (kept_ite (count_keeps (by (try dsimp only); split; exact (wr_keeps (setSdiIn_keeps h (subW g)) (subW g)); exact (setSdiIn_keeps h (subW g))) (subW g) (subW g)) (by (try dsimp only); split; exact (wr_keeps (setSdiIn_keeps h (subW g)) (subW g)); exact (setSdiIn_keeps h (subW g)))) (subW g)) (subW g)) (evalSkew_keeps (kept_ite (count_keeps (by (try dsimp only); split; exact (wr_keeps (setSdiIn_keeps h (subW g)) (subW g)); exact (setSdiIn_keeps h (subW g))) (subW g) (subW g)) (by (try dsimp only); split; exact (wr_keeps (setSdiIn_keeps h (subW g)) (subW g)); exact (setSdiIn_keeps h (subW g)))) (subW g))) (subW g)) (subW g)) (kept_ite (mismatch_keeps (evalSkew_keeps (kept_ite (count_keeps (by (try dsimp only); split; exact (wr_keeps (setSdiIn_keeps h (subW g)) (subW g)); exact (setSdiIn_keeps h (subW g))) (subW g) (subW g)) (by (try dsimp only); split; exact (wr_keeps (setSdiIn_keeps h (subW g)) (subW g)); exact (setSdiIn_keeps h (subW g)))) (subW g)) (subW g)) (evalSkew_keeps (kept_ite (count_keeps (by (try dsimp only); split; exact (wr_keeps (setSdiIn_keeps h (subW g)) (subW g)); exact (setSdiIn_keeps h (subW g))) (subW g) (subW g)) (by (try dsimp only); split; exact (wr_keeps (setSdiIn_keeps h (subW g)) (subW g)); exact (setSdiIn_keeps h (subW g)))) (subW g)))) (kept_ite (mismatch_keeps (evalSkew_keeps (kept_ite (count_keeps (by (try dsimp only); split; exact (wr_keeps (setSdiIn_keeps h (subW g)) (subW g)); exact (setSdiIn_keeps h (subW g))) (subW g) (subW g)) (by (try dsimp only); split; exact (wr_keeps (setSdiIn_keeps h (subW g)) (subW g)); exact (setSdiIn_keeps h (subW g)))) (subW g)) (subW g)) (evalSkew_keeps (kept_ite (count_keeps (by (try dsimp only); split; exact (wr_keeps (setSdiIn_keeps h (subW g)) (subW g)); exact (setSdiIn_keeps h (subW g))) (subW g) (subW g)) (by (try dsimp only); split; exact (wr_keeps (setSdiIn_keeps h (subW g)) (subW g)); exact (setSdiIn_keeps h (subW g)))) (subW g)))))))) (fun _ _ h1 => takeAnc_keeps h1 (subW g))) (fun _ _ h1 => takeControl_keeps h1 (subW g))) (fun _ _ h1 => takeAudio_keeps h1 (subW g))) (subW g)) (forEach_keeps (forEach_keeps (forEach_keeps (kept_ite (countError_keeps (count_keeps (wr_keeps (kept_ite (countError_keeps (count_keeps (wr_keeps (kept_ite (enterState_keeps (kept_ite (mismatch_keeps (evalSkew_keeps (kept_ite (count_keeps (by (try dsimp only); split; exact (wr_keeps (setSdiIn_keeps h (subW g)) (subW g)); exact (setSdiIn_keeps h (subW g))) (subW g) (subW g)) (by (try dsimp only); split; exact (wr_keeps (setSdiIn_keeps h (subW g)) (subW g)); exact (setSdiIn_keeps h (subW g)))) (subW g)) (subW g)) (evalSkew_keeps (kept_ite (count_keeps (by (try dsimp only); split; exact (wr_keeps (setSdiIn_keeps h (subW g)) (subW g)); exact (setSdiIn_keeps h (subW g))) (subW g) (subW g)) (by (try dsimp only); split; exact (wr_keeps (setSdiIn_keeps h (subW g)) (subW g)); exact (setSdiIn_keeps h (subW g)))) (subW g))) (subW g)) (kept_ite (enterState_keeps (kept_ite (mismatch_keeps (evalSkew_keeps (kept_ite (count_keeps (by (try dsimp only); split; exact (wr_keeps (setSdiIn_keeps h (subW g)) (subW g)); exact (setSdiIn_keeps h (subW g))) (subW g) (subW g)) (by (try dsimp only); split; exact (wr_keeps (setSdiIn_keeps h (subW g)) (subW g)); exact (setSdiIn_keeps h (subW g)))) (subW g)) (subW g)) (evalSkew_keeps (kept_ite (count_keeps (by (try dsimp only); split; exact (wr_keeps (setSdiIn_keeps h (subW g)) (subW g)); exact (setSdiIn_keeps h (subW g))) (subW g) (subW g)) (by (try dsimp only); split; exact (wr_keeps (setSdiIn_keeps h (subW g)) (subW g)); exact (setSdiIn_keeps h (subW g)))) (subW g))) (subW g)) (kept_ite (kept_ite (setSdiIn_keeps (enterState_keeps (kept_ite (mismatch_keeps (evalSkew_keeps (kept_ite (count_keeps (by (try dsimp only); split; exact (wr_keeps (setSdiIn_keeps h (subW g)) (subW g)); exact (setSdiIn_keeps h (subW g))) (subW g) (subW g)) (by (try dsimp only); split; exact (wr_keeps (setSdiIn_keeps h (subW g)) (subW g)); exact (setSdiIn_keeps h (subW g)))) (subW g)) (subW g)) (evalSkew_keeps (kept_ite (count_keeps (by (try dsimp only); split; exact (wr_keeps (setSdiIn_keeps h (subW g)) (subW g)); exact (setSdiIn_keeps h (subW g))) (subW g) (subW g)) (by (try dsimp only); split; exact (wr_keeps (setSdiIn_keeps h (subW g)) (subW g)); exact (setSdiIn_keeps h (subW g)))) (subW g))) (subW g)) (subW g)) (kept_ite (mismatch_keeps (evalSkew_keeps (kept_ite (count_keeps (by (try dsimp only); split; exact (wr_keeps (setSdiIn_keeps h (subW g)) (subW g)); exact (setSdiIn_keeps h (subW g))) (subW g) (subW g)) (by (try dsimp only); split; exact (wr_keeps (setSdiIn_keeps h (subW g)) (subW g)); exact (setSdiIn_keeps h (subW g)))) (subW g)) (subW g)) (evalSkew_keeps (kept_ite (count_keeps (by (try dsimp only); split; exact (wr_keeps (setSdiIn_keeps h (subW g)) (subW g)); exact (setSdiIn_keeps h (subW g))) (subW g) (subW g)) (by (try dsimp only); split; exact (wr_keeps (setSdiIn_keeps h (subW g)) (subW g)); exact (setSdiIn_keeps h (subW g)))) (subW g)))) (kept_ite (mismatch_keeps (evalSkew_keeps (kept_ite (count_keeps (by (try dsimp only); split; exact (wr_keeps (setSdiIn_keeps h (subW g)) (subW g)); exact (setSdiIn_keeps h (subW g))) (subW g) (subW g)) (by (try dsimp only); split; exact (wr_keeps (setSdiIn_keeps h (subW g)) (subW g)); exact (setSdiIn_keeps h (subW g)))) (subW g)) (subW g)) (evalSkew_keeps (kept_ite (count_keeps (by (try dsimp only); split; exact (wr_keeps (setSdiIn_keeps h (subW g)) (subW g)); exact (setSdiIn_keeps h (subW g))) (subW g) (subW g)) (by (try dsimp only); split; exact (wr_keeps (setSdiIn_keeps h (subW g)) (subW g)); exact (setSdiIn_keeps h (subW g)))) (subW g)))))) (subW g)) (subW g) (subW g)) (subW g)) (kept_ite (enterState_keeps (kept_ite (mismatch_keeps (evalSkew_keeps (kept_ite (count_keeps (by (try dsimp only); split; exact (wr_keeps (setSdiIn_keeps h (subW g)) (subW g)); exact (setSdiIn_keeps h (subW g))) (subW g) (subW g)) (by (try dsimp only); split; exact (wr_keeps (setSdiIn_keeps h (subW g)) (subW g)); exact (setSdiIn_keeps h (subW g)))) (subW g)) (subW g)) (evalSkew_keeps (kept_ite (count_keeps (by (try dsimp only); split; exact (wr_keeps (setSdiIn_keeps h (subW g)) (subW g)); exact (setSdiIn_keeps h (subW g))) (subW g) (subW g)) (by (try dsimp only); split; exact (wr_keeps (setSdiIn_keeps h (subW g)) (subW g)); exact (setSdiIn_keeps h (subW g)))) (subW g))) (subW g)) (kept_ite (enterState_keeps (kept_ite (mismatch_keeps (evalSkew_keeps (kept_ite (count_keeps (by (try dsimp only); split; exact (wr_keeps (setSdiIn_keeps h (subW g)) (subW g)); exact (setSdiIn_keeps h (subW g))) (subW g) (subW g)) (by (try dsimp only); split; exact (wr_keeps (setSdiIn_keeps h (subW g)) (subW g)); exact (setSdiIn_keeps h (subW g)))) (subW g)) (subW g)) (evalSkew_keeps (kept_ite (count_keeps (by (try dsimp only); split; exact (wr_keeps (setSdiIn_keeps h (subW g)) (subW g)); exact (setSdiIn_keeps h (subW g))) (subW g) (subW g)) (by (try dsimp only); split; exact (wr_keeps (setSdiIn_keeps h (subW g)) (subW g)); exact (setSdiIn_keeps h (subW g)))) (subW g))) (subW g)) (kept_ite (kept_ite (setSdiIn_keeps (enterState_keeps (kept_ite (mismatch_keeps (evalSkew_keeps (kept_ite (count_keeps (by (try dsimp only); split; exact (wr_keeps (setSdiIn_keeps h (subW g)) (subW g)); exact (setSdiIn_keeps h (subW g))) (subW g) (subW g)) (by (try dsimp only); split; exact (wr_keeps (setSdiIn_keeps h (subW g)) (subW g)); exact (setSdiIn_keeps h (subW g)))) (subW g)) (subW g)) (evalSkew_keeps (kept_ite (count_keeps (by (try dsimp only); split; exact (wr_keeps (setSdiIn_keeps h (subW g)) (subW g)); exact (setSdiIn_keeps h (subW g))) (subW g) (subW g)) (by (try dsimp only); split; exact (wr_keeps (setSdiIn_keeps h (subW g)) (subW g)); exact (setSdiIn_keeps h (subW g)))) (subW g))) (subW g)) (subW g)) (kept_ite (mismatch_keeps (evalSkew_keeps (kept_ite (count_keeps (by (try dsimp only); split; exact (wr_keeps (setSdiIn_keeps h (subW g)) (subW g)); exact (setSdiIn_keeps h (subW g))) (subW g) (subW g)) (by (try dsimp only); split; exact (wr_keeps (setSdiIn_keeps h (subW g)) (subW g)); exact (setSdiIn_keeps h (subW g)))) (subW g)) (subW g)) (evalSkew_keeps (kept_ite (count_keeps (by (try dsimp only); split; exact (wr_keeps (setSdiIn_keeps h (subW g)) (subW g)); exact (setSdiIn_keeps h (subW g))) (subW g) (subW g)) (by (try dsimp only); split; exact (wr_keeps (setSdiIn_keeps h (subW g)) (subW g)); exact (setSdiIn_keeps h (subW g)))) (subW g)))) (kept_ite (mismatch_keeps (evalSkew_keeps (kept_ite (count_keeps (by (try dsimp only); split; exact (wr_keeps (setSdiIn_keeps h (subW g)) (subW g)); exact (setSdiIn_keeps h (subW g))) (subW g) (subW g)) (by (try dsimp only); split; exact (wr_keeps (setSdiIn_keeps h (subW g)) (subW g)); exact (setSdiIn_keeps h (subW g)))) (subW g)) (subW g)) (evalSkew_keeps (kept_ite (count_keeps (by (try dsimp only); split; exact (wr_keeps (setSdiIn_keeps h (subW g)) (subW g)); exact (setSdiIn_keeps h (subW g))) (subW g) (subW g)) (by (try dsimp only); split; exact (wr_keeps (setSdiIn_keeps h (subW g)) (subW g)); exact (setSdiIn_keeps h (subW g)))) (subW g))))))) (subW g)) (subW g) (subW g)) (subW g)) (kept_ite (countError_keeps (count_keeps (wr_keeps (kept_ite (enterState_keeps (kept_ite (mismatch_keeps (evalSkew_keeps (kept_ite (count_keeps (by (try dsimp only); split; exact (wr_keeps (setSdiIn_keeps h (subW g)) (subW g)); exact (setSdiIn_keeps h (subW g))) (subW g) (subW g)) (by (try dsimp only); split; exact (wr_keeps (setSdiIn_keeps h (subW g)) (subW g)); exact (setSdiIn_keeps h (subW g)))) (subW g)) (subW g)) (evalSkew_keeps (kept_ite (count_keeps (by (try dsimp only); split; exact (wr_keeps (setSdiIn_keeps h (subW g)) (subW g)); exact (setSdiIn_keeps h (subW g))) (subW g) (subW g)) (by (try dsimp only); split; exact (wr_keeps (setSdiIn_keeps h (subW g)) (subW g)); exact (setSdiIn_keeps h (subW g)))) (subW g))) (subW g)) (kept_ite (enterState_keeps (kept_ite (mismatch_keeps (evalSkew_keeps (kept_ite (count_keeps (by (try dsimp only); split; exact (wr_keeps (setSdiIn_keeps h (subW g)) (subW g)); exact (setSdiIn_keeps h (subW g))) (subW g) (subW g)) (by (try dsimp only); split; exact (wr_keeps (setSdiIn_keeps h (subW g)) (subW g)); exact (setSdiIn_keeps h (subW g)))) (subW g)) (subW g)) (evalSkew_keeps (kept_ite (count_keeps (by (try dsimp only); split; exact (wr_keeps (setSdiIn_keeps h (subW g)) (subW g)); exact (setSdiIn_keeps h (subW g))) (subW g) (subW g)) (by (try dsimp only); split; exact (wr_keeps (setSdiIn_keeps h (subW g)) (subW g)); exact (setSdiIn_keeps h (subW g)))) (subW g))) (subW g)) (kept_ite (kept_ite (setSdiIn_keeps (enterState_keeps (kept_ite (mismatch_keeps (evalSkew_keeps (kept_ite (count_keeps (by (try dsimp only); split; exact (wr_keeps (setSdiIn_keeps h (subW g)) (subW g)); exact (setSdiIn_keeps h (subW g))) (subW g) (subW g)) (by (try dsimp only); split; exact (wr_keeps (setSdiIn_keeps h (subW g)) (subW g)); exact (setSdiIn_keeps h (subW g)))) (subW g)) (subW g)) (evalSkew_keeps (kept_ite (count_keeps (by (try dsimp only); split; exact (wr_keeps (setSdiIn_keeps h (subW g)) (subW g)); exact (setSdiIn_keeps h (subW g))) (subW g) (subW g)) (by (try dsimp only); split; exact (wr_keeps (setSdiIn_keeps h (subW g)) (subW g)); exact (setSdiIn_keeps h (subW g)))) (subW g))) (subW g)) (subW g)) (kept_ite (mismatch_keeps (evalSkew_keeps (kept_ite (count_keeps (by (try dsimp only); split; exact (wr_keeps (setSdiIn_keeps h (subW g)) (subW g)); exact (setSdiIn_keeps h (subW g))) (subW g) (subW g)) (by (try dsimp only); split; exact (wr_keeps (setSdiIn_keeps h (subW g)) (subW g)); exact (setSdiIn_keeps h (subW g)))) (subW g)) (subW g)) (evalSkew_keeps (kept_ite (count_keeps (by (try dsimp only); split; exact (wr_keeps (setSdiIn_keeps h (subW g)) (subW g)); exact (setSdiIn_keeps h (subW g))) (subW g) (subW g)) (by (try dsimp only); split; exact (wr_keeps (setSdiIn_keeps h (subW g)) (subW g)); exact (setSdiIn_keeps h (subW g)))) (subW g)))) (kept_ite (mismatch_keeps (evalSkew_keeps (kept_ite (count_keeps (by (try dsimp only); split; exact (wr_keeps (setSdiIn_keeps h (subW g)) (subW g)); exact (setSdiIn_keeps h (subW g))) (subW g) (subW g)) (by (try dsimp only); split; exact (wr_keeps (setSdiIn_keeps h (subW g)) (subW g)); exact (setSdiIn_keeps h (subW g)))) (subW g)) (subW g)) (evalSkew_keeps (kept_ite (count_keeps (by (try dsimp only); split; exact (wr_keeps (setSdiIn_keeps h (subW g)) (subW g)); exact (setSdiIn_keeps h (subW g))) (subW g) (subW g)) (by (try dsimp only); split; exact (wr_keeps (setSdiIn_keeps h (subW g)) (subW g)); exact (setSdiIn_keeps h (subW g)))) (subW g)))))) (subW g)) (subW g) (subW g)) (subW g)) (kept_ite (enterState_keeps (kept_ite (mismatch_keeps (evalSkew_keeps (kept_ite (count_keeps (by (try dsimp only); split; exact (wr_keeps (setSdiIn_keeps h (subW g)) (subW g)); exact (setSdiIn_keeps h (subW g))) (subW g) (subW g)) (by (try dsimp only); split; exact (wr_keeps (setSdiIn_keeps h (subW g)) (subW g)); exact (setSdiIn_keeps h (subW g)))) (subW g)) (subW g)) (evalSkew_keeps (kept_ite (count_keeps (by (try dsimp only); split; exact (wr_keeps (setSdiIn_keeps h (subW g)) (subW g)); exact (setSdiIn_keeps h (subW g))) (subW g) (subW g)) (by (try dsimp only); split; exact (wr_keeps (setSdiIn_keeps h (subW g)) (subW g)); exact (setSdiIn_keeps h (subW g)))) (subW g))) (subW g)) (kept_ite (enterState_keeps (kept_ite (mismatch_keeps (evalSkew_keeps (kept_ite (count_keeps (by (try dsimp only); split; exact (wr_keeps (setSdiIn_keeps h (subW g)) (subW g)); exact (setSdiIn_keeps h (subW g))) (subW g) (subW g)) (by (try dsimp only); split; exact (wr_keeps (setSdiIn_keeps h (subW g)) (subW g)); exact (setSdiIn_keeps h (subW g)))) (subW g)) (subW g)) (evalSkew_keeps (kept_ite (count_keeps (by (try dsimp only); split; exact (wr_keeps (setSdiIn_keeps h (subW g)) (subW g)); exact (setSdiIn_keeps h (subW g))) (subW g) (subW g)) (by (try dsimp only); split; exact (wr_keeps (setSdiIn_keeps h (subW g)) (subW g)); exact (setSdiIn_keeps h (subW g)))) (subW g))) (subW g)) (kept_ite (kept_ite (setSdiIn_keeps (enterState_keeps (kept_ite (mismatch_keeps (evalSkew_keeps (kept_ite (count_keeps (by (try dsimp only); split; exact (wr_keeps (setSdiIn_keeps h (subW g)) (subW g)); exact (setSdiIn_keeps h (subW g))) (subW g) (subW g)) (by (try dsimp only); split; exact (wr_keeps (setSdiIn_keeps h (subW g)) (subW g)); exact (setSdiIn_keeps h (subW g)))) (subW g)) (subW g)) (evalSkew_keeps (kept_ite (count_keeps (by (try dsimp only); split; exact (wr_keeps (setSdiIn_keeps h (subW g)) (subW g)); exact (setSdiIn_keeps h (subW g))) (subW g) (subW g)) (by (try dsimp only); split; exact (wr_keeps (setSdiIn_keeps h (subW g)) (subW g)); exact (setSdiIn_keeps h (subW g)))) (subW g))) (subW g)) (subW g)) (kept_ite (mismatch_keeps (evalSkew_keeps (kept_ite (count_keeps (by (try dsimp only); split; exact (wr_keeps (setSdiIn_keeps h (subW g)) (subW g)); exact (setSdiIn_keeps h (subW g))) (subW g) (subW g)) (by (try dsimp only); split; exact (wr_keeps (setSdiIn_keeps h (subW g)) (subW g)); exact (setSdiIn_keeps h (subW g)))) (subW g)) (subW g)) (evalSkew_keeps (kept_ite (count_keeps (by (try dsimp only); split; exact (wr_keeps (setSdiIn_keeps h (subW g)) (subW g)); exact (setSdiIn_keeps h (subW g))) (subW g) (subW g)) (by (try dsimp only); split; exact (wr_keeps (setSdiIn_keeps h (subW g)) (subW g)); exact (setSdiIn_keeps h (subW g)))) (subW g)))) (kept_ite (mismatch_keeps (evalSkew_keeps (kept_ite (count_keeps (by (try dsimp only); split; exact (wr_keeps (setSdiIn_keeps h (subW g)) (subW g)); exact (setSdiIn_keeps h (subW g))) (subW g) (subW g)) (by (try dsimp only); split; exact (wr_keeps (setSdiIn_keeps h (subW g)) (subW g)); exact (setSdiIn_keeps h (subW g)))) (subW g)) (subW g)) (evalSkew_keeps (kept_ite (count_keeps (by (try dsimp only); split; exact (wr_keeps (setSdiIn_keeps h (subW g)) (subW g)); exact (setSdiIn_keeps h (subW g))) (subW g) (subW g)) (by (try dsimp only); split; exact (wr_keeps (setSdiIn_keeps h (subW g)) (subW g)); exact (setSdiIn_keeps h (subW g)))) (subW g)))))))) (fun _ _ h1 => takeAnc_keeps h1 (subW g))) (fun _ _ h1 => takeControl_keeps h1 (subW g))) (fun _ _ h1 => takeAudio_keeps h1 (subW g)))))

theorem sdiDeliver_keeps {n src size : Nat} {mute : Int → Bool → Int} {d d0 : Dev} {mm : Nat} (h : Kept mm d0 d) (g : Sub 0x300000000000000000000000000000000000000000000000000000000000000000010000000000000000000000000000000000000000000000000000000000000000000000000000000000000000000000000000000000000000000000000500001 mm) :
    Kept mm d0 (sdiDeliver n src size mute d) := by
  unfold sdiDeliver; with_reducible exact kept_ite h (forUpTo_keeps h (fun _ _ h1 => by (try dsimp only); split; exact (kept_ite (setChan_keeps (setChan_keeps (wrBit_keeps (setSdiIn_keeps h1 (subW g)) (subW g) (subW g)) (subW g)) (subW g)) (setChan_keeps (wrBit_keeps (setSdiIn_keeps h1 (subW g)) (subW g) (subW g)) (subW g))); exact (wrBit_keeps (setSdiIn_keeps h1 (subW g)) (subW g) (subW g))))

theorem settleAudio_keeps {n size want : Nat} {d d0 : Dev} {mm : Nat} (h : Kept mm d0 d) (g : Sub 0x40001000000000000000000000000000000000000000000000000000000000000000000000000000000000000000000000000000009020000000000000000000000000000000000000000000000000000000000000000000000000000000000000000000000000000000000000004000000103041 mm) :
    Kept mm d0 (settleAudio n size want d) := by
  unfold settleAudio; with_reducible exact kept_ite (wr_keeps (setSdiIn_keeps h (subW g)) (subW g)) (fire_keeps (count_keeps (wr_keeps (wr_keeps (setSdiIn_keeps h (subW g)) (subW g)) (subW g)) (subW g) (subW g)) (subW g))

theorem enterPresent_keeps {n src : Nat} {d d0 : Dev} {mm : Nat} (h : Kept mm d0 d) (g : Sub 0xc00000000000000000000000000000000000000000000000000000000000000000800000000000000000000000000000000000000000000000004001 mm) :
    Kept mm d0 (enterPresent n src d) := by
  unfold enterPresent; with_reducible exact declareRecovery_keeps (wr_keeps (wr_keeps h (subW g)) (subW g)) (subW g)

theorem sdiFrame_keeps {n : Nat} {s : SrcDesc} {lanes : List Nat} {x : SdiLine} {d d0 : Dev} {mm : Nat} (h : Kept mm d0 d) (g : Sub 0x4000100000000000000000000000000000000000000000000000000000000000000000000000000000000000000068000000210000d021a60c00000000000000010000000000000000000000000000000000000000000810002800000000000000000000000000000000000000004000000117041 mm) :
    Kept mm d0 (sdiFrame n s lanes x d) := by
  unfold sdiFrame; with_reducible exact by (try dsimp only); split; exact (kept_ite (setArrival_keeps (wrS_keeps (setSdiIn_keeps (endSourceFrame_keeps (by (try dsimp only); split; exact (wr_keeps (kept_ite (settleAudio_keeps h (subW g)) h) (subW g)); exact (kept_ite (settleAudio_keeps h (subW g)) h)) (subW g)) (subW g)) (subW g) (subW g)) (subW g)) (mismatch_keeps (setArrival_keeps (wrS_keeps (setSdiIn_keeps (endSourceFrame_keeps (by (try dsimp only); split; exact (wr_keeps (kept_ite (settleAudio_keeps h (subW g)) h) (subW g)); exact (kept_ite (settleAudio_keeps h (subW g)) h)) (subW g)) (subW g)) (subW g) (subW g)) (subW g)) (subW g))); exact (kept_ite (setSdiIn_keeps (enterState_keeps (setArrival_keeps (wrS_keeps (setSdiIn_keeps (endSourceFrame_keeps (by (try dsimp only); split; exact (wr_keeps (kept_ite (settleAudio_keeps h (subW g)) h) (subW g)); exact (kept_ite (settleAudio_keeps h (subW g)) h)) (subW g)) (subW g)) (subW g) (subW g)) (subW g)) (subW g)) (subW g)) (kept_ite (beginSourceFrame_keeps (kept_ite (enterPresent_keeps (setSdiIn_keeps (setSdiIn_keeps (setArrival_keeps (wrS_keeps (setSdiIn_keeps (endSourceFrame_keeps (by (try dsimp only); split; exact (wr_keeps (kept_ite (settleAudio_keeps h (subW g)) h) (subW g)); exact (kept_ite (settleAudio_keeps h (subW g)) h)) (subW g)) (subW g)) (subW g) (subW g)) (subW g)) (subW g)) (subW g)) (subW g)) (setSdiIn_keeps (setArrival_keeps (wrS_keeps (setSdiIn_keeps (endSourceFrame_keeps (by (try dsimp only); split; exact (wr_keeps (kept_ite (settleAudio_keeps h (subW g)) h) (subW g)); exact (kept_ite (settleAudio_keeps h (subW g)) h)) (subW g)) (subW g)) (subW g) (subW g)) (subW g)) (subW g))) (subW g)) (beginSourceFrame_keeps (setArrival_keeps (wrS_keeps (setSdiIn_keeps (endSourceFrame_keeps (by (try dsimp only); split; exact (wr_keeps (kept_ite (settleAudio_keeps h (subW g)) h) (subW g)); exact (kept_ite (settleAudio_keeps h (subW g)) h)) (subW g)) (subW g)) (subW g) (subW g)) (subW g)) (subW g))))

theorem sdiLaneLoss_keeps {l : Nat} {d d0 : Dev} {mm : Nat} (h : Kept mm d0 d) (g : Sub 0x4000100000000000000000000000000000000000000000000000000000000000000000000000000000000000000020000000000000c000823c00000000000000000000000000000000000000000000000000000000000810000800000000000000000000000000000000000000004000000107041 mm) :
    Kept mm d0 (sdiLaneLoss l d) := by
  unfold sdiLaneLoss; with_reducible exact by (try dsimp only); split; exact (kept_ite h (wr_keeps (wr_keeps (enterState_keeps h (subW g)) (subW g)) (subW g))); exact h

theorem sdiLaneLock_keeps {l : Nat} {d d0 : Dev} {mm : Nat} (h : Kept mm d0 d) (g : Sub 0x4000100000000000000000000000000000000000000000000000000000000000000000000000000000000000000020000000000000c001820c00000000000000010000000000000000000000000000000000000000000810000800000000000000000000000000000000000000004000000107041 mm) :
    Kept mm d0 (sdiLaneLock l d) := by
  unfold sdiLaneLock; with_reducible exact by (try dsimp only); split; exact (kept_ite h (kept_ite (mismatch_keeps h (subW g)) (kept_ite (enterState_keeps h (subW g)) h))); exact h

theorem sdiLine_keeps {l : Nat} {x : SdiLine} {d d0 : Dev} {mm : Nat} (h : Kept mm d0 d) (g : Sub 0x4000100000000000000000000000000000000000000000000000000000000000000000000000000000000000000178000000210000ff7fef8c00000000000000010000000000000000000000000000000000000000000810002800000000000000000000000000000000000000004000000117041 mm) :
    Kept mm d0 (sdiLine l x d) := by
  unfold sdiLine; with_reducible exact by (try dsimp only); split; exact h; exact (sdiLineBody_keeps (kept_ite (sdiFrame_keeps h (subW g)) h) (subW g))

theorem ringDeliver_keeps {n : Nat} {d d0 : Dev} {mm : Nat} (h : Kept mm d0 d) (g : Sub 0x40001000000000000000000000000000000000300000000000000000000000000000000000000000000000000200000000000800000000000000000000000000000000000000000000000000000000000000000000000000000000000000000000000000000000000000000000004000000413041 mm) :
    Kept mm d0 (ringDeliver n d) := by
  unfold ringDeliver
  dsimp only
  refine kept_ite h ?_
  split
  · exact h
  · refine kept_ite (fire_keeps (wr_keeps (kept_ite (count_keeps ?_ (subW g) (subW g)) ?_) (subW g)) (subW g)) (kept_ite (count_keeps ?_ (subW g) (subW g)) ?_)
    all_goals
      refine forUpTo_holds (P := fun a : Dev × Bool × Bool => Kept mm d0 a.1) h (fun i a ha => ?_)
      dsimp only
      split
      · exact setChan_keeps (setSyncRun_keeps ha (subW g)) (subW g)
      · exact setSyncRun_keeps ha (subW g)


theorem startMute_keeps {d d0 : Dev} {mm : Nat} (h : Kept mm d0 d) (g : Sub 0x400000 mm) :
    Kept mm d0 (startMute d) := by
  unfold startMute; with_reducible exact forUpTo_keeps h (fun _ _ h1 => upd_aud h1 (subW g))

theorem endMute_keeps {d d0 : Dev} {mm : Nat} (h : Kept mm d0 d) (g : Sub 0x400000 mm) :
    Kept mm d0 (endMute d) := by
  unfold endMute; with_reducible exact forUpTo_keeps h (fun _ _ h1 => upd_aud h1 (subW g))

theorem setDchan_keeps {c : Nat} {x : DChan} {d d0 : Dev} {mm : Nat} (h : Kept mm d0 d) (g : Sub 0x400000 mm) :
    Kept mm d0 (setDchan c x d) := by
  unfold setDchan; with_reducible exact upd_aud h (subW g)

theorem muteStep_keeps {r : Nat} {d d0 : Dev} {mm : Nat} (h : Kept mm d0 d) (g : Sub 0x400000 mm) :
    Kept mm d0 (muteStep r d) := by
  unfold muteStep; with_reducible exact upd_aud h (subW g)

theorem dstSamples_keeps {t : Nat} {x : DstDesc} {d d0 : Dev} {mm : Nat} (h : Kept mm d0 d) (g : Sub 0x40001000000000000000000000000000000000000000000800000000000000000000000000000000000000000000000000000000000000000000000000000000000000000000000000000000000000000000000000000000000000800000000000000000000000000000000000004000000407041 mm) :
    Kept mm d0 (dstSamples t x d) := by
  unfold dstSamples; with_reducible exact kept_ite (recordDone_keeps (forUpTo_keeps (kept_ite (setDstRun_keeps h (subW g)) h) (fun _ _ h1 => by (try dsimp only); split; exact h1; exact (kept_ite (fire_keeps (wr_keeps (setDchan_keeps h1 (subW g)) (subW g)) (subW g)) (setDchan_keeps h1 (subW g))))) (subW g)) (forUpTo_keeps (kept_ite (setDstRun_keeps h (subW g)) h) (fun _ _ h1 => by (try dsimp only); split; exact h1; exact (kept_ite (fire_keeps (wr_keeps (setDchan_keeps h1 (subW g)) (subW g)) (subW g)) (setDchan_keeps h1 (subW g)))))

theorem dstGrid_keeps {r t : Nat} {d d0 : Dev} {mm : Nat} (h : Kept mm d0 d) (g : Sub 0x40001000000000000000000000000000000000000000000800000000000000000000000000000000000000000000000000000000000000000000000000000000000000000000000000000000000000000000000000000000000000800000000000000000000000000000000000004000000407041 mm) :
    Kept mm d0 (dstGrid r t d) := by
  unfold dstGrid; with_reducible exact forEach_keeps h (fun _ _ h1 => kept_ite (dstSamples_keeps h1 (subW g)) h1)

theorem shiftChans_keeps {r : Nat} {d d0 : Dev} {mm : Nat} (h : Kept mm d0 d) (g : Sub 0x400000 mm) :
    Kept mm d0 (shiftChans r d) := by
  unfold shiftChans; with_reducible exact upd_aud h (subW g)

theorem portPresence_keeps {s : Nat} {d d0 : Dev} {mm : Nat} (h : Kept mm d0 d) (g : Sub 0x40001000000000000000000000000000000000000000000000000000000000000000000000000000000000000000200000000000000000000000000000000000000000000000000000000000000000000000000000000810000800000000000000000000000000000000000000004000000007041 mm) :
    Kept mm d0 (portPresence s d) := by
  unfold portPresence; with_reducible exact kept_ite h (by (try dsimp only); split; exact (kept_ite (declareRecovery_keeps h (subW g)) (declareLoss_keeps h (subW g))); exact h)

theorem setSide_keeps {s : Nat} {x : Side} {d d0 : Dev} {mm : Nat} (h : Kept mm d0 d) (g : Sub 0x800000 mm) :
    Kept mm d0 (setSide s x d) := by
  unfold setSide; with_reducible exact upd_apt h (subW g)

theorem portSticky_keeps {f : Fld} {p : Nat} {d d0 : Dev} {mm : Nat} (h : Kept mm d0 d) (g0 : Sub (fldMask f) mm) (g : Sub 0x1c00000000000000000000000000000000000000000000000000000000000000000000000000000000000000000000000000000000000000000000000000000000000000000000000000000000000000000000000000000000000000000000000001 mm) :
    Kept mm d0 (portSticky f p d) := by
  unfold portSticky; with_reducible exact portEvent_keeps (wr_keeps h g0) (subW g)

theorem portStatus_keeps {s : Nat} {f : PortFrame} {d d0 : Dev} {mm : Nat} (h : Kept mm d0 d) (g : Sub 0x804200000000001c00000000000000000000000000000000000000000000000000000000000000000000000000000000000000000000000000000000000000000000000000000000000000000000000000000000000000000000000000000000000000000000800001 mm) :
    Kept mm d0 (portStatus s f d) := by
  unfold portStatus; with_reducible exact kept_ite h (kept_ite (kept_ite (wr_keeps (setSide_keeps h (subW g)) (subW g)) (count_keeps (portSticky_keeps (wr_keeps (setSide_keeps h (subW g)) (subW g)) (subW g) (subW g)) (subW g) (subW g))) (setSide_keeps h (subW g)))

theorem takeMasks_keeps {p : Nat} {d d0 : Dev} {mm : Nat} (h : Kept mm d0 d) (g : Sub 0x600020000000000000000000000000000000000000000000000000000000000000000000000000000000000000000000000000000000000000000000000000000000000000000000000000000000000000000000000000000000000000000000010800001 mm) :
    Kept mm d0 (takeMasks p d) := by
  unfold takeMasks; with_reducible exact by (try dsimp only); split; exact (kept_ite h (recordRoute_keeps (upd_apt (wr_keeps (wr_keeps (wr_keeps h (subW g)) (subW g)) (subW g)) (subW g)) (subW g))); exact h

theorem showMarks_keeps {s marks : Nat} {d d0 : Dev} {mm : Nat} (h : Kept mm d0 d) (g : Sub 0x11000000000000000000000000000000000000000000000000000000000000000000000000000000000000000000000000000000000000000000000000000000000000000000000000000000000000000000000000000000000000000000000000000000000001 mm) :
    Kept mm d0 (showMarks s marks d) := by
  unfold showMarks; with_reducible exact kept_ite (wr_keeps h (subW g)) (kept_ite (wr_keeps h (subW g)) h)

theorem showSide_keeps {s : Nat} {d d0 : Dev} {mm : Nat} (h : Kept mm d0 d) (g : Sub 0x600000001c0000000000000000000000000000000000000000000000000000000000000000000000000000000000000000000000000000000000000000000000000000000000000000000000000000000000000000000000000000000000000000000000000001 mm) :
    Kept mm d0 (showSide s d) := by
  unfold showSide; with_reducible exact kept_ite (wr_keeps (wrB_keeps h (subW g) (subW g)) (subW g)) (kept_ite (wr_keeps (wrB_keeps h (subW g) (subW g)) (subW g)) (wr_keeps (wrB_keeps h (subW g) (subW g)) (subW g)))

theorem masterFrame_keeps {p : Nat} {f : PortFrame} {d d0 : Dev} {mm : Nat} (h : Kept mm d0 d) (g : Sub 0x710000001c0000000000000000000000000000000000000000000000000000000000000000000000000000000000000000000000000000000000000000000000000000000000000000000000000000000000000000000000000000000000000000000000800001 mm) :
    Kept mm d0 (masterFrame p f d) := by
  unfold masterFrame; with_reducible exact kept_ite h (showMarks_keeps (showSide_keeps (setSide_keeps h (subW g)) (subW g)) (subW g))

theorem portSlip_keeps {s marks : Nat} {d d0 : Dev} {mm : Nat} (h : Kept mm d0 d) (g : Sub 0x40001000000000000000001090800992000001c000000000000000000000000000000000000000000000000000000000000000000000000000000000000000000000000000000000000000000000000000000000000000000000000000000000000000000000000000000000000040000000030c1 mm) :
    Kept mm d0 (portSlip s marks d) := by
  unfold portSlip; with_reducible exact kept_ite (firePerSecond_keeps (kept_ite (count_keeps (portSticky_keeps h (subW g) (subW g)) (subW g) (subW g)) (kept_ite (count_keeps (portSticky_keeps h (subW g) (subW g)) (subW g) (subW g)) (count_keeps (portSticky_keeps h (subW g) (subW g)) (subW g) (subW g)))) (subW g)) (kept_ite (fire_keeps (count_keeps (portSticky_keeps (firePerSecond_keeps (kept_ite (count_keeps (portSticky_keeps h (subW g) (subW g)) (subW g) (subW g)) (kept_ite (count_keeps (portSticky_keeps h (subW g) (subW g)) (subW g) (subW g)) (count_keeps (portSticky_keeps h (subW g) (subW g)) (subW g) (subW g)))) (subW g)) (subW g) (subW g)) (subW g) (subW g)) (subW g)) (fire_keeps (count_keeps (portSticky_keeps (firePerSecond_keeps (kept_ite (count_keeps (portSticky_keeps h (subW g) (subW g)) (subW g) (subW g)) (kept_ite (count_keeps (portSticky_keeps h (subW g) (subW g)) (subW g) (subW g)) (count_keeps (portSticky_keeps h (subW g) (subW g)) (subW g) (subW g)))) (subW g)) (subW g) (subW g)) (subW g) (subW g)) (subW g)))

theorem txRead_keeps {s : Nat} {d d0 : Dev} {mm : Nat} (h : Kept mm d0 d) (g : Sub 0x400010000000000000000010908609920001c1c000000000000000000000000000000000000000000000000000000000000000000000000000000000000000000000000000000000000000000000000000000000000000000000000000000000000000000000000000000000000040000008030c1 mm) :
    Kept mm d0 (txRead s d) := by
  unfold txRead; with_reducible exact kept_ite h (kept_ite (portSlip_keeps (showSide_keeps (setSide_keeps h (subW g)) (subW g)) (subW g)) (showSide_keeps (setSide_keeps h (subW g)) (subW g)))

theorem setSideState_keeps {s st : Nat} {d d0 : Dev} {mm : Nat} (h : Kept mm d0 d) (g : Sub 0x8000000018000000000000000000000000000000000000000000000000000000000000000000000000000000000000000000000000000000000000000000000000000000000000000000000000000000000000000000000000000000000000000000000000001 mm) :
    Kept mm d0 (setSideState s st d) := by
  unfold setSideState; with_reducible exact kept_ite (wr_keeps h (subW g)) (kept_ite (wr_keeps h (subW g)) (wr_keeps h (subW g)))

theorem sideLocked_keeps {s : Nat} {d d0 : Dev} {mm : Nat} (h : Kept mm d0 d) (g : Sub 0x40001000000000000000000000008000000018000000000000000000000000000000000000000000000000000000200000000000000000000000000000000000000000000000000000000000000000000000000000000810000800000000000000000000000000000000000000004000000807041 mm) :
    Kept mm d0 (sideLocked s d) := by
  unfold sideLocked; with_reducible exact portPresence_keeps (setSideState_keeps (setSide_keeps h (subW g)) (subW g)) (subW g)

theorem sideMismatch_keeps {s : Nat} {d d0 : Dev} {mm : Nat} (h : Kept mm d0 d) (g : Sub 0x40001000000000000000000008008008000019c00000000000000000000000000000000000000000000000000000000000000000000000000000000000000000000000000000000000000000000000000000000000000000000000000000000000000000000000000000000000004000000003041 mm) :
    Kept mm d0 (sideMismatch s d) := by
  unfold sideMismatch; with_reducible exact fire_keeps (setSideState_keeps (kept_ite (portSticky_keeps h (subW g) (subW g)) (portSticky_keeps h (subW g) (subW g))) (subW g)) (subW g)

theorem sideDecide_keeps {s : Nat} {d d0 : Dev} {mm : Nat} (h : Kept mm d0 d) (g : Sub 0x40001000000000000000000008008008000019c00000000000000000000000000000000000000000000000000000200000000000000000000000000000000000000000000000000000000000000000000000000000000810000800000000000000000000000000000000000000004000000807041 mm) :
    Kept mm d0 (sideDecide s d) := by
  unfold sideDecide; with_reducible exact by (try dsimp only); split; exact (kept_ite (kept_ite (sideLocked_keeps h (subW g)) (sideMismatch_keeps h (subW g))) h); exact h

theorem portParity_keeps {s n : Nat} {d d0 : Dev} {mm : Nat} (h : Kept mm d0 d) (g : Sub 0x40001000000000000000000102000000000001c000000000000000000000000000000000000000000000000000000000000000000000000000000000000000000000000000000000000000000000000000000000000000000000000000000000000000000000000000000000000040000000030c1 mm) :
    Kept mm d0 (portParity s n d) := by
  unfold portParity; with_reducible exact kept_ite h (firePerSecond_keeps (count_keeps (portSticky_keeps h (subW g) (subW g)) (subW g) (subW g)) (subW g))

theorem rxWrite_keeps {s : Nat} {f : PortFrame} {d d0 : Dev} {mm : Nat} (h : Kept mm d0 d) (g : Sub 0x400010000000000000000001020710000001c1c000000000000000000000000000000000000000000000000000000000000000000000000000000000000000000000000000000000000000000000000000000000000000000000000000000000000000000000000000000000000040000008030c1 mm) :
    Kept mm d0 (rxWrite s f d) := by
  unfold rxWrite; with_reducible exact portParity_keeps (showMarks_keeps (showSide_keeps (setSide_keeps h (subW g)) (subW g)) (subW g)) (subW g)

theorem portGlitch_keeps {p : Nat} {d d0 : Dev} {mm : Nat} (h : Kept mm d0 d) (g : Sub 0x40001000000000000000000201000204000001c000000000000000000000000000000000000000000000000000000000000000000000000000000000000000000000000000000000000000000000000000000000000000000000000000000000000000000000000000000000000040000000030c1 mm) :
    Kept mm d0 (portGlitch p d) := by
  unfold portGlitch; with_reducible exact firePerSecond_keeps (kept_ite (count_keeps (portSticky_keeps h (subW g) (subW g)) (subW g) (subW g)) (count_keeps (portSticky_keeps h (subW g) (subW g)) (subW g) (subW g))) (subW g)

theorem sideLost_keeps {s : Nat} {d d0 : Dev} {mm : Nat} (h : Kept mm d0 d) (g : Sub 0x400010000000000000000004005684018001d9c00000000000000000000000000000000000000000000000000000200000000000000000000000000000000000000000000000000000000000000000000000000000000810000800000000000000000000000000000000000000004000000807041 mm) :
    Kept mm d0 (sideLost s d) := by
  unfold sideLost; with_reducible exact kept_ite (portPresence_keeps (fire_keeps (kept_ite (count_keeps (portSticky_keeps (showSide_keeps (kept_ite (wr_keeps (setSideState_keeps (setSide_keeps h (subW g)) (subW g)) (subW g)) (wr_keeps (setSideState_keeps (setSide_keeps h (subW g)) (subW g)) (subW g))) (subW g)) (subW g) (subW g)) (subW g) (subW g)) (count_keeps (portSticky_keeps (showSide_keeps (kept_ite (wr_keeps (setSideState_keeps (setSide_keeps h (subW g)) (subW g)) (subW g)) (wr_keeps (setSideState_keeps (setSide_keeps h (subW g)) (subW g)) (subW g))) (subW g)) (subW g) (subW g)) (subW g) (subW g))) (subW g)) (subW g)) (showSide_keeps (kept_ite (wr_keeps (setSideState_keeps (setSide_keeps h (subW g)) (subW g)) (subW g)) (wr_keeps (setSideState_keeps (setSide_keeps h (subW g)) (subW g)) (subW g))) (subW g))

theorem sideFrame_keeps {s : Nat} {f : PortFrame} {d d0 : Dev} {mm : Nat} (h : Kept mm d0 d) (g : Sub 0x40001000000000000000001f9ff79f9f8001d9c000000000000000000000000000000000000000000000000000002000000000000000000000000000000000000000000000000000000000000000000000000000000008100008000000000000000000000000000000000000000040000008070c1 mm) :
    Kept mm d0 (sideFrame s f d) := by
  unfold sideFrame; with_reducible exact kept_ite (kept_ite (txRead_keeps h (subW g)) h) (kept_ite (kept_ite (setSideState_keeps (portStatus_keeps (setSide_keeps h (subW g)) (subW g)) (subW g)) (kept_ite (sideDecide_keeps (portStatus_keeps (setSide_keeps h (subW g)) (subW g)) (subW g)) (kept_ite (kept_ite (txRead_keeps (portStatus_keeps (setSide_keeps h (subW g)) (subW g)) (subW g)) (rxWrite_keeps (portStatus_keeps (setSide_keeps h (subW g)) (subW g)) (subW g))) (portStatus_keeps (setSide_keeps h (subW g)) (subW g))))) (kept_ite (kept_ite (portGlitch_keeps (setSide_keeps h (subW g)) (subW g)) (setSide_keeps h (subW g))) (kept_ite (sideLost_keeps (setSide_keeps h (subW g)) (subW g)) (setSide_keeps h (subW g)))))

theorem portFrame_keeps {p : Nat} {f : PortFrame} {d d0 : Dev} {mm : Nat} (h : Kept mm d0 d) (g : Sub 0x40001000000000000000001f9ff79f9fe001f9c000000000000000000000000000000000000000000000000000002000000000000000000000000000000000000000000000000000000000000000000000000000000008100008000000000000000000000000000000000000000040000108070c1 mm) :
    Kept mm d0 (portFrame p f d) := by
  unfold portFrame; with_reducible exact kept_ite (kept_ite (masterFrame_keeps (kept_ite (takeMasks_keeps h (subW g)) h) (subW g)) (kept_ite (takeMasks_keeps h (subW g)) h)) (forEach_keeps (kept_ite (takeMasks_keeps h (subW g)) h) (fun _ _ h1 => sideFrame_keeps h1 (subW g)))

theorem portTakes_keeps {p k : Nat} {d d0 : Dev} {mm : Nat} (h : Kept mm d0 d) (g : Sub 0x80000600000001c0000000000000000000000000000000000000000000000000000000000000000000000000000000000000000000000000000000000000000000000000000000000000000000000000000000000000000000000000000000000000000000000800001 mm) :
    Kept mm d0 (portTakes p k d) := by
  unfold portTakes; with_reducible exact kept_ite h (kept_ite (kept_ite h (showSide_keeps (setSide_keeps h (subW g)) (subW g))) (kept_ite (setSide_keeps h (subW g)) (wr_keeps (setSide_keeps h (subW g)) (subW g))))

theorem portRuns_keeps {p : Nat} {d d0 : Dev} {mm : Nat} (h : Kept mm d0 d) (g : Sub 0x4000100000000800000000400000c00000001c000000000008000000000000000000000000100000000000001000200000000000000000000000000000000000000000000004000800000000000000000000000000000810000800000000200000000000000000000000000000004000100007041 mm) :
    Kept mm d0 (portRuns p d) := by
  unfold portRuns; with_reducible exact kept_ite h (kept_ite (portPresence_keeps (setSideState_keeps (setSideState_keeps (setFuncState_keeps h (subW g)) (subW g)) (subW g)) (subW g)) (setFuncState_keeps h (subW g)))

theorem portStarts_keeps {p : Nat} {d d0 : Dev} {mm : Nat} (h : Kept mm d0 d) (g : Sub 0x600000000000000000000000000000000000000000000000000000000000000000000000000000000000000000000000000000000000000000000000000000000000000000000000000000000000000000000000000000000000000000000000000000001 mm) :
    Kept mm d0 (portStarts p d) := by
  unfold portStarts; with_reducible exact kept_ite (wr_keeps (wr_keeps h (subW g)) (subW g)) h

theorem portStops_keeps {p : Nat} {d d0 : Dev} {mm : Nat} (h : Kept mm d0 d) (g : Sub 0x800000 mm) :
    Kept mm d0 (portStops p d) := by
  unfold portStops; with_reducible exact forEach_keeps (upd_apt h (subW g)) (fun _ _ h1 => setSide_keeps h1 (subW g))

theorem sideTick_keeps {s : Nat} {d d0 : Dev} {mm : Nat} (h : Kept mm d0 d) (g : Sub 0x400010000000000000000004085684098001d9c00000000000000000000000000000000000000000000000000000200000000000000000000000000000000000000000000000000000000000000000000000000000000810000800000000000000000000000000000000000000004000000807041 mm) :
    Kept mm d0 (sideTick s d) := by
  unfold sideTick; with_reducible exact kept_ite h (by (try dsimp only); split; exact (setSide_keeps h (subW g)); exact (kept_ite (sideDecide_keeps (setSide_keeps h (subW g)) (subW g)) (kept_ite (kept_ite (setSideState_keeps (setSide_keeps (setSide_keeps h (subW g)) (subW g)) (subW g)) (setSide_keeps h (subW g))) (kept_ite (kept_ite (kept_ite (wrS_keeps (setSide_keeps h (subW g)) (subW g) (subW g)) (wrS_keeps (setSide_keeps h (subW g)) (subW g) (subW g))) (sideLost_keeps (setSide_keeps h (subW g)) (subW g))) (setSide_keeps h (subW g))))))

theorem pendMasks_keeps {p : Nat} {d d0 : Dev} {mm : Nat} (h : Kept mm d0 d) (g : Sub 0x20000000000000000000000000000000000000000000000000000000000000000000000000000000000000000000000000000000000000000000000000000000000000000000000000000000000000000000000000000000000000000000000800001 mm) :
    Kept mm d0 (pendMasks p d) := by
  unfold pendMasks; with_reducible exact kept_ite h (wr_keeps (upd_apt h (subW g)) (subW g))

theorem portTick_keeps {p : Nat} {d d0 : Dev} {mm : Nat} (h : Kept mm d0 d) (g : Sub 0x4000100200000800000008444856c449e001fdc00000000408000000000000000000000000101000000040001000200000000000000000000000000000000000000001000004020800000000000000000000000000000810000800000000a00000000000000000000000000000004000100807041 mm) :
    Kept mm d0 (portTick p d) := by
  unfold portTick; with_reducible exact kept_ite (pendMasks_keeps (kept_ite (forEach_keeps (launchFunc_keeps (portRuns_keeps h (subW g)) (fun _ h1 => portStarts_keeps h1 (subW g)) (fun _ h1 => portStops_keeps h1 (subW g)) (subW g)) (fun _ _ h1 => sideTick_keeps h1 (subW g))) (launchFunc_keeps (portRuns_keeps h (subW g)) (fun _ h1 => portStarts_keeps h1 (subW g)) (fun _ h1 => portStops_keeps h1 (subW g)) (subW g))) (subW g)) (kept_ite (forEach_keeps (launchFunc_keeps (portRuns_keeps h (subW g)) (fun _ h1 => portStarts_keeps h1 (subW g)) (fun _ h1 => portStops_keeps h1 (subW g)) (subW g)) (fun _ _ h1 => sideTick_keeps h1 (subW g))) (launchFunc_keeps (portRuns_keeps h (subW g)) (fun _ h1 => portStarts_keeps h1 (subW g)) (fun _ h1 => portStops_keeps h1 (subW g)) (subW g)))

theorem portClockLoss_keeps {p : Nat} {d d0 : Dev} {mm : Nat} (h : Kept mm d0 d) (g : Sub 0x400010000000000000000004005684018001d9c00000000000000000000000000000000000000000000000000000200000000000000000000000000000000000000000000000000000000000000000000000000000000810000800000000000000000000000000000000000000004000000807041 mm) :
    Kept mm d0 (portClockLoss p d) := by
  unfold portClockLoss; with_reducible exact kept_ite h (forEach_keeps h (fun _ _ h1 => kept_ite (sideLost_keeps h1 (subW g)) h1))

theorem writeRow_keeps {p : Nat} {row : PortRow} {ramp : Ramp} {d d0 : Dev} {mm : Nat} (h : Kept mm d0 d) (g : Sub 0x300000000000000000000000000000000000000000000000000000000000000000000000000000000000000000000000000000000000000000000000000000000000000000000000000000000000000000000000000000000000000000000400001 mm) :
    Kept mm d0 (writeRow p row ramp d) := by
  unfold writeRow; with_reducible exact by (try dsimp only); split; exact h; exact (forUpTo_keeps h (fun _ _ h1 => by (try dsimp only); split; exact h1; exact (kept_ite h1 (kept_ite (kept_ite h1 (setChan_keeps h1 (subW g))) (setChan_keeps h1 (subW g))))))

theorem portStopComplete_keeps {p : Nat} {d d0 : Dev} {mm : Nat} (h : Kept mm d0 d) (g : Sub 0x4000100000000800000000400016c0008001fc000000000008000000000000000000000000100000000000001000200000000000000000000000000000000000000000000004000800000000000000000000000000000810000800000000200000000000000000000000000000004000100807059 mm) :
    Kept mm d0 (portStopComplete p d) := by
  unfold portStopComplete; with_reducible exact kept_ite h (portPresence_keeps (setFuncState_keeps (kept_ite (wr_keeps (wr_keeps (forEach_keeps (upd_apt (advanceDev_keeps h (subW g)) (subW g)) (fun _ _ h1 => kept_ite (showSide_keeps (setSideState_keeps (setSide_keeps h1 (subW g)) (subW g)) (subW g)) (setSide_keeps h1 (subW g)))) (subW g)) (subW g)) (kept_ite (wr_keeps (forEach_keeps (upd_apt (advanceDev_keeps h (subW g)) (subW g)) (fun _ _ h1 => kept_ite (showSide_keeps (setSideState_keeps (setSide_keeps h1 (subW g)) (subW g)) (subW g)) (setSide_keeps h1 (subW g)))) (subW g)) (forEach_keeps (upd_apt (advanceDev_keeps h (subW g)) (subW g)) (fun _ _ h1 => kept_ite (showSide_keeps (setSideState_keeps (setSide_keeps h1 (subW g)) (subW g)) (subW g)) (setSide_keeps h1 (subW g)))))) (subW g)) (subW g))

theorem portGives_keeps {p k : Nat} {d d0 : Dev} {mm : Nat} (h : Kept mm d0 d) (g : Sub 0x400010000000000000000010908609920001c1f00000000000000000000000000000000000000000000000000000000000000000000000000000000000000000000000000000000000000000000000000000000000000000000000000000000000000000000000000000000000004000000c030c1 mm) :
    Kept mm d0 (portGives p k d) := by
  unfold portGives; with_reducible exact kept_ite (kept_ite (showSide_keeps (setSide_keeps (writeRow_keeps h (subW g)) (subW g)) (subW g)) h) (kept_ite h (kept_ite (kept_ite h (writeRow_keeps (setSide_keeps h (subW g)) (subW g))) (kept_ite (kept_ite (showSide_keeps (setSide_keeps (writeRow_keeps h (subW g)) (subW g)) (subW g)) h) (kept_ite (portSlip_keeps (showSide_keeps (setSide_keeps (writeRow_keeps h (subW g)) (subW g)) (subW g)) (subW g)) (showSide_keeps (setSide_keeps (writeRow_keeps h (subW g)) (subW g)) (subW g))))))

theorem setGth_keeps {x : Gth} {d d0 : Dev} {mm : Nat} (h : Kept mm d0 d) (g : Sub 0x1000000 mm) :
    Kept mm d0 (setGth x d) := by
  unfold setGth; with_reducible exact upd_gth h (subW g)

theorem putGain_keeps {node w : Nat} {d d0 : Dev} {mm : Nat} (h : Kept mm d0 d) (g : Sub 0x1000000 mm) :
    Kept mm d0 (putGain node w d) := by
  unfold putGain; with_reducible exact setGth_keeps h (subW g)

theorem applyGain_keeps {q : Nat × Nat} {d d0 : Dev} {mm : Nat} (h : Kept mm d0 d) (g : Sub 0x11000000 mm) :
    Kept mm d0 (applyGain q d) := by
  unfold applyGain; with_reducible exact recordRoute_keeps (setGth_keeps (putGain_keeps h (subW g)) (subW g)) (subW g)

theorem setBq_keeps {o b : Nat} {r : BqRun} {d d0 : Dev} {mm : Nat} (h : Kept mm d0 d) (g : Sub 0x1000000 mm) :
    Kept mm d0 (setBq o b r d) := by
  unfold setBq; with_reducible exact setGth_keeps h (subW g)

theorem setGout_keeps {o : Nat} {x : GOut} {d d0 : Dev} {mm : Nat} (h : Kept mm d0 d) (g : Sub 0x1000000 mm) :
    Kept mm d0 (setGout o x d) := by
  unfold setGout; with_reducible exact setGth_keeps h (subW g)

theorem applyOutCfg_keeps {o : Nat} {d d0 : Dev} {mm : Nat} (h : Kept mm d0 d) (g : Sub 0x11000000 mm) :
    Kept mm d0 (applyOutCfg o d) := by
  unfold applyOutCfg; with_reducible exact kept_ite h (recordRoute_keeps (forUpTo_keeps (setGout_keeps h (subW g)) (fun _ _ h1 => setBq_keeps h1 (subW g))) (subW g))

theorem inputStep_keeps {i : Nat} {d d0 : Dev} {mm : Nat} (h : Kept mm d0 d) (g : Sub 0x40001000000000000000000000000000000000000000001000000000000000000000000000000000000000000000000000000000000000000000000000000000000000000000000000000000000000000000000000000000000000000000000000000000000000000000000000004000001003041 mm) :
    Kept mm d0 (inputStep i d) := by
  unfold inputStep; with_reducible exact kept_ite (fire_keeps (wr_keeps (setGth_keeps h (subW g)) (subW g)) (subW g)) (setGth_keeps h (subW g))

theorem applyBiquads_keeps {d d0 : Dev} {mm : Nat} (h : Kept mm d0 d) (g : Sub 0x11000000 mm) :
    Kept mm d0 (applyBiquads d) := by
  unfold applyBiquads; with_reducible exact setGth_keeps (forEach_keeps h (fun _ _ h1 => recordRoute_keeps (setGth_keeps h1 (subW g)) (subW g))) (subW g)

theorem countSat_keeps {o : Nat} {d d0 : Dev} {mm : Nat} (h : Kept mm d0 d) (g : Sub 0x400010000000000000000000000000000000000000004080800000000000000000000000000000000000000000000000000000000000000000000000000000000000000000000000000000000000000000000000000000000000000000000000000000000000000000000000000040000000030c1 mm) :
    Kept mm d0 (countSat o d) := by
  unfold countSat; with_reducible exact firePerSecond_keeps (wr_keeps (count_keeps (count_keeps h (subW g) (subW g)) (subW g) (subW g)) (subW g)) (subW g)

theorem outputStep_keeps {o : Nat} {d d0 : Dev} {mm : Nat} (h : Kept mm d0 d) (g : Sub 0x400010000000000000000000000000000000000000007880800000000000000000000000000000000000000000000000000000000000000000000000000000000000000000000000000000000000000000000000000000000000000000000000000000000000000000000000000040000010030c1 mm) :
    Kept mm d0 (outputStep o d) := by
  unfold outputStep
  dsimp only
  refine setGout_keeps (wr_keeps (wrB_keeps (wr_keeps (kept_ite (countSat_keeps ?_ (subW g)) ?_) (subW g)) (subW g) (subW g)) (subW g)) (subW g)
  all_goals
    refine forUpTo_holds (P := fun a : Dev × Int × Bool => Kept mm d0 a.1) h (fun i a ha => ?_)
    exact kept_ite_1 (setBq_keeps (kept_ite (countSat_keeps ha (subW g)) ha) (subW g)) (setBq_keeps ha (subW g))


theorem nodesStep_keeps {d d0 : Dev} {mm : Nat} (h : Kept mm d0 d) (g : Sub 0x1000000 mm) :
    Kept mm d0 (nodesStep d) := by
  unfold nodesStep; with_reducible exact setGth_keeps h (subW g)

theorem gatherCompute_keeps {d d0 : Dev} {mm : Nat} (h : Kept mm d0 d) (g : Sub 0x400010000000000000000000000000000000000000007890800000000000000000000000000000000000000000000000000000000000000000000000000000000000000000000000000000000000000000000000000000000000000000000000000000000000000000000000000040000010030c1 mm) :
    Kept mm d0 (gatherCompute d) := by
  unfold gatherCompute; with_reducible exact kept_ite h (forUpTo_keeps (forUpTo_keeps (nodesStep_keeps h (subW g)) (fun _ _ h1 => inputStep_keeps h1 (subW g))) (fun _ _ h1 => outputStep_keeps h1 (subW g)))

theorem showGainQueue_keeps {d d0 : Dev} {mm : Nat} (h : Kept mm d0 d) (g : Sub 0x6000000000000000000000000000000000000000000000000000000000000000000000000000000000000000000000000000000000000000000000000000000000000000000000000000000000000000000000000000000000000000001 mm) :
    Kept mm d0 (showGainQueue d) := by
  unfold showGainQueue; with_reducible exact kept_ite (wr_keeps (wr_keeps h (subW g)) (subW g)) (wr_keeps h (subW g))

theorem biquadWrite_keeps {o b c w : Nat} {d d0 : Dev} {mm : Nat} (h : Kept mm d0 d) (g : Sub 0x20000000000000000000000000000000000000000000000000000000000000000000000000000000000000000000000000000000000000000000000000000000000000000000000000000000000000000000000000000000000000001000001 mm) :
    Kept mm d0 (biquadWrite o b c w d) := by
  unfold biquadWrite; with_reducible exact kept_ite (wr_keeps h (subW g)) (setGth_keeps (wr_keeps h (subW g)) (subW g))

theorem loadColumn_keeps {i : Nat} {col : List (Nat × Nat)} {d d0 : Dev} {mm : Nat} (h : Kept mm d0 d) (g : Sub 0x1000000 mm) :
    Kept mm d0 (loadColumn i col d) := by
  unfold loadColumn; with_reducible exact forEach_keeps (setGth_keeps h (subW g)) (fun _ _ h1 => putGain_keeps h1 (subW g))

theorem mixPresence_keeps {d d0 : Dev} {mm : Nat} (h : Kept mm d0 d) (g : Sub 0x40001000000000000000000000000000000000000000000000000000000000000000000000000000000000000000200000000000000000000000000000000000000000000000000000000000000000000000000000000810000800000000000000000000000000000000000000004000000007041 mm) :
    Kept mm d0 (mixPresence d) := by
  unfold mixPresence; with_reducible exact forEach_keeps h (fun _ _ h1 => by (try dsimp only); split; exact (kept_ite h1 (kept_ite (declareRecovery_keeps h1 (subW g)) (declareLoss_keeps h1 (subW g)))); exact h1)

theorem applyQueue_keeps {d d0 : Dev} {mm : Nat} (h : Kept mm d0 d) (g : Sub 0x6000000000000000000000000000000000000000000000000000000000000000000000000000000000000000000000000000000000000000000000000000000000000000000000000000000000000000000000000000000000011000001 mm) :
    Kept mm d0 (applyQueue d) := by
  unfold applyQueue; with_reducible exact showGainQueue_keeps (setGth_keeps (forEach_keeps h (fun _ _ h1 => applyGain_keeps h1 (subW g))) (subW g)) (subW g)

theorem gatherStops_keeps {d d0 : Dev} {mm : Nat} (h : Kept mm d0 d) (g : Sub 0x40001000000000000000000000000000000000000000006000000000000000000000000000000000000000000000200000000000000000000000000000000000000000000000000000000000000000000000000000000810000800000000000000000000000000000000000000004000011007041 mm) :
    Kept mm d0 (gatherStops d) := by
  unfold gatherStops; with_reducible exact mixPresence_keeps (setGth_keeps (applyQueue_keeps h (subW g)) (subW g)) (subW g)

theorem gatherRuns_keeps {d d0 : Dev} {mm : Nat} (h : Kept mm d0 d) (g : Sub 0x40001000000008000000004000004000000004000000000008000000000000000000000000100000000000001000200000000000000000000000000000000000000000000004000800000000000000000000000000000810000800000000200000000000000000000000000000004000111007041 mm) :
    Kept mm d0 (gatherRuns d) := by
  unfold gatherRuns; with_reducible exact mixPresence_keeps (forUpTo_keeps (setGth_keeps (setFuncState_keeps h (subW g)) (subW g)) (fun _ _ h1 => applyOutCfg_keeps (setGout_keeps h1 (subW g)) (subW g))) (subW g)

theorem gatherTick_keeps {d d0 : Dev} {mm : Nat} (h : Kept mm d0 d) (g : Sub 0x40001002000008000000084040004040000005c00000006408000000000000000000000000101000000040001000200000000000000000000000000000000000000001000004020800000000000000000000000000000810000800000000a00000000000000000000000000000004000111007041 mm) :
    Kept mm d0 (gatherTick d) := by
  unfold gatherTick; with_reducible exact kept_ite (kept_ite (kept_ite (gatherRuns_keeps h (subW g)) (setFuncState_keeps h (subW g))) (launchFunc_keeps h (fun _ h1 => h1) (fun _ h1 => gatherStops_keeps h1 (subW g)) (subW g))) (kept_ite (forUpTo_keeps (applyBiquads_keeps (kept_ite (kept_ite (kept_ite (gatherRuns_keeps h (subW g)) (setFuncState_keeps h (subW g))) (launchFunc_keeps h (fun _ h1 => h1) (fun _ h1 => gatherStops_keeps h1 (subW g)) (subW g))) (applyQueue_keeps (kept_ite (kept_ite (gatherRuns_keeps h (subW g)) (setFuncState_keeps h (subW g))) (launchFunc_keeps h (fun _ h1 => h1) (fun _ h1 => gatherStops_keeps h1 (subW g)) (subW g))) (subW g))) (subW g)) (fun _ _ h1 => applyOutCfg_keeps h1 (subW g))) (applyBiquads_keeps (kept_ite (kept_ite (kept_ite (gatherRuns_keeps h (subW g)) (setFuncState_keeps h (subW g))) (launchFunc_keeps h (fun _ h1 => h1) (fun _ h1 => gatherStops_keeps h1 (subW g)) (subW g))) (applyQueue_keeps (kept_ite (kept_ite (gatherRuns_keeps h (subW g)) (setFuncState_keeps h (subW g))) (launchFunc_keeps h (fun _ h1 => h1) (fun _ h1 => gatherStops_keeps h1 (subW g)) (subW g))) (subW g))) (subW g)))

theorem gatherDeliver_keeps {d d0 : Dev} {mm : Nat} (h : Kept mm d0 d) (g : Sub 0x300000000000000000000000000000000000000000000000000000000000000000000000000000000000000000000000000000000000000000000000000000000000000000000000000000000000000000000000000000000000000000001400001 mm) :
    Kept mm d0 (gatherDeliver d) := by
  unfold gatherDeliver; with_reducible exact kept_ite h (kept_ite (setGth_keeps (forUpTo_keeps h (fun _ _ h1 => kept_ite (setGout_keeps h1 (subW g)) (setChan_keeps (setGout_keeps h1 (subW g)) (subW g)))) (subW g)) (forUpTo_keeps h (fun _ _ h1 => kept_ite (setGout_keeps h1 (subW g)) (setChan_keeps (setGout_keeps h1 (subW g)) (subW g)))))

theorem gatherStopComplete_keeps {d d0 : Dev} {mm : Nat} (h : Kept mm d0 d) (g : Sub 0x8000000004000004000000004000000000008000000000000000000000000100000000000001000000000000000000000000000000000000000000000000004000800000000000000000000000000000000000000000000200000000000000000000000000000004000101002059 mm) :
    Kept mm d0 (gatherStopComplete d) := by
  unfold gatherStopComplete; with_reducible exact kept_ite h (setFuncState_keeps (setGth_keeps (advanceDev_keeps h (subW g)) (subW g)) (subW g))

theorem gainWrite_keeps {node w : Nat} {d d0 : Dev} {mm : Nat} (h : Kept mm d0 d) (g : Sub 0x40001000000000000000000000000000000000000000006100000000000000000000000000000000000000000000000000000000000000000000000000000000000000000000000000000000000000000000000000000000000000000000000000000000000000000000000000004000001003041 mm) :
    Kept mm d0 (gainWrite node w d) := by
  unfold gainWrite; with_reducible exact kept_ite (kept_ite (fire_keeps (wr_keeps h (subW g)) (subW g)) (showGainQueue_keeps (setGth_keeps h (subW g)) (subW g))) (putGain_keeps h (subW g))

end Sys2Proof.Machine
end

