-- ==== Sys2Proof/Laws/KeepsSeam.lean ====
section
/-! SUPPORT. Which parts of a device and which registers the functions of the Quilt, the Seam links, the MACs can change: one lemma per
function. A mask's bits are `DevPart.mask` and `fldMask`. -/

namespace Sys2Proof.Machine

set_option maxRecDepth 4000
set_option Elab.async false
set_option exponentiation.threshold 2048
set_option linter.unusedVariables false

theorem setQlt_keeps {x : Qlt} {d d0 : Dev} {mm : Nat} (h : Kept mm d0 d) (g : Sub 0x200000 mm) :
    Kept mm d0 (setQlt x d) := by
  unfold setQlt; with_reducible exact upd_qlt h (subW g)

theorem setHeadRun_keeps {h_ : Nat} {x : HeadRun} {d d0 : Dev} {mm : Nat} (h : Kept mm d0 d) (g : Sub 0x200000 mm) :
    Kept mm d0 (setHeadRun h_ x d) := by
  unfold setHeadRun; with_reducible exact setQlt_keeps h (subW g)

theorem convBoundary_keeps {h_ : Nat} {d d0 : Dev} {mm : Nat} (h : Kept mm d0 d) (g : Sub 0x40001000000000000000000000000000000000000000000000000000000000000000030000000000000000000000000000002100000000000000000000000000000000000000000000000000000000000000000000000810000800000000000000000000000000000000000000004000000217041 mm) :
    Kept mm d0 (convBoundary h_ d) := by
  unfold convBoundary; with_reducible exact kept_ite h (by (try dsimp only); split; exact (setHeadRun_keeps (setSyncRun_keeps (setSrcRun_keeps (kept_ite (kept_ite (slotLost_keeps h (subW g)) (kept_ite (count_keeps (slotLost_keeps h (subW g)) (subW g) (subW g)) (count_keeps (slotLost_keeps h (subW g)) (subW g) (subW g)))) (fire_keeps (count_keeps (wr_keeps (kept_ite (slotLost_keeps h (subW g)) (kept_ite (count_keeps (slotLost_keeps h (subW g)) (subW g) (subW g)) (count_keeps (slotLost_keeps h (subW g)) (subW g) (subW g)))) (subW g)) (subW g) (subW g)) (subW g))) (subW g)) (subW g)) (subW g)); exact (setHeadRun_keeps (setSyncRun_keeps (slotLost_keeps h (subW g)) (subW g)) (subW g)))

theorem setLayerRun_keeps {l : Nat} {x : LayerRun} {d d0 : Dev} {mm : Nat} (h : Kept mm d0 d) (g : Sub 0x200000 mm) :
    Kept mm d0 (setLayerRun l x d) := by
  unfold setLayerRun; with_reducible exact setQlt_keeps h (subW g)

theorem countTears_keeps {h_ : Nat} {d d0 : Dev} {mm : Nat} (h : Kept mm d0 d) (g : Sub 0x40001000000000000000000000000000000000000000000000001000000000000000000000040000000000000000000000000000000000000000000000000000000000000000000000000000000000000000000000000000000000000000000000000000000000000000000000004000000003041 mm) :
    Kept mm d0 (countTears h_ d) := by
  unfold countTears; with_reducible exact forEach_keeps h (fun _ _ h1 => kept_ite h1 (forEach_keeps h1 (fun _ _ h2 => kept_ite (fire_keeps (wr_keeps (count_keeps h2 (subW g) (subW g)) (subW g)) (subW g)) h2)))

theorem headFrameEnds_keeps {h_ : Nat} {d d0 : Dev} {mm : Nat} (h : Kept mm d0 d) (g : Sub 0x40001000000000000000000000000000000000000000000000000000000000000000000000000000000000000001700000002100000000000000000000000000000000000000000000000000000000000000000000000000000000000000000000000000000000000000000000004000000217041 mm) :
    Kept mm d0 (headFrameEnds h_ d) := by
  unfold headFrameEnds; with_reducible exact by (try dsimp only); split; exact (setHeadRun_keeps (endSourceFrame_keeps (forEach_keeps (forEach_keeps h (fun _ _ h1 => addLine_keeps h1 (subW g))) (fun _ _ h1 => by (try dsimp only); split; exact (kept_ite h1 (setSurf_keeps h1 (subW g))); exact h1)) (subW g)) (subW g)); exact (setHeadRun_keeps h (subW g))

theorem layerDone_keeps {l code : Nat} {d d0 : Dev} {mm : Nat} (h : Kept mm d0 d) (g : Sub 0x180000000000000000000000000000000000000000000000000000000000000000000000000000000000000000000000000000000000000000000000000000000000000000000000000000000000000000000004000000202041 mm) :
    Kept mm d0 (layerDone l code d) := by
  unfold layerDone; with_reducible exact raiseIrq_keeps (setLayerRun_keeps (wr_keeps (wr_keeps h (subW g)) (subW g)) (subW g)) (subW g)

theorem layerRefused_keeps {l code : Nat} {d d0 : Dev} {mm : Nat} (h : Kept mm d0 d) (g : Sub 0x40001000000000000000000000000000000000000000000000000180000000000000000000008000000000000000000000000000000000000000000000000000000000000000000000000000000000000000000000000000000000000000000000000000000000000000000000004000000203041 mm) :
    Kept mm d0 (layerRefused l code d) := by
  unfold layerRefused; with_reducible exact fire_keeps (wr_keeps (layerDone_keeps h (subW g)) (subW g)) (subW g)

theorem latchMeters_keeps {h_ t : Nat} {d d0 : Dev} {mm : Nat} (h : Kept mm d0 d) (g : Sub 0x200000 mm) :
    Kept mm d0 (latchMeters h_ t d) := by
  unfold latchMeters; with_reducible exact forEach_keeps h (fun _ _ h1 => forUpTo_keeps h1 (fun _ _ h2 => setQlt_keeps h2 (subW g)))

theorem recordBank_keeps {prog : Bool} {k : Nat} {d d0 : Dev} {mm : Nat} (h : Kept mm d0 d) (g : Sub 0x10000000 mm) :
    Kept mm d0 (recordBank prog k d) := by
  unfold recordBank; with_reducible exact recordRoute_keeps h (subW g)

theorem showLayer_keeps {l : Nat} {d d0 : Dev} {mm : Nat} (h : Kept mm d0 d) (g : Sub 0x40001000000000000000000000000000000000000000000000000600000000000000000000006000000000000000000000000000000000000000000000000000000000000000000000000000000000000000000000000000000000000000000000000000000000000000000000004000000003041 mm) :
    Kept mm d0 (showLayer l d) := by
  unfold showLayer; with_reducible exact kept_ite (fire_keeps (wr_keeps (kept_ite (wr_keeps (wr_keeps (wrB_keeps h (subW g) (subW g)) (subW g)) (subW g)) (wr_keeps (wrB_keeps h (subW g) (subW g)) (subW g))) (subW g)) (subW g)) (kept_ite (wr_keeps (wr_keeps (wrB_keeps h (subW g) (subW g)) (subW g)) (subW g)) (wr_keeps (wrB_keeps h (subW g) (subW g)) (subW g)))

theorem landCommit_keeps {l : Nat} {d d0 : Dev} {mm : Nat} (h : Kept mm d0 d) (g : Sub 0x400010000000000000000000000000000000000000000000000007fffffffa000000000000006000000000000000000000000000000000000000000000000000000000000000000000000000000000000000000000000000000000000000000000000000000000000000000000004000010203041 mm) :
    Kept mm d0 (landCommit l d) := by
  unfold landCommit; with_reducible exact layerDone_keeps (recordRoute_keeps (showLayer_keeps (recordBank_keeps (recordBank_keeps (setLayerRun_keeps (forUpTo_keeps (forEach_mem_keeps h (fun _ m1 _ h1 => wr_keeps h1 (subL2 g m1))) (fun _ _ h1 => wr_keeps (wr_keeps h1 (subW g)) (subW g))) (subW g)) (subW g)) (subW g)) (subW g)) (subW g)) (subW g)

theorem composeHead_keeps {h_ : Nat} {d d0 : Dev} {mm : Nat} (h : Kept mm d0 d) (g : Sub 0x20 mm) :
    Kept mm d0 (composeHead h_ d).2 := by
  unfold composeHead; with_reducible exact upd_freeCtr (takeFree_keeps h (subW g)) (subW g)

theorem layerCommit_keeps {l : Nat} {d d0 : Dev} {mm : Nat} (h : Kept mm d0 d) (g : Sub 0x40001000000000000000000000000000000000000000000000000180000000000000000000010800000000000000000000000000000000000000000000000000000000000000000000000000000000000000000000000000000000000000000000000000000000000000000000004000000203041 mm) :
    Kept mm d0 (layerCommit l d) := by
  unfold layerCommit; with_reducible exact kept_ite (wr_keeps h (subW g)) (kept_ite (fire_keeps (wr_keeps h (subW g)) (subW g)) (kept_ite (layerDone_keeps h (subW g)) (kept_ite (setLayerRun_keeps (wr_keeps (wr_keeps h (subW g)) (subW g)) (subW g)) (setLayerRun_keeps (wr_keeps (wr_keeps h (subW g)) (subW g)) (subW g)))))

theorem headCompose_keeps {h_ : Nat} {d d0 : Dev} {mm : Nat} (h : Kept mm d0 d) (g : Sub 0x40001000000000000000000000000000000000000000000000001000000000000000000000040000000000000000000000000000000000000000000000000000000000000000000000000000000000000000000000000000000000000000000000000000000000000000000000004000000203061 mm) :
    Kept mm d0 (headCompose h_ d) := by
  unfold headCompose; with_reducible exact kept_ite h (setHeadRun_keeps (composeHead_keeps (kept_ite h (countTears_keeps h (subW g))) (subW g)) (subW g))

theorem commitLanding_keeps {l : Nat} {d d0 : Dev} {mm : Nat} (h : Kept mm d0 d) (g : Sub 0x400010000000000000000000000000000000000000000000000017fffffffa000000000000046000000000000000000000000000000000000000000000000000000000000000000000000000000000000000000000000000000000000000000000000000000000000000000000004000010203079 mm) :
    Kept mm d0 (commitLanding l d) := by
  unfold commitLanding; with_reducible exact kept_ite h (by (try dsimp only); split; exact (kept_ite (layerDone_keeps h (subW g)) (landCommit_keeps (advanceTo_keeps h (subW g)) (subW g))); exact (kept_ite (layerDone_keeps (advanceTo_keeps h (subW g)) (subW g)) (kept_ite (advanceTo_keeps h (subW g)) (landCommit_keeps (kept_ite (headCompose_keeps (advanceTo_keeps h (subW g)) (subW g)) (advanceTo_keeps h (subW g))) (subW g)))))

theorem headStops_keeps {h_ : Nat} {d d0 : Dev} {mm : Nat} (h : Kept mm d0 d) (g : Sub 0x40001000000008000000004000004000000004000000000008000000000000000000000000100000000000001000200000000000000000000000000000000000000000000004000800000000000000000000000000000810000800000000200000000000000000000000000000004000100207041 mm) :
    Kept mm d0 (headStops h_ d) := by
  unfold headStops; with_reducible exact by (try dsimp only); split; exact (declareLoss_keeps (forEach_keeps h (fun _ _ h1 => setFuncState_keeps (setFuncState_keeps (setHeadRun_keeps h1 (subW g)) (subW g)) (subW g))) (subW g)); exact (forEach_keeps h (fun _ _ h1 => setFuncState_keeps (setFuncState_keeps (setHeadRun_keeps h1 (subW g)) (subW g)) (subW g)))

theorem headLaunch_keeps {h_ : Nat} {boundary : Bool} {d d0 : Dev} {mm : Nat} (h : Kept mm d0 d) (g : Sub 0x40001002000008000000084040004040000005c00000000408000000000000000000000000301000000040001000200000000000000000000000000000000000000001000004020800000000000000000000000000000810000800000000a00000000000000000000000000000004000100207041 mm) :
    Kept mm d0 (headLaunch h_ boundary d) := by
  unfold headLaunch; with_reducible exact kept_ite h (kept_ite (kept_ite h (kept_ite (forEach_keeps h (fun _ _ h1 => setFuncState_keeps (wr_keeps h1 (subW g)) (subW g))) (startFails_keeps h (subW g)))) (kept_ite (headStops_keeps h (subW g)) (kept_ite (setFuncState_keeps h (subW g)) h)))

theorem inUseWrite_keeps {d d0 : Dev} {mm : Nat} (h : Kept mm d0 d) (g : Sub 0x40001000000000000000000000000000000000000000000000000000000000000000000000020000000000000000000000000000000000000000000000000000000000000000000000000000000000000000000000000000000000000000000000000000000000000000000000004000000003041 mm) :
    Kept mm d0 (inUseWrite d) := by
  unfold inUseWrite; with_reducible exact fire_keeps (wr_keeps h (subW g)) (subW g)

theorem metersTick_keeps {d d0 : Dev} {mm : Nat} (h : Kept mm d0 d) (g : Sub 0x600000 mm) :
    Kept mm d0 (metersTick d) := by
  unfold metersTick; with_reducible exact upd_aud (forEach_keeps h (fun _ _ h1 => forEach_keeps h1 (fun _ _ h2 => forUpTo_keeps h2 (fun _ _ h3 => setQlt_keeps h3 (subW g))))) (subW g)

theorem headBoundary_keeps {h_ t : Nat} {d d0 : Dev} {mm : Nat} (h : Kept mm d0 d) (g : Sub 0x40001000000000000000000000000000000000000000000000001800000000000000030000040000000000000000680000002100000000000000000000000000000000000000000000000000000000000000000000000810000800000000000000000000000000000000000000004000000217061 mm) :
    Kept mm d0 (headBoundary h_ t d) := by
  unfold headBoundary; with_reducible exact kept_ite h (latchMeters_keeps (by (try dsimp only); split; exact (beginSourceFrame_keeps (convBoundary_keeps (kept_ite (forEach_keeps (forEach_keeps (setHeadRun_keeps (headCompose_keeps h (subW g)) (subW g)) (fun _ _ h1 => kept_ite h1 (setHeadRun_keeps h1 (subW g)))) (fun _ _ h1 => wrB_keeps h1 (subW g) (subW g))) (forEach_keeps (setHeadRun_keeps (headCompose_keeps h (subW g)) (subW g)) (fun _ _ h1 => kept_ite h1 (setHeadRun_keeps h1 (subW g))))) (subW g)) (subW g)); exact (convBoundary_keeps (kept_ite (forEach_keeps (forEach_keeps (setHeadRun_keeps (headCompose_keeps h (subW g)) (subW g)) (fun _ _ h1 => kept_ite h1 (setHeadRun_keeps h1 (subW g)))) (fun _ _ h1 => wrB_keeps h1 (subW g) (subW g))) (forEach_keeps (setHeadRun_keeps (headCompose_keeps h (subW g)) (subW g)) (fun _ _ h1 => kept_ite h1 (setHeadRun_keeps h1 (subW g))))) (subW g))) (subW g))

theorem headRuns_keeps {h_ t : Nat} {d d0 : Dev} {mm : Nat} (h : Kept mm d0 d) (g : Sub 0x40001000000008000000004000004000000004000000000008001800000000000000030000140000000000001000680000002100000000000000000000000000000000000004000800000000000000000000000000000810000800000000200000000000000000000000000000004000100217061 mm) :
    Kept mm d0 (headRuns h_ t d) := by
  unfold headRuns; with_reducible exact kept_ite h (headBoundary_keeps (by (try dsimp only); split; exact (kept_ite (declareRecovery_keeps (setHeadRun_keeps (forEach_keeps h (fun _ _ h1 => setFuncState_keeps h1 (subW g))) (subW g)) (subW g)) (setHeadRun_keeps (forEach_keeps h (fun _ _ h1 => setFuncState_keeps h1 (subW g))) (subW g))); exact (setHeadRun_keeps (forEach_keeps h (fun _ _ h1 => setFuncState_keeps h1 (subW g))) (subW g))) (subW g))

theorem quiltFrame_keeps {n t : Nat} {d d0 : Dev} {mm : Nat} (h : Kept mm d0 d) (g : Sub 0x40001002000008000000084040004040000005c00000000408001800000000000000030000341000000040001001780000002100000000000000000000000000000001000004020800000000000000000000000000000810000800000000a00000000000000000000000000000004000100217061 mm) :
    Kept mm d0 (quiltFrame n t d) := by
  unfold quiltFrame; with_reducible exact forEach_keeps (forEach_keeps (forEach_keeps (forEach_keeps h (fun _ _ h1 => kept_ite (headFrameEnds_keeps h1 (subW g)) h1)) (fun _ _ h1 => headLaunch_keeps h1 (subW g))) (fun _ _ h1 => kept_ite (headBoundary_keeps h1 (subW g)) h1)) (fun _ _ h1 => headRuns_keeps h1 (subW g))

theorem setSeaLink_keeps {n : Nat} {x : SeaLink} {d d0 : Dev} {mm : Nat} (h : Kept mm d0 d) (g : Sub 0x2000000 mm) :
    Kept mm d0 (setSeaLink n x d) := by
  unfold setSeaLink; with_reducible exact upd_sea h (subW g)

theorem seamRecord_keeps {n : Nat} {d d0 : Dev} {mm : Nat} (h : Kept mm d0 d) (g : Sub 0x102000000 mm) :
    Kept mm d0 (seamRecord n d) := by
  unfold seamRecord; with_reducible exact kept_ite h (raiseHealth_keeps (setSeaLink_keeps h (subW g)) (subW g))

theorem applyTrainReq_keeps {l : Nat} {q : TrainReq} {d d0 : Dev} {mm : Nat} (h : Kept mm d0 d) (g : Sub 0xf800000000000000000000000000000000000000000000000000000000000000000000000000000000001 mm) :
    Kept mm d0 (applyTrainReq l q d).2 := by
  have hs : ∀ (t : List Int) (d : Dev), Kept mm d0 d → Kept mm d0 (wrS LNS_TX_TAP_ACT_c_m3 [l] (t.getD 0 0) (wrS LNS_TX_TAP_ACT_c_m2 [l] (t.getD 1 0)
      (wrS LNS_TX_TAP_ACT_c_m1 [l] (t.getD 2 0) (wr LNS_TX_TAP_ACT_c0 [l] (t.getD 3 0).toNat (wrS LNS_TX_TAP_ACT_c_p1 [l] (t.getD 4 0) d))))) :=
    fun t d h => wrS_keeps (wrS_keeps (wrS_keeps (wr_keeps (wrS_keeps h (subW g) (subW g)) (subW g)) (subW g) (subW g)) (subW g) (subW g)) (subW g) (subW g)
  unfold applyTrainReq
  refine kept_ite_2 (hs _ _ h) ?_
  refine forUpTo_holds (P := fun a : List Nat × Dev => Kept mm d0 a.2) h (fun i a ha => ?_)
  dsimp only
  exact kept_ite_2 ha (kept_ite_2 (hs _ _ ha) ha)


theorem setSeaLane_keeps {n i : Nat} {x : SeaLane} {d d0 : Dev} {mm : Nat} (h : Kept mm d0 d) (g : Sub 0x2000000 mm) :
    Kept mm d0 (setSeaLane n i x d) := by
  unfold setSeaLane; with_reducible exact setSeaLink_keeps h (subW g)

theorem trainingFrame_keeps {n i : Nat} {f : TrainRx} {d d0 : Dev} {mm : Nat} (h : Kept mm d0 d) (g : Sub 0xf800080000000000000000000000000000000000000000000000000000000000000000000000002000001 mm) :
    Kept mm d0 (trainingFrame n i f d) := by
  unfold trainingFrame; with_reducible exact kept_ite h (kept_ite (wr_keeps (setSeaLane_keeps (setSeaLane_keeps (by (try dsimp only); split; exact h; exact (kept_ite_2 h (applyTrainReq_keeps h (subW g)))) (subW g)) (subW g)) (subW g)) (setSeaLane_keeps (by (try dsimp only); split; exact h; exact (kept_ite_2 h (applyTrainReq_keeps h (subW g)))) (subW g)))

theorem loseStreams_keeps {n : Nat} {d d0 : Dev} {mm : Nat} (h : Kept mm d0 d) (g : Sub 0x40001000000000000000000000000000000000000000000000000000000000000000000000000000000000000000200000000000000000000000000000000000000000000000000000000000000000000000000000000810000800000000000000000000000000000000000000004000002007041 mm) :
    Kept mm d0 (loseStreams n d) := by
  unfold loseStreams; with_reducible exact forEach_keeps (setSeaLink_keeps h (subW g)) (fun _ _ h1 => declareLoss_keeps h1 (subW g))

theorem chooseUpstream_keeps {d d0 : Dev} {mm : Nat} (h : Kept mm d0 d) (g : Sub 0x1000001c0000000000000000000000000000000000000000000000000000000000000000000000000000000000000000000000000000000000000000000000000000000000000000000000000000000000000000000000000000000000000000000000000000000000000000000001 mm) :
    Kept mm d0 (chooseUpstream d) := by
  unfold chooseUpstream; with_reducible exact by (try dsimp only); split; exact (wr_keeps (wr_keeps (wr_keeps (forUpTo_keeps h (fun _ _ h1 => kept_ite (wrB_keeps h1 (subW g) (subW g)) h1)) (subW g)) (subW g)) (subW g)); exact (wr_keeps (wr_keeps (forUpTo_keeps h (fun _ _ h1 => kept_ite (wrB_keeps h1 (subW g) (subW g)) h1)) (subW g)) (subW g))

theorem evalLink_keeps {n : Nat} {d d0 : Dev} {mm : Nat} (h : Kept mm d0 d) (g : Sub 0x400010000803b00001c0800000000000000000000000000000000000000000000000000000000000000000000000200000000000000000000000000000000000000000000000000000000000000000000000000000000810000800000000000000000000000000000000000000004000002007041 mm) :
    Kept mm d0 (evalLink n d) := by
  unfold evalLink; with_reducible exact chooseUpstream_keeps (kept_ite (kept_ite (fire_keeps (wr_keeps (fire_keeps (wr_keeps (wr_keeps (kept_ite (wr_keeps (kept_ite (loseStreams_keeps (wr_keeps (wrB_keeps h (subW g) (subW g)) (subW g)) (subW g)) (wr_keeps (wrB_keeps h (subW g) (subW g)) (subW g))) (subW g)) (wr_keeps (wrB_keeps h (subW g) (subW g)) (subW g))) (subW g)) (subW g)) (subW g)) (subW g)) (subW g)) (fire_keeps (wr_keeps (wr_keeps (kept_ite (wr_keeps (kept_ite (loseStreams_keeps (wr_keeps (wrB_keeps h (subW g) (subW g)) (subW g)) (subW g)) (wr_keeps (wrB_keeps h (subW g) (subW g)) (subW g))) (subW g)) (wr_keeps (wrB_keeps h (subW g) (subW g)) (subW g))) (subW g)) (subW g)) (subW g))) (kept_ite (wr_keeps (kept_ite (loseStreams_keeps (wr_keeps (wrB_keeps h (subW g) (subW g)) (subW g)) (subW g)) (wr_keeps (wrB_keeps h (subW g) (subW g)) (subW g))) (subW g)) (wr_keeps (wrB_keeps h (subW g) (subW g)) (subW g)))) (subW g)

theorem loseForwarded_keeps {d d0 : Dev} {mm : Nat} (h : Kept mm d0 d) (g : Sub 0x4000100000000000000000000000000000000000000000000000000000000000000000000000000000000000000000000000000000000000000000000000000000000000000000000000000000000000000000000000000000000019a000000000000000000000000000000000004000000003041 mm) :
    Kept mm d0 (loseForwarded d) := by
  unfold loseForwarded; with_reducible exact forUpTo_keeps h (fun _ _ h1 => kept_ite (notExecuted_keeps h1 (subW g)) h1)

theorem followMaster_keeps {m : Nat} {d d0 : Dev} {mm : Nat} (h : Kept mm d0 d) (g : Sub 0x400010000001000003e020000000000000000000000000000000000000000000000000000000000000000000000000000000000000000000000000000000000000000000000000000000000000000000000000000000000000000019a000000000000000000000000000000000004000000003041 mm) :
    Kept mm d0 (followMaster m d) := by
  unfold followMaster; with_reducible exact kept_ite h (chooseUpstream_keeps (loseForwarded_keeps (wr_keeps (wrB_keeps (wr_keeps h (subW g)) (subW g) (subW g)) (subW g)) (subW g)) (subW g))

theorem masterSeen_keeps {n : Nat} {c : SeamCtl} {d d0 : Dev} {mm : Nat} (h : Kept mm d0 d) (g : Sub 0x400010000001000003e060000000000000000000000000000000000000000000000000000000000000000000000000000000000000000000000000000000000000000000000000000000000000000000000000000000000000000019a000000000000000000000000000000000004000002003041 mm) :
    Kept mm d0 (masterSeen n c d) := by
  unfold masterSeen; with_reducible exact kept_ite (setSeaLink_keeps h (subW g)) (kept_ite (kept_ite (upd_sea (setSeaLink_keeps h (subW g)) (subW g)) (setSeaLink_keeps h (subW g))) (kept_ite (followMaster_keeps (setSeaLink_keeps h (subW g)) (subW g)) (kept_ite (kept_ite (followMaster_keeps (fire_keeps (wr_keeps (setSeaLink_keeps h (subW g)) (subW g)) (subW g)) (subW g)) (fire_keeps (wr_keeps (setSeaLink_keeps h (subW g)) (subW g)) (subW g))) (setSeaLink_keeps h (subW g)))))

theorem timeSample_keeps {n i : Nat} {c : SeamCtl} {arrival : Nat} {d d0 : Dev} {mm : Nat} (h : Kept mm d0 d) (g : Sub 0x400000000000000000000000000000000000000000000000000000000000000000000000000000000000000000000000000000000000000000000000000000000000000000000000000000000000000000000000000000000000000000000000000000000000000000000002000001 mm) :
    Kept mm d0 (timeSample n i c arrival d) := by
  unfold timeSample; with_reducible exact wr_keeps (setSeaLane_keeps h (subW g)) (subW g)

theorem flushLine_keeps {n slot : Nat} {d d0 : Dev} {mm : Nat} (h : Kept mm d0 d) (g : Sub 0x1700000000000000000000000000000000000000000000000000000000000000000000000000000000000000000000000000000000000000000000000000000000000002014001 mm) :
    Kept mm d0 (flushLine n slot d) := by
  unfold flushLine; with_reducible exact kept_ite h (addLine_keeps (setSeaLink_keeps h (subW g)) (subW g))

theorem receiveSeg_keeps {n : Nat} {s : SeamSeg} {d d0 : Dev} {mm : Nat} (h : Kept mm d0 d) (g : Sub 0x40001000000000000000000000000000000000000000000000000000000000000000000000000000000000000001780000002100000000000000000000000000000000000000000000000000000000000000000000000810000800000000000000000000000000000000000000004000002017041 mm) :
    Kept mm d0 (receiveSeg n s d) := by
  unfold receiveSeg; with_reducible exact by (try dsimp only); split; exact h; exact (kept_ite (kept_ite h (declareLoss_keeps (setSeaLink_keeps h (subW g)) (subW g))) (kept_ite (kept_ite (setSeaLink_keeps (kept_ite (declareRecovery_keeps (setSeaLink_keeps h (subW g)) (subW g)) h) (subW g)) (setSeaLink_keeps (kept_ite (beginSourceFrame_keeps (endSourceFrame_keeps (flushLine_keeps (kept_ite (declareRecovery_keeps (setSeaLink_keeps h (subW g)) (subW g)) h) (subW g)) (subW g)) (subW g)) (flushLine_keeps (kept_ite (declareRecovery_keeps (setSeaLink_keeps h (subW g)) (subW g)) h) (subW g))) (subW g))) (kept_ite (setSrcRun_keeps (kept_ite (declareRecovery_keeps (setSeaLink_keeps h (subW g)) (subW g)) h) (subW g)) (kept_ite (setSeaLink_keeps (kept_ite (declareRecovery_keeps (setSeaLink_keeps h (subW g)) (subW g)) h) (subW g)) (kept_ite (declareRecovery_keeps (setSeaLink_keeps h (subW g)) (subW g)) h)))))

theorem seamFrame_keeps {n i : Nat} {f : SeamRx} {d d0 : Dev} {mm : Nat} (h : Kept mm d0 d) (g : Sub 0x4000101c7fe7b00003e0e0000000000000000000000000000000000000000000000000000000000000000000000178000000210000000000000000000000000000000000000000000000000000000000000000000000081000080019a0000000000000000000000000000000000040000020170c1 mm) :
    Kept mm d0 (seamFrame n i f d) := by
  unfold seamFrame; with_reducible exact kept_ite h (by (try dsimp only); split; exact (kept_ite (count_keeps h (subW g) (subW g)) (firePerSecond_keeps (count_keeps (wr_keeps (count_keeps h (subW g) (subW g)) (subW g)) (subW g) (subW g)) (subW g))); exact (kept_ite (kept_ite (count_keeps h (subW g) (subW g)) (firePerSecond_keeps (count_keeps (wr_keeps (count_keeps h (subW g) (subW g)) (subW g)) (subW g) (subW g)) (subW g))) (kept_ite (kept_ite (evalLink_keeps (setSeaLane_keeps (kept_ite (count_keeps h (subW g) (subW g)) (firePerSecond_keeps (count_keeps (wr_keeps (count_keeps h (subW g) (subW g)) (subW g)) (subW g) (subW g)) (subW g))) (subW g)) (subW g)) (fire_keeps (wr_keeps (evalLink_keeps (setSeaLane_keeps (kept_ite (count_keeps h (subW g) (subW g)) (firePerSecond_keeps (count_keeps (wr_keeps (count_keeps h (subW g) (subW g)) (subW g)) (subW g) (subW g)) (subW g))) (subW g)) (subW g)) (subW g)) (subW g))) (kept_ite (forEach_keeps (evalLink_keeps (wrB_keeps (kept_ite (timeSample_keeps (masterSeen_keeps (wr_keeps (wr_keeps (wr_keeps (wr_keeps (wrB_keeps (forUpTo_keeps (setSeaLink_keeps (kept_ite (fire_keeps (count_keeps (wr_keeps (setSeaLane_keeps (kept_ite (fire_keeps (wr_keeps (kept_ite (count_keeps h (subW g) (subW g)) (firePerSecond_keeps (count_keeps (wr_keeps (count_keeps h (subW g) (subW g)) (subW g)) (subW g) (subW g)) (subW g))) (subW g)) (subW g)) (kept_ite (count_keeps h (subW g) (subW g)) (firePerSecond_keeps (count_keeps (wr_keeps (count_keeps h (subW g) (subW g)) (subW g)) (subW g) (subW g)) (subW g)))) (subW g)) (subW g)) (subW g) (subW g)) (subW g)) (setSeaLane_keeps (kept_ite (fire_keeps (wr_keeps (kept_ite (count_keeps h (subW g) (subW g)) (firePerSecond_keeps (count_keeps (wr_keeps (count_keeps h (subW g) (subW g)) (subW g)) (subW g) (subW g)) (subW g))) (subW g)) (subW g)) (kept_ite (count_keeps h (subW g) (subW g)) (firePerSecond_keeps (count_keeps (wr_keeps (count_keeps h (subW g) (subW g)) (subW g)) (subW g) (subW g)) (subW g)))) (subW g))) (subW g)) (fun _ _ h1 => kept_ite (setSeaLane_keeps h1 (subW g)) h1)) (subW g) (subW g)) (subW g)) (subW g)) (subW g)) (subW g)) (subW g)) (subW g)) (masterSeen_keeps (wr_keeps (wr_keeps (wr_keeps (wr_keeps (wrB_keeps (forUpTo_keeps (setSeaLink_keeps (kept_ite (fire_keeps (count_keeps (wr_keeps (setSeaLane_keeps (kept_ite (fire_keeps (wr_keeps (kept_ite (count_keeps h (subW g) (subW g)) (firePerSecond_keeps (count_keeps (wr_keeps (count_keeps h (subW g) (subW g)) (subW g)) (subW g) (subW g)) (subW g))) (subW g)) (subW g)) (kept_ite (count_keeps h (subW g) (subW g)) (firePerSecond_keeps (count_keeps (wr_keeps (count_keeps h (subW g) (subW g)) (subW g)) (subW g) (subW g)) (subW g)))) (subW g)) (subW g)) (subW g) (subW g)) (subW g)) (setSeaLane_keeps (kept_ite (fire_keeps (wr_keeps (kept_ite (count_keeps h (subW g) (subW g)) (firePerSecond_keeps (count_keeps (wr_keeps (count_keeps h (subW g) (subW g)) (subW g)) (subW g) (subW g)) (subW g))) (subW g)) (subW g)) (kept_ite (count_keeps h (subW g) (subW g)) (firePerSecond_keeps (count_keeps (wr_keeps (count_keeps h (subW g) (subW g)) (subW g)) (subW g) (subW g)) (subW g)))) (subW g))) (subW g)) (fun _ _ h1 => kept_ite (setSeaLane_keeps h1 (subW g)) h1)) (subW g) (subW g)) (subW g)) (subW g)) (subW g)) (subW g)) (subW g))) (subW g) (subW g)) (subW g)) (fun _ _ h1 => receiveSeg_keeps h1 (subW g))) (evalLink_keeps (wrB_keeps (kept_ite (timeSample_keeps (masterSeen_keeps (wr_keeps (wr_keeps (wr_keeps (wr_keeps (wrB_keeps (forUpTo_keeps (setSeaLink_keeps (kept_ite (fire_keeps (count_keeps (wr_keeps (setSeaLane_keeps (kept_ite (fire_keeps (wr_keeps (kept_ite (count_keeps h (subW g) (subW g)) (firePerSecond_keeps (count_keeps (wr_keeps (count_keeps h (subW g) (subW g)) (subW g)) (subW g) (subW g)) (subW g))) (subW g)) (subW g)) (kept_ite (count_keeps h (subW g) (subW g)) (firePerSecond_keeps (count_keeps (wr_keeps (count_keeps h (subW g) (subW g)) (subW g)) (subW g) (subW g)) (subW g)))) (subW g)) (subW g)) (subW g) (subW g)) (subW g)) (setSeaLane_keeps (kept_ite (fire_keeps (wr_keeps (kept_ite (count_keeps h (subW g) (subW g)) (firePerSecond_keeps (count_keeps (wr_keeps (count_keeps h (subW g) (subW g)) (subW g)) (subW g) (subW g)) (subW g))) (subW g)) (subW g)) (kept_ite (count_keeps h (subW g) (subW g)) (firePerSecond_keeps (count_keeps (wr_keeps (count_keeps h (subW g) (subW g)) (subW g)) (subW g) (subW g)) (subW g)))) (subW g))) (subW g)) (fun _ _ h1 => kept_ite (setSeaLane_keeps h1 (subW g)) h1)) (subW g) (subW g)) (subW g)) (subW g)) (subW g)) (subW g)) (subW g)) (subW g)) (masterSeen_keeps (wr_keeps (wr_keeps (wr_keeps (wr_keeps (wrB_keeps (forUpTo_keeps (setSeaLink_keeps (kept_ite (fire_keeps (count_keeps (wr_keeps (setSeaLane_keeps (kept_ite (fire_keeps (wr_keeps (kept_ite (count_keeps h (subW g) (subW g)) (firePerSecond_keeps (count_keeps (wr_keeps (count_keeps h (subW g) (subW g)) (subW g)) (subW g) (subW g)) (subW g))) (subW g)) (subW g)) (kept_ite (count_keeps h (subW g) (subW g)) (firePerSecond_keeps (count_keeps (wr_keeps (count_keeps h (subW g) (subW g)) (subW g)) (subW g) (subW g)) (subW g)))) (subW g)) (subW g)) (subW g) (subW g)) (subW g)) (setSeaLane_keeps (kept_ite (fire_keeps (wr_keeps (kept_ite (count_keeps h (subW g) (subW g)) (firePerSecond_keeps (count_keeps (wr_keeps (count_keeps h (subW g) (subW g)) (subW g)) (subW g) (subW g)) (subW g))) (subW g)) (subW g)) (kept_ite (count_keeps h (subW g) (subW g)) (firePerSecond_keeps (count_keeps (wr_keeps (count_keeps h (subW g) (subW g)) (subW g)) (subW g) (subW g)) (subW g)))) (subW g))) (subW g)) (fun _ _ h1 => kept_ite (setSeaLane_keeps h1 (subW g)) h1)) (subW g) (subW g)) (subW g)) (subW g)) (subW g)) (subW g)) (subW g))) (subW g) (subW g)) (subW g))))))

theorem seamLaneLoss_keeps {n i : Nat} {d d0 : Dev} {mm : Nat} (h : Kept mm d0 d) (g : Sub 0x400010100c03b00001c0800000000000000000000000000000000000000000000000000000000000000000000000200000000000000000000000000000000000000000000000000000000000000000000000000000000810000800000000000000000000000000000000000000004000002007041 mm) :
    Kept mm d0 (seamLaneLoss n i d) := by
  unfold seamLaneLoss; with_reducible exact evalLink_keeps (kept_ite (fire_keeps (count_keeps (wr_keeps (setSeaLane_keeps h (subW g)) (subW g)) (subW g) (subW g)) (subW g)) (setSeaLane_keeps h (subW g))) (subW g)

theorem sendMsgs_keeps {n w : Nat} {d d0 : Dev} {mm : Nat} (h : Kept mm d0 d) (g : Sub 0x2000000 mm) :
    Kept mm d0 (sendMsgs n w d) := by
  unfold sendMsgs; with_reducible exact kept_ite h (setSeaLink_keeps h (subW g))

theorem seamDeliver_keeps {r : Nat} {d d0 : Dev} {mm : Nat} (h : Kept mm d0 d) (g : Sub 0x300000000000000000000000000000000000000000000000000000000000000000000000000000000000000000000000000000000000000000000000000000000000000000000000000000000000000000000000000000000000000000002410001 mm) :
    Kept mm d0 (seamDeliver r d) := by
  unfold seamDeliver; with_reducible exact forUpTo_keeps h (fun _ _ h1 => forEach_keeps h1 (fun _ _ h2 => by (try dsimp only); split; exact h2; exact (by (try dsimp only); split; exact (kept_ite h2 (kept_ite (setSeaLink_keeps h2 (subW g)) (forUpTo_keeps (setSeaLink_keeps h2 (subW g)) (fun _ _ h3 => setChan_keeps (ringPush_keeps h3 (subW g)) (subW g))))); exact h2)))

theorem timeValidExpiry_keeps {d d0 : Dev} {mm : Nat} (h : Kept mm d0 d) (g : Sub 0x2000018 mm) :
    Kept mm d0 (timeValidExpiry d) := by
  unfold timeValidExpiry; with_reducible exact kept_ite h (upd_sea (advanceDev_keeps h (subW g)) (subW g))

theorem messageResend_keeps {n : Nat} {d d0 : Dev} {mm : Nat} (h : Kept mm d0 d) (g : Sub 0x400010408803f00001c0800000000000000000000000000000000000000000000000000000000000000000000000200000000000000000000000000000000000000000000000000000000000000000000000000000000810000800000000000000000000000000000000000000004000002007059 mm) :
    Kept mm d0 (messageResend n d) := by
  unfold messageResend; with_reducible exact by (try dsimp only); split; exact h; exact (kept_ite (evalLink_keeps (wr_keeps (fire_keeps (wr_keeps (forUpTo_keeps (setSeaLink_keeps (advanceDev_keeps h (subW g)) (subW g)) (fun _ _ h1 => setSeaLane_keeps h1 (subW g))) (subW g)) (subW g)) (subW g)) (subW g)) (setSeaLink_keeps (count_keeps (advanceDev_keeps h (subW g)) (subW g) (subW g)) (subW g)))

theorem laneRejoin_keeps {n i : Nat} {d d0 : Dev} {mm : Nat} (h : Kept mm d0 d) (g : Sub 0x400010200803f00001c0800000000000000000000000000000000000000000000000000000000000000000000000200000000000000000000000000000000000000000000000000000000000000000000000000000000810000800000000000000000000000000000000000000004000102007059 mm) :
    Kept mm d0 (laneRejoin n i d) := by
  unfold laneRejoin; with_reducible exact kept_ite h (raiseHealth_keeps (evalLink_keeps (kept_ite (count_keeps (setSeaLane_keeps (wrBit_keeps (advanceTo_keeps h (subW g)) (subW g) (subW g)) (subW g)) (subW g) (subW g)) (setSeaLane_keeps (setSeaLane_keeps (wrBit_keeps (advanceTo_keeps h (subW g)) (subW g) (subW g)) (subW g)) (subW g))) (subW g)) (subW g))

theorem sendMsg_keeps {n : Nat} {b : SeaBody} {d d0 : Dev} {mm : Nat} (h : Kept mm d0 d) (g : Sub 0x2000000 mm) :
    Kept mm d0 (sendMsg n b d) := by
  unfold sendMsg; with_reducible exact kept_ite h (setSeaLink_keeps h (subW g))

theorem sendAllBut_keeps {but : Option Nat} {b : SeaBody} {d d0 : Dev} {mm : Nat} (h : Kept mm d0 d) (g : Sub 0x2000000 mm) :
    Kept mm d0 (sendAllBut but b d) := by
  unfold sendAllBut; with_reducible exact forUpTo_keeps h (fun _ _ h1 => kept_ite h1 (sendMsg_keeps h1 (subW g)))

theorem sendPayload_keeps {n w now : Nat} {d d0 : Dev} {mm : Nat} (h : Kept mm d0 d) (g : Sub 0x40001181000000000000000000000000000000000000000000000000000000000000000000000000000000000000000000000000000000000000000000000000000000000000000000000000000000000000000000000000000000000000000000000000000000000000000000004000002003041 mm) :
    Kept mm d0 (sendPayload n w now d) := by
  unfold sendPayload; with_reducible exact kept_ite (kept_ite (wr_keeps (setSeaLink_keeps h (subW g)) (subW g)) (setSeaLink_keeps h (subW g))) (fire_keeps (count_keeps (wr_keeps (kept_ite (wr_keeps (setSeaLink_keeps h (subW g)) (subW g)) (setSeaLink_keeps h (subW g))) (subW g)) (subW g) (subW g)) (subW g))

theorem seamFrameTransmit_keeps {n : Nat} {d d0 : Dev} {mm : Nat} (h : Kept mm d0 d) (g : Sub 0x400011810803f00001c0800000000000000000000000000000000000000000000000000000000000000000000000200000000000000000000000000000000000000000000000000000000000000000000000000000000810000800000000000000000000000000000000000000004000102007259 mm) :
    Kept mm d0 (seamFrameTransmit n d) := by
  unfold seamFrameTransmit; with_reducible exact kept_ite h (kept_ite (atGrid_keeps h (subW g)) (sendMsgs_keeps (kept_ite (seamRecord_keeps (kept_ite (atGrid_keeps h (subW g)) (evalLink_keeps (wr_keeps (atGrid_keeps h (subW g)) (subW g)) (subW g))) (subW g)) (sendPayload_keeps (seamRecord_keeps (kept_ite (atGrid_keeps h (subW g)) (evalLink_keeps (wr_keeps (atGrid_keeps h (subW g)) (subW g)) (subW g))) (subW g)) (subW g))) (subW g)))

theorem receiveMsg_keeps {n num : Nat} {b : SeaBody} {d d0 : Dev} {mm : Nat} (h : Kept mm d0 d) (g : Sub 0x2000000 mm) :
    Kept mm d0 (receiveMsg n num b d).2 := by
  unfold receiveMsg; with_reducible exact kept_ite_2 (setSeaLink_keeps h (subW g)) (setSeaLink_keeps h (subW g))

theorem seamStops_keeps {n : Nat} {d d0 : Dev} {mm : Nat} (h : Kept mm d0 d) (g : Sub 0x400010000803f00001c0800000000000000000000000000000000000000000000000000000000000000000000000200000000000000000000000000000000000000000000000000000000000000000000000000000000810000800000000000000000000000000000000000000004000002007041 mm) :
    Kept mm d0 (seamStops n d) := by
  unfold seamStops; with_reducible exact evalLink_keeps (wr_keeps (setSeaLink_keeps (forUpTo_keeps h (fun _ _ h1 => setSeaLane_keeps h1 (subW g))) (subW g)) (subW g)) (subW g)

theorem seamTick_keeps {n : Nat} {d d0 : Dev} {mm : Nat} (h : Kept mm d0 d) (g : Sub 0x40001002080bf80001c0884040004040000005c00000000408000000000000000000000000101000000040001000200000000000000000000000000000000000000001000004020800000000000000000000000000000810000800000000a00000000064000000000000000000004000102007861 mm) :
    Kept mm d0 (seamTick n d) := by
  unfold seamTick; with_reducible exact kept_ite (kept_ite (kept_ite (setFuncState_keeps h (subW g)) (setFuncState_keeps h (subW g))) (launchFunc_keeps h (fun _ h1 => h1) (fun _ h1 => seamStops_keeps h1 (subW g)) (subW g))) (forUpTo_keeps (by (try dsimp only); split; exact (kept_ite (measurePhase_keeps (wrS_keeps (kept_ite (kept_ite (setFuncState_keeps h (subW g)) (setFuncState_keeps h (subW g))) (launchFunc_keeps h (fun _ h1 => h1) (fun _ h1 => seamStops_keeps h1 (subW g)) (subW g))) (subW g) (subW g)) (subW g)) (wrS_keeps (kept_ite (kept_ite (setFuncState_keeps h (subW g)) (setFuncState_keeps h (subW g))) (launchFunc_keeps h (fun _ h1 => h1) (fun _ h1 => seamStops_keeps h1 (subW g)) (subW g))) (subW g) (subW g))); exact (kept_ite (kept_ite (setFuncState_keeps h (subW g)) (setFuncState_keeps h (subW g))) (launchFunc_keeps h (fun _ h1 => h1) (fun _ h1 => seamStops_keeps h1 (subW g)) (subW g)))) (fun _ _ h1 => kept_ite h1 (setSeaLane_keeps h1 (subW g))))

theorem seamAfterRuling_keeps {d d0 : Dev} {mm : Nat} (h : Kept mm d0 d) (g : Sub 0x2000000 mm) :
    Kept mm d0 (seamAfterRuling d) := by
  unfold seamAfterRuling; with_reducible exact kept_ite (upd_sea h (subW g)) h

theorem seamStopped_keeps {n : Nat} {d d0 : Dev} {mm : Nat} (h : Kept mm d0 d) (g : Sub 0x8000000004000004000000004000000000008000000000000000000000000100000000000001000000000000000000000000000000000000000000000000004000800000000000000000000000000000000000000000000200000000000000000000000000000004000100002041 mm) :
    Kept mm d0 (seamStopped n d) := by
  unfold seamStopped; with_reducible exact kept_ite (setFuncState_keeps h (subW g)) h

theorem seamIdle_keeps {d d0 : Dev} {mm : Nat} (h : Kept mm d0 d) (g : Sub 0x400010000803f00001c0800000000000000000000000000000000000000000000000000000000000000000000000200000000000000000000000000000000000000000000000000000000000000000000000000000000810000800000000000000000000000000000000000000004000002007041 mm) :
    Kept mm d0 (seamIdle d) := by
  unfold seamIdle; with_reducible exact forUpTo_keeps h (fun _ _ h1 => kept_ite (evalLink_keeps (wr_keeps h1 (subW g)) (subW g)) h1)

theorem ackMsgs_keeps {n : Nat} {nums : List Nat} {d d0 : Dev} {mm : Nat} (h : Kept mm d0 d) (g : Sub 0x2000000 mm) :
    Kept mm d0 (ackMsgs n nums d) := by
  unfold ackMsgs; with_reducible exact setSeaLink_keeps h (subW g)

theorem showQueues_keeps {m : Nat} {d d0 : Dev} {mm : Nat} (h : Kept mm d0 d) (g : Sub 0x300000300000000000000000000000000000000000000000000000000000000000000000000000000000000000000000000001 mm) :
    Kept mm d0 (showQueues m d) := by
  unfold showQueues; with_reducible exact wr_keeps (wr_keeps (kept_ite (wr_keeps (wr_keeps h (subW g)) (subW g)) (wr_keeps h (subW g))) (subW g)) (subW g)

theorem freeStamp_keeps {m : Nat} {d d0 : Dev} {mm : Nat} (h : Kept mm d0 d) (g : Sub 0x300000300000000000000000000000000000000000000000000000000000000000000000000000000000000000000000080001 mm) :
    Kept mm d0 (freeStamp m d) := by
  unfold freeStamp; with_reducible exact showQueues_keeps (setMacRun_keeps h (subW g)) (subW g)

theorem macRun'_keeps {m : Nat} {d d0 : Dev} {mm : Nat} (h : Kept mm d0 d) (g : Sub 0x8000000004000004000000004000000000008000000000000000000000000100000000000001000000000000000000000000000000000000000000000000004000800000000000000000000000000000000000000000000200000000000000000000000000000004000100002041 mm) :
    Kept mm d0 (macRun' m d) := by
  unfold macRun'; with_reducible exact kept_ite (setFuncState_keeps h (subW g)) h

theorem offerMedia_keeps {m : Nat} {f : TxFrame} {d d0 : Dev} {mm : Nat} (h : Kept mm d0 d) (g : Sub 0x40001000000000000000000000000000000000000000000000000000000000000000000000000000000000000000000000000000000000000000000000000000000300100300000000000000000000000000000000000000000000000000000000000000000000000000000000004000000083041 mm) :
    Kept mm d0 (offerMedia m f d).1 := by
  unfold offerMedia; with_reducible exact kept_ite_1 h (kept_ite_1 (showQueues_keeps (setMacRun_keeps h (subW g)) (subW g)) (kept_ite (fire_keeps (wr_keeps (setMacRun_keeps h (subW g)) (subW g)) (subW g)) (wr_keeps (setMacRun_keeps h (subW g)) (subW g))))

theorem endPause_keeps {m : Nat} {d d0 : Dev} {mm : Nat} (h : Kept mm d0 d) (g : Sub 0x10040000000000000000000000000000000000000000000000000000000000000000000000000000000000000000080001 mm) :
    Kept mm d0 (endPause m d) := by
  unfold endPause; with_reducible exact wr_keeps (wr_keeps (setMacRun_keeps h (subW g)) (subW g)) (subW g)

theorem linkGoesDown_keeps {m : Nat} {d d0 : Dev} {mm : Nat} (h : Kept mm d0 d) (g : Sub 0x40001000000000000000000000000000000000000000000000000000000000000000000000000000000000000000000000000000000000000000000000000000000380090378000000000000000000000000000000000000000000000000000000000000000000000000000000004000000083041 mm) :
    Kept mm d0 (linkGoesDown m d) := by
  unfold linkGoesDown; with_reducible exact kept_ite (kept_ite (fire_keeps (count_keeps (wr_keeps (showQueues_keeps (setMacRun_keeps (endPause_keeps (wr_keeps (wr_keeps (wr_keeps h (subW g)) (subW g)) (subW g)) (subW g)) (subW g)) (subW g)) (subW g)) (subW g) (subW g)) (subW g)) (showQueues_keeps (setMacRun_keeps (endPause_keeps (wr_keeps (wr_keeps (wr_keeps h (subW g)) (subW g)) (subW g)) (subW g)) (subW g)) (subW g))) h

theorem macStop_keeps {m : Nat} {d d0 : Dev} {mm : Nat} (h : Kept mm d0 d) (g : Sub 0x40001000000000000000000000000000000000000000000000000000000000000000000000000000000000000000000000000000000000000000000000000000000380090378000000000000000000000000000000000000000000000000000000000000000000000000000000004000000083041 mm) :
    Kept mm d0 (macStop m d) := by
  unfold macStop; with_reducible exact showQueues_keeps (setMacRun_keeps (linkGoesDown_keeps h (subW g)) (subW g)) (subW g)

theorem dropUnknown_keeps {m : Nat} {d d0 : Dev} {mm : Nat} (h : Kept mm d0 d) (g : Sub 0x20000000000000000000000000000000000000000000000000000000000000000000000000000000000000000000000000001 mm) :
    Kept mm d0 (dropUnknown m d) := by
  unfold dropUnknown; with_reducible exact count_keeps h (subW g) (subW g)

theorem pauseFrame_keeps {m quanta : Nat} {d d0 : Dev} {mm : Nat} (h : Kept mm d0 d) (g : Sub 0x40001000000000000000000000000000000000000000000000000000000000000000000000000000000000000000000000000000000000000000000000000000000010410040000000000000000000000000000000000000000000000000000000000000000000000000000000004000000083041 mm) :
    Kept mm d0 (pauseFrame m quanta d) := by
  unfold pauseFrame; with_reducible exact kept_ite (fire_keeps (count_keeps (wr_keeps h (subW g)) (subW g) (subW g)) (subW g)) (kept_ite (fire_keeps (endPause_keeps (count_keeps (wr_keeps h (subW g)) (subW g) (subW g)) (subW g)) (subW g)) (fire_keeps (setMacRun_keeps (wr_keeps (wr_keeps (count_keeps (wr_keeps h (subW g)) (subW g) (subW g)) (subW g)) (subW g)) (subW g)) (subW g)))

theorem toFirmware_keeps {m kind arrival : Nat} {d d0 : Dev} {mm : Nat} (h : Kept mm d0 d) (g : Sub 0x320000300000000000000000000000000000000000000000000000000000000000000000000000000000000000000000080001 mm) :
    Kept mm d0 (toFirmware m kind arrival d) := by
  unfold toFirmware; with_reducible exact kept_ite (showQueues_keeps (setMacRun_keeps h (subW g)) (subW g)) (dropUnknown_keeps h (subW g))

theorem offerMgmt_keeps {m : Nat} {f : TxFrame} {d d0 : Dev} {mm : Nat} (h : Kept mm d0 d) (g : Sub 0x80000 mm) :
    Kept mm d0 (offerMgmt m f d) := by
  unfold offerMgmt; with_reducible exact kept_ite (setMacRun_keeps h (subW g)) h

theorem linkComesUp_keeps {m : Nat} {d d0 : Dev} {mm : Nat} (h : Kept mm d0 d) (g : Sub 0xb8000000000000000000000000000000000000000000000000000000000000000000000000000000000000000000001 mm) :
    Kept mm d0 (linkComesUp m d) := by
  unfold linkComesUp; with_reducible exact kept_ite (wr_keeps (wr_keeps (wrB_keeps (wr_keeps h (subW g)) (subW g) (subW g)) (subW g)) (subW g)) h

theorem octMacs_keeps {o : Nat} {d d0 : Dev} {mm : Nat} (h : Kept mm d0 d) (g : Sub 0x8000000004000004000000004000000000008000000000000000000000000100000000000001000000000000000000000000000000000000000000000000004000800000000000000000000000000000000000000000000200000000000000000000000000000004000100002041 mm) :
    Kept mm d0 (octMacs o d) := by
  unfold octMacs; with_reducible exact macRun'_keeps (macRun'_keeps h (subW g)) (subW g)

theorem stampFrame_keeps {m tag instant : Nat} {d d0 : Dev} {mm : Nat} (h : Kept mm d0 d) (g : Sub 0x40001000000000000000000000000000000000000000000000000000000000000000000000000000000000000000000000000000000000000000000000000000000340200300000000000000000000000000000000000000000000000000000000000000000000000000000000004000000083041 mm) :
    Kept mm d0 (stampFrame m tag instant d) := by
  unfold stampFrame; with_reducible exact kept_ite (showQueues_keeps (setMacRun_keeps h (subW g)) (subW g)) (fire_keeps (count_keeps (wr_keeps h (subW g)) (subW g) (subW g)) (subW g))

theorem transmitFrame_keeps {m : Nat} {d d0 : Dev} {mm : Nat} (h : Kept mm d0 d) (g : Sub 0x40001000000000000000000000000000000000000000000000000000000000000000000000000000000000000000000000000000000000000000000000000000000340200300000000000000000000000000000000000000000000000000000000000000000000000000000000004000000083041 mm) :
    Kept mm d0 (transmitFrame m d).1 := by
  unfold transmitFrame; with_reducible exact kept_ite_1 h (by (try dsimp only); split; exact (by (try dsimp only); split; exact (stampFrame_keeps (setMacRun_keeps h (subW g)) (subW g)); exact (setMacRun_keeps h (subW g))); exact (showQueues_keeps (setMacRun_keeps h (subW g)) (subW g)); exact h)

theorem macLaneLoss_keeps {l : Nat} {d d0 : Dev} {mm : Nat} (h : Kept mm d0 d) (g : Sub 0x40001000000000000000000000000000000000000000000000000000000000000000000000000000000000000000000000000000000000000000000000000000000380090378000000000000000000000000000000000000000000000000000000000000000000000000000000004000000083041 mm) :
    Kept mm d0 (macLaneLoss l d) := by
  unfold macLaneLoss; with_reducible exact kept_ite (linkGoesDown_keeps h (subW g)) h

theorem pauseExpiry_keeps {m : Nat} {d d0 : Dev} {mm : Nat} (h : Kept mm d0 d) (g : Sub 0x10040000000000000000000000000000000000000000000000000000000000000000000000000000000000000000080019 mm) :
    Kept mm d0 (pauseExpiry m d) := by
  unfold pauseExpiry; with_reducible exact kept_ite (endPause_keeps (advanceDev_keeps h (subW g)) (subW g)) h

theorem pauseEnWrite_keeps {m : Nat} {en : Bool} {d d0 : Dev} {mm : Nat} (h : Kept mm d0 d) (g : Sub 0x18040000000000000000000000000000000000000000000000000000000000000000000000000000000000000000080001 mm) :
    Kept mm d0 (pauseEnWrite m en d) := by
  unfold pauseEnWrite; with_reducible exact kept_ite (wrB_keeps h (subW g) (subW g)) (endPause_keeps (wrB_keeps h (subW g) (subW g)) (subW g))

end Sys2Proof.Machine
end

