-- ==== Sys2Proof/Laws/KeepsFlows.lean ====
section
/-! SUPPORT. Which parts of a device and which registers the functions of the flows and the DRAM channels can change: one lemma per
function. A mask's bits are `DevPart.mask` and `fldMask`. -/

namespace Sys2Proof.Machine

set_option maxRecDepth 4000
set_option Elab.async false
set_option exponentiation.threshold 2048
set_option linter.unusedVariables false

theorem setRxRun_keeps {e : Nat} {r : RxRun} {d d0 : Dev} {mm : Nat} (h : Kept mm d0 d) (g : Sub 0x40000 mm) :
    Kept mm d0 (setRxRun e r d) := by
  unfold setRxRun; with_reducible exact upd_flw h (subW g)

theorem acquire_keeps {e : Nat} {p : RtpPkt} {arrival : Nat} {d d0 : Dev} {mm : Nat} (h : Kept mm d0 d) (g : Sub 0x40000 mm) :
    Kept mm d0 (acquire e p arrival d) := by
  unfold acquire; with_reducible exact setRxRun_keeps h (subW g)

theorem movePool_keeps {x : RxDesc} {give : Bool} {d d0 : Dev} {mm : Nat} (h : Kept mm d0 d) (g : Sub 0x4000000000000000000000000000000000000000000000000000000000000000000000000000000000000000000000000000000001 mm) :
    Kept mm d0 (movePool x give d) := by
  unfold movePool; with_reducible exact wr_keeps h (subW g)

theorem badContent_keeps {e : Nat} {d d0 : Dev} {mm : Nat} (h : Kept mm d0 d) (g : Sub 0x40001000000000000000000000000000000000000000000000000000000000000000000000000000000000000000000000000000000000000000000000100000010000000000000000000000000000000000000000000000000000000000000000000000000000000000000000004000000003041 mm) :
    Kept mm d0 (badContent e d) := by
  unfold badContent; with_reducible exact fire_keeps (wr_keeps (countWrap_keeps h (subW g) (subW g)) (subW g)) (subW g)

theorem sendReport_keeps {m : Memb} {d d0 : Dev} {mm : Nat} (h : Kept mm d0 d) (g : Sub 0x400000000000000000000000000000000000000000000000000000000000000000000000000000000000000000000000000000001 mm) :
    Kept mm d0 (sendReport m d) := by
  unfold sendReport; with_reducible exact kept_ite (count_keeps h (subW g) (subW g)) h

theorem reportAll_keeps {mac : Option Nat} {d d0 : Dev} {mm : Nat} (h : Kept mm d0 d) (g : Sub 0x400000000000000000000000000000000000000000000000000000000000000000000000000000000000000000000000000040001 mm) :
    Kept mm d0 (reportAll mac d) := by
  unfold reportAll; with_reducible exact upd_flw (forEach_keeps h (fun _ _ h1 => sendReport_keeps h1 (subW g))) (subW g)

theorem setWay_keeps {b w : Nat} {x : Option (Nat × Nat)} {d d0 : Dev} {mm : Nat} (h : Kept mm d0 d) (g : Sub 0x8000000000000000000000000000000000000000000000000000000000000000000000000000000000000000000000000000000000000000000001 mm) :
    Kept mm d0 (setWay b w x d) := by
  unfold setWay; with_reducible exact wr_keeps h (subW g)

theorem showSending_keeps {e : Nat} {d d0 : Dev} {mm : Nat} (h : Kept mm d0 d) (g : Sub 0x1000000000000000000000000000000000000000000000000000000000000000000000000000000000000000000000000000000000000000001 mm) :
    Kept mm d0 (showSending e d) := by
  unfold showSending; with_reducible exact wrB_keeps h (subW g) (subW g)

theorem placeAnc_keeps {e src : Nat} {f : Fmt} {second : Bool} {pkts : List AncPkt} {d d0 : Dev} {mm : Nat} (h : Kept mm d0 d) (g : Sub 0x100000000000000000000000000000000000000000000000000000000000000000000000000000000000000000000000000000000004001 mm) :
    Kept mm d0 (placeAnc e src f second pkts d) := by
  unfold placeAnc; with_reducible exact forEach_keeps h (fun _ _ h1 => kept_ite (countWrap_keeps h1 (subW g) (subW g)) (setSrcRun_keeps h1 (subW g)))

theorem releaseCheck_keeps {e : Nat} {due : List RxPend} {d d0 : Dev} {mm : Nat} (h : Kept mm d0 d) (g : Sub 0x40000000000000000000000000000000000000000000000000000000000000000000000000000000000000000000000000000000040001 mm) :
    Kept mm d0 (releaseCheck e due d) := by
  unfold releaseCheck; with_reducible exact countWrap_keeps (setRxRun_keeps h (subW g)) (subW g) (subW g)

theorem takeDue_keeps {e now : Nat} {d d0 : Dev} {mm : Nat} (h : Kept mm d0 d) (g : Sub 0x40000000000000000000000000000000000000000000000000000000000000000000000000000000000000000000000000000000040001 mm) :
    Kept mm d0 (takeDue e now d).1 := by
  unfold takeDue; with_reducible exact releaseCheck_keeps (setRxRun_keeps h (subW g)) (subW g)

theorem absentFlow_keeps {x : RxDesc} {d d0 : Dev} {mm : Nat} (h : Kept mm d0 d) (g : Sub 0x300000000000000000000000000000000000000000000000000000000000000000000000000000000000000000000000000000000000000000000000000000000000000000000000000000000000000000000000000000000000000000000400001 mm) :
    Kept mm d0 (absentFlow x d) := by
  unfold absentFlow; with_reducible exact forUpTo_keeps h (fun _ _ h1 => by (try dsimp only); split; exact (setChan_keeps h1 (subW g)); exact h1)

theorem lossContent_keeps {e : Nat} {d d0 : Dev} {mm : Nat} (h : Kept mm d0 d) (g : Sub 0x40001000000000000000000000000000000000300000000000000000000000000000000000000000000000000000200000000000000000000000000000000000000000000000000000000000000000000000000000000810000800000000000000000000000000000000000000004000000407041 mm) :
    Kept mm d0 (lossContent e d) := by
  unfold lossContent; with_reducible exact kept_ite (declareLoss_keeps (kept_ite (absentFlow_keeps h (subW g)) (kept_ite (setSrcRun_keeps h (subW g)) h)) (subW g)) (kept_ite (absentFlow_keeps h (subW g)) (kept_ite (setSrcRun_keeps h (subW g)) h))

theorem flowLost_keeps {e : Nat} {d d0 : Dev} {mm : Nat} (h : Kept mm d0 d) (g : Sub 0x400010000000000000000000000000000000003000000000000000000000000000000000000000000000000000002000000000000000000000000000000003801a0400000000000000000000000000000000000000000810000800000000000000000000000000000000000000004000000447041 mm) :
    Kept mm d0 (flowLost e d) := by
  unfold flowLost; with_reducible exact kept_ite (setRxRun_keeps h (subW g)) (fire_keeps (lossContent_keeps (setRxRun_keeps (wr_keeps (count_keeps (wr_keeps (wr_keeps (wr_keeps (wr_keeps (wr_keeps h (subW g)) (subW g)) (subW g)) (subW g)) (subW g)) (subW g) (subW g)) (subW g)) (subW g)) (subW g)) (subW g))

theorem legLost_keeps {e g_ : Nat} {d d0 : Dev} {mm : Nat} (h : Kept mm d0 d) (g : Sub 0x400010000000000000000000000000000000000000000000000000000000000000000000000000000000000000000000000000000000000000000000000003001c0800000000000000000000000000000000000000000000000000000000000000000000000000000000000000004000000003041 mm) :
    Kept mm d0 (legLost e g_ d) := by
  unfold legLost; with_reducible exact kept_ite (kept_ite (fire_keeps (wr_keeps (count_keeps (wr_keeps (wr_keeps (wr_keeps h (subW g (by unfold legOk; repeat' (first | decide | split)))) (subW g)) (subW g)) (subW g) (subW g)) (subW g)) (subW g)) (wr_keeps h (subW g (by unfold legOk; repeat' (first | decide | split))))) h

theorem flowRecovers_keeps {e : Nat} {d d0 : Dev} {mm : Nat} (h : Kept mm d0 d) (g : Sub 0x80000000000000000000000000000000000000000000000000000800000000000000000000000000000000000000000000000004001 mm) :
    Kept mm d0 (flowRecovers e d) := by
  unfold flowRecovers; with_reducible exact kept_ite (kept_ite (declareRecovery_keeps (wr_keeps h (subW g)) (subW g)) (wr_keeps h (subW g))) h

theorem accountUnit_keeps {e legs : Nat} {d d0 : Dev} {mm : Nat} (h : Kept mm d0 d) (g : Sub 0x400010000000000000000000000000000000003000000000000000000000000000000000000000000000000000002000000000000000000000000000000003801e0c00000000000000000000000000000000000000000810000800000000000000000000000000000000000000004000000447041 mm) :
    Kept mm d0 (accountUnit e legs d) := by
  unfold accountUnit; with_reducible exact kept_ite (flowLost_keeps (setRxRun_keeps h (subW g)) (subW g)) (kept_ite (flowRecovers_keeps (forUpTo_keeps (setRxRun_keeps h (subW g)) (fun _ _ h1 => kept_ite (wr_keeps (kept_ite (legLost_keeps h1 (subW g)) h1) (subW g (by unfold legOk; repeat' (first | decide | split)))) (kept_ite (legLost_keeps h1 (subW g)) h1))) (subW g)) (forUpTo_keeps (setRxRun_keeps h (subW g)) (fun _ _ h1 => kept_ite (wr_keeps (kept_ite (legLost_keeps h1 (subW g)) h1) (subW g (by unfold legOk; repeat' (first | decide | split)))) (kept_ite (legLost_keeps h1 (subW g)) h1))))

theorem releaseSdi_keeps {e now : Nat} {d d0 : Dev} {mm : Nat} (h : Kept mm d0 d) (g : Sub 0x4000100000000000000000000000000000000030000000000000000000000000000000000000000000000000000178000000210000fffffffc000000000403801f0c00000000000000000000000000000000000000000810002800000000000000000000000000000000000000004000000557041 mm) :
    Kept mm d0 (releaseSdi e now d) := by
  unfold releaseSdi; with_reducible exact by (try dsimp only); split; exact (setRxRun_keeps (takeDue_keeps h (subW g)) (subW g)); exact (kept_ite (flowLost_keeps (accountUnit_keeps (sdiLineBody_keeps (kept_ite (sdiFrame_keeps (forEach_keeps (setRxRun_keeps (takeDue_keeps h (subW g)) (subW g)) (fun _ _ h1 => by (try dsimp only); split; exact (st352Body_keeps h1 (subW g)); exact h1)) (subW g)) (forEach_keeps (setRxRun_keeps (takeDue_keeps h (subW g)) (subW g)) (fun _ _ h1 => by (try dsimp only); split; exact (st352Body_keeps h1 (subW g)); exact h1))) (subW g)) (subW g)) (subW g)) (kept_ite (flowRecovers_keeps (accountUnit_keeps (sdiLineBody_keeps (kept_ite (sdiFrame_keeps (forEach_keeps (setRxRun_keeps (takeDue_keeps h (subW g)) (subW g)) (fun _ _ h1 => by (try dsimp only); split; exact (st352Body_keeps h1 (subW g)); exact h1)) (subW g)) (forEach_keeps (setRxRun_keeps (takeDue_keeps h (subW g)) (subW g)) (fun _ _ h1 => by (try dsimp only); split; exact (st352Body_keeps h1 (subW g)); exact h1))) (subW g)) (subW g)) (subW g)) (accountUnit_keeps (sdiLineBody_keeps (kept_ite (sdiFrame_keeps (forEach_keeps (setRxRun_keeps (takeDue_keeps h (subW g)) (subW g)) (fun _ _ h1 => by (try dsimp only); split; exact (st352Body_keeps h1 (subW g)); exact h1)) (subW g)) (forEach_keeps (setRxRun_keeps (takeDue_keeps h (subW g)) (subW g)) (fun _ _ h1 => by (try dsimp only); split; exact (st352Body_keeps h1 (subW g)); exact h1))) (subW g)) (subW g))))

theorem setTxRun_keeps {e : Nat} {r : TxRun} {d d0 : Dev} {mm : Nat} (h : Kept mm d0 d) (g : Sub 0x40000 mm) :
    Kept mm d0 (setTxRun e r d) := by
  unfold setTxRun; with_reducible exact upd_flw h (subW g)

theorem sendRtp_keeps {e ts payload : Nat} {d d0 : Dev} {mm : Nat} (h : Kept mm d0 d) (g : Sub 0x400010000000000000000000000000000000000000000000000000000000000000000000000000000000000000000000000000000000000000007e00000000000003001003000000000000000000000000000000000000000000000000000000000000000000000000000000000040000000c3041 mm) :
    Kept mm d0 (sendRtp e ts payload d) := by
  unfold sendRtp; with_reducible exact forUpTo_keeps (setTxRun_keeps (wr_keeps (wr_keeps h (subW g)) (subW g)) (subW g)) (fun _ _ h1 => by (try dsimp only); split; exact (kept_ite (countWrap_keeps (countWrap_keeps (offerMedia_keeps h1 (subW g)) (subW g (by unfold txPkts; repeat' (first | decide | split))) (subW g)) (subW g (by unfold txDrops; repeat' (first | decide | split))) (subW g)) (countWrap_keeps (offerMedia_keeps h1 (subW g)) (subW g (by unfold txPkts; repeat' (first | decide | split))) (subW g))); exact h1)

theorem packetOffer_keeps {e : Nat} {d d0 : Dev} {mm : Nat} (h : Kept mm d0 d) (g : Sub 0x400010000000000000000000000000000000000000000000000000000000000000000000000000000000000000000000000000000000000000007e10000000000003001003000000000000000000000000000000000000000000000000000000000000000000000000000000000040000000c3059 mm) :
    Kept mm d0 (packetOffer e d) := by
  unfold packetOffer; with_reducible exact by (try dsimp only); split; exact h; exact (kept_ite h (kept_ite (kept_ite h (sendRtp_keeps (setTxRun_keeps (advanceTo_keeps h (subW g)) (subW g)) (subW g))) (by (try dsimp only); split; exact h; exact (showSending_keeps (sendRtp_keeps (setTxRun_keeps (advanceTo_keeps h (subW g)) (subW g)) (subW g)) (subW g)))))

theorem releaseLine_keeps {e now : Nat} {d d0 : Dev} {mm : Nat} (h : Kept mm d0 d) (g : Sub 0x400010000000000000000000000000000000003000000000000000000000000000000000000000000000000000017000000000000000000000000000000403801e0c00000000000000000000000000000000000000000810000800000000000000000000000000000000000000004000000457041 mm) :
    Kept mm d0 (releaseLine e now d) := by
  unfold releaseLine; with_reducible exact accountUnit_keeps (setRxRun_keeps (takeDue_keeps (addLine_keeps h (subW g)) (subW g)) (subW g)) (subW g)

theorem opaqueTimeout_keeps {e : Nat} {d d0 : Dev} {mm : Nat} (h : Kept mm d0 d) (g : Sub 0x400010000000000000000000000000000000003000000000000000000000000000000000000000000000000000002000000000000000000000000000000003801a0400000000000000000000000000000000000000000810000800000000000000000000000000000000000000004000000447059 mm) :
    Kept mm d0 (opaqueTimeout e d) := by
  unfold opaqueTimeout; with_reducible exact kept_ite (flowLost_keeps (advanceTo_keeps h (subW g)) (subW g)) h

theorem txHalt_keeps {i : Nat} {d d0 : Dev} {mm : Nat} (h : Kept mm d0 d) (g : Sub 0x1000000000000000000000000000000000000000000000000000000000000000000000000000000000000000000000000000000000000040001 mm) :
    Kept mm d0 (txHalt i d) := by
  unfold txHalt; with_reducible exact forEach_keeps h (fun _ _ h1 => wr_keeps (setTxRun_keeps h1 (subW g)) (subW g))

theorem endAncUnit_keeps {e : Nat} {d d0 : Dev} {mm : Nat} (h : Kept mm d0 d) (g : Sub 0x400010000000000000000000000000000000003000000000000000000000000000000000000000000000000000002000000021000000000000000000000003801e0c00000000000000000000000000000000000000000810000800000000000000000000000000000000000000004000000457041 mm) :
    Kept mm d0 (endAncUnit e d) := by
  unfold endAncUnit; with_reducible exact setRxRun_keeps (accountUnit_keeps (setRxRun_keeps (setRxRun_keeps (kept_ite (endSourceFrame_keeps h (subW g)) h) (subW g)) (subW g)) (subW g)) (subW g)

theorem flowDeliver_keeps {e g_ : Nat} {mute : Int → Bool → Int} {d d0 : Dev} {mm : Nat} (h : Kept mm d0 d) (g : Sub 0x300000000000000000000000000000000000000000000000000000000000000000000000000000000000000000000000000000000000000000000000000000000000000000000000000000000000000000000000000000000000000000000450001 mm) :
    Kept mm d0 (flowDeliver e g_ mute d) := by
  unfold flowDeliver; with_reducible exact by (try dsimp only); split; exact (setRxRun_keeps h (subW g)); exact (kept_ite (setRxRun_keeps h (subW g)) (forUpTo_keeps (setRxRun_keeps h (subW g)) (fun _ _ h1 => by (try dsimp only); split; exact (kept_ite (setChan_keeps (setChan_keeps (kept_ite (ringPush_keeps (ringPush_keeps (setRxRun_keeps h1 (subW g)) (subW g)) (subW g)) (ringPush_keeps (setRxRun_keeps h1 (subW g)) (subW g))) (subW g)) (subW g)) (setChan_keeps (kept_ite (ringPush_keeps (ringPush_keeps (setRxRun_keeps h1 (subW g)) (subW g)) (subW g)) (ringPush_keeps (setRxRun_keeps h1 (subW g)) (subW g))) (subW g))); exact (setRxRun_keeps h1 (subW g)))))

theorem opaqueMarkerTimeout_keeps {i : Nat} {d d0 : Dev} {mm : Nat} (h : Kept mm d0 d) (g : Sub 0x4018 mm) :
    Kept mm d0 (opaqueMarkerTimeout i d) := by
  unfold opaqueMarkerTimeout; with_reducible exact by (try dsimp only); split; exact (setDstRun_keeps (advanceTo_keeps h (subW g)) (subW g)); exact h

theorem freeRx_keeps {e : Nat} {d d0 : Dev} {mm : Nat} (h : Kept mm d0 d) (g : Sub 0x3000000000000000000000000000000000000000000000000000000000000000000000000000080001fffffffc000000000000000000000000000000000000000000000000000000000000000000000000000000000000000000000000000440001 mm) :
    Kept mm d0 (freeRx e d) := by
  unfold freeRx; with_reducible exact kept_ite h (forEach_mem_keeps (upd_flw (movePool_keeps (kept_ite (absentFlow_keeps (kept_ite (setWay_keeps (setWay_keeps h (subW g)) (subW g)) (setWay_keeps h (subW g))) (subW g)) (kept_ite (setWay_keeps (setWay_keeps h (subW g)) (subW g)) (setWay_keeps h (subW g)))) (subW g)) (subW g)) (fun _ m1 _ h1 => wr_keeps h1 (subL g m1)))

theorem showArrival_keeps {e : Nat} {t : Int} {p : RtpPkt} {arrival : Nat} {d d0 : Dev} {mm : Nat} (h : Kept mm d0 d) (g : Sub 0x40001000000000000000000000000000000000000000000000000000000000000000000000000000000000000000000000000000000000000000000000800040000000000000000000000000000000000000000000000810002000000000000000000000000000000000000000004000000007041 mm) :
    Kept mm d0 (showArrival e t p arrival d) := by
  unfold showArrival; with_reducible exact kept_ite (wrS_keeps h (subW g) (subW g)) (kept_ite (setArrival_keeps (wrS_keeps (wrB_keeps h (subW g) (subW g)) (subW g) (subW g)) (subW g)) (wrS_keeps (wrB_keeps h (subW g) (subW g)) (subW g) (subW g)))

theorem freeTx_keeps {e : Nat} {d d0 : Dev} {mm : Nat} (h : Kept mm d0 d) (g : Sub 0x7fffe00000000000000000000000000000000000000000000000000000000000000000000000000000000000000000000000000000000000040001 mm) :
    Kept mm d0 (freeTx e d) := by
  unfold freeTx; with_reducible exact forEach_mem_keeps (upd_flw h (subW g)) (fun _ m1 _ h1 => wr_keeps h1 (subL g m1))

theorem releaseAudio_keeps {e now : Nat} {d d0 : Dev} {mm : Nat} (h : Kept mm d0 d) (g : Sub 0x400010000000000000000000000000000000003000000000000000000000000000000000000000000000000000002000000000000000000000000000000403801e0c00000000000000000000000000000000000000000810000800000000000000000000000000000000000000004000000447041 mm) :
    Kept mm d0 (releaseAudio e now d) := by
  unfold releaseAudio; with_reducible exact accountUnit_keeps (setRxRun_keeps (takeDue_keeps h (subW g)) (subW g)) (subW g)

theorem updateMemb_keeps {d d0 : Dev} {mm : Nat} (h : Kept mm d0 d) (g : Sub 0x600000000000000000000000000000000000000000000000000000000000000000000000000000000000000000000000000040001 mm) :
    Kept mm d0 (updateMemb d) := by
  unfold updateMemb; with_reducible exact wr_keeps (upd_flw (forEach_keeps h (fun _ _ h1 => sendReport_keeps h1 (subW g))) (subW g)) (subW g)

theorem answerQuery_keeps {mac vlan : Nat} {group : Option Nat} {version : Nat} {d d0 : Dev} {mm : Nat} (h : Kept mm d0 d) (g : Sub 0x400000000000000000000000000000000000000000000000000000000000000000000000000000000000000000000000000040001 mm) :
    Kept mm d0 (answerQuery mac vlan group version d) := by
  unfold answerQuery; with_reducible exact forEach_keeps (upd_flw h (subW g)) (fun _ _ h1 => sendReport_keeps h1 (subW g))

theorem releaseAnc_keeps {e : Nat} {d d0 : Dev} {mm : Nat} (h : Kept mm d0 d) (g : Sub 0x400010000000000000000000000000000000003000000000000000000000000000000000000000000000000000002000000021000000000000000000001403801e0c00000000000000000000000000000000000000000810000800000000000000000000000000000000000000004000000457041 mm) :
    Kept mm d0 (releaseAnc e d) := by
  unfold releaseAnc; with_reducible exact kept_ite (setRxRun_keeps (forEach_keeps (takeDue_keeps h (subW g)) (fun _ _ h1 => by (try dsimp only); split; exact (placeAnc_keeps h1 (subW g)); exact h1)) (subW g)) (endAncUnit_keeps h (subW g))

theorem endFlowFrame_keeps {e : Nat} {d d0 : Dev} {mm : Nat} (h : Kept mm d0 d) (g : Sub 0x40001000000000000000000000000000000000000000000000000000000000000000000000000000000000000000680000002100000000000000000000000380000000000000000000000000000000000000000000000000000800000000000000000000000000000000000000004000000057041 mm) :
    Kept mm d0 (endFlowFrame e d) := by
  unfold endFlowFrame; with_reducible exact kept_ite (beginSourceFrame_keeps (setRxRun_keeps (kept_ite (endSourceFrame_keeps (forUpTo_keeps (kept_ite (flowRecovers_keeps h (subW g)) h) (fun _ _ h1 => kept_ite (wr_keeps h1 (subW g (by unfold legOk; repeat' (first | decide | split)))) h1)) (subW g)) (forUpTo_keeps (kept_ite (flowRecovers_keeps h (subW g)) h) (fun _ _ h1 => kept_ite (wr_keeps h1 (subW g (by unfold legOk; repeat' (first | decide | split)))) h1))) (subW g)) (subW g)) (setRxRun_keeps (kept_ite (endSourceFrame_keeps (forUpTo_keeps (kept_ite (flowRecovers_keeps h (subW g)) h) (fun _ _ h1 => kept_ite (wr_keeps h1 (subW g (by unfold legOk; repeat' (first | decide | split)))) h1)) (subW g)) (forUpTo_keeps (kept_ite (flowRecovers_keeps h (subW g)) h) (fun _ _ h1 => kept_ite (wr_keeps h1 (subW g (by unfold legOk; repeat' (first | decide | split)))) h1))) (subW g))

theorem forwardOpaque_keeps {src : Nat} {q : RxPend} {d d0 : Dev} {mm : Nat} (h : Kept mm d0 d) (g : Sub 0x400010000000000000000000000000000000000000000000000000000000000000000000000000000000000000000000000000000000000000007e00000000000003001003000000000000000000000000000000000000000000000000000000000000000000000000000000000040000000c7041 mm) :
    Kept mm d0 (forwardOpaque src q d) := by
  unfold forwardOpaque; with_reducible exact forEach_keeps h (fun _ _ h1 => kept_ite (forEach_keeps (setDstRun_keeps h1 (subW g)) (fun _ _ h2 => sendRtp_keeps h2 (subW g))) (setDstRun_keeps h1 (subW g)))

theorem packetRelease_keeps {e : Nat} {d d0 : Dev} {mm : Nat} (h : Kept mm d0 d) (g : Sub 0x4000100000000000000000000000000000000030000000000000000000000000000000000000000000000000000178000000210000fffffffc007e00001403801f0f001003000000000000000000000000000000000008100028000000000000000000000000000000000000000040000005d7059 mm) :
    Kept mm d0 (packetRelease e d) := by
  unfold packetRelease; with_reducible exact kept_ite h (kept_ite (kept_ite (endFlowFrame_keeps (advanceTo_keeps h (subW g)) (subW g)) (kept_ite (releaseLine_keeps (advanceTo_keeps h (subW g)) (subW g)) (releaseSdi_keeps (advanceTo_keeps h (subW g)) (subW g)))) (kept_ite (releaseAudio_keeps (advanceTo_keeps h (subW g)) (subW g)) (kept_ite (releaseAnc_keeps (advanceTo_keeps h (subW g)) (subW g)) (by (try dsimp only); split; exact h; exact (forEach_keeps (accountUnit_keeps (takeDue_keeps (advanceTo_keeps h (subW g)) (subW g)) (subW g)) (fun _ _ h1 => forwardOpaque_keeps h1 (subW g)))))))

theorem mergeCopy_keeps {e g_ ext release base : Nat} {p : RtpPkt} {d d0 : Dev} {mm : Nat} (h : Kept mm d0 d) (g : Sub 0x40000 mm) :
    Kept mm d0 (mergeCopy e g_ ext release base p d) := by
  unfold mergeCopy; with_reducible exact kept_ite (setRxRun_keeps h (subW g)) (setRxRun_keeps h (subW g))

theorem outOfTime_keeps {e : Nat} {late : Bool} {p : RtpPkt} {arrival : Nat} {d d0 : Dev} {mm : Nat} (h : Kept mm d0 d) (g : Sub 0x400010000000000000000000000000000000000000000000000000000000000000000000000000000000000000000000000000000000000000000001009800400070000000000000000000000000000000000000000008100020000000000000000000000000000000000000000040000000470c1 mm) :
    Kept mm d0 (outOfTime e late p arrival d) := by
  unfold outOfTime; with_reducible exact kept_ite (setRxRun_keeps (firePerSecond_keeps (kept_ite (wr_keeps (countWrap_keeps h (subW g) (subW g)) (subW g)) (wr_keeps (countWrap_keeps h (subW g) (subW g)) (subW g))) (subW g)) (subW g)) (showArrival_keeps (fire_keeps (wr_keeps (countWrap_keeps (acquire_keeps (setRxRun_keeps (firePerSecond_keeps (kept_ite (wr_keeps (countWrap_keeps h (subW g) (subW g)) (subW g)) (wr_keeps (countWrap_keeps h (subW g) (subW g)) (subW g))) (subW g)) (subW g)) (subW g)) (subW g) (subW g)) (subW g)) (subW g)) (subW g))

theorem acceptPacket_keeps {e g_ ext : Nat} {p : RtpPkt} {arrival : Nat} {d d0 : Dev} {mm : Nat} (h : Kept mm d0 d) (g : Sub 0x4000100000000000000000000000000000000000000000000000000000000000000000000000000000000000000020000000000000c000820c000001009800400170000000000000000000000000000000000000000008100028000000000000000000000000000000000000000040000001470c1 mm) :
    Kept mm d0 (acceptPacket e g_ ext p arrival d) := by
  unfold acceptPacket; with_reducible exact kept_ite (badContent_keeps h (subW g)) (kept_ite (outOfTime_keeps (kept_ite (enterState_keeps (kept_ite h (acquire_keeps h (subW g))) (subW g)) (kept_ite h (acquire_keeps h (subW g)))) (subW g)) (kept_ite (outOfTime_keeps (kept_ite (enterState_keeps (kept_ite h (acquire_keeps h (subW g))) (subW g)) (kept_ite h (acquire_keeps h (subW g)))) (subW g)) (showArrival_keeps (mergeCopy_keeps (setRxRun_keeps (kept_ite (enterState_keeps (kept_ite h (acquire_keeps h (subW g))) (subW g)) (kept_ite h (acquire_keeps h (subW g)))) (subW g)) (subW g)) (subW g))))

theorem flowPacket_keeps {e g_ : Nat} {p : RtpPkt} {arrival : Nat} {d d0 : Dev} {mm : Nat} (h : Kept mm d0 d) (g : Sub 0x4000100000000000000000000000000000000000000000000000000000000000000000000000000000000000000020000000000000c000820c000001009bc04001f0000000000000000000000000000000000000000008100028000000000000000000000000000000000000000040000001470c1 mm) :
    Kept mm d0 (flowPacket e g_ p arrival d) := by
  unfold flowPacket; with_reducible exact kept_ite (fire_keeps (wr_keeps (countWrap_keeps h (subW g) (subW g)) (subW g)) (subW g)) (kept_ite (countWrap_keeps (countWrap_keeps h (subW g (by unfold legPkts; repeat' (first | decide | split))) (subW g)) (subW g (by unfold legSeqErr; repeat' (first | decide | split))) (subW g)) (acceptPacket_keeps (setRxRun_keeps (kept_ite (countWrap_keeps h (subW g (by unfold legPkts; repeat' (first | decide | split))) (subW g)) (countWrap_keeps (countWrap_keeps h (subW g (by unfold legPkts; repeat' (first | decide | split))) (subW g)) (subW g (by unfold legSeqErr; repeat' (first | decide | split))) (subW g))) (subW g)) (subW g)))

theorem reportRepeat_keeps {n : Nat} {d d0 : Dev} {mm : Nat} (h : Kept mm d0 d) (g : Sub 0x400000000000000000000000000000000000000000000000000000000000000000000000000000000000000000000000000040019 mm) :
    Kept mm d0 (reportRepeat n d) := by
  unfold reportRepeat; with_reducible exact by (try dsimp only); split; exact (kept_ite h (sendReport_keeps (upd_flw (advanceDev_keeps h (subW g)) (subW g)) (subW g))); exact h

theorem placeLeg_keeps {e g_ : Nat} {l : Leg} {d d0 : Dev} {mm : Nat} (h : Kept mm d0 d) (g : Sub 0x80000ff000000000000000000000000000000000000000000000000000000000000000000000000000000000000000000000000000000000000001 mm) :
    Kept mm d0 (placeLeg e g_ l d) := by
  unfold placeLeg; with_reducible exact by (try dsimp only); split; exact h; exact (kept_ite (wr_keeps (wr_keeps (wr_keeps (wr_keeps (setWay_keeps h (subW g)) (subW g)) (subW g)) (subW g)) (subW g)) (wr_keeps (wr_keeps (wr_keeps (wr_keeps (setWay_keeps h (subW g)) (subW g)) (subW g)) (subW g)) (subW g)))

theorem placeRx_keeps {e : Nat} {x : RxDesc} {since : Nat} {d d0 : Dev} {mm : Nat} (h : Kept mm d0 d) (g : Sub 0x80001fffffffc000000000000000000000000000000000000000000000000000000000000000000000000000000000000000000000000000040001 mm) :
    Kept mm d0 (placeRx e x since d) := by
  unfold placeRx; with_reducible exact movePool_keeps (forUpTo_keeps (wr_keeps (wr_keeps (wr_keeps (wr_keeps (wr_keeps (wr_keeps (wr_keeps (wr_keeps (wrB_keeps (wr_keeps (setRxRun_keeps (forEach_mem_keeps h (fun _ m1 _ h1 => wr_keeps h1 (subL g m1))) (subW g)) (subW g)) (subW g) (subW g)) (subW g)) (subW g)) (subW g)) (subW g)) (subW g)) (subW g)) (subW g)) (subW g)) (fun _ _ h1 => by (try dsimp only); split; exact (placeLeg_keeps h1 (subW g)); exact h1)) (subW g)

theorem txSwitch_keeps {i : Nat} {d d0 : Dev} {mm : Nat} (h : Kept mm d0 d) (g : Sub 0x1000000000000000000000000000000000000000000000000000000000000000000000000000000000000000000000000000000000000040001 mm) :
    Kept mm d0 (txSwitch i d) := by
  unfold txSwitch; with_reducible exact by (try dsimp only); split; exact h; exact (forEach_keeps h (fun _ _ h1 => kept_ite (kept_ite (showSending_keeps (setTxRun_keeps h1 (subW g)) (subW g)) h1) (kept_ite (wrB_keeps h1 (subW g) (subW g)) (kept_ite h1 (showSending_keeps (setTxRun_keeps h1 (subW g)) (subW g))))))

theorem placeTx_keeps {e : Nat} {x : TxDesc} {i : Nat} {d d0 : Dev} {mm : Nat} (h : Kept mm d0 d) (g : Sub 0x7fffe00000000000000000000000000000000000000000000000000000000000000000000000000000000000000000000000000000000000040001 mm) :
    Kept mm d0 (placeTx e x i d) := by
  unfold placeTx; with_reducible exact by (try dsimp only); split; exact h; exact (wr_keeps (wr_keeps (wr_keeps (wr_keeps (wrB_keeps (wr_keeps (wr_keeps (wr_keeps (wr_keeps (wr_keeps (wrB_keeps (setTxRun_keeps (freeTx_keeps h (subW g)) (subW g)) (subW g) (subW g)) (subW g)) (subW g)) (subW g)) (subW g)) (subW g)) (subW g) (subW g)) (subW g)) (subW g)) (subW g)) (subW g))

theorem opaqueSwitch_keeps {i : Nat} {old new : Carry} {d d0 : Dev} {mm : Nat} (h : Kept mm d0 d) (g : Sub 0x4000 mm) :
    Kept mm d0 (opaqueSwitch i old new d) := by
  unfold opaqueSwitch; with_reducible exact kept_ite h (by (try dsimp only); split; exact (setDstRun_keeps h (subW g)); exact (setDstRun_keeps h (subW g)); exact (setDstRun_keeps h (subW g)); exact h)

theorem beginDramTraining_keeps {c : Nat} {d d0 : Dev} {mm : Nat} (h : Kept mm d0 d) (g : Sub 0xa0000000000000000000000000000000000000000000000000000000000000000000000000000000000000000000000000000000000000000000000000000000000000000000020001 mm) :
    Kept mm d0 (beginDramTraining c d) := by
  unfold beginDramTraining; with_reducible exact wr_keeps (wr_keeps (setDramRun_keeps h (subW g)) (subW g)) (subW g)

theorem touchChannel_keeps {c : Nat} {d d0 : Dev} {mm : Nat} (h : Kept mm d0 d) (g : Sub 0x20000 mm) :
    Kept mm d0 (touchChannel c d) := by
  unfold touchChannel; with_reducible exact setDramRun_keeps h (subW g)

theorem wakeChannel_keeps {c : Nat} {d d0 : Dev} {mm : Nat} (h : Kept mm d0 d) (g : Sub 0x8000002000000000000000000000000000000000000000000000000000000000000000000000000000000000000000000000000000000000000000000000000000000000000000000020001 mm) :
    Kept mm d0 (wakeChannel c d) := by
  unfold wakeChannel; with_reducible exact kept_ite (touchChannel_keeps h (subW g)) (kept_ite (count_keeps (wr_keeps (touchChannel_keeps h (subW g)) (subW g)) (subW g) (subW g)) (kept_ite (setDramRun_keeps (touchChannel_keeps h (subW g)) (subW g)) (touchChannel_keeps h (subW g))))

theorem selfRefreshEntered_keeps {c : Nat} {d d0 : Dev} {mm : Nat} (h : Kept mm d0 d) (g : Sub 0xc000002000000000000000000000000000000000000000000000000000000000000000000000000000000000000000000000000000000000000000000000000000000000000000000020001 mm) :
    Kept mm d0 (selfRefreshEntered c d) := by
  unfold selfRefreshEntered; with_reducible exact kept_ite (kept_ite (wakeChannel_keeps (setDramRun_keeps (count_keeps (wr_keeps h (subW g)) (subW g) (subW g)) (subW g)) (subW g)) (count_keeps (wr_keeps h (subW g)) (subW g) (subW g))) h

theorem stampTraining_keeps {c : Nat} {d d0 : Dev} {mm : Nat} (h : Kept mm d0 d) (g : Sub 0x8000000000000000000000000000000000000000000000000000000000000000000000000000000000000000000000000000000000000000000000000000000000000000000000000000000001 mm) :
    Kept mm d0 (stampTraining c d) := by
  unfold stampTraining; with_reducible exact wr_keeps h (subW g)

theorem evalRetrain_keeps {c : Nat} {lanes : List (Nat × Nat)} {d d0 : Dev} {mm : Nat} (h : Kept mm d0 d) (g : Sub 0x4000100000000000000000000000000000000000000000000000000000000000000000000000003b003010014000000000000000000000000000000000000000000000000000000000000000000000000000000000000000000000000000000000000000000000000000000000004000000003041 mm) :
    Kept mm d0 (evalRetrain c lanes d).1 := by
  unfold evalRetrain; with_reducible exact kept_ite_1 (stampTraining_keeps (count_keeps (wr_keeps (wr_keeps (forEach_keeps (wr_keeps (wr_keeps h (subW g)) (subW g)) (fun _ _ h1 => wr_keeps (wr_keeps h1 (subW g)) (subW g))) (subW g)) (subW g)) (subW g) (subW g)) (subW g)) (fire_keeps (wr_keeps (wr_keeps (count_keeps (wr_keeps (wr_keeps (wr_keeps h (subW g)) (subW g)) (subW g)) (subW g) (subW g)) (subW g)) (subW g)) (subW g))

theorem pauseEvaluation_keeps {c : Nat} {lanes : List (Nat × Nat)} {d d0 : Dev} {mm : Nat} (h : Kept mm d0 d) (g : Sub 0x4000100000000000000000000000000000000000000000000000000000000000000000000000003b003010014000000000000000000000000000000000000000000000000000000000000000000000000000000000000000000000000000000000000000000000000000000000004000000023059 mm) :
    Kept mm d0 (pauseEvaluation c lanes d) := by
  unfold pauseEvaluation; with_reducible exact kept_ite h (setDramRun_keeps (evalRetrain_keeps (advanceTo_keeps h (subW g)) (subW g)) (subW g))

theorem dramOff_keeps {c : Nat} {d d0 : Dev} {mm : Nat} (h : Kept mm d0 d) (g : Sub 0x2082000000000000000000000000000000000000000000000000000000000000000000000000000000000000000000000000000000000000000000000000000000000000000000000001 mm) :
    Kept mm d0 (dramOff c d) := by
  unfold dramOff; with_reducible exact wr_keeps (wr_keeps (wr_keeps h (subW g)) (subW g)) (subW g)

theorem dramFails_keeps {c cause : Nat} {d d0 : Dev} {mm : Nat} (h : Kept mm d0 d) (g : Sub 0x40001000000008000000004000004000000004000000000008000000000000000000000000100000000022183000200050000400000000000000000000000000000000000004000800000000000000000000000000000000000000000000200000000000000000000000000000004000100033041 mm) :
    Kept mm d0 (dramFails c cause d) := by
  unfold dramFails; with_reducible exact kept_ite h (fire_keeps (setFuncState_keeps (failSurfaces_keeps (setDramRun_keeps (dramOff_keeps (wr_keeps (wr_keeps h (subW g)) (subW g)) (subW g)) (subW g)) (subW g)) (subW g)) (subW g))

theorem wakeComplete_keeps {c : Nat} {lanes : List (Nat × Nat)} {d d0 : Dev} {mm : Nat} (h : Kept mm d0 d) (g : Sub 0x4000100000000800000000400000400000000400000000000800000000000000000000000010003b003032197000200050000400000000000000000000000000000000000004000800000000000000000000000000000000000000000000200000000000000000000000000000004000100033041 mm) :
    Kept mm d0 (wakeComplete c lanes d) := by
  unfold wakeComplete; with_reducible exact kept_ite (kept_ite (touchChannel_keeps (wr_keeps h (subW g)) (subW g)) (kept_ite (dramFails_keeps (evalRetrain_keeps (touchChannel_keeps (wr_keeps h (subW g)) (subW g)) (subW g)) (subW g)) (evalRetrain_keeps (touchChannel_keeps (wr_keeps h (subW g)) (subW g)) (subW g)))) h

theorem loadDelaySet_keeps {c : Nat} {d d0 : Dev} {mm : Nat} (h : Kept mm d0 d) (g : Sub 0x7f0000000000000000000000000000000000000000000000000000000000000000000000000000000000000000000000000000000000000000000000000000000000000000000000000000000001 mm) :
    Kept mm d0 (loadDelaySet c d) := by
  unfold loadDelaySet; with_reducible exact by (try dsimp only); split; exact (forUpTo_keeps (forUpTo_keeps (forUpTo_keeps h (fun _ _ h1 => wr_keeps (wr_keeps (wr_keeps h1 (subW g)) (subW g)) (subW g))) (fun _ _ h1 => wr_keeps (wr_keeps h1 (subW g)) (subW g))) (fun _ _ h1 => wr_keeps (wr_keeps h1 (subW g)) (subW g))); exact h

theorem dramStart_keeps {c : Nat} {d d0 : Dev} {mm : Nat} (h : Kept mm d0 d) (g : Sub 0x7f00000001fc000000000000000000000000000000000000000000000000000000000000000000000000000000000000000000000000000000000000000000000000000000000000000000020001 mm) :
    Kept mm d0 (dramStart c d) := by
  unfold dramStart; with_reducible exact beginDramTraining_keeps (kept_ite (loadDelaySet_keeps (wrB_keeps (setDramRun_keeps (wr_keeps (wr_keeps (wr_keeps (wr_keeps h (subW g)) (subW g)) (subW g)) (subW g)) (subW g)) (subW g) (subW g)) (subW g)) (wrB_keeps (setDramRun_keeps (wr_keeps (wr_keeps (wr_keeps (wr_keeps h (subW g)) (subW g)) (subW g)) (subW g)) (subW g)) (subW g) (subW g))) (subW g)

theorem writeTrained_keeps {c : Nat} {o : TrainObs} {d d0 : Dev} {mm : Nat} (h : Kept mm d0 d) (g : Sub 0x7f0000000000000000000000000000000000000000000000000000000000000000000000000000000000000000000000000000000000000000000000000000000000000000000000000000000001 mm) :
    Kept mm d0 (writeTrained c o d) := by
  unfold writeTrained; with_reducible exact forEach_keeps (forEach_keeps (forEach_keeps h (fun _ _ h1 => wr_keeps (wr_keeps (wr_keeps h1 (subW g)) (subW g)) (subW g))) (fun _ _ h1 => wr_keeps (wr_keeps h1 (subW g)) (subW g))) (fun _ _ h1 => wr_keeps (wr_keeps h1 (subW g)) (subW g))

theorem dramRunning_keeps {c : Nat} {d d0 : Dev} {mm : Nat} (h : Kept mm d0 d) (g : Sub 0x8000000004000004000000004000000000008000000000000000000000000100008000002083000000000000000000000000000000000000000000000000004000800000000000000000000000000000000000000000000200000000000000000000000000000004000100022041 mm) :
    Kept mm d0 (dramRunning c d) := by
  unfold dramRunning; with_reducible exact setFuncState_keeps (stampTraining_keeps (setDramRun_keeps (wr_keeps (wr_keeps (wr_keeps h (subW g)) (subW g)) (subW g)) (subW g)) (subW g)) (subW g)

theorem substepEnd_keeps {c : Nat} {o : TrainObs} {d d0 : Dev} {mm : Nat} (h : Kept mm d0 d) (g : Sub 0x400010000000080000000040000040000000040000000000080000000000000000000000001007f80000421a3000000000000000000000000000000000000000000000000004000800000000000000000000000000000000000000000000200000000000000000000000000000004000100023041 mm) :
    Kept mm d0 (substepEnd c o d) := by
  unfold substepEnd; with_reducible exact kept_ite h (kept_ite (setFuncState_keeps (dramOff_keeps h (subW g)) (subW g)) (kept_ite h (kept_ite (beginDramTraining_keeps h (subW g)) (kept_ite (fire_keeps (setFuncState_keeps (wr_keeps (wr_keeps (dramOff_keeps h (subW g)) (subW g)) (subW g)) (subW g)) (subW g)) (kept_ite h (kept_ite (dramRunning_keeps (kept_ite h (writeTrained_keeps h (subW g))) (subW g)) (wr_keeps (kept_ite h (writeTrained_keeps h (subW g))) (subW g))))))))

theorem pauseSlot_keeps {c : Nat} {d d0 : Dev} {mm : Nat} (h : Kept mm d0 d) (g : Sub 0x4218 mm) :
    Kept mm d0 (pauseSlot c d) := by
  unfold pauseSlot; with_reducible exact atGrid_keeps (kept_ite (upd_xpt (advanceTo_keeps h (subW g)) (subW g)) h) (subW g)

theorem beginEntering_keeps {c : Nat} {d d0 : Dev} {mm : Nat} (h : Kept mm d0 d) (g : Sub 0x2000000000000000000000000000000000000000000000000000000000000000000000000000000000000000000000000000000000000000000000000000000000000000000020001 mm) :
    Kept mm d0 (beginEntering c d) := by
  unfold beginEntering; with_reducible exact setDramRun_keeps (wr_keeps h (subW g)) (subW g)

theorem pauseEnd_keeps {c : Nat} {d d0 : Dev} {mm : Nat} (h : Kept mm d0 d) (g : Sub 0x40001000000008000000004000004000000004000000000008000000000000000000000000100000000022183000200050000400000000000000000000000000000000000004000800000000000000000000000000000000000000000000204000000000000000000000000000004000100033041 mm) :
    Kept mm d0 (pauseEnd c d) := by
  unfold pauseEnd; with_reducible exact kept_ite h (kept_ite (dramFails_keeps (wr_keeps (setDramRun_keeps h (subW g)) (subW g)) (subW g)) (kept_ite (beginEntering_keeps (wr_keeps (setDramRun_keeps h (subW g)) (subW g)) (subW g)) (wr_keeps (setDramRun_keeps h (subW g)) (subW g))))

theorem pauseBegins_keeps {c : Nat} {d d0 : Dev} {mm : Nat} (h : Kept mm d0 d) (g : Sub 0xe000000000000000000000000000000000000024219 mm) :
    Kept mm d0 (pauseBegins c d) := by
  unfold pauseBegins; with_reducible exact kept_ite (setDramRun_keeps (count_keeps (wr_keeps (wr_keeps (upd_xpt (pauseSlot_keeps h (subW g)) (subW g)) (subW g)) (subW g)) (subW g) (subW g)) (subW g)) (pauseSlot_keeps h (subW g))

theorem eccEvents_keeps {c ce : Nat} {ues : List Nat} {d d0 : Dev} {mm : Nat} (h : Kept mm d0 d) (g : Sub 0x400010000000080000000040000040000000040000000000080000000000000000000000001000002301a21830002000500004000000000000000000000000000000000000040008000000000000000000000000000000000000000000002000000000000000000000000000000040001000330c1 mm) :
    Kept mm d0 (eccEvents c ce ues d) := by
  unfold eccEvents; with_reducible exact kept_ite (kept_ite (fire_keeps (wr_keeps (setDramRun_keeps (count_keeps h (subW g) (subW g)) (subW g)) (subW g)) (subW g)) (setDramRun_keeps (count_keeps h (subW g) (subW g)) (subW g))) (kept_ite (dramFails_keeps (firePerSecond_keeps (wr_keeps (wr_keeps (count_keeps (kept_ite (fire_keeps (wr_keeps (setDramRun_keeps (count_keeps h (subW g) (subW g)) (subW g)) (subW g)) (subW g)) (setDramRun_keeps (count_keeps h (subW g) (subW g)) (subW g))) (subW g) (subW g)) (subW g)) (subW g)) (subW g)) (subW g)) (firePerSecond_keeps (wr_keeps (wr_keeps (count_keeps (kept_ite (fire_keeps (wr_keeps (setDramRun_keeps (count_keeps h (subW g) (subW g)) (subW g)) (subW g)) (subW g)) (setDramRun_keeps (count_keeps h (subW g) (subW g)) (subW g))) (subW g) (subW g)) (subW g)) (subW g)) (subW g)))

theorem patrolScrub_keeps {c ce : Nat} {ues : List Nat} {d d0 : Dev} {mm : Nat} (h : Kept mm d0 d) (g : Sub 0x400010000000080000000040000040000000040000000000080000000000000000000000001000002301a21830002000500004000000000000000000000000000000000000040008000000000000000000000000000000000000000000002000000000000000000000000000000040001000330d9 mm) :
    Kept mm d0 (patrolScrub c ce ues d) := by
  unfold patrolScrub; with_reducible exact kept_ite (eccEvents_keeps (setDramRun_keeps (advanceDev_keeps h (subW g)) (subW g)) (subW g)) h

theorem driftTracking_keeps {c : Nat} {drift : List Int} {d d0 : Dev} {mm : Nat} (h : Kept mm d0 d) (g : Sub 0x40001000000000000000000000000000000000000000000000000000000000000000000000000024000400000000000000000000000000000000000000000000000000000000000000000000000000000000000000000000000000000000000000000000000000000000000000004000000023041 mm) :
    Kept mm d0 (driftTracking c drift d) := by
  unfold driftTracking; with_reducible exact kept_ite h (kept_ite (kept_ite (wr_keeps (setDramRun_keeps (wrS_keeps (forUpTo_keeps h (fun _ _ h1 => setDramRun_keeps (wr_keeps h1 (subW g)) (subW g))) (subW g) (subW g)) (subW g)) (subW g)) (fire_keeps (wr_keeps (setDramRun_keeps (wrS_keeps (forUpTo_keeps h (fun _ _ h1 => setDramRun_keeps (wr_keeps h1 (subW g)) (subW g))) (subW g) (subW g)) (subW g)) (subW g)) (subW g))) (setDramRun_keeps (wrS_keeps (forUpTo_keeps h (fun _ _ h1 => setDramRun_keeps (wr_keeps h1 (subW g)) (subW g))) (subW g) (subW g)) (subW g)))

theorem pauseCfgWrite_keeps {ms : Nat} {d d0 : Dev} {mm : Nat} (h : Kept mm d0 d) (g : Sub 0x1000000000000000000000000000000000000004001 mm) :
    Kept mm d0 (pauseCfgWrite ms d) := by
  unfold pauseCfgWrite; with_reducible exact kept_ite (upd_xpt (wr_keeps h (subW g)) (subW g)) (upd_xpt (wr_keeps h (subW g)) (subW g))

theorem idleTimeout_keeps {c : Nat} {d d0 : Dev} {mm : Nat} (h : Kept mm d0 d) (g : Sub 0x2000000000000000000000000000000000000000000000000000000000000000000000000000000000000000000000000000000000000000000000000000000000000000000020019 mm) :
    Kept mm d0 (idleTimeout c d) := by
  unfold idleTimeout; with_reducible exact kept_ite (kept_ite (setDramRun_keeps (advanceDev_keeps h (subW g)) (subW g)) (beginEntering_keeps (advanceDev_keeps h (subW g)) (subW g))) h

theorem speedWrite_keeps {c v : Nat} {d d0 : Dev} {mm : Nat} (h : Kept mm d0 d) (g : Sub 0x2e0000000000000000000000000000000000000000000000000000000000000000000000000000000000000000000000000000000000000000000000000000000000000000000020001 mm) :
    Kept mm d0 (speedWrite c v d) := by
  unfold speedWrite; with_reducible exact kept_ite (wrB_keeps (wr_keeps h (subW g)) (subW g) (subW g)) (kept_ite (kept_ite (wrB_keeps (wr_keeps h (subW g)) (subW g) (subW g)) (kept_ite (setDramRun_keeps (wr_keeps (wr_keeps h (subW g)) (subW g)) (subW g)) (kept_ite (beginDramTraining_keeps (wr_keeps (wr_keeps h (subW g)) (subW g)) (subW g)) (setDramRun_keeps (wr_keeps (wr_keeps h (subW g)) (subW g)) (subW g))))) (wr_keeps h (subW g)))

theorem refreshRead_keeps {c : Nat} {rates : List Nat} {high : Bool} {d d0 : Dev} {mm : Nat} (h : Kept mm d0 d) (g : Sub 0x40001000000000000000000000000000000000000000000000000000000000000000000000000000c00200000000000000000000000000000000000000000000000000000000000000000000000000000000000000000000000000000000000000000000000000000000000000004000000003041 mm) :
    Kept mm d0 (refreshRead c rates high d) := by
  unfold refreshRead; with_reducible exact kept_ite (kept_ite (fire_keeps (wr_keeps (wr_keeps (wrB_keeps h (subW g) (subW g)) (subW g)) (subW g)) (subW g)) (wr_keeps (wrB_keeps h (subW g) (subW g)) (subW g))) h

theorem channelStopped_keeps {c : Nat} {d d0 : Dev} {mm : Nat} (h : Kept mm d0 d) (g : Sub 0x8000000004000004000000004000000000008000000000000000000000000100000000002083000000000000000000000000000000000000000000000000004000800000000000000000000000000000000000000000000200000000000000000000000000000004000100022041 mm) :
    Kept mm d0 (channelStopped c d) := by
  unfold channelStopped; with_reducible exact kept_ite (setFuncState_keeps (setDramRun_keeps (dramOff_keeps h (subW g)) (subW g)) (subW g)) h

end Sys2Proof.Machine
end

