-- ==== Sys2Proof/Laws/KeepsInputs.lean ====
section
/-! SUPPORT. Which parts of a device and which registers the functions of placement, placement inputs, start-up and the fabric can change: one lemma per
function. A mask's bits are `DevPart.mask` and `fldMask`. -/

namespace Sys2Proof.Machine

set_option maxRecDepth 4000
set_option Elab.async false
set_option exponentiation.threshold 2048
set_option linter.unusedVariables false

theorem setConvLayer_keeps {l q : Nat} {gang : Bool} {src : Nat} {f g_ : Fmt} {place : LayerPlace} {d d0 : Dev} {mm : Nat} (h : Kept mm d0 d) (g : Sub 0x3bffffa077ffff40000000000000000000000000000000000000000000000000000000000000000000000000000000000000000000000000000000000000000000000000000000000000000000000000000000000000200001 mm) :
    Kept mm d0 (setConvLayer l q gang src f g_ place d) := by
  unfold setConvLayer; with_reducible exact setLayerRun_keeps (wr_keeps (wr_keeps (wr_keeps (wr_keeps (wr_keeps (wr_keeps (wr_keeps (wr_keeps (wr_keeps (wr_keeps (wr_keeps (wr_keeps (wr_keeps (wr_keeps (wr_keeps (wr_keeps (wr_keeps (wr_keeps (wr_keeps (wr_keeps (wr_keeps (wr_keeps (wr_keeps (wr_keeps (wr_keeps (wr_keeps (wr_keeps (wr_keeps (wr_keeps (wr_keeps (wr_keeps (wr_keeps (wr_keeps (wr_keeps (wr_keeps (wr_keeps (wr_keeps (wr_keeps (wr_keeps (wr_keeps (wr_keeps (wr_keeps (wr_keeps (wr_keeps (wr_keeps (wr_keeps h (subW g)) (subW g)) (subW g)) (subW g)) (subW g)) (subW g)) (subW g)) (subW g)) (subW g)) (subW g)) (subW g)) (subW g)) (subW g)) (subW g)) (subW g)) (subW g)) (subW g)) (subW g)) (subW g)) (subW g)) (subW g)) (subW g)) (subW g)) (subW g)) (subW g)) (subW g)) (subW g)) (subW g)) (subW g)) (subW g)) (subW g)) (subW g)) (subW g)) (subW g)) (subW g)) (subW g)) (subW g)) (subW g)) (subW g)) (subW g)) (subW g)) (subW g)) (subW g)) (subW g)) (subW g)) (subW g)) (subW g)

theorem startConv_keeps {it : TItem} {d d0 : Dev} {mm : Nat} (h : Kept mm d0 d) (g : Sub 0x8000000004000004000000004000000000008000003bffffa077ffff4001e380000000000001000000000000000000000000000000000000000000000000004000800000000000000000000000000000000000000000000200000000000000000000000000000004000100212041 mm) :
    Kept mm d0 (startConv it d) := by
  unfold startConv; with_reducible exact forEach_keeps (setSyncRun_keeps h (subW g)) (fun _ _ h1 => setFuncState_keeps (wr_keeps (wr_keeps (by (try dsimp only); split; exact (setConvLayer_keeps (setHeadRun_keeps (wr_keeps (wr_keeps (wr_keeps (wrB_keeps h1 (subW g) (subW g)) (subW g)) (subW g)) (subW g)) (subW g)) (subW g)); exact (setHeadRun_keeps (wr_keeps (wr_keeps (wr_keeps (wrB_keeps h1 (subW g) (subW g)) (subW g)) (subW g)) (subW g)) (subW g))) (subW g)) (subW g)) (subW g))

theorem closeRun_keeps {first n : Nat} {d d0 : Dev} {mm : Nat} (h : Kept mm d0 d) (g : Sub 0xe40000000000000000000000000000000000000000000000000000000000000000000000000000000000000000000000000000000000000000000000000000000000000000000000000000000000000000000000000000000000000000404001 mm) :
    Kept mm d0 (closeRun first n d) := by
  unfold closeRun; with_reducible exact forUpTo_keeps (upd_many (n := 0x404000) h (by constructor <;> intro y <;> first | rfl | exact canon_upd y rfl | exact fun _ => rfl | exact sticky_of_regs rfl | exact inst_any (by decide) | exact sticky_any (by decide) y | exact absurd y (by decide)) (subW g)) (fun _ _ h1 => toReset_keeps (toReset_keeps (toReset_keeps (toReset_keeps h1 (subW g)) (subW g)) (subW g)) (subW g))

theorem stopConv_keeps {it : TItem} {d d0 : Dev} {mm : Nat} (h : Kept mm d0 d) (g : Sub 0x8000000004000004000000004000000000008000000000002000000040010180000000000001000000000000000000000000000000000000000000000000004000800000000000000000000000000000000000000000000200000000000000000000000000000004000100202041 mm) :
    Kept mm d0 (stopConv it d) := by
  unfold stopConv; with_reducible exact forEach_keeps h (fun _ _ h1 => by (try dsimp only); split; exact (setLayerRun_keeps (wr_keeps (wr_keeps (wr_keeps (setFuncState_keeps (setFuncState_keeps (wr_keeps (setHeadRun_keeps h1 (subW g)) (subW g)) (subW g)) (subW g)) (subW g)) (subW g)) (subW g)) (subW g)); exact (wr_keeps (setFuncState_keeps (setFuncState_keeps (wr_keeps (setHeadRun_keeps h1 (subW g)) (subW g)) (subW g)) (subW g)) (subW g)))

theorem showSlots_keeps {first n kind producer : Nat} {lost : Bool} {e : Int} {d d0 : Dev} {mm : Nat} (h : Kept mm d0 d) (g : Sub 0x3e00000000000000000000000000000000000000000000000000001 mm) :
    Kept mm d0 (showSlots first n kind producer lost e d) := by
  unfold showSlots; with_reducible exact forUpTo_keeps h (fun _ _ h1 => wr_keeps (wr_keeps (wrB_keeps (wr_keeps (wrS_keeps h1 (subW g) (subW g)) (subW g)) (subW g) (subW g)) (subW g)) (subW g))

theorem vacate_keeps {first n : Nat} {d d0 : Dev} {mm : Nat} (h : Kept mm d0 d) (g : Sub 0x3e00000000000000000000000000000000000000000000000004001 mm) :
    Kept mm d0 (vacate first n d) := by
  unfold vacate; with_reducible exact showSlots_keeps (upd_xpt h (subW g)) (subW g)

theorem occupy_keeps {src first n producer : Nat} {d d0 : Dev} {mm : Nat} (h : Kept mm d0 d) (g : Sub 0x3e00000000000000000000000000000000000000000000000004001 mm) :
    Kept mm d0 (occupy src first n producer d) := by
  unfold occupy; with_reducible exact by (try dsimp only); split; exact h; exact (showSlots_keeps (upd_xpt h (subW g)) (subW g))

theorem sendStream_keeps {link slot : Nat} {x : Option SeaTx} {d d0 : Dev} {mm : Nat} (h : Kept mm d0 d) (g : Sub 0x2000000 mm) :
    Kept mm d0 (sendStream link slot x d) := by
  unfold sendStream; with_reducible exact setSeaLink_keeps h (subW g)

theorem takeStream_keeps {link slot : Nat} {x : Option SeaIn} {d d0 : Dev} {mm : Nat} (h : Kept mm d0 d) (g : Sub 0x2000000 mm) :
    Kept mm d0 (takeStream link slot x d) := by
  unfold takeStream; with_reducible exact setSeaLink_keeps h (subW g)

theorem applySeam_keeps {it : TItem} {on : Bool} {d d0 : Dev} {mm : Nat} (h : Kept mm d0 d) (g : Sub 0x3ef0000000000000000000000000000000000000000000002004001 mm) :
    Kept mm d0 (applySeam it on d) := by
  unfold applySeam; with_reducible exact by (try dsimp only); split; exact (kept_ite (kept_ite (sendStream_keeps h (subW g)) (forUpTo_keeps (sendStream_keeps h (subW g)) (fun _ _ h1 => wr_keeps (wrB_keeps (wr_keeps (wrB_keeps h1 (subW g) (subW g)) (subW g)) (subW g) (subW g)) (subW g)))) (kept_ite (kept_ite (sendStream_keeps (kept_ite (takeStream_keeps h (subW g)) (kept_ite (occupy_keeps (takeStream_keeps h (subW g)) (subW g)) (vacate_keeps (takeStream_keeps h (subW g)) (subW g)))) (subW g)) (forUpTo_keeps (sendStream_keeps (kept_ite (takeStream_keeps h (subW g)) (kept_ite (occupy_keeps (takeStream_keeps h (subW g)) (subW g)) (vacate_keeps (takeStream_keeps h (subW g)) (subW g)))) (subW g)) (fun _ _ h1 => wr_keeps (wrB_keeps (wr_keeps (wrB_keeps h1 (subW g) (subW g)) (subW g)) (subW g) (subW g)) (subW g)))) (kept_ite (kept_ite (takeStream_keeps h (subW g)) (kept_ite (occupy_keeps (takeStream_keeps h (subW g)) (subW g)) (vacate_keeps (takeStream_keeps h (subW g)) (subW g)))) h))); exact h

theorem freeItem_keeps {it : TItem} {d d0 : Dev} {mm : Nat} (h : Kept mm d0 d) (g : Sub 0x400010000000080000000040000040000000043c0e518000080000000000020000000400101800000000000017ffffff5000040000000000000ffffffffffffc000000000004000800000000000000000000000000000000003ef0000000200000000000000000000000000000004000102657041 mm) :
    Kept mm d0 (freeItem it d) := by
  unfold freeItem; with_reducible exact by (try dsimp only); split; exact (vacate_keeps h (subW g)); exact (freeSurf_keeps h (subW g)); exact (vacate_keeps (freeSync_keeps h (subW g)) (subW g)); exact (vacate_keeps (freeSync_keeps h (subW g)) (subW g)); exact (vacate_keeps (freeSync_keeps (stopConv_keeps h (subW g)) (subW g)) (subW g)); exact (freeSurf_keeps h (subW g)); exact (freeRx_keeps h (subW g)); exact (freeTx_keeps h (subW g)); exact (toReset_keeps (toReset_keeps (wr_keeps (toReset_keeps (toReset_keeps (upd_aud h (subW g)) (subW g)) (subW g)) (subW g)) (subW g)) (subW g)); exact (applySeam_keeps h (subW g)); exact (closeRun_keeps h (subW g)); exact (forUpTo_keeps h (fun _ _ h1 => toReset_keeps (toReset_keeps (upd_aud h1 (subW g)) (subW g)) (subW g))); exact (freeSurf_keeps h (subW g)); exact h

theorem openReader_keeps {it : TItem} {delay : Nat} {d d0 : Dev} {mm : Nat} (h : Kept mm d0 d) (g : Sub 0x4000100000000000000000000000000000000000000000000000000000000000000000000000000000000000003e000000000800000000000000000000000000000000000000000000000000000000000000000000000000003e00000000000000000000000000000000000000004000000017041 mm) :
    Kept mm d0 (openReader it delay d) := by
  unfold openReader; with_reducible exact showSlots_keeps (placeSync_keeps (kept_ite h (setSrcRun_keeps h (subW g))) (subW g)) (subW g)

theorem openRun_keeps {owner first n rate producer source : Nat} {d d0 : Dev} {mm : Nat} (h : Kept mm d0 d) (g : Sub 0xe40000000000000000000000000000000000000000000000000000000000000000000000000000000000000000000000000000000000000000000000000000000000000000000000000000000000000000000000000000000000000000004001 mm) :
    Kept mm d0 (openRun owner first n rate producer source d) := by
  unfold openRun; with_reducible exact forUpTo_keeps (upd_xpt h (subW g)) (fun _ _ h1 => wr_keeps (wr_keeps (wr_keeps (wr_keeps h1 (subW g)) (subW g)) (subW g)) (subW g))

theorem placeItem_keeps {it : TItem} {d d0 : Dev} {mm : Nat} (h : Kept mm d0 d) (g : Sub 0x400010000000080000000040000040000000040c0e51800008000003bffffa077ffff4001e38000000000000103fffff0000080000000000000ffffffffffffc000000000004000800000000000000000000000000000000003ef0000000200000000000000000000000000000004000103257041 mm) :
    Kept mm d0 (placeItem it d) := by
  unfold placeItem; with_reducible exact by (try dsimp only); split; exact (by (try dsimp only); split; exact (occupy_keeps h (subW g)); exact h); exact (placeSurf_keeps h (subW g)); exact (openReader_keeps h (subW g)); exact (openReader_keeps h (subW g)); exact (startConv_keeps (openReader_keeps h (subW g)) (subW g)); exact (placeSurf_keeps h (subW g)); exact (kept_ite (placeRx_keeps h (subW g)) (by (try dsimp only); split; exact (by (try dsimp only); split; exact (placeRx_keeps h (subW g)); exact h); exact h)); exact (by (try dsimp only); split; exact (by (try dsimp only); split; exact (placeTx_keeps h (subW g)); exact h); exact h); exact (loadColumn_keeps (wr_keeps (wr_keeps (wr_keeps (wr_keeps (wr_keeps h (subW g)) (subW g)) (subW g)) (subW g)) (subW g)) (subW g)); exact (applySeam_keeps h (subW g)); exact (by (try dsimp only); split; exact (openRun_keeps h (subW g)); exact h); exact (forUpTo_keeps h (fun _ _ h1 => wr_keeps (wr_keeps h1 (subW g)) (subW g))); exact (placeSurf_keeps h (subW g)); exact h

theorem refreshSurf_keeps {it : TItem} {d d0 : Dev} {mm : Nat} (h : Kept mm d0 d) (g : Sub 0x803000000000000000000000000000000000000000000000000000000000000000000000000000000000000000000000000000000000000000000000000000000000000000001 mm) :
    Kept mm d0 (refreshSurf it d) := by
  unfold refreshSurf; with_reducible exact kept_ite h (wr_keeps (wrB_keeps (wr_keeps h (subW g)) (subW g) (subW g)) (subW g))

theorem settle_keeps {d d0 : Dev} {mm : Nat} (h : Kept mm d0 d) (g : Sub 0x400010000000080000000040000040000000043c0e51800008000003bffffa077ffff4001e3800000000000017ffffff50000c0000000000000ffffffffffffc600000000004000800000000000000000000000000000000003ef0000000200000000000000000000000000000004000107657041 mm) :
    Kept mm d0 (settle d) := by
  unfold settle; with_reducible exact kept_ite (updateMemb_keeps (forEach_keeps (forEach_keeps (upd_tlr (forEach_keeps h (fun _ _ h1 => freeItem_keeps h1 (subW g))) (subW g)) (fun _ _ h1 => placeItem_keeps h1 (subW g))) (fun _ _ h1 => refreshSurf_keeps h1 (subW g))) (subW g)) (forEach_keeps (forEach_keeps (upd_tlr (forEach_keeps h (fun _ _ h1 => freeItem_keeps h1 (subW g))) (subW g)) (fun _ _ h1 => placeItem_keeps h1 (subW g))) (fun _ _ h1 => refreshSurf_keeps h1 (subW g)))

theorem setMig_keeps {g_ x1 : Mig} {d d0 : Dev} {mm : Nat} (h : Kept mm d0 d) (g : Sub 0x4000000 mm) :
    Kept mm d0 (setMig g_ x1 d) := by
  unfold setMig; with_reducible exact upd_tlr h (subW g)

theorem applyLayers_keeps {old : Tlr} {but : Option Nat} {d d0 : Dev} {mm : Nat} (h : Kept mm d0 d) (g : Sub 0x40001000000000000000000000000000000000000000000000000600000000000000000000006000000000000000000000000000000000000000000000000000000000000000000000000000000000000000000000000000000000000000000000000000000000000000000000004000000203041 mm) :
    Kept mm d0 (applyLayers old but d) := by
  unfold applyLayers; with_reducible exact forEach_keeps h (fun _ _ h1 => kept_ite h1 (showLayer_keeps (setLayerRun_keeps h1 (subW g)) (subW g)))

theorem applyOrQueue_keeps {q : Nat × DstPlace} {d d0 : Dev} {mm : Nat} (h : Kept mm d0 d) (g : Sub 0x1ffbe0000000000018c0001f0000000000000000000000000000000000000000000000004001 mm) :
    Kept mm d0 (applyOrQueue q d) := by
  unfold applyOrQueue; with_reducible exact kept_ite (upd_xpt h (subW g)) (applyPlace_keeps h (subW g))

theorem refreshPlaces_keeps {old : Tlr} {d d0 : Dev} {mm : Nat} (h : Kept mm d0 d) (g : Sub 0x40001000000000000000000000000000000000000000000000000600000000000000000000006000000000000000000000000000000000000000000000000000000000000000000000000000000001ffbe0000000000018c0001f0000000000000000000000000000000000000004000000207041 mm) :
    Kept mm d0 (refreshPlaces old d) := by
  unfold refreshPlaces; with_reducible exact applyLayers_keeps (forEach_keeps h (fun _ _ h1 => applyOrQueue_keeps h1 (subW g))) (subW g)

theorem migrationCompletion_keeps {d d0 : Dev} {mm : Nat} (h : Kept mm d0 d) (g : Sub 0x40001000000000000000000000000000000000000000000000000600000000000000000000006000000000000000010c00000000000000000000000000000000000000000000000000000000000001ffbe0000100000018c0001f0000000000000000000000000000000000000004000004217059 mm) :
    Kept mm d0 (migrationCompletion d) := by
  unfold migrationCompletion; with_reducible exact by (try dsimp only); split; exact h; exact (kept_ite h (refreshPlaces_keeps (kept_ite (kept_ite (setSurf_keeps (wr_keeps (wr_keeps (upd_tlr (setMig_keeps (count_keeps (advanceTo_keeps h (subW g)) (subW g) (subW g)) (subW g)) (subW g)) (subW g)) (subW g)) (subW g)) (upd_tlr (setMig_keeps (count_keeps (advanceTo_keeps h (subW g)) (subW g) (subW g)) (subW g)) (subW g))) (kept_ite (upd_tlr (setMig_keeps (count_keeps (advanceTo_keeps h (subW g)) (subW g) (subW g)) (subW g)) (subW g)) (kept_ite (wr_keeps (upd_tlr (setMig_keeps (count_keeps (advanceTo_keeps h (subW g)) (subW g) (subW g)) (subW g)) (subW g)) (subW g)) (upd_tlr (setMig_keeps (count_keeps (advanceTo_keeps h (subW g)) (subW g) (subW g)) (subW g)) (subW g))))) (subW g)))

theorem healthQuiet_keeps {r : HealthRec} {d d0 : Dev} {mm : Nat} (h : Kept mm d0 d) (g : Sub 0x4000000 mm) :
    Kept mm d0 (healthQuiet r d) := by
  unfold healthQuiet; with_reducible exact upd_tlr h (subW g)

theorem noteInput_keeps {index at_ : Nat} {i : PInput} {announce : Bool} {d d0 : Dev} {mm : Nat} (h : Kept mm d0 d) (g : Sub 0x2000000 mm) :
    Kept mm d0 (noteInput index at_ i announce d) := by
  unfold noteInput; with_reducible exact kept_ite (upd_sea h (subW g)) (sendAllBut_keeps (upd_sea h (subW g)) (subW g))

theorem indexHealth_keeps {r : HealthRec} {d d0 : Dev} {mm : Nat} (h : Kept mm d0 d) (g : Sub 0x2000000 mm) :
    Kept mm d0 (indexHealth r d).2 := by
  unfold indexHealth; with_reducible exact noteInput_keeps h (subW g)

theorem finishInput_keeps {a : Nat} {always : Bool} {p : Plan} {d d0 : Dev} {mm : Nat} (h : Kept mm d0 d) (g : Sub 0x40001000000000000000000000000000000000000000000000000000000000000000000000000000008000002000000000000000000000000000000000000000000000000000000000000000000000000000008000150000000000000000000000000000000000000000000000004000004023041 mm) :
    Kept mm d0 (finishInput a always p d) := by
  unfold finishInput; with_reducible exact kept_ite (kept_ite (forEach_keeps (wr_keeps (upd_tlr h (subW g)) (subW g)) (fun _ _ h1 => wakeChannel_keeps h1 (subW g))) (fire_keeps (count_keeps (wr_keeps (forEach_keeps (wr_keeps (upd_tlr h (subW g)) (subW g)) (fun _ _ h1 => wakeChannel_keeps h1 (subW g))) (subW g)) (subW g) (subW g)) (subW g))) (fire_keeps (wr_keeps (kept_ite (forEach_keeps (wr_keeps (upd_tlr h (subW g)) (subW g)) (fun _ _ h1 => wakeChannel_keeps h1 (subW g))) (fire_keeps (count_keeps (wr_keeps (forEach_keeps (wr_keeps (upd_tlr h (subW g)) (subW g)) (fun _ _ h1 => wakeChannel_keeps h1 (subW g))) (subW g)) (subW g) (subW g)) (subW g))) (subW g)) (subW g))

theorem applyHealth_keeps {r : HealthRec} {d d0 : Dev} {mm : Nat} (h : Kept mm d0 d) (g : Sub 0x400010000000080000000040000040000000043c0e51800008000603bffffa077ffff4001e3860000080000037ffffff50000c0000000000000ffffffffffffc600000000004000800000000000001ffbe0000a00017018c003ff0000000200000000000000000000000000000004000107677041 mm) :
    Kept mm d0 (applyHealth r d) := by
  unfold applyHealth; with_reducible exact applyLayers_keeps (forEach_keeps (settle_keeps (fire_keeps (kept_ite (finishInput_keeps h (subW g)) (fire_keeps (count_keeps (wr_keeps (finishInput_keeps h (subW g)) (subW g)) (subW g) (subW g)) (subW g))) (subW g)) (subW g)) (fun _ _ h1 => applyOrQueue_keeps h1 (subW g))) (subW g)

theorem markInput_keeps {index at_ : Nat} {d d0 : Dev} {mm : Nat} (h : Kept mm d0 d) (g : Sub 0x2000000 mm) :
    Kept mm d0 (markInput index at_ d) := by
  unfold markInput; with_reducible exact upd_sea h (subW g)

theorem evacuation_keeps {d d0 : Dev} {mm : Nat} (h : Kept mm d0 d) (g : Sub 0x400010000000080000000040000040000000043c0e51800008000603bffffa077ffff4001e3860000080000037ffffff50000c0000000000000ffffffffffffc600000000004000800000000000001ffbe0000a00017018c003ff0000000200000000000000000000000000000004000107677059 mm) :
    Kept mm d0 (evacuation d) := by
  unfold evacuation; with_reducible exact by (try dsimp only); split; exact h; exact (kept_ite (by (try dsimp only); split; exact (sendMsg_keeps (upd_health h (subW g)) (subW g)); exact h) (kept_ite (healthQuiet_keeps (upd_health h (subW g)) (subW g)) (kept_ite (applyHealth_keeps (advanceTo_keeps (kept_ite_2 (indexHealth_keeps (upd_health h (subW g)) (subW g)) (upd_health h (subW g))) (subW g)) (subW g)) (markInput_keeps (applyHealth_keeps (advanceTo_keeps (kept_ite_2 (indexHealth_keeps (upd_health h (subW g)) (subW g)) (upd_health h (subW g))) (subW g)) (subW g)) (subW g)))))

theorem drainHealth_keeps {d d0 : Dev} {mm : Nat} (h : Kept mm d0 d) (g : Sub 0x400010000000080000000040000040000000043c0e51800008000603bffffa077ffff4001e3860000080000037ffffff50000c0000000000000ffffffffffffc600000000004000800000000000001ffbe0000a00017018c003ff0000000200000000000000000000000000000004000107677059 mm) :
    Kept mm d0 (drainHealth d) := by
  unfold drainHealth; with_reducible exact forUpTo_keeps h (fun _ _ h1 => by (try dsimp only); split; exact (kept_ite h1 (evacuation_keeps h1 (subW g))); exact h1)

theorem showRefusal_keeps {e : TRef} {record : Nat} {d d0 : Dev} {mm : Nat} (h : Kept mm d0 d) (g : Sub 0x4000100000000000000000000000000000000000000000000000000000000000000000000000000000000000000000000000000000000000000000000000000000000000000000000000000000000000000000006780c000000000000000000000000000000000000000000000004000000003041 mm) :
    Kept mm d0 (showRefusal e record d) := by
  unfold showRefusal; with_reducible exact kept_ite (kept_ite (count_keeps (fire_keeps (wr_keeps (wr_keeps (wr_keeps (wr_keeps (wr_keeps (wr_keeps h (subW g)) (subW g)) (subW g)) (subW g)) (subW g)) (subW g)) (subW g)) (subW g) (subW g)) (count_keeps (fire_keeps (wr_keeps (wr_keeps (wr_keeps (wr_keeps (wr_keeps (wr_keeps h (subW g)) (subW g)) (subW g)) (subW g)) (subW g)) (subW g)) (subW g)) (subW g) (subW g))) (wr_keeps (wr_keeps (wr_keeps (wr_keeps (wr_keeps h (subW g)) (subW g)) (subW g)) (subW g)) (subW g))

theorem answer_keeps {member slot code firstBad at_ : Nat} {d d0 : Dev} {mm : Nat} (h : Kept mm d0 d) (g : Sub 0x2000000 mm) :
    Kept mm d0 (answer member slot code firstBad at_ d) := by
  unfold answer; with_reducible exact sendAllBut_keeps h (subW g)

theorem refuseLayer_keeps {m l : Nat} {e : TRef} {d d0 : Dev} {mm : Nat} (h : Kept mm d0 d) (g : Sub 0x4000100000000000000000000000000000000000000000000000018000000000000000000000800000000000000000000000000000000000000000000000000000000000000000000000000000000000000000006780c000000000000000000000000000000000000000000000004000002203041 mm) :
    Kept mm d0 (refuseLayer m l e d) := by
  unfold refuseLayer; with_reducible exact kept_ite (layerRefused_keeps (showRefusal_keeps h (subW g)) (subW g)) (answer_keeps (showRefusal_keeps h (subW g)) (subW g))

theorem withdraw_keeps {q : QSalvo} {d d0 : Dev} {mm : Nat} (h : Kept mm d0 d) (g : Sub 0x4000100000000000000000000000000000000000000000000000000000000000000000000000000000000000000000000000000000000000000000000000000000000000000000000000000000000000000000000010000000000019a000000000000000000000000000000000004000004003041 mm) :
    Kept mm d0 (withdraw q d) := by
  unfold withdraw; with_reducible exact kept_ite (notExecuted_keeps (wr_keeps (upd_tlr h (subW g)) (subW g)) (subW g)) (fire_keeps (wr_keeps (count_keeps (wr_keeps (wr_keeps (upd_tlr h (subW g)) (subW g)) (subW g)) (subW g) (subW g)) (subW g)) (subW g))

theorem dropSalvos_keeps {d d0 : Dev} {mm : Nat} (h : Kept mm d0 d) (g : Sub 0x400010000000080000000040000040000000043c0e51800008000003bffffa077ffff4001e3800000000000017ffffff50000c0000000000000ffffffffffffc600000000004000800000000000000000000000000100000003ef019a0002008c0000000000000000000000000004000107657041 mm) :
    Kept mm d0 (dropSalvos d) := by
  unfold dropSalvos; with_reducible exact showQueue_keeps (forEach_keeps (settle_keeps (upd_xpt (forEach_keeps h (fun _ _ h1 => withdraw_keeps h1 (subW g))) (subW g)) (subW g)) (fun _ _ h1 => kept_ite (notExecuted_keeps h1 (subW g)) (answer_keeps h1 (subW g)))) (subW g)

theorem showPlaceTime_keeps {us : Nat} {d d0 : Dev} {mm : Nat} (h : Kept mm d0 d) (g : Sub 0x600000000000000000000000000000000000000000000000000000000000001 mm) :
    Kept mm d0 (showPlaceTime us d) := by
  unfold showPlaceTime; with_reducible exact kept_ite (wr_keeps (wr_keeps h (subW g)) (subW g)) (wr_keeps h (subW g))

theorem resourceRelease_keeps {d d0 : Dev} {mm : Nat} (h : Kept mm d0 d) (g : Sub 0x400010000000080000000040000040000000043c0e51800008000003bffffa077ffff4001e3800000000000017ffffff50000c0000000000000ffffffffffffc600000000004000800000000000000000000000000000000003ef0000000200000000000000000000000000000004000107657059 mm) :
    Kept mm d0 (resourceRelease d) := by
  unfold resourceRelease; with_reducible exact by (try dsimp only); split; exact h; exact (upd_tlr (settle_keeps (advanceTo_keeps h (subW g)) (subW g)) (subW g))

theorem refuseSalvo_keeps {q : Posted} {code firstBad : Nat} {d d0 : Dev} {mm : Nat} (h : Kept mm d0 d) (g : Sub 0x40001000000000000000000000000000000000000000000000000000000000000000000000000000000000000000000000000000000000000000000000000000000000000000000000000000000000000000000000000000000001f81000000000000000000000000000000000004000002003041 mm) :
    Kept mm d0 (refuseSalvo q code firstBad d) := by
  unfold refuseSalvo; with_reducible exact fire_keeps (wr_keeps (kept_ite (setRes_keeps h (subW g)) (answer_keeps h (subW g))) (subW g)) (subW g)

theorem applyLayerInput_keeps {m l : Nat} {w : List Nat} {index latch : Nat} {announce : Bool} {p : Plan} {d d0 : Dev} {mm : Nat} (h : Kept mm d0 d) (g : Sub 0x40001000000000000000000000000000000000000000000000000600000000000000000000006000008000002000000000000000000000000000000000000000000000000000000000000000000000000000008000150000000000000000000000000000000000000000000000004000006223041 mm) :
    Kept mm d0 (applyLayerInput m l w index latch announce p d) := by
  unfold applyLayerInput; with_reducible exact kept_ite (setLayerRun_keeps (applyLayers_keeps (markInput_keeps (noteInput_keeps (finishInput_keeps h (subW g)) (subW g)) (subW g)) (subW g)) (subW g)) (applyLayers_keeps (markInput_keeps (noteInput_keeps (finishInput_keeps h (subW g)) (subW g)) (subW g)) (subW g))

theorem decideLayer_keeps {m l : Nat} {w : List Nat} {us : Nat} {d d0 : Dev} {mm : Nat} (h : Kept mm d0 d) (g : Sub 0x4000100000000000000000000000000000000000000000000000078000000000000000000000e000008000002000000000000000000000000000000000000000000000000000000000000000000000000000008067f5c000000000000000000000000000000000000000000000004000006227059 mm) :
    Kept mm d0 (decideLayer m l w us d) := by
  unfold decideLayer; with_reducible exact by (try dsimp only); split; exact (refuseLayer_keeps (showPlaceTime_keeps (upd_xpt (advanceTo_keeps h (subW g)) (subW g)) (subW g)) (subW g)); exact (applyLayerInput_keeps (showPlaceTime_keeps (upd_xpt (advanceTo_keeps h (subW g)) (subW g)) (subW g)) (subW g))

theorem launchSalvos_keeps {d d0 : Dev} {mm : Nat} (h : Kept mm d0 d) (g : Sub 0x400010000000080000000040000040000000043c0e51800008000003bffffa077ffff4001e3800000000000017ffffff50000c0000000000000ffffffffffffc600000000004000800000000000001ffbe000000000001ac013ff00000002009c0000000000000000000000000004000117657059 mm) :
    Kept mm d0 (launchSalvos d) := by
  unfold launchSalvos; with_reducible exact by (try dsimp only); split; exact h; exact (kept_ite h (launch_keeps (settle_keeps (advanceTo_keeps h (subW g)) (subW g)) (subW g)))

theorem queueSalvo_keeps {q : Posted} {xs : List Rec} {l : Nat} {late deferred : Bool} {index : Nat} {p : Plan} {d d0 : Dev} {mm : Nat} (h : Kept mm d0 d) (g : Sub 0x4000100000000000000000000000000000000000000000000000060000000000000000000000600000800000200000000000000000000000000000000000000000000000000000000000000000000000000000800015000000000df84000000ac5000000000000000000000000004000004227041 mm) :
    Kept mm d0 (queueSalvo q xs l late deferred index p d) := by
  unfold queueSalvo; with_reducible exact applyLayers_keeps (kept_ite (setRes_keeps (wr_keeps (wr_keeps (kept_ite (wr_keeps (kept_ite (fire_keeps (count_keeps (wr_keeps (wr_keeps (showQueue_keeps (upd_xpt (finishInput_keeps h (subW g)) (subW g)) (subW g)) (subW g)) (subW g)) (subW g) (subW g)) (subW g)) (wr_keeps (showQueue_keeps (upd_xpt (finishInput_keeps h (subW g)) (subW g)) (subW g)) (subW g))) (subW g)) (kept_ite (fire_keeps (count_keeps (wr_keeps (wr_keeps (showQueue_keeps (upd_xpt (finishInput_keeps h (subW g)) (subW g)) (subW g)) (subW g)) (subW g)) (subW g) (subW g)) (subW g)) (wr_keeps (showQueue_keeps (upd_xpt (finishInput_keeps h (subW g)) (subW g)) (subW g)) (subW g)))) (subW g)) (subW g)) (subW g)) (kept_ite (wr_keeps (kept_ite (fire_keeps (count_keeps (wr_keeps (wr_keeps (showQueue_keeps (upd_xpt (finishInput_keeps h (subW g)) (subW g)) (subW g)) (subW g)) (subW g)) (subW g) (subW g)) (subW g)) (wr_keeps (showQueue_keeps (upd_xpt (finishInput_keeps h (subW g)) (subW g)) (subW g)) (subW g))) (subW g)) (kept_ite (fire_keeps (count_keeps (wr_keeps (wr_keeps (showQueue_keeps (upd_xpt (finishInput_keeps h (subW g)) (subW g)) (subW g)) (subW g)) (subW g)) (subW g) (subW g)) (subW g)) (wr_keeps (showQueue_keeps (upd_xpt (finishInput_keeps h (subW g)) (subW g)) (subW g)) (subW g))))) (subW g)

theorem decideSalvo_keeps {q : Posted} {d d0 : Dev} {mm : Nat} (h : Kept mm d0 d) (g : Sub 0x4000100000000000000000000000000000000000000000000000060000000000000000000000600000800000200000000000000000000000000000000000000000000000000000000000000000000000000000806795c00000000df85000000ec7000000000000000000000000004000006227041 mm) :
    Kept mm d0 (decideSalvo q d) := by
  unfold decideSalvo; with_reducible exact by (try dsimp only); split; exact (kept_ite (setRes_keeps (wr_keeps h (subW g)) (subW g)) (answer_keeps h (subW g))); exact (by (try dsimp only); split; exact (refuseSalvo_keeps h (subW g)); exact (by (try dsimp only); split; exact (refuseSalvo_keeps (showRefusal_keeps h (subW g)) (subW g)); exact (kept_ite (refuseSalvo_keeps h (subW g)) (kept_ite (refuseSalvo_keeps (fire_keeps (count_keeps (wr_keeps h (subW g)) (subW g) (subW g)) (subW g)) (subW g)) (markInput_keeps (noteInput_keeps (queueSalvo_keeps h (subW g)) (subW g)) (subW g))))))

theorem dualWriteStart_keeps {d d0 : Dev} {mm : Nat} (h : Kept mm d0 d) (g : Sub 0x3ef0000000000000000000000000000000000000000000006004019 mm) :
    Kept mm d0 (dualWriteStart d) := by
  unfold dualWriteStart; with_reducible exact by (try dsimp only); split; exact h; exact (kept_ite h (kept_ite (setMig_keeps (advanceTo_keeps h (subW g)) (subW g)) (kept_ite (applySeam_keeps (setMig_keeps (advanceTo_keeps h (subW g)) (subW g)) (subW g)) (kept_ite (by (try dsimp only); split; exact (occupy_keeps (setMig_keeps (advanceTo_keeps h (subW g)) (subW g)) (subW g)); exact (setMig_keeps (advanceTo_keeps h (subW g)) (subW g))) (setMig_keeps (advanceTo_keeps h (subW g)) (subW g))))))

theorem lateByStep_keeps {d d0 : Dev} {mm : Nat} (h : Kept mm d0 d) (g : Sub 0x40001000000000000000000000000000000000000000000000000000000000000000000000000000000000000000000000000000000000000000000000000000000000000000000000000000000000000000000000000000000000200000000201000000000000000000000000004000000007041 mm) :
    Kept mm d0 (lateByStep d) := by
  unfold lateByStep; with_reducible exact kept_ite h (forEach_keeps (fire_keeps (count_keeps (wr_keeps (upd_xpt h (subW g)) (subW g)) (subW g) (subW g)) (subW g)) (fun _ _ h1 => withRes_keeps h1 (fun _ h2 => wr_keeps h2 (subW g)) (subW g)))

theorem nextWaiting_keeps {d d0 : Dev} {mm : Nat} (h : Kept mm d0 d) (g : Sub 0x4000000 mm) :
    Kept mm d0 (nextWaiting d) := by
  unfold nextWaiting; with_reducible exact by (try dsimp only); split; exact (kept_ite (setMig_keeps h (subW g)) h); exact h

theorem followSalvo_keeps {q : Posted} {index l : Nat} {d d0 : Dev} {mm : Nat} (h : Kept mm d0 d) (g : Sub 0x4000100000000000000000000000000000000000000000000000060000000000000000000000600000800000200000000000000000000000000000000000000000000000000000000000000000000000000000806795c00000000df84000000ad5000000000000000000000000004000004227041 mm) :
    Kept mm d0 (followSalvo q index l d) := by
  unfold followSalvo; with_reducible exact kept_ite (kept_ite (setRes_keeps (fire_keeps (wr_keeps h (subW g)) (subW g)) (subW g)) (fire_keeps (wr_keeps h (subW g)) (subW g))) (by (try dsimp only); split; exact (queueSalvo_keeps h (subW g)); exact (kept_ite (setRes_keeps (showRefusal_keeps h (subW g)) (subW g)) (showRefusal_keeps h (subW g))))

theorem layerInput_keeps {l us : Nat} {d d0 : Dev} {mm : Nat} (h : Kept mm d0 d) (g : Sub 0x400010000000080000000040000040000000043c0e51800008000783bffffa077ffff4001e38e0000080000037ffffff50000c0000000000000ffffffffffffc600000000004000800000000000001ffbe0000a067f7c18c003ff0000000200000000000000000000000000000004000107677059 mm) :
    Kept mm d0 (layerInput l us d) := by
  unfold layerInput; with_reducible exact kept_ite h (by (try dsimp only); split; exact (decideLayer_keeps (upd_tlr (drainHealth_keeps h (subW g)) (subW g)) (subW g)); exact (kept_ite (drainHealth_keeps h (subW g)) (kept_ite (decideLayer_keeps (drainHealth_keeps h (subW g)) (subW g)) (by (try dsimp only); split; exact (sendMsg_keeps (drainHealth_keeps h (subW g)) (subW g)); exact (drainHealth_keeps h (subW g))))))

theorem salvoAcceptance_keeps {us : Nat} {d d0 : Dev} {mm : Nat} (h : Kept mm d0 d) (g : Sub 0x400010000000080000000040000040000000043c0e51800008000603bffffa077ffff4001e3860000080000037ffffff50000c0000000000000ffffffffffffc600000000004000800000000000001ffbe0000a067f7c18c003ffdf85000200ec7000000000000000000000000004000107677059 mm) :
    Kept mm d0 (salvoAcceptance us d) := by
  unfold salvoAcceptance; with_reducible exact kept_ite h (by (try dsimp only); split; exact h; exact (kept_ite (by (try dsimp only); split; exact (sendMsg_keeps (upd_xpt h (subW g)) (subW g)); exact h) (showPlaceTime_keeps (decideSalvo_keeps (upd_xpt (advanceTo_keeps (drainHealth_keeps h (subW g)) (subW g)) (subW g)) (subW g)) (subW g))))

theorem restartMigs_keeps {d d0 : Dev} {mm : Nat} (h : Kept mm d0 d) (g : Sub 0x4000000 mm) :
    Kept mm d0 (restartMigs d) := by
  unfold restartMigs; with_reducible exact upd_tlr h (subW g)

theorem migrationRelease_keeps {d d0 : Dev} {mm : Nat} (h : Kept mm d0 d) (g : Sub 0x3ef0000000000000000000000000000000000000000000006004019 mm) :
    Kept mm d0 (migrationRelease d) := by
  unfold migrationRelease; with_reducible exact by (try dsimp only); split; exact h; exact (nextWaiting_keeps (kept_ite (upd_tlr (advanceTo_keeps h (subW g)) (subW g)) (kept_ite (applySeam_keeps (upd_tlr (advanceTo_keeps h (subW g)) (subW g)) (subW g)) (kept_ite (vacate_keeps (upd_tlr (advanceTo_keeps h (subW g)) (subW g)) (subW g)) (upd_tlr (advanceTo_keeps h (subW g)) (subW g))))) (subW g))

theorem restoreMask_keeps {ws : List Nat} {d d0 : Dev} {mm : Nat} (h : Kept mm d0 d) (g : Sub 0x780000000000000000000000000000000000000000000000000000000000000000000000000000000000000000000000000000000000000000000000000000000000000000000000000000000000000000000000000000000000000000000000000000001 mm) :
    Kept mm d0 (restoreMask ws d) := by
  unfold restoreMask; with_reducible exact by (try dsimp only); split; exact (wr_keeps (wr_keeps (wr_keeps (wr_keeps h (subW g)) (subW g)) (subW g)) (subW g)); exact h

theorem restoreLayer_keeps {l : Nat} {ws : List Nat} {d d0 : Dev} {mm : Nat} (h : Kept mm d0 d) (g : Sub 0x7ffffffafffffff40000000000000000000000000000000000000000000000000000000000000000000000000000000000000000000000000000000000000000000000000000000000000000000000000000000000000000001 mm) :
    Kept mm d0 (restoreLayer l ws d) := by
  unfold restoreLayer; with_reducible exact forEach_keeps (forEach_mem_keeps h (fun _ m1 _ h1 => wr_keeps (wr_keeps h1 (subL2 g m1)) (subL1 g m1))) (fun _ _ h1 => wr_keeps (wr_keeps (wr_keeps (wr_keeps h1 (subW g)) (subW g)) (subW g)) (subW g))

theorem restoreBank_keeps {prog : Bool} {k : Nat} {ws : List Nat} {d d0 : Dev} {mm : Nat} (h : Kept mm d0 d) (g : Sub 0x1e7e000000000000000000000000000000000000000000000000000000000000000000000000000000000000000000000000000000000000000000000000000000000000000000000000000000000000000000000000000000000001 mm) :
    Kept mm d0 (restoreBank prog k ws d) := by
  unfold restoreBank
  have hb : ∀ j, Nat.testBit 0x1e7e000000000000000000000000000000000000000000000000000000000000000000000000000000000000000000000000000000000000000000000000000000000000000000000000000000000000000000000000000000000001 (33 + keyNo j) = false → bankFlds.any (fun f => f.no == keyNo j) = false := by
    intro j hk
    have := List.all_eq_true.mp (show (List.range 1024).all (fun r => Nat.testBit 0x1e7e000000000000000000000000000000000000000000000000000000000000000000000000000000000000000000000000000000000000000000000000000000000000000000000000000000000000000000000000000000000001 (33 + r) || !bankFlds.any (fun f => f.no == r)) = true by decide)
      (keyNo j) (List.mem_range.mpr (Nat.mod_lt _ (by decide)))
    rw [hk, Bool.false_or, Bool.not_eq_true'] at this
    exact this
  refine regs_keeps (M := 0x1e7e000000000000000000000000000000000000000000000000000000000000000000000000000000000000000000000000000000000000000000000000000000000000000000000000000000000000000000000000000000000001) h (fun c => ?_) (fun j hk => ?_) (subW g)
  · exact foldl_holds (P := fun t => tabWf 0 t = true) (tabWf_filter _ _ _ c) (fun a x ha => tabWf_set _ _ _ _ ha)
  · refine foldl_mem_holds (P := fun t => tabGet 0 t j = tabGet 0 d.regs j) ?_ (fun a x hx ha => ?_)
    · have e := tabGet_filter (fun key => !(bankFlds.any (fun f => f.no == keyNo key) && (bankRanges prog k).any (fun r => decide (r.1 ≤ regAddr key ∧ regAddr key < r.2)))) d.regs j
      rw [hb j hk] at e
      simpa using e
    · rw [tabGet_set_ne _ _ _ (fun he => ?_)]
      · exact ha
      · have hx2 := (List.mem_filter.mp hx).2
        simp only [← he, hb j hk] at hx2
        simp at hx2


theorem restoreGather_keeps {ws : List Nat} {d d0 : Dev} {mm : Nat} (h : Kept mm d0 d) (g : Sub 0x20070000000000000000000000000000000000000000000000000000000000000000000000000000000000000000000000000000000000000000000000000000000000000000000000000000000000000000000000000000000000001000001 mm) :
    Kept mm d0 (restoreGather ws d) := by
  unfold restoreGather; with_reducible exact by (try dsimp only); split; exact (putGain_keeps h (subW g)); exact (setGth_keeps (forEach_keeps h (fun _ _ h1 => wr_keeps h1 (subW g))) (subW g)); exact (setGout_keeps (forUpTo_keeps (wr_keeps (wr_keeps (wr_keeps h (subW g)) (subW g)) (subW g)) (fun _ _ h1 => setBq_keeps h1 (subW g))) (subW g)); exact h

theorem restoreItem_keeps {x : JItem} {d d0 : Dev} {mm : Nat} (h : Kept mm d0 d) (g : Sub 0x780000000020070001e7e07ffffffafffffff40000000000000000000000000000000000000000000000000000000000000000000000000000000000000000000000000000000000000000000000000000000000000000000000000000000000001000001 mm) :
    Kept mm d0 (restoreItem x d) := by
  unfold restoreItem; with_reducible exact by (try dsimp only); split; exact (restoreLayer_keeps h (subW g)); exact (restoreBank_keeps h (subW g)); exact (restoreGather_keeps h (subW g)); exact (restoreMask_keeps h (subW g)); exact h

theorem beforeReplay_keeps {items : List JItem} {d d0 : Dev} {mm : Nat} (h : Kept mm d0 d) (g : Sub 0x780000000020070001e7e07ffffffafffffff40000000000000000000000000000000000000000000000000000000000000000000000000000000000000000000000000000000000000000000000000000000000000000000000000000000000105000001 mm) :
    Kept mm d0 (beforeReplay items d) := by
  unfold beforeReplay; with_reducible exact upd_many (n := 0x104000000) (forEach_keeps h (fun _ _ h1 => restoreItem_keeps h1 (subW g))) (by constructor <;> intro y <;> first | rfl | exact canon_upd y rfl | exact fun _ => rfl | exact sticky_of_regs rfl | exact inst_any (by decide) | exact sticky_any (by decide) y | exact absurd y (by decide)) (subW g)

theorem applyMap_keeps {d d0 : Dev} {mm : Nat} (h : Kept mm d0 d) (g : Sub 0x400010000000080000000040000040000000043c0e51800008000603bffffa077ffff4001e3860000080000037ffffff50000c0000000000000ffffffffffffc600000000004000800000000000001ffbe0000000000018c003ff0000000200000000000000000000000000000004000107677041 mm) :
    Kept mm d0 (applyMap d) := by
  unfold applyMap; with_reducible exact applyLayers_keeps (forEach_keeps (settle_keeps (forEach_keeps h (fun _ _ h1 => wakeChannel_keeps h1 (subW g))) (subW g)) (fun _ _ h1 => applyPlace_keeps h1 (subW g))) (subW g)

theorem settleStart_keeps {durable : Nat} {t : Tlr} {d d0 : Dev} {mm : Nat} (h : Kept mm d0 d) (g : Sub 0x400010000000080000000040000040000000043c0e51800008000603bffffa077ffff4001e3860000080000037ffffff50000c0000000000000ffffffffffffc600000000004000800000000000001ffbe0000000014018c003ff0000000200000000000000000000000000008004000107677041 mm) :
    Kept mm d0 (settleStart durable t d) := by
  unfold settleStart; with_reducible exact applyMap_keeps (kept_ite (wr_keeps (wr_keeps (upd_tlr h (subW g)) (subW g)) (subW g)) (fire_keeps (wr_keeps (wr_keeps (wr_keeps (upd_tlr h (subW g)) (subW g)) (subW g)) (subW g)) (subW g))) (subW g)

theorem noteRestore_keeps {usable : Bool} {r : Replay} {d d0 : Dev} {mm : Nat} (h : Kept mm d0 d) (g : Sub 0x40001000000000000000000000000000000000000000000000000000000000000000000000000000000000000000000000000000000000000000000000000000000000000000000000000000000000000000000000000000000000004000000000000000000000000000000cc0404000002007041 mm) :
    Kept mm d0 (noteRestore usable r d) := by
  unfold noteRestore; with_reducible exact markInput_keeps (kept_ite (wr_keeps (forUpTo_keeps (kept_ite (wr_keeps (wr_keeps (wr_keeps (upd_many (n := 0x2004000) h (by constructor <;> intro y <;> first | rfl | exact canon_upd y rfl | exact fun _ => rfl | exact sticky_of_regs rfl | exact inst_any (by decide) | exact sticky_any (by decide) y | exact absurd y (by decide)) (subW g)) (subW g)) (subW g)) (subW g)) (wr_keeps (wr_keeps (wr_keeps (wr_keeps (upd_many (n := 0x2004000) h (by constructor <;> intro y <;> first | rfl | exact canon_upd y rfl | exact fun _ => rfl | exact sticky_of_regs rfl | exact inst_any (by decide) | exact sticky_any (by decide) y | exact absurd y (by decide)) (subW g)) (subW g)) (subW g)) (subW g)) (subW g))) (fun _ _ h1 => fire_keeps h1 (subW g))) (subW g)) (fire_keeps (wr_keeps (wr_keeps (forUpTo_keeps (kept_ite (wr_keeps (wr_keeps (wr_keeps (upd_many (n := 0x2004000) h (by constructor <;> intro y <;> first | rfl | exact canon_upd y rfl | exact fun _ => rfl | exact sticky_of_regs rfl | exact inst_any (by decide) | exact sticky_any (by decide) y | exact absurd y (by decide)) (subW g)) (subW g)) (subW g)) (subW g)) (wr_keeps (wr_keeps (wr_keeps (wr_keeps (upd_many (n := 0x2004000) h (by constructor <;> intro y <;> first | rfl | exact canon_upd y rfl | exact fun _ => rfl | exact sticky_of_regs rfl | exact inst_any (by decide) | exact sticky_any (by decide) y | exact absurd y (by decide)) (subW g)) (subW g)) (subW g)) (subW g)) (subW g))) (fun _ _ h1 => fire_keeps h1 (subW g))) (subW g)) (subW g)) (subW g))) (subW g)

theorem startUp_keeps {restore : Bool} {d d0 : Dev} {mm : Nat} (h : Kept mm d0 d) (g : Sub 0x400010000000080000000040000040007800043c0e71870009e7e67ffffffafffffff4001e3860000080000037ffffff50000c0000000000000ffffffffffffc600000000004000800000000000001ffbe000000001401acff3ff0004000200000000000000000000000000cc8404000107677041 mm) :
    Kept mm d0 (startUp restore d) := by
  have hr : ∀ (w : List Nat) (r : Replay), Kept mm d0 r.d → Kept mm d0 (replayRecord w r).d := by
    intro w r hr
    have hi : ∀ (c : Prop) [Decidable c] (a b : Replay), Kept mm d0 a.d → Kept mm d0 b.d → Kept mm d0 (if c then a else b).d := by
      intro c _ a b ha hb
      split
      · exact ha
      · exact hb
    have hp := putRecord_keeps (x := recOf { w0 := w.getD 0 0, w1 := w.getD 1 0, w2 := w.getD 2 0, w3 := w.getD 3 0 }) hr (subW g)
    unfold replayRecord
    refine hi _ _ _ hr ?_
    dsimp only
    split
    · exact applyFormat_keeps (applyPolicy_keeps hp (subW g)) (subW g)
    · exact hp
  have ha : ∀ (xs : List JItem) (e : Dev), Kept mm d0 e → Kept mm d0 (replayAll xs e).d :=
    fun xs e h => forEach_holds (P := fun r : Replay => Kept mm d0 r.d) h (fun x r h => hr _ r h)
  unfold startUp
  have hs := settleStart_keeps (durable := lastDurable (routeOf d)) (t := settleFresh (replayAll (restoredItems restore d) (beforeReplay (restoredItems restore d) d)).p.t)
    (ha (restoredItems restore d) _ (beforeReplay_keeps (items := restoredItems restore d) h (subW g))) (subW g)
  exact kept_ite (noteRestore_keeps hs (subW g)) hs


theorem setSlot_keeps {k : Nat} {x : Slot} {d d0 : Dev} {mm : Nat} (h : Kept mm d0 d) (g : Sub 0x20000000 mm) :
    Kept mm d0 (setSlot k x d) := by
  unfold setSlot; with_reducible exact upd_nv h (subW g)

theorem setRoute_keeps {x : Route} {d d0 : Dev} {mm : Nat} (h : Kept mm d0 d) (g : Sub 0x20000000 mm) :
    Kept mm d0 (setRoute x d) := by
  unfold setRoute; with_reducible exact setSlot_keeps h (subW g)

theorem handoverDone_keeps {n : Nat} {d d0 : Dev} {mm : Nat} (h : Kept mm d0 d) (g : Sub 0x400010000001000103e020000000000000000000000000000000000000000000000000000000000000000000000000000000000000000000000000000000000000000000000000000000000000000000000000000000000000000019a000000000000000000000000000000000004000002003041 mm) :
    Kept mm d0 (handoverDone n d) := by
  unfold handoverDone; with_reducible exact kept_ite (followMaster_keeps (wr_keeps (upd_sea h (subW g)) (subW g)) (subW g)) h

theorem compareDigest_keeps {n v : Nat} {d d0 : Dev} {mm : Nat} (h : Kept mm d0 d) (g : Sub 0x400010000003000903e030000000000000000000000000000000000000000000000000000000000000000000000000000000000000000000000000000000000000000000000000000000000000000000000000000000000000000019a000000000000000000000000000000000004000102003041 mm) :
    Kept mm d0 (compareDigest n v d) := by
  unfold compareDigest; with_reducible exact kept_ite (handoverDone_keeps (kept_ite (raiseHealth_keeps (wr_keeps (setSeaLink_keeps h (subW g)) (subW g)) (subW g)) (wr_keeps (setSeaLink_keeps h (subW g)) (subW g))) (subW g)) (fire_keeps (count_keeps (wr_keeps (wr_keeps (setSeaLink_keeps h (subW g)) (subW g)) (subW g)) (subW g) (subW g)) (subW g))

theorem digestArrives_keeps {n v at_ : Nat} {d d0 : Dev} {mm : Nat} (h : Kept mm d0 d) (g : Sub 0x400010000003000903e030000000000000000000000000000000000000000000000000000000000000000000000000000000000000000000000000000000000000000000000000000000000000000000000000000000000000000019a000000000000000000000000000000000004000102003041 mm) :
    Kept mm d0 (digestArrives n v at_ d) := by
  unfold digestArrives; with_reducible exact kept_ite (compareDigest_keeps h (subW g)) (kept_ite (setSeaLink_keeps h (subW g)) h)

theorem sendTwin_keeps {b : SeaBody} {d d0 : Dev} {mm : Nat} (h : Kept mm d0 d) (g : Sub 0x2000000 mm) :
    Kept mm d0 (sendTwin b d) := by
  unfold sendTwin; with_reducible exact forUpTo_keeps h (fun _ _ h1 => kept_ite (sendMsg_keeps h1 (subW g)) h1)

theorem twinBoundary_keeps {fam : Nat} {d d0 : Dev} {mm : Nat} (h : Kept mm d0 d) (g : Sub 0x2000000 mm) :
    Kept mm d0 (twinBoundary fam d) := by
  unfold twinBoundary; with_reducible exact kept_ite h (sendTwin_keeps h (subW g))

theorem takeDest_keeps {x : DstDesc} {td : TDest} {d d0 : Dev} {mm : Nat} (h : Kept mm d0 d) (g : Sub 0xff0000000000000000000000000000000000000000000000000004001 mm) :
    Kept mm d0 (takeDest x td d) := by
  unfold takeDest; with_reducible exact upd_xpt (wr_keeps (wr_keeps (wr_keeps (wr_keeps (wr_keeps (wr_keeps (wr_keeps (wr_keeps h (subW g)) (subW g)) (subW g)) (subW g)) (subW g)) (subW g)) (subW g)) (subW g)) (subW g)

theorem handoverAsked_keeps {d d0 : Dev} {mm : Nat} (h : Kept mm d0 d) (g : Sub 0x2000000 mm) :
    Kept mm d0 (handoverAsked d) := by
  unfold handoverAsked; with_reducible exact kept_ite (upd_sea h (subW g)) h

theorem resyncFails_keeps {d d0 : Dev} {mm : Nat} (h : Kept mm d0 d) (g : Sub 0x8000000000000000000000000000000000000000000000000000000000000000000000000000000000000000000000000000000000000000000000000000000000000000000000000000000000000000000000000000000000000000000000000000000000000000002000001 mm) :
    Kept mm d0 (resyncFails d) := by
  unfold resyncFails; with_reducible exact wr_keeps (upd_sea h (subW g)) (subW g)

theorem applyImage_keeps {img : StateImage} {d d0 : Dev} {mm : Nat} (h : Kept mm d0 d) (g : Sub 0x400010000000080000000040000040000000043c0e51800008000603bffffa077ffff4001e3860000080000037ffffff50000c0000000000000ffffffffffffc600000000004000800000000000001ffbe0000000010018cff3ff0004000200000000000000000000000000000004000107677041 mm) :
    Kept mm d0 (applyImage img d) := by
  unfold applyImage; with_reducible exact markInput_keeps (applyMap_keeps (upd_sea (forEach_keeps (wr_keeps (wr_keeps (upd_many (n := 0x6004000) (forEach_keeps h (fun _ _ h1 => freeItem_keeps h1 (subW g))) (by constructor <;> intro y <;> first | rfl | exact canon_upd y rfl | exact fun _ => rfl | exact sticky_of_regs rfl | exact inst_any (by decide) | exact sticky_any (by decide) y | exact absurd y (by decide)) (subW g)) (subW g)) (subW g)) (fun _ _ h1 => takeDest_keeps h1 (subW g))) (subW g)) (subW g)) (subW g)

theorem applyAnnounced_keeps {index at_ : Nat} {i : PInput} {d d0 : Dev} {mm : Nat} (h : Kept mm d0 d) (g : Sub 0x400010000000080000000040000040000000043c0e51800008000603bffffa077ffff4001e3860000080000037ffffff50000c0000000000000ffffffffffffc600000000004000800000000000001ffbe0000a06797c18c003ffdf84000200ad5000000000000000000000000004000107677059 mm) :
    Kept mm d0 (applyAnnounced index at_ i d) := by
  unfold applyAnnounced; with_reducible exact by (try dsimp only); split; exact (markInput_keeps (followSalvo_keeps (noteInput_keeps (drainHealth_keeps h (subW g)) (subW g)) (subW g)) (subW g)); exact (by (try dsimp only); split; exact (applyLayerInput_keeps (drainHealth_keeps h (subW g)) (subW g)); exact (markInput_keeps (showRefusal_keeps (noteInput_keeps (drainHealth_keeps h (subW g)) (subW g)) (subW g)) (subW g))); exact (noteInput_keeps (upd_health h (subW g)) (subW g)); exact h

theorem applyWaiting_keeps {d d0 : Dev} {mm : Nat} (h : Kept mm d0 d) (g : Sub 0x400010000000080000000040000040000000043c0e51800008000603bffffa077ffff4001e3860000080000037ffffff50000c0000000000000ffffffffffffc600000000004000800000000000001ffbe0000a06797c18c003ffdf84000200ad5000000000000000000000000004000107677059 mm) :
    Kept mm d0 (applyWaiting d) := by
  unfold applyWaiting; with_reducible exact kept_ite (upd_sea (upd_sea (forUpTo_keeps h (fun _ _ h1 => kept_ite h1 (by (try dsimp only); split; exact (applyAnnounced_keeps (upd_sea h1 (subW g)) (subW g)); exact h1))) (subW g)) (subW g)) (kept_ite (upd_sea (upd_sea (forUpTo_keeps h (fun _ _ h1 => kept_ite h1 (by (try dsimp only); split; exact (applyAnnounced_keeps (upd_sea h1 (subW g)) (subW g)); exact h1))) (subW g)) (subW g)) (upd_sea (forUpTo_keeps h (fun _ _ h1 => kept_ite h1 (by (try dsimp only); split; exact (applyAnnounced_keeps (upd_sea h1 (subW g)) (subW g)); exact h1))) (subW g)))

theorem resyncApply_keeps {d d0 : Dev} {mm : Nat} (h : Kept mm d0 d) (g : Sub 0x4000100000000800c0000040000040000000043c0e51800008000603bffffa077ffff4001e3860000080000037ffffff50000c0000000000000ffffffffffffc600000000004000800000000000001ffbe0000a06797c18cff3ffdf84000200ad5000000000000000000000000484000147677059 mm) :
    Kept mm d0 (resyncApply d) := by
  unfold resyncApply; with_reducible exact by (try dsimp only); split; exact h; exact (kept_ite (resyncFails_keeps h (subW g)) h); exact (kept_ite (resyncFails_keeps h (subW g)) (applyWaiting_keeps (upd_sea (kept_ite (upd_boot (wr_keeps (wr_keeps (wr_keeps (applyImage_keeps (advanceTo_keeps h (subW g)) (subW g)) (subW g)) (subW g)) (subW g)) (subW g)) (wr_keeps (applyImage_keeps (advanceTo_keeps h (subW g)) (subW g)) (subW g))) (subW g)) (subW g)))

theorem takeAnswer_keeps {slot code firstBad at_ : Nat} {d d0 : Dev} {mm : Nat} (h : Kept mm d0 d) (g : Sub 0x40001000000000000000000000000000000000000000000000000180000000000000000000008000000000000000000000000000000000000000000000000000000000000000000000000000000000000000000000000000000009f9b000000000000000000000000000000000004000000203041 mm) :
    Kept mm d0 (takeAnswer slot code firstBad at_ d) := by
  unfold takeAnswer; with_reducible exact kept_ite (kept_ite h (kept_ite (setRes_keeps (wr_keeps h (subW g)) (subW g)) (kept_ite (notExecuted_keeps h (subW g)) (fire_keeps (wr_keeps (setRes_keeps h (subW g)) (subW g)) (subW g))))) (kept_ite (layerRefused_keeps h (subW g)) h)

theorem forwarded_keeps {n : Nat} {i : PInput} {d d0 : Dev} {mm : Nat} (h : Kept mm d0 d) (g : Sub 0x40001000000000000000000000000000000000000000000000000180000000000000000000008000000000000000000000000000000000000000000000000000000000000000000000000000000000000000000000000000000009f9b000000000000000000000000000000000004000106207041 mm) :
    Kept mm d0 (forwarded n i d) := by
  unfold forwarded; with_reducible exact by (try dsimp only); split; exact (kept_ite (takeAnswer_keeps h (subW g)) (kept_ite h (sendAllBut_keeps h (subW g)))); exact (kept_ite (by (try dsimp only); split; exact (sendMsg_keeps h (subW g)); exact h) (by (try dsimp only); split; exact (kept_ite (answer_keeps h (subW g)) (upd_xpt h (subW g))); exact (upd_tlr h (subW g)); exact (kept_ite (healthQuiet_keeps h (subW g)) (upd_health (indexHealth_keeps h (subW g)) (subW g))); exact h))

theorem twinArrives_keeps {choices seqs : List (Nat × Nat)} {d d0 : Dev} {mm : Nat} (h : Kept mm d0 d) (g : Sub 0x2010000 mm) :
    Kept mm d0 (twinArrives choices seqs d) := by
  unfold twinArrives; with_reducible exact upd_sea (forEach_keeps h (fun _ _ h1 => setSyncRun_keeps h1 (subW g))) (subW g)

theorem fabricWaitTimeout_keeps {d d0 : Dev} {mm : Nat} (h : Kept mm d0 d) (g : Sub 0x40001000000000000000000000000000000000000000000000000000000000000000000000000000000000000000000000000000000000000000000000000000000000000000000000000000000000000000000000000000000000000000000000000000000000000000004000004000040003059 mm) :
    Kept mm d0 (fabricWaitTimeout d) := by
  unfold fabricWaitTimeout; with_reducible exact kept_ite h (fire_keeps (wr_keeps (upd_boot (advanceDev_keeps h (subW g)) (subW g)) (subW g)) (subW g))

theorem gapTimeout_keeps {d d0 : Dev} {mm : Nat} (h : Kept mm d0 d) (g : Sub 0x40001000000000000000000000000000000000000000000000000000000000000000000000000000000000000000000000000000000000000000000000000000000000000000000000000000000000000000000000080000000000000000000000000000000000000000000000004000002003059 mm) :
    Kept mm d0 (gapTimeout d) := by
  unfold gapTimeout; with_reducible exact kept_ite h (fire_keeps (wr_keeps (sendAllBut_keeps (upd_sea (advanceDev_keeps h (subW g)) (subW g)) (subW g)) (subW g)) (subW g))

theorem twinChoice_keeps {n before : Nat} {d d0 : Dev} {mm : Nat} (h : Kept mm d0 d) (g : Sub 0x2000000 mm) :
    Kept mm d0 (twinChoice n before d) := by
  unfold twinChoice; with_reducible exact kept_ite (sendTwin_keeps h (subW g)) h

theorem stateAsked_keeps {n : Nat} {d d0 : Dev} {mm : Nat} (h : Kept mm d0 d) (g : Sub 0x2000000 mm) :
    Kept mm d0 (stateAsked n d) := by
  unfold stateAsked; with_reducible exact kept_ite (kept_ite (sendMsg_keeps h (subW g)) h) (by (try dsimp only); split; exact (sendMsg_keeps (upd_sea h (subW g)) (subW g)); exact h)

theorem askState_keeps {d d0 : Dev} {mm : Nat} (h : Kept mm d0 d) (g : Sub 0x2000000 mm) :
    Kept mm d0 (askState d) := by
  unfold askState; with_reducible exact kept_ite h (by (try dsimp only); split; exact (sendMsg_keeps (upd_sea h (subW g)) (subW g)); exact h)

theorem resync_keeps {d d0 : Dev} {mm : Nat} (h : Kept mm d0 d) (g : Sub 0x8000000000000000000000000000000000000000000000000000000000000000000000000000000000000000000000000000000000000000000000000000000000000000000000000000000000000000000000000000000000000000000000000000000000000000002000001 mm) :
    Kept mm d0 (resync d) := by
  unfold resync; with_reducible exact kept_ite (resyncFails_keeps h (subW g)) (askState_keeps h (subW g))

theorem announced_keeps {n index at_ : Nat} {i : PInput} {d d0 : Dev} {mm : Nat} (h : Kept mm d0 d) (g : Sub 0x400010000000080000000040000040000000043c0e51800008000603bffffa077ffff4001e3860000080000037ffffff50000c0000000000000ffffffffffffc600000000004000800000000000001ffbe0000a06797c18c003ffdf840002c0add000000000000000000000000004000107677059 mm) :
    Kept mm d0 (announced n index at_ i d) := by
  unfold announced; with_reducible exact kept_ite h (applyWaiting_keeps (upd_sea (kept_ite (fire_keeps (count_keeps (wr_keeps (count_keeps (sendAllBut_keeps h (subW g)) (subW g) (subW g)) (subW g)) (subW g) (subW g)) (subW g)) (count_keeps (sendAllBut_keeps h (subW g)) (subW g) (subW g))) (subW g)) (subW g))

theorem stateArrives_keeps {img : StateImage} {d d0 : Dev} {mm : Nat} (h : Kept mm d0 d) (g : Sub 0x8000000000000000000000000000000000000000000000000000000000000000000000000000000000000000000000000000000000000000000000000000000000000000000000000000000000000000000000000000000000000000000000000000000000000000002000001 mm) :
    Kept mm d0 (stateArrives img d) := by
  unfold stateArrives; with_reducible exact kept_ite (upd_sea (forEach_keeps h (fun _ _ h1 => sendMsg_keeps h1 (subW g))) (subW g)) (kept_ite (resyncFails_keeps (upd_sea (forEach_keeps h (fun _ _ h1 => sendMsg_keeps h1 (subW g))) (subW g)) (subW g)) (upd_sea (upd_sea (forEach_keeps h (fun _ _ h1 => sendMsg_keeps h1 (subW g))) (subW g)) (subW g)))

theorem handleBody_keeps {n : Nat} {b : SeaBody} {d d0 : Dev} {mm : Nat} (h : Kept mm d0 d) (g : Sub 0x400010000003080983e03040000040000000043c0e51800008000783bffffa077ffff4001e38e0000080000037ffffff50000c0000000000000ffffffffffffc600000000004000800000000000001ffbe0000a06797c18c003ffdf9f0002c0add000000000000000000000000004000107677059 mm) :
    Kept mm d0 (handleBody n b d) := by
  unfold handleBody; with_reducible exact by (try dsimp only); split; exact (ackMsgs_keeps h (subW g)); exact (forwarded_keeps h (subW g)); exact (announced_keeps h (subW g)); exact (by (try dsimp only); split; exact (sendMsg_keeps h (subW g)); exact h); exact (digestArrives_keeps h (subW g)); exact (twinArrives_keeps h (subW g)); exact (stateAsked_keeps h (subW g)); exact (stateArrives_keeps h (subW g))

theorem message_keeps {n num : Nat} {b : SeaBody} {d d0 : Dev} {mm : Nat} (h : Kept mm d0 d) (g : Sub 0x400010000003080983e03040000040000000043c0e51800008000783bffffa077ffff4001e38e0000080000037ffffff50000c0000000000000ffffffffffffc600000000004000800000000000001ffbe0000a06797c18c003ffdf9f0002c0add000000000000000000000000004000107677059 mm) :
    Kept mm d0 (message n num b d) := by
  unfold message; with_reducible exact kept_ite h (forEach_keeps (receiveMsg_keeps h (subW g)) (fun _ _ h1 => handleBody_keeps h1 (subW g)))

theorem digestSnapshot_keeps {d d0 : Dev} {mm : Nat} (h : Kept mm d0 d) (g : Sub 0x400010000003000f03e030000000000000000000000000000000000000000000000000000000000000000000000000000000000000000000000000000000000000000000000000000000000000000000000000000000000000000019a000000000000000000000000000000000004000102003259 mm) :
    Kept mm d0 (digestSnapshot d) := by
  unfold digestSnapshot; with_reducible exact kept_ite (atGrid_keeps h (subW g)) (forUpTo_keeps (sendAllBut_keeps (forUpTo_keeps (wr_keeps (wr_keeps (upd_sea (atGrid_keeps h (subW g)) (subW g)) (subW g)) (subW g)) (fun _ _ h1 => kept_ite (setSeaLink_keeps h1 (subW g)) h1)) (subW g)) (fun _ _ h1 => by (try dsimp only); split; exact (kept_ite (compareDigest_keeps (setSeaLink_keeps h1 (subW g)) (subW g)) h1); exact h1))

theorem digestTimeout_keeps {d d0 : Dev} {mm : Nat} (h : Kept mm d0 d) (g : Sub 0x40001000000200080000100000000000000000000000000000000000000000000000000000000000000000000000000000000000000000000000000000000000000000000000000000000000000000000000000000000000000000000000000000000000000000000000000000004000002003059 mm) :
    Kept mm d0 (digestTimeout d) := by
  unfold digestTimeout; with_reducible exact kept_ite h (forUpTo_keeps (advanceTo_keeps h (subW g)) (fun _ _ h1 => kept_ite (fire_keeps (count_keeps (wr_keeps (wr_keeps (setSeaLink_keeps h1 (subW g)) (subW g)) (subW g)) (subW g) (subW g)) (subW g)) h1))

theorem takeover_keeps {d d0 : Dev} {mm : Nat} (h : Kept mm d0 d) (g : Sub 0x400010000001080003e02040000040007800043c0e71870009e7e67ffffffafffffff4001e3860000080000037ffffff50000c0000000000000ffffffffffffc600000000004000800000000000001ffbe000000001401acff3ff019e000200000000000000000000000000cc8484000147677059 mm) :
    Kept mm d0 (takeover d) := by
  unfold takeover; with_reducible exact kept_ite h (kept_ite (upd_boot (wr_keeps (startUp_keeps (upd_sea (fire_keeps (followMaster_keeps (advanceDev_keeps h (subW g)) (subW g)) (subW g)) (subW g)) (subW g)) (subW g)) (subW g)) (upd_sea (fire_keeps (followMaster_keeps (advanceDev_keeps h (subW g)) (subW g)) (subW g)) (subW g)))

end Sys2Proof.Machine
end

