-- ==== Sys2Proof/Laws/KeepsHost.lean ====
section
/-! SUPPORT. Which parts of a device and which registers the functions of resets, the Thimble, the host's accesses, the Pattern and the boot can change: one lemma per
function. A mask's bits are `DevPart.mask` and `fldMask`. -/

namespace Sys2Proof.Machine

set_option maxRecDepth 4000
set_option Elab.async false
set_option exponentiation.threshold 2048
set_option linter.unusedVariables false

theorem softReset_keeps {cause : Nat} {d d0 : Dev} {mm : Nat} (h : Kept mm d0 d) (g : Sub 0x1ffffffffffffffffffffffffffffffff87fffffffffffffffffffffffffffffffffffffffffffffffffffffffffffffffffffffffffffffffffffffffffffffffffffffffffffffffffffffffffffffffffffffffffffffffffffffffffffffffffffffffffffffffffffffffffffffff0000000000000003f1ffffffffff01fdffff5c7 mm) :
    Kept mm d0 (softReset cause d) := by
  unfold softReset
  refine forEach_keeps (wr_keeps (count_keeps (wr_keeps (upd_many (n := 0x1fffffffffffffffffffffffffffffffb87fffffffffffffffffffffffffffffffffffffffffffffffffffffffffffffffffffffffffffffffffffffffffffffffffffffffffffffffffffffffffffffffffffffffffffffffffffffffffffffffffffffffffffffffffffffffffffffff0000000000000003f1fffffff9ff01fdffff587) h ?_ (subW g)) (subW g)) (subW g) (subW g)) (subW g)) (fun _ _ h => setRaw_keeps h (subW g))
  constructor <;> intro y <;> first | rfl | exact ⟨tabWf_filter _ _ _ y.regs, rfl, rfl, rfl, y.lastAt, rfl, rfl, rfl, rfl⟩ | exact absurd y (by decide) | exact fun hm => filter_out (P := fun r => (regsRul ++ [BLT_STICKY, BLT_RECOV, BLT_SELF, TOP_RESET_CAUSE, TOP_PCIE_ST, TOP_VID]).any (fun q => q.flds.any (fun f => f.no == r))) (by decide) hm | exact fun n _ hz => filter_sticky (P := fun r => (regsRul ++ [BLT_STICKY, BLT_RECOV, BLT_SELF, TOP_RESET_CAUSE, TOP_PCIE_ST, TOP_VID]).any (fun q => q.flds.any (fun f => f.no == r))) rfl (by decide) n hz


theorem powerOnReset_keeps {memberId : Nat} {d d0 : Dev} {mm : Nat} (h : Kept mm d0 d) (g : Sub 0x3ffffffffffffffffffffffffffffffffffffffffffffffffffffffffffffffffffffffffffffffffffffffffffffffffffffffffffffffffffffffffffffffffffffffffffffffffffffffffffffffffffffffffffffffffffffffffffffffffffffffffffffffffffffffffffffffffffffffffffffffffffffffffffffffffdfffff9f mm) :
    Kept mm d0 (powerOnReset memberId d) := by
  unfold powerOnReset
  refine wr_keeps (upd_many (n := 0x3ffffffffffffffffffffffffffffffffffffffffffffffffffffffffffffffffffffffffffffffffffffffffffffffffffffffffffffffffffffffffffffffffffffffffffffffffffffffffffffffffffffffffffffffffffffffffffffffffffffffffffffffffffffffffffffffffffffffffffffffffffffffffffffffffdfffff9f) h ?_ (subW g)) (subW g)
  constructor <;> intro y <;> first | rfl | exact inst_any (by decide) | exact sticky_any (by decide) y | exact ⟨rfl, rfl, rfl, rfl, rfl, rfl, rfl, rfl, rfl⟩ | exact absurd y (by decide)


theorem showUpdate_keeps {d d0 : Dev} {mm : Nat} (h : Kept mm d0 d) (g : Sub 0x30003bffc0000000000000000000000000000000000000000000000000000000000000000000000000000000000000000000000000000000000000000000000000000000000000000000000000000000000000000000000000000000000000000000000000000000000000000000000000000000000000000000001 mm) :
    Kept mm d0 (showUpdate d) := by
  unfold showUpdate; with_reducible exact wr_keeps (wr_keeps (kept_ite (wr_keeps (wr_keeps (wr_keeps (wr_keeps (wr_keeps (wr_keeps (wr_keeps (wr_keeps (wr_keeps (wr_keeps (wrB_keeps (wr_keeps (wr_keeps (wrB_keeps (wr_keeps h (subW g)) (subW g) (subW g)) (subW g)) (subW g)) (subW g) (subW g)) (subW g)) (subW g)) (subW g)) (subW g)) (subW g)) (subW g)) (subW g)) (subW g)) (subW g)) (subW g)) (wr_keeps (wr_keeps (wr_keeps (wr_keeps (wr_keeps (wr_keeps (wr_keeps (wr_keeps (wr_keeps (wr_keeps (wrB_keeps (wr_keeps (wr_keeps (wrB_keeps (wr_keeps h (subW g)) (subW g) (subW g)) (subW g)) (subW g)) (subW g) (subW g)) (subW g)) (subW g)) (subW g)) (subW g)) (subW g)) (subW g)) (subW g)) (subW g)) (subW g)) (subW g))) (subW g)) (subW g)

theorem setNv_keeps {x : Nv} {d d0 : Dev} {mm : Nat} (h : Kept mm d0 d) (g : Sub 0x30003bffc0000000000000000000000000000000000000000000000000000000000000000000000000000000000000000000000000000000000000000000000000000000000000000000000000000000000000000000000000000000000000000000000000000000000000000000000000000000000000020000001 mm) :
    Kept mm d0 (setNv x d) := by
  unfold setNv; with_reducible exact showUpdate_keeps (upd_nv h (subW g)) (subW g)

theorem setSess_keeps {s : Option Sess} {d d0 : Dev} {mm : Nat} (h : Kept mm d0 d) (g : Sub 0x30003bffc0000000000000000000000000000000000000000000000000000000000000000000000000000000000000000000000000000000000000000000000000000000000000000000000000000000000000000000000000000000000000000000000000000000000000000000000000000000000000020000001 mm) :
    Kept mm d0 (setSess s d) := by
  unfold setSess; with_reducible exact setNv_keeps h (subW g)

theorem offer_keeps {h_ : List Nat} {source : Nat} {v : OfferView} {d d0 : Dev} {mm : Nat} (h : Kept mm d0 d) (g : Sub 0x30003bffc0000040001000000000000000000000000000000000000000000000000000000000000000000000000000000000000000000000000000000000000000000000000000000000000000000000000000000000000000000000000000000000000000000000000000000000000000000000004000020003041 mm) :
    Kept mm d0 (offer h_ source v d).2 := by
  unfold offer; with_reducible exact kept_ite_2 (fire_keeps h (subW g)) (kept_ite_2 (fire_keeps h (subW g)) (by (try dsimp only); split; exact (setSess_keeps h (subW g)); exact (setNv_keeps h (subW g))))

theorem updResult_keeps {code detail : Nat} {d d0 : Dev} {mm : Nat} (h : Kept mm d0 d) (g : Sub 0x70000000000000000000000000000000000000000000000000000000000000000000000000000000000000000000000000000000000000000000000000000000000000000000000000000000000000000000000000000000000000000000000000000000000000000000000000000000000000004000000002041 mm) :
    Kept mm d0 (updResult code detail d) := by
  unfold updResult; with_reducible exact raiseIrq_keeps (wr_keeps (wr_keeps (wr_keeps h (subW g)) (subW g)) (subW g)) (subW g)

theorem updOffer_keeps {v : OfferView} {d d0 : Dev} {mm : Nat} (h : Kept mm d0 d) (g : Sub 0x30703bffc0000040001000000000000000000000000000000000000000000000000000000000000000000000000000000000000000000000000000000000000000000000000000000000000000000000000000000000000000000000000000000000000000000000000000000000000000000000004000020003041 mm) :
    Kept mm d0 (updOffer v d) := by
  unfold updOffer; with_reducible exact updResult_keeps (offer_keeps h (subW g)) (subW g)

theorem updApprove_keeps {d d0 : Dev} {mm : Nat} (h : Kept mm d0 d) (g : Sub 0x70000000000000000000000000000000000000000000000000000000000000000000000000000000000000000000000000000000000000000000000000000000000000000000000000000000000000000000000000000000000000000000000000000000000000000000000000000000000000004000040002041 mm) :
    Kept mm d0 (updApprove d) := by
  unfold updApprove; with_reducible exact updResult_keeps (kept_ite (upd_boot h (subW g)) h) (subW g)

theorem endSession_keeps {d d0 : Dev} {mm : Nat} (h : Kept mm d0 d) (g : Sub 0x30003bffc0000000000000000000000000000000000000000000000000000000000000000000000000000000000000000000000000000000000000000000000000000000000000000000000000000000000000000000000000000000000000000000000000000000000000000000000000000000000000060000001 mm) :
    Kept mm d0 (endSession d) := by
  unfold endSession; with_reducible exact by (try dsimp only); split; exact (setSess_keeps (upd_boot h (subW g)) (subW g)); exact (upd_boot h (subW g))

theorem showThimble_keeps {d d0 : Dev} {mm : Nat} (h : Kept mm d0 d) (g : Sub 0x101fb000000000000000000000000000000000000000000000000000000000000000000000000000000000000000000000000000000000000000000000000000000000000000000000000000000000000000000000000000000000000000000000000000000000000000000000000000000000000000001 mm) :
    Kept mm d0 (showThimble d) := by
  unfold showThimble; with_reducible exact forUpTo_keeps (wr_keeps (wr_keeps (wr_keeps (wr_keeps (wr_keeps (wr_keeps (wrB_keeps (wrB_keeps h (subW g) (subW g)) (subW g) (subW g)) (subW g)) (subW g)) (subW g)) (subW g)) (subW g)) (subW g)) (fun _ _ h1 => wr_keeps h1 (subW g))

theorem programKey_keeps {r : KeyRec} {d d0 : Dev} {mm : Nat} (h : Kept mm d0 d) (g : Sub 0x101fb000000000000000000000000000000000000000000000000000000000000000000000000000000000000000000000000000000000000000000000000000000000000000000000000000000000000000000000000000000000000000000000000000000000000000000000000000000000020000001 mm) :
    Kept mm d0 (programKey r d) := by
  unfold programKey; with_reducible exact showThimble_keeps (upd_nv h (subW g)) (subW g)

theorem updActivate_keeps {d d0 : Dev} {mm : Nat} (h : Kept mm d0 d) (g : Sub 0x30703bffd01fb040001000000000000000000000000000000000000000000000000000000000000000000000000000000000000000000000000000000000000000000000000000000000000000000000000000000000000000000000000000000000000000000000000000000000000000000000004000060003041 mm) :
    Kept mm d0 (updActivate d) := by
  unfold updActivate; with_reducible exact by (try dsimp only); split; exact (updResult_keeps h (subW g)); exact (kept_ite (updResult_keeps h (subW g)) (kept_ite (updResult_keeps h (subW g)) (kept_ite (updResult_keeps (fire_keeps h (subW g)) (subW g)) (kept_ite (updResult_keeps (fire_keeps (endSession_keeps (programKey_keeps h (subW g)) (subW g)) (subW g)) (subW g)) (kept_ite (updResult_keeps h (subW g)) (updResult_keeps (setSess_keeps (upd_boot h (subW g)) (subW g)) (subW g)))))))

theorem updRevert_keeps {d d0 : Dev} {mm : Nat} (h : Kept mm d0 d) (g : Sub 0x70000000000000000000000000000000000000000000000000000000000000000000000000000000000000000000000000000000000000000000000000000000000000000000000000000000000000000000000000000000000000000000000000000000000000000000000000000000000000004000040002041 mm) :
    Kept mm d0 (updRevert d) := by
  unfold updRevert; with_reducible exact kept_ite (updResult_keeps h (subW g)) (kept_ite (updResult_keeps h (subW g)) (updResult_keeps (upd_boot h (subW g)) (subW g)))

theorem sessionExpiry_keeps {d d0 : Dev} {mm : Nat} (h : Kept mm d0 d) (g : Sub 0x30003bffc0000040001000000000000000000000000000000000000000000000000000000000000000000000000000000000000000000000000000000000000000000000000000000000000000000000000000000000000000000000000000000000000000000000000000000000000000000000004000060003059 mm) :
    Kept mm d0 (sessionExpiry d) := by
  unfold sessionExpiry; with_reducible exact by (try dsimp only); split; exact (by (try dsimp only); split; exact (kept_ite h (kept_ite (fire_keeps (endSession_keeps h (subW g)) (subW g)) (fire_keeps (endSession_keeps (advanceTo_keeps h (subW g)) (subW g)) (subW g)))); exact h); exact h

theorem healthConfirm_keeps {d d0 : Dev} {mm : Nat} (h : Kept mm d0 d) (g : Sub 0x70003bffd01fb040001000000000000000000000000000000000000000000000000000000000000000000000000000000000000000000000000000000000000000000000000000000000000000000000000000000000000000000000000000000000000000000000000000000000000000000000004000060003041 mm) :
    Kept mm d0 (healthConfirm d) := by
  unfold healthConfirm; with_reducible exact kept_ite h (endSession_keeps (fire_keeps (wr_keeps (showThimble_keeps (setNv_keeps (upd_boot h (subW g)) (subW g)) (subW g)) (subW g)) (subW g)) (subW g))

theorem pieceFails_keeps {n : Nat} {d d0 : Dev} {mm : Nat} (h : Kept mm d0 d) (g : Sub 0x40000000040001000000000000000000000000000000000000000000000000000000000000000000000000000000000000000000000000000000000000000000000000000000000000000000000000000000000000000000000000000000000000000000000000000000000000000000000004000000003041 mm) :
    Kept mm d0 (pieceFails n d) := by
  unfold pieceFails; with_reducible exact fire_keeps (count_keeps h (subW g) (subW g)) (subW g)

theorem startSession_keeps {d d0 : Dev} {mm : Nat} (h : Kept mm d0 d) (g : Sub 0x30003bffc0000000000000000000000000000000000000000000000000000000000000000000000000000000000000000000000000000000000000000000000000000000000000000000000000000000000000000000000000000000000000000000000000000000000000000000000000000000000000020000001 mm) :
    Kept mm d0 (startSession d) := by
  unfold startSession; with_reducible exact by (try dsimp only); split; exact (kept_ite (setSess_keeps h (subW g)) h); exact h

theorem thimbleFlashFails_keeps {d d0 : Dev} {mm : Nat} (h : Kept mm d0 d) (g : Sub 0x40001000000000000000000000000000000000000000000000000000000000000000000000000000000000000000000000000000000000000000000000000000000000000000000000000000000000000000000000000000000000000000000000000000000000000000000000004000000003041 mm) :
    Kept mm d0 (thimbleFlashFails d) := by
  unfold thimbleFlashFails; with_reducible exact fire_keeps h (subW g)

theorem checkTable_keeps {s : Sess} {d d0 : Dev} {mm : Nat} (h : Kept mm d0 d) (g : Sub 0x40000000040001000000000000000000000000000000000000000000000000000000000000000000000000000000000000000000000000000000000000000000000000000000000000000000000000000000000000000000000000000000000000000000000000000000000000000000000004000000003041 mm) :
    Kept mm d0 (checkTable s d).2 := by
  unfold checkTable; with_reducible exact kept_ite_2 h (kept_ite_2 (pieceFails_keeps h (subW g)) (forEach_keeps h (fun _ _ h1 => pieceFails_keeps h1 (subW g))))

theorem putPiece_keeps {digest : Option Nat} {i : Nat} {bytes : List Nat} {fails : Bool} {d d0 : Dev} {mm : Nat} (h : Kept mm d0 d) (g : Sub 0x30003fffc0000040001000000000000000000000000000000000000000000000000000000000000000000000000000000000000000000000000000000000000000000000000000000000000000000000000000000000000000000000000000000000000000000000000000000000000000000000004000020003041 mm) :
    Kept mm d0 (putPiece digest i bytes fails d).2 := by
  unfold putPiece; with_reducible exact by (try dsimp only); split; exact h; exact (kept_ite_2 h (kept_ite_2 h (kept_ite_2 h (kept_ite_2 (pieceFails_keeps h (subW g)) (kept_ite_2 (thimbleFlashFails_keeps h (subW g)) (setSess_keeps (checkTable_keeps h (subW g)) (subW g)))))))

theorem updPut_keeps {fails : Bool} {d d0 : Dev} {mm : Nat} (h : Kept mm d0 d) (g : Sub 0x30703fffc0000040001000000000000000000000000000000000000000000000000000000000000000000000000000000000000000000000000000000000000000000000000000000000000000000000000000000000000000000000000000000000000000000000000000000000000000000000004000020003041 mm) :
    Kept mm d0 (updPut fails d) := by
  unfold updPut; with_reducible exact updResult_keeps (putPiece_keeps h (subW g)) (subW g)

theorem copyForwardDone_keeps {ok : Bool} {d d0 : Dev} {mm : Nat} (h : Kept mm d0 d) (g : Sub 0x30703bffc0000040001000000000000000000000000000000000000000000000000000000000000000000000000000000000000000000000000000000000000000000000000000000000000000000000000000000000000000000000000000000000000000000000000000000000000000000000004000060003041 mm) :
    Kept mm d0 (copyForwardDone ok d) := by
  unfold copyForwardDone; with_reducible exact kept_ite h (by (try dsimp only); split; exact (kept_ite h (kept_ite (updResult_keeps (thimbleFlashFails_keeps (setSess_keeps h (subW g)) (subW g)) (subW g)) (setSlot_keeps (upd_boot h (subW g)) (subW g)))); exact (kept_ite h (kept_ite (updResult_keeps (thimbleFlashFails_keeps (upd_boot h (subW g)) (subW g)) (subW g)) (setSlot_keeps (upd_boot h (subW g)) (subW g)))))

theorem fallBack_keeps {outcome : Nat} {d d0 : Dev} {mm : Nat} (h : Kept mm d0 d) (g : Sub 0x1ffffffffffffffffffffffffffffffff87fffffffffffffffffffffffffffffffffffffffffffffffffffffffffffffffffffffffffffffffffffffffffffffffffffffffffffffffffffffffffffffffffffffffffffffffffffffffffffffffffffffffffffffffffffffffffffffff0000000000000003f1ffffffffff01ffffff5c7 mm) :
    Kept mm d0 (fallBack outcome d) := by
  unfold fallBack; with_reducible exact softReset_keeps (upd_nv h (subW g)) (subW g)

theorem windowExpiry_keeps {d d0 : Dev} {mm : Nat} (h : Kept mm d0 d) (g : Sub 0x1ffffffffffffffffffffffffffffffff87fffffffffffffffffffffffffffffffffffffffffffffffffffffffffffffffffffffffffffffffffffffffffffffffffffffffffffffffffffffffffffffffffffffffffffffffffffffffffffffffffffffffffffffffffffffffffffffff0000000000000003f1ffffffffff01ffffff5df mm) :
    Kept mm d0 (windowExpiry d) := by
  unfold windowExpiry; with_reducible exact kept_ite h (fallBack_keeps (advanceDev_keeps h (subW g)) (subW g))

theorem attestDone_keeps {d d0 : Dev} {mm : Nat} (h : Kept mm d0 d) (g : Sub 0xdc00000000000000000000000000000000000000000000000000000000000000000000000000000000000000000000000000000000000000000000000000000000000000000000000000000000000000000000000000000000000000000000000000000000000000000000000000000004000040002041 mm) :
    Kept mm d0 (attestDone d) := by
  unfold attestDone; with_reducible exact by (try dsimp only); split; exact h; exact (kept_ite (raiseIrq_keeps (wr_keeps (wr_keeps (upd_boot h (subW g)) (subW g)) (subW g)) (subW g)) (raiseIrq_keeps (wr_keeps (wr_keeps (forUpTo_keeps (wr_keeps (upd_boot h (subW g)) (subW g)) (fun _ _ h1 => wr_keeps h1 (subW g))) (subW g)) (subW g)) (subW g)))

theorem openTestAccess_keeps {d d0 : Dev} {mm : Nat} (h : Kept mm d0 d) (g : Sub 0x1ffffffffffffffffffffffffffffffff87fffffffffffffffffffffffffffffffffffffffffffffffffffffffffffffffffffffffffffffffffffffffffffffffffffffffffffffffffffffffffffffffffffffffffffffffffffffffffffffffffffffffffffffffffffffffffffffff0000000000000003f1ffffffffff01ffffff5e7 mm) :
    Kept mm d0 (openTestAccess d) := by
  unfold openTestAccess; with_reducible exact softReset_keeps (upd_nv (takeFree_keeps h (subW g)) (subW g)) (subW g)

theorem unlockWord_keeps {w : Nat} {d d0 : Dev} {mm : Nat} (h : Kept mm d0 d) (g : Sub 0x1ffffffffffffffffffffffffffffffff87fffffffffffffffffffffffffffffffffffffffffffffffffffffffffffffffffffffffffffffffffffffffffffffffffffffffffffffffffffffffffffffffffffffffffffffffffffffffffffffffffffffffffffffffffffffffffffffff0000000000000003f1ffffffffff01ffffff5e7 mm) :
    Kept mm d0 (unlockWord w d) := by
  unfold unlockWord; with_reducible exact kept_ite (upd_boot (upd_pins h (subW g)) (subW g)) (kept_ite (openTestAccess_keeps (upd_boot (upd_pins h (subW g)) (subW g)) (subW g)) (upd_boot (upd_pins h (subW g)) (subW g)))

theorem activationInstant_keeps {d d0 : Dev} {mm : Nat} (h : Kept mm d0 d) (g : Sub 0x1ffffffffffffffffffffffffffffffff87fffffffffffffffffffffffffffffffffffffffffffffffffffffffffffffffffffffffffffffffffffffffffffffffffffffffffffffffffffffffffffffffffffffffffffffffffffffffffffffffffffffffffffffffffffffffffffffff0000000000000003f1ffffffffff01ffffff5df mm) :
    Kept mm d0 (activationInstant d) := by
  unfold activationInstant; with_reducible exact kept_ite h (softReset_keeps (fire_keeps (setNv_keeps (setSlot_keeps (kept_ite h (advanceTo_keeps h (subW g))) (subW g)) (subW g)) (subW g)) (subW g))

theorem attestStart_keeps {d d0 : Dev} {mm : Nat} (h : Kept mm d0 d) (g : Sub 0x1c00000000000000000000000000000000000000000000000000000000000000000000000000000000000000000000000000000000000000000000000000000000000000000000000000000000000000000000000000000000000000000000000000000000000000000000000000000000000040000001 mm) :
    Kept mm d0 (attestStart d) := by
  unfold attestStart; with_reducible exact kept_ite h (wr_keeps (wr_keeps (wr_keeps (upd_boot h (subW g)) (subW g)) (subW g)) (subW g))

theorem unlockTimeout_keeps {d d0 : Dev} {mm : Nat} (h : Kept mm d0 d) (g : Sub 0x40000018 mm) :
    Kept mm d0 (unlockTimeout d) := by
  unfold unlockTimeout; with_reducible exact kept_ite h (upd_boot (advanceDev_keeps h (subW g)) (subW g))

theorem updAbort_keeps {d d0 : Dev} {mm : Nat} (h : Kept mm d0 d) (g : Sub 0x30703bffc0000040001000000000000000000000000000000000000000000000000000000000000000000000000000000000000000000000000000000000000000000000000000000000000000000000000000000000000000000000000000000000000000000000000000000000000000000000004000060003041 mm) :
    Kept mm d0 (updAbort d) := by
  unfold updAbort; with_reducible exact by (try dsimp only); split; exact (updResult_keeps (fire_keeps (endSession_keeps h (subW g)) (subW g)) (subW g)); exact (updResult_keeps h (subW g))

theorem finalCheckDone_keeps {ok : Bool} {patErr : Nat} {r : KeyRec} {d d0 : Dev} {mm : Nat} (h : Kept mm d0 d) (g : Sub 0x30703bffc0000040001000000000000000000000000000000000000000000000000000000000000000000000000000000000000000000000000000000000000000000000000000000000000000000000000000000000000000000000000000000000000000000000000000000000000000000000004000060003041 mm) :
    Kept mm d0 (finalCheckDone ok patErr r d) := by
  unfold finalCheckDone; with_reducible exact by (try dsimp only); split; exact (kept_ite h (kept_ite (setSess_keeps h (subW g)) (updResult_keeps (fire_keeps (endSession_keeps h (subW g)) (subW g)) (subW g)))); exact h

theorem showDstChan_keeps {c : Nat} {d d0 : Dev} {mm : Nat} (h : Kept mm d0 d) (g : Sub 0x3f000000000000000000000000000000000000000000000000000000000000000000000000000000000000000000000000000000000000000000000000000000000000000000000000000000000000000000000000000000000000000000000001 mm) :
    Kept mm d0 (showDstChan c d) := by
  unfold showDstChan; with_reducible exact wr_keeps (wr_keeps (wr_keeps (wr_keeps (wr_keeps (wr_keeps h (subW g)) (subW g)) (subW g)) (subW g)) (subW g)) (subW g)

theorem showBudgets_keeps {d d0 : Dev} {mm : Nat} (h : Kept mm d0 d) (g : Sub 0x4f98000000000000000000000000000000000000000000000000000000000000001 mm) :
    Kept mm d0 (showBudgets d) := by
  unfold showBudgets; with_reducible exact wr_keeps (wr_keeps (wr_keeps (wr_keeps (wr_keeps (wr_keeps (wr_keeps (wr_keeps h (subW g)) (subW g)) (subW g)) (subW g)) (subW g)) (subW g)) (subW g)) (subW g)

theorem showInk_keeps {c : Nat} {d d0 : Dev} {mm : Nat} (h : Kept mm d0 d) (g : Sub 0x1fc0000000000000000000000000000000000000000000000000000000000000000001 mm) :
    Kept mm d0 (showInk c d) := by
  unfold showInk; with_reducible exact wr_keeps (wr_keeps (wr_keeps (wr_keeps (wrB_keeps (wrB_keeps (wrB_keeps h (subW g) (subW g)) (subW g) (subW g)) (subW g) (subW g)) (subW g)) (subW g)) (subW g)) (subW g)

theorem showScaler_keeps {u : Nat} {d d0 : Dev} {mm : Nat} (h : Kept mm d0 d) (g : Sub 0x1e000000000000000000000000000000000000000000000000000000000000000000001 mm) :
    Kept mm d0 (showScaler u d) := by
  unfold showScaler; with_reducible exact wr_keeps (wr_keeps (wr_keeps (wrB_keeps h (subW g) (subW g)) (subW g)) (subW g)) (subW g)

theorem showSeaBudget_keeps {n : Nat} {d d0 : Dev} {mm : Nat} (h : Kept mm d0 d) (g : Sub 0x60000000000000000000000000000000000000000000000000000000000000000000001 mm) :
    Kept mm d0 (showSeaBudget n d) := by
  unfold showSeaBudget; with_reducible exact wr_keeps (wr_keeps h (subW g)) (subW g)

theorem showMacBudget_keeps {n : Nat} {d d0 : Dev} {mm : Nat} (h : Kept mm d0 d) (g : Sub 0x180000000000000000000000000000000000000000000000000000000000000000000001 mm) :
    Kept mm d0 (showMacBudget n d) := by
  unfold showMacBudget; with_reducible exact wr_keeps (wr_keeps h (subW g)) (subW g)

theorem showLayerPlace_keeps {l : Nat} {d d0 : Dev} {mm : Nat} (h : Kept mm d0 d) (g : Sub 0x7e000000000000000000000000000000000000000000000000000000000000000000000000001 mm) :
    Kept mm d0 (showLayerPlace l d) := by
  unfold showLayerPlace; with_reducible exact kept_ite (forEach_mem_keeps h (fun _ m1 _ h1 => wr_keeps h1 (subL g m1))) (wr_keeps (wr_keeps (wr_keeps (wrB_keeps (wr_keeps (wrB_keeps h (subW g) (subW g)) (subW g)) (subW g) (subW g)) (subW g)) (subW g)) (subW g))

theorem showSdiOut_keeps {l : Nat} {d d0 : Dev} {mm : Nat} (h : Kept mm d0 d) (g : Sub 0x7c0000000000000000000000000000000000000000000000000000000000000000000000000000000000000000000000000000000000000000000000000000001 mm) :
    Kept mm d0 (showSdiOut l d) := by
  unfold showSdiOut; with_reducible exact wr_keeps (wr_keeps (wr_keeps (wr_keeps (wr_keeps h (subW g)) (subW g)) (subW g)) (subW g)) (subW g)

theorem showInkTraffic_keeps {c : Nat} {d d0 : Dev} {mm : Nat} (h : Kept mm d0 d) (g : Sub 0x58000000000000000000000000000000000000000000000000000000000000000000000000000000000000000000000000000000000000000000000000000000000021 mm) :
    Kept mm d0 (showInkTraffic c d) := by
  unfold showInkTraffic; with_reducible exact wr_keeps (wr_keeps (wr_keeps (takeFree_keeps (takeFree_keeps (takeFree_keeps h (subW g)) (subW g)) (subW g)) (subW g)) (subW g)) (subW g)

theorem showHead_keeps {h_ : Nat} {d d0 : Dev} {mm : Nat} (h : Kept mm d0 d) (g : Sub 0x1c00000000000000000000000000000000000000000000000000000000000000000000000000000000000000000000000000000000000000000000000000000000000000000000000000000000000001 mm) :
    Kept mm d0 (showHead h_ d) := by
  unfold showHead; with_reducible exact wr_keeps (wrB_keeps (wrB_keeps h (subW g) (subW g)) (subW g) (subW g)) (subW g)

theorem showBlotter_keeps {d d0 : Dev} {mm : Nat} (h : Kept mm d0 d) (g : Sub 0xe800000000000000000000000000000000000000000000000000000000000000000000000000000000000000000000000000000000000000000000000000000000000000000000000000000000000000000000000000000000000000000000000000000000000000000000000000000000001 mm) :
    Kept mm d0 (showBlotter d) := by
  unfold showBlotter; with_reducible exact wrB_keeps (wrB_keeps (wrB_keeps (wrB_keeps h (subW g) (subW g)) (subW g) (subW g)) (subW g) (subW g)) (subW g) (subW g)

theorem refresh_keeps {base : Nat} {ix : List Nat} {d d0 : Dev} {mm : Nat} (h : Kept mm d0 d) (g : Sub 0x8040000002000002140e80000000000000000000000000000000003f18e000010180000000000000000000001c0000000000000000000000005c0007c000000000000000000000000000001000000000000000001007e0001fffc4f98000000000000000200400000001000000000000000038010000000000000021 mm) :
    Kept mm d0 (refresh base ix d) := by
  unfold refresh; with_reducible exact kept_ite (wr_keeps (wr_keeps (wr_keeps h (subW g)) (subW g)) (subW g)) (kept_ite (wr_keeps h (subW g)) (kept_ite (wr_keeps h (subW g)) (kept_ite (wrB_keeps h (subW g) (subW g)) (kept_ite (wr_keeps h (subW g)) (kept_ite (showBudgets_keeps h (subW g)) (kept_ite (showInk_keeps h (subW g)) (kept_ite (showScaler_keeps h (subW g)) (kept_ite (showSeaBudget_keeps h (subW g)) (kept_ite (showMacBudget_keeps h (subW g)) (kept_ite (showLayerPlace_keeps h (subW g)) (kept_ite (wrB_keeps h (subW g) (subW g)) (kept_ite (wr_keeps h (subW g)) (kept_ite (showSdiOut_keeps h (subW g)) (kept_ite (wr_keeps h (subW g)) (kept_ite (showInkTraffic_keeps h (subW g)) (kept_ite (wr_keeps (wr_keeps h (subW g)) (subW g)) (kept_ite (showHead_keeps h (subW g)) (kept_ite (wr_keeps h (subW g)) (kept_ite (wr_keeps (wr_keeps (wr_keeps h (subW g)) (subW g)) (subW g)) (kept_ite (wr_keeps (wr_keeps h (subW g)) (subW g)) (kept_ite (showDstChan_keeps h (subW g)) (kept_ite (showBlotter_keeps h (subW g)) (kept_ite (wr_keeps h (subW g)) (kept_ite (wr_keeps h (subW g)) (kept_ite (wr_keeps h (subW g)) (kept_ite (wr_keeps h (subW g)) (kept_ite (wr_keeps h (subW g)) (kept_ite (wr_keeps h (subW g)) h))))))))))))))))))))))))))))

theorem recordError_keeps {m off : Nat} {write : Bool} {kind target : Nat} {d d0 : Dev} {mm : Nat} (h : Kept mm d0 d) (g : Sub 0xf8000000000000000000000000000000000000000000000000000000000000000000000000000000000000000000000000000000000000000000000000000000000000000000000000000000000000000000000000000000000000000000000000000000000000000000000000000000000000000000000000000000001 mm) :
    Kept mm d0 (recordError m off write kind target d) := by
  unfold recordError; with_reducible exact wr_keeps (wr_keeps (wrB_keeps (wr_keeps (wr_keeps h (subW g)) (subW g)) (subW g) (subW g)) (subW g)) (subW g)

theorem accessTimeout_keeps {m off : Nat} {write : Bool} {target : Nat} {d d0 : Dev} {mm : Nat} (h : Kept mm d0 d) (g : Sub 0x4f8800000000000000040001000000000000000000000000000000000000000000000000000000000000000000000000000000000000000000000000000000000000000000000000000000000000000000000000000000000000000000000000000000000000000000000000000000000000000000000004000000003041 mm) :
    Kept mm d0 (accessTimeout m off write target d) := by
  unfold accessTimeout; with_reducible exact fire_keeps (count_keeps (wr_keeps (recordError_keeps h (subW g)) (subW g)) (subW g) (subW g)) (subW g)

theorem rejected_keeps {p : Place} {d d0 : Dev} {mm : Nat} (h : Kept mm d0 d) (g : Sub 0x40001000000000000001040020000020000001c00000000200000000000000000000000000000800000800000000000000000008000000000000000000000000000000800001000000000000000000000000000000000000000000000000000020000000000000000000000000004000000003041 mm) :
    Kept mm d0 (rejected p d) := by
  unfold rejected; with_reducible exact kept_ite (fire_keeps (wr_keeps h (subW g)) (subW g)) (kept_ite (fire_keeps (wr_keeps h (subW g)) (subW g)) (by (try dsimp only); split; exact (rejectWrite_keeps h (subW g)); exact h))

theorem holdAccess_keeps {b : Block} {d d0 : Dev} {mm : Nat} (h : Kept mm d0 d) (g : Sub 0x18 mm) :
    Kept mm d0 (holdAccess b d) := by
  unfold holdAccess; with_reducible exact kept_ite (advanceDev_keeps h (subW g)) h

theorem rulCommand_keeps {w : Nat} {d d0 : Dev} {mm : Nat} (h : Kept mm d0 d) (g : Sub 0x4000000000000000000000000000000801 mm) :
    Kept mm d0 (rulCommand w d) := by
  unfold rulCommand; with_reducible exact clrHoldoff_keeps (kept_ite (requestStep_keeps h (subW g)) h) (subW g)

theorem stageWrite_keeps {m : Nat} {p : Place} {f : Fld} {w : Nat} {d d0 : Dev} {mm : Nat} (h : Kept mm d0 d) (g : Sub 0x2 mm) :
    Kept mm d0 (stageWrite m p f w d) := by
  unfold stageWrite; with_reducible exact kept_ite h (kept_ite (forUpTo_keeps h (fun _ _ h1 => upd_staged h1 (fun c => tabWf_del _ _ _ c.staged) (subW g))) (upd_staged h (fun c => tabWf_set _ _ _ _ c.staged) (subW g)))

theorem writeFld_keeps {m : Nat} {p : Place} {f : Fld} {w : Nat} {d d0 : Dev} {mm : Nat} (h : Kept mm d0 d) (g2 : Sub (fldMask f) mm) (g : Sub 0x2 mm) :
    Kept mm d0 (writeFld m p f w d).1 := by
  unfold writeFld; with_reducible exact kept_ite_1 h (by (try dsimp only); split; exact (by (try dsimp only); split; exact (kept_ite (wr_keeps (stageWrite_keeps h (subW g)) g2) (stageWrite_keeps h (subW g))); exact (stageWrite_keeps h (subW g))); exact (by (try dsimp only); split; exact (kept_ite_1 (stageWrite_keeps h (subW g)) (kept_ite_1 (wr_keeps (stageWrite_keeps h (subW g)) g2) (stageWrite_keeps h (subW g)))); exact (stageWrite_keeps h (subW g))); exact (wr_keeps h g2); exact (wr_keeps h g2); exact h)

theorem writeFlds_keeps {m : Nat} {p : Place} {fs : List Fld} {w : Nat} {rej : Bool} {d d0 : Dev} {mm : Nat} (h : Kept mm d0 d) (g : Sub 0x3fffffffffffffffffffffffffffffffffffffffffffffffffffffffffffffffffffffffffffffffffffffffffffffffffffffffffffffffffffffffffffffffffffffffffffffffffffffffffffffffffffffffffffffffffffffffffffffffffffffffffffffffffffffffffffffffffffffffffffffffffffffffffffffffe00000003 mm) :
    Kept mm d0 (writeFlds m p fs w rej d).1 := by
  induction fs generalizing rej d with
  | nil => exact h
  | cons f rest ih => exact ih (writeFld_keeps h (subAny g) (subW g))


theorem afterWrite_keeps {p : Place} {before d d0 : Dev} {mm : Nat} (h : Kept mm d0 d) (g : Sub 0x100000000000000000000000000000000000000000000000000000000000000000000000000000000000000000000000000000000000000000000000000000000000000000000000000000000000000000000000000000000000000000000000000000000000000000000000000000000000003801 mm) :
    Kept mm d0 (afterWrite p before d) := by
  unfold afterWrite; with_reducible exact kept_ite (dropDisabled_keeps h (subW g)) (kept_ite (candRewritten_keeps h (subW g)) (kept_ite (candRewritten_keeps h (subW g)) (kept_ite (upd_blt (wr_keeps h (subW g)) (subW g)) h)))

theorem writeTyped_keeps {m : Nat} {p : Place} {w : Nat} {d d0 : Dev} {mm : Nat} (h : Kept mm d0 d) (g : Sub 0x3fffffffffffffffffffffffffffffffffffffffffffffffffffffffffffffffffffffffffffffffffffffffffffffffffffffffffffffffffffffffffffffffffffffffffffffffffffffffffffffffffffffffffffffffffffffffffffffffffffffffffffffffffffffffffffffffffffffffffffffffffffffffffffffffe00003843 mm) :
    Kept mm d0 (writeTyped m p w d) := by
  unfold writeTyped; with_reducible exact kept_ite (rejected_keeps (afterWrite_keeps (writeFlds_keeps h (subW g)) (subW g)) (subW g)) (afterWrite_keeps (writeFlds_keeps h (subW g)) (subW g))

theorem sendAll_keeps {d d0 : Dev} {mm : Nat} (h : Kept mm d0 d) (g : Sub 0x2040 mm) :
    Kept mm d0 (sendAll d) := by
  unfold sendAll; with_reducible exact forUpTo_keeps h (fun _ _ h1 => sendOwed_keeps h1 (subW g))

theorem msixWrite_keeps {w v : Nat} {d d0 : Dev} {mm : Nat} (h : Kept mm d0 d) (g : Sub 0x2040 mm) :
    Kept mm d0 (msixWrite w v d) := by
  unfold msixWrite; with_reducible exact sendAll_keeps (upd_irq h (subW g)) (subW g)

theorem shadowWrite_keeps {m : Nat} {p : Place} {w : Nat} {d d0 : Dev} {mm : Nat} (h : Kept mm d0 d) (g : Sub 0x3fffffffffffffffffffffffffffffffffffffffffffffffffffffffffffffffffffffffffffffffffffffffffffffffffffffffffffffffffffffffffffffffffffffffffffffffffffffffffffffffffffffffffffffffffffffffffffffffffffffffffffffffffffffffffffffffffffffffffffffffffffffffffffffffe00003843 mm) :
    Kept mm d0 (shadowWrite m p w d) := by
  unfold shadowWrite; with_reducible exact kept_ite (wr_keeps h (subW g)) (kept_ite (fire_keeps (wr_keeps h (subW g)) (subW g)) (writeTyped_keeps h (subW g)))

theorem bankWrite_keeps {m : Nat} {p : Place} {w : Nat} {d d0 : Dev} {mm : Nat} (h : Kept mm d0 d) (g : Sub 0x3fffffffffffffffffffffffffffffffffffffffffffffffffffffffffffffffffffffffffffffffffffffffffffffffffffffffffffffffffffffffffffffffffffffffffffffffffffffffffffffffffffffffffffffffffffffffffffffffffffffffffffffffffffffffffffffffffffffffffffffffffffffffffffffffe00003843 mm) :
    Kept mm d0 (bankWrite m p w d) := by
  unfold bankWrite; with_reducible exact kept_ite (inUseWrite_keeps h (subW g)) (writeTyped_keeps h (subW g))

theorem seaCommand_keeps {w : Nat} {d d0 : Dev} {mm : Nat} (h : Kept mm d0 d) (g : Sub 0x8000000000000000000000000000000000000000000000000000000000000000000000000000000000000000000000000000000000000000000000000000000000000000000000000000000000000000000000000000000000000000000000000000000000000000002000001 mm) :
    Kept mm d0 (seaCommand w d) := by
  unfold seaCommand; with_reducible exact kept_ite (handoverAsked_keeps (kept_ite (resync_keeps h (subW g)) h) (subW g)) (kept_ite (resync_keeps h (subW g)) h)

theorem bltCommand_keeps {w : Nat} {d d0 : Dev} {mm : Nat} (h : Kept mm d0 d) (g : Sub 0x1000000000000000000000000000000000000000000000000000000000000000000000000000000000000000000000000000000000000000000000000000000000000000000000000000000000000000000000000000000000000000000000000000000000000000000000000000000001001 mm) :
    Kept mm d0 (bltCommand w d) := by
  unfold bltCommand; with_reducible exact kept_ite (upd_blt (kept_ite (releasePin_keeps h (subW g)) h) (subW g)) (kept_ite (releasePin_keeps h (subW g)) h)

theorem injectFault_keeps {w : Nat} {d d0 : Dev} {mm : Nat} (h : Kept mm d0 d) (g : Sub 0x40001000000000000000000000000000000000000000000000000000000000000000000000000000000000000000000000000000000000000000000000000000000000000000000000000000000000000000000000000000000000000000000000000000000000000000000000004000000003041 mm) :
    Kept mm d0 (injectFault w d) := by
  unfold injectFault; with_reducible exact kept_ite (fire_keeps h (subW g)) h

theorem freeView_keeps {d d0 : Dev} {mm : Nat} (h : Kept mm d0 d) (g : Sub 0x20 mm) :
    Kept mm d0 (freeView d).2 := by
  unfold freeView; with_reducible exact takeFree_keeps (takeFree_keeps (takeFree_keeps h (subW g)) (subW g)) (subW g)

theorem updCommand_keeps {w : Nat} {d d0 : Dev} {mm : Nat} (h : Kept mm d0 d) (g : Sub 0x30703fffd01fb040001000000000000000000000000000000000000000000000000000000000000000000000000000000000000000000000000000000000000000000000000000000000000000000000000000000000000000000000000000000000000000000000000000000000000000000000004000060003061 mm) :
    Kept mm d0 (updCommand w d) := by
  unfold updCommand; with_reducible exact kept_ite (updRevert_keeps (kept_ite (updApprove_keeps (kept_ite (updActivate_keeps (kept_ite (updAbort_keeps (kept_ite (updPut_keeps (takeFree_keeps (kept_ite (updOffer_keeps (freeView_keeps h (subW g)) (subW g)) h) (subW g)) (subW g)) (kept_ite (updOffer_keeps (freeView_keeps h (subW g)) (subW g)) h)) (subW g)) (kept_ite (updPut_keeps (takeFree_keeps (kept_ite (updOffer_keeps (freeView_keeps h (subW g)) (subW g)) h) (subW g)) (subW g)) (kept_ite (updOffer_keeps (freeView_keeps h (subW g)) (subW g)) h))) (subW g)) (kept_ite (updAbort_keeps (kept_ite (updPut_keeps (takeFree_keeps (kept_ite (updOffer_keeps (freeView_keeps h (subW g)) (subW g)) h) (subW g)) (subW g)) (kept_ite (updOffer_keeps (freeView_keeps h (subW g)) (subW g)) h)) (subW g)) (kept_ite (updPut_keeps (takeFree_keeps (kept_ite (updOffer_keeps (freeView_keeps h (subW g)) (subW g)) h) (subW g)) (subW g)) (kept_ite (updOffer_keeps (freeView_keeps h (subW g)) (subW g)) h)))) (subW g)) (kept_ite (updActivate_keeps (kept_ite (updAbort_keeps (kept_ite (updPut_keeps (takeFree_keeps (kept_ite (updOffer_keeps (freeView_keeps h (subW g)) (subW g)) h) (subW g)) (subW g)) (kept_ite (updOffer_keeps (freeView_keeps h (subW g)) (subW g)) h)) (subW g)) (kept_ite (updPut_keeps (takeFree_keeps (kept_ite (updOffer_keeps (freeView_keeps h (subW g)) (subW g)) h) (subW g)) (subW g)) (kept_ite (updOffer_keeps (freeView_keeps h (subW g)) (subW g)) h))) (subW g)) (kept_ite (updAbort_keeps (kept_ite (updPut_keeps (takeFree_keeps (kept_ite (updOffer_keeps (freeView_keeps h (subW g)) (subW g)) h) (subW g)) (subW g)) (kept_ite (updOffer_keeps (freeView_keeps h (subW g)) (subW g)) h)) (subW g)) (kept_ite (updPut_keeps (takeFree_keeps (kept_ite (updOffer_keeps (freeView_keeps h (subW g)) (subW g)) h) (subW g)) (subW g)) (kept_ite (updOffer_keeps (freeView_keeps h (subW g)) (subW g)) h))))) (subW g)) (kept_ite (updApprove_keeps (kept_ite (updActivate_keeps (kept_ite (updAbort_keeps (kept_ite (updPut_keeps (takeFree_keeps (kept_ite (updOffer_keeps (freeView_keeps h (subW g)) (subW g)) h) (subW g)) (subW g)) (kept_ite (updOffer_keeps (freeView_keeps h (subW g)) (subW g)) h)) (subW g)) (kept_ite (updPut_keeps (takeFree_keeps (kept_ite (updOffer_keeps (freeView_keeps h (subW g)) (subW g)) h) (subW g)) (subW g)) (kept_ite (updOffer_keeps (freeView_keeps h (subW g)) (subW g)) h))) (subW g)) (kept_ite (updAbort_keeps (kept_ite (updPut_keeps (takeFree_keeps (kept_ite (updOffer_keeps (freeView_keeps h (subW g)) (subW g)) h) (subW g)) (subW g)) (kept_ite (updOffer_keeps (freeView_keeps h (subW g)) (subW g)) h)) (subW g)) (kept_ite (updPut_keeps (takeFree_keeps (kept_ite (updOffer_keeps (freeView_keeps h (subW g)) (subW g)) h) (subW g)) (subW g)) (kept_ite (updOffer_keeps (freeView_keeps h (subW g)) (subW g)) h)))) (subW g)) (kept_ite (updActivate_keeps (kept_ite (updAbort_keeps (kept_ite (updPut_keeps (takeFree_keeps (kept_ite (updOffer_keeps (freeView_keeps h (subW g)) (subW g)) h) (subW g)) (subW g)) (kept_ite (updOffer_keeps (freeView_keeps h (subW g)) (subW g)) h)) (subW g)) (kept_ite (updPut_keeps (takeFree_keeps (kept_ite (updOffer_keeps (freeView_keeps h (subW g)) (subW g)) h) (subW g)) (subW g)) (kept_ite (updOffer_keeps (freeView_keeps h (subW g)) (subW g)) h))) (subW g)) (kept_ite (updAbort_keeps (kept_ite (updPut_keeps (takeFree_keeps (kept_ite (updOffer_keeps (freeView_keeps h (subW g)) (subW g)) h) (subW g)) (subW g)) (kept_ite (updOffer_keeps (freeView_keeps h (subW g)) (subW g)) h)) (subW g)) (kept_ite (updPut_keeps (takeFree_keeps (kept_ite (updOffer_keeps (freeView_keeps h (subW g)) (subW g)) h) (subW g)) (subW g)) (kept_ite (updOffer_keeps (freeView_keeps h (subW g)) (subW g)) h)))))

theorem writePlace_keeps {m : Nat} {p : Place} {w : Nat} {d d0 : Dev} {mm : Nat} (h : Kept mm d0 d) (g : Sub 0x3fffffffffffffffffffffffffffffffffffffffffffffffffffffffffffffffffffffffffffffffffffffffffffffffffffffffffffffffffffffffffffffffffffffffffffffffffffffffffffffffffffffffffffffffffffffffffffffffffffffffffffffffffffffffffffffffffffffffffffffffffffffffffffffffe632bf863 mm) :
    Kept mm d0 (writePlace m p w d) := by
  unfold writePlace; with_reducible exact kept_ite (rulCommand_keeps h (subW g)) (kept_ite (pauseCfgWrite_keeps h (subW g)) (kept_ite (doorbell_keeps h (subW g)) (kept_ite (mailboxWrite_keeps h (subW g)) (kept_ite (mailboxWrite_keeps h (subW g)) (kept_ite (scanStart_keeps h (subW g)) (kept_ite (pauseEnWrite_keeps h (subW g)) (kept_ite (overlayFlip_keeps h (subW g)) (kept_ite (captureStart_keeps h (subW g)) (kept_ite (speedWrite_keeps h (subW g)) (kept_ite (kept_ite (layerCommit_keeps h (subW g)) h) (kept_ite (shadowWrite_keeps h (subW g)) (kept_ite (bankWrite_keeps h (subW g)) (kept_ite (biquadWrite_keeps h (subW g)) (kept_ite (seaCommand_keeps h (subW g)) (kept_ite (bltCommand_keeps h (subW g)) (kept_ite (injectFault_keeps h (subW g)) (kept_ite (kept_ite (attestStart_keeps h (subW g)) h) (kept_ite (updCommand_keeps h (subW g)) (writeTyped_keeps h (subW g))))))))))))))))))))

theorem writeWord_keeps {m off w : Nat} {d d0 : Dev} {mm : Nat} (h : Kept mm d0 d) (g : Sub 0x3fffffffffffffffffffffffffffffffffffffffffffffffffffffffffffffffffffffffffffffffffffffffffffffffffffffffffffffffffffffffffffffffffffffffffffffffffffffffffffffffffffffffffffffffffffffffffffffffffffffffffffffffffffffffffffffffffffffffffffffffffffffffffffffffe632bf863 mm) :
    Kept mm d0 (writeWord m off w d) := by
  unfold writeWord; with_reducible exact kept_ite (msixWrite_keeps h (subW g)) (kept_ite (gainWrite_keeps h (subW g)) (by (try dsimp only); split; exact (writePlace_keeps h (subW g)); exact h))

theorem putPlace_keeps {p : Place} {w : Nat} {d d0 : Dev} {mm : Nat} (h : Kept mm d0 d) (g : Sub 0x3fffffffffffffffffffffffffffffffffffffffffffffffffffffffffffffffffffffffffffffffffffffffffffffffffffffffffffffffffffffffffffffffffffffffffffffffffffffffffffffffffffffffffffffffffffffffffffffffffffffffffffffffffffffffffffffffffffffffffffffffffffffffffffffffe00000001 mm) :
    Kept mm d0 (putPlace p w d) := by
  unfold putPlace; with_reducible exact forEach_keeps h (fun _ _ h1 => kept_ite h1 (wr_keeps h1 (subAny g)))

theorem resetAbort_keeps {m off : Nat} {write : Bool} {target : Nat} {d d0 : Dev} {mm : Nat} (h : Kept mm d0 d) (g : Sub 0x10f8400000000000000040001000000000000000000000000000000000000000000000000000000000000000000000000000000000000000000000000000000000000000000000000000000000000000000000000000000000000000000000000000000000000000000000000000000000000000000000004000000003041 mm) :
    Kept mm d0 (resetAbort m off write target d) := by
  unfold resetAbort; with_reducible exact fire_keeps (count_keeps (wr_keeps (recordError_keeps h (subW g)) (subW g)) (subW g) (subW g)) (subW g)

theorem readFld_keeps {m : Nat} {p : Place} {f : Fld} {d d0 : Dev} {mm : Nat} (h : Kept mm d0 d) (g2 : Sub (fldMask f) mm) (g : Sub 0x4 mm) :
    Kept mm d0 (readFld m p f d).2 := by
  unfold readFld; with_reducible exact kept_ite_2 h (kept_ite_2 (kept_ite_2 (kept_ite (wr_keeps (setHeld_keeps h (subW g)) g2) (setHeld_keeps h (subW g))) h) (kept_ite (wr_keeps h g2) h))

theorem readFlds_keeps {m : Nat} {p : Place} {fs : List Fld} {acc : Nat} {d d0 : Dev} {mm : Nat} (h : Kept mm d0 d) (g : Sub 0x3fffffffffffffffffffffffffffffffffffffffffffffffffffffffffffffffffffffffffffffffffffffffffffffffffffffffffffffffffffffffffffffffffffffffffffffffffffffffffffffffffffffffffffffffffffffffffffffffffffffffffffffffffffffffffffffffffffffffffffffffffffffffffffffffe00000005 mm) :
    Kept mm d0 (readFlds m p fs acc d).2 := by
  induction fs generalizing acc d with
  | nil => exact h
  | cons f rest ih => exact ih (readFld_keeps h (subAny g) (subW g))


theorem readPlace_keeps {m : Nat} {p : Place} {d d0 : Dev} {mm : Nat} (h : Kept mm d0 d) (g : Sub 0x3fffffffffffffffffffffffffffffffffffffffffffffffffffffffffffffffffffffffffffffffffffffffffffffffffffffffffffffffffffffffffffffffffffffffffffffffffffffffffffffffffffffffffffffffffffffffffffffffffffffffffffffffffffffffffffffffffffffffffffffffffffffffffffffffe00000025 mm) :
    Kept mm d0 (readPlace m p d).2 := by
  unfold readPlace; with_reducible exact kept_ite_2 (kept_ite (setHeld_keeps (refresh_keeps h (subW g)) (subW g)) (refresh_keeps h (subW g))) (kept_ite_2 (setHeld_keeps (refresh_keeps h (subW g)) (subW g)) (kept_ite_2 (refresh_keeps h (subW g)) (readFlds_keeps (refresh_keeps h (subW g)) (subW g))))

theorem readWord_keeps {m off : Nat} {d d0 : Dev} {mm : Nat} (h : Kept mm d0 d) (g : Sub 0x3fffffffffffffffffffffffffffffffffffffffffffffffffffffffffffffffffffffffffffffffffffffffffffffffffffffffffffffffffffffffffffffffffffffffffffffffffffffffffffffffffffffffffffffffffffffffffffffffffffffffffffffffffffffffffffffffffffffffffffffffffffffffffffffffe00000025 mm) :
    Kept mm d0 (readWord m off d).2 := by
  unfold readWord; with_reducible exact kept_ite_2 h (kept_ite_2 h (kept_ite_2 h (by (try dsimp only); split; exact (readPlace_keeps h (subW g)); exact h)))

theorem parityError_keeps {m off : Nat} {write : Bool} {d d0 : Dev} {mm : Nat} (h : Kept mm d0 d) (g : Sub 0x8f9000000000000000040001000000000000000000000000000000000000000000000000000000000000000000000000000000000000000000000000000000000000000000000000000000000000000000000000000000000000000000000000000000000000000000000000000000000000000000000004000000003041 mm) :
    Kept mm d0 (parityError m off write d) := by
  unfold parityError; with_reducible exact fire_keeps (count_keeps (wr_keeps (recordError_keeps h (subW g)) (subW g)) (subW g) (subW g)) (subW g)

theorem refuseEnables_keeps {m off : Nat} {write : Bool} {d d0 : Dev} {mm : Nat} (h : Kept mm d0 d) (g : Sub 0x2f8200000000000000040001000000000000000000000000000000000000000000000000000000000000000000000000000000000000000000000000000000000000000000000000000000000000000000000000000000000000000000000000000000000000000000000000000000000000000000000004000000003041 mm) :
    Kept mm d0 (refuseEnables m off write d) := by
  unfold refuseEnables; with_reducible exact fire_keeps (count_keeps (wr_keeps (recordError_keeps h (subW g)) (subW g)) (subW g) (subW g)) (subW g)

theorem defaultTarget_keeps {m off : Nat} {write : Bool} {d d0 : Dev} {mm : Nat} (h : Kept mm d0 d) (g : Sub 0x1f8100000000000000040001000000000000000000000000000000000000000000000000000000000000000000000000000000000000000000000000000000000000000000000000000000000000000000000000000000000000000000000000000000000000000000000000000000000000000000000004000000003041 mm) :
    Kept mm d0 (defaultTarget m off write d) := by
  unfold defaultTarget; with_reducible exact fire_keeps (count_keeps (wr_keeps (recordError_keeps h (subW g)) (subW g)) (subW g) (subW g)) (subW g)

theorem accessWrite_keeps {m off : Nat} {x : Beat} {d d0 : Dev} {mm : Nat} (h : Kept mm d0 d) (g : Sub 0x3fffffffffffffffffffffffffffffffffffffffffffffffffffffffffffffffffffffffffffffffffffffffffffffffffffffffffffffffffffffffffffffffffffffffffffffffffffffffffffffffffffffffffffffffffffffffffffffffffffffffffffffffffffffffffffffffffffffffffffffffffffffffffffffffe632bf87b mm) :
    Kept mm d0 (accessWrite m off x d).2 := by
  unfold accessWrite; with_reducible exact by (try dsimp only); split; exact (defaultTarget_keeps h (subW g)); exact (kept_ite_2 (defaultTarget_keeps h (subW g)) (kept_ite_2 (parityError_keeps h (subW g)) (kept_ite_2 (refuseEnables_keeps h (subW g)) (writeWord_keeps (holdAccess_keeps h (subW g)) (subW g)))))

theorem writeFrom_keeps {m off : Nat} {stop : Bool} {xs : List Beat} {done : Nat} {d d0 : Dev} {mm : Nat} (h : Kept mm d0 d) (g : Sub 0x3fffffffffffffffffffffffffffffffffffffffffffffffffffffffffffffffffffffffffffffffffffffffffffffffffffffffffffffffffffffffffffffffffffffffffffffffffffffffffffffffffffffffffffffffffffffffffffffffffffffffffffffffffffffffffffffffffffffffffffffffffffffffffffffffe632bf87b mm) :
    Kept mm d0 (writeFrom m off stop xs done d).2.2 := by
  induction xs generalizing off done d with
  | nil => exact h
  | cons x rest ih =>
    unfold writeFrom
    exact kept_ite_22 (accessWrite_keeps h (subW g)) (ih (accessWrite_keeps h (subW g)))


theorem loaderWrite_keeps {off w : Nat} {d d0 : Dev} {mm : Nat} (h : Kept mm d0 d) (g : Sub 0x3fffffffffffffffffffffffffffffffffffffffffffffffffffffffffffffffffffffffffffffffffffffffffffffffffffffffffffffffffffffffffffffffffffffffffffffffffffffffffffffffffffffffffffffffffffffffffffffffffffffffffffffffffffffffffffffffffffffffffffffffffffffffffffffffe01007801 mm) :
    Kept mm d0 (loaderWrite off w d) := by
  unfold loaderWrite; with_reducible exact kept_ite (putGain_keeps h (subW g)) (by (try dsimp only); split; exact (kept_ite (biquadWrite_keeps h (subW g)) (kept_ite (pauseCfgWrite_keeps h (subW g)) (afterWrite_keeps (putPlace_keeps h (subW g)) (subW g)))); exact h)

theorem accessRead_keeps {m off : Nat} {parity : Bool} {d d0 : Dev} {mm : Nat} (h : Kept mm d0 d) (g : Sub 0x3fffffffffffffffffffffffffffffffffffffffffffffffffffffffffffffffffffffffffffffffffffffffffffffffffffffffffffffffffffffffffffffffffffffffffffffffffffffffffffffffffffffffffffffffffffffffffffffffffffffffffffffffffffffffffffffffffffffffffffffffffffffffffffffffe0000307d mm) :
    Kept mm d0 (accessRead m off parity d).2 := by
  unfold accessRead; with_reducible exact by (try dsimp only); split; exact (defaultTarget_keeps h (subW g)); exact (kept_ite_2 (defaultTarget_keeps h (subW g)) (kept_ite_2 (parityError_keeps h (subW g)) (readWord_keeps (holdAccess_keeps h (subW g)) (subW g))))

theorem readFrom_keeps {m off n : Nat} {acc : List Nat} {d d0 : Dev} {mm : Nat} (h : Kept mm d0 d) (g : Sub 0x3fffffffffffffffffffffffffffffffffffffffffffffffffffffffffffffffffffffffffffffffffffffffffffffffffffffffffffffffffffffffffffffffffffffffffffffffffffffffffffffffffffffffffffffffffffffffffffffffffffffffffffffffffffffffffffffffffffffffffffffffffffffffffffffffe0000307d mm) :
    Kept mm d0 (readFrom m off n acc d).2.2 := by
  induction n generalizing off acc d with
  | zero => exact h
  | succ n ih =>
    have ha := accessRead_keeps (m := m) (off := off) (parity := true) h (subW g)
    unfold readFrom
    split
    · rename_i heq; rw [heq] at ha; exact ih ha
    · rename_i heq; rw [heq] at ha; exact ha


theorem readFails_keeps {m : Nat} {d d0 : Dev} {mm : Nat} (h : Kept mm d0 d) (g : Sub 0x2000000000041 mm) :
    Kept mm d0 (readFails m d) := by
  unfold readFails; with_reducible exact emit_keeps (kept_ite (count_keeps h (subW g) (subW g)) h) (subW g)

theorem hostWrite_keeps {m off : Nat} {xs : List Beat} {d d0 : Dev} {mm : Nat} (h : Kept mm d0 d) (g : Sub 0x3fffffffffffffffffffffffffffffffffffffffffffffffffffffffffffffffffffffffffffffffffffffffffffffffffffffffffffffffffffffffffffffffffffffffffffffffffffffffffffffffffffffffffffffffffffffffffffffffffffffffffffffffffffffffffffffffffffffffffffffffffffffffffffffffe632bf87b mm) :
    Kept mm d0 (hostWrite m off xs d) := by
  unfold hostWrite; with_reducible exact kept_ite h (writeFrom_keeps h (subW g))

theorem hostRead_keeps {m off n : Nat} {enabled parity : Bool} {d d0 : Dev} {mm : Nat} (h : Kept mm d0 d) (g : Sub 0x3fffffffffffffffffffffffffffffffffffffffffffffffffffffffffffffffffffffffffffffffffffffffffffffffffffffffffffffffffffffffffffffffffffffffffffffffffffffffffffffffffffffffffffffffffffffffffffffffffffffffffffffffffffffffffffffffffffffffffffffffffffffffffffffffe0000307d mm) :
    Kept mm d0 (hostRead m off n enabled parity d) := by
  unfold hostRead; with_reducible exact kept_ite h (kept_ite (readFails_keeps (refuseEnables_keeps h (subW g)) (subW g)) (kept_ite (readFails_keeps (accessRead_keeps h (subW g)) (subW g)) (kept_ite (forEach_keeps (readFrom_keeps h (subW g)) (fun _ _ h1 => emit_keeps h1 (subW g))) (readFails_keeps (readFrom_keeps h (subW g)) (subW g)))))

theorem applySdiIn_keeps {s : SrcDesc} {d d0 : Dev} {mm : Nat} (h : Kept mm d0 d) (g : Sub 0x3f0000000000000000000000000000000000000000000000000000000000000000000000000000000000000000000000000000000000000000000001 mm) :
    Kept mm d0 (applySdiIn s d) := by
  unfold applySdiIn; with_reducible exact by (try dsimp only); split; exact (wrB_keeps (wr_keeps (wr_keeps (wr_keeps (wr_keeps (wr_keeps h (subW g)) (subW g)) (subW g)) (subW g)) (subW g)) (subW g) (subW g)); exact h

theorem applyFabric_keeps {x : Pat} {d d0 : Dev} {mm : Nat} (h : Kept mm d0 d) (g : Sub 0x27c000000000000000000000000000000000000000000000000000000000000000000000000000000000000000000000000000000000000000000000000000000000000000000000000000000000000000000000000030000000000000000000000000000000000000000001 mm) :
    Kept mm d0 (applyFabric x d) := by
  unfold applyFabric; with_reducible exact kept_ite (wr_keeps (wr_keeps (wr_keeps (wr_keeps (wr_keeps h (subW g)) (subW g)) (subW g)) (subW g)) (subW g)) (wr_keeps (wrB_keeps (wr_keeps (wr_keeps (wr_keeps (wr_keeps (wr_keeps (wr_keeps h (subW g)) (subW g)) (subW g)) (subW g)) (subW g)) (subW g)) (subW g) (subW g)) (subW g))

theorem applyDst_keeps {x : DstDesc} {d d0 : Dev} {mm : Nat} (h : Kept mm d0 d) (g : Sub 0x200000000000000000000000000000000000000000000000000000000000000000000000000000000000000000000000000000000000000000000000000000000000000000000000000000000000000004000000000001003fec000000000000000000000000000000000000000000000000000001 mm) :
    Kept mm d0 (applyDst x d) := by
  unfold applyDst; with_reducible exact wr_keeps (wrBit_keeps (wr_keeps (wr_keeps (wr_keeps (wr_keeps (wrB_keeps (wr_keeps (wr_keeps (wrB_keeps (wr_keeps (wr_keeps (wr_keeps (wr_keeps h (subW g)) (subW g)) (subW g)) (subW g)) (subW g) (subW g)) (subW g)) (subW g)) (subW g) (subW g)) (subW g)) (subW g)) (subW g)) (subW g)) (subW g) (subW g)) (subW g)

theorem applyTables_keeps {x : Pat} {d d0 : Dev} {mm : Nat} (h : Kept mm d0 d) (g : Sub 0x20000000000000000027c0000000000000000000000000000000000000000000000000000000000000000000000000000000000000000000003f0000000000000000000000000000000000000000000004000030000001003fec000000000030000000000000000000000000000000000080000001 mm) :
    Kept mm d0 (applyTables x d) := by
  unfold applyTables; with_reducible exact forEach_keeps (forEach_keeps (wr_keeps (wr_keeps (applyFabric_keeps (upd_pat h (subW g)) (subW g)) (subW g)) (subW g)) (fun _ _ h1 => applyDst_keeps h1 (subW g))) (fun _ _ h1 => applySdiIn_keeps h1 (subW g))

theorem refusePattern_keeps {e : PatErr} {d d0 : Dev} {mm : Nat} (h : Kept mm d0 d) (g : Sub 0x40001000000000000000000000000000000000000000000000000000000000000000000000000000000000000000000000000000000000000000000000000000000000000000000000000000000000000000000000000000000000000000000000000000000000000000000206084000000003041 mm) :
    Kept mm d0 (refusePattern e d) := by
  unfold refusePattern; with_reducible exact fire_keeps (wr_keeps (wr_keeps (wr_keeps (wr_keeps h (subW g)) (subW g)) (subW g)) (subW g)) (subW g)

theorem applySections_keeps {t : Nat} {x : Pat} {d d0 : Dev} {mm : Nat} (h : Kept mm d0 d) (g : Sub 0x3fffffffffffffffffffffffffffffffffffffffffffffffffffffffffffffffffffffffffffffffffffffffffffffffffffffffffffffffffffffffffffffffffffffffffffffffffffffffffffffffffffffffffffffffffffffffffffffffffffffffffffffffffffffffffffffffffffffffffffffffffffffffffffffffe01007801 mm) :
    Kept mm d0 (applySections t x d) := by
  unfold applySections; with_reducible exact forEach_keeps h (fun _ _ h1 => forEach_keeps h1 (fun _ _ h2 => loaderWrite_keeps h2 (subW g)))

theorem applyLayerRegs_keeps {d d0 : Dev} {mm : Nat} (h : Kept mm d0 d) (g : Sub 0x7ffffffe000000000000000000000000000000000000000000000000000000000000000000000000000000000000000000000000000000000000000000000000000000000000000000000000000000000000000000000000001 mm) :
    Kept mm d0 (applyLayerRegs d) := by
  unfold applyLayerRegs
  refine regs_keeps (M := 0x7ffffffe000000000000000000000000000000000000000000000000000000000000000000000000000000000000000000000000000000000000000000000000000000000000000000000000000000000000000000000000001) h (fun c => ?_) (fun k hk => ?_) (subW g)
  · refine foldl_holds (P := fun t => tabWf 0 t = true) c (fun a x ha => ?_)
    split
    · exact tabWf_set _ _ _ _ ha
    · exact ha
  · refine foldl_holds (P := fun t => tabGet 0 t k = tabGet 0 d.regs k) rfl (fun a x ha => ?_)
    split
    · rename_i q hq
      refine (tabGet_set_ne _ _ _ (fun he => ?_)).trans ha
      have hm := List.mem_of_find?_eq_some hq
      have hall := List.all_eq_true.mp (show ((QLT_SH_CFG_head, QLT_AC_CFG_head) :: (QLT_SH_MCH_even, QLT_AC_MCH_even) :: (QLT_SH_MCH_odd, QLT_AC_MCH_odd) ::
        (placementFields ++ otherFields)).all (fun q => Nat.testBit 0x7ffffffe000000000000000000000000000000000000000000000000000000000000000000000000000000000000000000000000000000000000000000000000000000000000000000000000000000000000000000000000001 (33 + fldKey q.2 []) && decide (fldKey q.2 [] < 1024)) = true by decide) q hm
      rw [Bool.and_eq_true, decide_eq_true_iff] at hall
      have e : keyNo k = fldKey q.2 [] := by rw [he]; unfold keyNo; omega
      rw [e, hall.1] at hk
      cases hk
    · exact ha


theorem applyPattern_keeps {x : Pat} {d d0 : Dev} {mm : Nat} (h : Kept mm d0 d) (g : Sub 0x3fffffffffffffffffffffffffffffffffffffffffffffffffffffffffffffffffffffffffffffffffffffffffffffffffffffffffffffffffffffffffffffffffffffffffffffffffffffffffffffffffffffffffffffffffffffffffffffffffffffffffffffffffffffffffffffffffffffffffffffffffffffffffffffffe81007801 mm) :
    Kept mm d0 (applyPattern x d) := by
  unfold applyPattern; with_reducible exact by (try dsimp only); split; exact (applyLayerRegs_keeps (forEach_keeps (applyTables_keeps h (subW g)) (fun _ _ h1 => applySections_keeps h1 (subW g))) (subW g)); exact (wr_keeps (wr_keeps (applyLayerRegs_keeps (forEach_keeps (applyTables_keeps h (subW g)) (fun _ _ h1 => applySections_keeps h1 (subW g))) (subW g)) (subW g)) (subW g))

theorem patternApplyDone_keeps {v : PatView} {d d0 : Dev} {mm : Nat} (h : Kept mm d0 d) (g : Sub 0x3fffffffffffffffffffffffffffffffffffffffffffffffffffffffffffffffffffffffffffffffffffffffffffffffffffffffffffffffffffffffffffffffffffffffffffffffffffffffffffffffffffffffffffffffffffffffffffffffffffffffffffffffffffffffffffffffffffffffffffffffffffffffffffffffe81007841 mm) :
    Kept mm d0 (patternApplyDone v d) := by
  unfold patternApplyDone; with_reducible exact kept_ite h (by (try dsimp only); split; exact (refusePattern_keeps h (subW g)); exact (wr_keeps (wr_keeps (applyPattern_keeps h (subW g)) (subW g)) (subW g)))

theorem serveCheck_keeps {d d0 : Dev} {mm : Nat} (h : Kept mm d0 d) (g : Sub 0x100080000000000001 mm) :
    Kept mm d0 (serveCheck d) := by
  unfold serveCheck; with_reducible exact kept_ite (wr_keeps (wr_keeps h (subW g)) (subW g)) h

theorem serveTimeout_keeps {d d0 : Dev} {mm : Nat} (h : Kept mm d0 d) (g : Sub 0x40001000000000000000000000000000000000000000000000000000000000000000000000000000000000000000000000000000000000000000000000000000000000000000000000000000000000000000000000000000000000000000000000000000000000000000000000004000040003059 mm) :
    Kept mm d0 (serveTimeout d) := by
  unfold serveTimeout; with_reducible exact kept_ite h (fire_keeps (upd_boot (advanceDev_keeps h (subW g)) (subW g)) (subW g))

theorem durabilityLag_keeps {d d0 : Dev} {mm : Nat} (h : Kept mm d0 d) (g : Sub 0x40001000000000000000000000000000000000000000000000000000000000000000000000000000000000000000000000000000000000000000000000000000000000000000000000000000000000000000000000000000000000000000000000000000000000000000001000004000040003059 mm) :
    Kept mm d0 (durabilityLag d) := by
  unfold durabilityLag; with_reducible exact by (try dsimp only); split; exact h; exact (kept_ite h (fire_keeps (wr_keeps (upd_boot (advanceDev_keeps h (subW g)) (subW g)) (subW g)) (subW g)))

theorem flashFails_keeps {d d0 : Dev} {mm : Nat} (h : Kept mm d0 d) (g : Sub 0x40001000000000000000000000000000000000000000000000000000000000000000000000000000000000000000000000000000000000000000000000000000000000000000000000000000000000000000000000000000000000000000000000000000000000000000002020004000000003041 mm) :
    Kept mm d0 (flashFails d) := by
  unfold flashFails; with_reducible exact fire_keeps (wr_keeps (count_keeps h (subW g) (subW g)) (subW g)) (subW g)

theorem journalEntry_keeps {ok : Bool} {d d0 : Dev} {mm : Nat} (h : Kept mm d0 d) (g : Sub 0x40001000000000000000000000000000000000000000000000000000000000000000000000000000000000000000000000000000000000000000000000000000000000000000000000000000000000000000000000000000000000000000000000000000000000000000002028004000070003041 mm) :
    Kept mm d0 (journalEntry ok d) := by
  unfold journalEntry; with_reducible exact by (try dsimp only); split; exact h; exact (kept_ite (flashFails_keeps h (subW g)) (kept_ite (kept_ite (wr_keeps (setRoute_keeps (upd_journal h (subW g)) (subW g)) (subW g)) (setRoute_keeps (upd_journal h (subW g)) (subW g))) (upd_boot (kept_ite (wr_keeps (setRoute_keeps (upd_journal h (subW g)) (subW g)) (subW g)) (setRoute_keeps (upd_journal h (subW g)) (subW g))) (subW g))))

theorem checkpoint_keeps {ok : Bool} {d d0 : Dev} {mm : Nat} (h : Kept mm d0 d) (g : Sub 0x40001000000000000000000000000000000000000000000000000000000000000000000000000000000000000000000000000000000000000000000000000000000000000000000000000000000000000000000000000000000000000000000000000000000000000000002020004000020003041 mm) :
    Kept mm d0 (checkpoint ok d) := by
  unfold checkpoint; with_reducible exact kept_ite (setRoute_keeps h (subW g)) (flashFails_keeps h (subW g))

theorem startScribe_keeps {slot : Nat} {other : Bool} {d d0 : Dev} {mm : Nat} (h : Kept mm d0 d) (g : Sub 0x40001000000000000000000000000000000000000000000000000000000000000000000000000000000000000000000000000000000000000000000000000000000000000000000000000000000000000000000000000000000000000000000000000000000000000000000000b84000060003041 mm) :
    Kept mm d0 (startScribe slot other d) := by
  unfold startScribe; with_reducible exact kept_ite (fire_keeps (upd_nv (kept_ite (fire_keeps (wr_keeps (upd_boot (wr_keeps (wrB_keeps (wr_keeps h (subW g)) (subW g) (subW g)) (subW g)) (subW g)) (subW g)) (subW g)) (wr_keeps (upd_boot (wr_keeps (wrB_keeps (wr_keeps h (subW g)) (subW g) (subW g)) (subW g)) (subW g)) (subW g))) (subW g)) (subW g)) (kept_ite (fire_keeps (wr_keeps (upd_boot (wr_keeps (wrB_keeps (wr_keeps h (subW g)) (subW g) (subW g)) (subW g)) (subW g)) (subW g)) (subW g)) (wr_keeps (upd_boot (wr_keeps (wrB_keeps (wr_keeps h (subW g)) (subW g) (subW g)) (subW g)) (subW g)) (subW g)))

theorem romVerifyDone_keeps {v : RomView} {d d0 : Dev} {mm : Nat} (h : Kept mm d0 d) (g : Sub 0x20000030003bffd01fb040001000000000000000000000000000000000000000000000000000000000000000000000000000000000000000000000000000000000000000000000000000000000000000000000000000000000000000000000000000000000000000000000000000000000000000000000b84000060003061 mm) :
    Kept mm d0 (romVerifyDone v d) := by
  unfold romVerifyDone; with_reducible exact kept_ite h (by (try dsimp only); split; exact (startScribe_keeps (kept_ite (fire_keeps (showThimble_keeps (showUpdate_keeps (wr_keeps (takeFree_keeps (upd_nv (upd_nv h (subW g)) (subW g)) (subW g)) (subW g)) (subW g)) (subW g)) (subW g)) (showThimble_keeps (showUpdate_keeps (wr_keeps (takeFree_keeps (upd_nv (upd_nv h (subW g)) (subW g)) (subW g)) (subW g)) (subW g)) (subW g))) (subW g)); exact (wr_keeps (kept_ite (fire_keeps (showThimble_keeps (showUpdate_keeps (wr_keeps (takeFree_keeps (upd_nv (upd_nv h (subW g)) (subW g)) (subW g)) (subW g)) (subW g)) (subW g)) (subW g)) (showThimble_keeps (showUpdate_keeps (wr_keeps (takeFree_keeps (upd_nv (upd_nv h (subW g)) (subW g)) (subW g)) (subW g)) (subW g)) (subW g))) (subW g)))

theorem startUpInput_keeps {d d0 : Dev} {mm : Nat} (h : Kept mm d0 d) (g : Sub 0x1ffffffffffffffffffffffffffffffff87fffffffffffffffffffffffffffffffffffffffffffffffffffffffffffffffffffffffffffffffffffffffffffffffffffffffffffffffffffffffffffffffffffffffffffffffffffffffffffffffffffffffffffffffffffffffffffffff0000000000000003f1ffffffffff01ffffff7df mm) :
    Kept mm d0 (startUpInput d) := by
  unfold startUpInput; with_reducible exact kept_ite h (kept_ite (fallBack_keeps (fire_keeps (upd_boot (atGrid_keeps h (subW g)) (subW g)) (subW g)) (subW g)) (kept_ite (wr_keeps (upd_boot (kept_ite (setRoute_keeps (startUp_keeps (atGrid_keeps h (subW g)) (subW g)) (subW g)) (startUp_keeps (atGrid_keeps h (subW g)) (subW g))) (subW g)) (subW g)) (wr_keeps (upd_sea (upd_boot (kept_ite (setRoute_keeps (startUp_keeps (atGrid_keeps h (subW g)) (subW g)) (subW g)) (startUp_keeps (atGrid_keeps h (subW g)) (subW g))) (subW g)) (subW g)) (subW g))))

theorem answerUpdate_keeps {mac src : Nat} {v6 : Bool} {work : Dev → Nat × Dev} {first : Nat} {d d0 : Dev} {mm : Nat} (h : Kept mm d0 d) (hwork : ∀ d, Kept mm d0 d → Kept mm d0 (work d).2) (g : Sub 0x8080040 mm) :
    Kept mm d0 (answerUpdate mac src v6 work first d) := by
  unfold answerUpdate; with_reducible exact kept_ite h (kept_ite (upd_icn h (subW g)) (emit_keeps (offerMgmt_keeps (hwork _ (upd_icn h (subW g))) (subW g)) (subW g)))

theorem queryMessage_keeps {mac src : Nat} {v6 : Bool} {digest first : Nat} {d d0 : Dev} {mm : Nat} (h : Kept mm d0 d) (g : Sub 0x8080040 mm) :
    Kept mm d0 (queryMessage mac src v6 digest first d) := by
  unfold queryMessage; with_reducible exact answerUpdate_keeps h (fun _ h1 => h1) (subW g)

theorem offerDatagram_keeps {mac src : Nat} {v6 : Bool} {h_ : List Nat} {v : OfferView} {d d0 : Dev} {mm : Nat} (h : Kept mm d0 d) (g : Sub 0x30003bffc0000040001000000000000000000000000000000000000000000000000000000000000000000000000000000000000000000000000000000000000000000000000000000000000000000000000000000000000000000000000000000000000000000000000000000000000000000000004000028083041 mm) :
    Kept mm d0 (offerDatagram mac src v6 h_ v d) := by
  unfold offerDatagram; with_reducible exact answerUpdate_keeps h (fun _ h1 => offer_keeps h1 (subW g)) (subW g)

theorem resetConfig_keeps {d d0 : Dev} {mm : Nat} (h : Kept mm d0 d) (g : Sub 0x80f0000002001 mm) :
    Kept mm d0 (resetConfig d) := by
  unfold resetConfig; with_reducible exact wr_keeps (upd_irq (wr_keeps (wr_keeps (wr_keeps (wr_keeps h (subW g)) (subW g)) (subW g)) (subW g)) (subW g)) (subW g)

theorem linkFalls_keeps {d d0 : Dev} {mm : Nat} (h : Kept mm d0 d) (g : Sub 0x4000100000000000000000000000000000000000000000000000000000000000000000000000000000000000000000000000000000000000000000000000000000000000000000000000000000000000000000000000000000000000000000000000000000000000000000000000510e000003041 mm) :
    Kept mm d0 (linkFalls d) := by
  unfold linkFalls; with_reducible exact kept_ite (fire_keeps (count_keeps (wr_keeps (wr_keeps (wr_keeps (wr_keeps h (subW g)) (subW g)) (subW g)) (subW g)) (subW g) (subW g)) (subW g)) h

theorem cutBurst_keeps {m : Nat} {c : Option Cut} {d d0 : Dev} {mm : Nat} (h : Kept mm d0 d) (g : Sub 0x10f8400000000000000040001000000000000000000000000000000000000000000000000000000000000000000000000000000000000000000000000000000000000000000000000000000000000000000000000000000000000000000000000000000000000000000000000000000000000000000000004000000003041 mm) :
    Kept mm d0 (cutBurst m c d) := by
  unfold cutBurst; with_reducible exact by (try dsimp only); split; exact (resetAbort_keeps h (subW g)); exact h

theorem perstEdge_keeps {low : Bool} {c : Option Cut} {d d0 : Dev} {mm : Nat} (h : Kept mm d0 d) (g : Sub 0x10f840000000000000004000100000000000000000000000000000000000000000000000000000000000000000000000000000000000000000000000000000000000000000000000000000000000000000000000000000000000000000000000000000000000000000000000000000000000000000000000d3fe008003441 mm) :
    Kept mm d0 (perstEdge low c d) := by
  unfold perstEdge; with_reducible exact kept_ite (wr_keeps (resetConfig_keeps (linkFalls_keeps (cutBurst_keeps (upd_pins h (subW g)) (subW g)) (subW g)) (subW g)) (subW g)) (upd_many (n := 0x8000400) h (by constructor <;> intro y <;> first | rfl | exact canon_upd y rfl | exact fun _ => rfl | exact sticky_of_regs rfl | exact inst_any (by decide) | exact sticky_any (by decide) y | exact absurd y (by decide)) (subW g))

theorem sendControl_keeps {r : CtlReq} {kind : Nat} {ws : List Nat} {d d0 : Dev} {mm : Nat} (h : Kept mm d0 d) (g : Sub 0x80040 mm) :
    Kept mm d0 (sendControl r kind ws d) := by
  unfold sendControl; with_reducible exact emit_keeps (offerMgmt_keeps h (subW g)) (subW g)

theorem staleRequest_keeps {r : CtlReq} {d d0 : Dev} {mm : Nat} (h : Kept mm d0 d) (g : Sub 0x100000000000000000000000000000000000000000000000000000000000000000000000000000000000000000000000000000000000000000000000000000000000000000000000000000000000000000000000000000000000000000000000000000000000000000000000000000000000000000000000000000008080041 mm) :
    Kept mm d0 (staleRequest r d) := by
  unfold staleRequest; with_reducible exact kept_ite (sendControl_keeps (count_keeps (upd_icn h (subW g)) (subW g) (subW g)) (subW g)) (count_keeps (upd_icn h (subW g)) (subW g) (subW g))

theorem runOp_keeps {o : CtlOp} {d d0 : Dev} {mm : Nat} (h : Kept mm d0 d) (g : Sub 0x3fffffffffffffffffffffffffffffffffffffffffffffffffffffffffffffffffffffffffffffffffffffffffffffffffffffffffffffffffffffffffffffffffffffffffffffffffffffffffffffffffffffffffffffffffffffffffffffffffffffffffffffffffffffffffffffffffffffffffffffffffffffffffffffffe632bf87f mm) :
    Kept mm d0 (runOp o d).2.2 := by
  unfold runOp; with_reducible exact kept_ite_22 (readFrom_keeps h (subW g)) (kept_ite_22 (writeFrom_keeps h (subW g)) (kept_ite_22 (by (try dsimp only); split; exact (wakeChannel_keeps h (subW g)); exact h) (forUpTo_keeps (by (try dsimp only); split; exact (wakeChannel_keeps h (subW g)); exact h) (fun _ _ h1 => bar2Write_keeps h1 (subW g)))))

theorem hotReset_keeps {hot : Bool} {c : Option Cut} {d d0 : Dev} {mm : Nat} (h : Kept mm d0 d) (g : Sub 0x10f840000000000000004000100000000000000000000000000000000000000000000000000000000000000000000000000000000000000000000000000000000000000000000000000000000000000000000000000000000000000000000000000000000000000000000000000000000000000000000000d9fe000003041 mm) :
    Kept mm d0 (hotReset hot c d) := by
  unfold hotReset; with_reducible exact kept_ite (wr_keeps (resetConfig_keeps (linkFalls_keeps (cutBurst_keeps h (subW g)) (subW g)) (subW g)) (subW g)) (resetConfig_keeps (linkFalls_keeps (cutBurst_keeps h (subW g)) (subW g)) (subW g))

theorem runOps_keeps {os : List CtlOp} {acc : List Nat} {d d0 : Dev} {mm : Nat} (h : Kept mm d0 d) (g : Sub 0x3fffffffffffffffffffffffffffffffffffffffffffffffffffffffffffffffffffffffffffffffffffffffffffffffffffffffffffffffffffffffffffffffffffffffffffffffffffffffffffffffffffffffffffffffffffffffffffffffffffffffffffffffffffffffffffffffffffffffffffffffffffffffffffffffe632bf87f mm) :
    Kept mm d0 (runOps os acc d).2 := by
  induction os generalizing acc d with
  | nil => exact h
  | cons o rest ih =>
    unfold runOps
    exact kept_ite_2 (ih (runOp_keeps h (subW g))) (runOp_keeps h (subW g))


theorem runRequest_keeps {os : List CtlOp} {d d0 : Dev} {mm : Nat} (h : Kept mm d0 d) (g : Sub 0x3fffffffffffffffffffffffffffffffffffffffffffffffffffffffffffffffffffffffffffffffffffffffffffffffffffffffffffffffffffffffffffffffffffffffffffffffffffffffffffffffffffffffffffffffffffffffffffffffffffffffffffffffffffffffffffffffffffffffffffffffffffffffffffffffe632bf87f mm) :
    Kept mm d0 (runRequest os d).2 := by
  unfold runRequest; with_reducible exact by (try dsimp only); split; exact h; exact (runOps_keeps (count_keeps h (subW g) (subW g)) (subW g))

theorem setIbKey_keeps {k : Nat} {x : IbKey} {d d0 : Dev} {mm : Nat} (h : Kept mm d0 d) (g : Sub 0x8000000 mm) :
    Kept mm d0 (setIbKey k x d) := by
  unfold setIbKey; with_reducible exact upd_icn h (subW g)

theorem noteSeq_keeps {k seq : Nat} {reply : List Nat} {d d0 : Dev} {mm : Nat} (h : Kept mm d0 d) (g : Sub 0x800000000000000000000000000000000000000000000000000000000000000000000000000000000000000000000000000000000000000000000000000000000000000000000000000000000000000000000000000000000000000000000000000000000000000000000000000000000000000000000000000000008000001 mm) :
    Kept mm d0 (noteSeq k seq reply d) := by
  unfold noteSeq; with_reducible exact setIbKey_keeps (wr_keeps h (subW g)) (subW g)

theorem controlRequest_keeps {r : CtlReq} {d d0 : Dev} {mm : Nat} (h : Kept mm d0 d) (g : Sub 0x3fffffffffffffffffffffffffffffffffffffffffffffffffffffffffffffffffffffffffffffffffffffffffffffffffffffffffffffffffffffffffffffffffffffffffffffffffffffffffffffffffffffffffffffffffffffffffffffffffffffffffffffffffffffffffffffffffffffffffffffffffffffffffffffffe6b2bf8ff mm) :
    Kept mm d0 (controlRequest r d) := by
  unfold controlRequest; with_reducible exact kept_ite h (kept_ite (count_keeps h (subW g) (subW g)) (kept_ite (count_keeps h (subW g) (subW g)) (kept_ite (count_keeps h (subW g) (subW g)) (kept_ite (firePerSecond_keeps (wr_keeps (count_keeps h (subW g) (subW g)) (subW g)) (subW g)) (kept_ite (staleRequest_keeps h (subW g)) (kept_ite (sendControl_keeps (noteSeq_keeps (runRequest_keeps h (subW g)) (subW g)) (subW g)) (by (try dsimp only); split; exact (sendControl_keeps (count_keeps h (subW g) (subW g)) (subW g)); exact (firePerSecond_keeps (wr_keeps (count_keeps h (subW g) (subW g)) (subW g)) (subW g)))))))))

theorem singleOp_keeps {o : CtlOp} {d d0 : Dev} {mm : Nat} (h : Kept mm d0 d) (g : Sub 0x3fffffffffffffffffffffffffffffffffffffffffffffffffffffffffffffffffffffffffffffffffffffffffffffffffffffffffffffffffffffffffffffffffffffffffffffffffffffffffffffffffffffffffffffffffffffffffffffffffffffffffffffffffffffffffffffffffffffffffffffffffffffffffffffffe632bf87f mm) :
    Kept mm d0 (singleOp o d) := by
  unfold singleOp; with_reducible exact kept_ite h (emit_keeps (runRequest_keeps h (subW g)) (subW g))

theorem configRequest_keeps {set : Option (Bool × Bool × Bool × Bool)} {d d0 : Dev} {mm : Nat} (h : Kept mm d0 d) (g : Sub 0xf0000002041 mm) :
    Kept mm d0 (configRequest set d) := by
  unfold configRequest; with_reducible exact kept_ite h (kept_ite (emit_keeps h (subW g)) (by (try dsimp only); split; exact (emit_keeps h (subW g)); exact (emit_keeps (sendAll_keeps (dropDisabled_keeps (wrB_keeps (wrB_keeps (wrB_keeps (wr_keeps h (subW g)) (subW g) (subW g)) (subW g) (subW g)) (subW g) (subW g)) (subW g)) (subW g)) (subW g))))

theorem pieceDatagram_keeps {digest i : Nat} {bytes : List Nat} {fails : Bool} {d d0 : Dev} {mm : Nat} (h : Kept mm d0 d) (g : Sub 0x30003fffc0000040001000000000000000000000000000000000000000000000000000000000000000000000000000000000000000000000000000000000000000000000000000000000000000000000000000000000000000000000000000000000000000000000000000000000000000000000004000020003041 mm) :
    Kept mm d0 (pieceDatagram digest i bytes fails d) := by
  unfold pieceDatagram; with_reducible exact kept_ite (putPiece_keeps h (subW g)) h

theorem accessTimesOut_keeps {m off target : Nat} {write : Bool} {late : List Nat} {d d0 : Dev} {mm : Nat} (h : Kept mm d0 d) (g : Sub 0x3fffffffffffffffffffffffffffffffffffffffffffffffffffffffffffffffffffffffffffffffffffffffffffffffffffffffffffffffffffffffffffffffffffffffffffffffffffffffffffffffffffffffffffffffffffffffffffffffffffffffffffffffffffffffffffffffffffffffffffffffffffffffffffffffe632bf87b mm) :
    Kept mm d0 (accessTimesOut m off target write late d) := by
  unfold accessTimesOut; with_reducible exact kept_ite (forEach_keeps (kept_ite (accessTimeout_keeps (advanceDev_keeps h (subW g)) (subW g)) (readFails_keeps (accessTimeout_keeps (advanceDev_keeps h (subW g)) (subW g)) (subW g))) (fun _ _ h1 => kept_ite (bar2Write_keeps h1 (subW g)) (writeWord_keeps h1 (subW g)))) (kept_ite (accessTimeout_keeps (advanceDev_keeps h (subW g)) (subW g)) (readFails_keeps (accessTimeout_keeps (advanceDev_keeps h (subW g)) (subW g)) (subW g)))

theorem linkTrains_keeps {speed width : Nat} {d d0 : Dev} {mm : Nat} (h : Kept mm d0 d) (g : Sub 0xe000000001 mm) :
    Kept mm d0 (linkTrains speed width d) := by
  unfold linkTrains; with_reducible exact kept_ite h (wr_keeps (wr_keeps (wr_keeps h (subW g)) (subW g)) (subW g))

theorem vectorUnmask_keeps {v : Option Nat} {d d0 : Dev} {mm : Nat} (h : Kept mm d0 d) (g : Sub 0x40000002041 mm) :
    Kept mm d0 (vectorUnmask v d) := by
  unfold vectorUnmask; with_reducible exact by (try dsimp only); split; exact (sendAll_keeps (wr_keeps h (subW g)) (subW g)); exact (msixWrite_keeps h (subW g))

theorem functionReset_keeps {c : Option Cut} {d d0 : Dev} {mm : Nat} (h : Kept mm d0 d) (g : Sub 0x10f840000000000000004000100000000000000000000000000000000000000000000000000000000000000000000000000000000000000000000000000000000000000000000000000000000000000000000000000000000000000000000000000000000000000000000000000000000000000000000000c4f0000003041 mm) :
    Kept mm d0 (functionReset c d) := by
  unfold functionReset; with_reducible exact wr_keeps (resetConfig_keeps (cutBurst_keeps h (subW g)) (subW g)) (subW g)

theorem windowAccess_keeps {m off n : Nat} {write : Option (List (Nat × Nat))} {d d0 : Dev} {mm : Nat} (h : Kept mm d0 d) (g : Sub 0x1f8100000000000000040001000000000000000000000000000000000000000000000000000000000000000000000000000008000002000000000000200000000000000000000000000000000000000000000000000000000000000000000000000000000000000000000000000000000000000000000004000000033041 mm) :
    Kept mm d0 (windowAccess m off n write d) := by
  unfold windowAccess; with_reducible exact kept_ite h (kept_ite (emit_keeps (defaultTarget_keeps h (subW g)) (subW g)) (by (try dsimp only); split; exact (forUpTo_keeps (by (try dsimp only); split; exact (wakeChannel_keeps h (subW g)); exact h) (fun _ _ h1 => emit_keeps h1 (subW g))); exact (kept_ite (bar2Write_keeps (by (try dsimp only); split; exact (wakeChannel_keeps h (subW g)); exact h) (subW g)) (forEach_keeps (by (try dsimp only); split; exact (wakeChannel_keeps h (subW g)); exact h) (fun _ _ h1 => bar2Write_keeps h1 (subW g))))))

theorem holdoffEnd_keeps {v : Nat} {d d0 : Dev} {mm : Nat} (h : Kept mm d0 d) (g : Sub 0x2058 mm) :
    Kept mm d0 (holdoffEnd v d) := by
  unfold holdoffEnd; with_reducible exact kept_ite h (sendOwed_keeps (upd_irq (advanceDev_keeps h (subW g)) (subW g)) (subW g))

end Sys2Proof.Machine
end

