-- ==== Sys2Proof/Laws/KeepsEvents.lean ====
section
/-! SUPPORT. Which parts of a device and which registers the functions of the supplies, the Blotter, the audio grid and what a command's run does can change: one lemma per
function. A mask's bits are `DevPart.mask` and `fldMask`. -/

namespace Sys2Proof.Machine

set_option maxRecDepth 4000
set_option Elab.async false
set_option exponentiation.threshold 2048
set_option linter.unusedVariables false

theorem coreVidValid_keeps {d d0 : Dev} {mm : Nat} (h : Kept mm d0 d) (g : Sub 0x4000000000000000000401 mm) :
    Kept mm d0 (coreVidValid d) := by
  unfold coreVidValid; with_reducible exact kept_ite h (wr_keeps (upd_pins h (subW g)) (subW g))

theorem porstPulse_keeps {memberId : Nat} {d d0 : Dev} {mm : Nat} (h : Kept mm d0 d) (g : Sub 0x3ffffffffffffffffffffffffffffffffffffffffffffffffffffffffffffffffffffffffffffffffffffffffffffffffffffffffffffffffffffffffffffffffffffffffffffffffffffffffffffffffffffffffffffffffffffffffffffffffffffffffffffffffffffffffffffffffffffffffffffffffffffffffffffffffdfffff9f mm) :
    Kept mm d0 (porstPulse memberId d) := by
  unfold porstPulse; with_reducible exact upd_pins (powerOnReset_keeps h (subW g)) (subW g)

theorem threshold_keeps {n : Nat} {sticky : Fld} {on off : Bool} {d d0 : Dev} {mm : Nat} (h : Kept mm d0 d) (g1 : Sub (fldMask sticky) mm) (g : Sub 0xc0001000000000000000000000000000000000000000000000000000000000000000000000000000000000000000000000000000000000000000000000000000000000000000000000000000000000000000000000000000000000000000000000000000000000000000000000004000000003041 mm) :
    Kept mm d0 (threshold n sticky on off d) := by
  unfold threshold; with_reducible exact kept_ite (kept_ite (setRaw_keeps h (subW g)) h) (kept_ite (setRaw_keeps (wr_keeps h g1) (subW g)) h)

theorem supplyReturns_keeps {memberId : Nat} {d d0 : Dev} {mm : Nat} (h : Kept mm d0 d) (g : Sub 0x3ffffffffffffffffffffffffffffffffffffffffffffffffffffffffffffffffffffffffffffffffffffffffffffffffffffffffffffffffffffffffffffffffffffffffffffffffffffffffffffffffffffffffffffffffffffffffffffffffffffffffffffffffffffffffffffffffffffffffffffffffffffffffffffffffdfffff9f mm) :
    Kept mm d0 (supplyReturns memberId d) := by
  unfold supplyReturns; with_reducible exact kept_ite h (upd_pins (powerOnReset_keeps h (subW g)) (subW g))

theorem supplyExcursion_keeps {s : Nat} {d d0 : Dev} {mm : Nat} (h : Kept mm d0 d) (g : Sub 0x40001000000000000000000000000000000000000000000000000000000000000000000000000000000000000000000000000000000000000000000000000000000000000000000000000000000000000000000000000000000000000000000000000000000000000001800000004000000003041 mm) :
    Kept mm d0 (supplyExcursion s d) := by
  unfold supplyExcursion; with_reducible exact fire_keeps (wrBit_keeps (wrBit_keeps h (subW g) (subW g)) (subW g) (subW g)) (subW g)

theorem temperatureSample_keeps {xs : List (Option Int)} {coreMv inRange : Nat} {d d0 : Dev} {mm : Nat} (h : Kept mm d0 d) (g : Sub 0xc00010000000000000000000000000000000000000000000000000000000000000000000000000000000000000000000000000000000000000000000000000000000000000000000000000000000000000000000000000000000000000000000000000000000000001f8dc0000004000000003259 mm) :
    Kept mm d0 (temperatureSample xs coreMv inRange d) := by
  unfold temperatureSample; with_reducible exact by (try dsimp only); split; exact (threshold_keeps (wr_keeps (wr_keeps (wr_keeps (atGrid_keeps h (subW g)) (subW g)) (subW g)) (subW g)) (subW g) (subW g)); exact (threshold_keeps (threshold_keeps (threshold_keeps (threshold_keeps (kept_ite (wrS_keeps (wrS_keeps (wr_keeps (threshold_keeps (wr_keeps (wr_keeps (wr_keeps (atGrid_keeps h (subW g)) (subW g)) (subW g)) (subW g)) (subW g) (subW g)) (subW g)) (subW g) (subW g)) (subW g) (subW g)) (wrS_keeps (wr_keeps (threshold_keeps (wr_keeps (wr_keeps (wr_keeps (atGrid_keeps h (subW g)) (subW g)) (subW g)) (subW g)) (subW g) (subW g)) (subW g)) (subW g) (subW g))) (subW g) (subW g)) (subW g) (subW g)) (subW g) (subW g)) (subW g) (subW g))

theorem pllLoss_keeps {d d0 : Dev} {mm : Nat} (h : Kept mm d0 d) (g : Sub 0x40001000000000000000000000000000000000000000000000000000000000000000000000000000000000000000000000000000000000000000000000000000000000000000000000000000000000000000000000000000000000000000000000000000000000000200000000004000000003041 mm) :
    Kept mm d0 (pllLoss d) := by
  unfold pllLoss; with_reducible exact fire_keeps (wr_keeps h (subW g)) (subW g)

theorem thermalTrip_keeps {d d0 : Dev} {mm : Nat} (h : Kept mm d0 d) (g : Sub 0x500 mm) :
    Kept mm d0 (thermalTrip d) := by
  unfold thermalTrip; with_reducible exact upd_many (n := 0x500) h (by constructor <;> intro y <;> first | rfl | exact canon_upd y rfl | exact fun _ => rfl | exact sticky_of_regs rfl | exact inst_any (by decide) | exact sticky_any (by decide) y | exact absurd y (by decide)) (subW g)

theorem supplyFalls_keeps {d d0 : Dev} {mm : Nat} (h : Kept mm d0 d) (g : Sub 0x3ffffffffffffffffffffffffffffffffffffffffffffffffffffffffffffffffffffffffffffffffffffffffffffffffffffffffffffffffffffffffffffffffffffffffffffffffffffffffffffffffffffffffffffffffffffffffffffffffffffffffffffffffffffffffffffffffffffffffffffffffffffffffffffffffdfffff9f mm) :
    Kept mm d0 (supplyFalls d) := by
  unfold supplyFalls; with_reducible exact upd_pins (powerOnReset_keeps h (subW g)) (subW g)

theorem leaveSafe_keeps {d d0 : Dev} {mm : Nat} (h : Kept mm d0 d) (g : Sub 0x1000020000000000000000000000000000000000000000000000000000000000000000000000000000000000000000000000000000000000000000000000000040000000000000005c000002080000000000000000000000000000000000000000000000000000000000000000000000004440001 mm) :
    Kept mm d0 (leaveSafe d) := by
  unfold leaveSafe; with_reducible exact reportAll_keeps (restartMigs_keeps (retrainEth_keeps (endMute_keeps (wr_keeps (wr_keeps h (subW g)) (subW g)) (subW g)) (subW g)) (subW g)) (subW g)

theorem releaseAtTick_keeps {d d0 : Dev} {mm : Nat} (h : Kept mm d0 d) (g : Sub 0xd000160000000000000000000000000000000000000000000000000000000000000000000000000000000000000000000000000000000000000000000000000040000000000000005c000002080000000000000000000000000000000000000000000000000000000000000000004000004443041 mm) :
    Kept mm d0 (releaseAtTick d) := by
  unfold releaseAtTick; with_reducible exact kept_ite h (kept_ite (leaveSafe_keeps (setRaw_keeps (wr_keeps (upd_blt h (subW g)) (subW g)) (subW g)) (subW g)) (setRaw_keeps (wr_keeps (upd_blt h (subW g)) (subW g)) (subW g)))

theorem latchSafe_keeps {d d0 : Dev} {mm : Nat} (h : Kept mm d0 d) (g : Sub 0xc0001400000000000000000000000000000000000000000000000000000000000000000000000000000000000000000000000000000000000000000000000000000000000000000000000000000000000000000000000000000000000000000000000000000000000000000000004000000003041 mm) :
    Kept mm d0 (latchSafe d) := by
  unfold latchSafe; with_reducible exact setRaw_keeps (wr_keeps h (subW g)) (subW g)

theorem autoExit_keeps {d d0 : Dev} {mm : Nat} (h : Kept mm d0 d) (g : Sub 0xd080160000000000000000000000000000000000000000000000000000000000000000000000000000000000000000000000000000000000000000000000000040000000000000005c000002080000000000000000000000000000000000000000000000000000000000000000004000004443041 mm) :
    Kept mm d0 (autoExit d) := by
  unfold autoExit; with_reducible exact kept_ite h (kept_ite (latchSafe_keeps h (subW g)) (fire_keeps (leaveSafe_keeps (count_keeps (upd_blt h (subW g)) (subW g) (subW g)) (subW g)) (subW g)))

theorem safeExit_keeps {d d0 : Dev} {mm : Nat} (h : Kept mm d0 d) (g : Sub 0xd080160000000000000000000000000000000000000000000000000000000000000000000000000000000000000000000000000000000000000000000000000040000000000000005c000002080000000000000000000000000000000000000000000000000000000000000000004000004443059 mm) :
    Kept mm d0 (safeExit d) := by
  unfold safeExit; with_reducible exact kept_ite h (autoExit_keeps (advanceTo_keeps h (subW g)) (subW g))

theorem safeEntry_keeps {d d0 : Dev} {mm : Nat} (h : Kept mm d0 d) (g : Sub 0x480012000803f80001c08040000040000000043c0e51800008000003bffffa077ffff4001e3800000000000017ffffff50000c0000000000000ffffffffffffc600000000004000800000000000000000000000000100810003ef019a0002008c0000000000000000000000000004000107657459 mm) :
    Kept mm d0 (safeEntry d) := by
  unfold safeEntry; with_reducible exact kept_ite h (kept_ite (advance_keeps (upd_blt h (subW g)) (subW g)) (seamIdle_keeps (forEach_keeps (startMute_keeps (dropSalvos_keeps (wr_keeps (wr_keeps (upd_pins (advance_keeps (upd_blt h (subW g)) (subW g)) (subW g)) (subW g)) (subW g)) (subW g)) (subW g)) (fun _ _ h1 => txHalt_keeps h1 (subW g))) (subW g)))

theorem exitTick_keeps {d d0 : Dev} {mm : Nat} (h : Kept mm d0 d) (g : Sub 0xd080160000000000000000000000000000000000000000000000000000000000000000000000000000000000000000000000000000000000000000000000000040000000000000005c000002080000000000000000000000000000000000000000000000000000000000000000004000004443041 mm) :
    Kept mm d0 (exitTick d) := by
  unfold exitTick; with_reducible exact autoExit_keeps (releaseAtTick_keeps h (subW g)) (subW g)

theorem safeReleaseWrite_keeps {d d0 : Dev} {mm : Nat} (h : Kept mm d0 d) (g : Sub 0xd000160000000000000000000000000000000000000000000000000000000000000000000000000000000000000000000000000000000000000000000000000040000000000000005c000002080000000000000000000000000000000000000000000000000000000000000000004000004443259 mm) :
    Kept mm d0 (safeReleaseWrite d) := by
  unfold safeReleaseWrite; with_reducible exact releaseAtTick_keeps (atGrid_keeps (upd_blt h (subW g)) (subW g)) (subW g)

theorem faultTimer_keeps {d d0 : Dev} {mm : Nat} (h : Kept mm d0 d) (g : Sub 0x1000000000000000000000000000000000000000000000000000000000000000000000000000000000000000000000000000000000000000000000000000000000000000000000000000000000000000000000000000000000000000000000000000000000000000000000000000000001019 mm) :
    Kept mm d0 (faultTimer d) := by
  unfold faultTimer; with_reducible exact kept_ite (releasePin_keeps (advanceDev_keeps h (subW g)) (subW g)) (advanceDev_keeps h (subW g))

theorem regrade_keeps {r old : Nat} {d d0 : Dev} {mm : Nat} (h : Kept mm d0 d) (g : Sub 0x40001000000000000000000000000000000000000000000000000000000000000000000000000000000000000000000000000000000000000000000000000000000000000000000000000000000000000000000000000000000000000000000000000000000000000000000000004000000003041 mm) :
    Kept mm d0 (regrade r old d) := by
  unfold regrade; with_reducible exact forUpTo_keeps h (fun _ _ h1 => kept_ite (fireAt_keeps h1 (subW g)) h1)

theorem severitiesTick_keeps {d d0 : Dev} {mm : Nat} (h : Kept mm d0 d) (g : Sub 0x40001000000000000000000000000000000000000000000000000000000000000000000000000000000000000000000000000000000000000000000000000000000000000000000000000000000000000000000000000000000000000000000000000000000000000000000000004000000003041 mm) :
    Kept mm d0 (severitiesTick d) := by
  unfold severitiesTick; with_reducible exact kept_ite h (kept_ite (upd_blt (forEach_keeps (upd_blt h (subW g)) (fun _ _ h1 => regrade_keeps h1 (subW g))) (subW g)) (forEach_keeps (upd_blt h (subW g)) (fun _ _ h1 => regrade_keeps h1 (subW g))))

theorem rewriteWord_keeps {w : Nat × Nat} {d d0 : Dev} {mm : Nat} (h : Kept mm d0 d) (g : Sub 0x100330000000000000000000000000000000000000000000000000000000000000000000000000000000000000000000000000000000000000000000000000000000000000000000000000000000000000000000000000000000000000000000000000000000000000000000000000000000000001 mm) :
    Kept mm d0 (rewriteWord w d) := by
  unfold rewriteWord; with_reducible exact kept_ite (wr_keeps (wr_keeps h (subW g)) (subW g)) (kept_ite (wr_keeps h (subW g)) (kept_ite (wr_keeps h (subW g)) (kept_ite (wr_keeps h (subW g)) h)))

theorem rewriteConfig_keeps {d d0 : Dev} {mm : Nat} (h : Kept mm d0 d) (g : Sub 0x100330000000000000000000000000000000000000000000000000000000000000000000000000000000000000000000000000000000000000000000000000000000000000000000000000000000000000000000000000000000000000000000000000000000000000000000000000000000001001 mm) :
    Kept mm d0 (rewriteConfig d) := by
  unfold rewriteConfig
  refine forEach_keeps (upd_many (n := 0x100330000000000000000000000000000000000000000000000000000000000000000000000000000000000000000000000000000000000000000000000000000000000000000000000000000000000000000000000000000000000000000000000000000000000000000000000000000000001001) h ?_ (subW g)) (fun _ _ h1 => rewriteWord_keeps h1 (subW g))
  constructor <;> intro y <;> first | rfl | exact { y with regs := tabWf_filter _ _ _ y.regs } | exact absurd y (by decide)| exact fun hm => filter_out (P := fun r => cfgFlds.all (fun f => r != f.no % 1024)) (by decide) hm| exact fun n _ hz => filter_sticky (P := fun r => cfgFlds.all (fun f => r != f.no % 1024)) rfl (by decide) n hz


theorem selfCheck_keeps {o : BltObs} {d d0 : Dev} {mm : Nat} (h : Kept mm d0 d) (g : Sub 0xc6001400000000000000000000000000000000000000000000000000000000000000000000000000000000000000000000000000000000000000000000000000000000000000000000000000000000000000000000000000000000000000000000000000000000000000000000004000000003041 mm) :
    Kept mm d0 (selfCheck o d) := by
  unfold selfCheck; with_reducible exact kept_ite (kept_ite h (fire_keeps (count_keeps h (subW g) (subW g)) (subW g))) (latchSafe_keeps (fire_keeps (count_keeps (upd_blt (forEach_keeps (kept_ite h (fire_keeps (count_keeps h (subW g) (subW g)) (subW g))) (fun _ _ h1 => stickyOnes_keeps h1 (subW g))) (subW g)) (subW g) (subW g)) (subW g)) (subW g))

theorem blotterTick_keeps {o : BltObs} {d d0 : Dev} {mm : Nat} (h : Kept mm d0 d) (g : Sub 0x1c6331400000000000000000000000000000000000000000000000000000000000000000000000000000000000000000000000000000000000000000000000000000000000000000000000000000000000000000000000000000000000000000000000000000000000000000000004000000003041 mm) :
    Kept mm d0 (blotterTick o d) := by
  unfold blotterTick; with_reducible exact selfCheck_keeps (severitiesTick_keeps (kept_ite (rewriteConfig_keeps h (subW g)) h) (subW g)) (subW g)

theorem entryGives_keeps {r k e : Nat} {d d0 : Dev} {mm : Nat} (h : Kept mm d0 d) (g : Sub 0x300000000000000000000000000000000000000000000000000000000000000000010000000000000000000000000000000000000000000000000000000000000000000000000000000000000000000000000000000000000000000000000550001 mm) :
    Kept mm d0 (entryGives r k e d) := by
  unfold entryGives; with_reducible exact kept_ite (kept_ite (flowDeliver_keeps h (subW g)) h) (kept_ite (sdiDeliver_keeps h (subW g)) h)

theorem audioTakes_keeps {r k t : Nat} {d d0 : Dev} {mm : Nat} (h : Kept mm d0 d) (g : Sub 0x400010000000000000000080000600000001c0000000789880000000000000000000000000000000000000000000000000000000000000000000000000000000000000000000000000000000000000000000000000000000000000800000000000000000000000000000000000004000001c070c1 mm) :
    Kept mm d0 (audioTakes r k t d) := by
  unfold audioTakes; with_reducible exact kept_ite (gatherCompute_keeps (forUpTo_keeps (forUpTo_keeps (dstGrid_keeps h (subW g)) (fun _ _ h1 => kept_ite (portTakes_keeps h1 (subW g)) h1)) (fun _ _ h1 => kept_ite (portTakes_keeps h1 (subW g)) h1)) (subW g)) (forUpTo_keeps (forUpTo_keeps (dstGrid_keeps h (subW g)) (fun _ _ h1 => kept_ite (portTakes_keeps h1 (subW g)) h1)) (fun _ _ h1 => kept_ite (portTakes_keeps h1 (subW g)) h1))

theorem sdiGives_keeps {r : Nat} {s : SrcDesc} {d d0 : Dev} {mm : Nat} (h : Kept mm d0 d) (g : Sub 0x300000000000000000000000000000000000000000000000000000000000000000010000000000000000000000000000000000000000000000000000000000000000000000000000000000000000000000000000000000000000000000000500001 mm) :
    Kept mm d0 (sdiGives r s d) := by
  unfold sdiGives; with_reducible exact by (try dsimp only); split; exact (kept_ite (sdiDeliver_keeps h (subW g)) h); exact h

theorem audioGives_keeps {r k : Nat} {d d0 : Dev} {mm : Nat} (h : Kept mm d0 d) (g : Sub 0x400010000000000000000010908609920001c1f00000000000000000000000000000000000000000000000000200000000000800010000000000000000000000000000000000000000000000000000000000000000000000000000000000000000000000000000000000000000004000003d530c1 mm) :
    Kept mm d0 (audioGives r k d) := by
  unfold audioGives; with_reducible exact muteStep_keeps (seamDeliver_keeps (kept_ite (gatherDeliver_keeps (forEach_keeps (forUpTo_keeps (forEach_keeps (forEach_keeps h (fun _ _ h1 => sdiGives_keeps h1 (subW g))) (fun _ _ h1 => entryGives_keeps h1 (subW g))) (fun _ _ h1 => kept_ite (portGives_keeps h1 (subW g)) h1)) (fun _ _ h1 => kept_ite (ringDeliver_keeps h1 (subW g)) h1)) (subW g)) (forEach_keeps (forUpTo_keeps (forEach_keeps (forEach_keeps h (fun _ _ h1 => sdiGives_keeps h1 (subW g))) (fun _ _ h1 => entryGives_keeps h1 (subW g))) (fun _ _ h1 => kept_ite (portGives_keeps h1 (subW g)) h1)) (fun _ _ h1 => kept_ite (ringDeliver_keeps h1 (subW g)) h1))) (subW g)) (subW g)

theorem audioSample_keeps {r : Nat} {d d0 : Dev} {mm : Nat} (h : Kept mm d0 d) (g : Sub 0x400010000000000000000090908609920001c1f00000789880000000000000000000000000000000000000000200000000000800010000000000000000000000000000000000000000000000000000000000000000000000000000800000000000000000000000000000000000004000003d572d9 mm) :
    Kept mm d0 (audioSample r d) := by
  unfold audioSample; with_reducible exact audioTakes_keeps (audioGives_keeps (shiftChans_keeps (atGrid_keeps h (subW g)) (subW g)) (subW g)) (subW g)

theorem audioSamples_keeps {r n : Nat} {d d0 : Dev} {mm : Nat} (h : Kept mm d0 d) (g : Sub 0x400010000000000000000090908609920001c1f00000789880000000000000000000000000000000000000000200000000000800010000000000000000000000000000000000000000000000000000000000000000000000000000800000000000000000000000000000000000004000003d572d9 mm) :
    Kept mm d0 (audioSamples r n d) := by
  unfold audioSamples; with_reducible exact forUpTo_keeps h (fun _ _ h1 => audioSample_keeps h1 (subW g))

theorem fadeCompletes_keeps {i j : Nat} {d d0 : Dev} {mm : Nat} (h : Kept mm d0 d) (g : Sub 0x400010000000000000000090908609920001c1f00000789880000000000000000000000000000000000000000200000000000800010000000000000000000000000000000000000000000000000000000000000000000000000000800000000000000000000000000000000000004000003d572d9 mm) :
    Kept mm d0 (fadeCompletes i j d) := by
  unfold fadeCompletes; with_reducible exact by (try dsimp only); split; exact h; exact (by (try dsimp only); split; exact h; exact (kept_ite h (audioSamples_keeps h (subW g))))

theorem symbolsCorrected_keeps {l n : Nat} {d d0 : Dev} {mm : Nat} (h : Kept mm d0 d) (g : Sub 0x10000000000000000000000000000000000000000000000000000000000000000000000000000000001 mm) :
    Kept mm d0 (symbolsCorrected l n d) := by
  unfold symbolsCorrected; with_reducible exact kept_ite h (count_keeps h (subW g) (subW g))

theorem synthesisersLock_keeps {o mask : Nat} {d d0 : Dev} {mm : Nat} (h : Kept mm d0 d) (g : Sub 0x800000000400000400000000400000000000800000000000000000000000010000000000000100000000000000000000000000000000000000000000000000401f800000000000000000000000000000000000000000000200000000000000000000000000000004000100002041 mm) :
    Kept mm d0 (synthesisersLock o mask d) := by
  unfold synthesisersLock; with_reducible exact kept_ite (octMacs_keeps (synthLock_keeps h (subW g)) (subW g)) (synthLock_keeps h (subW g))

theorem adapterLoss_keeps {l : Nat} {d d0 : Dev} {mm : Nat} (h : Kept mm d0 d) (g : Sub 0x400010100c03b00001c080000000000000000000000000000000000000000000000000000000000000000000000020000000000000c000823c00000000000000000380090378000000000000000000000000000000000810000800000000000000000000000000000000000000004000002187041 mm) :
    Kept mm d0 (adapterLoss l d) := by
  unfold adapterLoss; with_reducible exact kept_ite (sdiLaneLoss_keeps h (subW g)) (kept_ite (macLaneLoss_keeps h (subW g)) (by (try dsimp only); split; exact (seamLaneLoss_keeps h (subW g)); exact h))

theorem octetStops_keeps {o : Nat} {d d0 : Dev} {mm : Nat} (h : Kept mm d0 d) (g : Sub 0xc00010100c03b00001c080000000000000000000000000000000000000000000000000000000000000000000000020000000000000c000823c0000000000000000038009037800005c0000221ec00000000000000000081000080000000000000000000000000000000000000000400000218f041 mm) :
    Kept mm d0 (octetStops o d) := by
  unfold octetStops; with_reducible exact forEach_keeps (octStop_keeps h (subW g)) (fun _ _ h1 => adapterLoss_keeps h1 (subW g))

theorem famTick_keeps {n : Nat} {d d0 : Dev} {mm : Nat} (h : Kept mm d0 d) (g : Sub 0x40001002000008000000084040004040000005c00000000408000000000000000000000000101000000040001000000000000000000000000000000000000000000001000004020800000000000000000000000000000000000000000000a00000000000000000000000000000004000100003041 mm) :
    Kept mm d0 (famTick n d) := by
  unfold famTick; with_reducible exact kept_ite h (launchFunc_keeps h (fun _ h1 => h1) (fun _ h1 => setFuncState_keeps h1 (subW g)) (subW g))

theorem tickLaunches_keeps {d d0 : Dev} {mm : Nat} (h : Kept mm d0 d) (g : Sub 0xc00010120c03b80001c088444856c449e001fdc000000064080000000000000000000000003017f00000401fd00020000000000000c000823c0000000000000000038109037c03f85c00f8221ec000000000000000000810000800000000a00000000000000000000000000000004000113baf041 mm) :
    Kept mm d0 (tickLaunches d) := by
  unfold tickLaunches; with_reducible exact forUpTo_keeps (gatherTick_keeps (forUpTo_keeps (forUpTo_keeps (forUpTo_keeps (forUpTo_keeps (forUpTo_keeps h (fun _ _ h1 => launchFunc_keeps h1 (fun _ h2 => synthesisersLock_keeps (octStart_keeps h2 (subW g)) (subW g)) (fun _ h2 => octetStops_keeps h2 (subW g)) (subW g))) (fun _ _ h1 => launchFunc_keeps h1 (fun _ h2 => macRun'_keeps h2 (subW g)) (fun _ h2 => macStop_keeps h2 (subW g)) (subW g))) (fun _ _ h1 => launchFunc_keeps h1 (fun _ h2 => dramStart_keeps h2 (subW g)) (fun _ h2 => h2) (subW g))) (fun _ _ h1 => famTick_keeps h1 (subW g))) (fun _ _ h1 => headLaunch_keeps h1 (subW g))) (subW g)) (fun _ _ h1 => portTick_keeps h1 (subW g))

theorem readErrors_keeps {es : List EccObs} {d d0 : Dev} {mm : Nat} (h : Kept mm d0 d) (g : Sub 0x400010000000080000000040000040000000040000000000080000000000000000000000001000002301a21830002000500004000000000000000000000000000000000000040008000000000000000000000000000000000000000000002000000000000000000000000000000040001000330c1 mm) :
    Kept mm d0 (readErrors es d) := by
  unfold readErrors; with_reducible exact forEach_keeps h (fun _ _ h1 => forEach_keeps (eccEvents_keeps h1 (subW g)) (fun _ _ h2 => spoil_keeps h2 (subW g)))

theorem firstFamily_keeps {d d0 : Dev} {mm : Nat} (h : Kept mm d0 d) (g : Sub 0x100080000000000401 mm) :
    Kept mm d0 (firstFamily d) := by
  unfold firstFamily; with_reducible exact kept_ite (upd_pins (serveCheck_keeps h (subW g)) (subW g)) (serveCheck_keeps h (subW g))

theorem famBoundary_keeps {n : Nat} {d d0 : Dev} {mm : Nat} (h : Kept mm d0 d) (g : Sub 0x40001002000008000000084040004040000005c00000000408001800000000000000030000341000000040001001780000002134000000000000000000000000000001000004020800000000000000000000000000000a10000800000000a00000000000000000000000000100084000102217461 mm) :
    Kept mm d0 (famBoundary n d) := by
  unfold famBoundary; with_reducible exact refOutFpPulse_keeps (kept_ite (firstFamily_keeps (twinBoundary_keeps (quiltFrame_keeps (forEach_keeps h (fun _ _ h1 => kept_ite (sdiOutFrame_keeps (dstFrame_keeps h1 (subW g)) (subW g)) (dstFrame_keeps h1 (subW g)))) (subW g)) (subW g)) (subW g)) (twinBoundary_keeps (quiltFrame_keeps (forEach_keeps h (fun _ _ h1 => kept_ite (sdiOutFrame_keeps (dstFrame_keeps h1 (subW g)) (subW g)) (dstFrame_keeps h1 (subW g)))) (subW g)) (subW g))) (subW g)

theorem linkRises_keeps {m : Nat} {d d0 : Dev} {mm : Nat} (h : Kept mm d0 d) (g : Sub 0x4000000000b8000000000000000000000000000000000000000000000000000000000000000000000000000000000000000040001 mm) :
    Kept mm d0 (linkRises m d) := by
  unfold linkRises; with_reducible exact kept_ite (reportAll_keeps (linkComesUp_keeps h (subW g)) (subW g)) (linkComesUp_keeps h (subW g))

theorem huntEnds_keeps {l rate : Nat} {div : Bool} {freq : Int} {d d0 : Dev} {mm : Nat} (h : Kept mm d0 d) (g : Sub 0xc000100000000000000000000000000000000000000000000000000000000000000000000000000000000000000020000000000000c001820c000000000000000100000000000000000000209e800000000000000000081000080000000000000000000000000000000000000000400000010f059 mm) :
    Kept mm d0 (huntEnds l rate div freq d) := by
  unfold huntEnds; with_reducible exact kept_ite (sdiLaneLock_keeps (huntDwellEnd_keeps h (subW g)) (subW g)) (huntDwellEnd_keeps h (subW g))

theorem testEnFalls_keeps {c : Option Cut} {d d0 : Dev} {mm : Nat} (h : Kept mm d0 d) (g : Sub 0x10f8400000000000000040001000000000000000000000000000000000000000000000000000000000000000000000000000000000000000000000000000000000000000000000000000000000000000000000000000000000000000000000000000000000000000000000000000000000000000000000004000040003441 mm) :
    Kept mm d0 (testEnFalls c d) := by
  unfold testEnFalls; with_reducible exact upd_many (n := 0x40000400) (cutBurst_keeps h (subW g)) (by constructor <;> intro y <;> first | rfl | exact canon_upd y rfl | exact fun _ => rfl | exact sticky_of_regs rfl | exact inst_any (by decide) | exact sticky_any (by decide) y | exact absurd y (by decide)) (subW g)

theorem inkLosses_keeps {o : TickObs} {d d0 : Dev} {mm : Nat} (h : Kept mm d0 d) (g : Sub 0x400010000000000000000000000000000000000000000000000000000000000000000000000000000000000000000000000210c00000000000000000000000000000000000000000000000000000000000000000000000000000000000000000000000000000000000000000000040000000130c1 mm) :
    Kept mm d0 (inkLosses o d) := by
  unfold inkLosses; with_reducible exact kept_ite (forEach_keeps (forEach_keeps h (fun _ _ h1 => firePerSecond_keeps (count_keeps (wr_keeps h1 (subW g)) (subW g) (subW g)) (subW g))) (fun _ _ h1 => spoil_keeps h1 (subW g))) (fire_keeps (count_keeps (wr_keeps (forEach_keeps (forEach_keeps h (fun _ _ h1 => firePerSecond_keeps (count_keeps (wr_keeps h1 (subW g)) (subW g) (subW g)) (subW g))) (fun _ _ h1 => spoil_keeps h1 (subW g))) (subW g)) (subW g) (subW g)) (subW g))

theorem firmwareTook_keeps {p : Nat × Nat × Nat} {d d0 : Dev} {mm : Nat} (h : Kept mm d0 d) (g : Sub 0x300000300000000000000000000000000000000000000000000000000000000000000000000000000000000000000000080001 mm) :
    Kept mm d0 (firmwareTook p d) := by
  unfold firmwareTook; with_reducible exact showQueues_keeps (setMacRun_keeps h (subW g)) (subW g)

theorem timeTick_keeps {o : TickObs} {d d0 : Dev} {mm : Nat} (h : Kept mm d0 d) (g : Sub 0xc0001002080bf80001c0884040004040000005c00000000408000000000000000000000000101000000040001000200000000000000000000000000000000000000001000004020800000000000000000000000000000810000800200000a00201000fff00000183fc00000000004000102007a69 mm) :
    Kept mm d0 (timeTick o d) := by
  unfold timeTick; with_reducible exact kept_ite (seamAfterRuling_keeps (rulingTick_keeps (forUpTo_keeps h (fun _ _ h1 => seamTick_keeps h1 (subW g))) (subW g)) (subW g)) (lateByStep_keeps (seamAfterRuling_keeps (rulingTick_keeps (forUpTo_keeps h (fun _ _ h1 => seamTick_keeps h1 (subW g))) (subW g)) (subW g)) (subW g))

theorem tick_keeps {o : TickObs} {d d0 : Dev} {mm : Nat} (h : Kept mm d0 d) (g : Sub 0x30003bffc00001d6b316120c0bf80001c088444856c449e001fdc000000064080000000000000000000000003017f00000401fd0002000000210c000c000823c0000000000000040038109037c03f85c00f8221ec000000000000000000810000800200000a00201000fff00000183fc00000000004000137fffaf9 mm) :
    Kept mm d0 (tick o d) := by
  unfold tick; with_reducible exact metersTick_keeps (tickLaunches_keeps (exitTick_keeps (startSession_keeps (timeTick_keeps (forEach_keeps (inkLosses_keeps (blotterTick_keeps (atTick_keeps h (subW g)) (subW g)) (subW g)) (fun _ _ h1 => firmwareTook_keeps h1 (subW g))) (subW g)) (subW g)) (subW g)) (subW g)) (subW g)

theorem perstPin_keeps {low : Bool} {c : Option Cut} {d d0 : Dev} {mm : Nat} (h : Kept mm d0 d) (g : Sub 0x10f840000000000000004000100000000000000000000000000000000000000000000000000000000000000000000000000000000000000000000000000000000000000000000000000000000000000000000000000000000000000000000000000000000000000000000000000000000000000000000000d3fe008003441 mm) :
    Kept mm d0 (perstPin low c d) := by
  unfold perstPin; with_reducible exact kept_ite (upd_pins h (subW g)) (perstEdge_keeps h (subW g))

theorem macStopped_keeps {m : Nat} {d d0 : Dev} {mm : Nat} (h : Kept mm d0 d) (g : Sub 0x8000000004000004000000004000000000008000000000000000000000000100000000000001000000000000000000000000000000000000000000000000004000800000000000000000000000000000000000000000000200000000000000000000000000000004000100002041 mm) :
    Kept mm d0 (macStopped m d) := by
  unfold macStopped; with_reducible exact kept_ite (setFuncState_keeps h (subW g)) h

theorem receiverLoss_keeps {l : Nat} {below : Bool} {d d0 : Dev} {mm : Nat} (h : Kept mm d0 d) (g : Sub 0xc00010100c03b00001c080000000000000000000000000000000000000000000000000000000000000000000000020000000000000c000823c0000000000000000038009037800005c0000263ec00000000000000000081000080000000000000000000000000000000000000000400000218f041 mm) :
    Kept mm d0 (receiverLoss l below d) := by
  unfold receiverLoss; with_reducible exact kept_ite (adapterLoss_keeps (laneLoss_keeps h (subW g)) (subW g)) h

theorem seamReceives_keeps {n i : Nat} {f : SeamRx} {d d0 : Dev} {mm : Nat} (h : Kept mm d0 d) (g : Sub 0x4000101c7fe7b00003e0e0000000000000000000000000000000000000000000000000000000000000000000000178000000210000000000000000000000000000000000000000000000001000000000000000000000081000080019a0000000000000000000000000000000000040000020170c1 mm) :
    Kept mm d0 (seamReceives n i f d) := by
  unfold seamReceives; with_reducible exact seamFrame_keeps (symbolsCorrected_keeps h (subW g)) (subW g)

theorem sendFrame_keeps {m : Nat} {fw : List TxFrame} {d d0 : Dev} {mm : Nat} (h : Kept mm d0 d) (g : Sub 0x40001000000000000000000000000000000000000000000000000000000000000000000000000000000000000000000000000000000000000000000000000000000340200300000000000000000000000000000000000000000000000000000000000000000000000000000000004000000083041 mm) :
    Kept mm d0 (sendFrame m fw d) := by
  unfold sendFrame; with_reducible exact transmitFrame_keeps (forEach_keeps h (fun _ _ h1 => offerMgmt_keeps h1 (subW g))) (subW g)

theorem consume_keeps {m : Nat} {f : RxFrame} {d d0 : Dev} {mm : Nat} (h : Kept mm d0 d) (g : Sub 0x4000100000000000000000000000000000000000000000000000000000000000000000000000000000000000000020000000000000c000820c000001009bc04041f3200003000000000000000000000000000000000008100028000000000000000000000000000000000000000040000001c70c1 mm) :
    Kept mm d0 (consume m f d) := by
  unfold consume; with_reducible exact kept_ite (dropUnknown_keeps h (subW g)) (by (try dsimp only); split; exact (dropUnknown_keeps h (subW g)); exact (toFirmware_keeps h (subW g)); exact (toFirmware_keeps h (subW g)); exact (kept_ite (toFirmware_keeps h (subW g)) (dropUnknown_keeps h (subW g))); exact (kept_ite (answerQuery_keeps (toFirmware_keeps h (subW g)) (subW g)) (toFirmware_keeps h (subW g))); exact (kept_ite (toFirmware_keeps h (subW g)) (kept_ite (dropUnknown_keeps h (subW g)) (by (try dsimp only); split; exact (flowPacket_keeps h (subW g)); exact (dropUnknown_keeps h (subW g))))); exact (dropUnknown_keeps h (subW g)))

theorem bltChecked_keeps {off : Nat} {o : BltObs} {d d0 : Dev} {mm : Nat} (h : Kept mm d0 d) (g : Sub 0xc6001400000000000000000000000000000000000000000000000000000000000000000000000000000000000000000000000000000000000000000000000000000000000000000000000000000000000000000000000000000000000000000000000000000000000000000000004000000003041 mm) :
    Kept mm d0 (bltChecked off o d) := by
  unfold bltChecked; with_reducible exact kept_ite (selfCheck_keeps h (subW g)) h

theorem syncOutputFrame_keeps {n : Nat} {es : List EccObs} {d d0 : Dev} {mm : Nat} (h : Kept mm d0 d) (g : Sub 0x400010000000080000000040000040000000040000000000080000000000000000000000001000002301a21835c07800500004000000000000000000000000000000000000040008000000000000000000000000000008100008000000002000000000000000000000000000000040001020372d9 mm) :
    Kept mm d0 (syncOutputFrame n es d) := by
  unfold syncOutputFrame; with_reducible exact kept_ite (readErrors_keeps h (subW g)) (twinChoice_keeps (syncOutput_keeps (readErrors_keeps h (subW g)) (subW g)) (subW g))

theorem rastersReturn_keeps {n : Nat} {d d0 : Dev} {mm : Nat} (h : Kept mm d0 d) (g : Sub 0x800000000000000000000000000000000000000000000000004001 mm) :
    Kept mm d0 (rastersReturn n d) := by
  unfold rastersReturn; with_reducible exact forEach_keeps h (fun _ _ h1 => by (try dsimp only); split; exact (kept_ite h1 (declareRecovery_keeps h1 (subW g))); exact h1)

theorem famStarts_keeps {n : Nat} {d d0 : Dev} {mm : Nat} (h : Kept mm d0 d) (g : Sub 0x8000000004000004000000004000000000008000000000000000000000000100000000000001000000000000000000000000000000000000000000000000004000800000000000000000000000000000400000000000000200000000000000000000000000000004000100006041 mm) :
    Kept mm d0 (famStarts n d) := by
  unfold famStarts; with_reducible exact forEach_keeps (setFuncState_keeps h (subW g)) (fun _ _ h1 => dstStart_keeps h1 (subW g))

theorem famStops_keeps {n : Nat} {d d0 : Dev} {mm : Nat} (h : Kept mm d0 d) (g : Sub 0x40001002000008000000084040004040000005c00000000408000000000000000000000000301000000040001001700000002100000000000000001000000000000001000004020800000000000000000000000000000c10000800000000a00000000000000000000000000000004000100257041 mm) :
    Kept mm d0 (famStops n d) := by
  unfold famStops; with_reducible exact setFuncState_keeps (setFuncState_keeps (forEach_keeps (forEach_keeps (forEach_keeps h (fun _ _ h1 => headLaunch_keeps (headFrameEnds_keeps h1 (subW g)) (subW g))) (fun _ _ h1 => by (try dsimp only); split; exact (declareLoss_keeps (setHeadRun_keeps h1 (subW g)) (subW g)); exact (setHeadRun_keeps h1 (subW g)))) (fun _ _ h1 => txHalt_keeps (dstStop_keeps h1 (subW g)) (subW g))) (subW g)) (subW g)

theorem frameBoundary_keeps {n : Nat} {es : List EccObs} {d d0 : Dev} {mm : Nat} (h : Kept mm d0 d) (g : Sub 0x40001002000008000000084040004040000005c000000004080018000000000000000300003410002301e2183001780050002534000000000000001000000000000001000004020800000000000000000000000000000e10000800000000a000000000000000000000000001000840001022776f9 mm) :
    Kept mm d0 (frameBoundary n es d) := by
  unfold frameBoundary; with_reducible exact kept_ite (famBoundary_keeps (rastersReturn_keeps (famStarts_keeps (readErrors_keeps (atFrame_keeps h (subW g)) (subW g)) (subW g)) (subW g)) (subW g)) (kept_ite (kept_ite (famBoundary_keeps (readErrors_keeps (atFrame_keeps h (subW g)) (subW g)) (subW g)) (famStops_keeps (readErrors_keeps (atFrame_keeps h (subW g)) (subW g)) (subW g))) (readErrors_keeps (atFrame_keeps h (subW g)) (subW g)))

theorem linkDown_keeps {m : Nat} {rfault : Bool} {d d0 : Dev} {mm : Nat} (h : Kept mm d0 d) (g : Sub 0x400010000000000000000000000000000000000000000000000000000000000000000000000000000000000000000000000000000000000000000000000000000003800903f8000000000000000000000000000000000000000000000000000000000000000000000000000000004000000083041 mm) :
    Kept mm d0 (linkDown m rfault d) := by
  unfold linkDown; with_reducible exact kept_ite (wrB_keeps (linkGoesDown_keeps h (subW g)) (subW g) (subW g)) (linkGoesDown_keeps h (subW g))

theorem outputSwitch_keeps {i : Nat} {d d0 : Dev} {mm : Nat} (h : Kept mm d0 d) (g : Sub 0x40001000000000000000000000000000000000000000000000000000000000000000000000000000000000000000000000000000000000000000001000000000000000000000000000000000000000000000000000000c70fe0000800000000000000000000000000000000000004000000047259 mm) :
    Kept mm d0 (outputSwitch i d) := by
  unfold outputSwitch; with_reducible exact kept_ite (txSwitch_keeps (kept_ite (opaqueSwitch_keeps (switchPoint_keeps h (subW g)) (subW g)) (switchPoint_keeps h (subW g))) (subW g)) (kept_ite (opaqueSwitch_keeps (switchPoint_keeps h (subW g)) (subW g)) (switchPoint_keeps h (subW g)))

theorem receiveFrame_keeps {m : Nat} {f : RxFrame} {d d0 : Dev} {mm : Nat} (h : Kept mm d0 d) (g : Sub 0x4000100000000000000000000000000000000000000000000000000000000000000000000000000000000000000020000000000000c000820c000001009bc04041f33e4103400000000000100000000000000000000008100028000000000000000000000000000000000000000040000001c70c1 mm) :
    Kept mm d0 (receiveFrame m f d) := by
  unfold receiveFrame; with_reducible exact kept_ite (forEach_keeps h (fun _ _ h1 => symbolsCorrected_keeps h1 (subW g))) (by (try dsimp only); split; exact (count_keeps (forEach_keeps h (fun _ _ h1 => symbolsCorrected_keeps h1 (subW g))) (subW g) (subW g)); exact (count_keeps (forEach_keeps h (fun _ _ h1 => symbolsCorrected_keeps h1 (subW g))) (subW g) (subW g)); exact (count_keeps (forEach_keeps h (fun _ _ h1 => symbolsCorrected_keeps h1 (subW g))) (subW g) (subW g)); exact (pauseFrame_keeps (forEach_keeps h (fun _ _ h1 => symbolsCorrected_keeps h1 (subW g))) (subW g)); exact (consume_keeps (forEach_keeps h (fun _ _ h1 => symbolsCorrected_keeps h1 (subW g))) (subW g)))

theorem raiseIf_keeps {v : Nat} {b : Bool} {d d0 : Dev} {mm : Nat} (h : Kept mm d0 d) (g : Sub 0x4000000002041 mm) :
    Kept mm d0 (raiseIf v b d) := by
  unfold raiseIf; with_reducible exact kept_ite (raiseIrq_keeps h (subW g)) h

theorem raises_keeps {before d d0 : Dev} {mm : Nat} (h : Kept mm d0 d) (g : Sub 0x4000000002041 mm) :
    Kept mm d0 (raises before d) := by
  unfold raises; with_reducible exact kept_ite h (raiseIf_keeps (raiseIf_keeps (raiseIf_keeps (raiseIf_keeps h (subW g)) (subW g)) (subW g)) (subW g))

theorem run_keeps {f : Dev → Dev} {d d0 : Dev} {mm : Nat} (h : Kept mm d0 d) (hf : ∀ d, Kept mm d0 d → Kept mm d0 (f d)) (g : Sub 0x4000000002041 mm) :
    Kept mm d0 (run f d) := by
  unfold run; with_reducible exact kept_ite (upd_out h (subW g)) (raises_keeps (hf _ (upd_out h (subW g))) (subW g))

end Sys2Proof.Machine
end

