-- ==== Sys2Proof/Laws/KeepsCommands.lean ====
section
/-! SUPPORT. What each command can change: of the queue nothing; of the device, the parts and the registers of its mask. -/

namespace Sys2Proof.Machine

set_option maxRecDepth 4000
set_option Elab.async false
set_option exponentiation.threshold 2048
set_option linter.unusedVariables false

/-- What a command that is carried out leaves: its operands were good, the queue is as it was, and the device differs within the mask of its
effect and of the vectors that a change raises. -/
theorem perform_keeps {c : Instr} {f : Dev → Dev} {s t : State} {m : Nat} (h : perform c f s = .next t)
    (hf : ∀ d, Kept m s.dev d → Kept m s.dev (f d)) (g : Sub 0x4000000002041 m) : c.wf = true ∧ t.pending = s.pending ∧ Kept m s.dev t.dev := by
  unfold perform at h
  split at h
  · rename_i hw
    cases h
    exact ⟨hw, rfl, run_keeps (Kept.refl _ _) hf (subW g)⟩
  · cases h

theorem performAlways_keeps {c : Instr} {f : Dev → Dev} {s t : State} {m : Nat} (h : performAlways c f s = .next t)
    (hf : ∀ d, Kept m s.dev d → Kept m s.dev (f d)) (g : Sub 0x40 m) : c.wf = true ∧ t.pending = s.pending ∧ Kept m s.dev t.dev := by
  unfold performAlways at h
  split at h
  · rename_i hw
    cases h
    exact ⟨hw, rfl, hf _ (upd_out (Kept.refl _ _) (subW g))⟩
  · cases h

theorem execPorstN_keeps {memberId : Nat} {s t : State} (h : execPorstN memberId s = .next t) :
     t.pending = s.pending ∧ Kept 0x3ffffffffffffffffffffffffffffffffffffffffffffffffffffffffffffffffffffffffffffffffffffffffffffffffffffffffffffffffffffffffffffffffffffffffffffffffffffffffffffffffffffffffffffffffffffffffffffffffffffffffffffffffffffffffffffffffffffffffffffffffffffffffffffffffdfffffdf s.dev t.dev := by
  have g : Sub 0x3ffffffffffffffffffffffffffffffffffffffffffffffffffffffffffffffffffffffffffffffffffffffffffffffffffffffffffffffffffffffffffffffffffffffffffffffffffffffffffffffffffffffffffffffffffffffffffffffffffffffffffffffffffffffffffffffffffffffffffffffffffffffffffffffffdfffffdf 0x3ffffffffffffffffffffffffffffffffffffffffffffffffffffffffffffffffffffffffffffffffffffffffffffffffffffffffffffffffffffffffffffffffffffffffffffffffffffffffffffffffffffffffffffffffffffffffffffffffffffffffffffffffffffffffffffffffffffffffffffffffffffffffffffffffdfffffdf := Sub.refl _
  unfold execPorstN at h; exact (performAlways_keeps h (fun _ h => by with_reducible exact porstPulse_keeps h (subW g)) (subW g)).2

theorem execSrstN_keeps {s t : State} (h : execSrstN s = .next t) :
     t.pending = s.pending ∧ Kept 0x1ffffffffffffffffffffffffffffffff87fffffffffffffffffffffffffffffffffffffffffffffffffffffffffffffffffffffffffffffffffffffffffffffffffffffffffffffffffffffffffffffffffffffffffffffffffffffffffffffffffffffffffffffffffffffffffffffff0000000000000003f1ffffffffff01fdffff5c7 s.dev t.dev := by
  have g : Sub 0x1ffffffffffffffffffffffffffffffff87fffffffffffffffffffffffffffffffffffffffffffffffffffffffffffffffffffffffffffffffffffffffffffffffffffffffffffffffffffffffffffffffffffffffffffffffffffffffffffffffffffffffffffffffffffffffffffffff0000000000000003f1ffffffffff01fdffff5c7 0x1ffffffffffffffffffffffffffffffff87fffffffffffffffffffffffffffffffffffffffffffffffffffffffffffffffffffffffffffffffffffffffffffffffffffffffffffffffffffffffffffffffffffffffffffffffffffffffffffffffffffffffffffffffffffffffffffffff0000000000000003f1ffffffffff01fdffff5c7 := Sub.refl _
  unfold execSrstN at h; exact (perform_keeps h (fun _ h => by with_reducible exact softReset_keeps h (subW g)) (subW g)).2

theorem execLockstepMismatch_keeps {s t : State} (h : execLockstepMismatch s = .next t) :
     t.pending = s.pending ∧ Kept 0x1ffffffffffffffffffffffffffffffff87fffffffffffffffffffffffffffffffffffffffffffffffffffffffffffffffffffffffffffffffffffffffffffffffffffffffffffffffffffffffffffffffffffffffffffffffffffffffffffffffffffffffffffffffffffffffffffffff0000000000000003f1ffffffffff01fdffff5c7 s.dev t.dev := by
  have g : Sub 0x1ffffffffffffffffffffffffffffffff87fffffffffffffffffffffffffffffffffffffffffffffffffffffffffffffffffffffffffffffffffffffffffffffffffffffffffffffffffffffffffffffffffffffffffffffffffffffffffffffffffffffffffffffffffffffffffffffff0000000000000003f1ffffffffff01fdffff5c7 0x1ffffffffffffffffffffffffffffffff87fffffffffffffffffffffffffffffffffffffffffffffffffffffffffffffffffffffffffffffffffffffffffffffffffffffffffffffffffffffffffffffffffffffffffffffffffffffffffffffffffffffffffffffffffffffffffffffff0000000000000003f1ffffffffff01fdffff5c7 := Sub.refl _
  unfold execLockstepMismatch at h; exact (perform_keeps h (fun _ h => by with_reducible exact softReset_keeps (fire_keeps h (subW g)) (subW g)) (subW g)).2

theorem execWatchdogExpiry_keeps {s t : State} (h : execWatchdogExpiry s = .next t) :
     t.pending = s.pending ∧ Kept 0x1ffffffffffffffffffffffffffffffff87fffffffffffffffffffffffffffffffffffffffffffffffffffffffffffffffffffffffffffffffffffffffffffffffffffffffffffffffffffffffffffffffffffffffffffffffffffffffffffffffffffffffffffffffffffffffffffffff0000000000000003f1ffffffffff01fdffff5c7 s.dev t.dev := by
  have g : Sub 0x1ffffffffffffffffffffffffffffffff87fffffffffffffffffffffffffffffffffffffffffffffffffffffffffffffffffffffffffffffffffffffffffffffffffffffffffffffffffffffffffffffffffffffffffffffffffffffffffffffffffffffffffffffffffffffffffffffff0000000000000003f1ffffffffff01fdffff5c7 0x1ffffffffffffffffffffffffffffffff87fffffffffffffffffffffffffffffffffffffffffffffffffffffffffffffffffffffffffffffffffffffffffffffffffffffffffffffffffffffffffffffffffffffffffffffffffffffffffffffffffffffffffffffffffffffffffffffff0000000000000003f1ffffffffff01fdffff5c7 := Sub.refl _
  unfold execWatchdogExpiry at h; exact (perform_keeps h (fun _ h => by with_reducible exact softReset_keeps (fire_keeps h (subW g)) (subW g)) (subW g)).2

theorem execSupplyDetector_keeps {s t : State} (h : execSupplyDetector s = .next t) :
     t.pending = s.pending ∧ Kept 0x3ffffffffffffffffffffffffffffffffffffffffffffffffffffffffffffffffffffffffffffffffffffffffffffffffffffffffffffffffffffffffffffffffffffffffffffffffffffffffffffffffffffffffffffffffffffffffffffffffffffffffffffffffffffffffffffffffffffffffffffffffffffffffffffffffdfffffdf s.dev t.dev := by
  have g : Sub 0x3ffffffffffffffffffffffffffffffffffffffffffffffffffffffffffffffffffffffffffffffffffffffffffffffffffffffffffffffffffffffffffffffffffffffffffffffffffffffffffffffffffffffffffffffffffffffffffffffffffffffffffffffffffffffffffffffffffffffffffffffffffffffffffffffffdfffffdf 0x3ffffffffffffffffffffffffffffffffffffffffffffffffffffffffffffffffffffffffffffffffffffffffffffffffffffffffffffffffffffffffffffffffffffffffffffffffffffffffffffffffffffffffffffffffffffffffffffffffffffffffffffffffffffffffffffffffffffffffffffffffffffffffffffffffdfffffdf := Sub.refl _
  unfold execSupplyDetector at h; exact (performAlways_keeps h (fun _ h => by with_reducible exact supplyFalls_keeps h (subW g)) (subW g)).2

theorem execSupplyExcursion_keeps {supply : Nat} {s t : State} (h : execSupplyExcursion supply s = .next t) :
     t.pending = s.pending ∧ Kept 0x40001000000000000000000000000000000000000000000000000000000000000000000000000000000000000000000000000000000000000000000000000000000000000000000000000000000000000000000000000000000000000000000000000000000000000001800000004000000003041 s.dev t.dev := by
  have g : Sub 0x40001000000000000000000000000000000000000000000000000000000000000000000000000000000000000000000000000000000000000000000000000000000000000000000000000000000000000000000000000000000000000000000000000000000000000001800000004000000003041 0x40001000000000000000000000000000000000000000000000000000000000000000000000000000000000000000000000000000000000000000000000000000000000000000000000000000000000000000000000000000000000000000000000000000000000000001800000004000000003041 := Sub.refl _
  unfold execSupplyExcursion at h; exact (perform_keeps h (fun _ h => by with_reducible exact supplyExcursion_keeps h (subW g)) (subW g)).2

theorem execThermalTrip_keeps {s t : State} (h : execThermalTrip s = .next t) :
     t.pending = s.pending ∧ Kept 0x4000000002541 s.dev t.dev := by
  have g : Sub 0x4000000002541 0x4000000002541 := Sub.refl _
  unfold execThermalTrip at h; exact (perform_keeps h (fun _ h => by with_reducible exact thermalTrip_keeps h (subW g)) (subW g)).2

theorem execTemperatureSample_keeps {sensors : List (Option Int)} {coreMv : Nat} {inRange : Nat} {s t : State} (h : execTemperatureSample sensors coreMv inRange s = .next t) :
     t.pending = s.pending ∧ Kept 0xc00010000000000000000000000000000000000000000000000000000000000000000000000000000000000000000000000000000000000000000000000000000000000000000000000000000000000000000000000000000000000000000000000000000000000001f8dc0000004000000003259 s.dev t.dev := by
  have g : Sub 0xc00010000000000000000000000000000000000000000000000000000000000000000000000000000000000000000000000000000000000000000000000000000000000000000000000000000000000000000000000000000000000000000000000000000000000001f8dc0000004000000003259 0xc00010000000000000000000000000000000000000000000000000000000000000000000000000000000000000000000000000000000000000000000000000000000000000000000000000000000000000000000000000000000000000000000000000000000000001f8dc0000004000000003259 := Sub.refl _
  unfold execTemperatureSample at h; exact (perform_keeps h (fun _ h => by with_reducible exact temperatureSample_keeps h (subW g)) (subW g)).2

theorem execPllLossOfLock_keeps {s t : State} (h : execPllLossOfLock s = .next t) :
     t.pending = s.pending ∧ Kept 0x40001000000000000000000000000000000000000000000000000000000000000000000000000000000000000000000000000000000000000000000000000000000000000000000000000000000000000000000000000000000000000000000000000000000000000200000000004000000003041 s.dev t.dev := by
  have g : Sub 0x40001000000000000000000000000000000000000000000000000000000000000000000000000000000000000000000000000000000000000000000000000000000000000000000000000000000000000000000000000000000000000000000000000000000000000200000000004000000003041 0x40001000000000000000000000000000000000000000000000000000000000000000000000000000000000000000000000000000000000000000000000000000000000000000000000000000000000000000000000000000000000000000000000000000000000000200000000004000000003041 := Sub.refl _
  unfold execPllLossOfLock at h; exact (perform_keeps h (fun _ h => by with_reducible exact pllLoss_keeps h (subW g)) (subW g)).2

theorem execCoreVidValid_keeps {s t : State} (h : execCoreVidValid s = .next t) :
     t.pending = s.pending ∧ Kept 0x4000000004000000002441 s.dev t.dev := by
  have g : Sub 0x4000000004000000002441 0x4000000004000000002441 := Sub.refl _
  unfold execCoreVidValid at h; exact (perform_keeps h (fun _ h => by with_reducible exact coreVidValid_keeps h (subW g)) (subW g)).2

theorem execRomVerifyDone_keeps {view : RomView} {s t : State} (h : execRomVerifyDone view s = .next t) :
     t.pending = s.pending ∧ Kept 0x20000030003bffd01fb040001000000000000000000000000000000000000000000000000000000000000000000000000000000000000000000000000000000000000000000000000000000000000000000000000000000000000000000000000000000000000000000000000000000000000000000000b84000060003061 s.dev t.dev := by
  have g : Sub 0x20000030003bffd01fb040001000000000000000000000000000000000000000000000000000000000000000000000000000000000000000000000000000000000000000000000000000000000000000000000000000000000000000000000000000000000000000000000000000000000000000000000b84000060003061 0x20000030003bffd01fb040001000000000000000000000000000000000000000000000000000000000000000000000000000000000000000000000000000000000000000000000000000000000000000000000000000000000000000000000000000000000000000000000000000000000000000000000b84000060003061 := Sub.refl _
  unfold execRomVerifyDone at h; exact (perform_keeps h (fun _ h => by with_reducible exact romVerifyDone_keeps h (subW g)) (subW g)).2

theorem execPatternApplyDone_keeps {view : PatView} {s t : State} (h : execPatternApplyDone view s = .next t) :
     t.pending = s.pending ∧ Kept 0x3fffffffffffffffffffffffffffffffffffffffffffffffffffffffffffffffffffffffffffffffffffffffffffffffffffffffffffffffffffffffffffffffffffffffffffffffffffffffffffffffffffffffffffffffffffffffffffffffffffffffffffffffffffffffffffffffffffffffffffffffffffffffffffffffe81007841 s.dev t.dev := by
  have g : Sub 0x3fffffffffffffffffffffffffffffffffffffffffffffffffffffffffffffffffffffffffffffffffffffffffffffffffffffffffffffffffffffffffffffffffffffffffffffffffffffffffffffffffffffffffffffffffffffffffffffffffffffffffffffffffffffffffffffffffffffffffffffffffffffffffffffffe81007841 0x3fffffffffffffffffffffffffffffffffffffffffffffffffffffffffffffffffffffffffffffffffffffffffffffffffffffffffffffffffffffffffffffffffffffffffffffffffffffffffffffffffffffffffffffffffffffffffffffffffffffffffffffffffffffffffffffffffffffffffffffffffffffffffffffffe81007841 := Sub.refl _
  unfold execPatternApplyDone at h; exact (perform_keeps h (fun _ h => by with_reducible exact patternApplyDone_keeps h (subW g)) (subW g)).2

theorem execStartUpInput_keeps {s t : State} (h : execStartUpInput s = .next t) :
     t.pending = s.pending ∧ Kept 0x1ffffffffffffffffffffffffffffffff87fffffffffffffffffffffffffffffffffffffffffffffffffffffffffffffffffffffffffffffffffffffffffffffffffffffffffffffffffffffffffffffffffffffffffffffffffffffffffffffffffffffffffffffffffffffffffffffff0000000000000003f1ffffffffff01ffffff7df s.dev t.dev := by
  have g : Sub 0x1ffffffffffffffffffffffffffffffff87fffffffffffffffffffffffffffffffffffffffffffffffffffffffffffffffffffffffffffffffffffffffffffffffffffffffffffffffffffffffffffffffffffffffffffffffffffffffffffffffffffffffffffffffffffffffffffffff0000000000000003f1ffffffffff01ffffff7df 0x1ffffffffffffffffffffffffffffffff87fffffffffffffffffffffffffffffffffffffffffffffffffffffffffffffffffffffffffffffffffffffffffffffffffffffffffffffffffffffffffffffffffffffffffffffffffffffffffffffffffffffffffffffffffffffffffffffff0000000000000003f1ffffffffff01ffffff7df := Sub.refl _
  unfold execStartUpInput at h; exact (perform_keeps h (fun _ h => by with_reducible exact startUpInput_keeps h (subW g)) (subW g)).2

theorem execServeTimeout_keeps {s t : State} (h : execServeTimeout s = .next t) :
     t.pending = s.pending ∧ Kept 0x40001000000000000000000000000000000000000000000000000000000000000000000000000000000000000000000000000000000000000000000000000000000000000000000000000000000000000000000000000000000000000000000000000000000000000000000000004000040003059 s.dev t.dev := by
  have g : Sub 0x40001000000000000000000000000000000000000000000000000000000000000000000000000000000000000000000000000000000000000000000000000000000000000000000000000000000000000000000000000000000000000000000000000000000000000000000000004000040003059 0x40001000000000000000000000000000000000000000000000000000000000000000000000000000000000000000000000000000000000000000000000000000000000000000000000000000000000000000000000000000000000000000000000000000000000000000000000004000040003059 := Sub.refl _
  unfold execServeTimeout at h; exact (perform_keeps h (fun _ h => by with_reducible exact serveTimeout_keeps h (subW g)) (subW g)).2

theorem execFabricWaitTimeout_keeps {s t : State} (h : execFabricWaitTimeout s = .next t) :
     t.pending = s.pending ∧ Kept 0x40001000000000000000000000000000000000000000000000000000000000000000000000000000000000000000000000000000000000000000000000000000000000000000000000000000000000000000000000000000000000000000000000000000000000000000004000004000040003059 s.dev t.dev := by
  have g : Sub 0x40001000000000000000000000000000000000000000000000000000000000000000000000000000000000000000000000000000000000000000000000000000000000000000000000000000000000000000000000000000000000000000000000000000000000000000004000004000040003059 0x40001000000000000000000000000000000000000000000000000000000000000000000000000000000000000000000000000000000000000000000000000000000000000000000000000000000000000000000000000000000000000000000000000000000000000000004000004000040003059 := Sub.refl _
  unfold execFabricWaitTimeout at h; exact (perform_keeps h (fun _ h => by with_reducible exact fabricWaitTimeout_keeps h (subW g)) (subW g)).2

theorem execStateTransferStart_keeps {s t : State} (h : execStateTransferStart s = .next t) :
     t.pending = s.pending ∧ Kept 0x4000002002041 s.dev t.dev := by
  have g : Sub 0x4000002002041 0x4000002002041 := Sub.refl _
  unfold execStateTransferStart at h; exact (perform_keeps h (fun _ h => by with_reducible exact askState_keeps h (subW g)) (subW g)).2

theorem execTick_keeps {obs : TickObs} {s t : State} (h : execTick obs s = .next t) :
     t.pending = s.pending ∧ Kept 0x30003bffc00001d6b316120c0bf80001c088444856c449e001fdc000000064080000000000000000000000003017f00000401fd0002000000210c000c000823c0000000000000040038109037c03f85c00f8221ec000000000000000000810000800200000a00201000fff00000183fc00000000004000137fffaf9 s.dev t.dev := by
  have g : Sub 0x30003bffc00001d6b316120c0bf80001c088444856c449e001fdc000000064080000000000000000000000003017f00000401fd0002000000210c000c000823c0000000000000040038109037c03f85c00f8221ec000000000000000000810000800200000a00201000fff00000183fc00000000004000137fffaf9 0x30003bffc00001d6b316120c0bf80001c088444856c449e001fdc000000064080000000000000000000000003017f00000401fd0002000000210c000c000823c0000000000000040038109037c03f85c00f8221ec000000000000000000810000800200000a00201000fff00000183fc00000000004000137fffaf9 := Sub.refl _
  unfold execTick at h; exact (perform_keeps h (fun _ h => by with_reducible exact tick_keeps h (subW g)) (subW g)).2

theorem execHoldOffExpiry_keeps {cand : Nat} {s t : State} (h : execHoldOffExpiry cand s = .next t) :
     t.pending = s.pending ∧ Kept 0x4000000000000000000004000000002059 s.dev t.dev := by
  have g : Sub 0x4000000000000000000004000000002059 0x4000000000000000000004000000002059 := Sub.refl _
  unfold execHoldOffExpiry at h; exact (perform_keeps h (fun _ h => by with_reducible exact holdOffExpiry_keeps h (subW g)) (subW g)).2

theorem execRefFramePulse_keeps {cand : Nat} {arrival : Nat} {s t : State} (h : execRefFramePulse cand arrival s = .next t) :
     t.pending = s.pending ∧ Kept 0x40001000000000000000000000000000000000000000000000000000000000000000000000000000000000000000000000000000000000000000000000000000000000000000000000000000000000000000000000000000000000000000000000000064000000000000000000004000000003879 s.dev t.dev := by
  have g : Sub 0x40001000000000000000000000000000000000000000000000000000000000000000000000000000000000000000000000000000000000000000000000000000000000000000000000000000000000000000000000000000000000000000000000000064000000000000000000004000000003879 0x40001000000000000000000000000000000000000000000000000000000000000000000000000000000000000000000000000000000000000000000000000000000000000000000000000000000000000000000000000000000000000000000000000064000000000000000000004000000003879 := Sub.refl _
  unfold execRefFramePulse at h; exact (perform_keeps h (fun _ h => by with_reducible exact refFramePulse_keeps h (subW g)) (subW g)).2

theorem execSync_keeps {cand : Nat} {sec : Nat} {ns : Nat} {rx : Nat} {s t : State} (h : execSync cand sec ns rx s = .next t) :
     t.pending = s.pending ∧ Kept 0x40001000000000000000000000000000000000000000000000000000000000000000000000000000000000000000000000000000000000000000000000000000000000000000000000000000000000000000000000000000000000000000000000000064000000000000000000004000000003879 s.dev t.dev := by
  have g : Sub 0x40001000000000000000000000000000000000000000000000000000000000000000000000000000000000000000000000000000000000000000000000000000000000000000000000000000000000000000000000000000000000000000000000000064000000000000000000004000000003879 0x40001000000000000000000000000000000000000000000000000000000000000000000000000000000000000000000000000000000000000000000000000000000000000000000000000000000000000000000000000000000000000000000000000064000000000000000000004000000003879 := Sub.refl _
  unfold execSync at h; exact (perform_keeps h (fun _ h => by with_reducible exact ptpSync_keeps h (subW g)) (subW g)).2

theorem execXoInLost_keeps {s t : State} (h : execXoInLost s = .next t) :
     t.pending = s.pending ∧ Kept 0xc0001000000000000000000000000000000000000000000000000000000000000000000000000000000000000000000000000000000000000000000000000000000000000000000000000000000000000000000000000000000000000000000000000012000000028000000000004000000003841 s.dev t.dev := by
  have g : Sub 0xc0001000000000000000000000000000000000000000000000000000000000000000000000000000000000000000000000000000000000000000000000000000000000000000000000000000000000000000000000000000000000000000000000000012000000028000000000004000000003841 0xc0001000000000000000000000000000000000000000000000000000000000000000000000000000000000000000000000000000000000000000000000000000000000000000000000000000000000000000000000000000000000000000000000000012000000028000000000004000000003841 := Sub.refl _
  unfold execXoInLost at h; exact (perform_keeps h (fun _ h => by with_reducible exact xoInLost_keeps h (subW g)) (subW g)).2

theorem execStep_keeps {src : Bool} {s t : State} (h : execStep src s = .next t) :
     t.pending = s.pending ∧ Kept 0x4000000002841 s.dev t.dev := by
  have g : Sub 0x4000000002841 0x4000000002841 := Sub.refl _
  unfold execStep at h; exact (perform_keeps h (fun _ h => by with_reducible exact requestStep_keeps h (subW g)) (subW g)).2

theorem execClrHoldoff_keeps {mask : Nat} {s t : State} (h : execClrHoldoff mask s = .next t) :
     t.pending = s.pending ∧ Kept 0x4000000000000000000004000000002041 s.dev t.dev := by
  have g : Sub 0x4000000000000000000004000000002041 0x4000000000000000000004000000002041 := Sub.refl _
  unfold execClrHoldoff at h; exact (perform_keeps h (fun _ h => by with_reducible exact clrHoldoff_keeps h (subW g)) (subW g)).2

theorem execCandidateConfigWrite_keeps {off : Nat} {word : Nat} {s t : State} (h : execCandidateConfigWrite off word s = .next t) :
     t.pending = s.pending ∧ Kept 0x3fffffffffffffffffffffffffffffffffffffffffffffffffffffffffffffffffffffffffffffffffffffffffffffffffffffffffffffffffffffffffffffffffffffffffffffffffffffffffffffffffffffffffffffffffffffffffffffffffffffffffffffffffffffffffffffffffffffffffffffffffffffffffffffffe632bf863 s.dev t.dev := by
  have g : Sub 0x3fffffffffffffffffffffffffffffffffffffffffffffffffffffffffffffffffffffffffffffffffffffffffffffffffffffffffffffffffffffffffffffffffffffffffffffffffffffffffffffffffffffffffffffffffffffffffffffffffffffffffffffffffffffffffffffffffffffffffffffffffffffffffffffffe632bf863 0x3fffffffffffffffffffffffffffffffffffffffffffffffffffffffffffffffffffffffffffffffffffffffffffffffffffffffffffffffffffffffffffffffffffffffffffffffffffffffffffffffffffffffffffffffffffffffffffffffffffffffffffffffffffffffffffffffffffffffffffffffffffffffffffffffe632bf863 := Sub.refl _
  unfold execCandidateConfigWrite at h; exact (perform_keeps h (fun _ h => by with_reducible exact writeWord_keeps h (subW g)) (subW g)).2

theorem execPpsOutPulse_keeps {s t : State} (h : execPpsOutPulse s = .next t) :
     t.pending = s.pending ∧ Kept 0x4000000002659 s.dev t.dev := by
  have g : Sub 0x4000000002659 0x4000000002659 := Sub.refl _
  unfold execPpsOutPulse at h; exact (perform_keeps h (fun _ h => by with_reducible exact ppsOutPulse_keeps h (subW g)) (subW g)).2

theorem execPulseWidthEnd_keeps {pps : Bool} {s t : State} (h : execPulseWidthEnd pps s = .next t) :
     t.pending = s.pending ∧ Kept 0x4000000002459 s.dev t.dev := by
  have g : Sub 0x4000000002459 0x4000000002459 := Sub.refl _
  unfold execPulseWidthEnd at h; exact (perform_keeps h (fun _ h => by with_reducible exact pulseWidthEnd_keeps h (subW g)) (subW g)).2

theorem execDoorbell_keeps {ring0 : Bool} {ring1 : Bool} {s t : State} (h : execDoorbell ring0 ring1 s = .next t) :
     t.pending = s.pending ∧ Kept 0x40001000000000000000000000000000000000000000000000000000000000000000000000000000000000000000000000000000000000000000000000000000000000000000000000000000000000000000000000000000000001f9a800000000000000000000000000000000004000000007041 s.dev t.dev := by
  have g : Sub 0x40001000000000000000000000000000000000000000000000000000000000000000000000000000000000000000000000000000000000000000000000000000000000000000000000000000000000000000000000000000000001f9a800000000000000000000000000000000004000000007041 0x40001000000000000000000000000000000000000000000000000000000000000000000000000000000000000000000000000000000000000000000000000000000000000000000000000000000000000000000000000000000001f9a800000000000000000000000000000000004000000007041 := Sub.refl _
  unfold execDoorbell at h; exact (perform_keeps h (fun _ h => by with_reducible exact doorbell_keeps h (subW g)) (subW g)).2

theorem execMailboxWrite_keeps {bank : Nat} {record : Option Nat} {word : Nat} {value : Nat} {s t : State} (h : execMailboxWrite bank record word value s = .next t) :
     t.pending = s.pending ∧ Kept 0x40001000000000000000000000000000000000000000000000000000000000000000000000000000000000000000000000000000000000000000000000000000000000000000000000000000000000000000000000002000000002000400000000000000000000000000000000004000000003041 s.dev t.dev := by
  have g : Sub 0x40001000000000000000000000000000000000000000000000000000000000000000000000000000000000000000000000000000000000000000000000000000000000000000000000000000000000000000000000002000000002000400000000000000000000000000000000004000000003041 0x40001000000000000000000000000000000000000000000000000000000000000000000000000000000000000000000000000000000000000000000000000000000000000000000000000000000000000000000000002000000002000400000000000000000000000000000000004000000003041 := Sub.refl _
  unfold execMailboxWrite at h; exact (perform_keeps h (fun _ h => by with_reducible exact mailboxWrite_keeps h (subW g)) (subW g)).2

theorem execSalvoAcceptance_keeps {us : Nat} {s t : State} (h : execSalvoAcceptance us s = .next t) :
     t.pending = s.pending ∧ Kept 0x400010000000080000000040000040000000043c0e51800008000603bffffa077ffff4001e3860000080000037ffffff50000c0000000000000ffffffffffffc600000000004000800000000000001ffbe0000a067f7c18c003ffdf85000200ec7000000000000000000000000004000107677059 s.dev t.dev := by
  have g : Sub 0x400010000000080000000040000040000000043c0e51800008000603bffffa077ffff4001e3860000080000037ffffff50000c0000000000000ffffffffffffc600000000004000800000000000001ffbe0000a067f7c18c003ffdf85000200ec7000000000000000000000000004000107677059 0x400010000000080000000040000040000000043c0e51800008000603bffffa077ffff4001e3860000080000037ffffff50000c0000000000000ffffffffffffc600000000004000800000000000001ffbe0000a067f7c18c003ffdf85000200ec7000000000000000000000000004000107677059 := Sub.refl _
  unfold execSalvoAcceptance at h; exact (perform_keeps h (fun _ h => by with_reducible exact salvoAcceptance_keeps h (subW g)) (subW g)).2

theorem execLaunch_keeps {s t : State} (h : execLaunch s = .next t) :
     t.pending = s.pending ∧ Kept 0x400010000000080000000040000040000000043c0e51800008000003bffffa077ffff4001e3800000000000017ffffff50000c0000000000000ffffffffffffc600000000004000800000000000001ffbe000000000001ac013ff00000002009c0000000000000000000000000004000117657059 s.dev t.dev := by
  have g : Sub 0x400010000000080000000040000040000000043c0e51800008000003bffffa077ffff4001e3800000000000017ffffff50000c0000000000000ffffffffffffc600000000004000800000000000001ffbe000000000001ac013ff00000002009c0000000000000000000000000004000117657059 0x400010000000080000000040000040000000043c0e51800008000003bffffa077ffff4001e3800000000000017ffffff50000c0000000000000ffffffffffffc600000000004000800000000000001ffbe000000000001ac013ff00000002009c0000000000000000000000000004000117657059 := Sub.refl _
  unfold execLaunch at h; exact (perform_keeps h (fun _ h => by with_reducible exact launchSalvos_keeps h (subW g)) (subW g)).2

theorem execSwitchPoint_keeps {dst : Nat} {s t : State} (h : execSwitchPoint dst s = .next t) :
     t.pending = s.pending ∧ Kept 0x40001000000000000000000000000000000000000000000000000000000000000000000000000000000000000000000000000000000000000000001000000000000000000000000000000000000000000000000000000c70fe0000800000000000000000000000000000000000004000000047259 s.dev t.dev := by
  have g : Sub 0x40001000000000000000000000000000000000000000000000000000000000000000000000000000000000000000000000000000000000000000001000000000000000000000000000000000000000000000000000000c70fe0000800000000000000000000000000000000000004000000047259 0x40001000000000000000000000000000000000000000000000000000000000000000000000000000000000000000000000000000000000000000001000000000000000000000000000000000000000000000000000000c70fe0000800000000000000000000000000000000000004000000047259 := Sub.refl _
  unfold execSwitchPoint at h; exact (perform_keeps h (fun _ h => by with_reducible exact outputSwitch_keeps h (subW g)) (subW g)).2

theorem execAudioGridSample_keeps {rate : Nat} {s t : State} (h : execAudioGridSample rate s = .next t) :
     t.pending = s.pending ∧ Kept 0x400010000000000000000090908609920001c1f00000789880000000000000000000000000000000000000000200000000000800010000000000000000000000000000000000000000000000000000000000000000000000000000800000000000000000000000000000000000004000003d572d9 s.dev t.dev := by
  have g : Sub 0x400010000000000000000090908609920001c1f00000789880000000000000000000000000000000000000000200000000000800010000000000000000000000000000000000000000000000000000000000000000000000000000800000000000000000000000000000000000004000003d572d9 0x400010000000000000000090908609920001c1f00000789880000000000000000000000000000000000000000200000000000800010000000000000000000000000000000000000000000000000000000000000000000000000000800000000000000000000000000000000000004000003d572d9 := Sub.refl _
  unfold execAudioGridSample at h; exact (perform_keeps h (fun _ h => by with_reducible exact audioSample_keeps h (subW g)) (subW g)).2

theorem execCrossfadeComplete_keeps {dst : Nat} {channel : Nat} {s t : State} (h : execCrossfadeComplete dst channel s = .next t) :
     t.pending = s.pending ∧ Kept 0x400010000000000000000090908609920001c1f00000789880000000000000000000000000000000000000000200000000000800010000000000000000000000000000000000000000000000000000000000000000000000000000800000000000000000000000000000000000004000003d572d9 s.dev t.dev := by
  have g : Sub 0x400010000000000000000090908609920001c1f00000789880000000000000000000000000000000000000000200000000000800010000000000000000000000000000000000000000000000000000000000000000000000000000800000000000000000000000000000000000004000003d572d9 0x400010000000000000000090908609920001c1f00000789880000000000000000000000000000000000000000200000000000800010000000000000000000000000000000000000000000000000000000000000000000000000000800000000000000000000000000000000000004000003d572d9 := Sub.refl _
  unfold execCrossfadeComplete at h; exact (perform_keeps h (fun _ h => by with_reducible exact fadeCompletes_keeps h (subW g)) (subW g)).2

theorem execFrameBoundary_keeps {fam : Nat} {reads : List EccObs} {s t : State} (h : execFrameBoundary fam reads s = .next t) :
     t.pending = s.pending ∧ Kept 0x40001002000008000000084040004040000005c000000004080018000000000000000300003410002301e2183001780050002534000000000000001000000000000001000004020800000000000000000000000000000e10000800000000a000000000000000000000000001000840001022776f9 s.dev t.dev := by
  have g : Sub 0x40001002000008000000084040004040000005c000000004080018000000000000000300003410002301e2183001780050002534000000000000001000000000000001000004020800000000000000000000000000000e10000800000000a000000000000000000000000001000840001022776f9 0x40001002000008000000084040004040000005c000000004080018000000000000000300003410002301e2183001780050002534000000000000001000000000000001000004020800000000000000000000000000000e10000800000000a000000000000000000000000001000840001022776f9 := Sub.refl _
  unfold execFrameBoundary at h; exact (perform_keeps h (fun _ h => by with_reducible exact frameBoundary_keeps h (subW g)) (subW g)).2

theorem execDualWriteStart_keeps {s t : State} (h : execDualWriteStart s = .next t) :
     t.pending = s.pending ∧ Kept 0x3ef0000000000000000000000000000000000000004000006006059 s.dev t.dev := by
  have g : Sub 0x3ef0000000000000000000000000000000000000004000006006059 0x3ef0000000000000000000000000000000000000004000006006059 := Sub.refl _
  unfold execDualWriteStart at h; exact (perform_keeps h (fun _ h => by with_reducible exact dualWriteStart_keeps h (subW g)) (subW g)).2

theorem execMigrationCompletion_keeps {s t : State} (h : execMigrationCompletion s = .next t) :
     t.pending = s.pending ∧ Kept 0x40001000000000000000000000000000000000000000000000000600000000000000000000006000000000000000010c00000000000000000000000000000000000000000000000000000000000001ffbe0000100000018c0001f0000000000000000000000000000000000000004000004217059 s.dev t.dev := by
  have g : Sub 0x40001000000000000000000000000000000000000000000000000600000000000000000000006000000000000000010c00000000000000000000000000000000000000000000000000000000000001ffbe0000100000018c0001f0000000000000000000000000000000000000004000004217059 0x40001000000000000000000000000000000000000000000000000600000000000000000000006000000000000000010c00000000000000000000000000000000000000000000000000000000000001ffbe0000100000018c0001f0000000000000000000000000000000000000004000004217059 := Sub.refl _
  unfold execMigrationCompletion at h; exact (perform_keeps h (fun _ h => by with_reducible exact migrationCompletion_keeps h (subW g)) (subW g)).2

theorem execMigrationRelease_keeps {s t : State} (h : execMigrationRelease s = .next t) :
     t.pending = s.pending ∧ Kept 0x3ef0000000000000000000000000000000000000004000006006059 s.dev t.dev := by
  have g : Sub 0x3ef0000000000000000000000000000000000000004000006006059 0x3ef0000000000000000000000000000000000000004000006006059 := Sub.refl _
  unfold execMigrationRelease at h; exact (perform_keeps h (fun _ h => by with_reducible exact migrationRelease_keeps h (subW g)) (subW g)).2

theorem execResourceRelease_keeps {s t : State} (h : execResourceRelease s = .next t) :
     t.pending = s.pending ∧ Kept 0x400010000000080000000040000040000000043c0e51800008000003bffffa077ffff4001e3800000000000017ffffff50000c0000000000000ffffffffffffc600000000004000800000000000000000000000000000000003ef0000000200000000000000000000000000000004000107657059 s.dev t.dev := by
  have g : Sub 0x400010000000080000000040000040000000043c0e51800008000003bffffa077ffff4001e3800000000000017ffffff50000c0000000000000ffffffffffffc600000000004000800000000000000000000000000000000003ef0000000200000000000000000000000000000004000107657059 0x400010000000080000000040000040000000043c0e51800008000003bffffa077ffff4001e3800000000000017ffffff50000c0000000000000ffffffffffffc600000000004000800000000000000000000000000000000003ef0000000200000000000000000000000000000004000107657059 := Sub.refl _
  unfold execResourceRelease at h; exact (perform_keeps h (fun _ h => by with_reducible exact resourceRelease_keeps h (subW g)) (subW g)).2

theorem execSafeStateEntry_keeps {s t : State} (h : execSafeStateEntry s = .next t) :
     t.pending = s.pending ∧ Kept 0x480012000803f80001c08040000040000000043c0e51800008000003bffffa077ffff4001e3800000000000017ffffff50000c0000000000000ffffffffffffc600000000004000800000000000000000000000000100810003ef019a0002008c0000000000000000000000000004000107657459 s.dev t.dev := by
  have g : Sub 0x480012000803f80001c08040000040000000043c0e51800008000003bffffa077ffff4001e3800000000000017ffffff50000c0000000000000ffffffffffffc600000000004000800000000000000000000000000100810003ef019a0002008c0000000000000000000000000004000107657459 0x480012000803f80001c08040000040000000043c0e51800008000003bffffa077ffff4001e3800000000000017ffffff50000c0000000000000ffffffffffffc600000000004000800000000000000000000000000100810003ef019a0002008c0000000000000000000000000004000107657459 := Sub.refl _
  unfold execSafeStateEntry at h; exact (perform_keeps h (fun _ h => by with_reducible exact safeEntry_keeps h (subW g)) (subW g)).2

theorem execSafeStateExit_keeps {s t : State} (h : execSafeStateExit s = .next t) :
     t.pending = s.pending ∧ Kept 0xd080160000000000000000000000000000000000000000000000000000000000000000000000000000000000000000000000000000000000000000000000000040000000000000005c000002080000000000000000000000000000000000000000000000000000000000000000004000004443059 s.dev t.dev := by
  have g : Sub 0xd080160000000000000000000000000000000000000000000000000000000000000000000000000000000000000000000000000000000000000000000000000040000000000000005c000002080000000000000000000000000000000000000000000000000000000000000000004000004443059 0xd080160000000000000000000000000000000000000000000000000000000000000000000000000000000000000000000000000000000000000000000000000040000000000000005c000002080000000000000000000000000000000000000000000000000000000000000000004000004443059 := Sub.refl _
  unfold execSafeStateExit at h; exact (perform_keeps h (fun _ h => by with_reducible exact safeExit_keeps h (subW g)) (subW g)).2

theorem execSafeRelease_keeps {s t : State} (h : execSafeRelease s = .next t) :
     t.pending = s.pending ∧ Kept 0xd000160000000000000000000000000000000000000000000000000000000000000000000000000000000000000000000000000000000000000000000000000040000000000000005c000002080000000000000000000000000000000000000000000000000000000000000000004000004443259 s.dev t.dev := by
  have g : Sub 0xd000160000000000000000000000000000000000000000000000000000000000000000000000000000000000000000000000000000000000000000000000000040000000000000005c000002080000000000000000000000000000000000000000000000000000000000000000004000004443259 0xd000160000000000000000000000000000000000000000000000000000000000000000000000000000000000000000000000000000000000000000000000000040000000000000005c000002080000000000000000000000000000000000000000000000000000000000000000004000004443259 := Sub.refl _
  unfold execSafeRelease at h; exact (perform_keeps h (fun _ h => by with_reducible exact safeReleaseWrite_keeps h (subW g)) (subW g)).2

theorem execPinRelease_keeps {s t : State} (h : execPinRelease s = .next t) :
     t.pending = s.pending ∧ Kept 0x1000000000000000000000000000000000000000000000000000000000000000000000000000000000000000000000000000000000000000000000000000000000000000000000000000000000000000000000000000000000000000000000000000000000000000000000004000000003041 s.dev t.dev := by
  have g : Sub 0x1000000000000000000000000000000000000000000000000000000000000000000000000000000000000000000000000000000000000000000000000000000000000000000000000000000000000000000000000000000000000000000000000000000000000000000000004000000003041 0x1000000000000000000000000000000000000000000000000000000000000000000000000000000000000000000000000000000000000000000000000000000000000000000000000000000000000000000000000000000000000000000000000000000000000000000000004000000003041 := Sub.refl _
  unfold execPinRelease at h; exact (perform_keeps h (fun _ h => by with_reducible exact releasePin_keeps h (subW g)) (subW g)).2

theorem execFaultNTimerExpiry_keeps {s t : State} (h : execFaultNTimerExpiry s = .next t) :
     t.pending = s.pending ∧ Kept 0x1000000000000000000000000000000000000000000000000000000000000000000000000000000000000000000000000000000000000000000000000000000000000000000000000000000000000000000000000000000000000000000000000000000000000000000000004000000003059 s.dev t.dev := by
  have g : Sub 0x1000000000000000000000000000000000000000000000000000000000000000000000000000000000000000000000000000000000000000000000000000000000000000000000000000000000000000000000000000000000000000000000000000000000000000000000004000000003059 0x1000000000000000000000000000000000000000000000000000000000000000000000000000000000000000000000000000000000000000000000000000000000000000000000000000000000000000000000000000000000000000000000000000000000000000000000004000000003059 := Sub.refl _
  unfold execFaultNTimerExpiry at h; exact (perform_keeps h (fun _ h => by with_reducible exact faultTimer_keeps h (subW g)) (subW g)).2

theorem execFire_keeps {word : Nat} {s t : State} (h : execFire word s = .next t) :
     t.pending = s.pending ∧ Kept 0x40001000000000000000000000000000000000000000000000000000000000000000000000000000000000000000000000000000000000000000000000000000000000000000000000000000000000000000000000000000000000000000000000000000000000000000000000004000000003041 s.dev t.dev := by
  have g : Sub 0x40001000000000000000000000000000000000000000000000000000000000000000000000000000000000000000000000000000000000000000000000000000000000000000000000000000000000000000000000000000000000000000000000000000000000000000000000004000000003041 0x40001000000000000000000000000000000000000000000000000000000000000000000000000000000000000000000000000000000000000000000000000000000000000000000000000000000000000000000000000000000000000000000000000000000000000000000000004000000003041 := Sub.refl _
  unfold execFire at h; exact (perform_keeps h (fun _ h => by with_reducible exact injectFault_keeps h (subW g)) (subW g)).2

theorem execRetrainingPause_keeps {ch : Nat} {s t : State} (h : execRetrainingPause ch s = .next t) :
     t.pending = s.pending ∧ Kept 0xe000000000000000000000000000004000000026259 s.dev t.dev := by
  have g : Sub 0xe000000000000000000000000000004000000026259 0xe000000000000000000000000000004000000026259 := Sub.refl _
  unfold execRetrainingPause at h; exact (perform_keeps h (fun _ h => by with_reducible exact pauseBegins_keeps h (subW g)) (subW g)).2

theorem execPauseEvaluation_keeps {ch : Nat} {lanes : List (Nat × Nat)} {s t : State} (h : execPauseEvaluation ch lanes s = .next t) :
     t.pending = s.pending ∧ Kept 0x4000100000000000000000000000000000000000000000000000000000000000000000000000003b003010014000000000000000000000000000000000000000000000000000000000000000000000000000000000000000000000000000000000000000000000000000000000004000000023059 s.dev t.dev := by
  have g : Sub 0x4000100000000000000000000000000000000000000000000000000000000000000000000000003b003010014000000000000000000000000000000000000000000000000000000000000000000000000000000000000000000000000000000000000000000000000000000000004000000023059 0x4000100000000000000000000000000000000000000000000000000000000000000000000000003b003010014000000000000000000000000000000000000000000000000000000000000000000000000000000000000000000000000000000000000000000000000000000000004000000023059 := Sub.refl _
  unfold execPauseEvaluation at h; exact (perform_keeps h (fun _ h => by with_reducible exact pauseEvaluation_keeps h (subW g)) (subW g)).2

theorem execPauseEnd_keeps {ch : Nat} {s t : State} (h : execPauseEnd ch s = .next t) :
     t.pending = s.pending ∧ Kept 0x40001000000008000000004000004000000004000000000008000000000000000000000000100000000022183000200050000400000000000000000000000000000000000004000800000000000000000000000000000000000000000000204000000000000000000000000000004000100033041 s.dev t.dev := by
  have g : Sub 0x40001000000008000000004000004000000004000000000008000000000000000000000000100000000022183000200050000400000000000000000000000000000000000004000800000000000000000000000000000000000000000000204000000000000000000000000000004000100033041 0x40001000000008000000004000004000000004000000000008000000000000000000000000100000000022183000200050000400000000000000000000000000000000000004000800000000000000000000000000000000000000000000204000000000000000000000000000004000100033041 := Sub.refl _
  unfold execPauseEnd at h; exact (perform_keeps h (fun _ h => by with_reducible exact pauseEnd_keeps h (subW g)) (subW g)).2

theorem execEvacuation_keeps {s t : State} (h : execEvacuation s = .next t) :
     t.pending = s.pending ∧ Kept 0x400010000000080000000040000040000000043c0e51800008000603bffffa077ffff4001e3860000080000037ffffff50000c0000000000000ffffffffffffc600000000004000800000000000001ffbe0000a00017018c003ff0000000200000000000000000000000000000004000107677059 s.dev t.dev := by
  have g : Sub 0x400010000000080000000040000040000000043c0e51800008000603bffffa077ffff4001e3860000080000037ffffff50000c0000000000000ffffffffffffc600000000004000800000000000001ffbe0000a00017018c003ff0000000200000000000000000000000000000004000107677059 0x400010000000080000000040000040000000043c0e51800008000603bffffa077ffff4001e3860000080000037ffffff50000c0000000000000ffffffffffffc600000000004000800000000000001ffbe0000a00017018c003ff0000000200000000000000000000000000000004000107677059 := Sub.refl _
  unfold execEvacuation at h; exact (perform_keeps h (fun _ h => by with_reducible exact evacuation_keeps h (subW g)) (subW g)).2

theorem execPlacementGapTimeout_keeps {s t : State} (h : execPlacementGapTimeout s = .next t) :
     t.pending = s.pending ∧ Kept 0x40001000000000000000000000000000000000000000000000000000000000000000000000000000000000000000000000000000000000000000000000000000000000000000000000000000000000000000000000080000000000000000000000000000000000000000000000004000002003059 s.dev t.dev := by
  have g : Sub 0x40001000000000000000000000000000000000000000000000000000000000000000000000000000000000000000000000000000000000000000000000000000000000000000000000000000000000000000000000080000000000000000000000000000000000000000000000004000002003059 0x40001000000000000000000000000000000000000000000000000000000000000000000000000000000000000000000000000000000000000000000000000000000000000000000000000000000000000000000000080000000000000000000000000000000000000000000000004000002003059 := Sub.refl _
  unfold execPlacementGapTimeout at h; exact (perform_keeps h (fun _ h => by with_reducible exact gapTimeout_keeps h (subW g)) (subW g)).2

theorem execDigestSnapshot_keeps {s t : State} (h : execDigestSnapshot s = .next t) :
     t.pending = s.pending ∧ Kept 0x400010000003000f03e030000000000000000000000000000000000000000000000000000000000000000000000000000000000000000000000000000000000000000000000000000000000000000000000000000000000000000019a000000000000000000000000000000000004000102003259 s.dev t.dev := by
  have g : Sub 0x400010000003000f03e030000000000000000000000000000000000000000000000000000000000000000000000000000000000000000000000000000000000000000000000000000000000000000000000000000000000000000019a000000000000000000000000000000000004000102003259 0x400010000003000f03e030000000000000000000000000000000000000000000000000000000000000000000000000000000000000000000000000000000000000000000000000000000000000000000000000000000000000000019a000000000000000000000000000000000004000102003259 := Sub.refl _
  unfold execDigestSnapshot at h; exact (perform_keeps h (fun _ h => by with_reducible exact digestSnapshot_keeps h (subW g)) (subW g)).2

theorem execDigestTimeout_keeps {s t : State} (h : execDigestTimeout s = .next t) :
     t.pending = s.pending ∧ Kept 0x40001000000200080000100000000000000000000000000000000000000000000000000000000000000000000000000000000000000000000000000000000000000000000000000000000000000000000000000000000000000000000000000000000000000000000000000000004000002003059 s.dev t.dev := by
  have g : Sub 0x40001000000200080000100000000000000000000000000000000000000000000000000000000000000000000000000000000000000000000000000000000000000000000000000000000000000000000000000000000000000000000000000000000000000000000000000000004000002003059 0x40001000000200080000100000000000000000000000000000000000000000000000000000000000000000000000000000000000000000000000000000000000000000000000000000000000000000000000000000000000000000000000000000000000000000000000000000004000002003059 := Sub.refl _
  unfold execDigestTimeout at h; exact (perform_keeps h (fun _ h => by with_reducible exact digestTimeout_keeps h (subW g)) (subW g)).2

theorem execSignalDetect_keeps {lane : Nat} {s t : State} (h : execSignalDetect lane s = .next t) :
     t.pending = s.pending ∧ Kept 0x400000000000000000000000000000000000000000000000000000000000000000400000000a041 s.dev t.dev := by
  have g : Sub 0x400000000000000000000000000000000000000000000000000000000000000000400000000a041 0x400000000000000000000000000000000000000000000000000000000000000000400000000a041 := Sub.refl _
  unfold execSignalDetect at h; exact (perform_keeps h (fun _ h => by with_reducible exact signalDetect_keeps h (subW g)) (subW g)).2

theorem execHuntDwellEnd_keeps {lane : Nat} {rate : Nat} {div : Bool} {freq : Int} {s t : State} (h : execHuntDwellEnd lane rate div freq s = .next t) :
     t.pending = s.pending ∧ Kept 0xc000100000000000000000000000000000000000000000000000000000000000000000000000000000000000000020000000000000c001820c000000000000000100000000000000000000209e800000000000000000081000080000000000000000000000000000000000000000400000010f059 s.dev t.dev := by
  have g : Sub 0xc000100000000000000000000000000000000000000000000000000000000000000000000000000000000000000020000000000000c001820c000000000000000100000000000000000000209e800000000000000000081000080000000000000000000000000000000000000000400000010f059 0xc000100000000000000000000000000000000000000000000000000000000000000000000000000000000000000020000000000000c001820c000000000000000100000000000000000000209e800000000000000000081000080000000000000000000000000000000000000000400000010f059 := Sub.refl _
  unfold execHuntDwellEnd at h; exact (perform_keeps h (fun _ h => by with_reducible exact huntEnds_keeps h (subW g)) (subW g)).2

theorem execLossOfLock_keeps {lane : Nat} {below : Bool} {s t : State} (h : execLossOfLock lane below s = .next t) :
     t.pending = s.pending ∧ Kept 0xc00010100c03b00001c080000000000000000000000000000000000000000000000000000000000000000000000020000000000000c000823c0000000000000000038009037800005c0000263ec00000000000000000081000080000000000000000000000000000000000000000400000218f041 s.dev t.dev := by
  have g : Sub 0xc00010100c03b00001c080000000000000000000000000000000000000000000000000000000000000000000000020000000000000c000823c0000000000000000038009037800005c0000263ec00000000000000000081000080000000000000000000000000000000000000000400000218f041 0xc00010100c03b00001c080000000000000000000000000000000000000000000000000000000000000000000000020000000000000c000823c0000000000000000038009037800005c0000263ec00000000000000000081000080000000000000000000000000000000000000000400000218f041 := Sub.refl _
  unfold execLossOfLock at h; exact (perform_keeps h (fun _ h => by with_reducible exact receiverLoss_keeps h (subW g)) (subW g)).2

theorem execSynthesiserLock_keeps {octet : Nat} {mask : Nat} {s t : State} (h : execSynthesiserLock octet mask s = .next t) :
     t.pending = s.pending ∧ Kept 0x800000000400000400000000400000000000800000000000000000000000010000000000000100000000000000000000000000000000000000000000000000401f800000000000000000000000000000000000000000000200000000000000000000000000000004000100002041 s.dev t.dev := by
  have g : Sub 0x800000000400000400000000400000000000800000000000000000000000010000000000000100000000000000000000000000000000000000000000000000401f800000000000000000000000000000000000000000000200000000000000000000000000000004000100002041 0x800000000400000400000000400000000000800000000000000000000000010000000000000100000000000000000000000000000000000000000000000000401f800000000000000000000000000000000000000000000200000000000000000000000000000004000100002041 := Sub.refl _
  unfold execSynthesiserLock at h; exact (perform_keeps h (fun _ h => by with_reducible exact synthesisersLock_keeps h (subW g)) (subW g)).2

theorem execOctetStartTimeout_keeps {octet : Nat} {s t : State} (h : execOctetStartTimeout octet s = .next t) :
     t.pending = s.pending ∧ Kept 0x40001000000008000000004000004000000004000000000008000000000000000000000000100000000000001000000000000000000000000000000000000000000000000004000800000000000000000000000000000000000000000000200000000000000000000000000000004000100003059 s.dev t.dev := by
  have g : Sub 0x40001000000008000000004000004000000004000000000008000000000000000000000000100000000000001000000000000000000000000000000000000000000000000004000800000000000000000000000000000000000000000000200000000000000000000000000000004000100003059 0x40001000000008000000004000004000000004000000000008000000000000000000000000100000000000001000000000000000000000000000000000000000000000000004000800000000000000000000000000000000000000000000200000000000000000000000000000004000100003059 := Sub.refl _
  unfold execOctetStartTimeout at h; exact (perform_keeps h (fun _ h => by with_reducible exact octTimeout_keeps h (subW g)) (subW g)).2

theorem execOctetStopped_keeps {octet : Nat} {s t : State} (h : execOctetStopped octet s = .next t) :
     t.pending = s.pending ∧ Kept 0x800000000400000400000000400000000000800000000000000000000000010000000000000100000000000000000000000000000000000000000000000000400f800000000000000000000000000000000000000000000200000000000000000000000000000004000100002041 s.dev t.dev := by
  have g : Sub 0x800000000400000400000000400000000000800000000000000000000000010000000000000100000000000000000000000000000000000000000000000000400f800000000000000000000000000000000000000000000200000000000000000000000000000004000100002041 0x800000000400000400000000400000000000800000000000000000000000010000000000000100000000000000000000000000000000000000000000000000400f800000000000000000000000000000000000000000000200000000000000000000000000000004000100002041 := Sub.refl _
  unfold execOctetStopped at h; exact (perform_keeps h (fun _ h => by with_reducible exact octStopped_keeps h (subW g)) (subW g)).2

theorem execTrainingComplete_keeps {lane : Nat} {m3 : Int} {m2 : Int} {m1 : Int} {c0 : Int} {p1 : Int} {s t : State} (h : execTrainingComplete lane m3 m2 m1 c0 p1 s = .next t) :
     t.pending = s.pending ∧ Kept 0xf800080000000000000000000000000000000000000000000000000000000000000000004000000002041 s.dev t.dev := by
  have g : Sub 0xf800080000000000000000000000000000000000000000000000000000000000000000004000000002041 0xf800080000000000000000000000000000000000000000000000000000000000000000004000000002041 := Sub.refl _
  unfold execTrainingComplete at h; exact (perform_keeps h (fun _ h => by with_reducible exact trainingComplete_keeps h (subW g)) (subW g)).2

theorem execTrainingTimeout_keeps {lane : Nat} {s t : State} (h : execTrainingTimeout lane s = .next t) :
     t.pending = s.pending ∧ Kept 0x4000100000000000000000000000000000000000000000000000000000000000000000000000000000000000000000000000000000000000000000000000000000000000000000000000000848000000000000000000000000000000000000000000000000000000000000000000400000000b041 s.dev t.dev := by
  have g : Sub 0x4000100000000000000000000000000000000000000000000000000000000000000000000000000000000000000000000000000000000000000000000000000000000000000000000000000848000000000000000000000000000000000000000000000000000000000000000000400000000b041 0x4000100000000000000000000000000000000000000000000000000000000000000000000000000000000000000000000000000000000000000000000000000000000000000000000000000848000000000000000000000000000000000000000000000000000000000000000000400000000b041 := Sub.refl _
  unfold execTrainingTimeout at h; exact (perform_keeps h (fun _ h => by with_reducible exact trainingTimeout_keeps h (subW g)) (subW g)).2

theorem execTrainingRetry_keeps {lane : Nat} {s t : State} (h : execTrainingRetry lane s = .next t) :
     t.pending = s.pending ∧ Kept 0x5c00000208000000000000000000000000000000000000000000000000000000000000000000400000000a059 s.dev t.dev := by
  have g : Sub 0x5c00000208000000000000000000000000000000000000000000000000000000000000000000400000000a059 0x5c00000208000000000000000000000000000000000000000000000000000000000000000000400000000a059 := Sub.refl _
  unfold execTrainingRetry at h; exact (perform_keeps h (fun _ h => by with_reducible exact trainingRetry_keeps h (subW g)) (subW g)).2

theorem execFrequencyOutOfRange_keeps {lane : Nat} {freq : Int} {s t : State} (h : execFrequencyOutOfRange lane freq s = .next t) :
     t.pending = s.pending ∧ Kept 0xc0001000000000000000000000000000000000000000000000000000000000000000000000000000000000000000000000000000000000000000000000000000000000000000000000000020900000000000000000000000000000000000000000000000000000000000000000004000000003041 s.dev t.dev := by
  have g : Sub 0xc0001000000000000000000000000000000000000000000000000000000000000000000000000000000000000000000000000000000000000000000000000000000000000000000000000020900000000000000000000000000000000000000000000000000000000000000000004000000003041 0xc0001000000000000000000000000000000000000000000000000000000000000000000000000000000000000000000000000000000000000000000000000000000000000000000000000020900000000000000000000000000000000000000000000000000000000000000000004000000003041 := Sub.refl _
  unfold execFrequencyOutOfRange at h; exact (perform_keeps h (fun _ h => by with_reducible exact measureFreq_keeps h (subW g)) (subW g)).2

theorem execScanStart_keeps {lane : Nat} {word : Nat} {s t : State} (h : execScanStart lane word s = .next t) :
     t.pending = s.pending ∧ Kept 0x7df0000300000000000000000000000000000000000000000000000000000000000000000000400000000a041 s.dev t.dev := by
  have g : Sub 0x7df0000300000000000000000000000000000000000000000000000000000000000000000000400000000a041 0x7df0000300000000000000000000000000000000000000000000000000000000000000000000400000000a041 := Sub.refl _
  unfold execScanStart at h; exact (perform_keeps h (fun _ h => by with_reducible exact scanStart_keeps h (subW g)) (subW g)).2

theorem execScanDone_keeps {lane : Nat} {errors : Nat} {h_ : Nat} {v : Nat} {moved : Bool} {s t : State} (h : execScanDone lane errors h_ v moved s = .next t) :
     t.pending = s.pending ∧ Kept 0x3ac000000000000000000000000000000000000000000000000000000000000000000000000004000000002041 s.dev t.dev := by
  have g : Sub 0x3ac000000000000000000000000000000000000000000000000000000000000000000000000004000000002041 0x3ac000000000000000000000000000000000000000000000000000000000000000000000000004000000002041 := Sub.refl _
  unfold execScanDone at h; exact (perform_keeps h (fun _ h => by with_reducible exact scanDone_keeps h (subW g)) (subW g)).2

theorem execEthRefclkLoss_keeps {ref : Nat} {s t : State} (h : execEthRefclkLoss ref s = .next t) :
     t.pending = s.pending ∧ Kept 0xc00010100c03b00001c080000000000000000000000000000000000000000000000000000000000000000000000020000000000000c000823c00000000000000000380090378c1f05c0000263ec00000000000000000081000080000000000000000000000000000000000000000400000218f041 s.dev t.dev := by
  have g : Sub 0xc00010100c03b00001c080000000000000000000000000000000000000000000000000000000000000000000000020000000000000c000823c00000000000000000380090378c1f05c0000263ec00000000000000000081000080000000000000000000000000000000000000000400000218f041 0xc00010100c03b00001c080000000000000000000000000000000000000000000000000000000000000000000000020000000000000c000823c00000000000000000380090378c1f05c0000263ec00000000000000000081000080000000000000000000000000000000000000000400000218f041 := Sub.refl _
  unfold execEthRefclkLoss at h; exact (perform_keeps h (fun _ h => by with_reducible exact ethRefLoss_keeps h (fun _ _ h1 => adapterLoss_keeps h1 (subW g)) (subW g)) (subW g)).2

theorem execEthRefclkReturn_keeps {ref : Nat} {s t : State} (h : execEthRefclkReturn ref s = .next t) :
     t.pending = s.pending ∧ Kept 0xc000100000000000000000000000000000000000000000000000000000000000000000000000000000000000000000000000000000000000000000000000000000000000000001000000000000000000000000000000000000000000000000000000000000000000000000000000400000000b041 s.dev t.dev := by
  have g : Sub 0xc000100000000000000000000000000000000000000000000000000000000000000000000000000000000000000000000000000000000000000000000000000000000000000001000000000000000000000000000000000000000000000000000000000000000000000000000000400000000b041 0xc000100000000000000000000000000000000000000000000000000000000000000000000000000000000000000000000000000000000000000000000000000000000000000001000000000000000000000000000000000000000000000000000000000000000000000000000000400000000b041 := Sub.refl _
  unfold execEthRefclkReturn at h; exact (perform_keeps h (fun _ h => by with_reducible exact ethRefReturn_keeps h (subW g)) (subW g)).2

theorem execSynthesiserUnlock_keeps {octet : Nat} {synth : Nat} {s t : State} (h : execSynthesiserUnlock octet synth s = .next t) :
     t.pending = s.pending ∧ Kept 0x4000100000000000000000000000000000000000000000000000000000000000000000000000000000000000000000000000000000000000000000000000000000000000000040f000000000000000000000000000000000000000000000000000000000000000000000000000004000000003041 s.dev t.dev := by
  have g : Sub 0x4000100000000000000000000000000000000000000000000000000000000000000000000000000000000000000000000000000000000000000000000000000000000000000040f000000000000000000000000000000000000000000000000000000000000000000000000000004000000003041 0x4000100000000000000000000000000000000000000000000000000000000000000000000000000000000000000000000000000000000000000000000000000000000000000040f000000000000000000000000000000000000000000000000000000000000000000000000000004000000003041 := Sub.refl _
  unfold execSynthesiserUnlock at h; exact (perform_keeps h (fun _ h => by with_reducible exact synthUnlock_keeps h (subW g)) (subW g)).2

theorem execSdiLine_keeps {lane : Nat} {line : SdiLine} {s t : State} (h : execSdiLine lane line s = .next t) :
     t.pending = s.pending ∧ Kept 0x4000100000000000000000000000000000000000000000000000000000000000000000000000000000000000000178000000210000ff7fef8c00000000000000010000000000000000000000000000000000000000000810002800000000000000000000000000000000000000004000000117041 s.dev t.dev := by
  have g : Sub 0x4000100000000000000000000000000000000000000000000000000000000000000000000000000000000000000178000000210000ff7fef8c00000000000000010000000000000000000000000000000000000000000810002800000000000000000000000000000000000000004000000117041 0x4000100000000000000000000000000000000000000000000000000000000000000000000000000000000000000178000000210000ff7fef8c00000000000000010000000000000000000000000000000000000000000810002800000000000000000000000000000000000000004000000117041 := Sub.refl _
  unfold execSdiLine at h; exact (perform_keeps h (fun _ h => by with_reducible exact sdiLine_keeps h (subW g)) (subW g)).2

theorem execSt352Packet_keeps {lane : Nat} {psid : Psid} {s t : State} (h : execSt352Packet lane psid s = .next t) :
     t.pending = s.pending ∧ Kept 0x4000100000000000000000000000000000000000000000000000000000000000000000000000000000000000000020000000000000c081927c00000000000000010000000000000000000000000000000000000000000810000800000000000000000000000000000000000000004000000107041 s.dev t.dev := by
  have g : Sub 0x4000100000000000000000000000000000000000000000000000000000000000000000000000000000000000000020000000000000c081927c00000000000000010000000000000000000000000000000000000000000810000800000000000000000000000000000000000000004000000107041 0x4000100000000000000000000000000000000000000000000000000000000000000000000000000000000000000020000000000000c081927c00000000000000010000000000000000000000000000000000000000000810000800000000000000000000000000000000000000004000000107041 := Sub.refl _
  unfold execSt352Packet at h; exact (perform_keeps h (fun _ h => by with_reducible exact st352Packet_keeps h (subW g)) (subW g)).2

theorem execLinkUp_keeps {mac : Nat} {s t : State} (h : execLinkUp mac s = .next t) :
     t.pending = s.pending ∧ Kept 0x4000000000b8000000000000000000000000000000000000000000000000000000000000000000000000000000004000000042041 s.dev t.dev := by
  have g : Sub 0x4000000000b8000000000000000000000000000000000000000000000000000000000000000000000000000000004000000042041 0x4000000000b8000000000000000000000000000000000000000000000000000000000000000000000000000000004000000042041 := Sub.refl _
  unfold execLinkUp at h; exact (perform_keeps h (fun _ h => by with_reducible exact linkRises_keeps h (subW g)) (subW g)).2

theorem execLinkDown_keeps {mac : Nat} {rfault : Bool} {s t : State} (h : execLinkDown mac rfault s = .next t) :
     t.pending = s.pending ∧ Kept 0x400010000000000000000000000000000000000000000000000000000000000000000000000000000000000000000000000000000000000000000000000000000003800903f8000000000000000000000000000000000000000000000000000000000000000000000000000000004000000083041 s.dev t.dev := by
  have g : Sub 0x400010000000000000000000000000000000000000000000000000000000000000000000000000000000000000000000000000000000000000000000000000000003800903f8000000000000000000000000000000000000000000000000000000000000000000000000000000004000000083041 0x400010000000000000000000000000000000000000000000000000000000000000000000000000000000000000000000000000000000000000000000000000000003800903f8000000000000000000000000000000000000000000000000000000000000000000000000000000004000000083041 := Sub.refl _
  unfold execLinkDown at h; exact (perform_keeps h (fun _ h => by with_reducible exact linkDown_keeps h (subW g)) (subW g)).2

theorem execReceiveFrame_keeps {mac : Nat} {frame : RxFrame} {s t : State} (h : execReceiveFrame mac frame s = .next t) :
     t.pending = s.pending ∧ Kept 0x4000100000000000000000000000000000000000000000000000000000000000000000000000000000000000000020000000000000c000820c000001009bc04041f33e4103400000000000100000000000000000000008100028000000000000000000000000000000000000000040000001c70c1 s.dev t.dev := by
  have g : Sub 0x4000100000000000000000000000000000000000000000000000000000000000000000000000000000000000000020000000000000c000820c000001009bc04041f33e4103400000000000100000000000000000000008100028000000000000000000000000000000000000000040000001c70c1 0x4000100000000000000000000000000000000000000000000000000000000000000000000000000000000000000020000000000000c000820c000001009bc04041f33e4103400000000000100000000000000000000008100028000000000000000000000000000000000000000040000001c70c1 := Sub.refl _
  unfold execReceiveFrame at h; exact (perform_keeps h (fun _ h => by with_reducible exact receiveFrame_keeps h (subW g)) (subW g)).2

theorem execPauseExpiry_keeps {mac : Nat} {s t : State} (h : execPauseExpiry mac s = .next t) :
     t.pending = s.pending ∧ Kept 0x10040000000000000000000000000000000000000000000000000000000000000000000000000000000004000000082059 s.dev t.dev := by
  have g : Sub 0x10040000000000000000000000000000000000000000000000000000000000000000000000000000000004000000082059 0x10040000000000000000000000000000000000000000000000000000000000000000000000000000000004000000082059 := Sub.refl _
  unfold execPauseExpiry at h; exact (perform_keeps h (fun _ h => by with_reducible exact pauseExpiry_keeps h (subW g)) (subW g)).2

theorem execPauseEnWrite_keeps {mac : Nat} {en : Bool} {s t : State} (h : execPauseEnWrite mac en s = .next t) :
     t.pending = s.pending ∧ Kept 0x18040000000000000000000000000000000000000000000000000000000000000000000000000000000004000000082041 s.dev t.dev := by
  have g : Sub 0x18040000000000000000000000000000000000000000000000000000000000000000000000000000000004000000082041 0x18040000000000000000000000000000000000000000000000000000000000000000000000000000000004000000082041 := Sub.refl _
  unfold execPauseEnWrite at h; exact (perform_keeps h (fun _ h => by with_reducible exact pauseEnWrite_keeps h (subW g)) (subW g)).2

theorem execTransmitFrame_keeps {mac : Nat} {handed : List (Nat × Option Nat)} {s t : State} (h : execTransmitFrame mac handed s = .next t) :
     t.pending = s.pending ∧ Kept 0x40001000000000000000000000000000000000000000000000000000000000000000000000000000000000000000000000000000000000000000000000000000000340200300000000000000000000000000000000000000000000000000000000000000000000000000000000004000000083041 s.dev t.dev := by
  have g : Sub 0x40001000000000000000000000000000000000000000000000000000000000000000000000000000000000000000000000000000000000000000000000000000000340200300000000000000000000000000000000000000000000000000000000000000000000000000000000004000000083041 0x40001000000000000000000000000000000000000000000000000000000000000000000000000000000000000000000000000000000000000000000000000000000340200300000000000000000000000000000000000000000000000000000000000000000000000000000000004000000083041 := Sub.refl _
  unfold execTransmitFrame at h; exact (perform_keeps h (fun _ h => by with_reducible exact sendFrame_keeps h (subW g)) (subW g)).2

theorem execPacketOffer_keeps {entry : Nat} {s t : State} (h : execPacketOffer entry s = .next t) :
     t.pending = s.pending ∧ Kept 0x400010000000000000000000000000000000000000000000000000000000000000000000000000000000000000000000000000000000000000007e10000000000003001003000000000000000000000000000000000000000000000000000000000000000000000000000000000040000000c3059 s.dev t.dev := by
  have g : Sub 0x400010000000000000000000000000000000000000000000000000000000000000000000000000000000000000000000000000000000000000007e10000000000003001003000000000000000000000000000000000000000000000000000000000000000000000000000000000040000000c3059 0x400010000000000000000000000000000000000000000000000000000000000000000000000000000000000000000000000000000000000000007e10000000000003001003000000000000000000000000000000000000000000000000000000000000000000000000000000000040000000c3059 := Sub.refl _
  unfold execPacketOffer at h; exact (perform_keeps h (fun _ h => by with_reducible exact packetOffer_keeps h (subW g)) (subW g)).2

theorem execPacketRelease_keeps {entry : Nat} {s t : State} (h : execPacketRelease entry s = .next t) :
     t.pending = s.pending ∧ Kept 0x4000100000000000000000000000000000000030000000000000000000000000000000000000000000000000000178000000210000fffffffc007e00001403801f0f001003000000000000000000000000000000000008100028000000000000000000000000000000000000000040000005d7059 s.dev t.dev := by
  have g : Sub 0x4000100000000000000000000000000000000030000000000000000000000000000000000000000000000000000178000000210000fffffffc007e00001403801f0f001003000000000000000000000000000000000008100028000000000000000000000000000000000000000040000005d7059 0x4000100000000000000000000000000000000030000000000000000000000000000000000000000000000000000178000000210000fffffffc007e00001403801f0f001003000000000000000000000000000000000008100028000000000000000000000000000000000000000040000005d7059 := Sub.refl _
  unfold execPacketRelease at h; exact (perform_keeps h (fun _ h => by with_reducible exact packetRelease_keeps h (subW g)) (subW g)).2

theorem execOpaqueFlowTimeout_keeps {entry : Nat} {s t : State} (h : execOpaqueFlowTimeout entry s = .next t) :
     t.pending = s.pending ∧ Kept 0x400010000000000000000000000000000000003000000000000000000000000000000000000000000000000000002000000000000000000000000000000003801a0400000000000000000000000000000000000000000810000800000000000000000000000000000000000000004000000447059 s.dev t.dev := by
  have g : Sub 0x400010000000000000000000000000000000003000000000000000000000000000000000000000000000000000002000000000000000000000000000000003801a0400000000000000000000000000000000000000000810000800000000000000000000000000000000000000004000000447059 0x400010000000000000000000000000000000003000000000000000000000000000000000000000000000000000002000000000000000000000000000000003801a0400000000000000000000000000000000000000000810000800000000000000000000000000000000000000004000000447059 := Sub.refl _
  unfold execOpaqueFlowTimeout at h; exact (perform_keeps h (fun _ h => by with_reducible exact opaqueTimeout_keeps h (subW g)) (subW g)).2

theorem execOpaqueMarkerTimeout_keeps {dst : Nat} {s t : State} (h : execOpaqueMarkerTimeout dst s = .next t) :
     t.pending = s.pending ∧ Kept 0x4000000006059 s.dev t.dev := by
  have g : Sub 0x4000000006059 0x4000000006059 := Sub.refl _
  unfold execOpaqueMarkerTimeout at h; exact (perform_keeps h (fun _ h => by with_reducible exact opaqueMarkerTimeout_keeps h (subW g)) (subW g)).2

theorem execReportRepeat_keeps {report : Nat} {s t : State} (h : execReportRepeat report s = .next t) :
     t.pending = s.pending ∧ Kept 0x400000000000000000000000000000000000000000000000000000000000000000000000000000000000000000004000000042059 s.dev t.dev := by
  have g : Sub 0x400000000000000000000000000000000000000000000000000000000000000000000000000000000000000000004000000042059 0x400000000000000000000000000000000000000000000000000000000000000000000000000000000000000000004000000042059 := Sub.refl _
  unfold execReportRepeat at h; exact (perform_keeps h (fun _ h => by with_reducible exact reportRepeat_keeps h (subW g)) (subW g)).2

theorem execSyncOutputFrame_keeps {slot : Nat} {reads : List EccObs} {s t : State} (h : execSyncOutputFrame slot reads s = .next t) :
     t.pending = s.pending ∧ Kept 0x400010000000080000000040000040000000040000000000080000000000000000000000001000002301a21835c07800500004000000000000000000000000000000000000040008000000000000000000000000000008100008000000002000000000000000000000000000000040001020372d9 s.dev t.dev := by
  have g : Sub 0x400010000000080000000040000040000000040000000000080000000000000000000000001000002301a21835c07800500004000000000000000000000000000000000000040008000000000000000000000000000008100008000000002000000000000000000000000000000040001020372d9 0x400010000000080000000040000040000000040000000000080000000000000000000000001000002301a21835c07800500004000000000000000000000000000000000000040008000000000000000000000000000008100008000000002000000000000000000000000000000040001020372d9 := Sub.refl _
  unfold execSyncOutputFrame at h; exact (perform_keeps h (fun _ h => by with_reducible exact syncOutputFrame_keeps h (subW g)) (subW g)).2

theorem execFlip_keeps {head : Nat} {s t : State} (h : execFlip head s = .next t) :
     t.pending = s.pending ∧ Kept 0x800000000000000000000000000000000000000000000000000000000000000000000000000000000000000000000000000000000000000000000000004000000002041 s.dev t.dev := by
  have g : Sub 0x800000000000000000000000000000000000000000000000000000000000000000000000000000000000000000000000000000000000000000000000004000000002041 0x800000000000000000000000000000000000000000000000000000000000000000000000000000000000000000000000000000000000000000000000004000000002041 := Sub.refl _
  unfold execFlip at h; exact (perform_keeps h (fun _ h => by with_reducible exact overlayFlip_keeps h (subW g)) (subW g)).2

theorem execOverlayExchange_keeps {head : Nat} {s t : State} (h : execOverlayExchange head s = .next t) :
     t.pending = s.pending ∧ Kept 0x1800000000000000000000000000000000000000000000000000000000000000000000000000000000000000000000000000000000000000000000000004000000002259 s.dev t.dev := by
  have g : Sub 0x1800000000000000000000000000000000000000000000000000000000000000000000000000000000000000000000000000000000000000000000000004000000002259 0x1800000000000000000000000000000000000000000000000000000000000000000000000000000000000000000000000000000000000000000000000004000000002259 := Sub.refl _
  unfold execOverlayExchange at h; exact (perform_keeps h (fun _ h => by with_reducible exact overlayExchange_keeps h (subW g)) (subW g)).2

theorem execCaptureStart_keeps {picture : Nat} {surf : Nat} {s t : State} (h : execCaptureStart picture surf s = .next t) :
     t.pending = s.pending ∧ Kept 0x4000100000000000000000000000000000000000000000000000000000000000000000000000000000000000000000007c000400000000000000000000000000000000000000000000000000000000000000000000000000000000000000000000000000000000000000000000004000000013041 s.dev t.dev := by
  have g : Sub 0x4000100000000000000000000000000000000000000000000000000000000000000000000000000000000000000000007c000400000000000000000000000000000000000000000000000000000000000000000000000000000000000000000000000000000000000000000000004000000013041 0x4000100000000000000000000000000000000000000000000000000000000000000000000000000000000000000000007c000400000000000000000000000000000000000000000000000000000000000000000000000000000000000000000000000000000000000000000000004000000013041 := Sub.refl _
  unfold execCaptureStart at h; exact (perform_keeps h (fun _ h => by with_reducible exact captureStart_keeps h (subW g)) (subW g)).2

theorem execCaptureDone_keeps {s t : State} (h : execCaptureDone s = .next t) :
     t.pending = s.pending ∧ Kept 0x400010000000000000000000000000000000000000000000000000000000000000000000000000000000000000000000f0000400000000000000000000000000000000000000000000000000000000000000000000000000000000000000000000000000000000000000000000004000000013041 s.dev t.dev := by
  have g : Sub 0x400010000000000000000000000000000000000000000000000000000000000000000000000000000000000000000000f0000400000000000000000000000000000000000000000000000000000000000000000000000000000000000000000000000000000000000000000000004000000013041 0x400010000000000000000000000000000000000000000000000000000000000000000000000000000000000000000000f0000400000000000000000000000000000000000000000000000000000000000000000000000000000000000000000000000000000000000000000000004000000013041 := Sub.refl _
  unfold execCaptureDone at h; exact (perform_keeps h (fun _ h => by with_reducible exact captureDone_keeps h (subW g)) (subW g)).2

theorem execBar2Access_keeps {master : Nat} {off : Nat} {size : Nat} {bytes : Option (List (Nat × Nat))} {s t : State} (h : execBar2Access master off size bytes s = .next t) :
     t.pending = s.pending ∧ Kept 0x1f8100000000000000040001000000000000000000000000000000000000000000000000000000000000000000000000000008000002000000000000200000000000000000000000000000000000000000000000000000000000000000000000000000000000000000000000000000000000000000000004000000033041 s.dev t.dev := by
  have g : Sub 0x1f8100000000000000040001000000000000000000000000000000000000000000000000000000000000000000000000000008000002000000000000200000000000000000000000000000000000000000000000000000000000000000000000000000000000000000000000000000000000000000000004000000033041 0x1f8100000000000000040001000000000000000000000000000000000000000000000000000000000000000000000000000008000002000000000000200000000000000000000000000000000000000000000000000000000000000000000000000000000000000000000000000000000000000000000004000000033041 := Sub.refl _
  unfold execBar2Access at h; exact (perform_keeps h (fun _ h => by with_reducible exact windowAccess_keeps h (subW g)) (subW g)).2

theorem execTrainingSubstepEnd_keeps {ch : Nat} {obs : TrainObs} {s t : State} (h : execTrainingSubstepEnd ch obs s = .next t) :
     t.pending = s.pending ∧ Kept 0x400010000000080000000040000040000000040000000000080000000000000000000000001007f80000421a3000000000000000000000000000000000000000000000000004000800000000000000000000000000000000000000000000200000000000000000000000000000004000100023041 s.dev t.dev := by
  have g : Sub 0x400010000000080000000040000040000000040000000000080000000000000000000000001007f80000421a3000000000000000000000000000000000000000000000000004000800000000000000000000000000000000000000000000200000000000000000000000000000004000100023041 0x400010000000080000000040000040000000040000000000080000000000000000000000001007f80000421a3000000000000000000000000000000000000000000000000004000800000000000000000000000000000000000000000000200000000000000000000000000000004000100023041 := Sub.refl _
  unfold execTrainingSubstepEnd at h; exact (perform_keeps h (fun _ h => by with_reducible exact substepEnd_keeps h (subW g)) (subW g)).2

theorem execSpeedTargetWrite_keeps {ch : Nat} {target : Nat} {s t : State} (h : execSpeedTargetWrite ch target s = .next t) :
     t.pending = s.pending ∧ Kept 0x2e0000000000000000000000000000000000000000000000000000000000000000000000000000000000000000000000000000000000000000000000000000000000004000000022041 s.dev t.dev := by
  have g : Sub 0x2e0000000000000000000000000000000000000000000000000000000000000000000000000000000000000000000000000000000000000000000000000000000000004000000022041 0x2e0000000000000000000000000000000000000000000000000000000000000000000000000000000000000000000000000000000000000000000000000000000000004000000022041 := Sub.refl _
  unfold execSpeedTargetWrite at h; exact (perform_keeps h (fun _ h => by with_reducible exact speedWrite_keeps h (subW g)) (subW g)).2

theorem execChannelStopped_keeps {ch : Nat} {s t : State} (h : execChannelStopped ch s = .next t) :
     t.pending = s.pending ∧ Kept 0x8000000004000004000000004000000000008000000000000000000000000100000000002083000000000000000000000000000000000000000000000000004000800000000000000000000000000000000000000000000200000000000000000000000000000004000100022041 s.dev t.dev := by
  have g : Sub 0x8000000004000004000000004000000000008000000000000000000000000100000000002083000000000000000000000000000000000000000000000000004000800000000000000000000000000000000000000000000200000000000000000000000000000004000100022041 0x8000000004000004000000004000000000008000000000000000000000000100000000002083000000000000000000000000000000000000000000000000004000800000000000000000000000000000000000000000000200000000000000000000000000000004000100022041 := Sub.refl _
  unfold execChannelStopped at h; exact (perform_keeps h (fun _ h => by with_reducible exact channelStopped_keeps h (subW g)) (subW g)).2

theorem execDriftTracking_keeps {ch : Nat} {drift : List Int} {s t : State} (h : execDriftTracking ch drift s = .next t) :
     t.pending = s.pending ∧ Kept 0x40001000000000000000000000000000000000000000000000000000000000000000000000000024000400000000000000000000000000000000000000000000000000000000000000000000000000000000000000000000000000000000000000000000000000000000000000004000000023041 s.dev t.dev := by
  have g : Sub 0x40001000000000000000000000000000000000000000000000000000000000000000000000000024000400000000000000000000000000000000000000000000000000000000000000000000000000000000000000000000000000000000000000000000000000000000000000004000000023041 0x40001000000000000000000000000000000000000000000000000000000000000000000000000024000400000000000000000000000000000000000000000000000000000000000000000000000000000000000000000000000000000000000000000000000000000000000000004000000023041 := Sub.refl _
  unfold execDriftTracking at h; exact (perform_keeps h (fun _ h => by with_reducible exact driftTracking_keeps h (subW g)) (subW g)).2

theorem execIdleTimeout_keeps {ch : Nat} {s t : State} (h : execIdleTimeout ch s = .next t) :
     t.pending = s.pending ∧ Kept 0x2000000000000000000000000000000000000000000000000000000000000000000000000000000000000000000000000000000000000000000000000000000000004000000022059 s.dev t.dev := by
  have g : Sub 0x2000000000000000000000000000000000000000000000000000000000000000000000000000000000000000000000000000000000000000000000000000000000004000000022059 0x2000000000000000000000000000000000000000000000000000000000000000000000000000000000000000000000000000000000000000000000000000000000004000000022059 := Sub.refl _
  unfold execIdleTimeout at h; exact (perform_keeps h (fun _ h => by with_reducible exact idleTimeout_keeps h (subW g)) (subW g)).2

theorem execSelfRefreshEntered_keeps {ch : Nat} {s t : State} (h : execSelfRefreshEntered ch s = .next t) :
     t.pending = s.pending ∧ Kept 0xc000002000000000000000000000000000000000000000000000000000000000000000000000000000000000000000000000000000000000000000000000000000000000004000000022041 s.dev t.dev := by
  have g : Sub 0xc000002000000000000000000000000000000000000000000000000000000000000000000000000000000000000000000000000000000000000000000000000000000000004000000022041 0xc000002000000000000000000000000000000000000000000000000000000000000000000000000000000000000000000000000000000000000000000000000000000000004000000022041 := Sub.refl _
  unfold execSelfRefreshEntered at h; exact (perform_keeps h (fun _ h => by with_reducible exact selfRefreshEntered_keeps h (subW g)) (subW g)).2

theorem execWakeComplete_keeps {ch : Nat} {lanes : List (Nat × Nat)} {s t : State} (h : execWakeComplete ch lanes s = .next t) :
     t.pending = s.pending ∧ Kept 0x4000100000000800000000400000400000000400000000000800000000000000000000000010003b003032197000200050000400000000000000000000000000000000000004000800000000000000000000000000000000000000000000200000000000000000000000000000004000100033041 s.dev t.dev := by
  have g : Sub 0x4000100000000800000000400000400000000400000000000800000000000000000000000010003b003032197000200050000400000000000000000000000000000000000004000800000000000000000000000000000000000000000000200000000000000000000000000000004000100033041 0x4000100000000800000000400000400000000400000000000800000000000000000000000010003b003032197000200050000400000000000000000000000000000000000004000800000000000000000000000000000000000000000000200000000000000000000000000000004000100033041 := Sub.refl _
  unfold execWakeComplete at h; exact (perform_keeps h (fun _ h => by with_reducible exact wakeComplete_keeps h (subW g)) (subW g)).2

theorem execPatrolScrub_keeps {ch : Nat} {ce : Nat} {ues : List Nat} {s t : State} (h : execPatrolScrub ch ce ues s = .next t) :
     t.pending = s.pending ∧ Kept 0x400010000000080000000040000040000000040000000000080000000000000000000000001000002301a21830002000500004000000000000000000000000000000000000040008000000000000000000000000000000000000000000002000000000000000000000000000000040001000330d9 s.dev t.dev := by
  have g : Sub 0x400010000000080000000040000040000000040000000000080000000000000000000000001000002301a21830002000500004000000000000000000000000000000000000040008000000000000000000000000000000000000000000002000000000000000000000000000000040001000330d9 0x400010000000080000000040000040000000040000000000080000000000000000000000001000002301a21830002000500004000000000000000000000000000000000000040008000000000000000000000000000000000000000000002000000000000000000000000000000040001000330d9 := Sub.refl _
  unfold execPatrolScrub at h; exact (perform_keeps h (fun _ h => by with_reducible exact patrolScrub_keeps h (subW g)) (subW g)).2

theorem execRefreshRateRead_keeps {ch : Nat} {rates : List Nat} {high : Bool} {s t : State} (h : execRefreshRateRead ch rates high s = .next t) :
     t.pending = s.pending ∧ Kept 0x40001000000000000000000000000000000000000000000000000000000000000000000000000000c00200000000000000000000000000000000000000000000000000000000000000000000000000000000000000000000000000000000000000000000000000000000000000004000000003041 s.dev t.dev := by
  have g : Sub 0x40001000000000000000000000000000000000000000000000000000000000000000000000000000c00200000000000000000000000000000000000000000000000000000000000000000000000000000000000000000000000000000000000000000000000000000000000000004000000003041 0x40001000000000000000000000000000000000000000000000000000000000000000000000000000c00200000000000000000000000000000000000000000000000000000000000000000000000000000000000000000000000000000000000000000000000000000000000000004000000003041 := Sub.refl _
  unfold execRefreshRateRead at h; exact (perform_keeps h (fun _ h => by with_reducible exact refreshRead_keeps h (subW g)) (subW g)).2

theorem execCommit_keeps {layer : Nat} {s t : State} (h : execCommit layer s = .next t) :
     t.pending = s.pending ∧ Kept 0x40001000000000000000000000000000000000000000000000000180000000000000000000010800000000000000000000000000000000000000000000000000000000000000000000000000000000000000000000000000000000000000000000000000000000000000000000004000000203041 s.dev t.dev := by
  have g : Sub 0x40001000000000000000000000000000000000000000000000000180000000000000000000010800000000000000000000000000000000000000000000000000000000000000000000000000000000000000000000000000000000000000000000000000000000000000000000004000000203041 0x40001000000000000000000000000000000000000000000000000180000000000000000000010800000000000000000000000000000000000000000000000000000000000000000000000000000000000000000000000000000000000000000000000000000000000000000000004000000203041 := Sub.refl _
  unfold execCommit at h; exact (perform_keeps h (fun _ h => by with_reducible exact layerCommit_keeps h (subW g)) (subW g)).2

theorem execLayerInput_keeps {layer : Nat} {us : Nat} {s t : State} (h : execLayerInput layer us s = .next t) :
     t.pending = s.pending ∧ Kept 0x400010000000080000000040000040000000043c0e51800008000783bffffa077ffff4001e38e0000080000037ffffff50000c0000000000000ffffffffffffc600000000004000800000000000001ffbe0000a067f7c18c003ff0000000200000000000000000000000000000004000107677059 s.dev t.dev := by
  have g : Sub 0x400010000000080000000040000040000000043c0e51800008000783bffffa077ffff4001e38e0000080000037ffffff50000c0000000000000ffffffffffffc600000000004000800000000000001ffbe0000a067f7c18c003ff0000000200000000000000000000000000000004000107677059 0x400010000000080000000040000040000000043c0e51800008000783bffffa077ffff4001e38e0000080000037ffffff50000c0000000000000ffffffffffffc600000000004000800000000000001ffbe0000a067f7c18c003ff0000000200000000000000000000000000000004000107677059 := Sub.refl _
  unfold execLayerInput at h; exact (perform_keeps h (fun _ h => by with_reducible exact layerInput_keeps h (subW g)) (subW g)).2

theorem execCommitLanding_keeps {layer : Nat} {s t : State} (h : execCommitLanding layer s = .next t) :
     t.pending = s.pending ∧ Kept 0x400010000000000000000000000000000000000000000000000017fffffffa000000000000046000000000000000000000000000000000000000000000000000000000000000000000000000000000000000000000000000000000000000000000000000000000000000000000004000010203079 s.dev t.dev := by
  have g : Sub 0x400010000000000000000000000000000000000000000000000017fffffffa000000000000046000000000000000000000000000000000000000000000000000000000000000000000000000000000000000000000000000000000000000000000000000000000000000000000004000010203079 0x400010000000000000000000000000000000000000000000000017fffffffa000000000000046000000000000000000000000000000000000000000000000000000000000000000000000000000000000000000000000000000000000000000000000000000000000000000000004000010203079 := Sub.refl _
  unfold execCommitLanding at h; exact (perform_keeps h (fun _ h => by with_reducible exact commitLanding_keeps h (subW g)) (subW g)).2

theorem execShadowWrite_keeps {layer : Nat} {word : Nat} {value : Nat} {s t : State} (h : execShadowWrite layer word value s = .next t) :
     t.pending = s.pending ∧ Kept 0x3fffffffffffffffffffffffffffffffffffffffffffffffffffffffffffffffffffffffffffffffffffffffffffffffffffffffffffffffffffffffffffffffffffffffffffffffffffffffffffffffffffffffffffffffffffffffffffffffffffffffffffffffffffffffffffffffffffffffffffffffffffffffffffffffe632bf863 s.dev t.dev := by
  have g : Sub 0x3fffffffffffffffffffffffffffffffffffffffffffffffffffffffffffffffffffffffffffffffffffffffffffffffffffffffffffffffffffffffffffffffffffffffffffffffffffffffffffffffffffffffffffffffffffffffffffffffffffffffffffffffffffffffffffffffffffffffffffffffffffffffffffffffe632bf863 0x3fffffffffffffffffffffffffffffffffffffffffffffffffffffffffffffffffffffffffffffffffffffffffffffffffffffffffffffffffffffffffffffffffffffffffffffffffffffffffffffffffffffffffffffffffffffffffffffffffffffffffffffffffffffffffffffffffffffffffffffffffffffffffffffffe632bf863 := Sub.refl _
  unfold execShadowWrite at h; exact (perform_keeps h (fun _ h => by with_reducible exact writeWord_keeps h (subW g)) (subW g)).2

theorem execBankProgramWrite_keeps {off : Nat} {value : Nat} {s t : State} (h : execBankProgramWrite off value s = .next t) :
     t.pending = s.pending ∧ Kept 0x3fffffffffffffffffffffffffffffffffffffffffffffffffffffffffffffffffffffffffffffffffffffffffffffffffffffffffffffffffffffffffffffffffffffffffffffffffffffffffffffffffffffffffffffffffffffffffffffffffffffffffffffffffffffffffffffffffffffffffffffffffffffffffffffffe632bf863 s.dev t.dev := by
  have g : Sub 0x3fffffffffffffffffffffffffffffffffffffffffffffffffffffffffffffffffffffffffffffffffffffffffffffffffffffffffffffffffffffffffffffffffffffffffffffffffffffffffffffffffffffffffffffffffffffffffffffffffffffffffffffffffffffffffffffffffffffffffffffffffffffffffffffffe632bf863 0x3fffffffffffffffffffffffffffffffffffffffffffffffffffffffffffffffffffffffffffffffffffffffffffffffffffffffffffffffffffffffffffffffffffffffffffffffffffffffffffffffffffffffffffffffffffffffffffffffffffffffffffffffffffffffffffffffffffffffffffffffffffffffffffffffe632bf863 := Sub.refl _
  unfold execBankProgramWrite at h; exact (perform_keeps h (fun _ h => by with_reducible exact writeWord_keeps h (subW g)) (subW g)).2

theorem execPortFrame_keeps {port : Nat} {frame : PortFrame} {s t : State} (h : execPortFrame port frame s = .next t) :
     t.pending = s.pending ∧ Kept 0x40001000000000000000001f9ff79f9fe001f9c000000000000000000000000000000000000000000000000000002000000000000000000000000000000000000000000000000000000000000000000000000000000008100008000000000000000000000000000000000000000040000108070c1 s.dev t.dev := by
  have g : Sub 0x40001000000000000000001f9ff79f9fe001f9c000000000000000000000000000000000000000000000000000002000000000000000000000000000000000000000000000000000000000000000000000000000000008100008000000000000000000000000000000000000000040000108070c1 0x40001000000000000000001f9ff79f9fe001f9c000000000000000000000000000000000000000000000000000002000000000000000000000000000000000000000000000000000000000000000000000000000000008100008000000000000000000000000000000000000000040000108070c1 := Sub.refl _
  unfold execPortFrame at h; exact (perform_keeps h (fun _ h => by with_reducible exact portFrame_keeps h (subW g)) (subW g)).2

theorem execPortClockLoss_keeps {port : Nat} {s t : State} (h : execPortClockLoss port s = .next t) :
     t.pending = s.pending ∧ Kept 0x400010000000000000000004005684018001d9c00000000000000000000000000000000000000000000000000000200000000000000000000000000000000000000000000000000000000000000000000000000000000810000800000000000000000000000000000000000000004000000807041 s.dev t.dev := by
  have g : Sub 0x400010000000000000000004005684018001d9c00000000000000000000000000000000000000000000000000000200000000000000000000000000000000000000000000000000000000000000000000000000000000810000800000000000000000000000000000000000000004000000807041 0x400010000000000000000004005684018001d9c00000000000000000000000000000000000000000000000000000200000000000000000000000000000000000000000000000000000000000000000000000000000000810000800000000000000000000000000000000000000004000000807041 := Sub.refl _
  unfold execPortClockLoss at h; exact (perform_keeps h (fun _ h => by with_reducible exact portClockLoss_keeps h (subW g)) (subW g)).2

theorem execPortStopComplete_keeps {port : Nat} {s t : State} (h : execPortStopComplete port s = .next t) :
     t.pending = s.pending ∧ Kept 0x4000100000000800000000400016c0008001fc000000000008000000000000000000000000100000000000001000200000000000000000000000000000000000000000000004000800000000000000000000000000000810000800000000200000000000000000000000000000004000100807059 s.dev t.dev := by
  have g : Sub 0x4000100000000800000000400016c0008001fc000000000008000000000000000000000000100000000000001000200000000000000000000000000000000000000000000004000800000000000000000000000000000810000800000000200000000000000000000000000000004000100807059 0x4000100000000800000000400016c0008001fc000000000008000000000000000000000000100000000000001000200000000000000000000000000000000000000000000004000800000000000000000000000000000810000800000000200000000000000000000000000000004000100807059 := Sub.refl _
  unfold execPortStopComplete at h; exact (perform_keeps h (fun _ h => by with_reducible exact portStopComplete_keeps h (subW g)) (subW g)).2

theorem execGainWrite_keeps {node : Nat} {word : Nat} {s t : State} (h : execGainWrite node word s = .next t) :
     t.pending = s.pending ∧ Kept 0x40001000000000000000000000000000000000000000006100000000000000000000000000000000000000000000000000000000000000000000000000000000000000000000000000000000000000000000000000000000000000000000000000000000000000000000000000004000001003041 s.dev t.dev := by
  have g : Sub 0x40001000000000000000000000000000000000000000006100000000000000000000000000000000000000000000000000000000000000000000000000000000000000000000000000000000000000000000000000000000000000000000000000000000000000000000000000004000001003041 0x40001000000000000000000000000000000000000000006100000000000000000000000000000000000000000000000000000000000000000000000000000000000000000000000000000000000000000000000000000000000000000000000000000000000000000000000000004000001003041 := Sub.refl _
  unfold execGainWrite at h; exact (perform_keeps h (fun _ h => by with_reducible exact gainWrite_keeps h (subW g)) (subW g)).2

theorem execBiquadCoefficientWrite_keeps {output : Nat} {biquad : Nat} {coef : Nat} {word : Nat} {s t : State} (h : execBiquadCoefficientWrite output biquad coef word s = .next t) :
     t.pending = s.pending ∧ Kept 0x20000000000000000000000000000000000000000000000000000000000000000000000000000000000000000000000000000000000000000000000000000000000000000000000000000000000000000000000000000000004000001002041 s.dev t.dev := by
  have g : Sub 0x20000000000000000000000000000000000000000000000000000000000000000000000000000000000000000000000000000000000000000000000000000000000000000000000000000000000000000000000000000000004000001002041 0x20000000000000000000000000000000000000000000000000000000000000000000000000000000000000000000000000000000000000000000000000000000000000000000000000000000000000000000000000000000004000001002041 := Sub.refl _
  unfold execBiquadCoefficientWrite at h; exact (perform_keeps h (fun _ h => by with_reducible exact biquadWrite_keeps h (subW g)) (subW g)).2

theorem execGatherStopComplete_keeps {s t : State} (h : execGatherStopComplete s = .next t) :
     t.pending = s.pending ∧ Kept 0x8000000004000004000000004000000000008000000000000000000000000100000000000001000000000000000000000000000000000000000000000000004000800000000000000000000000000000000000000000000200000000000000000000000000000004000101002059 s.dev t.dev := by
  have g : Sub 0x8000000004000004000000004000000000008000000000000000000000000100000000000001000000000000000000000000000000000000000000000000004000800000000000000000000000000000000000000000000200000000000000000000000000000004000101002059 0x8000000004000004000000004000000000008000000000000000000000000100000000000001000000000000000000000000000000000000000000000000004000800000000000000000000000000000000000000000000200000000000000000000000000000004000101002059 := Sub.refl _
  unfold execGatherStopComplete at h; exact (perform_keeps h (fun _ h => by with_reducible exact gatherStopComplete_keeps h (subW g)) (subW g)).2

theorem execSeamFrame_keeps {link : Nat} {lane : Nat} {frame : SeamRx} {s t : State} (h : execSeamFrame link lane frame s = .next t) :
     t.pending = s.pending ∧ Kept 0x4000101c7fe7b00003e0e0000000000000000000000000000000000000000000000000000000000000000000000178000000210000000000000000000000000000000000000000000000001000000000000000000000081000080019a0000000000000000000000000000000000040000020170c1 s.dev t.dev := by
  have g : Sub 0x4000101c7fe7b00003e0e0000000000000000000000000000000000000000000000000000000000000000000000178000000210000000000000000000000000000000000000000000000001000000000000000000000081000080019a0000000000000000000000000000000000040000020170c1 0x4000101c7fe7b00003e0e0000000000000000000000000000000000000000000000000000000000000000000000178000000210000000000000000000000000000000000000000000000001000000000000000000000081000080019a0000000000000000000000000000000000040000020170c1 := Sub.refl _
  unfold execSeamFrame at h; exact (perform_keeps h (fun _ h => by with_reducible exact seamReceives_keeps h (subW g)) (subW g)).2

theorem execSeamFrameTransmit_keeps {link : Nat} {s t : State} (h : execSeamFrameTransmit link s = .next t) :
     t.pending = s.pending ∧ Kept 0x400011810803f00001c0800000000000000000000000000000000000000000000000000000000000000000000000200000000000000000000000000000000000000000000000000000000000000000000000000000000810000800000000000000000000000000000000000000004000102007259 s.dev t.dev := by
  have g : Sub 0x400011810803f00001c0800000000000000000000000000000000000000000000000000000000000000000000000200000000000000000000000000000000000000000000000000000000000000000000000000000000810000800000000000000000000000000000000000000004000102007259 0x400011810803f00001c0800000000000000000000000000000000000000000000000000000000000000000000000200000000000000000000000000000000000000000000000000000000000000000000000000000000810000800000000000000000000000000000000000000004000102007259 := Sub.refl _
  unfold execSeamFrameTransmit at h; exact (perform_keeps h (fun _ h => by with_reducible exact seamFrameTransmit_keeps h (subW g)) (subW g)).2

theorem execTrainingFrame_keeps {link : Nat} {lane : Nat} {frame : TrainRx} {s t : State} (h : execTrainingFrame link lane frame s = .next t) :
     t.pending = s.pending ∧ Kept 0xf800080000000000000000000000000000000000000000000000000000000000000000004000002002041 s.dev t.dev := by
  have g : Sub 0xf800080000000000000000000000000000000000000000000000000000000000000000004000002002041 0xf800080000000000000000000000000000000000000000000000000000000000000000004000002002041 := Sub.refl _
  unfold execTrainingFrame at h; exact (perform_keeps h (fun _ h => by with_reducible exact trainingFrame_keeps h (subW g)) (subW g)).2

theorem execLaneRejoin_keeps {link : Nat} {lane : Nat} {s t : State} (h : execLaneRejoin link lane s = .next t) :
     t.pending = s.pending ∧ Kept 0x400010200803f00001c0800000000000000000000000000000000000000000000000000000000000000000000000200000000000000000000000000000000000000000000000000000000000000000000000000000000810000800000000000000000000000000000000000000004000102007059 s.dev t.dev := by
  have g : Sub 0x400010200803f00001c0800000000000000000000000000000000000000000000000000000000000000000000000200000000000000000000000000000000000000000000000000000000000000000000000000000000810000800000000000000000000000000000000000000004000102007059 0x400010200803f00001c0800000000000000000000000000000000000000000000000000000000000000000000000200000000000000000000000000000000000000000000000000000000000000000000000000000000810000800000000000000000000000000000000000000004000102007059 := Sub.refl _
  unfold execLaneRejoin at h; exact (perform_keeps h (fun _ h => by with_reducible exact laneRejoin_keeps h (subW g)) (subW g)).2

theorem execAck_keeps {link : Nat} {nums : List Nat} {s t : State} (h : execAck link nums s = .next t) :
     t.pending = s.pending ∧ Kept 0x4000002002041 s.dev t.dev := by
  have g : Sub 0x4000002002041 0x4000002002041 := Sub.refl _
  unfold execAck at h; exact (perform_keeps h (fun _ h => by with_reducible exact kept_ite (ackMsgs_keeps h (subW g)) h) (subW g)).2

theorem execForward_keeps {link : Nat} {num : Nat} {input : PInput} {s t : State} (h : execForward link num input s = .next t) :
     t.pending = s.pending ∧ Kept 0x400010000003080983e03040000040000000043c0e51800008000783bffffa077ffff4001e38e0000080000037ffffff50000c0000000000000ffffffffffffc600000000004000800000000000001ffbe0000a06797c18c003ffdf9f0002c0add000000000000000000000000004000107677059 s.dev t.dev := by
  have g : Sub 0x400010000003080983e03040000040000000043c0e51800008000783bffffa077ffff4001e38e0000080000037ffffff50000c0000000000000ffffffffffffc600000000004000800000000000001ffbe0000a06797c18c003ffdf9f0002c0add000000000000000000000000004000107677059 0x400010000003080983e03040000040000000043c0e51800008000783bffffa077ffff4001e38e0000080000037ffffff50000c0000000000000ffffffffffffc600000000004000800000000000001ffbe0000a06797c18c003ffdf9f0002c0add000000000000000000000000004000107677059 := Sub.refl _
  unfold execForward at h; exact (perform_keeps h (fun _ h => by with_reducible exact message_keeps h (subW g)) (subW g)).2

theorem execAnnounce_keeps {link : Nat} {num : Nat} {index : Nat} {instant : Nat} {input : PInput} {s t : State} (h : execAnnounce link num index instant input s = .next t) :
     t.pending = s.pending ∧ Kept 0x400010000003080983e03040000040000000043c0e51800008000783bffffa077ffff4001e38e0000080000037ffffff50000c0000000000000ffffffffffffc600000000004000800000000000001ffbe0000a06797c18c003ffdf9f0002c0add000000000000000000000000004000107677059 s.dev t.dev := by
  have g : Sub 0x400010000003080983e03040000040000000043c0e51800008000783bffffa077ffff4001e38e0000080000037ffffff50000c0000000000000ffffffffffffc600000000004000800000000000001ffbe0000a06797c18c003ffdf9f0002c0add000000000000000000000000004000107677059 0x400010000003080983e03040000040000000043c0e51800008000783bffffa077ffff4001e38e0000080000037ffffff50000c0000000000000ffffffffffffc600000000004000800000000000001ffbe0000a06797c18c003ffdf9f0002c0add000000000000000000000000004000107677059 := Sub.refl _
  unfold execAnnounce at h; exact (perform_keeps h (fun _ h => by with_reducible exact message_keeps h (subW g)) (subW g)).2

theorem execRequest_keeps {link : Nat} {num : Nat} {index : Nat} {s t : State} (h : execRequest link num index s = .next t) :
     t.pending = s.pending ∧ Kept 0x400010000003080983e03040000040000000043c0e51800008000783bffffa077ffff4001e38e0000080000037ffffff50000c0000000000000ffffffffffffc600000000004000800000000000001ffbe0000a06797c18c003ffdf9f0002c0add000000000000000000000000004000107677059 s.dev t.dev := by
  have g : Sub 0x400010000003080983e03040000040000000043c0e51800008000783bffffa077ffff4001e38e0000080000037ffffff50000c0000000000000ffffffffffffc600000000004000800000000000001ffbe0000a06797c18c003ffdf9f0002c0add000000000000000000000000004000107677059 0x400010000003080983e03040000040000000043c0e51800008000783bffffa077ffff4001e38e0000080000037ffffff50000c0000000000000ffffffffffffc600000000004000800000000000001ffbe0000a06797c18c003ffdf9f0002c0add000000000000000000000000004000107677059 := Sub.refl _
  unfold execRequest at h; exact (perform_keeps h (fun _ h => by with_reducible exact message_keeps h (subW g)) (subW g)).2

theorem execDigest_keeps {link : Nat} {num : Nat} {value : Nat} {instant : Nat} {s t : State} (h : execDigest link num value instant s = .next t) :
     t.pending = s.pending ∧ Kept 0x400010000003080983e03040000040000000043c0e51800008000783bffffa077ffff4001e38e0000080000037ffffff50000c0000000000000ffffffffffffc600000000004000800000000000001ffbe0000a06797c18c003ffdf9f0002c0add000000000000000000000000004000107677059 s.dev t.dev := by
  have g : Sub 0x400010000003080983e03040000040000000043c0e51800008000783bffffa077ffff4001e38e0000080000037ffffff50000c0000000000000ffffffffffffc600000000004000800000000000001ffbe0000a06797c18c003ffdf9f0002c0add000000000000000000000000004000107677059 0x400010000003080983e03040000040000000043c0e51800008000783bffffa077ffff4001e38e0000080000037ffffff50000c0000000000000ffffffffffffc600000000004000800000000000001ffbe0000a06797c18c003ffdf9f0002c0add000000000000000000000000004000107677059 := Sub.refl _
  unfold execDigest at h; exact (perform_keeps h (fun _ h => by with_reducible exact message_keeps h (subW g)) (subW g)).2

theorem execTwinSync_keeps {link : Nat} {num : Nat} {choices : List (Nat × Nat)} {seqs : List (Nat × Nat)} {s t : State} (h : execTwinSync link num choices seqs s = .next t) :
     t.pending = s.pending ∧ Kept 0x400010000003080983e03040000040000000043c0e51800008000783bffffa077ffff4001e38e0000080000037ffffff50000c0000000000000ffffffffffffc600000000004000800000000000001ffbe0000a06797c18c003ffdf9f0002c0add000000000000000000000000004000107677059 s.dev t.dev := by
  have g : Sub 0x400010000003080983e03040000040000000043c0e51800008000783bffffa077ffff4001e38e0000080000037ffffff50000c0000000000000ffffffffffffc600000000004000800000000000001ffbe0000a06797c18c003ffdf9f0002c0add000000000000000000000000004000107677059 0x400010000003080983e03040000040000000043c0e51800008000783bffffa077ffff4001e38e0000080000037ffffff50000c0000000000000ffffffffffffc600000000004000800000000000001ffbe0000a06797c18c003ffdf9f0002c0add000000000000000000000000004000107677059 := Sub.refl _
  unfold execTwinSync at h; exact (perform_keeps h (fun _ h => by with_reducible exact message_keeps h (subW g)) (subW g)).2

theorem execState_keeps {link : Nat} {num : Nat} {image : Option StateImage} {s t : State} (h : execState link num image s = .next t) :
     t.pending = s.pending ∧ Kept 0x400010000003080983e03040000040000000043c0e51800008000783bffffa077ffff4001e38e0000080000037ffffff50000c0000000000000ffffffffffffc600000000004000800000000000001ffbe0000a06797c18c003ffdf9f0002c0add000000000000000000000000004000107677059 s.dev t.dev := by
  have g : Sub 0x400010000003080983e03040000040000000043c0e51800008000783bffffa077ffff4001e38e0000080000037ffffff50000c0000000000000ffffffffffffc600000000004000800000000000001ffbe0000a06797c18c003ffdf9f0002c0add000000000000000000000000004000107677059 0x400010000003080983e03040000040000000043c0e51800008000783bffffa077ffff4001e38e0000080000037ffffff50000c0000000000000ffffffffffffc600000000004000800000000000001ffbe0000a06797c18c003ffdf9f0002c0add000000000000000000000000004000107677059 := Sub.refl _
  unfold execState at h; exact (perform_keeps h (fun _ h => by with_reducible exact message_keeps h (subW g)) (subW g)).2

theorem execMessageResend_keeps {link : Nat} {s t : State} (h : execMessageResend link s = .next t) :
     t.pending = s.pending ∧ Kept 0x400010408803f00001c0800000000000000000000000000000000000000000000000000000000000000000000000200000000000000000000000000000000000000000000000000000000000000000000000000000000810000800000000000000000000000000000000000000004000002007059 s.dev t.dev := by
  have g : Sub 0x400010408803f00001c0800000000000000000000000000000000000000000000000000000000000000000000000200000000000000000000000000000000000000000000000000000000000000000000000000000000810000800000000000000000000000000000000000000004000002007059 0x400010408803f00001c0800000000000000000000000000000000000000000000000000000000000000000000000200000000000000000000000000000000000000000000000000000000000000000000000000000000810000800000000000000000000000000000000000000004000002007059 := Sub.refl _
  unfold execMessageResend at h; exact (perform_keeps h (fun _ h => by with_reducible exact messageResend_keeps h (subW g)) (subW g)).2

theorem execTakeover_keeps {s t : State} (h : execTakeover s = .next t) :
     t.pending = s.pending ∧ Kept 0x400010000001080003e02040000040007800043c0e71870009e7e67ffffffafffffff4001e3860000080000037ffffff50000c0000000000000ffffffffffffc600000000004000800000000000001ffbe000000001401acff3ff019e000200000000000000000000000000cc8484000147677059 s.dev t.dev := by
  have g : Sub 0x400010000001080003e02040000040007800043c0e71870009e7e67ffffffafffffff4001e3860000080000037ffffff50000c0000000000000ffffffffffffc600000000004000800000000000001ffbe000000001401acff3ff019e000200000000000000000000000000cc8484000147677059 0x400010000001080003e02040000040007800043c0e71870009e7e67ffffffafffffff4001e3860000080000037ffffff50000c0000000000000ffffffffffffc600000000004000800000000000001ffbe000000001401acff3ff019e000200000000000000000000000000cc8484000147677059 := Sub.refl _
  unfold execTakeover at h; exact (perform_keeps h (fun _ h => by with_reducible exact takeover_keeps h (subW g)) (subW g)).2

theorem execTimeValidExpiry_keeps {s t : State} (h : execTimeValidExpiry s = .next t) :
     t.pending = s.pending ∧ Kept 0x4000002002059 s.dev t.dev := by
  have g : Sub 0x4000002002059 0x4000002002059 := Sub.refl _
  unfold execTimeValidExpiry at h; exact (perform_keeps h (fun _ h => by with_reducible exact timeValidExpiry_keeps h (subW g)) (subW g)).2

theorem execResync_keeps {s t : State} (h : execResync s = .next t) :
     t.pending = s.pending ∧ Kept 0x8000000000000000000000000000000000000000000000000000000000000000000000000000000000000000000000000000000000000000000000000000000000000000000000000000000000000000000000000000000000000000000000000000000000004000002002041 s.dev t.dev := by
  have g : Sub 0x8000000000000000000000000000000000000000000000000000000000000000000000000000000000000000000000000000000000000000000000000000000000000000000000000000000000000000000000000000000000000000000000000000000000004000002002041 0x8000000000000000000000000000000000000000000000000000000000000000000000000000000000000000000000000000000000000000000000000000000000000000000000000000000000000000000000000000000000000000000000000000000000004000002002041 := Sub.refl _
  unfold execResync at h; exact (perform_keeps h (fun _ h => by with_reducible exact resync_keeps h (subW g)) (subW g)).2

theorem execResyncApply_keeps {s t : State} (h : execResyncApply s = .next t) :
     t.pending = s.pending ∧ Kept 0x4000100000000800c0000040000040000000043c0e51800008000603bffffa077ffff4001e3860000080000037ffffff50000c0000000000000ffffffffffffc600000000004000800000000000001ffbe0000a06797c18cff3ffdf84000200ad5000000000000000000000000484000147677059 s.dev t.dev := by
  have g : Sub 0x4000100000000800c0000040000040000000043c0e51800008000603bffffa077ffff4001e3860000080000037ffffff50000c0000000000000ffffffffffffc600000000004000800000000000001ffbe0000a06797c18cff3ffdf84000200ad5000000000000000000000000484000147677059 0x4000100000000800c0000040000040000000043c0e51800008000603bffffa077ffff4001e3860000080000037ffffff50000c0000000000000ffffffffffffc600000000004000800000000000001ffbe0000a06797c18cff3ffdf84000200ad5000000000000000000000000484000147677059 := Sub.refl _
  unfold execResyncApply at h; exact (perform_keeps h (fun _ h => by with_reducible exact resyncApply_keeps h (subW g)) (subW g)).2

theorem execHandover_keeps {s t : State} (h : execHandover s = .next t) :
     t.pending = s.pending ∧ Kept 0x4000002002041 s.dev t.dev := by
  have g : Sub 0x4000002002041 0x4000002002041 := Sub.refl _
  unfold execHandover at h; exact (perform_keeps h (fun _ h => by with_reducible exact handoverAsked_keeps h (subW g)) (subW g)).2

theorem execJournalEntry_keeps {ok : Bool} {s t : State} (h : execJournalEntry ok s = .next t) :
     t.pending = s.pending ∧ Kept 0x40001000000000000000000000000000000000000000000000000000000000000000000000000000000000000000000000000000000000000000000000000000000000000000000000000000000000000000000000000000000000000000000000000000000000000000002028004000070003041 s.dev t.dev := by
  have g : Sub 0x40001000000000000000000000000000000000000000000000000000000000000000000000000000000000000000000000000000000000000000000000000000000000000000000000000000000000000000000000000000000000000000000000000000000000000000002028004000070003041 0x40001000000000000000000000000000000000000000000000000000000000000000000000000000000000000000000000000000000000000000000000000000000000000000000000000000000000000000000000000000000000000000000000000000000000000000002028004000070003041 := Sub.refl _
  unfold execJournalEntry at h; exact (perform_keeps h (fun _ h => by with_reducible exact journalEntry_keeps h (subW g)) (subW g)).2

theorem execCheckpoint_keeps {ok : Bool} {s t : State} (h : execCheckpoint ok s = .next t) :
     t.pending = s.pending ∧ Kept 0x40001000000000000000000000000000000000000000000000000000000000000000000000000000000000000000000000000000000000000000000000000000000000000000000000000000000000000000000000000000000000000000000000000000000000000000002020004000020003041 s.dev t.dev := by
  have g : Sub 0x40001000000000000000000000000000000000000000000000000000000000000000000000000000000000000000000000000000000000000000000000000000000000000000000000000000000000000000000000000000000000000000000000000000000000000000002020004000020003041 0x40001000000000000000000000000000000000000000000000000000000000000000000000000000000000000000000000000000000000000000000000000000000000000000000000000000000000000000000000000000000000000000000000000000000000000000002020004000020003041 := Sub.refl _
  unfold execCheckpoint at h; exact (perform_keeps h (fun _ h => by with_reducible exact checkpoint_keeps h (subW g)) (subW g)).2

theorem execDurabilityLag_keeps {s t : State} (h : execDurabilityLag s = .next t) :
     t.pending = s.pending ∧ Kept 0x40001000000000000000000000000000000000000000000000000000000000000000000000000000000000000000000000000000000000000000000000000000000000000000000000000000000000000000000000000000000000000000000000000000000000000000001000004000040003059 s.dev t.dev := by
  have g : Sub 0x40001000000000000000000000000000000000000000000000000000000000000000000000000000000000000000000000000000000000000000000000000000000000000000000000000000000000000000000000000000000000000000000000000000000000000000001000004000040003059 0x40001000000000000000000000000000000000000000000000000000000000000000000000000000000000000000000000000000000000000000000000000000000000000000000000000000000000000000000000000000000000000000000000000000000000000000001000004000040003059 := Sub.refl _
  unfold execDurabilityLag at h; exact (perform_keeps h (fun _ h => by with_reducible exact durabilityLag_keeps h (subW g)) (subW g)).2

theorem execAttestationStart_keeps {s t : State} (h : execAttestationStart s = .next t) :
     t.pending = s.pending ∧ Kept 0x1c00000000000000000000000000000000000000000000000000000000000000000000000000000000000000000000000000000000000000000000000000000000000000000000000000000000000000000000000000000000000000000000000000000000000000000000000000000004000040002041 s.dev t.dev := by
  have g : Sub 0x1c00000000000000000000000000000000000000000000000000000000000000000000000000000000000000000000000000000000000000000000000000000000000000000000000000000000000000000000000000000000000000000000000000000000000000000000000000000004000040002041 0x1c00000000000000000000000000000000000000000000000000000000000000000000000000000000000000000000000000000000000000000000000000000000000000000000000000000000000000000000000000000000000000000000000000000000000000000000000000000004000040002041 := Sub.refl _
  unfold execAttestationStart at h; exact (perform_keeps h (fun _ h => by with_reducible exact attestStart_keeps h (subW g)) (subW g)).2

theorem execAttestationDone_keeps {s t : State} (h : execAttestationDone s = .next t) :
     t.pending = s.pending ∧ Kept 0xdc00000000000000000000000000000000000000000000000000000000000000000000000000000000000000000000000000000000000000000000000000000000000000000000000000000000000000000000000000000000000000000000000000000000000000000000000000000004000040002041 s.dev t.dev := by
  have g : Sub 0xdc00000000000000000000000000000000000000000000000000000000000000000000000000000000000000000000000000000000000000000000000000000000000000000000000000000000000000000000000000000000000000000000000000000000000000000000000000000004000040002041 0xdc00000000000000000000000000000000000000000000000000000000000000000000000000000000000000000000000000000000000000000000000000000000000000000000000000000000000000000000000000000000000000000000000000000000000000000000000000000004000040002041 := Sub.refl _
  unfold execAttestationDone at h; exact (perform_keeps h (fun _ h => by with_reducible exact attestDone_keeps h (subW g)) (subW g)).2

theorem execOffer_keeps {view : OfferView} {s t : State} (h : execOffer view s = .next t) :
     t.pending = s.pending ∧ Kept 0x30703bffc0000040001000000000000000000000000000000000000000000000000000000000000000000000000000000000000000000000000000000000000000000000000000000000000000000000000000000000000000000000000000000000000000000000000000000000000000000000004000020003041 s.dev t.dev := by
  have g : Sub 0x30703bffc0000040001000000000000000000000000000000000000000000000000000000000000000000000000000000000000000000000000000000000000000000000000000000000000000000000000000000000000000000000000000000000000000000000000000000000000000000000004000020003041 0x30703bffc0000040001000000000000000000000000000000000000000000000000000000000000000000000000000000000000000000000000000000000000000000000000000000000000000000000000000000000000000000000000000000000000000000000000000000000000000000000004000020003041 := Sub.refl _
  unfold execOffer at h; exact (perform_keeps h (fun _ h => by with_reducible exact updOffer_keeps h (subW g)) (subW g)).2

theorem execPut_keeps {fails : Bool} {s t : State} (h : execPut fails s = .next t) :
     t.pending = s.pending ∧ Kept 0x30703fffc0000040001000000000000000000000000000000000000000000000000000000000000000000000000000000000000000000000000000000000000000000000000000000000000000000000000000000000000000000000000000000000000000000000000000000000000000000000004000020003041 s.dev t.dev := by
  have g : Sub 0x30703fffc0000040001000000000000000000000000000000000000000000000000000000000000000000000000000000000000000000000000000000000000000000000000000000000000000000000000000000000000000000000000000000000000000000000000000000000000000000000004000020003041 0x30703fffc0000040001000000000000000000000000000000000000000000000000000000000000000000000000000000000000000000000000000000000000000000000000000000000000000000000000000000000000000000000000000000000000000000000000000000000000000000000004000020003041 := Sub.refl _
  unfold execPut at h; exact (perform_keeps h (fun _ h => by with_reducible exact updPut_keeps h (subW g)) (subW g)).2

theorem execOfferDatagram_keeps {mac : Nat} {addr : Nat} {v6 : Bool} {header : List Nat} {view : OfferView} {s t : State} (h : execOfferDatagram mac addr v6 header view s = .next t) :
     t.pending = s.pending ∧ Kept 0x30003bffc0000040001000000000000000000000000000000000000000000000000000000000000000000000000000000000000000000000000000000000000000000000000000000000000000000000000000000000000000000000000000000000000000000000000000000000000000000000004000028083041 s.dev t.dev := by
  have g : Sub 0x30003bffc0000040001000000000000000000000000000000000000000000000000000000000000000000000000000000000000000000000000000000000000000000000000000000000000000000000000000000000000000000000000000000000000000000000000000000000000000000000004000028083041 0x30003bffc0000040001000000000000000000000000000000000000000000000000000000000000000000000000000000000000000000000000000000000000000000000000000000000000000000000000000000000000000000000000000000000000000000000000000000000000000000000004000028083041 := Sub.refl _
  unfold execOfferDatagram at h; exact (perform_keeps h (fun _ h => by with_reducible exact offerDatagram_keeps h (subW g)) (subW g)).2

theorem execPiece_keeps {digest : Nat} {index : Nat} {bytes : List Nat} {fails : Bool} {s t : State} (h : execPiece digest index bytes fails s = .next t) :
     t.pending = s.pending ∧ Kept 0x30003fffc0000040001000000000000000000000000000000000000000000000000000000000000000000000000000000000000000000000000000000000000000000000000000000000000000000000000000000000000000000000000000000000000000000000000000000000000000000000004000020003041 s.dev t.dev := by
  have g : Sub 0x30003fffc0000040001000000000000000000000000000000000000000000000000000000000000000000000000000000000000000000000000000000000000000000000000000000000000000000000000000000000000000000000000000000000000000000000000000000000000000000000004000020003041 0x30003fffc0000040001000000000000000000000000000000000000000000000000000000000000000000000000000000000000000000000000000000000000000000000000000000000000000000000000000000000000000000000000000000000000000000000000000000000000000000000004000020003041 := Sub.refl _
  unfold execPiece at h; exact (perform_keeps h (fun _ h => by with_reducible exact pieceDatagram_keeps h (subW g)) (subW g)).2

theorem execQuery_keeps {mac : Nat} {addr : Nat} {v6 : Bool} {digest : Nat} {first : Nat} {s t : State} (h : execQuery mac addr v6 digest first s = .next t) :
     t.pending = s.pending ∧ Kept 0x4000008082041 s.dev t.dev := by
  have g : Sub 0x4000008082041 0x4000008082041 := Sub.refl _
  unfold execQuery at h; exact (perform_keeps h (fun _ h => by with_reducible exact queryMessage_keeps h (subW g)) (subW g)).2

theorem execFinalCheckDone_keeps {ok : Bool} {view : PatView} {key : KeyRec} {s t : State} (h : execFinalCheckDone ok view key s = .next t) :
     t.pending = s.pending ∧ Kept 0x30703bffc0000040001000000000000000000000000000000000000000000000000000000000000000000000000000000000000000000000000000000000000000000000000000000000000000000000000000000000000000000000000000000000000000000000000000000000000000000000004000060003041 s.dev t.dev := by
  have g : Sub 0x30703bffc0000040001000000000000000000000000000000000000000000000000000000000000000000000000000000000000000000000000000000000000000000000000000000000000000000000000000000000000000000000000000000000000000000000000000000000000000000000004000060003041 0x30703bffc0000040001000000000000000000000000000000000000000000000000000000000000000000000000000000000000000000000000000000000000000000000000000000000000000000000000000000000000000000000000000000000000000000000000000000000000000000000004000060003041 := Sub.refl _
  unfold execFinalCheckDone at h; exact (perform_keeps h (fun _ h => by with_reducible exact finalCheckDone_keeps h (subW g)) (subW g)).2

theorem execAbort_keeps {s t : State} (h : execAbort s = .next t) :
     t.pending = s.pending ∧ Kept 0x30703bffc0000040001000000000000000000000000000000000000000000000000000000000000000000000000000000000000000000000000000000000000000000000000000000000000000000000000000000000000000000000000000000000000000000000000000000000000000000000004000060003041 s.dev t.dev := by
  have g : Sub 0x30703bffc0000040001000000000000000000000000000000000000000000000000000000000000000000000000000000000000000000000000000000000000000000000000000000000000000000000000000000000000000000000000000000000000000000000000000000000000000000000004000060003041 0x30703bffc0000040001000000000000000000000000000000000000000000000000000000000000000000000000000000000000000000000000000000000000000000000000000000000000000000000000000000000000000000000000000000000000000000000000000000000000000000000004000060003041 := Sub.refl _
  unfold execAbort at h; exact (perform_keeps h (fun _ h => by with_reducible exact updAbort_keeps h (subW g)) (subW g)).2

theorem execSessionExpiry_keeps {s t : State} (h : execSessionExpiry s = .next t) :
     t.pending = s.pending ∧ Kept 0x30003bffc0000040001000000000000000000000000000000000000000000000000000000000000000000000000000000000000000000000000000000000000000000000000000000000000000000000000000000000000000000000000000000000000000000000000000000000000000000000004000060003059 s.dev t.dev := by
  have g : Sub 0x30003bffc0000040001000000000000000000000000000000000000000000000000000000000000000000000000000000000000000000000000000000000000000000000000000000000000000000000000000000000000000000000000000000000000000000000000000000000000000000000004000060003059 0x30003bffc0000040001000000000000000000000000000000000000000000000000000000000000000000000000000000000000000000000000000000000000000000000000000000000000000000000000000000000000000000000000000000000000000000000000000000000000000000000004000060003059 := Sub.refl _
  unfold execSessionExpiry at h; exact (perform_keeps h (fun _ h => by with_reducible exact sessionExpiry_keeps h (subW g)) (subW g)).2

theorem execActivate_keeps {s t : State} (h : execActivate s = .next t) :
     t.pending = s.pending ∧ Kept 0x30703bffd01fb040001000000000000000000000000000000000000000000000000000000000000000000000000000000000000000000000000000000000000000000000000000000000000000000000000000000000000000000000000000000000000000000000000000000000000000000000004000060003041 s.dev t.dev := by
  have g : Sub 0x30703bffd01fb040001000000000000000000000000000000000000000000000000000000000000000000000000000000000000000000000000000000000000000000000000000000000000000000000000000000000000000000000000000000000000000000000000000000000000000000000004000060003041 0x30703bffd01fb040001000000000000000000000000000000000000000000000000000000000000000000000000000000000000000000000000000000000000000000000000000000000000000000000000000000000000000000000000000000000000000000000000000000000000000000000004000060003041 := Sub.refl _
  unfold execActivate at h; exact (perform_keeps h (fun _ h => by with_reducible exact updActivate_keeps h (subW g)) (subW g)).2

theorem execCopyForwardDone_keeps {ok : Bool} {s t : State} (h : execCopyForwardDone ok s = .next t) :
     t.pending = s.pending ∧ Kept 0x30703bffc0000040001000000000000000000000000000000000000000000000000000000000000000000000000000000000000000000000000000000000000000000000000000000000000000000000000000000000000000000000000000000000000000000000000000000000000000000000004000060003041 s.dev t.dev := by
  have g : Sub 0x30703bffc0000040001000000000000000000000000000000000000000000000000000000000000000000000000000000000000000000000000000000000000000000000000000000000000000000000000000000000000000000000000000000000000000000000000000000000000000000000004000060003041 0x30703bffc0000040001000000000000000000000000000000000000000000000000000000000000000000000000000000000000000000000000000000000000000000000000000000000000000000000000000000000000000000000000000000000000000000000000000000000000000000000004000060003041 := Sub.refl _
  unfold execCopyForwardDone at h; exact (perform_keeps h (fun _ h => by with_reducible exact copyForwardDone_keeps h (subW g)) (subW g)).2

theorem execActivationInstant_keeps {s t : State} (h : execActivationInstant s = .next t) :
     t.pending = s.pending ∧ Kept 0x1ffffffffffffffffffffffffffffffff87fffffffffffffffffffffffffffffffffffffffffffffffffffffffffffffffffffffffffffffffffffffffffffffffffffffffffffffffffffffffffffffffffffffffffffffffffffffffffffffffffffffffffffffffffffffffffffffff0000000000000003f1ffffffffff01ffffff5df s.dev t.dev := by
  have g : Sub 0x1ffffffffffffffffffffffffffffffff87fffffffffffffffffffffffffffffffffffffffffffffffffffffffffffffffffffffffffffffffffffffffffffffffffffffffffffffffffffffffffffffffffffffffffffffffffffffffffffffffffffffffffffffffffffffffffffffff0000000000000003f1ffffffffff01ffffff5df 0x1ffffffffffffffffffffffffffffffff87fffffffffffffffffffffffffffffffffffffffffffffffffffffffffffffffffffffffffffffffffffffffffffffffffffffffffffffffffffffffffffffffffffffffffffffffffffffffffffffffffffffffffffffffffffffffffffffff0000000000000003f1ffffffffff01ffffff5df := Sub.refl _
  unfold execActivationInstant at h; exact (perform_keeps h (fun _ h => by with_reducible exact activationInstant_keeps h (subW g)) (subW g)).2

theorem execApprove_keeps {s t : State} (h : execApprove s = .next t) :
     t.pending = s.pending ∧ Kept 0x70000000000000000000000000000000000000000000000000000000000000000000000000000000000000000000000000000000000000000000000000000000000000000000000000000000000000000000000000000000000000000000000000000000000000000000000000000000000000004000040002041 s.dev t.dev := by
  have g : Sub 0x70000000000000000000000000000000000000000000000000000000000000000000000000000000000000000000000000000000000000000000000000000000000000000000000000000000000000000000000000000000000000000000000000000000000000000000000000000000000000004000040002041 0x70000000000000000000000000000000000000000000000000000000000000000000000000000000000000000000000000000000000000000000000000000000000000000000000000000000000000000000000000000000000000000000000000000000000000000000000000000000000000004000040002041 := Sub.refl _
  unfold execApprove at h; exact (perform_keeps h (fun _ h => by with_reducible exact updApprove_keeps h (subW g)) (subW g)).2

theorem execHealthConfirm_keeps {s t : State} (h : execHealthConfirm s = .next t) :
     t.pending = s.pending ∧ Kept 0x70003bffd01fb040001000000000000000000000000000000000000000000000000000000000000000000000000000000000000000000000000000000000000000000000000000000000000000000000000000000000000000000000000000000000000000000000000000000000000000000000004000060003041 s.dev t.dev := by
  have g : Sub 0x70003bffd01fb040001000000000000000000000000000000000000000000000000000000000000000000000000000000000000000000000000000000000000000000000000000000000000000000000000000000000000000000000000000000000000000000000000000000000000000000000004000060003041 0x70003bffd01fb040001000000000000000000000000000000000000000000000000000000000000000000000000000000000000000000000000000000000000000000000000000000000000000000000000000000000000000000000000000000000000000000000000000000000000000000000004000060003041 := Sub.refl _
  unfold execHealthConfirm at h; exact (perform_keeps h (fun _ h => by with_reducible exact healthConfirm_keeps h (subW g)) (subW g)).2

theorem execHealthWindowExpiry_keeps {s t : State} (h : execHealthWindowExpiry s = .next t) :
     t.pending = s.pending ∧ Kept 0x1ffffffffffffffffffffffffffffffff87fffffffffffffffffffffffffffffffffffffffffffffffffffffffffffffffffffffffffffffffffffffffffffffffffffffffffffffffffffffffffffffffffffffffffffffffffffffffffffffffffffffffffffffffffffffffffffffff0000000000000003f1ffffffffff01ffffff5df s.dev t.dev := by
  have g : Sub 0x1ffffffffffffffffffffffffffffffff87fffffffffffffffffffffffffffffffffffffffffffffffffffffffffffffffffffffffffffffffffffffffffffffffffffffffffffffffffffffffffffffffffffffffffffffffffffffffffffffffffffffffffffffffffffffffffffffff0000000000000003f1ffffffffff01ffffff5df 0x1ffffffffffffffffffffffffffffffff87fffffffffffffffffffffffffffffffffffffffffffffffffffffffffffffffffffffffffffffffffffffffffffffffffffffffffffffffffffffffffffffffffffffffffffffffffffffffffffffffffffffffffffffffffffffffffffffff0000000000000003f1ffffffffff01ffffff5df := Sub.refl _
  unfold execHealthWindowExpiry at h; exact (perform_keeps h (fun _ h => by with_reducible exact windowExpiry_keeps h (subW g)) (subW g)).2

theorem execUnlock_keeps {word : Nat} {s t : State} (h : execUnlock word s = .next t) :
     t.pending = s.pending ∧ Kept 0x1ffffffffffffffffffffffffffffffff87fffffffffffffffffffffffffffffffffffffffffffffffffffffffffffffffffffffffffffffffffffffffffffffffffffffffffffffffffffffffffffffffffffffffffffffffffffffffffffffffffffffffffffffffffffffffffffffff0000000000000003f1ffffffffff01ffffff5e7 s.dev t.dev := by
  have g : Sub 0x1ffffffffffffffffffffffffffffffff87fffffffffffffffffffffffffffffffffffffffffffffffffffffffffffffffffffffffffffffffffffffffffffffffffffffffffffffffffffffffffffffffffffffffffffffffffffffffffffffffffffffffffffffffffffffffffffffff0000000000000003f1ffffffffff01ffffff5e7 0x1ffffffffffffffffffffffffffffffff87fffffffffffffffffffffffffffffffffffffffffffffffffffffffffffffffffffffffffffffffffffffffffffffffffffffffffffffffffffffffffffffffffffffffffffffffffffffffffffffffffffffffffffffffffffffffffffffff0000000000000003f1ffffffffff01ffffff5e7 := Sub.refl _
  unfold execUnlock at h; exact (perform_keeps h (fun _ h => by with_reducible exact unlockWord_keeps h (subW g)) (subW g)).2

theorem execTestEnFall_keeps {cut : Option Cut} {s t : State} (h : execTestEnFall cut s = .next t) :
     t.pending = s.pending ∧ Kept 0x10f8400000000000000040001000000000000000000000000000000000000000000000000000000000000000000000000000000000000000000000000000000000000000000000000000000000000000000000000000000000000000000000000000000000000000000000000000000000000000000000004000040003441 s.dev t.dev := by
  have g : Sub 0x10f8400000000000000040001000000000000000000000000000000000000000000000000000000000000000000000000000000000000000000000000000000000000000000000000000000000000000000000000000000000000000000000000000000000000000000000000000000000000000000000004000040003441 0x10f8400000000000000040001000000000000000000000000000000000000000000000000000000000000000000000000000000000000000000000000000000000000000000000000000000000000000000000000000000000000000000000000000000000000000000000000000000000000000000000004000040003441 := Sub.refl _
  unfold execTestEnFall at h; exact (perform_keeps h (fun _ h => by with_reducible exact testEnFalls_keeps h (subW g)) (subW g)).2

theorem execUnlockTimeout_keeps {s t : State} (h : execUnlockTimeout s = .next t) :
     t.pending = s.pending ∧ Kept 0x4000040002059 s.dev t.dev := by
  have g : Sub 0x4000040002059 0x4000040002059 := Sub.refl _
  unfold execUnlockTimeout at h; exact (perform_keeps h (fun _ h => by with_reducible exact unlockTimeout_keeps h (subW g)) (subW g)).2

theorem execRegisterWrite_keeps {master : Nat} {off : Nat} {beats : List Beat} {blt : BltObs} {s t : State} (h : execRegisterWrite master off beats blt s = .next t) :
     t.pending = s.pending ∧ Kept 0x3fffffffffffffffffffffffffffffffffffffffffffffffffffffffffffffffffffffffffffffffffffffffffffffffffffffffffffffffffffffffffffffffffffffffffffffffffffffffffffffffffffffffffffffffffffffffffffffffffffffffffffffffffffffffffffffffffffffffffffffffffffffffffffffffe632bf87b s.dev t.dev := by
  have g : Sub 0x3fffffffffffffffffffffffffffffffffffffffffffffffffffffffffffffffffffffffffffffffffffffffffffffffffffffffffffffffffffffffffffffffffffffffffffffffffffffffffffffffffffffffffffffffffffffffffffffffffffffffffffffffffffffffffffffffffffffffffffffffffffffffffffffffe632bf87b 0x3fffffffffffffffffffffffffffffffffffffffffffffffffffffffffffffffffffffffffffffffffffffffffffffffffffffffffffffffffffffffffffffffffffffffffffffffffffffffffffffffffffffffffffffffffffffffffffffffffffffffffffffffffffffffffffffffffffffffffffffffffffffffffffffffe632bf87b := Sub.refl _
  unfold execRegisterWrite at h; exact (perform_keeps h (fun _ h => by with_reducible exact hostWrite_keeps (bltChecked_keeps h (subW g)) (subW g)) (subW g)).2

theorem execClearOnRead_keeps {master : Nat} {off : Nat} {words : Nat} {enabled : Bool} {parity : Bool} {blt : BltObs} {s t : State} (h : execClearOnRead master off words enabled parity blt s = .next t) :
     t.pending = s.pending ∧ Kept 0x3fffffffffffffffffffffffffffffffffffffffffffffffffffffffffffffffffffffffffffffffffffffffffffffffffffffffffffffffffffffffffffffffffffffffffffffffffffffffffffffffffffffffffffffffffffffffffffffffffffffffffffffffffffffffffffffffffffffffffffffffffffffffffffffffe0000307d s.dev t.dev := by
  have g : Sub 0x3fffffffffffffffffffffffffffffffffffffffffffffffffffffffffffffffffffffffffffffffffffffffffffffffffffffffffffffffffffffffffffffffffffffffffffffffffffffffffffffffffffffffffffffffffffffffffffffffffffffffffffffffffffffffffffffffffffffffffffffffffffffffffffffffe0000307d 0x3fffffffffffffffffffffffffffffffffffffffffffffffffffffffffffffffffffffffffffffffffffffffffffffffffffffffffffffffffffffffffffffffffffffffffffffffffffffffffffffffffffffffffffffffffffffffffffffffffffffffffffffffffffffffffffffffffffffffffffffffffffffffffffffffe0000307d := Sub.refl _
  unfold execClearOnRead at h; exact (perform_keeps h (fun _ h => by with_reducible exact hostRead_keeps (bltChecked_keeps h (subW g)) (subW g)) (subW g)).2

theorem execSnapshotRead_keeps {master : Nat} {off : Nat} {words : Nat} {enabled : Bool} {parity : Bool} {blt : BltObs} {s t : State} (h : execSnapshotRead master off words enabled parity blt s = .next t) :
     t.pending = s.pending ∧ Kept 0x3fffffffffffffffffffffffffffffffffffffffffffffffffffffffffffffffffffffffffffffffffffffffffffffffffffffffffffffffffffffffffffffffffffffffffffffffffffffffffffffffffffffffffffffffffffffffffffffffffffffffffffffffffffffffffffffffffffffffffffffffffffffffffffffffe0000307d s.dev t.dev := by
  have g : Sub 0x3fffffffffffffffffffffffffffffffffffffffffffffffffffffffffffffffffffffffffffffffffffffffffffffffffffffffffffffffffffffffffffffffffffffffffffffffffffffffffffffffffffffffffffffffffffffffffffffffffffffffffffffffffffffffffffffffffffffffffffffffffffffffffffffffe0000307d 0x3fffffffffffffffffffffffffffffffffffffffffffffffffffffffffffffffffffffffffffffffffffffffffffffffffffffffffffffffffffffffffffffffffffffffffffffffffffffffffffffffffffffffffffffffffffffffffffffffffffffffffffffffffffffffffffffffffffffffffffffffffffffffffffffffe0000307d := Sub.refl _
  unfold execSnapshotRead at h; exact (perform_keeps h (fun _ h => by with_reducible exact hostRead_keeps (bltChecked_keeps h (subW g)) (subW g)) (subW g)).2

theorem execAccessTimeout_keeps {master : Nat} {off : Nat} {target : Nat} {write : Bool} {late : List Nat} {s t : State} (h : execAccessTimeout master off target write late s = .next t) :
     t.pending = s.pending ∧ Kept 0x3fffffffffffffffffffffffffffffffffffffffffffffffffffffffffffffffffffffffffffffffffffffffffffffffffffffffffffffffffffffffffffffffffffffffffffffffffffffffffffffffffffffffffffffffffffffffffffffffffffffffffffffffffffffffffffffffffffffffffffffffffffffffffffffffe632bf87b s.dev t.dev := by
  have g : Sub 0x3fffffffffffffffffffffffffffffffffffffffffffffffffffffffffffffffffffffffffffffffffffffffffffffffffffffffffffffffffffffffffffffffffffffffffffffffffffffffffffffffffffffffffffffffffffffffffffffffffffffffffffffffffffffffffffffffffffffffffffffffffffffffffffffffe632bf87b 0x3fffffffffffffffffffffffffffffffffffffffffffffffffffffffffffffffffffffffffffffffffffffffffffffffffffffffffffffffffffffffffffffffffffffffffffffffffffffffffffffffffffffffffffffffffffffffffffffffffffffffffffffffffffffffffffffffffffffffffffffffffffffffffffffffe632bf87b := Sub.refl _
  unfold execAccessTimeout at h; exact (perform_keeps h (fun _ h => by with_reducible exact accessTimesOut_keeps h (subW g)) (subW g)).2

theorem execPciePerstN_keeps {low : Bool} {cut : Option Cut} {s t : State} (h : execPciePerstN low cut s = .next t) :
     t.pending = s.pending ∧ Kept 0x10f840000000000000004000100000000000000000000000000000000000000000000000000000000000000000000000000000000000000000000000000000000000000000000000000000000000000000000000000000000000000000000000000000000000000000000000000000000000000000000000d3fe008003441 s.dev t.dev := by
  have g : Sub 0x10f840000000000000004000100000000000000000000000000000000000000000000000000000000000000000000000000000000000000000000000000000000000000000000000000000000000000000000000000000000000000000000000000000000000000000000000000000000000000000000000d3fe008003441 0x10f840000000000000004000100000000000000000000000000000000000000000000000000000000000000000000000000000000000000000000000000000000000000000000000000000000000000000000000000000000000000000000000000000000000000000000000000000000000000000000000d3fe008003441 := Sub.refl _
  unfold execPciePerstN at h; exact (performAlways_keeps h (fun _ h => by with_reducible exact perstPin_keeps h (subW g)) (subW g)).2

theorem execHotReset_keeps {hot : Bool} {cut : Option Cut} {s t : State} (h : execHotReset hot cut s = .next t) :
     t.pending = s.pending ∧ Kept 0x10f840000000000000004000100000000000000000000000000000000000000000000000000000000000000000000000000000000000000000000000000000000000000000000000000000000000000000000000000000000000000000000000000000000000000000000000000000000000000000000000d9fe000003041 s.dev t.dev := by
  have g : Sub 0x10f840000000000000004000100000000000000000000000000000000000000000000000000000000000000000000000000000000000000000000000000000000000000000000000000000000000000000000000000000000000000000000000000000000000000000000000000000000000000000000000d9fe000003041 0x10f840000000000000004000100000000000000000000000000000000000000000000000000000000000000000000000000000000000000000000000000000000000000000000000000000000000000000000000000000000000000000000000000000000000000000000000000000000000000000000000d9fe000003041 := Sub.refl _
  unfold execHotReset at h; exact (perform_keeps h (fun _ h => by with_reducible exact hotReset_keeps h (subW g)) (subW g)).2

theorem execFunctionLevelReset_keeps {cut : Option Cut} {s t : State} (h : execFunctionLevelReset cut s = .next t) :
     t.pending = s.pending ∧ Kept 0x10f840000000000000004000100000000000000000000000000000000000000000000000000000000000000000000000000000000000000000000000000000000000000000000000000000000000000000000000000000000000000000000000000000000000000000000000000000000000000000000000c4f0000003041 s.dev t.dev := by
  have g : Sub 0x10f840000000000000004000100000000000000000000000000000000000000000000000000000000000000000000000000000000000000000000000000000000000000000000000000000000000000000000000000000000000000000000000000000000000000000000000000000000000000000000000c4f0000003041 0x10f840000000000000004000100000000000000000000000000000000000000000000000000000000000000000000000000000000000000000000000000000000000000000000000000000000000000000000000000000000000000000000000000000000000000000000000000000000000000000000000c4f0000003041 := Sub.refl _
  unfold execFunctionLevelReset at h; exact (perform_keeps h (fun _ h => by with_reducible exact functionReset_keeps h (subW g)) (subW g)).2

theorem execHoldoffEnd_keeps {vector : Nat} {s t : State} (h : execHoldoffEnd vector s = .next t) :
     t.pending = s.pending ∧ Kept 0x4000000002059 s.dev t.dev := by
  have g : Sub 0x4000000002059 0x4000000002059 := Sub.refl _
  unfold execHoldoffEnd at h; exact (perform_keeps h (fun _ h => by with_reducible exact holdoffEnd_keeps h (subW g)) (subW g)).2

theorem execVectorUnmask_keeps {vector : Option Nat} {s t : State} (h : execVectorUnmask vector s = .next t) :
     t.pending = s.pending ∧ Kept 0x4040000002041 s.dev t.dev := by
  have g : Sub 0x4040000002041 0x4040000002041 := Sub.refl _
  unfold execVectorUnmask at h; exact (perform_keeps h (fun _ h => by with_reducible exact vectorUnmask_keeps h (subW g)) (subW g)).2

theorem execControlRequest_keeps {request : CtlReq} {s t : State} (h : execControlRequest request s = .next t) :
     t.pending = s.pending ∧ Kept 0x3fffffffffffffffffffffffffffffffffffffffffffffffffffffffffffffffffffffffffffffffffffffffffffffffffffffffffffffffffffffffffffffffffffffffffffffffffffffffffffffffffffffffffffffffffffffffffffffffffffffffffffffffffffffffffffffffffffffffffffffffffffffffffffffffe6b2bf8ff s.dev t.dev := by
  have g : Sub 0x3fffffffffffffffffffffffffffffffffffffffffffffffffffffffffffffffffffffffffffffffffffffffffffffffffffffffffffffffffffffffffffffffffffffffffffffffffffffffffffffffffffffffffffffffffffffffffffffffffffffffffffffffffffffffffffffffffffffffffffffffffffffffffffffffe6b2bf8ff 0x3fffffffffffffffffffffffffffffffffffffffffffffffffffffffffffffffffffffffffffffffffffffffffffffffffffffffffffffffffffffffffffffffffffffffffffffffffffffffffffffffffffffffffffffffffffffffffffffffffffffffffffffffffffffffffffffffffffffffffffffffffffffffffffffffe6b2bf8ff := Sub.refl _
  unfold execControlRequest at h; exact (perform_keeps h (fun _ h => by with_reducible exact controlRequest_keeps h (subW g)) (subW g)).2

theorem execRead_keeps {off : Nat} {words : Nat} {s t : State} (h : execRead off words s = .next t) :
     t.pending = s.pending ∧ Kept 0x3fffffffffffffffffffffffffffffffffffffffffffffffffffffffffffffffffffffffffffffffffffffffffffffffffffffffffffffffffffffffffffffffffffffffffffffffffffffffffffffffffffffffffffffffffffffffffffffffffffffffffffffffffffffffffffffffffffffffffffffffffffffffffffffffe632bf87f s.dev t.dev := by
  have g : Sub 0x3fffffffffffffffffffffffffffffffffffffffffffffffffffffffffffffffffffffffffffffffffffffffffffffffffffffffffffffffffffffffffffffffffffffffffffffffffffffffffffffffffffffffffffffffffffffffffffffffffffffffffffffffffffffffffffffffffffffffffffffffffffffffffffffffe632bf87f 0x3fffffffffffffffffffffffffffffffffffffffffffffffffffffffffffffffffffffffffffffffffffffffffffffffffffffffffffffffffffffffffffffffffffffffffffffffffffffffffffffffffffffffffffffffffffffffffffffffffffffffffffffffffffffffffffffffffffffffffffffffffffffffffffffffe632bf87f := Sub.refl _
  unfold execRead at h; exact (perform_keeps h (fun _ h => by with_reducible exact singleOp_keeps h (subW g)) (subW g)).2

theorem execWrite_keeps {off : Nat} {data : List Nat} {s t : State} (h : execWrite off data s = .next t) :
     t.pending = s.pending ∧ Kept 0x3fffffffffffffffffffffffffffffffffffffffffffffffffffffffffffffffffffffffffffffffffffffffffffffffffffffffffffffffffffffffffffffffffffffffffffffffffffffffffffffffffffffffffffffffffffffffffffffffffffffffffffffffffffffffffffffffffffffffffffffffffffffffffffffffe632bf87f s.dev t.dev := by
  have g : Sub 0x3fffffffffffffffffffffffffffffffffffffffffffffffffffffffffffffffffffffffffffffffffffffffffffffffffffffffffffffffffffffffffffffffffffffffffffffffffffffffffffffffffffffffffffffffffffffffffffffffffffffffffffffffffffffffffffffffffffffffffffffffffffffffffffffffe632bf87f 0x3fffffffffffffffffffffffffffffffffffffffffffffffffffffffffffffffffffffffffffffffffffffffffffffffffffffffffffffffffffffffffffffffffffffffffffffffffffffffffffffffffffffffffffffffffffffffffffffffffffffffffffffffffffffffffffffffffffffffffffffffffffffffffffffffe632bf87f := Sub.refl _
  unfold execWrite at h; exact (perform_keeps h (fun _ h => by with_reducible exact singleOp_keeps h (subW g)) (subW g)).2

theorem execWinRead_keeps {off : Nat} {words : Nat} {s t : State} (h : execWinRead off words s = .next t) :
     t.pending = s.pending ∧ Kept 0x3fffffffffffffffffffffffffffffffffffffffffffffffffffffffffffffffffffffffffffffffffffffffffffffffffffffffffffffffffffffffffffffffffffffffffffffffffffffffffffffffffffffffffffffffffffffffffffffffffffffffffffffffffffffffffffffffffffffffffffffffffffffffffffffffe632bf87f s.dev t.dev := by
  have g : Sub 0x3fffffffffffffffffffffffffffffffffffffffffffffffffffffffffffffffffffffffffffffffffffffffffffffffffffffffffffffffffffffffffffffffffffffffffffffffffffffffffffffffffffffffffffffffffffffffffffffffffffffffffffffffffffffffffffffffffffffffffffffffffffffffffffffffe632bf87f 0x3fffffffffffffffffffffffffffffffffffffffffffffffffffffffffffffffffffffffffffffffffffffffffffffffffffffffffffffffffffffffffffffffffffffffffffffffffffffffffffffffffffffffffffffffffffffffffffffffffffffffffffffffffffffffffffffffffffffffffffffffffffffffffffffffe632bf87f := Sub.refl _
  unfold execWinRead at h; exact (perform_keeps h (fun _ h => by with_reducible exact singleOp_keeps h (subW g)) (subW g)).2

theorem execWinWrite_keeps {off : Nat} {data : List Nat} {s t : State} (h : execWinWrite off data s = .next t) :
     t.pending = s.pending ∧ Kept 0x3fffffffffffffffffffffffffffffffffffffffffffffffffffffffffffffffffffffffffffffffffffffffffffffffffffffffffffffffffffffffffffffffffffffffffffffffffffffffffffffffffffffffffffffffffffffffffffffffffffffffffffffffffffffffffffffffffffffffffffffffffffffffffffffffe632bf87f s.dev t.dev := by
  have g : Sub 0x3fffffffffffffffffffffffffffffffffffffffffffffffffffffffffffffffffffffffffffffffffffffffffffffffffffffffffffffffffffffffffffffffffffffffffffffffffffffffffffffffffffffffffffffffffffffffffffffffffffffffffffffffffffffffffffffffffffffffffffffffffffffffffffffffe632bf87f 0x3fffffffffffffffffffffffffffffffffffffffffffffffffffffffffffffffffffffffffffffffffffffffffffffffffffffffffffffffffffffffffffffffffffffffffffffffffffffffffffffffffffffffffffffffffffffffffffffffffffffffffffffffffffffffffffffffffffffffffffffffffffffffffffffffe632bf87f := Sub.refl _
  unfold execWinWrite at h; exact (perform_keeps h (fun _ h => by with_reducible exact singleOp_keeps h (subW g)) (subW g)).2

theorem execReceiverLock_keeps {lane : Nat} {freq : Int} {ctle : Nat} {snr : Nat} {dfe : Nat} {s t : State} (h : execReceiverLock lane freq ctle snr dfe s = .next t) :
     t.pending = s.pending ∧ Kept 0xc000100000000000000000000000000000000000000000000000000000000000000000000000000000000000000000000000000000000000000000000000000000000000000000007c07002298c000000000000000000000000000000000000000000000000000000000000000004000000003041 s.dev t.dev := by
  have g : Sub 0xc000100000000000000000000000000000000000000000000000000000000000000000000000000000000000000000000000000000000000000000000000000000000000000000007c07002298c000000000000000000000000000000000000000000000000000000000000000004000000003041 0xc000100000000000000000000000000000000000000000000000000000000000000000000000000000000000000000000000000000000000000000000000000000000000000000007c07002298c000000000000000000000000000000000000000000000000000000000000000004000000003041 := Sub.refl _
  unfold execReceiverLock at h; exact (perform_keeps h (fun _ h => by with_reducible exact receiverLock_keeps h (subW g)) (subW g)).2

theorem execUpdRevert_keeps {s t : State} (h : execUpdRevert s = .next t) :
     t.pending = s.pending ∧ Kept 0x70000000000000000000000000000000000000000000000000000000000000000000000000000000000000000000000000000000000000000000000000000000000000000000000000000000000000000000000000000000000000000000000000000000000000000000000000000000000000004000040002041 s.dev t.dev := by
  have g : Sub 0x70000000000000000000000000000000000000000000000000000000000000000000000000000000000000000000000000000000000000000000000000000000000000000000000000000000000000000000000000000000000000000000000000000000000000000000000000000000000000004000040002041 0x70000000000000000000000000000000000000000000000000000000000000000000000000000000000000000000000000000000000000000000000000000000000000000000000000000000000000000000000000000000000000000000000000000000000000000000000000000000000000004000040002041 := Sub.refl _
  unfold execUpdRevert at h; exact (perform_keeps h (fun _ h => by with_reducible exact updRevert_keeps h (subW g)) (subW g)).2

theorem execSupplyRecovery_keeps {memberId : Nat} {s t : State} (h : execSupplyRecovery memberId s = .next t) :
     t.pending = s.pending ∧ Kept 0x3ffffffffffffffffffffffffffffffffffffffffffffffffffffffffffffffffffffffffffffffffffffffffffffffffffffffffffffffffffffffffffffffffffffffffffffffffffffffffffffffffffffffffffffffffffffffffffffffffffffffffffffffffffffffffffffffffffffffffffffffffffffffffffffffffdfffffdf s.dev t.dev := by
  have g : Sub 0x3ffffffffffffffffffffffffffffffffffffffffffffffffffffffffffffffffffffffffffffffffffffffffffffffffffffffffffffffffffffffffffffffffffffffffffffffffffffffffffffffffffffffffffffffffffffffffffffffffffffffffffffffffffffffffffffffffffffffffffffffffffffffffffffffffdfffffdf 0x3ffffffffffffffffffffffffffffffffffffffffffffffffffffffffffffffffffffffffffffffffffffffffffffffffffffffffffffffffffffffffffffffffffffffffffffffffffffffffffffffffffffffffffffffffffffffffffffffffffffffffffffffffffffffffffffffffffffffffffffffffffffffffffffffffdfffffdf := Sub.refl _
  unfold execSupplyRecovery at h; exact (performAlways_keeps h (fun _ h => by with_reducible exact supplyReturns_keeps h (subW g)) (subW g)).2

theorem execConfigurationRequest_keeps {set : Option (Bool × Bool × Bool × Bool)} {s t : State} (h : execConfigurationRequest set s = .next t) :
     t.pending = s.pending ∧ Kept 0x40f0000002041 s.dev t.dev := by
  have g : Sub 0x40f0000002041 0x40f0000002041 := Sub.refl _
  unfold execConfigurationRequest at h; exact (perform_keeps h (fun _ h => by with_reducible exact configRequest_keeps h (subW g)) (subW g)).2

theorem execPcieLinkUp_keeps {speed : Nat} {width : Nat} {s t : State} (h : execPcieLinkUp speed width s = .next t) :
     t.pending = s.pending ∧ Kept 0x400e000002041 s.dev t.dev := by
  have g : Sub 0x400e000002041 0x400e000002041 := Sub.refl _
  unfold execPcieLinkUp at h; exact (perform_keeps h (fun _ h => by with_reducible exact linkTrains_keeps h (subW g)) (subW g)).2

theorem execShutDownFinished_keeps {seam : Bool} {number : Nat} {s t : State} (h : execShutDownFinished seam number s = .next t) :
     t.pending = s.pending ∧ Kept 0x8000000004000004000000004000000000008000000000000000000000000100000000000001000000000000000000000000000000000000000000000000004000800000000000000000000000000000000000000000000200000000000000000000000000000004000100002041 s.dev t.dev := by
  have g : Sub 0x8000000004000004000000004000000000008000000000000000000000000100000000000001000000000000000000000000000000000000000000000000004000800000000000000000000000000000000000000000000200000000000000000000000000000004000100002041 0x8000000004000004000000004000000000008000000000000000000000000100000000000001000000000000000000000000000000000000000000000000004000800000000000000000000000000000000000000000000200000000000000000000000000000004000100002041 := Sub.refl _
  unfold execShutDownFinished at h; exact (perform_keeps h (fun _ h => by with_reducible exact kept_ite (seamStopped_keeps h (subW g)) (macStopped_keeps h (subW g))) (subW g)).2

theorem execTestReset_keeps {cut : Option Cut} {s t : State} (h : execTestReset cut s = .next t) :
     t.pending = s.pending ∧ Kept 0x10f8400000000000000040001000000000000000000000000000000000000000000000000000000000000000000000000000000000000000000000000000000000000000000000000000000000000000000000000000000000000000000000000000000000000000000000000000000000000000000000004000000003041 s.dev t.dev := by
  have g : Sub 0x10f8400000000000000040001000000000000000000000000000000000000000000000000000000000000000000000000000000000000000000000000000000000000000000000000000000000000000000000000000000000000000000000000000000000000000000000000000000000000000000000004000000003041 0x10f8400000000000000040001000000000000000000000000000000000000000000000000000000000000000000000000000000000000000000000000000000000000000000000000000000000000000000000000000000000000000000000000000000000000000000000000000000000000000000000004000000003041 := Sub.refl _
  unfold execTestReset at h; exact (perform_keeps h (fun _ h => by with_reducible exact cutBurst_keeps h (subW g)) (subW g)).2

end Sys2Proof.Machine
end

