-- ==== Sys2Proof/Laws/PerInstr.lean ====
section
/-! SUPPORT. Statements made for each command as syntax. -/

namespace Sys2Proof.Laws

end Sys2Proof.Laws
end

