-- ==== Sys2Proof/Laws/Perform.lean ====
section
/-! SUPPORT. What carrying out a command comes to, and what the vectors raised after it leave alone. -/

namespace Sys2Proof.Machine

set_option exponentiation.threshold 2048

/-- The device as a command finds it: nothing on the outputs yet. -/
def quiet (d : Dev) : Dev := { d with out := [] }

@[simp] theorem heldDown_quiet (d : Dev) : heldDown (quiet d) = heldDown d := rfl
@[simp] theorem rd_quiet (f : Fld) (ix : List Nat) (d : Dev) : rd f ix (quiet d) = rd f ix d := rfl
@[simp] theorem rdB_quiet (f : Fld) (ix : List Nat) (d : Dev) : rdB f ix (quiet d) = rdB f ix d := rfl
@[simp] theorem rdS_quiet (f : Fld) (ix : List Nat) (d : Dev) : rdS f ix (quiet d) = rdS f ix d := rfl
@[simp] theorem rdBit_quiet (f : Fld) (ix : List Nat) (j : Nat) (d : Dev) : rdBit f ix j (quiet d) = rdBit f ix j d := rfl

/-- A command with good operands on a device that works answers a next state with the queue as it was. -/
theorem perform_next {c : Instr} {f : Dev → Dev} {s : State} (hw : c.wf = true) (ha : Awake s) :
    perform c f s = .next { s with dev := raises (quiet s.dev) (f (quiet s.dev)) } := by
  unfold perform run
  have h : heldDown { s.dev with out := [] } = false := ha
  simp only [hw, if_true]
  rw [if_neg (by simp [h])]
  rfl

theorem performAlways_next {c : Instr} {f : Dev → Dev} {s : State} (hw : c.wf = true) :
    performAlways c f s = .next { s with dev := f (quiet s.dev) } := by
  unfold performAlways; simp only [hw, if_true]; rfl

/-- A register outside a mask reads as before. -/
theorem Kept.rd {m : Nat} {d e : Dev} (h : Kept m d e) (f : Fld) (ix : List Nat) (hm : Nat.testBit m (33 + f.no % 1024) = false) : rd f ix e = rd f ix d := by
  unfold Machine.rd
  rw [h.inst (fldKey f ix) (by rw [show keyNo (fldKey f ix) = f.no % 1024 by unfold keyNo fldKey; omega]; exact hm)]

theorem Kept.rdB {m : Nat} {d e : Dev} (h : Kept m d e) (f : Fld) (ix : List Nat) (hm : Nat.testBit m (33 + f.no % 1024) = false) : rdB f ix e = rdB f ix d := by
  unfold Machine.rdB; rw [h.rd f ix hm]

theorem Kept.rdS {m : Nat} {d e : Dev} (h : Kept m d e) (f : Fld) (ix : List Nat) (hm : Nat.testBit m (33 + f.no % 1024) = false) : rdS f ix e = rdS f ix d := by
  unfold Machine.rdS; rw [h.rd f ix hm]

theorem Kept.rdBit {m : Nat} {d e : Dev} (h : Kept m d e) (f : Fld) (ix : List Nat) (j : Nat) (hm : Nat.testBit m (33 + f.no % 1024) = false) :
    rdBit f ix j e = rdBit f ix j d := by
  unfold Machine.rdBit; rw [h.rd f ix hm]

/-- What the vectors raised after a command leave: all but the outputs, the interrupts and TOP_IRQ_ST. -/
theorem raises_kept (b d : Dev) : Kept 0x4000000002041 d (raises b d) := raises_keeps (Kept.refl _ d) (Sub.refl _)

theorem rd_raises (b d : Dev) (f : Fld) (ix : List Nat) (hf : f.no % 1024 ≠ TOP_IRQ_ST_raised.no % 1024) : rd f ix (raises b d) = rd f ix d :=
  (raises_kept b d).rd f ix (by
    have e : (0x4000000002041 : Nat) = 0x2041 ||| 2 ^ (33 + TOP_IRQ_ST_raised.no % 1024) := by decide
    rw [e, Nat.testBit_or, Nat.testBit_two_pow]
    have : ¬ 33 + TOP_IRQ_ST_raised.no % 1024 = 33 + f.no % 1024 := by omega
    simp only [this, decide_false, Bool.or_false]
    exact Nat.testBit_lt_two_pow (Nat.lt_of_lt_of_le (by decide : 0x2041 < 2 ^ 33) (Nat.pow_le_pow_right (by decide) (Nat.le_add_right 33 _))))

theorem rdB_raises (b d : Dev) (f : Fld) (ix : List Nat) (hf : f.no % 1024 ≠ TOP_IRQ_ST_raised.no % 1024) : rdB f ix (raises b d) = rdB f ix d := by
  unfold rdB; rw [rd_raises b d f ix hf]

theorem rdS_raises (b d : Dev) (f : Fld) (ix : List Nat) (hf : f.no % 1024 ≠ TOP_IRQ_ST_raised.no % 1024) : rdS f ix (raises b d) = rdS f ix d := by
  unfold rdS; rw [rd_raises b d f ix hf]

theorem rdBit_raises (b d : Dev) (f : Fld) (ix : List Nat) (j : Nat) (hf : f.no % 1024 ≠ TOP_IRQ_ST_raised.no % 1024) :
    rdBit f ix j (raises b d) = rdBit f ix j d := by
  unfold rdBit; rw [rd_raises b d f ix hf]

theorem raises_staged (b d : Dev) : (raises b d).staged = d.staged := (raises_kept b d).staged (by decide)
theorem raises_held (b d : Dev) : (raises b d).held = d.held := (raises_kept b d).held (by decide)
theorem raises_ntw (b d : Dev) : (raises b d).ntw = d.ntw := (raises_kept b d).ntw (by decide)
theorem raises_devTime (b d : Dev) : (raises b d).devTime = d.devTime := (raises_kept b d).devTime (by decide)
theorem raises_freeCtr (b d : Dev) : (raises b d).freeCtr = d.freeCtr := (raises_kept b d).freeCtr (by decide)
theorem raises_lastSecond (b d : Dev) : (raises b d).lastSecond = d.lastSecond := (raises_kept b d).lastSecond (by decide)
theorem raises_clocksStopped (b d : Dev) : (raises b d).clocksStopped = d.clocksStopped := (raises_kept b d).clocksStopped (by decide)
theorem raises_lastAt (b d : Dev) : (raises b d).lastAt = d.lastAt := (raises_kept b d).lastAt (by decide)
theorem raises_pins (b d : Dev) : (raises b d).pins = d.pins := (raises_kept b d).pins (by decide)
theorem raises_rul (b d : Dev) : (raises b d).rul = d.rul := (raises_kept b d).rul (by decide)
theorem raises_blt (b d : Dev) : (raises b d).blt = d.blt := (raises_kept b d).blt (by decide)
theorem raises_xpt (b d : Dev) : (raises b d).xpt = d.xpt := (raises_kept b d).xpt (by decide)
theorem raises_lns (b d : Dev) : (raises b d).lns = d.lns := (raises_kept b d).lns (by decide)
theorem raises_ink (b d : Dev) : (raises b d).ink = d.ink := (raises_kept b d).ink (by decide)
theorem raises_drams (b d : Dev) : (raises b d).drams = d.drams := (raises_kept b d).drams (by decide)
theorem raises_flw (b d : Dev) : (raises b d).flw = d.flw := (raises_kept b d).flw (by decide)
theorem raises_macs (b d : Dev) : (raises b d).macs = d.macs := (raises_kept b d).macs (by decide)
theorem raises_sdi (b d : Dev) : (raises b d).sdi = d.sdi := (raises_kept b d).sdi (by decide)
theorem raises_qlt (b d : Dev) : (raises b d).qlt = d.qlt := (raises_kept b d).qlt (by decide)
theorem raises_aud (b d : Dev) : (raises b d).aud = d.aud := (raises_kept b d).aud (by decide)
theorem raises_apt (b d : Dev) : (raises b d).apt = d.apt := (raises_kept b d).apt (by decide)
theorem raises_gth (b d : Dev) : (raises b d).gth = d.gth := (raises_kept b d).gth (by decide)
theorem raises_sea (b d : Dev) : (raises b d).sea = d.sea := (raises_kept b d).sea (by decide)
theorem raises_tlr (b d : Dev) : (raises b d).tlr = d.tlr := (raises_kept b d).tlr (by decide)
theorem raises_icn (b d : Dev) : (raises b d).icn = d.icn := (raises_kept b d).icn (by decide)
theorem raises_journal (b d : Dev) : (raises b d).journal = d.journal := (raises_kept b d).journal (by decide)
theorem raises_nv (b d : Dev) : (raises b d).nv = d.nv := (raises_kept b d).nv (by decide)
theorem raises_boot (b d : Dev) : (raises b d).boot = d.boot := (raises_kept b d).boot (by decide)
theorem raises_pat (b d : Dev) : (raises b d).pat = d.pat := (raises_kept b d).pat (by decide)
theorem raises_health (b d : Dev) : (raises b d).health = d.health := (raises_kept b d).health (by decide)

/-! ### Reading a field past writes of others -/

theorem key_reg {f g : Fld} {ix jx : List Nat} (h : g.no % 1024 ≠ f.no % 1024) : fldKey g jx ≠ fldKey f ix := by unfold fldKey; omega

/-- What a firing leaves: all but its own sticky word, the pin latch, the raised vectors and the Blotter's timers. -/
theorem fire_only_kept (n : Nat) (d : Dev) : Kept 0x40001000000000000000000000000000000000000000000000000000000000000000000000000000000000000000000000000000000000000000000000000000000000000000000000000000000000000000000000000000000000000000000000000000000000000000000000004000000003041 d (fire n d) := fire_keeps (Kept.refl _ d) (Sub.refl _)

theorem fire_bit (f : Fld) (h : f.no % 1024 ≠ TOP_IRQ_ST_raised.no % 1024) (h2 : f.no % 1024 ≠ BLT_STICKY_bits.no % 1024)
    (h3 : f.no % 1024 ≠ BLT_STATUS_pin_latch.no % 1024) : Nat.testBit 0x40001000000000000000000000000000000000000000000000000000000000000000000000000000000000000000000000000000000000000000000000000000000000000000000000000000000000000000000000000000000000000000000000000000000000000000000000004000000003041 (33 + f.no % 1024) = false := by
  have e : (0x40001000000000000000000000000000000000000000000000000000000000000000000000000000000000000000000000000000000000000000000000000000000000000000000000000000000000000000000000000000000000000000000000000000000000000000000000004000000003041 : Nat) = (0x3041 ||| 2 ^ (33 + TOP_IRQ_ST_raised.no % 1024)) ||| (2 ^ (33 + BLT_STICKY_bits.no % 1024) ||| 2 ^ (33 + BLT_STATUS_pin_latch.no % 1024)) := by
    decide
  rw [e, Nat.testBit_or, Nat.testBit_or, Nat.testBit_or, Nat.testBit_two_pow, Nat.testBit_two_pow, Nat.testBit_two_pow]
  have a : ¬ 33 + TOP_IRQ_ST_raised.no % 1024 = 33 + f.no % 1024 := by omega
  have b : ¬ 33 + BLT_STICKY_bits.no % 1024 = 33 + f.no % 1024 := by omega
  have c : ¬ 33 + BLT_STATUS_pin_latch.no % 1024 = 33 + f.no % 1024 := by omega
  simp only [a, b, c, decide_false, Bool.or_false]
  exact Nat.testBit_lt_two_pow (Nat.lt_of_lt_of_le (by decide : 0x3041 < 2 ^ 33) (Nat.pow_le_pow_right (by decide) (Nat.le_add_right 33 _)))

theorem rd_fire (n : Nat) (d : Dev) (f : Fld) (ix : List Nat) (h : f.no % 1024 ≠ TOP_IRQ_ST_raised.no % 1024) (h2 : f.no % 1024 ≠ BLT_STICKY_bits.no % 1024)
    (h3 : f.no % 1024 ≠ BLT_STATUS_pin_latch.no % 1024) : rd f ix (fire n d) = rd f ix d := (fire_only_kept n d).rd f ix (fire_bit f h h2 h3)

theorem rdB_fire (n : Nat) (d : Dev) (f : Fld) (ix : List Nat) (h : f.no % 1024 ≠ TOP_IRQ_ST_raised.no % 1024) (h2 : f.no % 1024 ≠ BLT_STICKY_bits.no % 1024)
    (h3 : f.no % 1024 ≠ BLT_STATUS_pin_latch.no % 1024) : rdB f ix (fire n d) = rdB f ix d := by unfold rdB; rw [rd_fire n d f ix h h2 h3]

theorem rdS_fire (n : Nat) (d : Dev) (f : Fld) (ix : List Nat) (h : f.no % 1024 ≠ TOP_IRQ_ST_raised.no % 1024) (h2 : f.no % 1024 ≠ BLT_STICKY_bits.no % 1024)
    (h3 : f.no % 1024 ≠ BLT_STATUS_pin_latch.no % 1024) : rdS f ix (fire n d) = rdS f ix d := by unfold rdS; rw [rd_fire n d f ix h h2 h3]

theorem rdBit_fire (n : Nat) (d : Dev) (f : Fld) (ix : List Nat) (j : Nat) (h : f.no % 1024 ≠ TOP_IRQ_ST_raised.no % 1024)
    (h2 : f.no % 1024 ≠ BLT_STICKY_bits.no % 1024) (h3 : f.no % 1024 ≠ BLT_STATUS_pin_latch.no % 1024) : rdBit f ix j (fire n d) = rdBit f ix j d := by
  unfold rdBit; rw [rd_fire n d f ix h h2 h3]

/-! ### Firings -/

theorem stickyOf_raises (n : Nat) (b d : Dev) : stickyOf n (raises b d) = stickyOf n d := rdBit_raises b d _ _ _ (by decide)
theorem rawOf_raises (n : Nat) (b d : Dev) : rawOf n (raises b d) = rawOf n d := rdBit_raises b d _ _ _ (by decide)

/-- A firing is a firing of the state the command found where neither the raw state nor the severity has changed since. -/
theorem fired_of {n : Nat} {d x : Dev} (b : Dev) (hr : rawOf n x = rawOf n d) (hs : severityOf n x = severityOf n d) : Fired n d (raises b (fire n x)) := by
  intro h1 h2 h3
  rw [stickyOf_raises]
  exact fire_sticky n x h1 (by rw [hr, h2]) (by rw [hs]; exact h3)

theorem fired_kept {n m : Nat} {d x : Dev} (b : Dev) (h : Kept m d x) (hb : Nat.land m 0x1000 = 0) (hr : Nat.testBit m (33 + BLT_RAW_bits.no % 1024) = false)
    (hs : Nat.testBit m (33 + BLT_SEV_sevs.no % 1024) = false) : Fired n d (raises b (fire n x)) := by
  refine fired_of b ?_ ?_
  · unfold rawOf; exact h.rdBit _ _ _ hr
  · unfold severityOf; rw [h.blt hb, h.rd _ _ hs]

theorem quiet_kept (d : Dev) : Kept 0x40 d (quiet d) := upd_out (Kept.refl _ d) (Sub.refl _)

/-! ### Completion -/

/-- A command carried out as `perform` says completes, and what holds of its effect holds of the state it leaves. -/
theorem carried {c : Instr} {f : Dev → Dev} {p : Dev → Dev → Prop} (hx : ∀ s, exec c s = perform c f s)
    (hp : c.wf = true → ∀ d, heldDown d = false → p d (raises (quiet d) (f (quiet d)))) : Carried c p := by
  intro hw s ha
  exact ⟨_, (hx s).trans (perform_next hw ha), rfl, hp hw _ ha⟩

/-- The same with the command's frame, from what the command can change. -/
theorem carried_frame {c : Instr} {f : Dev → Dev} {p : Dev → Dev → Prop} {m n : Nat} (hx : ∀ s, exec c s = perform c f s)
    (hk : ∀ s t, exec c s = .next t → t.pending = s.pending ∧ Kept m s.dev t.dev) (hm : Sub m n)
    (hp : c.wf = true → ∀ d, heldDown d = false → p d (raises (quiet d) (f (quiet d)))) : Carried c (fun d e => Kept n d e ∧ p d e) := by
  intro hw s ha
  have h := (hx s).trans (perform_next hw ha)
  exact ⟨_, h, rfl, (hk _ _ h).2.mono hm, hp hw _ ha⟩

end Sys2Proof.Machine
end

