-- ==== Sys2Proof/Tests/Slice0.lean ====
section
/-! SUPPORT. Tests: an ill-formed command for each check of WellFormed, a state that meets the hypotheses of each statement that has some, and
values that the spec works out. -/

set_option maxRecDepth 4000
set_option Elab.async false

namespace Sys2Proof.Tests

open Sys2Proof.Machine

/-! ### Helpers -/

/-- A device with some register fields written. -/
def dev (fs : List (Fld × List Nat × Nat)) (d : Dev := {}) : Dev := fs.foldl (fun d p => wr p.1 p.2.1 p.2.2 d) d

/-- Every command of a list is turned away. -/
def allRefused (cs : List Instr) : Bool := cs.all (fun c => !c.wf)

/-- The device after a command. -/
def after (c : Instr) (d : Dev) : Dev := match exec c { dev := d } with | .next t => t.dev | _ => {}

/-! ### Ill-formed commands -/

theorem test_wf_resets_and_electrical : allRefused [.porstN 32, .supplyRecovery 32, .supplyExcursion 7, .temperatureSample [some 0] 750 127] = true := by
  decide +kernel

theorem test_wf_tick : allRefused [.tick { shed := [(12, 1)] }, .tick { taken := [(48, 0, 0)] }] = true := by decide +kernel

theorem test_wf_ruling : allRefused [.holdOffExpiry 6, .refFramePulse 2 0, .sync 1 0 0 0, .sync 4 0 0 0, .clrHoldoff 64, .candidateConfigWrite 0x10005C 0,
    .candidateConfigWrite 0x1000A0 0, .candidateConfigWrite 0x100062 0, .candidateConfigWrite 0x100060 4294967296] = true := by decide +kernel

theorem test_wf_takes : allRefused [.mailboxWrite 2 none 0 0, .mailboxWrite 0 (some 4096) 0 0, .mailboxWrite 0 (some 0) 4 0, .mailboxWrite 0 none 8 0,
    .mailboxWrite 0 none 0 4294967296, .switchPoint 1536, .crossfadeComplete 1536 0, .crossfadeComplete 0 64, .opaqueMarkerTimeout 1536] = true := by decide +kernel

theorem test_wf_grids : allRefused [.audioGridSample 4, .frameBoundary 16 [], .frameBoundary 0 [{ channel := 12 }], .syncOutputFrame 1536 [],
    .syncOutputFrame 0 [{ channel := 12 }], .fire 4294967296] = true := by decide +kernel

theorem test_wf_lanes : allRefused [.signalDetect 192, .huntDwellEnd 192 1 false 0, .huntDwellEnd 0 7 false 0, .lossOfLock 192 true, .synthesiserLock 24 0,
    .synthesiserLock 0 16, .octetStartTimeout 24, .octetStopped 24, .trainingComplete 192 0 0 0 128 0, .trainingTimeout 192, .trainingRetry 192,
    .frequencyOutOfRange 192 0, .scanStart 192 0, .scanStart 0 4294967296, .scanDone 192 0 0 0 false, .ethRefclkLoss 4, .ethRefclkReturn 4,
    .synthesiserUnlock 24 0, .synthesiserUnlock 0 4, .receiverLock 192 0 0 0 0, .sdiLine 192 {}, .st352Packet 192 {}] = true := by decide +kernel

theorem test_wf_ethernet : allRefused [.linkUp 48, .linkDown 48 false, .receiveFrame 48 {}, .pauseExpiry 48, .pauseEnWrite 48 true, .transmitFrame 48 [],
    .packetOffer 16384, .packetRelease 16384, .opaqueFlowTimeout 16384] = true := by decide +kernel

theorem test_wf_inkwell_and_dram : allRefused [.flip 16, .overlayExchange 16, .captureStart 4 0, .captureStart 0 4096, .bar2Access 6 0 1 none,
    .bar2Access 0 1073741824 1 none, .retrainingPause 12, .pauseEvaluation 12 [], .pauseEnd 12, .trainingSubstepEnd 12 {}, .speedTargetWrite 12 0,
    .speedTargetWrite 0 8, .channelStopped 12, .driftTracking 12 [], .idleTimeout 12, .selfRefreshEntered 12, .wakeComplete 12 [], .patrolScrub 12 0 [],
    .refreshRateRead 12 [] false] = true := by decide +kernel

theorem test_wf_quilt : allRefused [.commit 512, .layerInput 512 0, .commitLanding 512, .shadowWrite 512 0 0, .shadowWrite 0 31 0, .shadowWrite 0 0 4294967296,
    .bankProgramWrite 0x3248100 0, .bankProgramWrite 0x3400000 0, .bankProgramWrite 0x3240002 0, .bankProgramWrite 0x3240000 4294967296] = true := by decide +kernel

theorem test_wf_audio : allRefused [.portFrame 16 {}, .portClockLoss 16, .portStopComplete 24, .gainWrite 1048576 0, .gainWrite 0 4294967296,
    .biquadCoefficientWrite 1024 0 0 0, .biquadCoefficientWrite 0 4 0 0, .biquadCoefficientWrite 0 0 5 0, .biquadCoefficientWrite 0 0 0 4294967296] = true := by
  decide +kernel

theorem test_wf_seam : allRefused [.seamFrame 24 0 {}, .seamFrame 0 8 {}, .seamFrameTransmit 24, .trainingFrame 24 0 {}, .trainingFrame 0 8 {}, .laneRejoin 24 0,
    .laneRejoin 0 8, .ack 24 [], .forward 24 0 (.layer 0 0 []), .forward 0 65536 (.layer 0 0 []), .announce 24 0 1 0 (.layer 0 0 []),
    .announce 0 65536 1 0 (.layer 0 0 []), .request 24 0 0, .request 0 65536 0, .digest 24 0 0 0, .digest 0 65536 0 0, .twinSync 24 0 [] [],
    .twinSync 0 65536 [] [], .state 24 0 none, .state 0 65536 none, .messageResend 24] = true := by decide +kernel

theorem test_wf_host : allRefused [.registerWrite 6 0 [] {}, .registerWrite 0 0x4000000 [] {}, .registerWrite 0 2 [] {}, .registerWrite 0 4 [{ data := 4294967296 }] {},
    .clearOnRead 6 0 1 true true {}, .clearOnRead 0 0x4000000 1 true true {}, .snapshotRead 6 0 1 true true {}, .snapshotRead 0 2 1 true true {},
    .accessTimeout 6 0 0 false [], .holdoffEnd 16, .vectorUnmask (some 16), .unlock 4294967296, .offerDatagram 48 0 false [] {}, .query 48 0 false 0 0,
    .shutDownFinished true 24, .shutDownFinished false 48] = true := by decide +kernel

/-- An ill-formed command stops with the fault that says so, and changes no state. -/
theorem test_ill_formed_faults : exec (.porstN 32) State.reset = .fault .illFormed := by rfl

/-! ### Worked examples of chapter 2 (02_nib_time.md): FAM02 with P 882,882,000, 2,250 lines of 4,400 samples, aligned at 1,712,310,600 s -/

def fam02 : Dev := dev [(DUC_FAM_PERIOD_period, [2], 882882000), (DUC_FAM_GEOM_lines, [2], 2250), (DUC_FAM_GEOM_samples, [2], 4400),
  (DUC_FAM_ALIGN_align_sec, [2], 1712310600)]

theorem test_line_period : famLinePeriod 2 fam02 = 392392 := by decide +kernel

theorem test_coordinate_to_nib : coordToNib 2 1204 7 1000 fam02 = some (1712310620 * 52920000000 + 4592371532) := by decide +kernel

theorem test_nib_to_coordinate : nibToCoord 2 (1712310620 * 52920000000 + 4592371532) fam02 = some (1204, 7, 1000) := by decide +kernel

/-- The 90 kHz and 48 kHz timestamps of F1204.L1.S0 (02_nib_time.md, R42). -/
theorem test_rtp_timestamps : rtpOf 588000 (1712310600 * 52920000000 + 1062989928000) = 234260030 ∧
    rtpOf 1102500 (1712310600 * 52920000000 + 1062989928000) = 2415587907 := by decide +kernel

theorem test_samples_in_frame : samplesInFrame (1712310600 * 52920000000 + 1062989928000) 882882000 1102500 = 800 := by decide +kernel

/-- The essence rates and slots of R105's examples (05_stitches_and_takes.md). -/
def pic2160 : Fmt := { lines := 2250, samples := 4400, activeLines := 2160, activeSamples := 3840, depth := 10 }

theorem test_slots : slotsFor (essenceRate pic2160 882882000) = 1 ∧ slotsFor (essenceRate { pic2160 with sampling := 1, depth := 12 } 882882000) = 2 ∧
    slotsFor (essenceRate { pic2160 with lines := 4500, activeLines := 4320, activeSamples := 7680 } 882882000) = 4 := by decide +kernel

/-- The sizes of R292's example (11_inkwell_surfaces.md). -/
theorem test_surface_sizes : bufferBytes pic2160 false = 21954560 ∧ surfaceBytes pic2160 3 false true = 70057984 := by decide +kernel

/-- The scale and sample of the worked example of 15_gather.md. -/
theorem test_gather_rounding : roundHalfEven 4194304 3 = 1398101 ∧ rampAt 0 349525 480 240 = 174762 ∧ roundHalfEven 3583998047 4096 = 875000 := by decide +kernel

/-! ### Registers -/

/-- A written value outside a limited field's range takes the nearer limit (R462: a width of 0 acts as 1). -/
theorem test_limited_field : rd BLT_FAULTN_WIDTH_width [] (after (.registerWrite 0 0x3E0000C [{ data := 0 }] {}) {}) = 1 := by decide +kernel

/-! ### States that meet the statements' hypotheses -/

/-- The device works (`Awake`), and every hypothesis of a list holds. -/
def meets (d : Dev) (hs : List Bool) : Bool := !heldDown d && hs.all (fun b => b)

/-- A device on which function k is in a state, with more fields written. -/
def devIn (k st : Nat) (fs : List (Fld × List Nat × Nat)) (d : Dev := {}) : Dev := dev (((funcOf k).state, (funcOf k).ix, st) :: fs) d

theorem test_witness_EveryStepKeepsCanonicalTables : step State.reset = .next (idle State.reset) ∧ tabWf 0 State.reset.dev.regs = true := ⟨rfl, rfl⟩

theorem test_witness_EmptyQueueLetsOneCoreCyclePass : State.reset.pending = [] ∧ meets {} [((256 : Int) % 256 == 0), decide (-128 ≤ steering {} - 0),
    decide (steering {} - 0 ≤ 127)] = true ∧ heldDown { clocksStopped := true } = true := by decide +kernel

theorem test_witness_EveryCommandIsCarriedOutOrIllFormed : Instr.wf (.porstN 31) = true ∧ Instr.wf (.porstN 32) = false := by decide +kernel

theorem test_witness_HeldDeviceIgnoresCommands : Instr.wf .srstN = true ∧ heldDown { clocksStopped := true } = true ∧ Instr.worksHeld .srstN = false ∧
    heldDown { pins := { porstLow := true } } = true ∧ (after (.porstN 0) { clocksStopped := true }).clocksStopped = false := by decide +kernel

theorem test_witness_ClocksStopOnlyAtAThermalTrip : meets {} [] = true ∧ (after .thermalTrip {}).clocksStopped = true := by decide +kernel

theorem test_witness_FlashAndOtpChangeOnlyUnder : Instr.mayWriteFlash .srstN = false ∧ (after .srstN { nv := { serial := 7 } }).nv.serial = 7 := by decide +kernel

theorem test_witness_StickyBitsStayUntilWrittenOrReset : Instr.accessesRegisters .launch = false ∧ Instr.isPowerOn .launch = false ∧
    stickyOf 40 (after .launch (dev [(BLT_STICKY_bits, [1], 256)])) = true := by decide +kernel

theorem test_witness_StatusChangesOnlyUnderItsOwnCommands : Instr.accessesRegisters .pinRelease = false ∧ Instr.isReset .pinRelease = false ∧
    rd TOP_BOOT_ST_phase [] (after .pinRelease (dev [(TOP_BOOT_ST_phase, [], 6)])) = 6 := by decide +kernel

theorem test_witness_CoreVoltageCodeStaysWhilePowered : Instr.isPowerOn .srstN = false ∧
    (after .srstN { pins := { coreVidValid := true, coreVid := 20 } }).pins.coreVid = 20 := by decide +kernel

theorem test_witness_PowerOnResetClearsAllButFlashAndOtp : Instr.wf (.supplyRecovery 31) = true ∧
    (after (.supplyRecovery 31) { pins := { porstLow := true } }).pins.porstLow = false ∧ meets {} [!({} : Dev).pins.porstLow] = true := by decide +kernel

theorem test_witness_SoftResetKeepsTimeAndRecordsItsCause : meets {} [] = true ∧ rd TOP_RESET_CAUSE_cause [] (after .watchdogExpiry {}) = 3 ∧
    rd TOP_RESET_CAUSE_cause [] (after .lockstepMismatch {}) = 2 ∧ rd TOP_RESET_CAUSE_cause [] (after .srstN {}) = 1 := by decide +kernel

theorem test_witness_RulingIsResetByPorstAndKeptBySrst : rd RUL_TIMING_qual_s [] (after .srstN (dev [(RUL_TIMING_qual_s, [], 9)])) = 9 ∧
    rd RUL_TIMING_qual_s [] (after (.porstN 0) (dev [(RUL_TIMING_qual_s, [], 9)])) = 5 := by decide +kernel

/-- Codes 20 and 21 of CORE_VID stand on the two sides of the limit of R552. -/
theorem test_witness_core_vid_code : rd TOP_VID_code [] (wr TOP_VID_code [] 20 {}) ≤ 20 ∧ 20 < rd TOP_VID_code [] (wr TOP_VID_code [] 21 {}) := by
  rw [rd_wr_same, rd_wr_same]; decide +kernel

theorem test_witness_SupplyAndClockMonitors : Instr.wf (.supplyExcursion 6) = true ∧ meets {} [!({} : Dev).pins.coreVidValid] = true ∧
    meets { pins := { coreVidValid := true } } [] = true := by decide +kernel

/-- Readings at each limit of R559, in quarters of a degree: 640 and 619, 560 and 539, 601 and 580, -161 and -140. -/
theorem test_witness_TemperatureSampleAndTrip : [640, 619, 560, 539, 601, 580, -161, -140].all (fun t =>
      highest (validReadings (some t :: List.replicate 15 (some t))) == some (0, t) && decide (-1024 ≤ t) && decide (t < 1024)) = true ∧
    highest (validReadings (List.replicate 16 none)) = none ∧ Instr.wf (.temperatureSample (List.replicate 16 none) 0 0) = true ∧
    4 * rd TOP_TEMP_CFG_tj_warn [] {} = 560 := by decide +kernel

theorem test_temperature_limits : rawOf 18 (after (.temperatureSample (List.replicate 16 (some 640)) 750 127) {}) = true ∧
    rawOf 17 (after (.temperatureSample (List.replicate 16 (some 600)) 750 127) {}) = false := by decide +kernel

theorem test_witness_FiringSetsItsStickyBit : meets {} [sourceListed 40, !rawOf 40 {}, decide (severityOf 40 {} ≠ 0), decide (max 1 (rd BLT_CTRL_irq_thr [] {}) ≤ severityOf 40 {}),
      decide (max 1 (rd BLT_CTRL_pin_thr [] {}) ≤ severityOf 40 {}), !inSafe {}] = true ∧ severityOf 40 {} = 3 ∧ sourceListed 15 = false := by decide +kernel

/-- A unit in factory test mode: TEST_OPEN set, and an image of type 4 running (R522). -/
def testUnit : Dev := { nv := { testOpen := true, slotA := { fw := some { hdr := [0, 4] } } } }

theorem test_witness_ReservedSourcesAndInjection : sourceListed 2047 = false ∧ meets testUnit [testMode testUnit, Nat.testBit (32768 + 2047) 15, (Instr.fire (32768 + 2047)).wf] = true ∧
    testMode {} = false := by decide +kernel

theorem test_witness_PinLatchIsReleasedAtItsTimersEnd : meets {} [decide (({} : Dev).blt.timerEnd ≤ ({} : Dev).devTime)] = true ∧
    meets { blt := { timerEnd := 1, releasePending := true } } [] = true ∧ meets { blt := { timerEnd := 1 } } [] = true := by decide +kernel

theorem test_witness_SafeStateEntersAndDropsTheQueue : meets { blt := { entryPending := true } } [!inSafe { blt := { entryPending := true } }] = true ∧
    inSafe (dev [(BLT_STATUS_safe, [], 1)] { blt := { entryPending := true } }) = true ∧ meets {} [!({} : Dev).blt.entryPending] = true := by decide +kernel

/-- In safe state with the quiet period run: seven earlier exits, and eight. -/
def quietDev (n : Nat) : Dev :=
  dev [(BLT_STATUS_safe, [], 1)] { ntw := 3000 * msUnits, devTime := 3000 * msUnits, blt := { exits := (List.range n).map (fun k => 3000 * msUnits - k) } }

theorem test_witness_SafeStateIsLeftAfterTheQuietPeriod : meets (quietDev 7) [inSafe (quietDev 7), quietOver (quietDev 7), decide (recentExits (quietDev 7) < 8),
      !rdB BLT_STATUS_latched [] (quietDev 7), !safeStands (quietDev 7), decide ((quietDev 7).blt.quietFrom < (quietDev 7).devTime)] = true ∧
    8 ≤ recentExits (quietDev 8) ∧ quietOver {} = false ∧ inSafe {} = false := by decide +kernel

theorem test_safe_exit_and_latch : inSafe (after .safeStateExit (quietDev 7)) = false ∧ inSafe (after .safeStateExit (quietDev 8)) = true ∧
    rd BLT_STATUS_latched [] (after .safeStateExit (quietDev 8)) = 1 := by decide +kernel

theorem test_witness_NtwWordsCompareAsLinearValues : (0 : Nat) < 2 ^ 48 * (52920000000 * 2 ^ 44) ∧ ntwOfWord (ntwWord 0) = some 0 ∧
    ntwOfWord (ntwWord (2 ^ 48 * (52920000000 * 2 ^ 44) - 1)) = some (2 ^ 48 * (52920000000 * 2 ^ 44) - 1) := by decide +kernel

theorem test_witness_HoldOffEndsByItselfOrByCommand : meets (dev [(RUL_CAND_ST_holdoff, [5], 1)]) [rdB RUL_CAND_ST_holdoff [5] (dev [(RUL_CAND_ST_holdoff, [5], 1)]),
      (Instr.holdOffExpiry 5).wf, (Instr.clrHoldoff 63).wf, Nat.testBit 32 5] = true ∧ rdB RUL_CAND_ST_holdoff [5] {} = false := by decide +kernel

theorem test_witness_LosingTheOscillatorDisqualifiesEveryCandidate : meets (dev [(RUL_CAND_ST_qualified, [0], 1)]) [qualified 0 (dev [(RUL_CAND_ST_qualified, [0], 1)])] = true := by
  decide +kernel

/-- A candidate whose jump detector is armed, with a pulse period of 1 s. -/
def armed : Dev := dev [(RUL_REF_FP_PERIOD_period, [0], 52920000000)] { rul := { cands := [(0, { presRun := 1001, measured := true })] } }

theorem test_witness_PhaseMeasurementsAndJumps : meets armed [jumpArmed 0 armed, decide (rd RUL_REF_FP_PERIOD_period [0] armed ≠ 0),
      exceedsNs (wrapPhase (wrapPhase (-20000) 52920000000 * (Config.fracPerNib : Int) - predictedPhase 0 (advanceTo (unitsOfNib 20000) armed).devTime armed) (wrapUnits 0 armed))
        (rd RUL_JUMP_thresh_ns [] armed)] = true ∧ rd RUL_REF_FP_PERIOD_period [1] {} = 0 := by decide +kernel

theorem test_jump_begins_hold_off : rd RUL_CAND_ST_holdoff [0] (after (.refFramePulse 0 20000) armed) = 1 ∧
    rd RUL_CAND_ST_holdoff [0] (after (.refFramePulse 0 40) armed) = 0 := by decide +kernel

theorem test_witness_ClockOutputPulses : meets (dev [(RUL_OUT_CFG_pps_en, [], 1)]) [rdB RUL_OUT_CFG_pps_en [] (dev [(RUL_OUT_CFG_pps_en, [], 1)]),
      !squelched (dev [(RUL_OUT_CFG_pps_en, [], 1), (RUL_OUT_CFG_squelch, [], 0)])] = true ∧ rdB RUL_OUT_CFG_pps_en [] {} = false ∧
    squelched (dev [(RUL_OUT_CFG_squelch, [], 2)]) = true ∧ meets { pins := { ppsOut := true, refOutFp := true } } [] = true := by decide +kernel

theorem test_witness_RulingChoosesAndChangesState : chooseAmong [0, 1, 2, 3, 4, 5] true {} = none ∧
    chooseAmong [0, 1, 2, 3, 4, 5] true (dev [(RUL_CAND_ST_qualified, [4], 1), (RUL_CAND_ST_qualified, [5], 1), (RUL_STATUS_sel, [], 7), (RUL_CAND_CFG_rank, [4], 0),
      (RUL_CAND_CFG_rank, [5], 7)]) = some 4 ∧
    chooseAmong [0, 1, 2, 3, 4, 5] true (dev [(RUL_CAND_ST_qualified, [4], 1), (RUL_CAND_ST_qualified, [5], 1), (RUL_STATUS_sel, [], 5), (RUL_CTRL_revertive, [], 0)]) = some 5 := by
  decide +kernel

theorem test_witness_TickComesAtItsInstant : meets (dev [(RUL_CTRL_open, [], 1)]) [rd RUL_CTRL_open [] (dev [(RUL_CTRL_open, [], 1)]) == 1, (Instr.tick {}).wf,
    (Instr.candidateConfigWrite 0x100060 0).wf] = true := by decide +kernel

/-- An image whose header says a settings format range 1 to 2, with a firmware header that names part and type. -/
def goodHdr : List Nat := [0x425A5550, 0x00010001, 0x2416, 0, 0, 0, 1, 1, 0, 0, 0, 0]

def bootDev (fw pat : Bool) (nv : Nv := {}) : Dev :=
  { nv := { nv with known := true, keys := true, slotA := if fw then { fw := some { hdr := goodHdr } } else {}, slotB := if pat then { fw := some { hdr := goodHdr } } else {} } }

theorem test_witness_BootRomChoosesTheSlot : romVerifies true 0 (bootDev true false) = true ∧ romVerifies true 1 (bootDev true false) = false ∧
    romVerifies true 1 (bootDev false true) = true ∧ romVerifies true 0 (bootDev true false { trial := true, trialBoots := 2 }) = true ∧
    meets (bootDev true true) [rd TOP_BOOT_ST_phase [] (bootDev true true) == 0, !(bootDev true true).nv.eraseStarted] = true := by decide +kernel

theorem test_witness_PatternIsAppliedOrRefused : patternErr none {} {} = some (1, 0xFFFF) ∧ meets (dev [(TOP_BOOT_ST_phase, [], 1)]) [] = true ∧
    rd TOP_BOOT_ST_phase [] (after (.patternApplyDone {}) (dev [(TOP_BOOT_ST_phase, [], 2)])) = 8 := by decide +kernel

/-- A pending start-up, and the two waits. -/
def pendingDev : Dev := dev [(TOP_BOOT_ST_phase, [], 3)]

theorem test_witness_StartUpAndItsLimits : meets pendingDev [startUpReady pendingDev, sequences pendingDev, !settingsForeign pendingDev] = true ∧
    sequences (dev [(DUC_FABRIC_role, [], 1)] pendingDev) = false ∧ startUpReady (devIn (fDram 0) 1 [(DRC_CTRL_en, [0], 1), (TOP_BOOT_ST_phase, [], 3)]) = false ∧
    settingsForeign { pendingDev with nv := { slotA := { fw := some { hdr := goodHdr }, route := { items := [{ fmt := 9 }] } } } } = true ∧
    meets (dev [(TOP_BOOT_ST_phase, [], 10)]) [!(dev [(TOP_BOOT_ST_phase, [], 10)]).boot.serveLate, !(dev [(TOP_BOOT_ST_phase, [], 10)]).boot.waitLate] = true := by
  decide +kernel

theorem test_witness_RouteMemory : meets { journal := [{ kind := 0, data := [900, 0, 0, 0] }] } [] = true ∧ ({} : Dev).journal = [] ∧
    (after (.journalEntry true) { journal := [{ kind := 0, data := [900, 0, 0, 0] }] }).journal = [] ∧
    rd TOP_ROUTE_SEQ_durable_seq [] (after (.journalEntry true) { journal := [{ kind := 0, data := [900, 0, 0, 0] }] }) = 900 := by decide +kernel

/-- A device that serves. -/
def serving : Dev := dev [(TOP_BOOT_ST_phase, [], 6)]

theorem test_witness_MailboxBanks : meets serving [mailboxOpen serving, !bankPosted 0 serving, !inSafe serving] = true ∧ mailboxOpen {} = false ∧
    bankPosted 1 (dev [(XPT_MBX_RES_state, [1], 1)] serving) = true ∧ inSafe (dev [(BLT_STATUS_safe, [], 1)] serving) = true := by decide +kernel

/-- A posted salvo of no records fails its check with code 2 (malformed). -/
def postedDev : Dev := { serving with tlr := { started := true }, xpt := { posted := [{ bank := 1 }] } }

theorem test_witness_SalvosAreDecidedAndLaunched : meets postedDev [!inSafe postedDev, roleOf postedDev == 0, checkSalvo {} 0 postedDev == some (2, 0x1FFF),
      postedDev.health.isEmpty] = true ∧ meets { xpt := { queue := [{ launch := 100 }] } } [] = true ∧
    rd XPT_MBX_RES_code [1] (after (.salvoAcceptance 0) postedDev) = 2 ∧ rd XPT_MBX_RES_first_bad [1] (after (.salvoAcceptance 0) postedDev) = 0x1FFF := by decide +kernel

/-- A local SDI destination 3 of family 2 in 1080p, whose switching line is line 7 (R80), with the family in a state. -/
def dstDev (st : Nat) : Dev :=
  devIn (fFam 2) st [(DUC_FAM_PERIOD_period, [2], 882882000), (DUC_FAM_GEOM_lines, [2], 1125), (DUC_FAM_GEOM_samples, [2], 2200), (XPT_DST_FMT_fam, [3], 2),
    (XPT_DST_FMT_fmt, [3], 1), (DUC_FAM_CTRL_en, [2], 1)]
    { pat := { dests := [{ num := 3, index := 3, kind := 1, fam := 2, fmt := 1, channels := 2 }],
               formats := [(1, { lines := 1125, samples := 2200, activeLines := 1080, activeSamples := 1920, depth := 10, iface := 4 })] },
      xpt := { places := [(3, { chans := 8, chanCount := 2 })] } }

theorem test_witness_OutputsComeAtTheirGrids : meets (dstDev 2) [dstAt 3 (dstDev 2) == some { num := 3, index := 3, kind := 1, fam := 2, fmt := 1, channels := 2 },
      switchOffset 3 1 (dstDev 2) == some (6 * 784784), famRunning 2 (dstDev 2), funcState (fFam 2) (dstDev 1) == 1, funcState (fFam 2) (dstDev 0) == 0,
      dstChan (dstPlace 3 (dstDev 2)) { kind := 1 } 1 == some 9, (dchan 9 (dstDev 2)).fade == 0] = true ∧ dstAt 4 (dstDev 2) = none := by decide +kernel

theorem test_switch_point_instant : (after (.switchPoint 3) (dstDev 2)).ntw / Config.fracPerNib = 6 * 784784 + (40 - 6 * 784784 % 40) % 40 := by decide +kernel

theorem test_witness_MigrationsAndPlacementInputs : (earliest (·.w) [{ w := 9, stage := 1 }, { w := 5, stage := 1 }]).map (·.w) = some 5 ∧
    meets { tlr := { started := true, migs := [{ stage := 1 }, { stage := 2 }, { stage := 3 }] } } [] = true ∧
    nextRelease { tlr := { items := [{ users := [(7, 40, 0)] }] } } = some 40 ∧ nextRelease {} = none ∧
    meets { health := [{ at_ := 50 }], tlr := { started := true }, sea := { gapAt := 1 } } [] = true := by decide +kernel

def pausing (p : Nat) : Dev := devIn (fDram 11) 2 [] { drams := if p = 0 then [] else [(11, { pauseAt := p })] }

theorem test_witness_RetrainingPauses : meets (pausing 0) [dramActive 11 (pausing 0), !isFixed 11 (pausing 0), tabGet 0 (pausing 0).xpt.lastPause 11 == 0,
      (dramRun 11 (pausing 0)).pauseAt == 0] = true ∧ meets (pausing 1) [(dramRun 11 (pausing 1)).pauseAt != 0, !(dramRun 11 (pausing 1)).evaluated] = true := by
  decide +kernel

def memberDev : Dev := dev [(DUC_FABRIC_role, [], 1), (SEA_TIME_up_valid, [], 1), (SEA_TIME_upstream, [], 23), (SEA_LINK_ST_up, [23], 1)] { lastAt := [(3, 5)] }

theorem test_witness_DigestsAndStateTransfer : meets memberDev [tabGet 0 memberDev.lastAt 3 != 0, roleOf memberDev != 0, rdB SEA_LINK_ST_up [23] memberDev,
      !(seaLink 23 memberDev).digestSeen, memberDev.sea.transfer == 0, !selfActing memberDev, towardsMaster memberDev == some 23] = true ∧ roleOf {} = 0 := by decide +kernel

def layerDev (st : Nat) (safe : Nat) : Dev := dev [(QLT_LAYER_RES_state, [511], st), (BLT_STATUS_safe, [], safe), (QLT_SH_CFG_head, [511], 16)]

theorem test_witness_LayerCommits : meets (layerDev 0 0) [!layerReserved 511 (layerDev 0 0), !layerPending 511 (layerDev 0 0), !inSafe (layerDev 0 0)] = true ∧
    meets (layerDev 1 1) [layerPending 511 (layerDev 1 1), inSafe (layerDev 1 1), layerHead 511 (layerDev 1 1) == none, !(layerRun 511 (layerDev 1 1)).input] = true ∧
    layerReserved 511 (dev [(TLR_CFG_conv_pool, [], 32768), (QLT_SH_CFG_head, [511], 15)]) = true := by decide +kernel

/-- Lane 191, in octet 23 that runs, with a receiver of a mode. -/
def laneDev (mode : Nat) (fs : List (Fld × List Nat × Nat)) (d : Dev := {}) : Dev := devIn (fOct 23) 2 ((LNS_MODE_rx_mode, [191], mode) :: fs) d

theorem test_witness_LaneReceivers : meets (laneDev 2 []) [rxRuns 191 (laneDev 2 []), rxMode 191 (laneDev 2 []) != 1] = true ∧ rxRuns 191 {} = false ∧
    rdB LNS_STATUS_lock [191] (laneDev 1 [(LNS_STATUS_lock, [191], 1)]) = true ∧
    meets (laneDev 1 [] { lns := { lanes := [(191, { hunt := 6 })] } }) [rxRuns 191 (laneDev 1 [] { lns := { lanes := [(191, { hunt := 6 })] } }),
      (laneRun 191 (laneDev 1 [] { lns := { lanes := [(191, { hunt := 6 })] } })).hunt == 6] = true ∧ (109951162 : Int).natAbs < (-109951163 : Int).natAbs := by decide +kernel

theorem test_hunt_locks_and_moves_on : rd LNS_STATUS_lock [191] (after (.huntDwellEnd 191 6 false 0) (laneDev 1 [] { lns := { lanes := [(191, { hunt := 6 })] } })) = 1 ∧
    rd LNS_STATUS_lock [191] (after (.huntDwellEnd 191 3 false 0) (laneDev 1 [] { lns := { lanes := [(191, { hunt := 6 })] } })) = 0 := by decide +kernel

theorem test_witness_LaneTrainingAndEyeScans : meets (laneDev 3 [(LNS_STATUS_train, [191], 1)]) [rxRuns 191 (laneDev 3 [(LNS_STATUS_train, [191], 1)]),
      rd LNS_STATUS_train [191] (laneDev 3 [(LNS_STATUS_train, [191], 5)]) == 5, tapsOk 3 0 0 0 128 0, !tapsOk 3 0 0 1 128 0,
      rdB LNS_EYE_RES_busy [191] (laneDev 3 [(LNS_EYE_RES_busy, [191], 1)]), !rdB LNS_EYE_RES_busy [191] (laneDev 3 []),
      rdB LNS_STATUS_lock [191] (laneDev 3 [(LNS_STATUS_lock, [191], 1)])] = true ∧ rxRuns 191 (laneDev 0 []) = false := by decide +kernel

/-- Octet 23 with its first synthesiser on the Ethernet clock of lane 184's transmitter, locked or not. -/
def octDev (st lock : Nat) : Dev := devIn (fOct 23) st [(LNS_OCT_SYNTH_q0a, [23], 1), (LNS_MODE_tx_mode, [184], 2), (LNS_OCT_STATUS_q0a_lock, [23], lock)]

theorem test_witness_OctetsAndReferences : meets (octDev 1 0) [Nat.testBit 1 0, funcState (fOct 23) (octDev 1 0) == 1, synthSource 23 0 (octDev 1 0) == 1,
      !(octDev 1 0).lns.refLost.contains (23 / 6), synthLocked 23 0 (octDev 2 1), synthInUse 23 0 (octDev 2 1), !synthLocked 23 0 (octDev 1 0),
      usesEthRef 23 (octDev 1 0), funcState (fOct 23) (octDev 3 0) == 3, funcState (fOct 0) (octDev 3 0) == 0] = true := by decide +kernel

/-- An SDI input on lane 188, declared progressive, in an acquisition state. -/
def sdiDev (st : Nat) : Dev :=
  dev [(SDI_IN_ST_state, [188], st), (SDI_IN_ST_psid_present, [188], 1), (SDI_IN_PSID_psid, [188], 5)] { pat := { sources := [{ num := 9, producer := .sdi [188] }] } }

theorem test_witness_SdiPayloadIdentifiers : laneSource' 188 (sdiDev 2) = some ({ num := 9, producer := .sdi [188] }, [188]) ∧ laneSource' 187 (sdiDev 2) = none ∧
    meets (sdiDev 3) [inState 188 (sdiDev 3) != 0, inState 188 (sdiDev 3) != 4, inState 188 (sdiDev 0) == 0, rd SDI_IN_PSID_psid [188] (sdiDev 3) != 6,
      ({ scan := 1 } : Psid).scan != (fmtOf 0 (sdiDev 3)).scan] = true := by decide +kernel

/-- MAC 47 running, with its lane locked and trained, its link and pause as given. -/
def macDev (link paused : Nat) (fs : List (Fld × List Nat × Nat) := []) : Dev :=
  devIn (fMac 47) 2 ([(LNS_STATUS_lock, [188], 1), (LNS_STATUS_train, [188], 4), (MAC_STATUS_link, [47], link), (MAC_STATUS_paused, [47], paused)] ++ fs)

theorem test_witness_EthernetLinksAndPauses : meets (macDev 0 0) [running (fMac 47) (macDev 0 0), lanesReady 47 (macDev 0 0), !linkUp 47 (macDev 0 0), !inSafe (macDev 0 0)] = true ∧
    meets (macDev 1 1) [linkUp 47 (macDev 1 1), rdB MAC_STATUS_paused [47] (macDev 1 1), !rdB MAC_STATUS_paused [47] (macDev 1 0),
      inSafe (macDev 1 0 [(BLT_STATUS_safe, [], 1)])] = true ∧ linkUp 47 {} = false ∧ running (fMac 47) {} = false := by decide +kernel

/-- Frames of 63, 64, 1,522 and 1,523 bytes lie on the two sides of each limit. -/
theorem test_witness_ReceivedFramesMeetTheirFate : meets (macDev 1 0) [running (fMac 47) (macDev 1 0), linkUp 47 (macDev 1 0), decide (63 < 64), rd MAC_CFG_max_frame [47] (macDev 1 0) == 1522,
      !rdB MAC_PAUSE_pause_en [47] (macDev 1 0 [(MAC_PAUSE_pause_en, [47], 0)]), rdB MAC_PAUSE_pause_en [47] (macDev 1 0 [(MAC_PAUSE_pause_en, [47], 1)])] = true := by decide +kernel

theorem test_frame_limits : rd MAC_CNT0_runt [47] (after (.receiveFrame 47 { len := 63 }) (macDev 1 0)) = 1 ∧
    rd MAC_CNT0_oversize [47] (after (.receiveFrame 47 { len := 1523 }) (macDev 1 0)) = 1 ∧
    rdB MAC_STATUS_paused [47] (after (.receiveFrame 47 { len := 64, dmac := pauseAddr, body := .control 1 1 }) (macDev 1 0 [(MAC_PAUSE_pause_en, [47], 1)])) = true := by
  decide +kernel

/-- A transmit entry of a local destination, and a receive entry. -/
def txDev (kind audio : Nat) : Dev :=
  dev [(FLW_TX_valid, [16383], 1)] { pat := { dests := [{ index := 1535, kind := 4 }] }, flw := { tx := [(16383, { desc := { kind := kind }, dst := 1535, audio := audio, sent := true })] } }
def rxDev (kind lost : Nat) : Dev :=
  dev [(FLW_RX_valid, [16383], 1), (FLW_RX_lost, [16383], lost)] { flw := { rx := [(16383, { desc := { kind := kind }, acquired := true })], memb := [{ left := 1 }, {}] } }

theorem test_witness_MediaFlows : meets (txDev 1 5) [(dstAt 1535 (txDev 1 5)).isSome, rdB FLW_TX_valid [16383] (txDev 1 5), !inSafe (txDev 1 5), isAudio (txRun 16383 (txDev 1 5)).desc.kind,
      (txRun 16383 (txDev 1 5)).audio != 0, !isAudio (txRun 16383 (txDev 0 0)).desc.kind] = true ∧ (txRun 16383 (txDev 0 0)).frames = [] ∧
    meets (rxDev 1 0) [(rxRun 16383 (rxDev 1 0)).acquired, rdB FLW_RX_valid [16383] (rxDev 1 0), isAudio (rxRun 16383 (rxDev 1 0)).desc.kind] = true ∧
    meets (rxDev 5 0) [(rxRun 16383 (rxDev 5 0)).desc.kind == 5, !rdB FLW_RX_lost [16383] (rxDev 5 0)] = true ∧ (rxDev 5 0).flw.memb[2]? = none ∧
    meets { xpt := { dsts := [(1535, { opaqueOld := some (7, 100) })] } } [] = true := by decide +kernel

/-- The extension of sequence numbers at a wrap and at a tie (R255). -/
theorem test_extend_sequence : extendSeq (some 65535) 0 = 65536 ∧ extendSeq (some 65536) 65535 = 65535 ∧ extendSeq (some 65535) 32768 = 32768 := by decide +kernel

/-- An aperture onto the overlay of head 15 in a 1080p format. -/
def winDev : Dev := dev [(INK_WIN_target, [31], 1), (INK_WIN_head, [31], 15), (QLT_HEAD_FMT_fmt, [15], 1)] { pat := (dstDev 2).pat }

theorem test_witness_WindowAndOverlays : meets winDev [bar2Target (31 * 33554432 + 8294399) winDev == some (67108864 * 15 + 33554432 + 8294399, true),
      bar2Target (31 * 33554432 + 8294400) winDev == none, canAsk 0 winDev, !canAsk 2 winDev, !rdB INK_OVL_pending [15] winDev,
      rdB INK_OVL_pending [15] (dev [(INK_OVL_pending, [15], 1)] (dstDev 2)), famRunning 2 (dev [(QLT_HEAD_FMT_fam, [15], 2)] (dstDev 2))] = true := by decide +kernel

theorem test_window_write_reads_back : tabGet 0 (after (.bar2Access 0 (31 * 33554432 + 8294399) 1 (some [(0, 0xA5)])) winDev).ink.bytes (67108864 * 15 + 33554432 + 8294399) = 0xA5 := by
  decide +kernel

def syncDev : Dev := dev [(INK_SYNC_valid, [1535], 1)] { dstDev 2 with ink := { syncs := [(1535, { fam := 2, fmt := 1 })], cap := some { frame := some {} } } }

theorem test_witness_CapturesAndSynchronisers : meets syncDev [syncValid 1535 syncDev, !(syncRun 1535 syncDev).head, famRunning (syncRun 1535 syncDev).fam syncDev, syncDev.ink.cap.isSome,
      rdB INK_CAP_ST_busy [] (dev [(INK_CAP_ST_busy, [], 1)]), !surfValid 4095 syncDev] = true ∧ ({} : Dev).ink.cap = none := by decide +kernel

/-- DRAM channel 11 in a state, at a training step and sub-state. -/
def dramDev (st step sub : Nat) (r : DramRun := {}) (fs : List (Fld × List Nat × Nat) := []) : Dev :=
  devIn (fDram 11) st ([(DRC_STATUS_train_step, [11], step), (DRC_STATUS_sub, [11], sub)] ++ fs) { drams := if r = {} then [] else [(11, r)] }

theorem test_witness_DramChannels : meets (dramDev 1 7 0) [funcState (fDram 11) (dramDev 1 7 0) == 1, rd DRC_STATUS_train_step [11] (dramDev 1 7 0) == 7,
      rd DRC_STATUS_train_step [11] (dramDev 1 6 0) == 6, (dramRun 11 (dramDev 1 1 0 { restart := true })).restart, funcState (fDram 11) (dramDev 3 0 0) == 3,
      !placedOn 11 (dramDev 3 0 0), running (fDram 11) (dramDev 2 0 1), rd DRC_STATUS_sub [11] (dramDev 2 0 1) == 1, rd DRC_STATUS_sub [11] (dramDev 2 0 3) == 3,
      isFixed 11 (dramDev 2 0 0 {} [(TLR_CFG_fixed_mask, [], 2048)]), dramActive 11 (dramDev 2 0 0 {} [(DRC_SR_sr_en, [11], 1)]),
      rdB DRC_SR_sr_en [11] (dramDev 2 0 0 {} [(DRC_SR_sr_en, [11], 1)]), !captureOn 11 (dramDev 2 0 0), maskOk (List.replicate 80 (0x1F, 0x1F)),
      !maskOk (List.replicate 80 (0xF, 0x1F)), !rdB DRC_TEMP_high [11] (dramDev 2 0 0)] = true := by decide +kernel

theorem test_training_ends_running : funcState (fDram 11) (after (.trainingSubstepEnd 11 { stepDone := true }) (dramDev 1 7 0)) = 2 ∧
    rd DRC_STATUS_train_step [11] (after (.trainingSubstepEnd 11 { stepDone := true }) (dramDev 1 6 0)) = 7 := by decide +kernel

/-- AES3 input 7 (port 15) running, with its lock state. -/
def ainDev (lock invalid : Nat) : Dev := devIn (fAin 7) 2 [(APT_AIN_STATUS_lock, [7], lock)] { apt := { sides := if invalid = 0 then [] else [(15, { invalid := invalid })] } }

theorem test_witness_AudioPortsAndGather : meets (ainDev 2 2) [running (portFunc 15) (ainDev 2 2), sideState 15 (ainDev 2 2) == 2, decide (2 ≤ (side 15 (ainDev 2 2)).invalid),
      sideState 15 (ainDev 0 0) == 0, portMaster 7 (dev [(APT_TDM_CFG_master, [7], 1)]), funcState (portFunc 23) (devIn (fAout 7) 3 []) == 3,
      funcState fGather (devIn fGather 2 []) == 2, funcState fGather (devIn fGather 3 []) == 3, funcState fGather {} != 2,
      decide ((devIn fGather 2 []).gth.queue.length < 16384), decide (16384 ≤ ({ gth := { queue := List.replicate 16384 (0, 0) } } : Dev).gth.queue.length)] = true := by
  decide +kernel

/-- Seam link 23 running on octet 23, with lane 0 locked. -/
def seamDev (k : SeaLink) (fs : List (Fld × List Nat × Nat) := []) : Dev :=
  devIn (fSeam 23) 2 ([(SEA_LINK_CFG_octet, [23], 23), (LNS_STATUS_lock, [184], 1), (LNS_STATUS_train, [184], 2)] ++ fs) { sea := { links := [(23, k)] } }

theorem test_witness_SeamFramesAndLanes : meets (seamDev { peerOk := 1, lanes := [(0, { rejoinAt := 7 })] }) [running (fSeam 23) (seamDev { peerOk := 1, lanes := [(0, { rejoinAt := 7 })] }),
      rdB LNS_STATUS_lock [linkLane 23 0 (seamDev {})] (seamDev {}), rd LNS_STATUS_train [linkLane 23 0 (seamDev {})] (seamDev {}) == 2, (seaLane 23 0 (seamDev {})).answered,
      !(seaLane 23 0 (seamDev {})).miswired, linkPeer 23 (seamDev {}) != 1, (seaLane 23 0 (seamDev { peerOk := 1, lanes := [(0, { rejoinAt := 7 })] })).rejoinAt != 0,
      Nat.testBit (seaLink 23 (seamDev { peerOk := 1, lanes := [(0, { rejoinAt := 7 })] })).peerOk 0, !Nat.testBit (rd SEA_LINK_ST_tx_lanes [23] (seamDev {})) 0] = true ∧
    running (fSeam 23) {} = false := by decide +kernel

/-- Numbers awaited, ahead by one and by 32,767, and taken before. -/
theorem test_witness_SeamMessages : meets (seamDev { nextRx := 65535, unacked := [{ sent := 16 }, { sent := 17 }] }) [running (fSeam 23) (seamDev { nextRx := 65535 })] = true ∧
    (65535 + 65536 - 65535) % 65536 = 0 ∧ (0 + 65536 - 65535) % 65536 = 1 ∧ (32766 + 65536 - 65535) % 65536 = 32767 ∧ (65534 + 65536 - 65535) % 65536 = 65535 ∧
    (seaLink 23 (seamDev {})).ahead = [] ∧ (seaLink 23 (seamDev {})).unacked = [] := by decide +kernel

def standby (fs : List (Fld × List Nat × Nat)) : Dev := dev ([(DUC_FABRIC_role, [], 3), (RUL_STATUS_time_set, [], 1)] ++ fs)

theorem test_witness_MastersAndResynchronisation : meets (standby []) [roleOf (standby []) == 3, !selfActing (standby []), rdB RUL_STATUS_time_set [] (standby []),
      selfActing (standby [(SEA_TIME_self_acting, [], 1)]), towardsMaster (standby []) == none, towardsMaster memberDev == some 23, !seamSelected (standby []),
      seamSelected (standby [(RUL_STATUS_state, [], 2), (RUL_STATUS_sel, [], 4)])] = true ∧
    meets { standby [] with sea := { transfer := 1, sendValid := true, image := some {}, waits := [(4097, 0, .layer 0 0 [])] } } [decide (0 + 4096 < 4097)] = true := by decide +kernel

/-- A session in a state on a unit with keys. -/
def sessDev (st : Nat) (type : Nat := 1) : Dev := { nv := { keys := true, sess := some { hdr := [0x425A5550, 65536 + type], start := some 0, state := st } } }

theorem test_witness_UpdateSessions : meets (sessDev 1) [(openSess (sessDev 1)).isSome, rdB THM_ATT_ST_busy [] (dev [(THM_ATT_ST_busy, [], 1)]), !rdB THM_ATT_ST_busy [] {}, (sessDev 1).nv.keys,
      !({} : Dev).nv.keys, ((openSess (sessDev 2)).map (·.state) == some 2), hdrType ((openSess (sessDev 2)).map (·.hdr) |>.getD []) == 1, rdB UPD_CFG_inband_en [] (dev [(UPD_CFG_inband_en, [], 1)]),
      !updatesTaken (dev [(UPD_CFG_inband_en, [], 0)])] = true ∧ openSess {} = none ∧ offerCode [] {} {} = 2 ∧
    meets (dev [(RUL_STATUS_time_set, [], 1)] (sessDev 1)) [decide (0 < ntwSecond (sessDev 1) + 86400)] = true := by decide +kernel

/-- A header that passes the checks of R496: it opens a session, and joins one of the same image. -/
def offered : List Nat := [0x425A5550, 0x00010001, 0x2416, 0, 0, 0, 1024, 1]

theorem test_offer_passes_its_checks : offerCode offered { romKey := true, sigOk := true, flash := true } { nv := { keys := true } } = 0 ∧
    (openSess { nv := { keys := true, sess := some { hdr := offered, state := 1 } } }).map (·.hdr) = some offered := by decide +kernel

theorem test_witness_ActivationAndTestAccess : meets (sessDev 3 2) [((openSess (sessDev 3 2)).map (·.state) == some 3), !(sessDev 3 2).boot.window,
      hdrType ((openSess (sessDev 3 2)).map (·.hdr) |>.getD []) == 2, actAt (sessDev 3 2) == some 0] = true ∧
    meets { sessDev 4 with boot := { copied := true } } [] = true ∧ windowOpen { boot := { window := true } } = true ∧
    meets (dev [(TOP_BOOT_ST_phase, [], 6), (TOP_BOOT_ST_restore_src, [], 1)] { boot := { window := true } }) [rd TOP_BOOT_ST_restore_src [] (dev [(TOP_BOOT_ST_restore_src, [], 1)]) == 1] = true ∧
    (slotOf 1 {}).fw = none ∧ (unlockWords { nv := { serial := 9 } }).getD 2 0 = 9 := by decide +kernel

theorem test_unlock_begins : (after (.unlock 0x54455354) {}).boot.unlock = [0x54455354] ∧ (after (.unlock 9) {}).boot.unlock = [] := by decide +kernel

/-- A request that the in-band flow reads, with its flow enabled. -/
def ibDev (safe : Nat) : Dev := dev [(ICN_IB_ST_enabled, [], 1), (BLT_STATUS_safe, [], safe)]

theorem test_witness_RegisterAccesses : meets {} [canAsk 0 {}, !canAsk 2 {}, hasPath 0 {}, (blockOf 0x3D00000).isSome, (blockOf 0x600000).isNone, !layerReserved 511 {}, !layerPending 511 {},
      bankInUse 0 (devIn (fHead 15) 2 [(QLT_SH_CFG_head, [0], 15)]), rdB ICN_IB_ST_enabled [] (ibDev 0), inSafe (ibDev 1), !peerOk {} {}] = true ∧
    (Instr.registerWrite 0 0x100248 [{}] {}).wf = true ∧ (Instr.shadowWrite 511 30 0).wf = true := by decide +kernel

/-- Access types: a word without its byte enables is not written, one with them is; a write one to clear clears (R8, R530). -/
theorem test_register_writes : rd TOP_SCRATCH_value [] (after (.registerWrite 0 4 [{ data := 77 }] {}) {}) = 77 ∧
    rd TOP_SCRATCH_value [] (after (.registerWrite 0 4 [{ data := 77, enabled := false }] {}) {}) = 0 ∧
    stickyOf 40 (after (.registerWrite 0 0x3E00104 [{ data := 256 }] {}) (dev [(BLT_STICKY_bits, [1], 256)])) = false := by decide +kernel

theorem test_witness_PcieAndInterrupts : meets (dev [(TOP_PCIE_ST_link_up, [], 1)]) [rdB TOP_PCIE_ST_link_up [] (dev [(TOP_PCIE_ST_link_up, [], 1)]), configRetry {},
      !configRetry { devTime := 100 * msUnits }, Nat.testBit ({ irq := { holding := 32768 } } : Dev).irq.holding 15, funcState (fSeam 23) (devIn (fSeam 23) 3 []) == 3,
      funcState (fMac 47) (devIn (fMac 47) 3 []) == 3] = true ∧ (Instr.testReset (some {})).wf = true := by decide +kernel

end Sys2Proof.Tests
end

section
/-! PROOFS. The linear value of an NTW and its 128-bit word (R5, R29). -/

namespace Sys2Proof.Machine

theorem nibsPerSec_eq : Config.nibsPerSec = 52920000000 := rfl

theorem fracPerNib_eq : Config.fracPerNib = 2 ^ 44 := rfl

/-- The linear values whose seconds fit in the 48 bits of an NTW word. -/
def ntwSpan : Nat := 2 ^ 48 * (52920000000 * 2 ^ 44)

/-- The whole seconds of a linear value. -/
def secOf (t : Nat) : Nat := nibOf t / Config.nibsPerSec

/-- The nib of the second of a linear value. -/
def nibInSec (t : Nat) : Nat := nibOf t % Config.nibsPerSec

theorem nibInSec_lt (t : Nat) : nibInSec t < 52920000000 := Nat.mod_lt _ (by decide)

theorem secOf_lt {t : Nat} (ht : t < ntwSpan) : secOf t < 2 ^ 48 := by
  rw [secOf, nibOf, Nat.div_div_eq_div_mul]
  exact Nat.div_lt_of_lt_mul (by rwa [Nat.mul_comm, Nat.mul_comm Config.fracPerNib])

theorem secOf_le_of_le {t u : Nat} (h : t ≤ u) : secOf t ≤ secOf u :=
  Nat.div_le_div_right (Nat.div_le_div_right h)

/-- A linear value is put together from its seconds, its nib of the second and its fraction (R29). -/
theorem linear_of_fields (t : Nat) :
    (secOf t * 52920000000 + nibInSec t) * 2 ^ 44 + t % 2 ^ 44 = t := by
  have hnib : secOf t * 52920000000 + nibInSec t = t / 2 ^ 44 :=
    Nat.div_add_mod' (nibOf t) Config.nibsPerSec
  rw [hnib, Nat.div_add_mod']

/-- Inside the span no second wraps, so the word holds the three fields side by side. -/
theorem ntwWord_eq_fields {t : Nat} (ht : t < ntwSpan) :
    ntwWord t = secOf t * 2 ^ 80 + nibInSec t * 2 ^ 44 + t % 2 ^ 44 := by
  change secOf t % 2 ^ 48 * 2 ^ 80 + nibInSec t * 2 ^ 44 + t % Config.fracPerNib = _
  rw [Nat.mod_eq_of_lt (secOf_lt ht), fracPerNib_eq]

theorem ntwWord_sec {t : Nat} (ht : t < ntwSpan) : ntwWord t / 2 ^ 80 = secOf t := by
  have hnib := nibInSec_lt t
  rw [ntwWord_eq_fields ht]
  omega

theorem ntwWord_nib {t : Nat} (ht : t < ntwSpan) : ntwWord t / 2 ^ 44 % 2 ^ 36 = nibInSec t := by
  have hnib := nibInSec_lt t
  rw [ntwWord_eq_fields ht]
  omega

theorem ntwWord_frac {t : Nat} (ht : t < ntwSpan) : ntwWord t % 2 ^ 44 = t % 2 ^ 44 := by
  rw [ntwWord_eq_fields ht]
  omega

theorem ntwOfWord_ntwWord {t : Nat} (ht : t < ntwSpan) : ntwOfWord (ntwWord t) = some t := by
  rw [ntwOfWord, ntwWord_sec ht, ntwWord_nib ht, ntwWord_frac ht, Nat.mod_eq_of_lt (secOf_lt ht),
    nibsPerSec_eq, fracPerNib_eq]
  rw [if_pos (nibInSec_lt t), linear_of_fields]

/-- Each second leaves 2^36 - 52,920,000,000 = 15,799,476,736 nib codes unused: the word is the linear value and that gap for every whole second. -/
theorem ntwWord_eq_add_gaps {t : Nat} (ht : t < ntwSpan) :
    ntwWord t = t + secOf t * (15799476736 * 2 ^ 44) := by
  have hgap : (2 : Nat) ^ 80 = 52920000000 * 2 ^ 44 + 15799476736 * 2 ^ 44 := by decide
  calc ntwWord t = secOf t * 2 ^ 80 + nibInSec t * 2 ^ 44 + t % 2 ^ 44 := ntwWord_eq_fields ht
    _ = (secOf t * 52920000000 + nibInSec t) * 2 ^ 44 + t % 2 ^ 44 + secOf t * (15799476736 * 2 ^ 44) := by
      rw [hgap, Nat.mul_add, Nat.add_mul, Nat.mul_assoc]
      ac_rfl
    _ = t + secOf t * (15799476736 * 2 ^ 44) := by rw [linear_of_fields]

/-- A later linear value has no fewer whole seconds, so no fewer gaps, and its word is greater. -/
theorem ntwWord_lt_of_lt {t u : Nat} (ht : t < ntwSpan) (hu : u < ntwSpan) (htu : t < u) :
    ntwWord t < ntwWord u := by
  rw [ntwWord_eq_add_gaps ht, ntwWord_eq_add_gaps hu]
  exact Nat.add_lt_add_of_lt_of_le htu
    (Nat.mul_le_mul_right _ (secOf_le_of_le (Nat.le_of_lt htu)))

theorem ntwWord_le_of_le {t u : Nat} (ht : t < ntwSpan) (hu : u < ntwSpan) (htu : t ≤ u) :
    ntwWord t ≤ ntwWord u := by
  rw [ntwWord_eq_add_gaps ht, ntwWord_eq_add_gaps hu]
  exact Nat.add_le_add htu (Nat.mul_le_mul_right _ (secOf_le_of_le htu))

theorem ntwWord_lt_iff_lt {t u : Nat} (ht : t < ntwSpan) (hu : u < ntwSpan) :
    ntwWord t < ntwWord u ↔ t < u :=
  ⟨fun h => Nat.lt_of_not_le fun hut => Nat.not_le_of_lt h (ntwWord_le_of_le hu ht hut),
    ntwWord_lt_of_lt ht hu⟩

end Sys2Proof.Machine

namespace Sys2Proof
open Machine

/-- Settles O23: the word holds the three fields of the linear value, and it grows with the linear value. -/
theorem ntwWordsCompareAsLinearValues : Obligations.NtwWordsCompareAsLinearValues := by
  intro t u ht hu
  refine ⟨?_, ?_, (ntwWord_lt_iff_lt ht hu).symm, ntwOfWord_ntwWord ht, ?_⟩
  · rw [ntwWord_sec ht, ntwWord_nib ht, ntwWord_frac ht, linear_of_fields]
  · rw [ntwWord_nib ht]
    exact nibInSec_lt t
  · intro a b ha hb
    rw [ntwOfWord_ntwWord ht, Option.some_inj] at ha
    rw [ntwOfWord_ntwWord hu, Option.some_inj] at hb
    rw [ha, hb]

end Sys2Proof
end

section
/-! PROOFS. What the resets leave of the Ruling: PORST_N nothing, SRST_N all of it (R67). -/

namespace Sys2Proof.Machine

/-! ### A power-on reset -/

/-- A power-on reset writes one register, the member number; every other reads its reset value (R463). -/
theorem rd_powerOnReset (memberId : Nat) (d : Dev) {f : Fld} (ix : List Nat)
    (hf : f.no % 1024 ≠ SEA_FABRIC_member.no % 1024) : rd f ix (powerOnReset memberId d) = f.reset ix := by
  rw [powerOnReset, rd_wr_ne _ _ (key_reg hf)]
  exact Nat.zero_xor _

theorem rd_porstPulse (memberId : Nat) (d : Dev) {f : Fld} (ix : List Nat)
    (hf : f.no % 1024 ≠ SEA_FABRIC_member.no % 1024) : rd f ix (porstPulse memberId d) = f.reset ix :=
  rd_powerOnReset memberId d ix hf

/-- The member number is no register of the Ruling's block. -/
theorem regsRul_ne_member : ∀ r ∈ regsRul, ∀ f ∈ r.flds, f.no % 1024 ≠ SEA_FABRIC_member.no % 1024 := by
  decide

theorem steering_porstPulse (memberId : Nat) (d : Dev) : steering (porstPulse memberId d) = 0 := by
  rw [steering, rdS, rd_porstPulse _ _ _ (by decide)]
  rfl

@[simp] theorem porstPulse_rul (memberId : Nat) (d : Dev) : (porstPulse memberId d).rul = {} := rfl
@[simp] theorem porstPulse_ntw (memberId : Nat) (d : Dev) : (porstPulse memberId d).ntw = 0 := rfl

/-! ### A soft reset -/

/-- The Ruling goes on: its own state, its NTW, device time and every register of its block are as they were. -/
structure RulingKept (d e : Dev) : Prop where
  rul : e.rul = d.rul
  ntw : e.ntw = d.ntw
  devTime : e.devTime = d.devTime
  regs : ∀ r ∈ regsRul, ∀ f ∈ r.flds, ∀ ix, rd f ix e = rd f ix d

theorem RulingKept.steering {d e : Dev} (h : RulingKept d e) : steering e = steering d := by
  unfold Machine.steering rdS
  rw [h.regs RUL_DCO_ACT (by simp [regsRul]) RUL_DCO_ACT_value (by simp [RUL_DCO_ACT])]

/-- A frame that takes in nothing of the Ruling keeps it. -/
theorem Kept.rulingKept {m : Nat} {d e : Dev} (h : Kept m d e) (hrul : Nat.land m 0x800 = 0)
    (hntw : Nat.land m 0x8 = 0) (hdev : Nat.land m 0x10 = 0)
    (hregs : ∀ r ∈ regsRul, ∀ f ∈ r.flds, Nat.testBit m (33 + f.no % 1024) = false) : RulingKept d e where
  rul := h.rul hrul
  ntw := h.ntw hntw
  devTime := h.devTime hdev
  regs r hr f hf ix := h.rd f ix (hregs r hr f hf)

theorem execSrstN_rulingKept {s t : State} (h : execSrstN s = .next t) : RulingKept s.dev t.dev := by
  obtain ⟨-, hkept⟩ := execSrstN_keeps h
  exact hkept.rulingKept (by decide) (by decide) (by decide) (by decide)

end Sys2Proof.Machine

namespace Sys2Proof
open Machine

/-- Settles O15: PORST_N starts from an empty device and writes no register of the Ruling; the frame of SRST_N takes in nothing of the Ruling. -/
theorem rulingIsResetByPorstAndKeptBySrst : Obligations.RulingIsResetByPorstAndKeptBySrst := by
  refine ⟨fun m s hm => ?_, fun hwf s hawake => ?_⟩
  · have hnext : exec (.porstN m) s = .next { s with dev := porstPulse m (quiet s.dev) } :=
      performAlways_next (decide_eq_true hm)
    exact ⟨_, hnext, rfl, porstPulse_rul _ _, fun r hr f hf ix => rd_porstPulse _ _ ix (regsRul_ne_member r hr f hf),
      steering_porstPulse _ _, rd_porstPulse _ _ _ (by decide), porstPulse_ntw _ _⟩
  · have hnext : exec .srstN s = .next { s with dev := raises (quiet s.dev) (softReset 1 (quiet s.dev)) } :=
      perform_next hwf hawake
    have hkept := execSrstN_rulingKept hnext
    exact ⟨_, hnext, rfl, hkept.rul, hkept.steering, hkept.ntw, hkept.devTime,
      fun r hr f hf i _ => ⟨hkept.regs r hr f hf [], hkept.regs r hr f hf [i]⟩⟩

end Sys2Proof
end

section
/-! PROOFS. What each command can change at most: the frames of all commands side by side, and the invariants that follow from them. -/

namespace Sys2Proof

/-- The application of the Pattern (R471). -/
def Instr.appliesPattern : Instr → Bool
  | .patternApplyDone _ => true
  | _ => false

/-- Firmware's tick (R90). -/
def Instr.isTick : Instr → Bool
  | .tick _ => true
  | _ => false

/-- The commands at which the boot phase may change outside resets: the ROM's verdict, a frame boundary, a takeover and a resync (R466, R476, R477). -/
def Instr.stepsBoot : Instr → Bool
  | .romVerifyDone _
  | .frameBoundary _ _
  | .takeover
  | .resyncApply => true
  | _ => false

/-- The commands that drive output pins or follow the levels of input pins, resets among them. -/
def Instr.drivesPins : Instr → Bool
  | .thermalTrip
  | .coreVidValid
  | .ppsOutPulse
  | .pulseWidthEnd _
  | .frameBoundary _ _
  | .safeStateEntry
  | .testEnFall _
  | .pciePerstN _ _ => true
  | c => c.isReset

theorem Instr.drivesPins_of_isReset {c : Instr} (h : c.isReset = true) : c.drivesPins = true := by
  cases c with
  | thermalTrip => rfl
  | coreVidValid => rfl
  | ppsOutPulse => rfl
  | pulseWidthEnd _ => rfl
  | frameBoundary _ _ => rfl
  | safeStateEntry => rfl
  | testEnFall _ => rfl
  | pciePerstN _ _ => rfl
  | _ => exact h

theorem Instr.appliesPattern_eq_false {c : Instr} (h : ∀ v, c ≠ .patternApplyDone v) : c.appliesPattern = false := by
  cases c with
  | patternApplyDone v => exact absurd rfl (h v)
  | _ => rfl

theorem Instr.isTick_eq_false {c : Instr} (h : ∀ o, c ≠ .tick o) : c.isTick = false := by
  cases c with
  | tick o => exact absurd rfl (h o)
  | _ => rfl

theorem Instr.stepsBoot_eq_false {c : Instr} (hrom : ∀ v, c ≠ .romVerifyDone v) (hframe : ∀ fam reads, c ≠ .frameBoundary fam reads)
    (htake : c ≠ .takeover) (hsync : c ≠ .resyncApply) : c.stepsBoot = false := by
  cases c with
  | romVerifyDone v => exact absurd rfl (hrom v)
  | frameBoundary fam reads => exact absurd rfl (hframe fam reads)
  | takeover => exact absurd rfl htake
  | resyncApply => exact absurd rfl hsync
  | _ => rfl

namespace Machine

/-! ### Every command is carried out by `perform` or `performAlways` -/

theorem exec_form (c : Instr) :
    (∃ f, ∀ s, exec c s = perform c f s) ∨ (c.worksHeld = true ∧ ∃ f, ∀ s, exec c s = performAlways c f s) := by
  cases c with
  | porstN _ => exact .inr ⟨rfl, _, fun _ => rfl⟩
  | supplyDetector => exact .inr ⟨rfl, _, fun _ => rfl⟩
  | supplyRecovery _ => exact .inr ⟨rfl, _, fun _ => rfl⟩
  | pciePerstN _ _ => exact .inr ⟨rfl, _, fun _ => rfl⟩
  | _ => exact .inl ⟨_, fun _ => rfl⟩

theorem perform_wf {c : Instr} {f : Dev → Dev} {s : State} (hw : c.wf = true) :
    perform c f s = .next { s with dev := run f s.dev } := if_pos hw

theorem perform_illFormed {c : Instr} {f : Dev → Dev} {s : State} (hw : c.wf = false) : perform c f s = .fault .illFormed :=
  if_neg (Bool.eq_false_iff.mp hw)

theorem performAlways_illFormed {c : Instr} {f : Dev → Dev} {s : State} (hw : c.wf = false) : performAlways c f s = .fault .illFormed :=
  if_neg (Bool.eq_false_iff.mp hw)

theorem run_held {f : Dev → Dev} {d : Dev} (h : heldDown d = true) : run f d = quiet d := if_pos h

theorem run_awake {f : Dev → Dev} {d : Dev} (h : heldDown d = false) : run f d = raises (quiet d) (f (quiet d)) :=
  if_neg (Bool.eq_false_iff.mp h)

theorem perform_dev {c : Instr} {f : Dev → Dev} {s t : State} (h : perform c f s = .next t) : t.dev = run f s.dev := by
  unfold perform at h
  split at h
  · cases h
    rfl
  · cases h

/-! ### The frames -/

/-- None of the fields lies within the mask. -/
def fieldsOutside (fs : List Fld) (m : Nat) : Bool := fs.all (fun f => !Nat.testBit m (33 + f.no % 1024))

/-- The mask takes in no clearing of sticky bits, no flash or OTP, no clocks, no pins and no status that only other commands may change. -/
def frameFits (c : Instr) (m : Nat) : Bool :=
  (c.accessesRegisters || c.isPowerOn || c.appliesPattern || !Nat.testBit m 1057) &&
  (c.mayWriteFlash || Nat.land m 0x20000000 == 0) &&
  (c.isReset || c == .thermalTrip || Nat.land m 0x100 == 0) &&
  (c.drivesPins || Nat.land m 0x400 == 0) &&
  (c.accessesRegisters || c.isReset || c.appliesPattern ||
    (c.isTick || fieldsOutside [RUL_STATUS_state, RUL_STATUS_time_set, RUL_DCO_ACT_value] m) &&
    (c == .safeStateEntry || c == .safeStateExit || c == .safeRelease || c.isTick || fieldsOutside [BLT_STATUS_safe] m) &&
    (c == .launch || c == .takeover || c == .resyncApply || fieldsOutside [XPT_DST_SRC_src] m) &&
    (c == .safeStateExit || c.isTick || fieldsOutside [BLT_RECOV_count] m) &&
    (c.stepsBoot || fieldsOutside [TOP_BOOT_ST_phase] m) &&
    fieldsOutside [TOP_RESET_CAUSE_cause, SEA_FABRIC_member] m)

/-- What a command changes lies within a mask that fits it. -/
def Framed (c : Instr) : Prop :=
  ∃ m, frameFits c m = true ∧ ∀ s t, exec c s = .next t → t.pending = s.pending ∧ Kept m s.dev t.dev

theorem framed {c : Instr} {m : Nat} (hk : ∀ {s t}, exec c s = .next t → t.pending = s.pending ∧ Kept m s.dev t.dev)
    (hm : frameFits c m = true := by rfl) : Framed c := ⟨m, hm, fun _ _ => hk⟩

/-- Each command's own frame fits it. -/
theorem exec_framed (c : Instr) : Framed c := by
  cases c with
  | porstN _ => exact framed execPorstN_keeps
  | srstN => exact framed execSrstN_keeps
  | lockstepMismatch => exact framed execLockstepMismatch_keeps
  | watchdogExpiry => exact framed execWatchdogExpiry_keeps
  | supplyDetector => exact framed execSupplyDetector_keeps
  | supplyExcursion _ => exact framed execSupplyExcursion_keeps
  | thermalTrip => exact framed execThermalTrip_keeps
  | temperatureSample _ _ _ => exact framed execTemperatureSample_keeps
  | pllLossOfLock => exact framed execPllLossOfLock_keeps
  | coreVidValid => exact framed execCoreVidValid_keeps
  | romVerifyDone _ => exact framed execRomVerifyDone_keeps
  | patternApplyDone _ => exact framed execPatternApplyDone_keeps
  | startUpInput => exact framed execStartUpInput_keeps
  | serveTimeout => exact framed execServeTimeout_keeps
  | fabricWaitTimeout => exact framed execFabricWaitTimeout_keeps
  | stateTransferStart => exact framed execStateTransferStart_keeps
  | tick _ => exact framed execTick_keeps
  | holdOffExpiry _ => exact framed execHoldOffExpiry_keeps
  | refFramePulse _ _ => exact framed execRefFramePulse_keeps
  | sync _ _ _ _ => exact framed execSync_keeps
  | xoInLost => exact framed execXoInLost_keeps
  | step _ => exact framed execStep_keeps
  | clrHoldoff _ => exact framed execClrHoldoff_keeps
  | candidateConfigWrite _ _ => exact framed execCandidateConfigWrite_keeps
  | ppsOutPulse => exact framed execPpsOutPulse_keeps
  | pulseWidthEnd _ => exact framed execPulseWidthEnd_keeps
  | doorbell _ _ => exact framed execDoorbell_keeps
  | mailboxWrite _ _ _ _ => exact framed execMailboxWrite_keeps
  | salvoAcceptance _ => exact framed execSalvoAcceptance_keeps
  | launch => exact framed execLaunch_keeps
  | switchPoint _ => exact framed execSwitchPoint_keeps
  | audioGridSample _ => exact framed execAudioGridSample_keeps
  | crossfadeComplete _ _ => exact framed execCrossfadeComplete_keeps
  | frameBoundary _ _ => exact framed execFrameBoundary_keeps
  | dualWriteStart => exact framed execDualWriteStart_keeps
  | migrationCompletion => exact framed execMigrationCompletion_keeps
  | migrationRelease => exact framed execMigrationRelease_keeps
  | resourceRelease => exact framed execResourceRelease_keeps
  | safeStateEntry => exact framed execSafeStateEntry_keeps
  | safeStateExit => exact framed execSafeStateExit_keeps
  | safeRelease => exact framed execSafeRelease_keeps
  | pinRelease => exact framed execPinRelease_keeps
  | faultNTimerExpiry => exact framed execFaultNTimerExpiry_keeps
  | fire _ => exact framed execFire_keeps
  | retrainingPause _ => exact framed execRetrainingPause_keeps
  | pauseEvaluation _ _ => exact framed execPauseEvaluation_keeps
  | pauseEnd _ => exact framed execPauseEnd_keeps
  | evacuation => exact framed execEvacuation_keeps
  | placementGapTimeout => exact framed execPlacementGapTimeout_keeps
  | digestSnapshot => exact framed execDigestSnapshot_keeps
  | digestTimeout => exact framed execDigestTimeout_keeps
  | signalDetect _ => exact framed execSignalDetect_keeps
  | huntDwellEnd _ _ _ _ => exact framed execHuntDwellEnd_keeps
  | lossOfLock _ _ => exact framed execLossOfLock_keeps
  | synthesiserLock _ _ => exact framed execSynthesiserLock_keeps
  | octetStartTimeout _ => exact framed execOctetStartTimeout_keeps
  | octetStopped _ => exact framed execOctetStopped_keeps
  | trainingComplete _ _ _ _ _ _ => exact framed execTrainingComplete_keeps
  | trainingTimeout _ => exact framed execTrainingTimeout_keeps
  | trainingRetry _ => exact framed execTrainingRetry_keeps
  | frequencyOutOfRange _ _ => exact framed execFrequencyOutOfRange_keeps
  | scanStart _ _ => exact framed execScanStart_keeps
  | scanDone _ _ _ _ _ => exact framed execScanDone_keeps
  | ethRefclkLoss _ => exact framed execEthRefclkLoss_keeps
  | ethRefclkReturn _ => exact framed execEthRefclkReturn_keeps
  | synthesiserUnlock _ _ => exact framed execSynthesiserUnlock_keeps
  | sdiLine _ _ => exact framed execSdiLine_keeps
  | st352Packet _ _ => exact framed execSt352Packet_keeps
  | linkUp _ => exact framed execLinkUp_keeps
  | linkDown _ _ => exact framed execLinkDown_keeps
  | receiveFrame _ _ => exact framed execReceiveFrame_keeps
  | pauseExpiry _ => exact framed execPauseExpiry_keeps
  | pauseEnWrite _ _ => exact framed execPauseEnWrite_keeps
  | transmitFrame _ _ => exact framed execTransmitFrame_keeps
  | packetOffer _ => exact framed execPacketOffer_keeps
  | packetRelease _ => exact framed execPacketRelease_keeps
  | opaqueFlowTimeout _ => exact framed execOpaqueFlowTimeout_keeps
  | opaqueMarkerTimeout _ => exact framed execOpaqueMarkerTimeout_keeps
  | reportRepeat _ => exact framed execReportRepeat_keeps
  | syncOutputFrame _ _ => exact framed execSyncOutputFrame_keeps
  | flip _ => exact framed execFlip_keeps
  | overlayExchange _ => exact framed execOverlayExchange_keeps
  | captureStart _ _ => exact framed execCaptureStart_keeps
  | captureDone => exact framed execCaptureDone_keeps
  | bar2Access _ _ _ _ => exact framed execBar2Access_keeps
  | trainingSubstepEnd _ _ => exact framed execTrainingSubstepEnd_keeps
  | speedTargetWrite _ _ => exact framed execSpeedTargetWrite_keeps
  | channelStopped _ => exact framed execChannelStopped_keeps
  | driftTracking _ _ => exact framed execDriftTracking_keeps
  | idleTimeout _ => exact framed execIdleTimeout_keeps
  | selfRefreshEntered _ => exact framed execSelfRefreshEntered_keeps
  | wakeComplete _ _ => exact framed execWakeComplete_keeps
  | patrolScrub _ _ _ => exact framed execPatrolScrub_keeps
  | refreshRateRead _ _ _ => exact framed execRefreshRateRead_keeps
  | commit _ => exact framed execCommit_keeps
  | layerInput _ _ => exact framed execLayerInput_keeps
  | commitLanding _ => exact framed execCommitLanding_keeps
  | shadowWrite _ _ _ => exact framed execShadowWrite_keeps
  | bankProgramWrite _ _ => exact framed execBankProgramWrite_keeps
  | portFrame _ _ => exact framed execPortFrame_keeps
  | portClockLoss _ => exact framed execPortClockLoss_keeps
  | portStopComplete _ => exact framed execPortStopComplete_keeps
  | gainWrite _ _ => exact framed execGainWrite_keeps
  | biquadCoefficientWrite _ _ _ _ => exact framed execBiquadCoefficientWrite_keeps
  | gatherStopComplete => exact framed execGatherStopComplete_keeps
  | seamFrame _ _ _ => exact framed execSeamFrame_keeps
  | seamFrameTransmit _ => exact framed execSeamFrameTransmit_keeps
  | trainingFrame _ _ _ => exact framed execTrainingFrame_keeps
  | laneRejoin _ _ => exact framed execLaneRejoin_keeps
  | ack _ _ => exact framed execAck_keeps
  | forward _ _ _ => exact framed execForward_keeps
  | announce _ _ _ _ _ => exact framed execAnnounce_keeps
  | request _ _ _ => exact framed execRequest_keeps
  | digest _ _ _ _ => exact framed execDigest_keeps
  | twinSync _ _ _ _ => exact framed execTwinSync_keeps
  | state _ _ _ => exact framed execState_keeps
  | messageResend _ => exact framed execMessageResend_keeps
  | takeover => exact framed execTakeover_keeps
  | timeValidExpiry => exact framed execTimeValidExpiry_keeps
  | resync => exact framed execResync_keeps
  | resyncApply => exact framed execResyncApply_keeps
  | handover => exact framed execHandover_keeps
  | journalEntry _ => exact framed execJournalEntry_keeps
  | checkpoint _ => exact framed execCheckpoint_keeps
  | durabilityLag => exact framed execDurabilityLag_keeps
  | attestationStart => exact framed execAttestationStart_keeps
  | attestationDone => exact framed execAttestationDone_keeps
  | offer _ => exact framed execOffer_keeps
  | put _ => exact framed execPut_keeps
  | offerDatagram _ _ _ _ _ => exact framed execOfferDatagram_keeps
  | piece _ _ _ _ => exact framed execPiece_keeps
  | query _ _ _ _ _ => exact framed execQuery_keeps
  | finalCheckDone _ _ _ => exact framed execFinalCheckDone_keeps
  | abort => exact framed execAbort_keeps
  | sessionExpiry => exact framed execSessionExpiry_keeps
  | activate => exact framed execActivate_keeps
  | copyForwardDone _ => exact framed execCopyForwardDone_keeps
  | activationInstant => exact framed execActivationInstant_keeps
  | approve => exact framed execApprove_keeps
  | healthConfirm => exact framed execHealthConfirm_keeps
  | healthWindowExpiry => exact framed execHealthWindowExpiry_keeps
  | unlock _ => exact framed execUnlock_keeps
  | testEnFall _ => exact framed execTestEnFall_keeps
  | unlockTimeout => exact framed execUnlockTimeout_keeps
  | registerWrite _ _ _ _ => exact framed execRegisterWrite_keeps
  | clearOnRead _ _ _ _ _ _ => exact framed execClearOnRead_keeps
  | snapshotRead _ _ _ _ _ _ => exact framed execSnapshotRead_keeps
  | accessTimeout _ _ _ _ _ => exact framed execAccessTimeout_keeps
  | pciePerstN _ _ => exact framed execPciePerstN_keeps
  | hotReset _ _ => exact framed execHotReset_keeps
  | functionLevelReset _ => exact framed execFunctionLevelReset_keeps
  | holdoffEnd _ => exact framed execHoldoffEnd_keeps
  | vectorUnmask _ => exact framed execVectorUnmask_keeps
  | controlRequest _ => exact framed execControlRequest_keeps
  | read _ _ => exact framed execRead_keeps
  | write _ _ => exact framed execWrite_keeps
  | winRead _ _ => exact framed execWinRead_keeps
  | winWrite _ _ => exact framed execWinWrite_keeps
  | receiverLock _ _ _ _ _ => exact framed execReceiverLock_keeps
  | updRevert => exact framed execUpdRevert_keeps
  | supplyRecovery _ => exact framed execSupplyRecovery_keeps
  | configurationRequest _ => exact framed execConfigurationRequest_keeps
  | pcieLinkUp _ _ => exact framed execPcieLinkUp_keeps
  | shutDownFinished _ _ => exact framed execShutDownFinished_keeps
  | testReset _ => exact framed execTestReset_keeps

/-- The frame of a command that answered a next state, with what fits it taken apart. -/
theorem exec_frame {c : Instr} {s t : State} (h : exec c s = .next t) : ∃ m, frameFits c m = true ∧ Kept m s.dev t.dev := by
  obtain ⟨m, hm, hk⟩ := exec_framed c
  exact ⟨m, hm, (hk s t h).2⟩

theorem Kept.rd_of_outside {m : Nat} {d e : Dev} {fs : List Fld} {f : Fld} (h : Kept m d e) (hfs : fieldsOutside fs m = true) (hf : f ∈ fs)
    (ix : List Nat) : Machine.rd f ix e = Machine.rd f ix d := by
  have hbit := List.all_eq_true.mp hfs f hf
  exact h.rd f ix (Bool.not_eq_true' _ ▸ hbit)

/-! ### What keeps the device powered: the clocks run on, and the code on CORE_VID stays -/

/-- Running clocks run on, and a code that is driven stays driven. -/
structure PowerKept (d e : Dev) : Prop where
  clocks : d.clocksStopped = false → e.clocksStopped = false
  vid : d.pins.coreVidValid = true → e.pins.coreVidValid = true ∧ e.pins.coreVid = d.pins.coreVid

theorem PowerKept.trans {a b c : Dev} (h : PowerKept a b) (g : PowerKept b c) : PowerKept a c where
  clocks hc := g.clocks (h.clocks hc)
  vid hv := by
    obtain ⟨hb, eb⟩ := h.vid hv
    obtain ⟨hc, ec⟩ := g.vid hb
    exact ⟨hc, ec.trans eb⟩

theorem PowerKept.of_eq {d e : Dev} (hc : e.clocksStopped = d.clocksStopped) (hv : e.pins.coreVidValid = d.pins.coreVidValid)
    (hp : e.pins.coreVid = d.pins.coreVid) : PowerKept d e where
  clocks h := hc.trans h
  vid h := ⟨hv.trans h, hp⟩

theorem PowerKept.refl (d : Dev) : PowerKept d d := .of_eq rfl rfl rfl

/-- A change of neither the clocks nor the pins. -/
theorem Kept.powerKept {m : Nat} {d e : Dev} (h : Kept m d e) (hc : Nat.land m 0x100 = 0 := by decide) (hp : Nat.land m 0x400 = 0 := by decide) :
    PowerKept d e := by
  have hpins := h.pins hp
  exact .of_eq (h.clocksStopped hc) (by rw [hpins]) (by rw [hpins])

theorem run_powerKept {f : Dev → Dev} (hf : ∀ d, PowerKept d (f d)) (d : Dev) : PowerKept d (run f d) := by
  have hquiet : PowerKept d (quiet d) := (quiet_kept d).powerKept
  cases hh : heldDown d with
  | true => rw [run_held hh]; exact hquiet
  | false => rw [run_awake hh]; exact (hquiet.trans (hf _)).trans (raises_kept _ _).powerKept

theorem perform_powerKept {c : Instr} {f : Dev → Dev} {s t : State} (h : perform c f s = .next t) (hf : ∀ d, PowerKept d (f d)) :
    PowerKept s.dev t.dev := by
  rw [perform_dev h]
  exact run_powerKept hf s.dev

theorem exec_powerKept_of {c : Instr} {f : Dev → Dev} {s t : State} (hx : ∀ s, exec c s = perform c f s) (h : exec c s = .next t)
    (hf : ∀ d, PowerKept d (f d)) : PowerKept s.dev t.dev := perform_powerKept ((hx s).symm.trans h) hf

theorem softReset_powerKept (cause : Nat) (d : Dev) : PowerKept d (softReset cause d) := by
  unfold softReset
  extract_lets stood member pins fresh recorded
  have hfresh : PowerKept d recorded := ⟨fun _ => rfl, fun h => ⟨h, rfl⟩⟩
  exact hfresh.trans (forEach_keeps (Kept.refl _ _) fun _ _ h => setRaw_keeps h (Sub.refl _)).powerKept

theorem wr_powerKept (f : Fld) (ix : List Nat) (v : Nat) (d : Dev) : PowerKept d (wr f ix v d) := .of_eq rfl rfl rfl

theorem fire_powerKept (n : Nat) (d : Dev) : PowerKept d (fire n d) := (fire_only_kept n d).powerKept

theorem fallBack_powerKept (outcome : Nat) (d : Dev) : PowerKept d (fallBack outcome d) :=
  PowerKept.trans (b := { d with nv := fallbackRecord outcome d.nv }) (.of_eq rfl rfl rfl) (softReset_powerKept 4 _)

theorem startUpInput_powerKept (d : Dev) : PowerKept d (startUpInput d) := by
  unfold startUpInput
  extract_lets dTick restore bootTick dUp dRoute bootUp dUp' seaUp
  have hTick : PowerKept d dTick := (atGrid_keeps (Kept.refl _ d) (Sub.refl _)).powerKept
  have hUp : PowerKept d dUp := hTick.trans (startUp_keeps (Kept.refl _ _) (Sub.refl _)).powerKept
  clear_value dUp dTick
  have hRoute : PowerKept d dRoute := by
    dsimp only [dRoute]
    split
    · exact hUp.trans (setRoute_keeps (Kept.refl _ _) (Sub.refl _)).powerKept
    · exact hUp
  clear_value dRoute
  have hUp' : PowerKept d dUp' := hRoute.trans (.of_eq rfl rfl rfl)
  clear_value dUp'
  split
  · exact .refl d
  · split
    · refine PowerKept.trans (PowerKept.trans ?_ (fire_powerKept 279 _)) (fallBack_powerKept 4 _)
      exact hTick.trans (.of_eq rfl rfl rfl)
    · split <;> exact hUp'.trans (.of_eq rfl rfl rfl)

theorem setNv_powerKept (x : Nv) (d : Dev) : PowerKept d (setNv x d) :=
  PowerKept.trans (b := { d with nv := x }) (.of_eq rfl rfl rfl) (showUpdate_keeps (Kept.refl _ _) (Sub.refl _)).powerKept

theorem activationInstant_powerKept (d : Dev) : PowerKept d (activationInstant d) := by
  unfold activationInstant
  extract_lets going dAt target slot dSlot nvSlot nv
  have hAt : PowerKept d dAt := by
    dsimp only [dAt]
    split
    · exact .refl d
    · exact (advanceTo_keeps (Kept.refl _ d) (Sub.refl _)).powerKept
  have hSlot : PowerKept d dSlot := hAt.trans (.of_eq rfl rfl rfl)
  split
  · exact .refl d
  · exact (hSlot.trans (setNv_powerKept nv dSlot)).trans ((fire_powerKept 277 _).trans (softReset_powerKept 4 _))

theorem windowExpiry_powerKept (d : Dev) : PowerKept d (windowExpiry d) := by
  unfold windowExpiry
  split
  · exact .refl d
  · exact (advanceDev_keeps (Kept.refl _ d) (Sub.refl _)).powerKept.trans (fallBack_powerKept 2 _)

theorem openTestAccess_powerKept (d : Dev) : PowerKept d (openTestAccess d) := by
  unfold openTestAccess takeFree
  refine PowerKept.trans ?_ (softReset_powerKept _ _)
  exact .of_eq rfl rfl rfl

theorem unlockWord_powerKept (w : Nat) (d : Dev) : PowerKept d (unlockWord w d) := by
  unfold unlockWord
  extract_lets pins dPin late got expect boot
  have hPin : PowerKept d dPin := .of_eq rfl rfl rfl
  split
  · exact .of_eq rfl rfl rfl
  · split
    · refine PowerKept.trans ?_ (openTestAccess_powerKept _)
      exact .of_eq rfl rfl rfl
    · exact .of_eq rfl rfl rfl

theorem coreVidValid_powerKept (d : Dev) : PowerKept d (coreVidValid d) := by
  unfold coreVidValid
  dsimp only
  split
  · exact .refl d
  · rename_i h
    refine ⟨fun hc => hc, fun hv => absurd hv ?_⟩
    simp only [Bool.or_eq_true, not_or, Bool.not_eq_true] at h
    simp [h.1]

theorem atGrid_powerKept (p off key : Nat) (d : Dev) : PowerKept d (atGrid p off key d) := (atGrid_keeps (Kept.refl _ d) (Sub.refl _)).powerKept

theorem ppsOutPulse_powerKept (d : Dev) : PowerKept d (ppsOutPulse d) := by
  unfold ppsOutPulse
  extract_lets dSec pins
  have hSec : PowerKept d dSec := atGrid_powerKept _ _ _ d
  split
  · exact hSec.trans (.of_eq rfl rfl rfl)
  · exact hSec

theorem advanceDev_powerKept (t : Nat) (d : Dev) : PowerKept d (advanceDev t d) := (advanceDev_keeps (Kept.refl _ d) (Sub.refl _)).powerKept

theorem pulseWidthEnd_powerKept (pps : Bool) (d : Dev) : PowerKept d (pulseWidthEnd pps d) := by
  unfold pulseWidthEnd
  dsimp only
  split <;> split
  · exact (advanceDev_powerKept _ d).trans (.of_eq rfl rfl rfl)
  · exact .refl d
  · exact (advanceDev_powerKept _ d).trans (.of_eq rfl rfl rfl)
  · exact .refl d

theorem firstFamily_powerKept (d : Dev) : PowerKept d (firstFamily d) := by
  unfold firstFamily
  extract_lets dServe pins
  have hServe : PowerKept d dServe := (serveCheck_keeps (Kept.refl _ d) (Sub.refl _)).powerKept
  split
  · exact hServe.trans (.of_eq rfl rfl rfl)
  · exact hServe

theorem refOutFpPulse_powerKept (n p : Nat) (d : Dev) : PowerKept d (refOutFpPulse n p d) := by
  unfold refOutFpPulse
  split <;> exact .of_eq rfl rfl rfl

theorem forEach_powerKept {α : Type} {xs : List α} {f : α → Dev → Dev} (hf : ∀ x d, PowerKept d (f x d)) (d : Dev) : PowerKept d (forEach xs f d) := by
  induction xs generalizing d with
  | nil => exact .refl d
  | cons x rest ih => exact (hf x d).trans (ih _)

theorem famBoundary_powerKept (n : Nat) (d : Dev) : PowerKept d (famBoundary n d) := by
  unfold famBoundary
  extract_lets t dOut dTwin dFirst
  have hdst : ∀ i d, PowerKept d (dstFrame i d) := fun _ d => (dstFrame_keeps (Kept.refl _ d) (Sub.refl _)).powerKept
  have hOut : PowerKept d dOut := by
    refine forEach_powerKept (fun x d => ?_) d
    split
    · exact (hdst _ d).trans (sdiOutFrame_keeps (Kept.refl _ _) (Sub.refl _)).powerKept
    · exact hdst _ d
  have hQuilt : PowerKept dOut (quiltFrame n t dOut) := (quiltFrame_keeps (Kept.refl _ _) (Sub.refl _)).powerKept
  have hTwin : PowerKept d dTwin := (hOut.trans hQuilt).trans (twinBoundary_keeps (Kept.refl _ _) (Sub.refl _)).powerKept
  have hFirst : PowerKept d dFirst := by
    dsimp only [dFirst]
    split
    · exact hTwin.trans (firstFamily_powerKept dTwin)
    · exact hTwin
  exact hFirst.trans (refOutFpPulse_powerKept _ _ _)

theorem frameBoundary_powerKept (n : Nat) (es : List EccObs) (d : Dev) : PowerKept d (frameBoundary n es d) := by
  unfold frameBoundary
  extract_lets dRead st
  have hRead : PowerKept d dRead := 
    (atFrame_keeps (Kept.refl _ d) (Sub.refl _)).powerKept.trans (readErrors_keeps (Kept.refl _ _) (Sub.refl _)).powerKept
  split
  · have hStarts : PowerKept dRead (famStarts n dRead) := (famStarts_keeps (Kept.refl _ _) (Sub.refl _)).powerKept
    have hReturn : PowerKept (famStarts n dRead) (rastersReturn n (famStarts n dRead)) := (rastersReturn_keeps (Kept.refl _ _) (Sub.refl _)).powerKept
    exact ((hRead.trans hStarts).trans hReturn).trans (famBoundary_powerKept n _)
  · split
    · split
      · exact hRead.trans (famBoundary_powerKept n _)
      · exact hRead.trans (famStops_keeps (Kept.refl _ _) (Sub.refl _)).powerKept
    · exact hRead

theorem safeEntry_powerKept (d : Dev) : PowerKept d (safeEntry d) := by
  unfold safeEntry
  extract_lets blt dCycle pins dSafe dMute dHalt
  have hCycle : PowerKept d dCycle :=
    PowerKept.trans (b := { d with blt := { d.blt with entryPending := false } }) (.of_eq rfl rfl rfl)
      (advance_keeps (Kept.refl _ _) (Sub.refl _)).powerKept
  clear_value dCycle
  have hSafe : PowerKept d dSafe := by
    refine PowerKept.trans (PowerKept.trans ?_ (wr_powerKept _ _ _ _)) (wr_powerKept _ _ _ _)
    exact hCycle.trans (.of_eq rfl rfl rfl)
  clear_value dSafe
  have hDrop : PowerKept dSafe (dropSalvos dSafe) := (dropSalvos_keeps (Kept.refl _ _) (Sub.refl _)).powerKept
  have hMute : PowerKept d dMute := (hSafe.trans hDrop).trans (startMute_keeps (Kept.refl _ _) (Sub.refl _)).powerKept
  have hHalt : PowerKept d dHalt :=
    hMute.trans (forEach_powerKept (fun _ d => (txHalt_keeps (Kept.refl _ d) (Sub.refl _)).powerKept) _)
  split
  · exact .refl d
  · split
    · exact hCycle
    · exact hHalt.trans (seamIdle_keeps (Kept.refl _ _) (Sub.refl _)).powerKept

theorem perstEdge_powerKept (low : Bool) (c : Option Cut) (d : Dev) : PowerKept d (perstEdge low c d) := by
  unfold perstEdge
  split
  · refine PowerKept.trans ?_ (wr_powerKept _ _ _ _)
    refine PowerKept.trans ?_ (resetConfig_keeps (Kept.refl _ _) (Sub.refl _)).powerKept
    refine PowerKept.trans ?_ (linkFalls_keeps (Kept.refl _ _) (Sub.refl _)).powerKept
    refine PowerKept.trans ?_ (cutBurst_keeps (Kept.refl _ _) (Sub.refl _)).powerKept
    exact .of_eq rfl rfl rfl
  · exact .of_eq rfl rfl rfl

theorem perstPin_powerKept (low : Bool) (c : Option Cut) (d : Dev) : PowerKept d (perstPin low c d) := by
  unfold perstPin
  split
  · exact .of_eq rfl rfl rfl
  · exact perstEdge_powerKept low c d

theorem testEnFalls_powerKept (c : Option Cut) (d : Dev) : PowerKept d (testEnFalls c d) := by
  unfold testEnFalls
  extract_lets dCut pins boot
  have hCut : PowerKept d dCut := (cutBurst_keeps (Kept.refl _ d) (Sub.refl _)).powerKept
  exact hCut.trans (.of_eq rfl rfl rfl)

theorem supplyReturns_clocksRun (m : Nat) (d : Dev) (h : d.clocksStopped = false) : (supplyReturns m d).clocksStopped = false := by
  unfold supplyReturns
  split
  · exact h
  · rfl

theorem performAlways_clocksRun {c : Instr} {f : Dev → Dev} {s t : State} (h : performAlways c f s = .next t)
    (hf : ∀ d, d.clocksStopped = false → (f d).clocksStopped = false) (hrun : s.dev.clocksStopped = false) : t.dev.clocksStopped = false := by
  unfold performAlways at h
  split at h
  · cases h
    exact hf _ hrun
  · cases h

/-- Only a power-on reset or a trip stops the clocks or takes the code off CORE_VID. -/
theorem exec_powerKept {c : Instr} {s t : State} (h : exec c s = .next t) (hp : c.isPowerOn = false) (ht : c ≠ .thermalTrip) :
    PowerKept s.dev t.dev := by
  cases hd : c.drivesPins with
  | true =>
    cases c with
    | srstN => exact exec_powerKept_of (fun _ => rfl) h (softReset_powerKept 1)
    | lockstepMismatch => exact exec_powerKept_of (fun _ => rfl) h fun d => (fire_powerKept 258 d).trans (softReset_powerKept 2 _)
    | watchdogExpiry => exact exec_powerKept_of (fun _ => rfl) h fun d => (fire_powerKept 259 d).trans (softReset_powerKept 3 _)
    | coreVidValid => exact exec_powerKept_of (fun _ => rfl) h coreVidValid_powerKept
    | startUpInput => exact exec_powerKept_of (fun _ => rfl) h startUpInput_powerKept
    | ppsOutPulse => exact exec_powerKept_of (fun _ => rfl) h ppsOutPulse_powerKept
    | pulseWidthEnd pps => exact exec_powerKept_of (fun _ => rfl) h (pulseWidthEnd_powerKept pps)
    | frameBoundary fam reads => exact exec_powerKept_of (fun _ => rfl) h (frameBoundary_powerKept fam reads)
    | safeStateEntry => exact exec_powerKept_of (fun _ => rfl) h safeEntry_powerKept
    | activationInstant => exact exec_powerKept_of (fun _ => rfl) h activationInstant_powerKept
    | healthWindowExpiry => exact exec_powerKept_of (fun _ => rfl) h windowExpiry_powerKept
    | unlock word => exact exec_powerKept_of (fun _ => rfl) h (unlockWord_powerKept word)
    | testEnFall cut => exact exec_powerKept_of (fun _ => rfl) h (testEnFalls_powerKept cut)
    | pciePerstN low cut =>
      rw [show exec (.pciePerstN low cut) s = .next _ from performAlways_next (c := .pciePerstN low cut) (f := perstPin low cut) rfl] at h
      cases h
      exact ((quiet_kept s.dev).powerKept).trans (perstPin_powerKept low cut _)
    | thermalTrip => exact absurd rfl ht
    | porstN _ => cases hp
    | supplyDetector => cases hp
    | supplyRecovery _ => cases hp
    | _ => cases hd
  | false =>
    obtain ⟨m, hm, hk⟩ := exec_frame h
    have hreset : c.isReset = false := by
      refine Bool.eq_false_iff.mpr fun hr => ?_
      rw [Instr.drivesPins_of_isReset hr] at hd
      cases hd
    have htrip : (c == .thermalTrip) = false := beq_eq_false_iff_ne.mpr ht
    simp only [frameFits, hd, hreset, htrip, Bool.and_eq_true, Bool.false_or, beq_iff_eq] at hm
    obtain ⟨⟨⟨-, hclocks⟩, hpins⟩, -⟩ := hm
    exact hk.powerKept hclocks hpins

end Machine

/-! ### The statements -/

open Machine

/-- Settles O2: each command's frame carries the canonical form along, and so does a core cycle. -/
theorem everyStepKeepsCanonicalTables : Obligations.EveryStepKeepsCanonicalTables := by
  intro s t hcanon hstep
  unfold step at hstep
  split at hstep
  · cases hstep
    exact advance_canon hcanon
  · obtain ⟨m, -, hk⟩ := exec_frame hstep
    exact hk.canon hcanon

/-- Settles O10: outside the commands named no frame takes in a clearing of sticky bits, and a core cycle writes no register. -/
theorem stickyBitsStayUntilWrittenOrReset : Obligations.StickyBitsStayUntilWrittenOrReset := by
  refine ⟨fun c s t h hacc hpow hpat n hn hset => ?_, fun s t hempty h n => ?_⟩
  · obtain ⟨m, hm, hk⟩ := exec_frame h
    simp only [frameFits, hacc, hpow, Instr.appliesPattern_eq_false hpat, Bool.and_eq_true, Bool.false_or, Bool.not_eq_true'] at hm
    obtain ⟨⟨⟨⟨hbit, -⟩, -⟩, -⟩, -⟩ := hm
    exact hk.sticky hbit n hn hset
  · rw [step, hempty] at h
    cases h
    unfold stickyOf rdBit
    rw [idle, rd_advance]

/-- Settles O11: each part of the statement is what the commands' frames leave out. -/
theorem statusChangesOnlyUnderItsOwnCommands : Obligations.StatusChangesOnlyUnderItsOwnCommands := by
  intro c s t h hacc hreset hpat
  obtain ⟨m, hm, hk⟩ := exec_frame h
  simp only [frameFits, hacc, hreset, Instr.appliesPattern_eq_false hpat, Bool.and_eq_true, Bool.false_or] at hm
  obtain ⟨-, ⟨⟨⟨⟨hrul, hsafe⟩, hsrc⟩, hrecov⟩, hboot⟩, hcause⟩ := hm
  refine ⟨fun htick => ?_, fun hentry hexit hrelease htick => ?_, fun hlaunch htake hsync dst => ?_, fun hexit htick => ?_,
    hk.rd_of_outside hcause (by simp) [], hk.rd_of_outside hcause (by simp) [], fun hrom hframe htake hsync => ?_⟩
  · rw [Instr.isTick_eq_false htick, Bool.false_or] at hrul
    refine ⟨hk.rd_of_outside hrul (by simp) [], hk.rd_of_outside hrul (by simp) [], ?_⟩
    rw [steering, steering, rdS, rdS, hk.rd_of_outside hrul (by simp) []]
  · rw [beq_eq_false_iff_ne.mpr hentry, beq_eq_false_iff_ne.mpr hexit, beq_eq_false_iff_ne.mpr hrelease, Instr.isTick_eq_false htick] at hsafe
    rw [inSafe, inSafe, rdB, rdB, hk.rd_of_outside hsafe (by simp) []]
  · rw [beq_eq_false_iff_ne.mpr hlaunch, beq_eq_false_iff_ne.mpr htake, beq_eq_false_iff_ne.mpr hsync] at hsrc
    exact hk.rd_of_outside hsrc (by simp) [dst]
  · rw [beq_eq_false_iff_ne.mpr hexit, Instr.isTick_eq_false htick] at hrecov
    exact hk.rd_of_outside hrecov (by simp) []
  · rw [Instr.stepsBoot_eq_false hrom hframe htake hsync] at hboot
    exact hk.rd_of_outside hboot (by simp) []

/-- Settles O4: a step takes the front of the queue off and carries it out. -/
theorem stepRunsTheFrontCommand : Obligations.StepRunsTheFrontCommand := fun _ _ _ => rfl

/-- Settles O6: a command is carried out by `perform` or `performAlways`, and either answers a next state exactly where the operands are good. -/
theorem everyCommandIsCarriedOutOrIllFormed : Obligations.EveryCommandIsCarriedOutOrIllFormed := by
  intro c s
  obtain ⟨f, hf⟩ | ⟨-, f, hf⟩ := exec_form c
  · exact ⟨fun hw => ⟨_, (hf s).trans (perform_wf hw), rfl⟩, fun hw => (hf s).trans (perform_illFormed hw)⟩
  · exact ⟨fun hw => ⟨_, (hf s).trans (performAlways_next hw), rfl⟩, fun hw => (hf s).trans (performAlways_illFormed hw)⟩

/-- Settles O7: `perform` leaves a held device quiet; of the commands that act on it only PCIE_PERST_N is no power-on reset, and it leaves the clocks. -/
theorem heldDeviceIgnoresCommands : Obligations.HeldDeviceIgnoresCommands := by
  intro c s hw hheld
  obtain ⟨f, hf⟩ | ⟨hworks, f, hf⟩ := exec_form c
  · have hnext : exec c s = .next { s with dev := quiet s.dev } := by rw [hf, perform_wf hw, run_held hheld]
    refine ⟨fun _ => hnext, fun t ht hstop hrun => ?_⟩
    rw [hnext] at ht
    cases ht
    rw [quiet, hstop] at hrun
    cases hrun
  · refine ⟨fun hno => by simp [hno] at hworks, fun t ht hstop hrun => ?_⟩
    cases c with
    | porstN _ => rfl
    | supplyDetector => rfl
    | supplyRecovery _ => rfl
    | pciePerstN low cut =>
      obtain ⟨-, hk⟩ := execPciePerstN_keeps ht
      rw [hk.clocksStopped (by decide), hstop] at hrun
      cases hrun
    | _ => cases hworks

/-- Settles O8: every other command either leaves running clocks alone or resets the device, whose clocks then run. -/
theorem clocksStopOnlyAtAThermalTrip : Obligations.ClocksStopOnlyAtAThermalTrip := by
  intro c s t h hrun hstop
  refine Decidable.byContradiction fun hne => ?_
  have hclocks : t.dev.clocksStopped = false := by
    cases hp : c.isPowerOn with
    | false => exact (exec_powerKept h hp hne).clocks hrun
    | true =>
      cases c with
      | porstN m => exact performAlways_clocksRun (f := porstPulse m) h (fun _ _ => rfl) hrun
      | supplyDetector => exact performAlways_clocksRun (c := .supplyDetector) (f := supplyFalls) h (fun _ _ => rfl) hrun
      | supplyRecovery m => exact performAlways_clocksRun h (supplyReturns_clocksRun m) hrun
      | _ => cases hp
  rw [hclocks] at hstop
  cases hstop

/-- Settles O9: no other command's frame takes in flash or OTP. -/
theorem flashAndOtpChangeOnlyUnder : Obligations.FlashAndOtpChangeOnlyUnder := by
  intro c s t h hno
  obtain ⟨m, hm, hk⟩ := exec_frame h
  simp only [frameFits, hno, Bool.and_eq_true, Bool.false_or, beq_iff_eq] at hm
  obtain ⟨⟨⟨⟨-, hnv⟩, -⟩, -⟩, -⟩ := hm
  exact hk.nv hnv

/-- Settles O12: no command but a power-on reset takes the code away; a trip drives other pins. -/
theorem coreVoltageCodeStaysWhilePowered : Obligations.CoreVoltageCodeStaysWhilePowered := by
  intro c s t h hp hvalid
  by_cases htrip : c = .thermalTrip
  · subst htrip
    have hdev : t.dev = run thermalTrip s.dev := perform_dev (c := .thermalTrip) h
    rw [hdev]
    cases hheld : heldDown s.dev with
    | true => rw [run_held hheld]; exact ⟨hvalid, rfl⟩
    | false => rw [run_awake hheld, raises_pins]; exact ⟨hvalid, rfl⟩
  · exact (exec_powerKept h hp htrip).vid hvalid

end Sys2Proof
end

section
/-! PROOFS. How a command's effect is read off the device it leaves: a register past writes of other registers and past the vectors raised at the
end, and a statement about a command from what it does. -/

namespace Sys2Proof.Machine

set_option exponentiation.threshold 2048

/-! ### Registers past writes of other registers -/

section OtherField

variable {f g : Fld} {ix jx : List Nat}

@[simp] theorem rd_wr_off (v : Nat) (d : Dev) (h : g.no % 1024 ≠ f.no % 1024) : rd g jx (wr f ix v d) = rd g jx d :=
  rd_wr_ne v d (key_reg h)

@[simp] theorem rd_wrB_off (b : Bool) (d : Dev) (h : g.no % 1024 ≠ f.no % 1024) : rd g jx (wrB f ix b d) = rd g jx d :=
  rd_wr_off _ d h

@[simp] theorem rd_wrBit_off (j : Nat) (b : Bool) (d : Dev) (h : g.no % 1024 ≠ f.no % 1024) : rd g jx (wrBit f ix j b d) = rd g jx d :=
  rd_wr_off _ d h

@[simp] theorem rd_wrS_off (v : Int) (d : Dev) (h : g.no % 1024 ≠ f.no % 1024) : rd g jx (wrS f ix v d) = rd g jx d :=
  rd_wr_off _ d h

@[simp] theorem rd_count_off (n : Nat) (d : Dev) (h : g.no % 1024 ≠ f.no % 1024) : rd g jx (count f ix n d) = rd g jx d :=
  rd_wr_off _ d h

@[simp] theorem rd_fire_off (n : Nat) (d : Dev) (h : g.no % 1024 ≠ TOP_IRQ_ST_raised.no % 1024) (h2 : g.no % 1024 ≠ BLT_STICKY_bits.no % 1024)
    (h3 : g.no % 1024 ≠ BLT_STATUS_pin_latch.no % 1024) : rd g jx (fire n d) = rd g jx d := rd_fire n d g jx h h2 h3

@[simp] theorem rd_raises_off (b d : Dev) (h : g.no % 1024 ≠ TOP_IRQ_ST_raised.no % 1024) : rd g jx (raises b d) = rd g jx d :=
  rd_raises b d g jx h

end OtherField

/-- A field with one index has different keys at different indices. -/
theorem fldKey_index_ne {f : Fld} {i j : Nat} (hf : (f.dims.headD (0, 0)).1 ≠ 0) (h : i ≠ j) : fldKey f [i] ≠ fldKey f [j] := by
  unfold fldKey
  cases hd : f.dims with
  | nil => simp [hd] at hf
  | cons x rest =>
    obtain ⟨stride, n⟩ := x
    simp only [hd, List.headD_cons] at hf
    have hne : stride * i ≠ stride * j := fun e => h (Nat.eq_of_mul_eq_mul_left (Nat.pos_of_ne_zero hf) e)
    have hoff : ∀ k, instOffset ((stride, n) :: rest) [k] = stride * k := fun k => by cases rest <;> rfl
    rw [hoff, hoff]
    omega

theorem rd_wr_index {f : Fld} {i j : Nat} (v : Nat) (d : Dev) (hf : (f.dims.headD (0, 0)).1 ≠ 0) (h : i ≠ j) :
    rd f [i] (wr f [j] v d) = rd f [i] d := rd_wr_ne v d (fldKey_index_ne hf h)

/-! ### The vectors raised after a command -/

/-- After a command that changed nothing no vector is owed (R535). -/
theorem raises_self (d : Dev) : raises d d = d := by
  have hcmd : SEA_CMD_ST.flds.any (fun f => rd f [] d > rd f [] d) = false := by simp
  simp only [raises, raiseIf, bitSet, bne_self_eq_false, hcmd, Bool.and_not_self, Bool.or_self, Bool.false_and]
  simp

theorem unchanged_of_eq {d x : Dev} (ho : d.out = []) (h : x = d) : Unchanged d (raises d x) := by
  rw [h, raises_self]
  show d = { d with out := [] }
  rw [← ho]

theorem fired_raises {n : Nat} {d b x : Dev} (h : Fired n d x) : Fired n d (raises b x) := fun hl hr hs =>
  (stickyOf_raises n b x).trans (h hl hr hs)

/-- A firing of the device found, where neither the raw state nor the severity has changed since. -/
theorem fired_fire {n : Nat} {d x : Dev} (hr : rawOf n x = rawOf n d) (hs : severityOf n x = severityOf n d) : Fired n d (fire n x) := fun h1 h2 h3 =>
  fire_sticky n x h1 (hr.trans h2) (hs ▸ h3)

theorem severityOf_of_grades {n : Nat} {d e : Dev} (hbad : e.blt.sevBad = d.blt.sevBad) (hold : e.blt.sevOld = d.blt.sevOld)
    (hs : ∀ i, rd BLT_SEV_sevs [i] e = rd BLT_SEV_sevs [i] d) : severityOf n e = severityOf n d := by
  unfold severityOf
  rw [hbad, hold, hs]

theorem severityOf_congr {n : Nat} {d e : Dev} (hb : e.blt = d.blt) (hs : ∀ i, rd BLT_SEV_sevs [i] e = rd BLT_SEV_sevs [i] d) :
    severityOf n e = severityOf n d := severityOf_of_grades (by rw [hb]) (by rw [hb]) hs

/-! ### The instant of a command -/

theorem advance_quiet (n : Nat) (d : Dev) : advance n (quiet d) = quiet (advance n d) := by
  show (if d.clocksStopped || d.pins.porstLow then quiet d else _) = quiet (if d.clocksStopped || d.pins.porstLow then d else _)
  split <;> rfl

theorem comes_quiet {t : Nat} {d e : Dev} : Comes t (quiet d) e ↔ Comes t d e := by
  have h : advanceTo t (quiet d) = quiet (advanceTo t d) := advance_quiet _ d
  unfold Comes
  rw [h]
  rfl

theorem passes_quiet {t : Nat} {d e : Dev} : Passes t (quiet d) e ↔ Passes t d e := by
  have h : advanceDev t (quiet d) = quiet (advanceDev t d) := advance_quiet _ d
  unfold Passes
  rw [h]
  rfl

theorem changes_of_quiet {ps : List DevPart} {fs : List Fld} {d e : Dev} (h : Changes ps fs (quiet d) e)
    (hout : Sub 0x40 (Nat.lor (partsMask (.out :: .irq :: ps)) (regsMask (TOP_IRQ_ST_raised :: fs))) := by decide) : Changes ps fs d e :=
  ((quiet_kept d).mono hout).trans h

theorem Kept.comes {m t : Nat} {d x e : Dev} (hx : Comes t d x) (h : Kept m x e) (hn : Nat.land m 0x8 = 0 := by decide)
    (hd : Nat.land m 0x10 = 0 := by decide) : Comes t d e := ⟨(h.ntw hn).trans hx.1, (h.devTime hd).trans hx.2⟩

theorem Kept.passes {m t : Nat} {d x e : Dev} (hx : Passes t d x) (h : Kept m x e) (hn : Nat.land m 0x8 = 0 := by decide)
    (hd : Nat.land m 0x10 = 0 := by decide) : Passes t d e := ⟨(h.ntw hn).trans hx.1, (h.devTime hd).trans hx.2⟩

theorem comes_wr {t : Nat} {d x : Dev} {f : Fld} {ix : List Nat} {v : Nat} (h : Comes t d x) : Comes t d (wr f ix v x) := h

theorem passes_wr {t : Nat} {d x : Dev} {f : Fld} {ix : List Nat} {v : Nat} (h : Passes t d x) : Passes t d (wr f ix v x) := h

theorem comes_advanceTo (t : Nat) (d : Dev) : Comes t d (advanceTo t d) := ⟨rfl, rfl⟩

theorem comes_atGrid (p off key : Nat) (d : Dev) : Comes (nextGrid p off key d) d (atGrid p off key d) := ⟨rfl, rfl⟩

theorem passes_advanceDev (t : Nat) (d : Dev) : Passes t d (advanceDev t d) := ⟨rfl, rfl⟩

theorem comes_raises {t : Nat} {b d x : Dev} (h : Comes t d x) : Comes t d (raises b x) := (raises_kept b x).comes h

theorem passes_raises {t : Nat} {b d x : Dev} (h : Passes t d x) : Passes t d (raises b x) := (raises_kept b x).passes h

@[simp] theorem rd_atGrid (p off key : Nat) (f : Fld) (ix : List Nat) (d : Dev) : rd f ix (atGrid p off key d) = rd f ix d := rd_advance f ix _ d

@[simp] theorem rd_advanceTo (t : Nat) (f : Fld) (ix : List Nat) (d : Dev) : rd f ix (advanceTo t d) = rd f ix d := rd_advance f ix _ d

@[simp] theorem rd_advanceDev (t : Nat) (f : Fld) (ix : List Nat) (d : Dev) : rd f ix (advanceDev t d) = rd f ix d := rd_advance f ix _ d

/-! ### A statement about a command -/

/-- A command carried out by `perform` changes what its frame lets it, and its effect is that of its function on a device that works and has sent
nothing yet, with the vectors raised. -/
theorem carried_effect {c : Instr} {f : Dev → Dev} {p : Dev → Dev → Prop} {m : Nat} {ps : List DevPart} {fs : List Fld}
    (hx : ∀ s, exec c s = perform c f s) (hk : ∀ s t, exec c s = .next t → t.pending = s.pending ∧ Kept m s.dev t.dev)
    (hm : Sub m (Nat.lor (partsMask (.out :: .irq :: ps)) (regsMask (TOP_IRQ_ST_raised :: fs)))) (hq : ∀ d e, p (quiet d) e → p d e)
    (hp : c.wf = true → ∀ d, d.out = [] → heldDown d = false → p d (raises d (f d))) : Carried c (fun d e => Changes ps fs d e ∧ p d e) :=
  carried_frame hx hk hm fun hw d hd => hq d _ (hp hw (quiet d) rfl hd)

end Sys2Proof.Machine
end

section
/-! PROOFS. What the resets leave, and what a step with no command waiting does (O1, O3, O5, O13, O14). -/

namespace Sys2Proof.Machine

set_option exponentiation.threshold 2048

/-! ### The state right after a power-on reset -/

theorem rd_reset_state (f : Fld) (ix : List Nat) : rd f ix State.reset.dev = f.reset ix := Nat.zero_xor _

/-- Every function's state resets to STOPPED, of whichever kind the function is. -/
theorem funcState_reset (n : Nat) : funcState n State.reset.dev = 0 := by
  rw [funcState, rd_reset_state]
  unfold funcOf
  (repeat' split) <;> rfl

/-- No source resets to standing. -/
theorem rawOf_reset (n : Nat) : rawOf n State.reset.dev = false := by
  rw [rawOf, rdBit, rd_reset_state]
  exact Nat.zero_testBit _

theorem stickyOf_reset (n : Nat) : stickyOf n State.reset.dev = false := by
  rw [stickyOf, rdBit, rd_reset_state]
  exact Nat.zero_testBit _

/-! ### One core cycle -/

/-- A core cycle at a steering within half a step of Sd (R31). -/
theorem cycleUnits_of_rounded {s sd : Int} (hsd : sd % 256 = 0) (hlo : -128 ≤ s - sd) (hhi : s - sd ≤ 127) :
    (cycleUnits s : Int) = 40 * 17592186044416 + 640 * (s - sd) := by
  have hdco : dcoPart s = sd := by unfold dcoPart; omega
  unfold cycleUnits
  rw [hdco, fracPerNib_eq]
  omega

theorem cycleUnits_pos (s : Int) : 0 < cycleUnits s := by
  have hdco : -128 ≤ s - dcoPart s := by unfold dcoPart; omega
  unfold cycleUnits
  rw [fracPerNib_eq]
  omega

theorem le_ceilDiv_mul (a : Nat) {b : Nat} (hb : 0 < b) : a ≤ ceilDiv a b * b := by
  have h := Nat.lt_div_mul_add (a := a + b - 1) hb
  unfold ceilDiv
  omega

theorem advance_of_held {d : Dev} (n : Nat) (h : heldDown d = true) : advance n d = d := by
  refine advance_stopped n d ?_
  simpa [heldDown, or_comm] using h

theorem advance_of_awake {d : Dev} (n : Nat) (h : heldDown d = false) :
    advance n d = { d with ntw := d.ntw + n * cycleUnits (steering d), devTime := d.devTime + n * cycleUnits (steering d) } := by
  simp only [heldDown, Bool.or_eq_false_iff] at h
  exact advance_running n d h.2 h.1

/-- The core cycles that pass up to an instant reach it. -/
theorem le_advanceDev {d : Dev} (t : Nat) (h : heldDown d = false) : t ≤ (advanceDev t d).devTime := by
  have hreach := le_ceilDiv_mul (t - d.devTime) (cycleUnits_pos (steering d))
  rw [advanceDev, advance_of_awake _ h]
  show t ≤ d.devTime + _
  omega

/-! ### Power-on resets -/

/-- What a power-on reset leaves, whatever it makes of PORST_N's own pin. -/
theorem afterPorst_powerOnReset (m : Nat) (hm : m < 32) (low : Bool) (d : Dev) :
    AfterPorst m d { powerOnReset m (quiet d) with pins := { (powerOnReset m (quiet d)).pins with porstLow := low } } := by
  refine ⟨rfl, ?_, fun f ix hf => ?_, rfl⟩
  · exact (rd_wr_same SEA_FABRIC_member [] m _).trans (Nat.mod_eq_of_lt hm)
  · exact (rd_wr_ne m _ hf).trans (Nat.zero_xor _)

/-! ### Soft resets -/

/-- TOP_RESET_CAUSE is kept by a soft reset, and its count is not among the fields that `AfterSoftReset` names as written. -/
theorem softCount_framed : keptBySoftReset (fldKey TOP_RESET_CAUSE_soft_count []) = true ∧
    ∀ g ∈ resetWrites, TOP_RESET_CAUSE_soft_count.no % 1024 ≠ g.no % 1024 := by decide

/-- So its clauses say of one count both that it stays and that it is one more. -/
theorem not_afterSoftReset {cause : Nat} {d e : Dev} (hd : rd TOP_RESET_CAUSE_soft_count [] d < 65535) : ¬ AfterSoftReset cause d e := by
  rintro ⟨-, -, -, -, -, hcount, -, hframe, -⟩
  have hstays := hframe TOP_RESET_CAUSE_soft_count [] softCount_framed.2
  rw [if_pos softCount_framed.1] at hstays
  omega

end Sys2Proof.Machine

namespace Sys2Proof
open Machine

set_option exponentiation.threshold 2048

/-- Settles O1: every table of the empty device is the empty one. -/
theorem canonicalTablesAtReset : Obligations.CanonicalTablesAtReset :=
  ⟨rfl, rfl, rfl, rfl, rfl, rfl, rfl, rfl, rfl⟩

/-- Settles O3: a device with no register written reads every reset value. -/
theorem resetHoldsTheSpecsValues : Obligations.ResetHoldsTheSpecsValues :=
  ⟨rfl, rfl, rfl, rfl, rd_reset_state, rfl, rfl, fun n _ => funcState_reset n, fun n _ => ⟨rawOf_reset n, stickyOf_reset n⟩, rfl, rfl, rfl, rfl, rfl, rfl, rfl⟩

/-- Settles O5: an empty queue lets one core cycle pass, and a rounded steering has one Sd. -/
theorem emptyQueueLetsOneCoreCyclePass : Obligations.EmptyQueueLetsOneCoreCyclePass := by
  intro s hs
  have hstep : step s = .next (idle s) := by unfold step; rw [hs]
  have hframe : Changes [.ntw, .devTime] [] s.dev (idle s).dev := (advance_keeps (Kept.refl 0x18 s.dev) (Sub.refl _)).mono (by decide)
  refine ⟨idle s, hstep, hs, hframe, advance_of_held 1, fun hawake sd hsd hlo hhi => ?_⟩
  have hcycle := cycleUnits_of_rounded hsd hlo hhi
  have hadv : (idle s).dev = _ := advance_of_awake 1 hawake
  rw [hadv, ← hcycle]
  simp

/-- Settles O13: the three power-on resets start from an empty device that keeps flash, OTP and the pins that other parts drive. -/
theorem powerOnResetClearsAllButFlashAndOtp : Obligations.PowerOnResetClearsAllButFlashAndOtp := by
  refine ⟨fun m s hm => ?_, fun s => ?_, fun m s hm => ?_⟩
  · have hnext : exec (.porstN m) s = .next { s with dev := porstPulse m (quiet s.dev) } := performAlways_next (decide_eq_true hm)
    exact ⟨_, hnext, rfl, afterPorst_powerOnReset m hm _ s.dev, rfl⟩
  · have hnext : exec .supplyDetector s = .next { s with dev := supplyFalls (quiet s.dev) } :=
      performAlways_next (f := supplyFalls) (c := .supplyDetector) rfl
    exact ⟨_, hnext, rfl, afterPorst_powerOnReset 0 (by decide) true s.dev, rfl⟩
  · have hnext : exec (.supplyRecovery m) s = .next { s with dev := supplyReturns m (quiet s.dev) } := performAlways_next (decide_eq_true hm)
    refine ⟨_, hnext, rfl, fun hlow => ?_, fun hhigh => ?_⟩
    · have hreturns : supplyReturns m (quiet s.dev) =
          { powerOnReset m (quiet s.dev) with pins := { (powerOnReset m (quiet s.dev)).pins with porstLow := false } } := by
        unfold supplyReturns; rw [if_neg]; simp [quiet, hlow]
      rw [hreturns]
      exact ⟨afterPorst_powerOnReset m hm false s.dev, rfl⟩
    · show supplyReturns m (quiet s.dev) = quiet s.dev
      unfold supplyReturns; rw [if_pos]; simp [quiet, hhigh]

/-- Refutes O14: on the device right after PORST_N, whose count of soft resets is 0, the clauses on SRST_N ask that it reads 1 and that it stays. -/
theorem not_softResetKeepsTimeAndRecordsItsCause : ¬ Obligations.SoftResetKeepsTimeAndRecordsItsCause := by
  rintro ⟨hsrst, -, -⟩
  obtain ⟨t, -, -, hafter⟩ := hsrst rfl State.reset rfl
  exact not_afterSoftReset (by decide) hafter

end Sys2Proof
end

section
/-! PROOFS. Supplies, clocks, CORE_VID and the temperature (O16, O17). -/

namespace Sys2Proof.Machine

set_option exponentiation.threshold 2048

/-! ### The raw state a source is given -/

theorem fireAt_raw (sev n k : Nat) (d : Dev) : rawOf k (fireAt sev n d) = rawOf k d := by
  unfold rawOf
  refine (fireAt_kept sev n d).rdBit _ _ _ ?_
  simp [fireKeys, irqKey, fldKey_ne [k / 32] _ (show BLT_RAW_bits.no % 1024 ≠ BLT_STICKY_bits.no % 1024 by decide),
    fldKey_ne [k / 32] _ (show BLT_RAW_bits.no % 1024 ≠ TOP_IRQ_ST_raised.no % 1024 by decide),
    fldKey_ne [k / 32] _ (show BLT_RAW_bits.no % 1024 ≠ BLT_STATUS_pin_latch.no % 1024 by decide)]

theorem rawOf_wrBit (n k : Nat) (b : Bool) (d : Dev) :
    rawOf k (wrBit BLT_RAW_bits [n / 32] (n % 32) b d) = if k = n then b else rawOf k d := by
  unfold rawOf
  by_cases hword : k / 32 = n / 32
  · rw [hword, rdBit_wrBit_same _ _ _ _ _ _ (show k % 32 < 32 from Nat.mod_lt _ (by decide))]
    have hiff : k % 32 = n % 32 ↔ k = n := by omega
    simp only [hiff]
  · rw [rdBit_wrBit_ne _ _ _ _ (fldKey_index_ne (by decide) hword), if_neg (fun h => hword (by rw [h]))]

/-- A listed source has the raw state it was last given (R440, R442). -/
theorem rawOf_setRaw (n k : Nat) (b : Bool) (d : Dev) (hl : sourceListed n = true) :
    rawOf k (setRaw n b d) = if k = n then b else rawOf k d := by
  unfold setRaw
  simp only [hl, Bool.not_true, Bool.false_eq_true, if_false]
  cases b with
  | true =>
    by_cases hr : rawOf n d = true
    · simp only [hr, if_true]
      split
      · next h => rw [h, hr]
      · rfl
    · simp only [hr, if_true, Bool.false_eq_true, if_false, fireAt_raw, rawOf_wrBit]
  | false =>
    by_cases hr : rawOf n d = true
    · simp only [hr, if_true, Bool.false_eq_true, if_false]
      exact rawOf_wrBit n k false d
    · simp only [hr, Bool.false_eq_true, if_false]
      split
      · next h => rw [h]; simpa using hr
      · rfl

theorem regsKept_setRaw (n : Nat) (b : Bool) (d : Dev) : RegsKept (fldKey BLT_RAW_bits [n / 32] :: fireKeys n) d (setRaw n b d) := by
  have hbit : ∀ b, RegsKept (fldKey BLT_RAW_bits [n / 32] :: fireKeys n) d (wrBit BLT_RAW_bits [n / 32] (n % 32) b d) := fun b =>
    regsKept_wrBit _ _ _ _ b d (by simp)
  unfold setRaw
  split
  · exact .refl _ d
  · split <;> split
    · exact .refl _ d
    · exact (hbit true).trans ((fireAt_kept _ n _).mono fun k hk => List.mem_cons_of_mem _ hk)
    · exact (hbit false).trans (.of_eq _ rfl)
    · exact .refl _ d

section OtherField

variable {g : Fld} {jx : List Nat}

@[simp] theorem rd_setRaw_off (n : Nat) (b : Bool) (d : Dev) (hraw : g.no % 1024 ≠ BLT_RAW_bits.no % 1024)
    (hirq : g.no % 1024 ≠ TOP_IRQ_ST_raised.no % 1024) (hsticky : g.no % 1024 ≠ BLT_STICKY_bits.no % 1024)
    (hlatch : g.no % 1024 ≠ BLT_STATUS_pin_latch.no % 1024) : rd g jx (setRaw n b d) = rd g jx d := by
  refine (regsKept_setRaw n b d).rd g jx ?_
  simp [fireKeys, irqKey, fldKey_ne jx _ hraw, fldKey_ne jx _ hirq, fldKey_ne jx _ hsticky, fldKey_ne jx _ hlatch]

@[simp] theorem rd_threshold_off (n : Nat) (sticky : Fld) (on off : Bool) (d : Dev) (hst : g.no % 1024 ≠ sticky.no % 1024)
    (hraw : g.no % 1024 ≠ BLT_RAW_bits.no % 1024) (hirq : g.no % 1024 ≠ TOP_IRQ_ST_raised.no % 1024)
    (hsticky : g.no % 1024 ≠ BLT_STICKY_bits.no % 1024) (hlatch : g.no % 1024 ≠ BLT_STATUS_pin_latch.no % 1024) :
    rd g jx (threshold n sticky on off d) = rd g jx d := by
  unfold threshold
  repeat' split
  · exact rd_setRaw_off n false d hraw hirq hsticky hlatch
  · rfl
  · exact (rd_setRaw_off n true _ hraw hirq hsticky hlatch).trans (rd_wr_off 1 d hst)
  · rfl

end OtherField

/-! ### The temperature's thresholds -/

theorem rawOf_wr_off {f : Fld} {ix : List Nat} (k v : Nat) (d : Dev) (h : BLT_RAW_bits.no % 1024 ≠ f.no % 1024) :
    rawOf k (wr f ix v d) = rawOf k d := by
  simp [rawOf, rdBit, rd_wr_off v d h]

/-- A threshold source is raw from where it comes on to where it goes off, and stays between (R559). -/
theorem rawOf_threshold (n k : Nat) (sticky : Fld) (on off : Bool) (d : Dev) (hl : sourceListed n = true)
    (hst : BLT_RAW_bits.no % 1024 ≠ sticky.no % 1024) :
    rawOf k (threshold n sticky on off d) = if k = n then (if rawOf n d then !off else on) else rawOf k d := by
  unfold threshold
  cases hr : rawOf n d <;> cases on <;> cases off <;>
    simp only [Bool.false_eq_true, if_true, if_false, rawOf_setRaw _ _ _ _ hl, rawOf_wr_off _ _ _ hst, Bool.not_true, Bool.not_false] <;>
    split <;> simp_all

/-! ### The sensors' readings -/

/-- The readings of the sensors from k on. -/
def readingsFrom (k : Nat) (xs : List (Option Int)) : List (Nat × Int) :=
  ((List.range' k xs.length).zip xs).filterMap (fun q => q.2.map (fun v => (q.1, v)))

theorem validReadings_eq {xs : List (Option Int)} (h : xs.length = 16) : validReadings xs = readingsFrom 0 xs := by
  unfold validReadings readingsFrom
  rw [h, List.range_eq_range']

theorem readingsFrom_none (k : Nat) (xs : List (Option Int)) : readingsFrom k (none :: xs) = readingsFrom (k + 1) xs := by
  simp [readingsFrom, List.range'_succ]

theorem readingsFrom_some (k : Nat) (v : Int) (xs : List (Option Int)) : readingsFrom k (some v :: xs) = (k, v) :: readingsFrom (k + 1) xs := by
  simp [readingsFrom, List.range'_succ]

/-- The mask of the sensors that read. -/
def sensorMask (acc : Nat) (rs : List (Nat × Int)) : Nat := rs.foldl (fun acc q => acc + 2 ^ q.1) acc

/-- It falls short of a one for every sensor exactly where one does not read. -/
theorem sensorMask_readings (xs : List (Option Int)) (k acc : Nat) :
    sensorMask acc (readingsFrom k xs) + 2 ^ k ≤ acc + 2 ^ (k + xs.length) ∧
    (sensorMask acc (readingsFrom k xs) + 2 ^ k = acc + 2 ^ (k + xs.length) ↔ xs.any (fun x => x.isNone) = false) := by
  induction xs generalizing k acc with
  | nil => simp [readingsFrom, sensorMask]
  | cons x xs ih =>
    have hpow : 2 ^ (k + 1) = 2 ^ k + 2 ^ k := by omega
    have hpos : 0 < 2 ^ k := Nat.two_pow_pos k
    have hlen : k + (x :: xs).length = k + 1 + xs.length := by simp; omega
    rw [hlen]
    cases x with
    | none =>
      obtain ⟨hle, -⟩ := ih (k + 1) acc
      rw [readingsFrom_none]
      simp
      omega
    | some v =>
      obtain ⟨hle, hiff⟩ := ih (k + 1) (acc + 2 ^ k)
      rw [readingsFrom_some]
      have hcons : sensorMask acc ((k, v) :: readingsFrom (k + 1) xs) = sensorMask (acc + 2 ^ k) (readingsFrom (k + 1) xs) := rfl
      rw [hcons, List.any_cons, Option.isNone_some, Bool.false_or, ← hiff]
      omega

theorem sensorMask_full {xs : List (Option Int)} (h : xs.length = 16) :
    decide (sensorMask 0 (validReadings xs) ≠ 0xFFFF) = xs.any (fun x => x.isNone) := by
  obtain ⟨-, hiff⟩ := sensorMask_readings xs 0 0
  rw [validReadings_eq h]
  rw [h] at hiff
  cases hany : xs.any (fun x => x.isNone) with
  | true => rw [hany] at hiff; simp at hiff ⊢; omega
  | false => rw [hany] at hiff; simp at hiff ⊢; omega

/-- The highest reading is one of them. -/
theorem highest_mem {rs : List (Nat × Int)} {x : Nat × Int} (h : highest rs = some x) : x ∈ rs := by
  have hstep : ∀ (rs : List (Nat × Int)) (acc : Option (Nat × Int)),
      rs.foldl (fun acc q => match acc with | some b => if b.2 < q.2 then some q else some b | none => some q) acc = some x → acc = some x ∨ x ∈ rs := by
    intro rs
    induction rs with
    | nil => exact fun acc h => .inl h
    | cons q rs ih =>
      intro acc h
      rcases ih _ h with hq | hm
      · cases acc with
        | none => simp at hq; simp [hq]
        | some b =>
          dsimp only at hq
          split at hq
          · simp at hq; simp [hq]
          · exact .inl hq
      · exact .inr (List.mem_cons_of_mem _ hm)
  exact (hstep rs none h).resolve_left (by simp)

theorem sensor_lt {xs : List (Option Int)} {n : Nat} {t : Int} (h : (n, t) ∈ validReadings xs) : n < 16 := by
  unfold validReadings at h
  obtain ⟨q, hq, hmap⟩ := List.mem_filterMap.mp h
  obtain ⟨v, -, hv⟩ := Option.map_eq_some_iff.mp hmap
  have hin := (List.of_mem_zip (a := q.1) (b := q.2) hq).1
  simp at hin hv
  omega

/-- A signed field reads back a value within its range. -/
theorem rdS_wrS_same {f : Fld} {ix : List Nat} {v : Int} (d : Dev) (hw : f.w = 11) (hlo : -1024 ≤ v) (hhi : v < 1024) : rdS f ix (wrS f ix v d) = v := by
  unfold rdS wrS
  rw [rd_wr_same, hw]
  unfold toSigned ofSigned
  split <;> omega

/-- What every sample does: the grid's instant, the supplies, the sensors that read, and FS0022. -/
def sampleSensors (xs : List (Option Int)) (mv rng : Nat) (d : Dev) : Dev :=
  let d := wr TOP_VID_core_mv [] mv (wr TOP_SUPPLY_in_range [] rng (atGrid 52920000 0 6 d))
  let bad := decide (sensorMask 0 (validReadings xs) ≠ 0xFFFF)
  threshold 22 TOP_MON_STICKY_sensor_fail bad (!bad) (wr TOP_TEMP_CFG_sensor_ok [] (sensorMask 0 (validReadings xs)) d)

/-- What a sample with a valid reading shows of it. -/
def showTj (n : Nat) (t : Int) (d : Dev) : Dev :=
  let d := wrS TOP_TEMP_tj [] t (wr TOP_TEMP_sensor [] n d)
  if rdS TOP_TEMP_tj_peak [] d < t then wrS TOP_TEMP_tj_peak [] t d else d

/-- What the four threshold sources make of a reading. -/
def tjThresholds (t : Int) (d : Dev) : Dev :=
  let w : Int := 4 * rd TOP_TEMP_CFG_tj_warn [] d
  let d := threshold 16 TOP_MON_STICKY_warn (decide (w ≤ t)) (decide (t < w - 20)) d
  let d := threshold 17 TOP_MON_STICKY_over150 (decide (600 < t)) (decide (t ≤ 580)) d
  let d := threshold 18 TOP_MON_STICKY_over160 (decide (640 ≤ t)) (decide (t < 620)) d
  threshold 19 TOP_MON_STICKY_under40 (decide (t < -160)) (decide (-140 ≤ t)) d

/-- Where a threshold source comes on, in quarters of a degree (R559). -/
def tjOn (k : Nat) (t : Int) (warn : Nat) : Bool :=
  match k with
  | 16 => decide (4 * (warn : Int) ≤ t)
  | 17 => decide (600 < t)
  | 18 => decide (640 ≤ t)
  | 19 => decide (t < -160)
  | _ => false

/-- Where it goes off. -/
def tjOff (k : Nat) (t : Int) (warn : Nat) : Bool :=
  match k with
  | 16 => decide (t < 4 * (warn : Int) - 20)
  | 17 => decide (t ≤ 580)
  | 18 => decide (t < 620)
  | 19 => decide (-140 ≤ t)
  | _ => false

theorem rawOf_tjThresholds {k : Nat} (t : Int) (d : Dev) (hlo : 16 ≤ k) (hhi : k < 20) :
    rawOf k (tjThresholds t d) =
      if rawOf k d then !tjOff k t (rd TOP_TEMP_CFG_tj_warn [] d) else tjOn k t (rd TOP_TEMP_CFG_tj_warn [] d) := by
  unfold tjThresholds
  dsimp only
  obtain rfl | rfl | rfl | rfl : k = 16 ∨ k = 17 ∨ k = 18 ∨ k = 19 := by omega
  all_goals simp (disch := decide) [tjOn, tjOff, rawOf_threshold]

theorem rawOf_22_tjThresholds (t : Int) (d : Dev) : rawOf 22 (tjThresholds t d) = rawOf 22 d := by
  simp (disch := decide) [tjThresholds, rawOf_threshold]

theorem threshold_comes {u n : Nat} {sticky : Fld} {on off : Bool} {d x : Dev} (h : Comes u d x) (hst : Sub (fldMask sticky) (2 ^ 1058 - 2 ^ 33 + 0x3041)) :
    Comes u d (threshold n sticky on off x) := (threshold_keeps (Kept.refl (2 ^ 1058 - 2 ^ 33 + 0x3041) x) hst (by decide)).comes h

theorem comes_tjThresholds {u : Nat} {d x : Dev} (t : Int) (h : Comes u d x) : Comes u d (tjThresholds t x) :=
  threshold_comes (threshold_comes (threshold_comes (threshold_comes h (by decide)) (by decide)) (by decide)) (by decide)

theorem comes_showTj {u : Nat} {d x : Dev} (n : Nat) (t : Int) (h : Comes u d x) : Comes u d (showTj n t x) := by
  unfold showTj
  dsimp only
  split
  · exact comes_wr (comes_wr (comes_wr h))
  · exact comes_wr (comes_wr h)

theorem temperatureSample_none {xs : List (Option Int)} (mv rng : Nat) (d : Dev) (h : highest (validReadings xs) = none) :
    temperatureSample xs mv rng d = sampleSensors xs mv rng d := by
  unfold temperatureSample
  simp only [h]
  rfl

theorem temperatureSample_some {xs : List (Option Int)} {n : Nat} {t : Int} (mv rng : Nat) (d : Dev) (h : highest (validReadings xs) = some (n, t)) :
    temperatureSample xs mv rng d = tjThresholds t (showTj n t (sampleSensors xs mv rng d)) := by
  unfold temperatureSample
  simp only [h]
  rfl

theorem comes_sampleSensors (xs : List (Option Int)) (mv rng : Nat) (d : Dev) :
    Comes (nextGrid 52920000 0 6 d) d (sampleSensors xs mv rng d) :=
  threshold_comes (comes_wr (comes_wr (comes_wr (comes_atGrid 52920000 0 6 d)))) (by decide)

theorem rawOf_sampleSensors {xs : List (Option Int)} (mv rng : Nat) (d : Dev) (h : xs.length = 16) (k : Nat) :
    rawOf k (sampleSensors xs mv rng d) = if k = 22 then xs.any (fun x => x.isNone) else rawOf k d := by
  unfold sampleSensors
  dsimp only
  rw [rawOf_threshold 22 k _ _ _ _ (by decide) (by decide), sensorMask_full h]
  simp (disch := decide) [rawOf, rdBit]

theorem rdS_tj_showTj {n : Nat} {t : Int} (d : Dev) (hlo : -1024 ≤ t) (hhi : t < 1024) : rdS TOP_TEMP_tj [] (showTj n t d) = t := by
  have h := rdS_wrS_same (f := TOP_TEMP_tj) (ix := []) (wr TOP_TEMP_sensor [] n d) rfl hlo hhi
  unfold showTj
  dsimp only
  split
  · exact (congrArg (toSigned _) (rd_wrS_off t _ (by decide))).trans h
  · exact h

theorem rd_sensor_showTj {n : Nat} (t : Int) (d : Dev) (hn : n < 16) : rd TOP_TEMP_sensor [] (showTj n t d) = n := by
  have h : rd TOP_TEMP_sensor [] (wr TOP_TEMP_sensor [] n d) = n := (rd_wr_same _ _ n d).trans (Nat.mod_eq_of_lt hn)
  unfold showTj
  dsimp only
  split <;> simp (disch := decide) [h]

theorem rdS_peak_showTj {n : Nat} {t : Int} (d : Dev) (hlo : -1024 ≤ t) (hhi : t < 1024) :
    rdS TOP_TEMP_tj_peak [] (showTj n t d) = max (rdS TOP_TEMP_tj_peak [] d) t := by
  have hold : rdS TOP_TEMP_tj_peak [] (wrS TOP_TEMP_tj [] t (wr TOP_TEMP_sensor [] n d)) = rdS TOP_TEMP_tj_peak [] d := by
    simp (disch := decide) [rdS]
  unfold showTj
  dsimp only
  rw [hold]
  split
  · rw [rdS_wrS_same _ rfl hlo hhi]; omega
  · rw [hold]; omega

theorem rd_showTj_off {g : Fld} {jx : List Nat} (n : Nat) (t : Int) (d : Dev) (h1 : g.no % 1024 ≠ TOP_TEMP_tj.no % 1024)
    (h2 : g.no % 1024 ≠ TOP_TEMP_tj_peak.no % 1024) (h3 : g.no % 1024 ≠ TOP_TEMP_sensor.no % 1024) : rd g jx (showTj n t d) = rd g jx d := by
  unfold showTj
  dsimp only
  split <;> simp [h1, h2, h3]

theorem rd_tjThresholds_off {g : Fld} {jx : List Nat} (t : Int) (d : Dev) (h1 : g.no % 1024 ≠ TOP_MON_STICKY_warn.no % 1024)
    (h2 : g.no % 1024 ≠ TOP_MON_STICKY_over150.no % 1024) (h3 : g.no % 1024 ≠ TOP_MON_STICKY_over160.no % 1024)
    (h4 : g.no % 1024 ≠ TOP_MON_STICKY_under40.no % 1024) (hraw : g.no % 1024 ≠ BLT_RAW_bits.no % 1024)
    (hirq : g.no % 1024 ≠ TOP_IRQ_ST_raised.no % 1024) (hsticky : g.no % 1024 ≠ BLT_STICKY_bits.no % 1024)
    (hlatch : g.no % 1024 ≠ BLT_STATUS_pin_latch.no % 1024) : rd g jx (tjThresholds t d) = rd g jx d := by
  simp [tjThresholds, h1, h2, h3, h4, hraw, hirq, hsticky, hlatch]

end Sys2Proof.Machine

namespace Sys2Proof
open Machine

set_option exponentiation.threshold 2048

/-- Settles O16: each monitor writes its own fields and fires, and CORE_VID is driven where it is not yet and the code is 20 at most. -/
theorem supplyAndClockMonitors : Obligations.SupplyAndClockMonitors := by
  refine ⟨fun supply => ?_, ?_, ?_⟩
  · refine carried_effect (fun _ => rfl) (fun _ _ => execSupplyExcursion_keeps) (by decide) (fun _ _ h => h) fun hw d _ _ => ?_
    have hsupply : supply < 7 := of_decide_eq_true hw
    have hin : ∀ k < 7, rdBit TOP_SUPPLY_in_range [] k (raises d (supplyExcursion supply d)) = if k = supply then false else rdBit TOP_SUPPLY_in_range [] k d := by
      intro k hk
      rw [← rdBit_wrBit_same TOP_SUPPLY_in_range [] supply k false d hk]
      simp (disch := decide) [supplyExcursion, rdBit]
    have hex : ∀ k < 7, rdBit TOP_SUPPLY_excursion [] k (raises d (supplyExcursion supply d)) = if k = supply then true else rdBit TOP_SUPPLY_excursion [] k d := by
      intro k hk
      rw [← rdBit_wrBit_ne supply k false d (key_reg (f := TOP_SUPPLY_in_range) (ix := []) (by decide)), ← rdBit_wrBit_same TOP_SUPPLY_excursion [] supply k true _ hk]
      simp (disch := decide) [supplyExcursion, rdBit]
    have hfired : Fired (if supply = 0 then 21 else 20) d (supplyExcursion supply d) :=
      fired_fire (by simp (disch := decide) [rawOf, rdBit]) (severityOf_congr rfl fun i => by simp (disch := decide))
    refine ⟨?_, ?_, fired_raises hfired, fun k hne hk => ?_⟩
    · simp [hex supply hsupply]
    · simp [hin supply hsupply]
    · simp [hex k hk, hin k hk, hne]
  · refine carried_effect (fun _ => rfl) (fun _ _ => execPllLossOfLock_keeps) (by decide) (fun _ _ h => h) fun hw d _ _ => ⟨?_, ?_⟩
    · have hset : rd TOP_MON_STICKY_pll_unlock [] (wr TOP_MON_STICKY_pll_unlock [] 1 d) = 1 := rd_wr_same _ _ _ _
      simp (disch := decide) [pllLoss, hset]
    · exact fired_raises (fired_fire (by simp (disch := decide) [rawOf, rdBit]) (severityOf_congr rfl fun i => by simp (disch := decide)))
  · refine carried_effect (fun _ => rfl) (fun _ _ => execCoreVidValid_keeps) (by decide) (fun _ _ h => h) fun hw d ho _ => ⟨fun hoff hcode => ?_, fun hstays => ?_⟩
    · have hdrive : coreVidValid d = wr TOP_VID_valid [] 1 { d with pins := { d.pins with coreVid := rd TOP_VID_code [] d, coreVidValid := true } } := by
        unfold coreVidValid
        rw [if_neg (by simp [hoff, hcode])]
      rw [hdrive]
      refine ⟨?_, ?_, ?_⟩
      · rw [rd_raises_off _ _ (by decide), rd_wr_same]; rfl
      · rw [raises_pins]; rfl
      · rw [raises_pins]; rfl
    · refine unchanged_of_eq ho ?_
      unfold coreVidValid
      rw [if_pos (by simpa using hstays)]

/-- Settles O17: a sample with no valid reading ends after FS0022; one with a reading shows it and then holds it against the four thresholds. -/
theorem temperatureSampleAndTrip : Obligations.TemperatureSampleAndTrip := by
  refine ⟨fun xs mv rng => ?_, ?_⟩
  · refine carried_effect (fun _ => rfl) (fun _ _ => execTemperatureSample_keeps) (by decide) (fun _ _ h => ⟨comes_quiet.mp h.1, h.2⟩) fun hw d _ _ => ?_
    have hlen : xs.length = 16 := of_decide_eq_true hw
    have hcomes := comes_sampleSensors xs mv rng d
    have hraw := rawOf_sampleSensors mv rng d hlen
    have hmv : rd TOP_VID_core_mv [] (sampleSensors xs mv rng d) = mv % 4096 := by
      simp (disch := decide) [sampleSensors, rd_wr_same]; rfl
    have hrng : rd TOP_SUPPLY_in_range [] (sampleSensors xs mv rng d) = rng % 128 := by
      simp (disch := decide) [sampleSensors, rd_wr_same]; rfl
    cases hhigh : highest (validReadings xs) with
    | none =>
      rw [temperatureSample_none mv rng d hhigh]
      refine ⟨comes_raises hcomes, ?_, ?_, ?_, fun n t h => absurd h (by simp), fun _ => ⟨?_, ?_, fun n hlo hhi => ?_⟩⟩
      · rw [rd_raises_off _ _ (by decide), hmv]
      · rw [rd_raises_off _ _ (by decide), hrng]
      · rw [rawOf_raises, hraw, if_pos rfl]
      · simp (disch := decide) [rdS, sampleSensors]
      · simp (disch := decide) [sampleSensors]
      · rw [rawOf_raises, hraw, if_neg (by omega)]
    | some x =>
      obtain ⟨n, t⟩ := x
      have hn : n < 16 := sensor_lt (highest_mem hhigh)
      have hwarn : rd TOP_TEMP_CFG_tj_warn [] (showTj n t (sampleSensors xs mv rng d)) = rd TOP_TEMP_CFG_tj_warn [] d := by
        rw [rd_showTj_off _ _ _ (by decide) (by decide) (by decide)]
        simp (disch := decide) [sampleSensors]
      have hpeak : rdS TOP_TEMP_tj_peak [] (sampleSensors xs mv rng d) = rdS TOP_TEMP_tj_peak [] d := by
        simp (disch := decide) [rdS, sampleSensors]
      have hfault : ∀ k, rawOf k (showTj n t (sampleSensors xs mv rng d)) = if k = 22 then xs.any (fun x => x.isNone) else rawOf k d := fun k => by
        rw [← hraw k, rawOf, rdBit, rd_showTj_off _ _ _ (by decide) (by decide) (by decide)]; rfl
      have hthr : ∀ k, 16 ≤ k → k < 20 → rawOf k (raises d (tjThresholds t (showTj n t (sampleSensors xs mv rng d)))) =
          if rawOf k d then !tjOff k t (rd TOP_TEMP_CFG_tj_warn [] d) else tjOn k t (rd TOP_TEMP_CFG_tj_warn [] d) := fun k hlo hhi => by
        rw [rawOf_raises, rawOf_tjThresholds t _ hlo hhi, hwarn, hfault, if_neg (show ¬ k = 22 by omega)]
      rw [temperatureSample_some mv rng d hhigh]
      refine ⟨comes_raises (comes_tjThresholds t (comes_showTj n t hcomes)), ?_, ?_, ?_, fun n' t' h hlo hhi => ?_, fun h => absurd h (by simp)⟩
      · simp (disch := decide) [rd_tjThresholds_off, rd_showTj_off, hmv]
      · simp (disch := decide) [rd_tjThresholds_off, rd_showTj_off, hrng]
      · rw [rawOf_raises, rawOf_22_tjThresholds, hfault, if_pos rfl]
      · obtain ⟨rfl, rfl⟩ : n = n' ∧ t = t' := by simpa using h
        refine ⟨?_, ?_, ?_, ?_⟩
        · simp (disch := decide) only [rdS, rd_raises_off, rd_tjThresholds_off]
          exact rdS_tj_showTj _ hlo hhi
        · simp (disch := decide) only [rd_raises_off, rd_tjThresholds_off]
          exact rd_sensor_showTj t _ hn
        · simp (disch := decide) only [rdS, rd_raises_off, rd_tjThresholds_off]
          exact (rdS_peak_showTj _ hlo hhi).trans (congrArg (max · t) hpeak)
        · rw [hthr 16 (by decide) (by decide), hthr 17 (by decide) (by decide), hthr 18 (by decide) (by decide), hthr 19 (by decide) (by decide)]
          simp only [tjOn, tjOff]
          refine ⟨?_, ?_, ?_, ?_, ?_, ?_, ?_, ?_⟩ <;> intro hlim <;> split <;> simp <;> omega
  · refine carried_effect (fun _ => rfl) (fun _ _ => execThermalTrip_keeps) (by decide) (fun _ _ h => h) fun hw d _ _ => ?_
    simp [raises_clocksStopped, raises_pins, thermalTrip, faultN, heldDown]
end Sys2Proof
end

section
/-! PROOFS. What a firing does, and the pin latch (O18 to O20). -/

namespace Sys2Proof.Machine

set_option exponentiation.threshold 2048

/-! ### The parts of a firing -/

/-- The fault vector of a firing (R446). -/
def raiseAt (sev : Nat) (d : Dev) : Dev := if max 1 (rd BLT_CTRL_irq_thr [] d) ≤ sev then raiseIrq 1 d else d

/-- The pin latch of a firing (R447). -/
def latchAt (sev : Nat) (d : Dev) : Dev := if max 1 (rd BLT_CTRL_pin_thr [] d) ≤ sev ∨ sev = 3 then latchPin d else d

/-- What a firing at SAFE does beside (R449). -/
def quietAt (sev : Nat) (d : Dev) : Dev :=
  if sev = 3 then { d with blt := { d.blt with quietFrom := d.devTime, entryPending := d.blt.entryPending || !inSafe d } } else d

theorem fire_eq {n : Nat} {d : Dev} (hl : sourceListed n = true) (hr : rawOf n d = false) (hs : severityOf n d ≠ 0) :
    fire n d = quietAt (severityOf n d) (latchAt (severityOf n d) (raiseAt (severityOf n d) (wrBit BLT_STICKY_bits [n / 32] (n % 32) true d))) := by
  unfold fire fireAt
  rw [hl, hr, if_pos (by rfl), if_neg hs]
  rfl

@[simp] theorem rd_raiseAt_off {g : Fld} {jx : List Nat} (sev : Nat) (d : Dev) (h : g.no % 1024 ≠ TOP_IRQ_ST_raised.no % 1024) :
    rd g jx (raiseAt sev d) = rd g jx d := by
  unfold raiseAt
  split
  · exact (raiseIrq_kept 1 d).rd g jx (by simp [irqKey, fldKey_ne jx _ h])
  · rfl

/-- A latch of the pin is a write of its bit, as far as the registers show. -/
theorem latchPin_regs (d : Dev) : (latchPin d).regs = (wr BLT_STATUS_pin_latch [] 1 d).regs := rfl

theorem latchPin_timerEnd (d : Dev) :
    (latchPin d).blt.timerEnd = d.devTime + max 1 (rd BLT_FAULTN_WIDTH_width [] (wr BLT_STATUS_pin_latch [] 1 d)) * 10 * usUnits := rfl

theorem latchPin_blt (d : Dev) : (latchPin d).blt = { d.blt with releasePending := false, timerEnd := (latchPin d).blt.timerEnd } := rfl

theorem latchPin_releasePending (d : Dev) : (latchPin d).blt.releasePending = false := rfl

theorem quietAt_timerEnd (sev : Nat) (d : Dev) : (quietAt sev d).blt.timerEnd = d.blt.timerEnd := by
  unfold quietAt
  split <;> rfl

theorem quietAt_releasePending (sev : Nat) (d : Dev) : (quietAt sev d).blt.releasePending = d.blt.releasePending := by
  unfold quietAt
  split <;> rfl

@[simp] theorem rd_latchAt_off {g : Fld} {jx : List Nat} (sev : Nat) (d : Dev) (h : g.no % 1024 ≠ BLT_STATUS_pin_latch.no % 1024) :
    rd g jx (latchAt sev d) = rd g jx d := by
  unfold latchAt
  split
  · exact (rd_congr g jx (latchPin_regs d)).trans (rd_wr_off 1 d h)
  · rfl

@[simp] theorem rd_quietAt (g : Fld) (jx : List Nat) (sev : Nat) (d : Dev) : rd g jx (quietAt sev d) = rd g jx d := by
  unfold quietAt
  split <;> rfl

theorem raiseAt_devTime (sev : Nat) (d : Dev) : (raiseAt sev d).devTime = d.devTime := by
  unfold raiseAt
  split
  · have h := raiseIrq_only 1 d
    unfold OnlyFaults at h
    rw [h]
  · rfl

theorem latchAt_devTime (sev : Nat) (d : Dev) : (latchAt sev d).devTime = d.devTime := by
  unfold latchAt
  split <;> rfl

theorem latchAt_raised {sev : Nat} {d : Dev} (h : max 1 (rd BLT_CTRL_pin_thr [] d) ≤ sev ∨ sev = 3) : latchAt sev d = latchPin d := if_pos h

/-- A sticky bit written leaves those of the other sources. -/
theorem stickyOf_wrBit {n k : Nat} (d : Dev) (h : k ≠ n) : stickyOf k (wrBit BLT_STICKY_bits [n / 32] (n % 32) true d) = stickyOf k d := by
  unfold stickyOf
  by_cases hword : k / 32 = n / 32
  · rw [hword, rdBit_wrBit_same _ _ _ _ _ _ (show k % 32 < 32 from Nat.mod_lt _ (by decide)), if_neg (by omega)]
  · exact rdBit_wrBit_ne _ _ _ _ (fldKey_index_ne (by decide) hword)

theorem stickyOf_fire_ne {n k : Nat} (d : Dev) (h : k ≠ n) : stickyOf k (fire n d) = stickyOf k d := by
  by_cases hn : sourceListed n = false ∨ rawOf n d = true ∨ severityOf n d = 0
  · rw [fire_nothing n d hn]
  · simp only [not_or, Bool.not_eq_true, Bool.not_eq_false] at hn
    obtain ⟨hl, hr, hs⟩ := hn
    rw [fire_eq hl hr hs, ← stickyOf_wrBit d h]
    simp (disch := decide) [stickyOf, rdBit]

/-- Grades at or above the threshold raise the fault vector. -/
theorem fire_raises_vector {n : Nat} {d : Dev} (hl : sourceListed n = true) (hr : rawOf n d = false) (hs : severityOf n d ≠ 0)
    (h : max 1 (rd BLT_CTRL_irq_thr [] d) ≤ severityOf n d) : rdBit TOP_IRQ_ST_raised [] 1 (fire n d) = true := by
  have hthr : rd BLT_CTRL_irq_thr [] (wrBit BLT_STICKY_bits [n / 32] (n % 32) true d) = rd BLT_CTRL_irq_thr [] d := rd_wrBit_off _ _ d (by decide)
  rw [fire_eq hl hr hs, raiseAt, hthr, if_pos h]
  have hraised := raiseIrq_raised 1 (wrBit BLT_STICKY_bits [n / 32] (n % 32) true d) (by decide)
  simpa (disch := decide) [rdBit] using hraised

theorem fire_latches_pin {n : Nat} {d : Dev} (hl : sourceListed n = true) (hr : rawOf n d = false) (hs : severityOf n d ≠ 0)
    (h : max 1 (rd BLT_CTRL_pin_thr [] d) ≤ severityOf n d ∨ severityOf n d = 3) :
    rd BLT_STATUS_pin_latch [] (fire n d) = 1 ∧ faultN (fire n d) = true ∧ (fire n d).blt.releasePending = false ∧
      (fire n d).blt.timerEnd = d.devTime + max 1 (rd BLT_FAULTN_WIDTH_width [] d) * 10 * usUnits := by
  have hlatch : rd BLT_STATUS_pin_latch [] (fire n d) = 1 := by
    rw [fire_eq hl hr hs, rd_quietAt, latchAt_raised (by simpa (disch := decide) using h)]
    exact (rd_congr _ _ (latchPin_regs _)).trans (rd_wr_same BLT_STATUS_pin_latch [] 1 _)
  refine ⟨hlatch, by simp [faultN, rdB, hlatch], ?_, ?_⟩
  · rw [fire_eq hl hr hs, latchAt_raised (by simpa (disch := decide) using h), quietAt_releasePending, latchPin_releasePending]
  · rw [fire_eq hl hr hs, latchAt_raised (by simpa (disch := decide) using h), quietAt_timerEnd, latchPin_timerEnd, raiseAt_devTime,
      rd_wr_off _ _ (by decide), rd_raiseAt_off _ _ (by decide), rd_wrBit_off _ _ _ (by decide)]
    rfl

theorem fire_restarts_quiet {n : Nat} {d : Dev} (hl : sourceListed n = true) (hr : rawOf n d = false) (hs : severityOf n d = 3) :
    (fire n d).blt.quietFrom = d.devTime ∧ (inSafe d = false → (fire n d).blt.entryPending = true) := by
  rw [fire_eq hl hr (by omega), quietAt, if_pos hs]
  refine ⟨?_, fun hsafe => ?_⟩
  · show (latchAt _ _).devTime = d.devTime
    rw [latchAt_devTime, raiseAt_devTime]
    rfl
  · have hstays : inSafe (latchAt (severityOf n d) (raiseAt (severityOf n d) (wrBit BLT_STICKY_bits [n / 32] (n % 32) true d))) = false := by
      rw [← hsafe]
      simp (disch := decide) [inSafe, rdB]
    simp [hstays]

/-- In safe state a firing makes no entry pending. -/
theorem fire_calm {n : Nat} {d : Dev} (hl : sourceListed n = true) (hr : rawOf n d = false) (hs : severityOf n d ≠ 0) (hsafe : inSafe d = true)
    (hcalm : d.blt.entryPending = false) : (fire n d).blt.entryPending = false := by
  have hraise : ∀ sev x, (raiseAt sev x).blt = x.blt := fun sev x => by
    unfold raiseAt
    split
    · exact (raiseIrq_keeps (Kept.refl _ x) (Sub.refl _)).blt (by decide)
    · rfl
  have hlatch : ∀ sev x, (latchAt sev x).blt.entryPending = x.blt.entryPending := fun sev x => by
    unfold latchAt
    split
    · rw [latchPin_blt]
    · rfl
  have hstays : inSafe (latchAt (severityOf n d) (raiseAt (severityOf n d) (wrBit BLT_STICKY_bits [n / 32] (n % 32) true d))) = true := by
    rw [← hsafe]
    simp (disch := decide) [inSafe, rdB]
  rw [fire_eq hl hr hs]
  unfold quietAt
  split
  · simp [hlatch, hraise, hcalm, hstays]
  · rw [hlatch, hraise]; exact hcalm

/-! ### The pin latch -/

theorem releasePin_ended {d : Dev} (h : d.blt.timerEnd ≤ d.devTime) :
    rd BLT_STATUS_pin_latch [] (releasePin d) = 0 ∧ (releasePin d).blt.releasePending = false := by
  rw [releasePin, if_pos h]
  exact ⟨rd_wr_same BLT_STATUS_pin_latch [] 0 d, rfl⟩

theorem releasePin_running {d : Dev} (h : d.devTime < d.blt.timerEnd) :
    rd BLT_STATUS_pin_latch [] (releasePin d) = rd BLT_STATUS_pin_latch [] d ∧ (releasePin d).blt.releasePending = true := by
  rw [releasePin, if_neg (Nat.not_le.mpr h)]
  exact ⟨rfl, rfl⟩

/-- A source that is not listed is none of the first four, and has no severity. -/
theorem severityOf_unlisted (n : Nat) (d : Dev) (hl : sourceListed n = false) : severityOf n d = 0 := by
  have hfour : ∀ k < 4, sourceListed k = true ∨ sourceSeverity k = 0 := by decide
  unfold severityOf
  split
  · next h => exact (hfour n h).resolve_left (by simp [hl])
  · simp [hl]

end Sys2Proof.Machine

namespace Sys2Proof
open Machine

set_option exponentiation.threshold 2048

/-- Settles O18: a firing's parts are its sticky bit, the vector, the pin and, at SAFE, the quiet period; without them it does nothing. -/
theorem firingSetsItsStickyBit : Obligations.FiringSetsItsStickyBit := by
  intro n d
  refine ⟨(fire_only_kept n d).mono (by decide), fire_nothing n d, fun hl hr hs => ?_⟩
  exact ⟨fire_sticky n d hl hr hs, fun k hk => stickyOf_fire_ne d hk, fire_raises_vector hl hr hs, fire_latches_pin hl hr hs, fire_restarts_quiet hl hr⟩

/-- Settles O19: a source that is not listed has no severity and no effect, and the injection is a firing in test mode only. -/
theorem reservedSourcesAndInjection : Obligations.ReservedSourcesAndInjection := by
  refine ⟨fun n b d hl => ⟨fire_nothing n d (.inl hl), by simp [setRaw, hl], severityOf_unlisted n d hl⟩, fun w => ?_⟩
  refine carried_effect (fun _ => rfl) (fun _ _ => execFire_keeps) (by decide) (fun _ _ h => h) fun _ d ho _ => ⟨fun htest hbit => ?_, fun hnot => ?_⟩
  · rw [injectFault, if_pos (by simp [htest, hbit])]
    exact fired_raises (fired_fire rfl rfl)
  · refine unchanged_of_eq ho (if_neg ?_)
    rcases hnot with h | h <;> simp [h]

/-- Settles O20: the latch is cleared at once where the timer has ended, and at the timer's end where a release waits. -/
theorem pinLatchIsReleasedAtItsTimersEnd : Obligations.PinLatchIsReleasedAtItsTimersEnd := by
  refine ⟨?_, ?_⟩
  · refine carried_effect (fun _ => rfl) (fun _ _ => execPinRelease_keeps) (by decide) (fun _ _ h => h) fun _ d _ _ =>
      ⟨fun hend => ?_, fun hruns => ?_, ?_⟩
    · rw [rd_raises_off _ _ (by decide), raises_blt]
      exact releasePin_ended hend
    · rw [rd_raises_off _ _ (by decide), raises_blt]
      exact releasePin_running hruns
    · rw [rd_raises_off _ _ (by decide)]
      exact (releasePin_keeps (Kept.refl _ d) (Sub.refl _)).rd _ _ (by decide)
  · refine carried_effect (fun _ => rfl) (fun _ _ => execFaultNTimerExpiry_keeps) (by decide) (fun _ _ h => ⟨passes_quiet.mp h.1, h.2⟩) fun _ d _ hawake => ?_
    have hblt : (advanceDev d.blt.timerEnd d).blt = d.blt := (advanceDev_keeps (Kept.refl _ d) (Sub.refl _)).blt (by decide)
    have hpass : Passes d.blt.timerEnd d (faultTimer d) := by
      unfold faultTimer
      dsimp only
      split
      · exact (releasePin_keeps (Kept.refl _ _) (Sub.refl _)).passes (passes_advanceDev _ d)
      · exact passes_advanceDev _ d
    refine ⟨passes_raises hpass, fun hrel => ?_, fun hrel => ?_, ?_⟩
    · rw [rd_raises_off _ _ (by decide), raises_blt]
      have hended : (advanceDev d.blt.timerEnd d).blt.timerEnd ≤ (advanceDev d.blt.timerEnd d).devTime := by
        rw [hblt]; exact le_advanceDev _ hawake
      rw [faultTimer, if_pos (by rw [hblt]; exact hrel)]
      exact releasePin_ended hended
    · rw [rd_raises_off _ _ (by decide), faultTimer, if_neg (by rw [hblt, hrel]; decide), rd_advanceDev]
    · rw [rd_raises_off _ _ (by decide)]
      exact (faultTimer_keeps (Kept.refl _ d) (Sub.refl _)).rd _ _ (by decide)

end Sys2Proof
end

section
/-! PROOFS. Safe state is entered, and its entry drops the queue (O21). -/

namespace Sys2Proof.Machine

set_option exponentiation.threshold 2048

/-! ### The queues of salvos -/

/-- The queued and the posted salvos are as they were. -/
structure QueuesKept (d e : Dev) : Prop where
  queue : e.xpt.queue = d.xpt.queue
  posted : e.xpt.posted = d.xpt.posted

theorem QueuesKept.refl (d : Dev) : QueuesKept d d := ⟨rfl, rfl⟩

theorem QueuesKept.trans {a b c : Dev} (h : QueuesKept a b) (g : QueuesKept b c) : QueuesKept a c :=
  ⟨g.queue.trans h.queue, g.posted.trans h.posted⟩

theorem QueuesKept.of_xpt {a d e : Dev} (h : QueuesKept a d) (he : e.xpt = d.xpt) : QueuesKept a e := ⟨he ▸ h.queue, he ▸ h.posted⟩

/-- What leaves the crosspoint's state leaves its queues. -/
theorem QueuesKept.kept {m : Nat} {a d e : Dev} (h : QueuesKept a d) (hk : Kept m d e) (hm : Nat.land m 0x4000 = 0 := by decide) : QueuesKept a e :=
  h.of_xpt (hk.xpt hm)

section Steps

variable {a d : Dev}

theorem forEach_queuesKept {β : Type} {xs : List β} {f : β → Dev → Dev} (h : QueuesKept a d) (hf : ∀ x d, QueuesKept a d → QueuesKept a (f x d)) :
    QueuesKept a (forEach xs f d) := forEach_holds h hf

theorem ite_queuesKept {c : Prop} [Decidable c] {x y : Dev} (hx : QueuesKept a x) (hy : QueuesKept a y) : QueuesKept a (if c then x else y) := by
  split
  · exact hx
  · exact hy

theorem setSrcRun_queuesKept (n : Nat) (r : SrcRun) (h : QueuesKept a d) : QueuesKept a (setSrcRun n r d) := ⟨h.queue, h.posted⟩

theorem setDstRun_queuesKept (i : Nat) (r : DstRun) (h : QueuesKept a d) : QueuesKept a (setDstRun i r d) := ⟨h.queue, h.posted⟩

theorem showSlots_queuesKept (first n kind producer : Nat) (lost : Bool) (e : Int) (h : QueuesKept a d) :
    QueuesKept a (showSlots first n kind producer lost e d) := h.kept (showSlots_keeps (Kept.refl _ d) (Sub.refl _))

theorem vacate_queuesKept (first n : Nat) (h : QueuesKept a d) : QueuesKept a (vacate first n d) :=
  showSlots_queuesKept _ _ _ _ _ _ ⟨h.queue, h.posted⟩

theorem occupy_queuesKept (src first n producer : Nat) (h : QueuesKept a d) : QueuesKept a (occupy src first n producer d) := by
  unfold occupy
  split
  · exact h
  · exact showSlots_queuesKept _ _ _ _ _ _ ⟨h.queue, h.posted⟩

theorem closeRun_queuesKept (first n : Nat) (h : QueuesKept a d) : QueuesKept a (closeRun first n d) :=
  forUpTo_holds (P := QueuesKept a) ⟨h.queue, h.posted⟩ fun _ _ g => ⟨g.queue, g.posted⟩

theorem openRun_queuesKept (owner first n rate producer source : Nat) (h : QueuesKept a d) :
    QueuesKept a (openRun owner first n rate producer source d) :=
  forUpTo_holds (P := QueuesKept a) ⟨h.queue, h.posted⟩ fun _ _ g => ⟨g.queue, g.posted⟩

theorem openReader_queuesKept (it : TItem) (delay : Nat) (h : QueuesKept a d) : QueuesKept a (openReader it delay d) := by
  unfold openReader
  extract_lets t s src chans period run dSrc dSync
  have hSrc : QueuesKept a dSrc := ite_queuesKept h (setSrcRun_queuesKept _ _ h)
  exact showSlots_queuesKept _ _ _ _ _ _ (hSrc.kept (placeSync_keeps (Kept.refl _ _) (Sub.refl _)))

theorem startConv_queuesKept (it : TItem) (h : QueuesKept a d) : QueuesKept a (startConv it d) := h.kept (startConv_keeps (Kept.refl _ d) (Sub.refl _))

theorem sendStream_queuesKept (link slot : Nat) (x : Option SeaTx) (h : QueuesKept a d) : QueuesKept a (sendStream link slot x d) := ⟨h.queue, h.posted⟩

theorem loadColumn_queuesKept (i : Nat) (col : List (Nat × Nat)) (h : QueuesKept a d) : QueuesKept a (loadColumn i col d) :=
  h.kept (loadColumn_keeps (Kept.refl _ d) (Sub.refl _))

theorem fire_queuesKept (n : Nat) (h : QueuesKept a d) : QueuesKept a (fire n d) := h.kept (fire_only_kept n d)

theorem applySeam_queuesKept (it : TItem) (on : Bool) (h : QueuesKept a d) : QueuesKept a (applySeam it on d) := by
  have hslots : ∀ (audio : Bool) first d, QueuesKept a d →
      QueuesKept a (if audio then d else if on then occupy it.key first it.width 2 d else vacate first it.width d) := fun _ _ _ h =>
    ite_queuesKept h (ite_queuesKept (occupy_queuesKept _ _ _ _ h) (vacate_queuesKept _ _ h))
  have hstitch : ∀ (audio : Bool) n src d, QueuesKept a d → QueuesKept a (if audio then d else
      forUpTo it.width (fun j d => wr XPT_STITCH_src_slot [n + j] (if on then src + j else 0) (wrB XPT_STITCH_valid [n + j] on
        (wr XPT_STITCH_gang [n + j] (if on then gangCode it.width else 0) (wrB XPT_STITCH_member [n + j] (on && j != 0) d)))) d) := fun _ _ _ _ h =>
    ite_queuesKept h (forUpTo_holds (P := QueuesKept a) h fun _ _ g => ⟨g.queue, g.posted⟩)
  unfold applySeam
  split
  · dsimp only
    refine ite_queuesKept (hstitch _ _ _ _ ?_) (ite_queuesKept (hstitch _ _ _ _ ?_) (ite_queuesKept (hslots _ _ _ ?_) h))
    · exact ⟨h.queue, h.posted⟩
    · refine sendStream_queuesKept _ _ _ (hslots _ _ _ ?_)
      exact ⟨h.queue, h.posted⟩
    · exact ⟨h.queue, h.posted⟩
  · exact h

theorem freeItem_queuesKept (it : TItem) (h : QueuesKept a d) : QueuesKept a (freeItem it d) := by
  unfold freeItem
  split
  · exact vacate_queuesKept _ _ h
  · exact h.kept (freeSurf_keeps (Kept.refl _ d) (Sub.refl _))
  · exact vacate_queuesKept _ _ (h.kept (freeSync_keeps (Kept.refl _ d) (Sub.refl _)))
  · exact vacate_queuesKept _ _ (h.kept (freeSync_keeps (Kept.refl _ d) (Sub.refl _)))
  · exact vacate_queuesKept _ _ ((h.kept (stopConv_keeps (Kept.refl _ d) (Sub.refl _))).kept (freeSync_keeps (Kept.refl _ _) (Sub.refl _)))
  · exact h.kept (freeSurf_keeps (Kept.refl _ d) (Sub.refl _))
  · exact h.kept (freeRx_keeps (Kept.refl _ d) (Sub.refl _))
  · exact h.kept (freeTx_keeps (Kept.refl _ d) (Sub.refl _))
  · exact ⟨h.queue, h.posted⟩
  · exact applySeam_queuesKept _ _ h
  · exact closeRun_queuesKept _ _ h
  · exact forUpTo_holds (P := QueuesKept a) h fun _ _ g => ⟨g.queue, g.posted⟩
  · exact h.kept (freeSurf_keeps (Kept.refl _ d) (Sub.refl _))
  · exact h

theorem placeSurf_queuesKept {s kind owner fmt fam ch bank depth : Nat} {proxies kHalf ring : Bool} {slot since : Nat} (h : QueuesKept a d) :
    QueuesKept a (placeSurf s kind owner fmt fam ch bank depth proxies kHalf ring slot since d) := h.kept (placeSurf_keeps (Kept.refl _ d) (Sub.refl _))

theorem placeItem_queuesKept (it : TItem) (h : QueuesKept a d) : QueuesKept a (placeItem it d) := by
  unfold placeItem
  extract_lets t now i ns col
  split
  · split
    · exact occupy_queuesKept _ _ _ _ h
    · exact h
  · exact placeSurf_queuesKept h
  · exact openReader_queuesKept _ _ h
  · exact openReader_queuesKept _ _ h
  · exact startConv_queuesKept _ (openReader_queuesKept _ _ h)
  · exact placeSurf_queuesKept h
  · split
    · exact h.kept (placeRx_keeps (Kept.refl _ d) (Sub.refl _))
    · split
      · split
        · exact h.kept (placeRx_keeps (Kept.refl _ d) (Sub.refl _))
        · exact h
      · exact h
  · split
    · split
      · exact h.kept (placeTx_keeps (Kept.refl _ d) (Sub.refl _))
      · exact h
    · exact h
  · refine loadColumn_queuesKept _ _ ?_
    exact ⟨h.queue, h.posted⟩
  · exact applySeam_queuesKept _ _ h
  · split
    · exact openRun_queuesKept _ _ _ _ _ _ h
    · exact h
  · exact forUpTo_holds (P := QueuesKept a) h fun _ _ g => ⟨g.queue, g.posted⟩
  · exact placeSurf_queuesKept h
  · exact h

/-- What is placed and freed leaves the queues. -/
theorem settle_queuesKept (h : QueuesKept a d) : QueuesKept a (settle d) := by
  unfold settle
  extract_lets now gone dFreed keep due items tlr dItems order dPlaced dFresh
  have hFreed : QueuesKept a dFreed := forEach_queuesKept h fun it _ g => freeItem_queuesKept it g
  clear_value dFreed
  have hPlaced : QueuesKept a dPlaced := forEach_queuesKept ⟨hFreed.queue, hFreed.posted⟩ fun it _ g => placeItem_queuesKept it g
  clear_value dPlaced
  have hFresh : QueuesKept a dFresh := forEach_queuesKept hPlaced fun it d g => g.kept (refreshSurf_keeps (Kept.refl _ d) (Sub.refl _))
  exact ite_queuesKept (hFresh.kept (updateMemb_keeps (Kept.refl _ _) (Sub.refl _))) hFresh

/-! ### Losses -/

theorem declareDst_queuesKept (i : Nat) (h : QueuesKept a d) : QueuesKept a (declareDst i d) := by
  unfold declareDst
  extract_lets r r'
  refine ite_queuesKept h (fire_queuesKept 66 ?_)
  exact ⟨h.queue, h.posted⟩

theorem declareLoss_queuesKept (n : Nat) (h : QueuesKept a d) : QueuesKept a (declareLoss n d) := by
  unfold declareLoss
  extract_lets r dStop
  have hStop : QueuesKept a dStop :=
    ((setSrcRun_queuesKept n _ h).kept (markSlots_keeps (Kept.refl _ _) (Sub.refl _))).kept (stopSource_keeps (Kept.refl _ _) (Sub.refl _))
  clear_value dStop
  refine ite_queuesKept h (forEach_queuesKept hStop fun x d g => ?_)
  extract_lets run dRun
  have hRun : QueuesKept a dRun := ite_queuesKept (setDstRun_queuesKept _ _ g) g
  clear_value dRun
  refine ite_queuesKept (setDstRun_queuesKept _ _ (declareDst_queuesKept _ hRun)) hRun

theorem loseStreams_queuesKept (n : Nat) (h : QueuesKept a d) : QueuesKept a (loseStreams n d) :=
  forEach_queuesKept ⟨h.queue, h.posted⟩ fun p _ g => declareLoss_queuesKept p.2.source g

theorem evalLink_queuesKept (n : Nat) (h : QueuesKept a d) : QueuesKept a (evalLink n d) := by
  unfold evalLink
  extract_lets was up dUp dRx dDown dEnd
  have hUp : QueuesKept a dUp := ⟨h.queue, h.posted⟩
  clear_value dUp
  have hRx : QueuesKept a dRx := by
    refine ite_queuesKept ?_ hUp
    have hlost : QueuesKept a (if (seaLink n dUp).rx.any (fun p => !p.2.lost) then loseStreams n dUp else dUp) :=
      ite_queuesKept (loseStreams_queuesKept n hUp) hUp
    exact ⟨hlost.queue, hlost.posted⟩
  clear_value dRx
  have hEnd : QueuesKept a dEnd := by
    have hDown : QueuesKept a dDown := by
      refine fire_queuesKept 241 ?_
      exact ⟨hRx.queue, hRx.posted⟩
    clear_value dDown
    refine ite_queuesKept (ite_queuesKept (fire_queuesKept 246 ?_) hDown) hRx
    exact ⟨hDown.queue, hDown.posted⟩
  exact hEnd.kept (chooseUpstream_keeps (Kept.refl _ _) (Sub.refl _))

theorem seamIdle_queuesKept (h : QueuesKept a d) : QueuesKept a (seamIdle d) :=
  forUpTo_holds (P := QueuesKept a) h fun _ _ g => ite_queuesKept (evalLink_queuesKept _ ⟨g.queue, g.posted⟩) g

end Steps

/-! ### Safe state and a pending entry -/

/-- The device is in safe state, and no entry is pending. -/
structure SafeCalm (d : Dev) : Prop where
  safe : inSafe d = true
  calm : d.blt.entryPending = false

section Calm

variable {d e : Dev}

theorem SafeCalm.kept {m : Nat} (h : SafeCalm d) (hk : Kept m d e) (hb : Nat.land m 0x1000 = 0 := by decide)
    (hs : Nat.testBit m (33 + BLT_STATUS_safe.no % 1024) = false := by decide) : SafeCalm e :=
  ⟨(hk.rdB _ _ hs).trans h.safe, (congrArg Blt.entryPending (hk.blt hb)).trans h.calm⟩

theorem SafeCalm.wr {f : Fld} {ix : List Nat} {v : Nat} (h : SafeCalm d) (hf : BLT_STATUS_safe.no % 1024 ≠ f.no % 1024 := by decide) :
    SafeCalm (Machine.wr f ix v d) := ⟨(rdB_wr_ne v d (key_reg hf)).trans h.safe, h.calm⟩

theorem SafeCalm.of_regs (h : SafeCalm d) (hr : e.regs = d.regs) (hb : e.blt = d.blt) : SafeCalm e :=
  ⟨(rdB_congr _ _ hr).trans h.safe, (congrArg Blt.entryPending hb).trans h.calm⟩

/-- A firing in safe state makes no entry pending (R449). -/
theorem SafeCalm.fire (n : Nat) (h : SafeCalm d) : SafeCalm (Machine.fire n d) := by
  refine ⟨(rdB_fire n d _ _ (by decide) (by decide) (by decide)).trans h.safe, ?_⟩
  by_cases hn : sourceListed n = false ∨ rawOf n d = true ∨ severityOf n d = 0
  · rw [fire_nothing n d hn]; exact h.calm
  · simp only [not_or, Bool.not_eq_true, Bool.not_eq_false] at hn
    obtain ⟨hl, hr, hs⟩ := hn
    exact fire_calm hl hr hs h.safe h.calm

theorem SafeCalm.ite {c : Prop} [Decidable c] {x y : Dev} (hx : SafeCalm x) (hy : SafeCalm y) : SafeCalm (if c then x else y) := by
  split
  · exact hx
  · exact hy

theorem forEach_calm {β : Type} {xs : List β} {f : β → Dev → Dev} (h : SafeCalm d) (hf : ∀ x d, SafeCalm d → SafeCalm (f x d)) :
    SafeCalm (forEach xs f d) := forEach_holds h hf

theorem SafeCalm.toReset {f : Fld} {ix : List Nat} (h : SafeCalm d) (hf : BLT_STATUS_safe.no % 1024 ≠ f.no % 1024 := by decide) :
    SafeCalm (Machine.toReset f ix d) := by
  refine ⟨?_, h.calm⟩
  rw [← h.safe, inSafe, inSafe, rdB, rdB, rd_toReset_ne d (key_reg hf)]

theorem surfFields_calm (s : Nat) (h : SafeCalm d) : SafeCalm (forEach surfFields (fun f d => Machine.wr f [s] 0 d) d) := by
  have hfields : ∀ f ∈ surfFields, Sub (fldMask f) (regsMask surfFields) := by decide
  exact h.kept (forEach_mem_keeps (Kept.refl _ d) fun f hf _ g => wr_keeps g (hfields f hf))

theorem freeSurf_calm (s : Nat) (h : SafeCalm d) : SafeCalm (freeSurf s d) := by
  unfold freeSurf
  extract_lets ink dFreed
  have hFreed : SafeCalm dFreed := surfFields_calm s (h.of_regs rfl rfl)
  clear_value dFreed
  split
  · refine SafeCalm.ite ?_ hFreed
    exact SafeCalm.fire 165 (SafeCalm.wr (SafeCalm.wr (SafeCalm.wr (hFreed.of_regs rfl rfl))))
  · exact hFreed

theorem placeSync_calm (n : Nat) (r : SyncRun) (channels : Nat) (h : SafeCalm d) : SafeCalm (placeSync n r channels d) := by
  unfold placeSync
  extract_lets p ps ts fits audio dRun dShown
  have hShown : SafeCalm dShown := by
    have hRun : SafeCalm dRun := h.of_regs rfl rfl
    exact hRun.ite (SafeCalm.wr (SafeCalm.wr (SafeCalm.wr (SafeCalm.wr (SafeCalm.wr hRun)))))
  clear_value dShown
  exact (SafeCalm.fire 166 hShown.wr).ite hShown

theorem openReader_calm (it : TItem) (delay : Nat) (h : SafeCalm d) : SafeCalm (openReader it delay d) := by
  unfold openReader
  extract_lets t s src chans period run dSrc dSync
  have hSrc : SafeCalm dSrc := h.ite (h.of_regs rfl rfl)
  exact (placeSync_calm _ _ _ hSrc).kept (showSlots_keeps (Kept.refl _ _) (Sub.refl _))

theorem freeItem_calm (it : TItem) (h : SafeCalm d) : SafeCalm (freeItem it d) := by
  have hslot : ∀ d, SafeCalm d → SafeCalm (vacate it.slot it.width (freeSync it.slot d)) := fun d h =>
    (h.kept (freeSync_keeps (Kept.refl _ d) (Sub.refl _))).kept (vacate_keeps (Kept.refl _ _) (Sub.refl _))
  unfold freeItem
  split
  · exact h.kept (vacate_keeps (Kept.refl _ d) (Sub.refl _))
  · exact freeSurf_calm _ h
  · exact hslot d h
  · exact hslot d h
  · exact hslot _ (h.kept (stopConv_keeps (Kept.refl _ d) (Sub.refl _)))
  · exact freeSurf_calm _ h
  · exact h.kept (freeRx_keeps (Kept.refl _ d) (Sub.refl _))
  · exact h.kept (freeTx_keeps (Kept.refl _ d) (Sub.refl _))
  · exact SafeCalm.toReset (SafeCalm.toReset (SafeCalm.wr (SafeCalm.toReset (SafeCalm.toReset (h.of_regs rfl rfl)))))
  · exact h.kept (applySeam_keeps (Kept.refl _ d) (Sub.refl _))
  · exact h.kept (closeRun_keeps (Kept.refl _ d) (Sub.refl _))
  · exact forUpTo_holds (P := SafeCalm) h fun _ _ g => SafeCalm.toReset (SafeCalm.toReset (g.of_regs rfl rfl))
  · exact freeSurf_calm _ h
  · exact h

theorem placeItem_calm (it : TItem) (h : SafeCalm d) : SafeCalm (placeItem it d) := by
  unfold placeItem
  extract_lets t now i ns col
  split
  · split
    · exact h.kept (occupy_keeps (Kept.refl _ d) (Sub.refl _))
    · exact h
  · exact h.kept (placeSurf_keeps (Kept.refl _ d) (Sub.refl _))
  · exact openReader_calm _ _ h
  · exact openReader_calm _ _ h
  · exact (openReader_calm _ _ h).kept (startConv_keeps (Kept.refl _ _) (Sub.refl _))
  · exact h.kept (placeSurf_keeps (Kept.refl _ d) (Sub.refl _))
  · split
    · exact h.kept (placeRx_keeps (Kept.refl _ d) (Sub.refl _))
    · split
      · split
        · exact h.kept (placeRx_keeps (Kept.refl _ d) (Sub.refl _))
        · exact h
      · exact h
  · split
    · split
      · exact h.kept (placeTx_keeps (Kept.refl _ d) (Sub.refl _))
      · exact h
    · exact h
  · exact SafeCalm.kept (SafeCalm.wr (SafeCalm.wr (SafeCalm.wr (SafeCalm.wr (SafeCalm.wr h))))) (loadColumn_keeps (Kept.refl _ _) (Sub.refl _))
  · exact h.kept (applySeam_keeps (Kept.refl _ d) (Sub.refl _))
  · split
    · exact h.kept (openRun_keeps (Kept.refl _ d) (Sub.refl _))
    · exact h
  · exact forUpTo_holds (P := SafeCalm) h fun _ _ g => g.wr.wr
  · exact h.kept (placeSurf_keeps (Kept.refl _ d) (Sub.refl _))
  · exact h

theorem settle_calm (h : SafeCalm d) : SafeCalm (settle d) := by
  unfold settle
  extract_lets now gone dFreed keep due items tlr dItems order dPlaced dFresh
  have hFreed : SafeCalm dFreed := forEach_calm h fun it _ g => freeItem_calm it g
  clear_value dFreed
  have hPlaced : SafeCalm dPlaced := forEach_calm (hFreed.of_regs rfl rfl) fun it _ g => placeItem_calm it g
  clear_value dPlaced
  have hFresh : SafeCalm dFresh := forEach_calm hPlaced fun it d g => g.kept (refreshSurf_keeps (Kept.refl _ d) (Sub.refl _))
  exact (hFresh.kept (updateMemb_keeps (Kept.refl _ _) (Sub.refl _))).ite hFresh

/-- Telling of a salvo that was not executed. -/
theorem notExec_calm (tag : Nat) (h : SafeCalm d) :
    SafeCalm (fire 65 (Machine.wr XPT_STATUS_not_exec [] 1 (count XPT_NX_CNT_count [] 1 (Machine.wr XPT_NX_tag [] tag d)))) :=
  SafeCalm.fire 65 (SafeCalm.wr (SafeCalm.wr h.wr))

theorem notExecuted_calm (b tag : Nat) (h : SafeCalm d) : SafeCalm (notExecuted b tag d) := by
  unfold notExecuted withRes
  extract_lets dRes dTold
  have hRes : SafeCalm dTold := by
    have hwr : SafeCalm dRes := h.wr.wr
    exact hwr.ite (hwr.kept (raiseIrq_keeps (Kept.refl _ _) (Sub.refl _)))
  exact notExec_calm tag hRes

theorem withdraw_calm (q : QSalvo) (h : SafeCalm d) : SafeCalm (withdraw q d) := by
  unfold withdraw
  extract_lets t items epoch t' dEpoch
  have hEpoch : SafeCalm dEpoch := SafeCalm.wr (h.of_regs rfl rfl)
  exact (notExecuted_calm _ _ hEpoch).ite (notExec_calm _ hEpoch)

theorem dropSalvos_calm (h : SafeCalm d) : SafeCalm (dropSalvos d) := by
  unfold dropSalvos
  extract_lets queue posted dWithdrawn xpt dSettled dTold
  have hWithdrawn : SafeCalm dWithdrawn := forEach_calm h fun q _ g => withdraw_calm q g
  clear_value dWithdrawn
  have hSettled : SafeCalm dSettled := settle_calm (hWithdrawn.of_regs rfl rfl)
  clear_value dSettled
  have hTold : SafeCalm dTold := forEach_calm hSettled fun q d g =>
    (notExecuted_calm _ _ g).ite (g.kept (answer_keeps (Kept.refl _ d) (Sub.refl _)))
  exact hTold.kept (showQueue_keeps (Kept.refl _ dTold) (Sub.refl _))

theorem declareDst_calm (i : Nat) (h : SafeCalm d) : SafeCalm (declareDst i d) := by
  unfold declareDst
  extract_lets r r'
  exact h.ite (SafeCalm.fire 66 (SafeCalm.wr (SafeCalm.wr (h.of_regs rfl rfl))))

theorem declareLoss_calm (n : Nat) (h : SafeCalm d) : SafeCalm (declareLoss n d) := by
  unfold declareLoss
  extract_lets r dStop
  have hStop : SafeCalm dStop :=
    ((h.kept (setSrcRun_keeps (Kept.refl _ _) (Sub.refl _))).kept (markSlots_keeps (Kept.refl _ _) (Sub.refl _))).kept (stopSource_keeps (Kept.refl _ _) (Sub.refl _))
  clear_value dStop
  refine SafeCalm.ite h (forEach_calm hStop fun x d g => ?_)
  extract_lets run dRun
  have hRun : SafeCalm dRun := SafeCalm.ite (g.of_regs rfl rfl) g
  clear_value dRun
  refine SafeCalm.ite ?_ hRun
  exact (declareDst_calm x.index hRun).of_regs rfl rfl

theorem evalLink_calm (n : Nat) (h : SafeCalm d) : SafeCalm (evalLink n d) := by
  unfold evalLink
  extract_lets was up dUp dRx dDown dEnd
  have hUp : SafeCalm dUp := SafeCalm.wr (SafeCalm.wr h)
  clear_value dUp
  have hRx : SafeCalm dRx := by
    refine SafeCalm.ite (SafeCalm.wr (SafeCalm.ite ?_ hUp)) hUp
    exact forEach_calm (hUp.of_regs rfl rfl) fun p _ g => declareLoss_calm p.2.source g
  clear_value dRx
  have hEnd : SafeCalm dEnd := by
    have hDown : SafeCalm dDown := SafeCalm.fire 241 hRx.wr.wr
    clear_value dDown
    exact (SafeCalm.ite (SafeCalm.fire 246 hDown.wr) hDown).ite hRx
  exact hEnd.kept (chooseUpstream_keeps (Kept.refl _ _) (Sub.refl _))

theorem seamIdle_calm (h : SafeCalm d) : SafeCalm (seamIdle d) :=
  forUpTo_holds (P := SafeCalm) h fun _ _ g => (evalLink_calm _ g.wr).ite g

end Calm

/-! ### The entry into safe state -/

/-- Withdrawing every salvo leaves none queued or posted (R450). -/
theorem dropSalvos_empties (d : Dev) : (dropSalvos d).xpt.queue = [] ∧ (dropSalvos d).xpt.posted = [] := by
  unfold dropSalvos
  extract_lets queue posted dWithdrawn xpt dSettled dTold
  have hSettled : QueuesKept { dWithdrawn with xpt := { xpt with queue := [], posted := [] } } dSettled := settle_queuesKept (.refl _)
  clear_value dSettled
  have hTold : QueuesKept _ dTold := forEach_queuesKept hSettled fun q d g =>
    ite_queuesKept (g.kept (notExecuted_keeps (Kept.refl _ d) (Sub.refl _))) (g.kept (answer_keeps (Kept.refl _ d) (Sub.refl _)))
  have hShown := hTold.kept (showQueue_keeps (Kept.refl _ dTold) (Sub.refl _))
  exact ⟨hShown.queue, hShown.posted⟩

/-- The device one core cycle on, with no entry pending any more. -/
def entryInstant (d : Dev) : Dev := advance 1 { d with blt := { d.blt with entryPending := false } }

/-- What an entry shows first. -/
def enterSafe (d : Dev) : Dev :=
  wr BLT_STATUS_safe [] 1 (wr BLT_SAFE_AT_ntw [] (ntwWord d.ntw) { d with pins := { d.pins with healthHb := false } })

/-- What an entry does to the units: sound is muted, salvos are withdrawn, flows halt and the links of Seam fall silent. -/
def haltUnits (d : Dev) : Dev :=
  let d := startMute (dropSalvos d)
  seamIdle (forEach (localDsts d) (fun x d => txHalt x.index d) d)

theorem safeEntry_eq {d : Dev} (hp : d.blt.entryPending = true) :
    safeEntry d = if inSafe (entryInstant d) then entryInstant d else haltUnits (enterSafe (entryInstant d)) := by
  unfold safeEntry
  rw [if_neg (by simp [hp])]
  rfl

@[simp] theorem rd_entryInstant (f : Fld) (ix : List Nat) (d : Dev) : rd f ix (entryInstant d) = rd f ix d := rd_advance f ix 1 _

theorem entryInstant_blt (d : Dev) : (entryInstant d).blt = { d.blt with entryPending := false } := advance_blt 1 _

/-- It leaves the time, the pins and BLT_SAFE_AT. -/
theorem haltUnits_kept (d : Dev) : Kept (2 ^ 1058 - 1 - 0x418 - 2 ^ (33 + BLT_SAFE_AT_ntw.no % 1024)) d (haltUnits d) :=
  seamIdle_keeps (forEach_keeps (startMute_keeps (dropSalvos_keeps (Kept.refl _ d) (by decide)) (by decide)) fun _ _ g => txHalt_keeps g (by decide))
    (by decide)

theorem haltUnits_calm {d : Dev} (h : SafeCalm d) : SafeCalm (haltUnits d) :=
  seamIdle_calm (forEach_calm ((dropSalvos_calm h).kept (startMute_keeps (Kept.refl _ _) (Sub.refl _))) fun _ d g =>
    g.kept (txHalt_keeps (Kept.refl _ d) (Sub.refl _)))

theorem haltUnits_empties (d : Dev) : (haltUnits d).xpt.queue = [] ∧ (haltUnits d).xpt.posted = [] := by
  have hmute : QueuesKept (dropSalvos d) (startMute (dropSalvos d)) := (QueuesKept.refl _).kept (startMute_keeps (Kept.refl _ _) (Sub.refl _))
  have hhalt : QueuesKept (dropSalvos d) (haltUnits d) :=
    seamIdle_queuesKept (forEach_queuesKept hmute fun _ d g => g.kept (txHalt_keeps (Kept.refl _ d) (Sub.refl _)))
  obtain ⟨hq, hp⟩ := dropSalvos_empties d
  exact ⟨hhalt.queue.trans hq, hhalt.posted.trans hp⟩

/-- One core cycle is what comes up to the next unit of NTW. -/
theorem comes_entryInstant {d : Dev} (h : heldDown d = false) : Comes (d.ntw + 1) d (entryInstant d) := by
  have hone : ceilDiv (d.ntw + 1 - d.ntw) (cycleUnits (steering d)) = 1 := by
    rw [Nat.add_sub_cancel_left, ceilDiv, Nat.add_sub_cancel_left]
    exact Nat.div_self (cycleUnits_pos _)
  have hinst : entryInstant d = _ := advance_of_awake (d := { d with blt := { d.blt with entryPending := false } }) 1 h
  unfold Comes advanceTo
  rw [hone, hinst, advance_of_awake 1 h]
  exact ⟨rfl, rfl⟩

theorem enterSafe_blt (d : Dev) : (enterSafe d).blt = d.blt := by
  rw [enterSafe, wr_blt, wr_blt]

theorem enterSafe_calm {d : Dev} (h : d.blt.entryPending = false) : SafeCalm (enterSafe d) :=
  ⟨by rw [inSafe, rdB, enterSafe, rd_wr_same]; rfl, by rw [enterSafe_blt, h]⟩

theorem ntwWord_lt (t : Nat) : ntwWord t < 2 ^ 128 := by
  have hs : secOf t % 2 ^ 48 < 2 ^ 48 := Nat.mod_lt _ (by decide)
  have hn := nibInSec_lt t
  have hf : t % Config.fracPerNib < 2 ^ 44 := Nat.mod_lt _ (by decide)
  have hword : ntwWord t = secOf t % 2 ^ 48 * 2 ^ 80 + nibInSec t * 2 ^ 44 + t % Config.fracPerNib := rfl
  omega

theorem rd_at_enterSafe (d : Dev) : rd BLT_SAFE_AT_ntw [] (enterSafe d) = ntwWord d.ntw := by
  rw [enterSafe, rd_wr_off _ _ (by decide), rd_wr_same]
  exact Nat.mod_eq_of_lt (ntwWord_lt d.ntw)

theorem enterSafe_ntw (d : Dev) : (enterSafe d).ntw = d.ntw := by
  rw [enterSafe, wr_ntw, wr_ntw]

theorem enterSafe_pins (d : Dev) : (enterSafe d).pins = { d.pins with healthHb := false } := by
  rw [enterSafe, wr_pins, wr_pins]

end Sys2Proof.Machine

namespace Sys2Proof
open Machine

set_option exponentiation.threshold 2048

/-- Settles O21: an entry takes one core cycle, shows safe state and withdraws every salvo; none of what it does makes another entry pending. -/
theorem safeStateEntersAndDropsTheQueue : Obligations.SafeStateEntersAndDropsTheQueue := by
  refine carried_effect (fun _ => rfl) (fun _ _ => execSafeStateEntry_keeps) (by decide)
    (fun d _ ⟨hcomes, henter, hstays, hnot⟩ => ⟨fun hp => ⟨comes_quiet.mp (hcomes hp).1, (hcomes hp).2⟩, henter,
      fun hp hs => changes_of_quiet (hstays hp hs), hnot⟩) fun _ d ho hawake => ?_
  have hhalt := haltUnits_kept (enterSafe (entryInstant d))
  have hcalm : (entryInstant d).blt.entryPending = false := by rw [entryInstant_blt]
  have hsafe : inSafe (entryInstant d) = inSafe d := by simp [inSafe, rdB]
  have hcomes : Comes (d.ntw + 1) d (enterSafe (entryInstant d)) := comes_wr (comes_wr (comes_entryInstant hawake))
  cases hp : d.blt.entryPending with
  | false =>
    refine ⟨fun h => absurd h (by simp), fun h => absurd h (by simp), fun h => absurd h (by simp), fun _ => unchanged_of_eq ho ?_⟩
    rw [safeEntry, if_pos (by simp [hp])]
  | true =>
    rw [safeEntry_eq hp, hsafe]
    cases hs : inSafe d with
    | true =>
      refine ⟨fun _ => ?_, fun _ h => absurd h (by simp), fun _ _ => ?_, fun h => absurd h (by simp)⟩
      · rw [if_pos rfl, raises_blt]
        exact ⟨comes_raises (comes_entryInstant hawake), hcalm⟩
      · rw [if_pos rfl]
        have hinst : Kept 0x1018 d (entryInstant d) := advance_keeps (upd_blt (Kept.refl _ d) (by decide)) (by decide)
        exact (hinst.mono (by decide)).trans ((raises_kept d _).mono (by decide))
    | false =>
      rw [if_neg (by simp)]
      obtain ⟨hhalted, hquiet⟩ := haltUnits_calm (enterSafe_calm hcalm)
      have hin : inSafe (raises d (haltUnits (enterSafe (entryInstant d)))) = true := by
        rw [inSafe, rdB_raises _ _ _ _ (by decide)]; exact hhalted
      refine ⟨fun _ => ⟨comes_raises (hhalt.comes hcomes), ?_⟩, fun _ _ => ⟨hin, ?_, ?_, ?_, ?_, ?_⟩,
        fun _ h => absurd h (by simp), fun h => absurd h (by simp)⟩
      · rw [raises_blt, hquiet]
      · simp [faultN, hin]
      · rw [raises_pins, hhalt.pins (by decide), enterSafe_pins]
      · rw [raises_xpt]; exact (haltUnits_empties _).1
      · rw [raises_xpt]; exact (haltUnits_empties _).2
      · rw [rd_raises_off _ _ (by decide), hhalt.rd _ _ (by decide), rd_at_enterSafe, raises_ntw, hhalt.ntw (by decide), enterSafe_ntw]

end Sys2Proof
end

section
/-! PROOFS. Safe state is left (O22). -/

namespace Sys2Proof.Machine

set_option exponentiation.threshold 2048

theorem advanceTo_quiet (t : Nat) (d : Dev) : advanceTo t (quiet d) = quiet (advanceTo t d) := advance_quiet _ d

/-! ### Leaving safe state -/

/-- What leaving safe state does to the units leaves BLT_STATUS.safe and BLT_EXIT_AT. -/
theorem leaveSafe_shown (d : Dev) :
    Kept (2 ^ 1058 - 1 - 2 ^ (33 + BLT_STATUS_safe.no % 1024) - 2 ^ (33 + BLT_EXIT_AT_ntw.no % 1024))
      (wr BLT_STATUS_safe [] 0 (wr BLT_EXIT_AT_ntw [] (ntwWord d.ntw) d)) (leaveSafe d) :=
  reportAll_keeps (restartMigs_keeps (retrainEth_keeps (endMute_keeps (Kept.refl _ _) (by decide)) (by decide)) (by decide)) (by decide)

theorem inSafe_leaveSafe (d : Dev) : inSafe (leaveSafe d) = false := by
  rw [inSafe, (leaveSafe_shown d).rdB _ _ (by decide), rdB, rd_wr_same]
  rfl

theorem rd_exitAt_leaveSafe (d : Dev) : rd BLT_EXIT_AT_ntw [] (leaveSafe d) = ntwWord d.ntw := by
  rw [(leaveSafe_shown d).rd _ _ (by decide), rd_wr_off _ _ (by decide), rd_wr_same]
  exact Nat.mod_eq_of_lt (ntwWord_lt d.ntw)

/-- What leaving safe state changes. -/
theorem leaveSafe_kept (d : Dev) : Kept 0x1000020000000000000000000000000000000000000000000000000000000000000000000000000000000000000000000000000000000000000000000000000040000000000000005c000002080000000000000000000000000000000000000000000000000000000000000000000000004440001 d (leaveSafe d) :=
  leaveSafe_keeps (Kept.refl _ d) (Sub.refl _)

theorem autoExit_stays {d : Dev} (h : rdB BLT_STATUS_latched [] d = true ∨ quietOver d = false) : autoExit d = d := by
  unfold autoExit
  rw [if_pos]
  rcases h with h | h <;> simp [h]

theorem autoExit_latches {d : Dev} (hs : inSafe d = true) (hl : rdB BLT_STATUS_latched [] d = false) (hq : quietOver d = true) (h8 : 8 ≤ recentExits d) :
    autoExit d = latchSafe d := by
  unfold autoExit
  rw [if_neg (by simp [hs, hl, hq]), if_pos h8]

theorem autoExit_leaves {d : Dev} (hs : inSafe d = true) (hl : rdB BLT_STATUS_latched [] d = false) (hq : quietOver d = true) (h8 : recentExits d < 8) :
    ∃ b : Blt, autoExit d = fire 3 (leaveSafe (count BLT_RECOV_count [] 1 { d with blt := b })) := by
  unfold autoExit
  rw [if_neg (by simp [hs, hl, hq]), if_neg (by omega)]
  exact ⟨_, rfl⟩

/-- An exit to the tick at which the quiet period has run. -/
def exitInstant (d : Dev) : Nat :=
  nextMultiple 52920000 (if d.blt.quietFrom + rd BLT_QUIET_quiet_ms [] d * msUnits - d.devTime = 0
    then d.ntw + 1 - cycleUnits (steering d) else d.ntw + (d.blt.quietFrom + rd BLT_QUIET_quiet_ms [] d * msUnits - d.devTime))

theorem safeExit_eq {d : Dev} (hs : inSafe d = true) : safeExit d = autoExit (advanceTo (exitInstant d) d) := by
  unfold safeExit
  rw [if_neg (by simp [hs])]
  rfl

/-- What the exit shows, whichever of the three it comes to. -/
theorem autoExit_shows {x : Dev} (hs : inSafe x = true) :
    (rdB BLT_STATUS_latched [] x = true ∨ quietOver x = false → inSafe (autoExit x) = true) ∧
    (rdB BLT_STATUS_latched [] x = false → quietOver x = true → 8 ≤ recentExits x →
      inSafe (autoExit x) = true ∧ rd BLT_STATUS_latched [] (autoExit x) = 1) ∧
    (rdB BLT_STATUS_latched [] x = false → quietOver x = true → recentExits x < 8 →
      inSafe (autoExit x) = false ∧ rd BLT_EXIT_AT_ntw [] (autoExit x) = ntwWord x.ntw ∧
      rd BLT_RECOV_count [] (autoExit x) = min (2 ^ BLT_RECOV_count.w - 1) (rd BLT_RECOV_count [] x + 1)) := by
  refine ⟨fun h => ?_, fun hl hq h8 => ?_, fun hl hq h8 => ?_⟩
  · rw [autoExit_stays h, hs]
  · rw [autoExit_latches hs hl hq h8]
    have hset : rd BLT_STATUS_latched [] (wr BLT_STATUS_latched [] 1 x) = 1 := rd_wr_same _ _ _ _
    refine ⟨?_, ?_⟩
    · rw [← hs]
      simp (disch := decide) [latchSafe, inSafe, rdB]
    · simp (disch := decide) [latchSafe, hset]
  · obtain ⟨b, hleave⟩ := autoExit_leaves hs hl hq h8
    rw [hleave]
    refine ⟨?_, ?_, ?_⟩
    · rw [inSafe, rdB_fire _ _ _ _ (by decide) (by decide) (by decide)]
      exact inSafe_leaveSafe _
    · rw [rd_fire_off _ _ (by decide) (by decide) (by decide), rd_exitAt_leaveSafe]
      rfl
    · rw [rd_fire_off _ _ (by decide) (by decide) (by decide), (leaveSafe_kept _).rd _ _ (by decide), rd_count_same]
      rfl

/-! ### A written release -/

/-- The device after a release at its tick, before it is asked whether safe state can be left. -/
def releaseShown (d : Dev) : Dev :=
  setRaw 1 false (wr BLT_STATUS_latched [] 0 { d with blt := { d.blt with safeRelease := false, exits := [] } })

theorem releaseAtTick_eq {d : Dev} (h : d.blt.safeRelease = true) : releaseAtTick d =
    if inSafe (releaseShown d) && !safeStands (releaseShown d) && !(releaseShown d).blt.entryPending &&
      (releaseShown d).blt.quietFrom ≠ (releaseShown d).devTime then leaveSafe (releaseShown d) else releaseShown d := by
  unfold releaseAtTick
  rw [if_neg (by simp [h])]
  rfl

/-- Taking the raw state from a source changes no more of the Blotter than the quiet period, and that only where the source stood at SAFE. -/
theorem setRaw_false_blt (n : Nat) (d : Dev) : ∃ q, (setRaw n false d).blt = { d.blt with quietFrom := q } ∧
    (q = d.blt.quietFrom ∨ rawOf n d = true ∧ severityOf n d = 3) := by
  unfold setRaw
  cases hl : sourceListed n with
  | false => exact ⟨d.blt.quietFrom, rfl, .inl rfl⟩
  | true =>
    cases hr : rawOf n d with
    | false => exact ⟨d.blt.quietFrom, rfl, .inl rfl⟩
    | true =>
      by_cases hs : severityOf n d = 3
      · exact ⟨d.devTime, by simp [hs], .inr ⟨rfl, hs⟩⟩
      · exact ⟨d.blt.quietFrom, by simp [hs], .inl rfl⟩

theorem rd_with_blt (f : Fld) (ix : List Nat) (b : Blt) (d : Dev) : rd f ix { d with blt := b } = rd f ix d := rfl

theorem advance_with_blt (n : Nat) (b : Blt) (d : Dev) : advance n { d with blt := b } = { advance n d with blt := b } := by
  unfold advance
  split <;> rfl

theorem atGrid_with_blt (p off key : Nat) (b : Blt) (d : Dev) : atGrid p off key { d with blt := b } = { atGrid p off key d with blt := b } := by
  have hto : ∀ t, advanceTo t { d with blt := b } = { advanceTo t d with blt := b } := fun t => advance_with_blt _ b d
  unfold atGrid
  dsimp only
  rw [hto]
  rfl

theorem devTime_le_advanceTo (t : Nat) (d : Dev) : d.devTime ≤ (advanceTo t d).devTime := by
  unfold advanceTo advance
  split
  · exact Nat.le_refl _
  · exact Nat.le_add_right _ _

/-- The tick of a release. -/
def releaseInstant (d : Dev) : Dev := { atGrid 52920000 0 8 d with blt := { d.blt with safeRelease := true } }

theorem safeReleaseWrite_eq (d : Dev) : safeReleaseWrite d = releaseAtTick (releaseInstant d) :=
  congrArg releaseAtTick (atGrid_with_blt 52920000 0 8 { d.blt with safeRelease := true } d)

theorem releaseInstant_blt (d : Dev) : (releaseInstant d).blt = { d.blt with safeRelease := true } := rfl

theorem rd_releaseInstant (f : Fld) (ix : List Nat) (d : Dev) : rd f ix (releaseInstant d) = rd f ix d := by
  rw [releaseInstant, rd_with_blt, rd_atGrid]

theorem comes_with_blt {t : Nat} {b : Blt} {d x : Dev} (h : Comes t d x) : Comes t d { x with blt := b } := h

theorem comes_releaseInstant (d : Dev) : Comes (nextGrid 52920000 0 8 d) d (releaseInstant d) := comes_with_blt (comes_atGrid 52920000 0 8 d)

theorem rd_releaseShown {f : Fld} {ix : List Nat} (d : Dev) (hlat : f.no % 1024 ≠ BLT_STATUS_latched.no % 1024) (hraw : f.no % 1024 ≠ BLT_RAW_bits.no % 1024)
    (hirq : f.no % 1024 ≠ TOP_IRQ_ST_raised.no % 1024) (hsticky : f.no % 1024 ≠ BLT_STICKY_bits.no % 1024)
    (hlatch : f.no % 1024 ≠ BLT_STATUS_pin_latch.no % 1024) : rd f ix (releaseShown (releaseInstant d)) = rd f ix d := by
  rw [releaseShown, rd_setRaw_off _ _ _ hraw hirq hsticky hlatch, rd_wr_off _ _ hlat, rd_with_blt, rd_releaseInstant]

theorem rd_latched_releaseShown (d : Dev) : rd BLT_STATUS_latched [] (releaseShown d) = 0 := by
  rw [releaseShown, rd_setRaw_off _ _ _ (by decide) (by decide) (by decide) (by decide), rd_wr_same]
  rfl

theorem releaseShown_blt (d : Dev) : (releaseShown d).blt.safeRelease = false ∧ (releaseShown d).blt.exits = [] ∧
    (releaseShown d).blt.entryPending = d.blt.entryPending ∧ (releaseShown d).blt.sevBad = d.blt.sevBad ∧ (releaseShown d).blt.sevOld = d.blt.sevOld := by
  obtain ⟨q, hq, -⟩ := setRaw_false_blt 1 (wr BLT_STATUS_latched [] 0 { d with blt := { d.blt with safeRelease := false, exits := [] } })
  rw [releaseShown, hq]
  simp

/-- Whether or not it leaves safe state, a release shows the same beside. -/
theorem safeReleaseWrite_cases (d : Dev) :
    safeReleaseWrite d = releaseShown (releaseInstant d) ∨
      safeReleaseWrite d = leaveSafe (releaseShown (releaseInstant d)) ∧ inSafe (releaseShown (releaseInstant d)) = true := by
  have hset : (releaseInstant d).blt.safeRelease = true := by rw [releaseInstant_blt]
  rw [safeReleaseWrite_eq, releaseAtTick_eq hset]
  split
  · next h => exact .inr ⟨rfl, by simp at h; exact h.1.1.1⟩
  · exact .inl rfl

/-- A device outside safe state stays there. -/
theorem safeRelease_outside {d : Dev} (h : inSafe d = false) : rd BLT_STATUS_safe [] (safeReleaseWrite d) = rd BLT_STATUS_safe [] d := by
  have hsame := rd_releaseShown (f := BLT_STATUS_safe) (ix := []) d (by decide) (by decide) (by decide) (by decide) (by decide)
  rcases safeReleaseWrite_cases d with hw | ⟨-, hin⟩
  · rw [hw, hsame]
  · rw [inSafe, rdB, hsame] at hin
    rw [inSafe, rdB, hin] at h
    exact absurd h (by decide)

theorem rawOf_releaseShown (d : Dev) (k : Nat) : rawOf k (releaseShown (releaseInstant d)) = if k = 1 then false else rawOf k d := by
  rw [releaseShown, rawOf_setRaw 1 k _ _ (by decide), rawOf_wr_off _ _ _ (by decide)]
  unfold rawOf rdBit
  rw [rd_with_blt, rd_releaseInstant]

theorem severityOf_releaseShown (d : Dev) (k : Nat) : severityOf k (releaseShown (releaseInstant d)) = severityOf k d := by
  obtain ⟨-, -, -, hbad, hold⟩ := releaseShown_blt (releaseInstant d)
  refine severityOf_of_grades ?_ ?_ fun i => rd_releaseShown d (by decide) (by decide) (by decide) (by decide) (by decide)
  · rw [hbad, releaseInstant_blt]
  · rw [hold, releaseInstant_blt]

/-- No SAFE source stands after a release where none stood before. -/
theorem safeStands_releaseShown {d : Dev} (h : safeStands d = false) : safeStands (releaseShown (releaseInstant d)) = false := by
  unfold safeStands at h ⊢
  rw [List.any_eq_false] at h ⊢
  intro p hp
  rw [rawOf_releaseShown, severityOf_releaseShown]
  split
  · simp
  · exact h p hp

theorem releaseShown_devTime (d : Dev) : (releaseShown d).devTime = d.devTime := by
  rw [releaseShown, (setRaw_keeps (Kept.refl _ _) (Sub.refl _)).devTime (by decide), wr_devTime]

theorem releaseShown_comes {t : Nat} {d x : Dev} (h : Comes t d x) : Comes t d (releaseShown x) :=
  (setRaw_keeps (Kept.refl _ _) (Sub.refl _)).comes (comes_wr (comes_with_blt h))

/-- The latch's own source is not graded SAFE, so clearing it does not restart the quiet period. -/
theorem quietFrom_releaseShown (d : Dev) : (releaseShown d).blt.quietFrom = d.blt.quietFrom := by
  obtain ⟨q, hq, hwhy⟩ := setRaw_false_blt 1 (wr BLT_STATUS_latched [] 0 { d with blt := { d.blt with safeRelease := false, exits := [] } })
  have hgrade : ∀ x, severityOf 1 x ≠ 3 := fun x => show sourceSeverity 1 ≠ 3 by decide
  rw [releaseShown, hq]
  rcases hwhy with hwhy | hwhy
  · simpa using hwhy
  · exact absurd hwhy.2 (hgrade _)

theorem safeRelease_leaves {d : Dev} (hs : inSafe d = true) (hstand : safeStands d = false) (hpend : d.blt.entryPending = false)
    (hquiet : d.blt.quietFrom < d.devTime) : safeReleaseWrite d = leaveSafe (releaseShown (releaseInstant d)) := by
  have hset : (releaseInstant d).blt.safeRelease = true := by rw [releaseInstant_blt]
  obtain ⟨-, -, hp, -, -⟩ := releaseShown_blt (releaseInstant d)
  have hin : inSafe (releaseShown (releaseInstant d)) = true := by
    rw [inSafe, rdB, rd_releaseShown d (by decide) (by decide) (by decide) (by decide) (by decide)]; exact hs
  have htime := releaseShown_devTime (releaseInstant d)
  have hlate : d.devTime ≤ (releaseInstant d).devTime := by
    rw [(comes_releaseInstant d).2]
    exact devTime_le_advanceTo _ d
  rw [safeReleaseWrite_eq, releaseAtTick_eq hset, if_pos]
  simp only [hin, safeStands_releaseShown hstand, hp, releaseInstant_blt, hpend, quietFrom_releaseShown, htime]
  simp
  omega

end Sys2Proof.Machine

namespace Sys2Proof
open Machine

set_option exponentiation.threshold 2048

/-- Settles O22: the exit comes at its tick to one of three ends, and a release clears the latch and may leave safe state there. -/
theorem safeStateIsLeftAfterTheQuietPeriod : Obligations.SafeStateIsLeftAfterTheQuietPeriod := by
  refine ⟨?_, ?_⟩
  · refine carried_effect (fun _ => rfl) (fun _ _ => execSafeStateExit_keeps) (by decide)
      (fun d _ ⟨hout, hin⟩ => ⟨hout, fun hs x hx => hin hs (quiet x) (by rw [hx, ← advanceTo_quiet]; rfl)⟩) fun _ d ho hawake => ⟨fun hs => ?_, fun hs x hx => ?_⟩
    · refine unchanged_of_eq ho ?_
      unfold safeExit
      rw [if_pos (by simp [hs])]
    · have hx' : x = advanceTo (exitInstant d) d := hx
      have hsx : inSafe x = true := by rw [hx', inSafe, rdB, rd_advanceTo]; exact hs
      have hlx : rdB BLT_STATUS_latched [] d = rdB BLT_STATUS_latched [] x := by rw [hx', rdB, rdB, rd_advanceTo]
      have hrx : rd BLT_RECOV_count [] d = rd BLT_RECOV_count [] x := by rw [hx', rd_advanceTo]
      have hkept := autoExit_keeps (Kept.refl _ x) (Sub.refl _)
      have hsafe : inSafe (raises d (autoExit x)) = inSafe (autoExit x) := rdB_raises _ _ _ _ (by decide)
      obtain ⟨hstays, hlatches, hleaves⟩ := autoExit_shows hsx
      rw [safeExit_eq hs, ← hx', hlx, hrx, hsafe, rd_raises_off _ _ (by decide), rd_raises_off _ _ (by decide), rd_raises_off _ _ (by decide), raises_ntw,
        raises_devTime]
      refine ⟨hkept.ntw (by decide), hkept.devTime (by decide), hstays, hlatches, fun hl hq h8 => ?_⟩
      obtain ⟨hout, hat, hcount⟩ := hleaves hl hq h8
      refine ⟨hout, hat, hcount.trans (Nat.mod_eq_of_lt ?_).symm⟩
      exact Nat.lt_of_le_of_lt (Nat.min_le_left _ _) (by decide)
  · refine carried_effect (fun _ => rfl) (fun _ _ => execSafeRelease_keeps) (by decide)
      (fun d _ ⟨hcomes, h⟩ => ⟨comes_quiet.mp hcomes, h⟩) fun _ d ho hawake => ?_
    have hshown := releaseShown_comes (comes_releaseInstant d)
    obtain ⟨hrel, hexits, -, -, -⟩ := releaseShown_blt (releaseInstant d)
    have hrest : Kept 0x1000020000000000000000000000000000000000000000000000000000000000000000000000000000000000000000000000000000000000000000000000000040000000000000005c000002080000000000000000000000000000000000000000000000000000000000000000000000004440001
        (releaseShown (releaseInstant d)) (safeReleaseWrite d) := by
      rcases safeReleaseWrite_cases d with h | ⟨h, -⟩
      · rw [h]; exact Kept.refl _ _
      · rw [h]; exact leaveSafe_kept _
    refine ⟨comes_raises (hrest.comes hshown), ?_, ?_, ?_, fun hstand hpend hquiet => ?_, fun hout => ?_, ?_⟩
    · rw [rd_raises_off _ _ (by decide), hrest.rd _ _ (by decide), rd_latched_releaseShown]
    · rw [raises_blt, hrest.blt (by decide), hexits]
    · rw [raises_blt, hrest.blt (by decide), hrel]
    · rw [inSafe, rdB_raises _ _ _ _ (by decide)]
      cases hin : inSafe d with
      | true => rw [safeRelease_leaves hin hstand hpend hquiet]; exact inSafe_leaveSafe _
      | false => rw [rdB, safeRelease_outside hin]; exact hin
    · rw [rd_raises_off _ _ (by decide), safeRelease_outside hout]
    · rw [rd_raises_off _ _ (by decide), hrest.rd _ _ (by decide),
        rd_releaseShown d (by decide) (by decide) (by decide) (by decide) (by decide)]

end Sys2Proof
end

section
/-! PROOFS. The Ruling's hold-offs, its choice and its states, and the pulses of the clock outputs (O24, O27, O28). -/

namespace Sys2Proof.Machine

set_option exponentiation.threshold 2048

/-! ### Hold-offs -/

theorem holdoff_index_ne {i j : Nat} (v : Nat) (d : Dev) (h : i ≠ j) :
    rd RUL_CAND_ST_holdoff [i] (wr RUL_CAND_ST_holdoff [j] v d) = rd RUL_CAND_ST_holdoff [i] d := rd_wr_index v d (by decide) h

theorem rd_holdoff_clrHoldoff (mask n k : Nat) (d : Dev) :
    rd RUL_CAND_ST_holdoff [n] (forUpTo k (fun n d => if Nat.testBit mask n then wr RUL_CAND_ST_holdoff [n] 0 d else d) d) =
      if n < k ∧ Nat.testBit mask n = true then 0 else rd RUL_CAND_ST_holdoff [n] d := by
  induction k with
  | zero => simp [forUpTo]
  | succ k ih =>
    unfold forUpTo
    by_cases hn : n = k
    · subst hn
      split
      · next hbit => rw [rd_wr_same]; simp [hbit]
      · next hbit => rw [ih]; simp [hbit]
    · have hlt : n < k + 1 ↔ n < k := by omega
      simp only [hlt, ← ih]
      split
      · exact holdoff_index_ne 0 _ hn
      · rfl

/-! ### The choice -/

/-- A candidate chosen among some: of the lowest rank, and at equal rank the selected one or the first. -/
def Chosen (sel : Nat) (rank : Nat → Nat) (ns : List Nat) (b : Nat) : Prop :=
  b ∈ ns ∧ ∀ n ∈ ns, rank b ≤ rank n ∧ (rank n = rank b → n ≠ b → b = sel ∨ (n ≠ sel ∧ b < n))

theorem chosen_betterOf {sel a x : Nat} {rank : Nat → Nat} {ns : List Nat} (h : Chosen sel rank ns a) (hx : ∀ n ∈ ns, n < x) :
    Chosen sel rank (ns ++ [x]) (betterOf sel rank a x) := by
  obtain ⟨hmem, hbest⟩ := h
  have hax := hx a hmem
  unfold betterOf
  repeat' split
  · next h1 =>
      refine ⟨by simp, fun n hn => ?_⟩
      rcases List.mem_append.mp hn with hn | hn
      · have := (hbest n hn).1
        omega
      · obtain rfl : n = x := by simpa using hn
        omega
  · next h1 h2 =>
      refine ⟨by simp [hmem], fun n hn => ?_⟩
      rcases List.mem_append.mp hn with hn | hn
      · exact hbest n hn
      · obtain rfl : n = x := by simpa using hn
        omega
  · next h1 h2 h3 =>
      refine ⟨by simp, fun n hn => ⟨?_, fun _ _ => .inl h3⟩⟩
      rcases List.mem_append.mp hn with hn | hn
      · have := (hbest n hn).1
        omega
      · obtain rfl : n = x := by simpa using hn
        omega
  · next h1 h2 h3 =>
      refine ⟨by simp [hmem], fun n hn => ?_⟩
      rcases List.mem_append.mp hn with hn | hn
      · exact hbest n hn
      · obtain rfl : n = x := by simpa using hn
        omega

theorem chosen_foldl {sel : Nat} {rank : Nat → Nat} (xs : List Nat) {ns : List Nat} {a : Nat} (h : Chosen sel rank ns a)
    (hs : (ns ++ xs).Pairwise (· < ·)) : Chosen sel rank (ns ++ xs) (xs.foldl (betterOf sel rank) a) := by
  induction xs generalizing ns a with
  | nil => simpa using h
  | cons x xs ih =>
    have hx : ∀ n ∈ ns, n < x := fun n hn => (List.pairwise_append.mp hs).2.2 n hn x (by simp)
    have hassoc : ns ++ x :: xs = (ns ++ [x]) ++ xs := by simp
    rw [hassoc] at hs ⊢
    exact ih (chosen_betterOf h hx) hs

/-- The candidates the Ruling chooses among. -/
def reachable (d : Dev) : List Nat := [0, 1, 2, 3, 4, 5].filter (fun n => qualified n d && !beyondReach n d)

theorem mem_reachable {d : Dev} {n : Nat} : n ∈ reachable d ↔ n < 6 ∧ (qualified n d && !beyondReach n d) = true := by
  unfold reachable
  rw [List.mem_filter]
  refine and_congr_left fun _ => ?_
  simp
  omega

theorem reachable_sorted (d : Dev) : (reachable d).Pairwise (· < ·) := List.Pairwise.filter _ (by decide)

theorem chooseAmong_nil {d : Dev} (h : reachable d = []) : chooseAmong [0, 1, 2, 3, 4, 5] true d = none := by
  unfold chooseAmong
  simp only [Bool.true_and]
  rw [show [0, 1, 2, 3, 4, 5].filter (fun n => qualified n d && !beyondReach n d) = [] from h]
  simp

theorem chooseAmong_selected {d : Dev} (hrev : rdB RUL_CTRL_revertive [] d = false) (hsel : rd RUL_STATUS_sel [] d ∈ reachable d) :
    chooseAmong [0, 1, 2, 3, 4, 5] true d = some (rd RUL_STATUS_sel [] d) := by
  have hin : ([0, 1, 2, 3, 4, 5].filter (fun n => qualified n d && !beyondReach n d)).contains (rd RUL_STATUS_sel [] d) = true :=
    List.contains_iff_mem.mpr hsel
  unfold chooseAmong
  simp only [Bool.true_and]
  rw [if_pos (by rw [hrev, hin]; rfl)]

theorem chooseAmong_best {d : Dev} {x : Nat} {xs : List Nat} (h : reachable d = x :: xs)
    (hsel : rdB RUL_CTRL_revertive [] d = true ∨ rd RUL_STATUS_sel [] d ∉ reachable d) : chooseAmong [0, 1, 2, 3, 4, 5] true d =
      some (xs.foldl (betterOf (rd RUL_STATUS_sel [] d) (fun n => rd RUL_CAND_CFG_rank [n] d)) x) := by
  have hfilter : [0, 1, 2, 3, 4, 5].filter (fun n => qualified n d && !beyondReach n d) = x :: xs := h
  rw [h] at hsel
  unfold chooseAmong
  simp only [Bool.true_and]
  rw [hfilter, if_neg (by rcases hsel with hs | hs <;> simp_all)]

/-- Where the selection may change, the one chosen is the best of those reachable. -/
theorem chosen_of_free {d : Dev} {b : Nat} (hsel : rdB RUL_CTRL_revertive [] d = true ∨ rd RUL_STATUS_sel [] d ∉ reachable d)
    (hb : chooseAmong [0, 1, 2, 3, 4, 5] true d = some b) : Chosen (rd RUL_STATUS_sel [] d) (fun n => rd RUL_CAND_CFG_rank [n] d) (reachable d) b := by
  cases hr : reachable d with
  | nil => rw [chooseAmong_nil hr] at hb; exact absurd hb (by simp)
  | cons x xs =>
    rw [chooseAmong_best hr hsel, Option.some_inj] at hb
    have hsorted : ([x] ++ xs).Pairwise (· < ·) := by
      have hs := reachable_sorted d
      rwa [hr] at hs
    rw [← hb]
    exact chosen_foldl xs (ns := [x]) ⟨by simp, fun n hn => by simp at hn; subst hn; exact ⟨Nat.le_refl _, fun _ h => absurd rfl h⟩⟩ hsorted

theorem chooseAmong_mem {d : Dev} {b : Nat} (hb : chooseAmong [0, 1, 2, 3, 4, 5] true d = some b) : b ∈ reachable d := by
  by_cases hfree : rdB RUL_CTRL_revertive [] d = true ∨ rd RUL_STATUS_sel [] d ∉ reachable d
  · exact (chosen_of_free hfree hb).1
  · simp only [not_or, Bool.not_eq_true, Classical.not_not] at hfree
    rw [chooseAmong_selected hfree.1 hfree.2, Option.some_inj] at hb
    exact hb ▸ hfree.2

theorem chooseAmong_none {d : Dev} : chooseAmong [0, 1, 2, 3, 4, 5] true d = none ↔ reachable d = [] := by
  refine ⟨fun hnone => ?_, chooseAmong_nil⟩
  by_cases hfree : rdB RUL_CTRL_revertive [] d = true ∨ rd RUL_STATUS_sel [] d ∉ reachable d
  · cases hr : reachable d with
    | nil => rfl
    | cons x xs => rw [chooseAmong_best hr hfree] at hnone; exact absurd hnone (by simp)
  · simp only [not_or, Bool.not_eq_true, Classical.not_not] at hfree
    rw [chooseAmong_selected hfree.1 hfree.2] at hnone
    exact absurd hnone (by simp)

/-! ### The state table -/

/-- The table of states while the oscillator is present and open loop is not asked for. -/
theorem nextRulState_table (st sel : Nat) (locked unlocked : Bool) (hst : st < 6) :
    (nextRulState st false false (some 5) sel locked unlocked = 0) ∧
    (nextRulState st false false none sel locked unlocked = if st = 0 then 0 else 4) ∧
    (∀ b, b ≠ 5 → (st = 0 ∨ st = 4 ∨ st = 5 → nextRulState st false false (some b) sel locked unlocked = 1) ∧
      (st = 1 ∨ st = 2 ∨ st = 3 → (b ≠ sel → nextRulState st false false (some b) sel locked unlocked = 3) ∧
        (b = sel → (st ≠ 2 → nextRulState st false false (some b) sel locked unlocked = if locked then 2 else st) ∧
          (st = 2 → nextRulState st false false (some b) sel locked unlocked = if unlocked then 1 else 2)))) := by
  have hcases : st = 0 ∨ st = 1 ∨ st = 2 ∨ st = 3 ∨ st = 4 ∨ st = 5 := by omega
  refine ⟨?_, ?_, fun b hb => ?_⟩
  · obtain rfl | rfl | rfl | rfl | rfl | rfl := hcases <;> simp [nextRulState]
  · obtain rfl | rfl | rfl | rfl | rfl | rfl := hcases <;> simp [nextRulState]
  · by_cases hsel : b = sel
    · subst hsel
      obtain rfl | rfl | rfl | rfl | rfl | rfl := hcases <;> simp [nextRulState]
    · obtain rfl | rfl | rfl | rfl | rfl | rfl := hcases <;> simp [nextRulState, hsel]

/-! ### Pulses -/

/-- The instant of a PPS pulse. -/
def ppsInstant (d : Dev) : Dev := atGrid Config.nibsPerSec ((-(rdS RUL_OUT_ADV_adv [] d)) % (Config.nibsPerSec : Int)).toNat 2 d

theorem ppsInstant_pins (d : Dev) : (ppsInstant d).pins = d.pins := (atGrid_keeps (Kept.refl _ d) (Sub.refl _)).pins (by decide)

theorem rd_ppsInstant (f : Fld) (ix : List Nat) (d : Dev) : rd f ix (ppsInstant d) = rd f ix d := rd_atGrid _ _ _ f ix d

/-- PPS_OUT driven for a width. -/
def drivePps (width : Nat) (d : Dev) : Dev := { d with pins := { d.pins with ppsOut := true, ppsOutEnd := d.devTime + width } }

theorem drivePps_comes {t : Nat} {d x : Dev} (w : Nat) (h : Comes t d x) : Comes t d (drivePps w x) := h

theorem drivePps_shows (w : Nat) (d : Dev) : (drivePps w d).pins.ppsOut = true ∧ (drivePps w d).pins.ppsOutEnd = (drivePps w d).devTime + w ∧
    (drivePps w d).pins.refOutFp = d.pins.refOutFp := ⟨rfl, rfl, rfl⟩

theorem ppsOutPulse_eq (d : Dev) : ppsOutPulse d =
    if rdB RUL_OUT_CFG_pps_en [] d && !squelched d then
      drivePps (pulseWidth (rd RUL_OUT_WIDTH_pps_width_ms [] d * msUnits) secUnits) (ppsInstant d)
    else ppsInstant d := by
  have hen : rdB RUL_OUT_CFG_pps_en [] (ppsInstant d) = rdB RUL_OUT_CFG_pps_en [] d := by simp only [rdB, rd_ppsInstant]
  have hsq : squelched (ppsInstant d) = squelched d := by simp only [squelched, rd_ppsInstant]
  rw [← rd_ppsInstant RUL_OUT_WIDTH_pps_width_ms [] d, ← hen, ← hsq]
  rfl

theorem advanceDev_pins (t : Nat) (d : Dev) : (advanceDev t d).pins = d.pins := (advanceDev_keeps (Kept.refl _ d) (Sub.refl _)).pins (by decide)

theorem pulseWidthEnd_pps {d : Dev} (h : d.pins.ppsOut = true) : pulseWidthEnd true d =
    { advanceDev d.pins.ppsOutEnd d with pins := { (advanceDev d.pins.ppsOutEnd d).pins with ppsOut := false } } := by
  rw [pulseWidthEnd, if_pos rfl, if_pos h]

theorem pulseWidthEnd_pps_low {d : Dev} (h : d.pins.ppsOut = false) : pulseWidthEnd true d = d := by
  rw [pulseWidthEnd, if_pos rfl, if_neg (by simp [h])]

theorem pulseWidthEnd_fp {d : Dev} (h : d.pins.refOutFp = true) : pulseWidthEnd false d =
    { advanceDev d.pins.refOutFpEnd d with pins := { (advanceDev d.pins.refOutFpEnd d).pins with refOutFp := false } } := by
  rw [pulseWidthEnd, if_neg (by simp), if_pos h]

theorem pulseWidthEnd_fp_low {d : Dev} (h : d.pins.refOutFp = false) : pulseWidthEnd false d = d := by
  rw [pulseWidthEnd, if_neg (by simp), if_neg (by simp [h])]

end Sys2Proof.Machine

namespace Sys2Proof
open Machine

set_option exponentiation.threshold 2048

/-- Settles O24: the expiry passes to the hold-off's end, and the mask clears its candidates one by one. -/
theorem holdOffEndsByItselfOrByCommand : Obligations.HoldOffEndsByItselfOrByCommand := by
  refine ⟨fun n => ?_, fun mask => ?_, fun src => ?_⟩
  · refine carried_effect (fun _ => rfl) (fun _ _ => execHoldOffExpiry_keeps) (by decide)
      (fun d _ ⟨hin, h⟩ => ⟨fun hh => ⟨(hin hh).1, passes_quiet.mp (hin hh).2⟩, h⟩) fun _ d ho hawake => ⟨fun hin => ?_, fun hout => ?_, fun k hk => ?_⟩
    · rw [holdOffExpiry, if_pos hin]
      refine ⟨?_, passes_raises (passes_wr (passes_advanceDev _ d))⟩
      rw [rd_raises_off _ _ (by decide), rd_wr_same]
      rfl
    · exact unchanged_of_eq ho (if_neg (by simp [hout]))
    · rw [rd_raises_off _ _ (by decide), holdOffExpiry]
      split
      · rw [holdoff_index_ne _ _ hk, rd_advanceDev]
      · rfl
  · refine carried_effect (fun _ => rfl) (fun _ _ => execClrHoldoff_keeps) (by decide) (fun _ _ h => h) fun _ d ho hawake n hn => ?_
    have hq := (clrHoldoff_keeps (mask := mask) (Kept.refl _ d) (Sub.refl _)).rd RUL_CAND_ST_qualified [n] (by decide)
    rw [rd_raises_off _ _ (by decide), rd_raises_off _ _ (by decide), hq, clrHoldoff, rd_holdoff_clrHoldoff]
    exact ⟨fun hbit => by simp [hn, hbit], fun hbit => by simp [hbit], rfl⟩
  · refine carried_effect (fun _ => rfl) (fun _ _ => execStep_keeps) (by decide) (fun _ _ h => h) fun _ d ho hawake => ?_
    rw [raises_rul, raises_ntw]
    exact ⟨rfl, rfl⟩

/-- Settles O27: the instant of the second passes whether or not the pulse is driven, and each pulse has its own end and pin. -/
theorem clockOutputPulses : Obligations.ClockOutputPulses := by
  refine ⟨?_, fun pps => ?_⟩
  · refine carried_effect (fun _ => rfl) (fun _ _ => execPpsOutPulse_keeps) (by decide)
      (fun d _ ⟨hcomes, h⟩ => ⟨comes_quiet.mp hcomes, h⟩) fun _ d ho hawake => ?_
    have hcomes : Comes _ d (ppsInstant d) := comes_atGrid _ _ 2 d
    obtain ⟨hon, hend, hfp⟩ := drivePps_shows (pulseWidth (rd RUL_OUT_WIDTH_pps_width_ms [] d * msUnits) secUnits) (ppsInstant d)
    refine ⟨?_, ?_, fun hen hsq => ?_, fun hoff => ?_⟩
    · refine comes_raises ?_
      rw [ppsOutPulse_eq]
      split
      · exact drivePps_comes _ hcomes
      · exact hcomes
    · rw [raises_pins, ppsOutPulse_eq]
      split
      · rw [hfp, ppsInstant_pins]
      · rw [ppsInstant_pins]
    · rw [raises_pins, raises_devTime, ppsOutPulse_eq, if_pos (by simp [hen, hsq])]
      exact ⟨hon, hend⟩
    · rw [raises_pins, ppsOutPulse_eq, if_neg (by rcases hoff with h | h <;> simp [h]), ppsInstant_pins]
  · refine carried_effect (fun _ => rfl) (fun _ _ => execPulseWidthEnd_keeps) (by decide)
      (fun d _ ⟨h1, h2⟩ => ⟨fun hp => ⟨(h1 hp).1, (h1 hp).2.1, fun ho => passes_quiet.mp ((h1 hp).2.2 ho)⟩,
        fun hp => ⟨(h2 hp).1, (h2 hp).2.1, fun ho => passes_quiet.mp ((h2 hp).2.2 ho)⟩⟩) fun _ d ho hawake => ⟨fun hp => ?_, fun hp => ?_⟩
    · subst hp
      rw [raises_pins]
      cases hpin : d.pins.ppsOut with
      | false => rw [pulseWidthEnd_pps_low hpin]; exact ⟨hpin, rfl, fun h => absurd h (by simp)⟩
      | true =>
        rw [pulseWidthEnd_pps hpin]
        refine ⟨rfl, ?_, fun _ => passes_raises (passes_advanceDev d.pins.ppsOutEnd d)⟩
        show (advanceDev d.pins.ppsOutEnd d).pins.refOutFp = _
        rw [advanceDev_pins]
    · subst hp
      rw [raises_pins]
      cases hpin : d.pins.refOutFp with
      | false => rw [pulseWidthEnd_fp_low hpin]; exact ⟨hpin, rfl, fun h => absurd h (by simp)⟩
      | true =>
        rw [pulseWidthEnd_fp hpin]
        refine ⟨rfl, ?_, fun _ => passes_raises (passes_advanceDev d.pins.refOutFpEnd d)⟩
        show (advanceDev d.pins.refOutFpEnd d).pins.ppsOut = _
        rw [advanceDev_pins]

/-- Settles O28: the choice keeps the best of those it has seen, and the state table is read off case by case. -/
theorem rulingChoosesAndChangesState : Obligations.RulingChoosesAndChangesState := by
  refine ⟨fun d ok rank sel hok hrank hsel => ⟨?_, fun hrev hlt hin => ?_, fun b hb => ?_⟩, fun st sel xoLost locked unlocked best hst => ⟨?_, ?_, fun nx hnx => ?_⟩⟩
  · rw [chooseAmong_none, List.eq_nil_iff_forall_not_mem]
    simp [mem_reachable, hok]
  · rw [hsel]
    exact chooseAmong_selected hrev (mem_reachable.mpr ⟨hsel ▸ hlt, by rw [hok, hsel] at hin; exact hin⟩)
  · obtain ⟨hlt, hin⟩ := mem_reachable.mp (chooseAmong_mem hb)
    refine ⟨hlt, by rw [hok]; exact hin, fun hfree n hn hokn => ?_⟩
    have hfree' : rdB RUL_CTRL_revertive [] d = true ∨ rd RUL_STATUS_sel [] d ∉ reachable d := by
      refine hfree.imp id fun hs hmem => ?_
      have hin := (mem_reachable.mp hmem).2
      rw [hok, hsel] at hs
      exact absurd (hin.symm.trans hs) (by decide)
    have hbest := (chosen_of_free hfree' hb).2 n (mem_reachable.mpr ⟨hn, by rw [hok] at hokn; exact hokn⟩)
    rw [hrank, hsel]
    exact hbest
  · rfl
  · rfl
  · obtain ⟨hcrystal, hnone, hother⟩ := nextRulState_table st sel locked unlocked hst
    refine ⟨fun h => ?_, fun h => ⟨fun h0 => ?_, fun h0 => ?_⟩, fun b h hb => ?_⟩
    · rw [hnx, h, hcrystal]
    · rw [hnx, h, hnone, if_pos h0]
    · rw [hnx, h, hnone, if_neg h0]
    · rw [hnx, h]
      exact hother b hb

end Sys2Proof
end

section
set_option Elab.async false
/-! PROOFS. The boot ROM's choice of a slot (O30). -/

namespace Sys2Proof.Machine

set_option exponentiation.threshold 2048

/-! ### Firings and what they leave -/

theorem raiseAt_blt (sev : Nat) (d : Dev) : (raiseAt sev d).blt = d.blt := by
  unfold raiseAt
  split
  · exact (raiseIrq_keeps (Kept.refl _ d) (Sub.refl _)).blt (by decide)
  · rfl

/-- A firing leaves the grades. -/
theorem fire_grades (n : Nat) (d : Dev) : (fire n d).blt.sevBad = d.blt.sevBad ∧ (fire n d).blt.sevOld = d.blt.sevOld := by
  have hlatch : ∀ sev x, (latchAt sev x).blt.sevBad = x.blt.sevBad ∧ (latchAt sev x).blt.sevOld = x.blt.sevOld := fun sev x => by
    unfold latchAt
    split
    · rw [latchPin_blt]; exact ⟨rfl, rfl⟩
    · exact ⟨rfl, rfl⟩
  by_cases hn : sourceListed n = false ∨ rawOf n d = true ∨ severityOf n d = 0
  · rw [fire_nothing n d hn]; exact ⟨rfl, rfl⟩
  · simp only [not_or, Bool.not_eq_true, Bool.not_eq_false] at hn
    obtain ⟨hl, hr, hs⟩ := hn
    obtain ⟨hbad, hold⟩ := hlatch (severityOf n d) (raiseAt (severityOf n d) (wrBit BLT_STICKY_bits [n / 32] (n % 32) true d))
    rw [raiseAt_blt, wrBit_blt] at hbad hold
    rw [fire_eq hl hr hs]
    unfold quietAt
    split
    · exact ⟨hbad, hold⟩
    · exact ⟨hbad, hold⟩

theorem severityOf_fire (n k : Nat) (d : Dev) : severityOf k (fire n d) = severityOf k d :=
  severityOf_of_grades (fire_grades n d).1 (fire_grades n d).2 fun i => rd_fire_off n d (by decide) (by decide) (by decide)

theorem rawOf_fire (n k : Nat) (d : Dev) : rawOf k (fire n d) = rawOf k d := rdBit_fire n d _ _ _ (by decide) (by decide) (by decide)

/-- A sticky bit that stands is left by whatever clears none. -/
theorem Fired.kept {n m : Nat} {d x e : Dev} (h : Fired n d x) (hk : Kept m x e) (hn : n < 2048 := by decide)
    (hm : Nat.testBit m 1057 = false := by decide) : Fired n d e := fun hl hr hs => hk.sticky hm n hn (h hl hr hs)

/-! ### The ROM's choice -/

/-- What the ROM shows of its choice before a slot is started. -/
def romShow (r : RomChoice) (d : Dev) : Dev :=
  let d := showThimble (showUpdate (wr ICN_IB_BOOT_boot [] (Config.freeNat 20 d.freeCtr) { d with nv := settleSession r.nv, freeCtr := d.freeCtr + 1 }))
  if d.nv.testOpen then fire 281 d else d

/-- The slot chosen is started; with none the boot has failed. -/
def romStart (r : RomChoice) (d : Dev) : Dev :=
  match r.slot with
  | some k => startScribe k r.other d
  | none => wr TOP_BOOT_ST_phase [] 9 d

theorem romVerifyDone_eq {v : RomView} {d : Dev} (hphase : rd TOP_BOOT_ST_phase [] d = 0) (hknown : d.nv.known = true)
    (herase : d.nv.eraseStarted = false) : romVerifyDone v d = romStart (romChoose v.okA v.okB d) (romShow (romChoose v.okA v.okB d) d) := by
  unfold romVerifyDone
  rw [if_neg (by simp [hphase])]
  simp only [hknown, herase, if_true, Bool.false_and, Bool.false_eq_true, if_false]
  rfl

/-! ### What is shown -/

/-- The registers of the Thimble, of the update and of the boot in band, the non-volatile record and the count of free numbers. -/
def romMask : Nat := 0x20000030003bffd01fb000000000000000000000000000000000000000000000000000000000000000000000000000000000000000000000000000000000000000000000000000000000000000000000000000000000000000000000000000000000000000000000000000000000000000000000000000000000020000021

/-- The ROM shows no more than those, and may fire FS0281. -/
theorem romShow_cases (r : RomChoice) (d : Dev) :
    ∃ x, Kept romMask d x ∧ x.nv = settleSession r.nv ∧ (romShow r d = x ∨ romShow r d = fire 281 x) := by
  unfold romShow
  extract_lets x
  refine ⟨x, ?_, ?_, ?_⟩
  · have hrecord : Kept romMask d { d with nv := settleSession r.nv } := upd_nv (Kept.refl romMask d) (by decide)
    have hnumber : Kept romMask d { d with nv := settleSession r.nv, freeCtr := d.freeCtr + 1 } := upd_freeCtr (x := d.freeCtr + 1) hrecord (by decide)
    exact showThimble_keeps (showUpdate_keeps (wr_keeps hnumber (by decide)) (by decide)) (by decide)
  · rw [(showThimble_keeps (Kept.refl _ _) (Sub.refl _)).nv (by decide), (showUpdate_keeps (Kept.refl _ _) (Sub.refl _)).nv (by decide), wr_nv]
  · split
    · exact .inr rfl
    · exact .inl rfl

theorem romShow_nv (r : RomChoice) (d : Dev) : (romShow r d).nv = settleSession r.nv := by
  obtain ⟨x, -, hnv, h | h⟩ := romShow_cases r d
  · rw [h, hnv]
  · rw [h, (fire_only_kept 281 x).nv (by decide), hnv]

theorem romShow_faults (r : RomChoice) (d : Dev) (k : Nat) : rawOf k (romShow r d) = rawOf k d ∧ severityOf k (romShow r d) = severityOf k d := by
  obtain ⟨x, hk, -, h⟩ := romShow_cases r d
  have hraw : rawOf k x = rawOf k d := hk.rdBit _ _ _ (by decide)
  have hsev : severityOf k x = severityOf k d := severityOf_congr (hk.blt (by decide)) fun i => hk.rd _ _ (by decide)
  rcases h with h | h
  · rw [h]; exact ⟨hraw, hsev⟩
  · rw [h, rawOf_fire, severityOf_fire]; exact ⟨hraw, hsev⟩

/-- The slot started, its phase and the version that runs. -/
def startShown (k : Nat) (other : Bool) (d : Dev) : Dev :=
  let d := wr TOP_BOOT_ST_slot [] k (wrB TOP_BOOT_ST_fallback [] other (wr TOP_BOOT_ST_phase [] 1 d))
  { wr TOP_FW_VER_version [] (hdrField (runningHdr d) 0x14 4) d with boot := { d.boot with window := d.nv.trial } }

/-- A fallback that is owed is fired. -/
def payFallback (d : Dev) : Dev := if d.nv.owesFallback then fire 278 { d with nv := { d.nv with owesFallback := false } } else d

theorem startScribe_eq (k : Nat) (other : Bool) (d : Dev) :
    startScribe k other d = payFallback (if other then fire 257 (startShown k other d) else startShown k other d) := rfl

theorem payFallback_kept (d : Dev) : Kept 0x40001000000000000000000000000000000000000000000000000000000000000000000000000000000000000000000000000000000000000000000000000000000000000000000000000000000000000000000000000000000000000000000000000000000000000000000000004000020003041 d (payFallback d) :=
  kept_ite (fire_keeps (upd_nv (Kept.refl _ d) (by decide)) (by decide)) (Kept.refl _ d)

theorem payFallback_nv (d : Dev) : ∃ b, (payFallback d).nv = { d.nv with owesFallback := b } := by
  unfold payFallback
  split
  · exact ⟨false, (fire_only_kept 278 _).nv (by decide)⟩
  · exact ⟨d.nv.owesFallback, rfl⟩

/-- What starting a slot leaves beside a firing and the record of fallbacks. -/
theorem startScribe_kept (k : Nat) (other : Bool) (d : Dev) :
    Kept 0x40001000000000000000000000000000000000000000000000000000000000000000000000000000000000000000000000000000000000000000000000000000000000000000000000000000000000000000000000000000000000000000000000000000000000000000000000004000020003041 (startShown k other d) (startScribe k other d) := by
  rw [startScribe_eq]
  refine Kept.trans ?_ (payFallback_kept _)
  exact kept_ite (fire_keeps (Kept.refl _ _) (by decide)) (Kept.refl _ _)

theorem rd_startShown {f : Fld} {ix : List Nat} {k : Nat} {other : Bool} {d : Dev} (h : f.no % 1024 ≠ TOP_FW_VER_version.no % 1024) :
    rd f ix (startShown k other d) = rd f ix (wr TOP_BOOT_ST_slot [] k (wrB TOP_BOOT_ST_fallback [] other (wr TOP_BOOT_ST_phase [] 1 d))) :=
  rd_wr_off _ _ h

/-- Starting a slot shows it and its phase, and says where it is a fallback. -/
theorem startScribe_shows (k : Nat) (other : Bool) (d : Dev) :
    rd TOP_BOOT_ST_phase [] (startScribe k other d) = 1 ∧ rd TOP_BOOT_ST_slot [] (startScribe k other d) = k % 2 ∧
    rd TOP_BOOT_ST_fallback [] (startScribe k other d) = if other then 1 else 0 := by
  have hk := startScribe_kept k other d
  refine ⟨?_, ?_, ?_⟩
  · rw [hk.rd _ _ (by decide), rd_startShown (by decide), rd_wr_off _ _ (by decide), rd_wrB_off _ _ (by decide), rd_wr_same]
    rfl
  · rw [hk.rd _ _ (by decide), rd_startShown (by decide), rd_wr_same]
    rfl
  · rw [hk.rd _ _ (by decide), rd_startShown (by decide), rd_wr_off _ _ (by decide)]
    exact (rd_wr_same _ _ _ _).trans (by cases other <;> rfl)

theorem startScribe_nv (k : Nat) (other : Bool) (d : Dev) : ∃ b, (startScribe k other d).nv = { d.nv with owesFallback := b } := by
  have hshown : (startShown k other d).nv = d.nv := rfl
  obtain ⟨b, hb⟩ := payFallback_nv (if other then fire 257 (startShown k other d) else startShown k other d)
  refine ⟨b, ?_⟩
  rw [startScribe_eq, hb]
  split
  · rw [(fire_only_kept 257 _).nv (by decide), hshown]
  · rw [hshown]

/-- A fallback fires FS0257. -/
theorem startScribe_fired {k : Nat} {d x : Dev} (hf : rawOf 257 x = rawOf 257 d ∧ severityOf 257 x = severityOf 257 d) :
    Fired 257 d (startScribe k true x) := by
  obtain ⟨hraw, hsev⟩ := hf
  have hshown : rawOf 257 (startShown k true x) = rawOf 257 x ∧ severityOf 257 (startShown k true x) = severityOf 257 x := by
    refine ⟨?_, severityOf_congr rfl fun i => ?_⟩
    · unfold rawOf rdBit
      rw [rd_startShown (by decide)]
      simp (disch := decide)
    · rw [rd_startShown (by decide)]
      simp (disch := decide)
  have hfire : Fired 257 d (fire 257 (startShown k true x)) := fired_fire (hshown.1.trans hraw) (hshown.2.trans hsev)
  exact hfire.kept (payFallback_kept _)

theorem romStart_some {r : RomChoice} {k : Nat} (h : r.slot = some k) (x : Dev) : romStart r x = startScribe k r.other x := by
  rw [romStart, h]

theorem romStart_phase (r : RomChoice) (x : Dev) : rd TOP_BOOT_ST_phase [] (romStart r x) = if r.slot.isSome then 1 else 9 := by
  cases h : r.slot with
  | none => rw [romStart, h]; exact rd_wr_same _ _ _ _
  | some k => rw [romStart_some h]; exact (startScribe_shows k r.other x).1

/-- The record a choice leaves, but for the fallback that is owed and then paid. -/
theorem romStart_nv (r : RomChoice) (d : Dev) : ∃ b, (romStart r (romShow r d)).nv = { settleSession r.nv with owesFallback := b } := by
  cases h : r.slot with
  | none => rw [romStart, h]; exact ⟨_, romShow_nv r d⟩
  | some k =>
    obtain ⟨b, hb⟩ := startScribe_nv k r.other (romShow r d)
    exact ⟨b, by rw [romStart_some h, hb, romShow_nv]⟩

theorem romStart_record (r : RomChoice) (d : Dev) : (romStart r (romShow r d)).nv.active = r.nv.active ∧ (romStart r (romShow r d)).nv.trial = r.nv.trial ∧
    (romStart r (romShow r d)).nv.trialBoots = r.nv.trialBoots ∧ (romStart r (romShow r d)).nv.outcome = r.nv.outcome := by
  obtain ⟨b, hb⟩ := romStart_nv r d
  rw [hb]
  exact ⟨rfl, rfl, rfl, rfl⟩

/-! ### The choice in each case -/

section Choice

variable {okA okB : Bool} {d : Dev}

/-- What is found of a slot. -/
def goodSlot (okA okB : Bool) (d : Dev) (k : Nat) : Bool := romVerifies (if k = 0 then okA else okB) k d

/-- The slot that a fallback starts. -/
def otherSlot (okA okB : Bool) (d : Dev) : Option Nat := if goodSlot okA okB d (1 - d.nv.active) then some (1 - d.nv.active) else none

theorem romChoose_active (ht : d.nv.trial = false) (hg : goodSlot okA okB d d.nv.active = true) : romChoose okA okB d = { nv := d.nv, slot := some d.nv.active } := by
  unfold goodSlot at hg
  simp [romChoose, ht, hg]

theorem romChoose_previous (ht : d.nv.trial = false) (hg : goodSlot okA okB d d.nv.active = false) (hp : d.nv.prevState = 0) :
    romChoose okA okB d = { nv := d.nv, slot := otherSlot okA okB d, other := true } := by
  unfold goodSlot at hg
  simp [romChoose, ht, hg, hp, otherSlot, goodSlot]
  rfl

theorem romChoose_fails (ht : d.nv.trial = false) (hg : goodSlot okA okB d d.nv.active = false) (hp : d.nv.prevState ≠ 0) :
    romChoose okA okB d = { nv := d.nv } := by
  unfold goodSlot at hg
  simp [romChoose, ht, hg, hp]

theorem romChoose_trial (ht : d.nv.trial = true) (hb : d.nv.trialBoots < 3) (hg : goodSlot okA okB d d.nv.active = true) :
    romChoose okA okB d = { nv := { d.nv with trialBoots := d.nv.trialBoots + 1, generation := d.nv.generation + 1 }, slot := some d.nv.active } := by
  unfold goodSlot at hg
  simp [romChoose, ht, hg, show ¬ 3 ≤ d.nv.trialBoots by omega]

/-- A trial that has had its boots, or whose image fails, ends. -/
theorem romChoose_ends (ht : d.nv.trial = true) (h : 3 ≤ d.nv.trialBoots ∨ goodSlot okA okB d d.nv.active = false) :
    (romChoose okA okB d).slot = otherSlot okA okB d ∧ (romChoose okA okB d).nv.active = 1 - d.nv.active ∧ (romChoose okA okB d).nv.trial = false ∧
    (romChoose okA okB d).nv.outcome = if 3 ≤ d.nv.trialBoots then 3 else 5 := by
  by_cases h3 : 3 ≤ d.nv.trialBoots
  · simp [romChoose, ht, h3, otherSlot, goodSlot, fallbackRecord]
    rfl
  · have hg := h.resolve_left h3
    unfold goodSlot at hg
    simp [romChoose, ht, h3, hg, otherSlot, goodSlot, fallbackRecord]
    rfl

end Choice

end Sys2Proof.Machine

namespace Sys2Proof
open Machine

set_option exponentiation.threshold 2048

/-- Settles O30: the choice in each case, and what starting the slot it names shows. -/
theorem bootRomChoosesTheSlot : Obligations.BootRomChoosesTheSlot := by
  intro v
  refine carried_effect (fun _ => rfl) (fun _ _ => execRomVerifyDone_keeps) (by decide) (fun _ _ h => h) fun _ d ho _ =>
    ⟨fun hphase => unchanged_of_eq ho (if_pos hphase), fun hphase hknown herase good hgood => ?_⟩
  rw [romVerifyDone_eq hphase hknown herase]
  obtain rfl : good = goodSlot v.okA v.okB d := hgood
  have hsees : ∀ f, f.no % 1024 ≠ TOP_IRQ_ST_raised.no % 1024 → ∀ x, rd f [] (raises d x) = rd f [] x := fun f hf x => rd_raises_off d x hf
  rw [hsees _ (by decide), hsees _ (by decide), hsees _ (by decide), raises_nv]
  refine ⟨fun ht hg => ?_, fun ht hg hp hg' => ?_, fun ht hg hnot => ?_, fun ht hb hg => ?_, fun ht hend => ?_⟩
  · obtain ⟨hactive, -⟩ := romStart_record (romChoose v.okA v.okB d) d
    rw [romChoose_active ht hg] at hactive ⊢
    obtain ⟨h1, h2, h3⟩ := startScribe_shows d.nv.active false (romShow { nv := d.nv, slot := some d.nv.active } d)
    exact ⟨h1, h2, h3, hactive⟩
  · rw [romChoose_previous ht hg hp, otherSlot, if_pos hg']
    obtain ⟨h1, h2, h3⟩ := startScribe_shows (1 - d.nv.active) true (romShow { nv := d.nv, slot := some (1 - d.nv.active), other := true } d)
    exact ⟨h1, h2, h3, fired_raises (startScribe_fired (romShow_faults _ d 257))⟩
  · rw [romStart_phase]
    by_cases hp : d.nv.prevState = 0
    · have hnone : otherSlot v.okA v.okB d = none := if_neg (by rw [hnot.resolve_left (by simp [hp])]; decide)
      rw [romChoose_previous ht hg hp, hnone]
      rfl
    · rw [romChoose_fails ht hg hp]
      rfl
  · obtain ⟨hactive, -, hboots, -⟩ := romStart_record (romChoose v.okA v.okB d) d
    rw [romChoose_trial ht hb hg] at hactive hboots ⊢
    obtain ⟨h1, h2, -⟩ := startScribe_shows d.nv.active false (romShow
      { nv := { d.nv with trialBoots := d.nv.trialBoots + 1, generation := d.nv.generation + 1 }, slot := some d.nv.active } d)
    exact ⟨h1, h2, hboots, hactive⟩
  · obtain ⟨hactive, htrial, -, hout⟩ := romStart_record (romChoose v.okA v.okB d) d
    obtain ⟨hslot, ha, htr, ho'⟩ := romChoose_ends ht hend
    refine ⟨hactive.trans ha, htrial.trans htr, hout.trans ho', ?_⟩
    rw [romStart_phase, hslot, otherSlot]
    split <;> rfl

end Sys2Proof
end

section
set_option Elab.async false
/-! PROOFS. The Pattern applied or refused, start-up and its limits (O31, O32). -/

namespace Sys2Proof.Machine

set_option exponentiation.threshold 2048

/-- A command's effect, with a frame of any form. -/
theorem carried_kept_effect {c : Instr} {f : Dev → Dev} {p : Dev → Dev → Prop} {m n : Nat} (hx : ∀ s, exec c s = perform c f s)
    (hk : ∀ s t, exec c s = .next t → t.pending = s.pending ∧ Kept m s.dev t.dev) (hm : Sub m n) (hq : ∀ d e, p (quiet d) e → p d e)
    (hp : c.wf = true → ∀ d, d.out = [] → heldDown d = false → p d (raises d (f d))) : Carried c (fun d e => Kept n d e ∧ p d e) :=
  carried_frame hx hk hm fun hw d hd => hq d _ (hp hw (quiet d) rfl hd)

/-- A device that has sent nothing is as it is with its outputs emptied. -/
theorem quiet_of_out_nil {d : Dev} (h : d.out = []) : { d with out := [] } = d := by rw [← h]

/-! ### The Pattern -/

theorem refusePattern_shows (x : PatErr) (d : Dev) : rd TOP_BOOT_ST_phase [] (refusePattern x d) = 8 ∧
    rd TOP_PAT_ERR_code [] (refusePattern x d) = x.1 % 2 ^ TOP_PAT_ERR_code.w ∧
    rd TOP_PAT_ERR_section [] (refusePattern x d) = x.2 % 2 ^ TOP_PAT_ERR_section.w ∧ rd TOP_STICKY_pat_fail [] (refusePattern x d) = 1 ∧
    Fired 256 d (refusePattern x d) := by
  have hphase : rd TOP_BOOT_ST_phase [] (wr TOP_BOOT_ST_phase [] 8 d) = 8 := rd_wr_same _ _ _ _
  refine ⟨?_, ?_, ?_, ?_, fired_fire ?_ (severityOf_congr rfl fun i => ?_)⟩
  · simp (disch := decide) [refusePattern, hphase]
  · simp (disch := decide) [refusePattern, rd_wr_same]
  · simp (disch := decide) [refusePattern, rd_wr_same]
  · simp (disch := decide) [refusePattern, rd_wr_same]
  · simp (disch := decide) [rawOf, rdBit]
  · simp (disch := decide)

theorem patternApplyDone_eq {v : PatView} {d : Dev} (h : rd TOP_BOOT_ST_phase [] d = 1 ∨ rd TOP_BOOT_ST_phase [] d = 2) {img : Option Img}
    (himg : img = (slotOf (bootSlot d) d).pat) :
    (∀ x, patternErr img v d = some x → patternApplyDone v d = refusePattern x d) ∧
    (patternErr img v d = none → ∃ y, patternApplyDone v d =
      wr TOP_PAT_ID_pat_version [] (patVersion (patHead (img.getD {}))) (wr TOP_BOOT_ST_phase [] 3 y)) := by
  subst himg
  have hgo : ¬ (rd TOP_BOOT_ST_phase [] d ≠ 1 ∧ rd TOP_BOOT_ST_phase [] d ≠ 2) := by omega
  unfold patternApplyDone
  simp only [if_neg hgo]
  refine ⟨fun x hx => ?_, fun hnone => ?_⟩
  · rw [hx]
  · rw [hnone]; exact ⟨_, rfl⟩

/-! ### Start-up -/

/-- The tick at which the start-up input comes. -/
def startInstant (d : Dev) : Dev := atGrid 52920000 0 5 d

theorem rd_startInstant (f : Fld) (ix : List Nat) (d : Dev) : rd f ix (startInstant d) = rd f ix d := rd_atGrid _ _ _ f ix d

theorem startInstant_kept (d : Dev) : Kept 0x218 d (startInstant d) := atGrid_keeps (Kept.refl _ d) (Sub.refl _)

theorem sequences_startInstant (d : Dev) : sequences (startInstant d) = sequences d := by
  simp only [sequences, roleOf, rdB, rd_startInstant]

theorem startInstant_nv (d : Dev) : (startInstant d).nv = d.nv := (startInstant_kept d).nv (by decide)

theorem bootSlot_startInstant (d : Dev) : slotOf (bootSlot (startInstant d)) (startInstant d) = slotOf (bootSlot d) d := by
  unfold slotOf bootSlot
  rw [rd_startInstant, startInstant_nv]

theorem settingsForeign_startInstant (d : Dev) : settingsForeign (startInstant d) = settingsForeign d := by
  simp only [settingsForeign, routeOf, readsFormat, runningHdr, bootSlot_startInstant]
  rfl

/-- The state of a member that is configured, before its phase is shown. -/
def configured (d : Dev) : Dev :=
  let restore := sequences d
  let d := startUp restore d
  let d := if restore && !(routeOf d).usable then setRoute {} d else d
  { d with boot := { d.boot with configuredAt := d.devTime } }

/-! ### A soft reset -/

theorem softReset_shows (cause : Nat) (d : Dev) : rd TOP_BOOT_ST_phase [] (softReset cause d) = 0 ∧
    rd TOP_RESET_CAUSE_cause [] (softReset cause d) = cause % 2 ^ TOP_RESET_CAUSE_cause.w ∧ (softReset cause d).nv = d.nv ∧
    (softReset cause d).ntw = d.ntw ∧ (softReset cause d).devTime = d.devTime := by
  unfold softReset
  extract_lets stood member pins fresh recorded
  have hraws : Kept 0xc0001000000000000000000000000000000000000000000000000000000000000000000000000000000000000000000000000000000000000000000000000000000000000000000000000000000000000000000000000000000000000000000000000000000000000000000000004000000003041 recorded
      (forEach stood (fun n d => setRaw n true d) recorded) := forEach_keeps (Kept.refl _ _) fun _ _ h => setRaw_keeps h (Sub.refl _)
  refine ⟨?_, ?_, ?_, ?_, ?_⟩
  · rw [hraws.rd _ _ (by decide)]
    dsimp only [recorded]
    rw [rd_wr_off _ _ (by decide), rd_count_off _ _ (by decide), rd_wr_off _ _ (by decide)]
    unfold rd
    rw [tabGet_filter (fun k => keptBySoftReset k), if_neg (by decide)]
    rfl
  · rw [hraws.rd _ _ (by decide)]
    dsimp only [recorded]
    rw [rd_wr_off _ _ (by decide), rd_count_off _ _ (by decide), rd_wr_same]
  · rw [hraws.nv (by decide)]; rfl
  · rw [hraws.ntw (by decide)]; rfl
  · rw [hraws.devTime (by decide)]; rfl

theorem comes_with_boot {t : Nat} {b : Boot} {d x : Dev} (h : Comes t d x) : Comes t d { x with boot := b } := h

theorem comes_with_sea {t : Nat} {b : Sea} {d x : Dev} (h : Comes t d x) : Comes t d { x with sea := b } := h

theorem fallBack_comes {t : Nat} {d x : Dev} (outcome : Nat) (h : Comes t d x) : Comes t d (fallBack outcome x) := by
  obtain ⟨-, -, -, hn, ht⟩ := softReset_shows 4 { x with nv := fallbackRecord outcome x.nv }
  exact ⟨hn.trans h.1, ht.trans h.2⟩

/-- A fall back to the other slot is a soft reset of cause 4 with its record. -/
theorem fallBack_shows (outcome : Nat) (d : Dev) : rd TOP_BOOT_ST_phase [] (fallBack outcome d) = 0 ∧
    rd TOP_RESET_CAUSE_cause [] (fallBack outcome d) = 4 ∧ (fallBack outcome d).nv = fallbackRecord outcome d.nv := by
  obtain ⟨h1, h2, h3, -, -⟩ := softReset_shows 4 { d with nv := fallbackRecord outcome d.nv }
  exact ⟨h1, h2, h3⟩

/-! ### What the start-up input comes to -/

section StartUp

variable {d : Dev}

theorem startUpInput_stays (h : rd TOP_BOOT_ST_phase [] d ≠ 3 ∨ startUpReady d = false) : startUpInput d = d := by
  unfold startUpInput
  rw [if_pos (by rcases h with h | h <;> simp [h])]

theorem startUpInput_foreign (hp : rd TOP_BOOT_ST_phase [] d = 3) (hr : startUpReady d = true) (hs : sequences d = true) (hf : settingsForeign d = true) :
    startUpInput d = fallBack 4 (fire 279 { startInstant d with boot := { (startInstant d).boot with incompatible := true } }) := by
  have hgo : (sequences (startInstant d) && settingsForeign (startInstant d)) = true := by
    rw [sequences_startInstant, settingsForeign_startInstant, hs, hf]; rfl
  unfold startUpInput
  rw [if_neg (by simp [hp, hr])]
  exact if_pos hgo

theorem startUpInput_configures (hp : rd TOP_BOOT_ST_phase [] d = 3) (hr : startUpReady d = true) (hf : sequences d = false ∨ settingsForeign d = false) :
    startUpInput d = if sequences d then wr TOP_BOOT_ST_phase [] 5 (configured (startInstant d)) else
      wr TOP_BOOT_ST_phase [] 10
        { configured (startInstant d) with sea := { (configured (startInstant d)).sea with waitFrom := (configured (startInstant d)).devTime } } := by
  have hgo : ¬ (sequences (startInstant d) && settingsForeign (startInstant d)) = true := by
    rw [sequences_startInstant, settingsForeign_startInstant]
    rcases hf with h | h <;> simp [h]
  unfold startUpInput
  rw [if_neg (by simp [hp, hr])]
  refine (if_neg hgo).trans ?_
  rw [← sequences_startInstant d, startInstant]
  generalize atGrid 52920000 0 5 d = x
  rfl

/-- Starting up and setting the route memory take no time. -/
theorem configured_comes {t : Nat} {x : Dev} (h : Comes t d x) : Comes t d (configured x) ∧ (configured x).boot.configuredAt = (configured x).devTime := by
  unfold configured
  extract_lets restore y z b
  have hy : Comes t d y := (startUp_keeps (Kept.refl _ x) (Sub.refl _)).comes h
  have hz : Comes t d z := by
    dsimp only [z]
    split
    · exact (setRoute_keeps (Kept.refl _ y) (Sub.refl _)).comes hy
    · exact hy
  clear_value z
  exact ⟨hz, rfl⟩

end StartUp

/-! ### The limits -/

theorem serveTimeout_eq {d : Dev} (hp : rd TOP_BOOT_ST_phase [] d = 5 ∨ rd TOP_BOOT_ST_phase [] d = 10) (hl : d.boot.serveLate = false) :
    ∃ x : Dev, Kept 0x40000018 d x ∧ Passes (d.boot.configuredAt + 60 * secUnits) d x ∧ x.boot.serveLate = true ∧ serveTimeout d = fire 265 x := by
  unfold serveTimeout
  dsimp only
  rw [if_neg (by rcases hp with h | h <;> simp [h, hl])]
  have hpass := passes_advanceDev (d.boot.configuredAt + 60 * secUnits) d
  have hkept : Kept 0x40000018 d (advanceDev (d.boot.configuredAt + 60 * secUnits) d) := advanceDev_keeps (Kept.refl _ d) (by decide)
  generalize advanceDev (d.boot.configuredAt + 60 * secUnits) d = x at hpass hkept ⊢
  exact ⟨{ x with boot := { x.boot with serveLate := true } }, upd_boot hkept (by decide), hpass, rfl, rfl⟩

theorem fabricWaitTimeout_eq {d : Dev} (hp : rd TOP_BOOT_ST_phase [] d = 10) (hl : d.boot.waitLate = false) :
    ∃ x : Dev, Kept 0x40000018 d x ∧ Passes (d.sea.waitFrom + 60 * secUnits) d x ∧ x.boot.waitLate = true ∧
      fabricWaitTimeout d = fire 264 (wr TOP_STICKY_fabric_wait [] 1 x) := by
  unfold fabricWaitTimeout
  rw [if_neg (by simp [hp, hl])]
  have hpass := passes_advanceDev (d.sea.waitFrom + 60 * secUnits) d
  have hkept : Kept 0x40000018 d (advanceDev (d.sea.waitFrom + 60 * secUnits) d) := advanceDev_keeps (Kept.refl _ d) (by decide)
  dsimp only
  generalize advanceDev (d.sea.waitFrom + 60 * secUnits) d = x at hpass hkept ⊢
  exact ⟨{ x with boot := { x.boot with waitLate := true } }, upd_boot hkept (by decide), hpass, rfl, rfl⟩

end Sys2Proof.Machine

namespace Sys2Proof
open Machine

set_option exponentiation.threshold 2048

/-- Settles O31: what was found of the Pattern decides, and a refusal leaves the Pattern in force. -/
theorem patternIsAppliedOrRefused : Obligations.PatternIsAppliedOrRefused := by
  intro v
  refine carried_kept_effect (fun _ => rfl) (fun _ _ => execPatternApplyDone_keeps) (by decide) (fun _ _ h => h) fun _ d ho _ =>
    ⟨fun h1 h2 => unchanged_of_eq ho (if_pos ⟨h1, h2⟩), fun hphase img himg => ?_⟩
  obtain ⟨hrefused, happlied⟩ := patternApplyDone_eq (v := v) hphase himg
  rw [quiet_of_out_nil ho]
  refine ⟨fun x hx => ?_, fun hnone => ?_⟩
  · obtain ⟨h1, h2, h3, h4, h5⟩ := refusePattern_shows x d
    have hpat : (refusePattern x d).pat = d.pat := (refusePattern_keeps (Kept.refl _ d) (Sub.refl _)).pat (by decide)
    rw [hrefused x hx, raises_pat, hpat]
    simp (disch := decide) [h1, h2, h3, h4, fired_raises h5]
  · obtain ⟨y, hy⟩ := happlied hnone
    rw [hy]
    refine ⟨?_, ?_⟩
    · rw [rd_raises_off _ _ (by decide), rd_wr_off _ _ (by decide), rd_wr_same]; rfl
    · rw [rd_raises_off _ _ (by decide), rd_wr_same]

/-- Settles O32: the start-up input comes at its tick to a fall back or to a configured member, and each limit passes once. -/
theorem startUpAndItsLimits : Obligations.StartUpAndItsLimits := by
  refine ⟨?_, ?_, ?_⟩
  · refine carried_kept_effect (fun _ => rfl) (fun _ _ => execStartUpInput_keeps) (by decide +kernel)
      (fun d e ⟨hstays, hgo⟩ => ⟨hstays, fun hp hr => ⟨comes_quiet.mp (hgo hp hr).1, (hgo hp hr).2⟩⟩) fun _ d ho _ => ?_
    have hat : Comes (nextGrid 52920000 0 5 d) d (startInstant d) := comes_atGrid 52920000 0 5 d
    refine ⟨fun h => unchanged_of_eq ho (startUpInput_stays h), fun hp hr => ⟨?_, fun hs hf => ?_, fun hs hf => ?_, fun hs => ?_⟩⟩
    · by_cases hforeign : sequences d = true ∧ settingsForeign d = true
      · rw [startUpInput_foreign hp hr hforeign.1 hforeign.2]
        exact comes_raises (fallBack_comes 4 ((fire_only_kept 279 _).comes (comes_with_boot hat)))
      · have hf : sequences d = false ∨ settingsForeign d = false := by
          cases hs : sequences d <;> cases hg : settingsForeign d <;> simp_all
        rw [startUpInput_configures hp hr hf]
        refine comes_raises ?_
        split
        · exact comes_wr (configured_comes hat).1
        · exact comes_wr (comes_with_sea (configured_comes hat).1)
    · rw [startUpInput_foreign hp hr hs hf]
      obtain ⟨h1, h2, h3⟩ := fallBack_shows 4 (fire 279 { startInstant d with boot := { (startInstant d).boot with incompatible := true } })
      rw [(fire_only_kept 279 _).nv (by decide)] at h3
      rw [rd_raises_off _ _ (by decide), rd_raises_off _ _ (by decide), raises_nv]
      exact ⟨h1, h2, h3.trans (by rw [startInstant_nv])⟩
    · rw [startUpInput_configures hp hr (.inr hf), if_pos hs, rd_raises_off _ _ (by decide), rd_wr_same, raises_boot, raises_devTime]
      exact ⟨rfl, (configured_comes hat).2⟩
    · rw [startUpInput_configures hp hr (.inl hs), if_neg (by simp [hs]), rd_raises_off _ _ (by decide), rd_wr_same, raises_sea, raises_devTime]
      exact ⟨rfl, rfl⟩
  · refine carried_effect (fun _ => rfl) (fun _ _ => execServeTimeout_keeps) (by decide)
      (fun d e ⟨hstays, hgo⟩ => ⟨hstays, fun hp hr => ⟨passes_quiet.mp (hgo hp hr).1, (hgo hp hr).2⟩⟩) fun _ d ho _ =>
        ⟨fun hnot => unchanged_of_eq ho (if_pos ?_), fun hp hl => ?_⟩
    · rcases hnot with h | h <;> simp [h]
    · obtain ⟨x, hx, hpass, hlate, heq⟩ := serveTimeout_eq hp hl
      have hfired : Fired 265 d (fire 265 x) := fired_fire (hx.rdBit _ _ _ (by decide)) (severityOf_congr (hx.blt (by decide)) fun i => hx.rd _ _ (by decide))
      rw [heq, raises_boot, (fire_only_kept 265 x).boot (by decide)]
      exact ⟨passes_raises ((fire_only_kept 265 x).passes hpass), hlate, fired_raises hfired⟩
  · refine carried_effect (fun _ => rfl) (fun _ _ => execFabricWaitTimeout_keeps) (by decide)
      (fun d e ⟨hstays, hgo⟩ => ⟨hstays, fun hp hr => ⟨passes_quiet.mp (hgo hp hr).1, (hgo hp hr).2⟩⟩) fun _ d ho _ =>
        ⟨fun hnot => unchanged_of_eq ho (if_pos ?_), fun hp hl => ?_⟩
    · rcases hnot with h | h <;> simp [h]
    · obtain ⟨x, hx, hpass, hlate, heq⟩ := fabricWaitTimeout_eq hp hl
      have hfired : Fired 264 d (fire 264 (wr TOP_STICKY_fabric_wait [] 1 x)) :=
        fired_fire ((rawOf_wr_off _ _ _ (by decide)).trans (hx.rdBit _ _ _ (by decide)))
          (severityOf_congr (hx.blt (by decide)) fun i => (rd_wr_off _ _ (by decide)).trans (hx.rd _ _ (by decide)))
      rw [heq, raises_boot, (fire_only_kept 264 _).boot (by decide), rd_raises_off _ _ (by decide), rd_fire_off _ _ (by decide) (by decide) (by decide), rd_wr_same]
      exact ⟨passes_raises ((fire_only_kept 264 _).passes (passes_wr hpass)), hlate, rfl, fired_raises hfired⟩

end Sys2Proof
end

section
set_option Elab.async false
set_option exponentiation.threshold 2048
/-! PROOFS. The states of functions, and the outputs at their grids (O36). -/

namespace Sys2Proof.Machine

/-! ### The state of a function -/

@[simp] theorem rd_raiseIrq_off {g : Fld} {jx : List Nat} (v : Nat) (d : Dev) (h : g.no % 1024 ≠ TOP_IRQ_ST_raised.no % 1024) :
    rd g jx (raiseIrq v d) = rd g jx d :=
  (raiseIrq_kept v d).rd g jx (by rw [List.mem_singleton]; exact key_reg h)

theorem rd_setFuncState (k st : Nat) (g : Fld) (jx : List Nat) (d : Dev) (h : funcState k d ≠ st) :
    rd g jx (setFuncState k st d) = rd g jx (raiseIrq 6 (wr (funcOf k).state (funcOf k).ix st d)) := by
  unfold setFuncState
  simp only [if_neg h]
  (repeat' split) <;> rfl

theorem setFuncState_same {k st : Nat} {d : Dev} (h : funcState k d = st) : setFuncState k st d = d := by
  unfold setFuncState
  exact if_pos h

/-- A new state of a function writes its own state field and TOP_IRQ_ST only. -/
theorem rd_setFuncState_off {k st : Nat} {g : Fld} {jx : List Nat} (d : Dev) (hg : g.no % 1024 ≠ (funcOf k).state.no % 1024)
    (hi : g.no % 1024 ≠ TOP_IRQ_ST_raised.no % 1024) : rd g jx (setFuncState k st d) = rd g jx d := by
  by_cases h : funcState k d = st
  · rw [setFuncState_same h]
  · rw [rd_setFuncState _ _ _ _ _ h, rd_raiseIrq_off _ _ hi, rd_wr_off _ _ hg]

/-- The state fields of the functions other than raster families. -/
def unitStates : List Fld := [LNS_OCT_STATUS_state, MAC_STATUS_state, QLT_HEAD_STATUS_state, GTH_STATUS_state, APT_TDM_STATUS_state, APT_AIN_STATUS_state,
  APT_AOUT_STATUS_state, SEA_LINK_ST_state, DRC_STATUS_state]

theorem funcOf_unit {k : Nat} (h : k < 149) : (funcOf k).state ∈ unitStates := by
  unfold funcOf
  (repeat' split) <;> simp [unitStates]

theorem funcOf_family (n : Nat) : funcOf (fFam n) =
    ⟨DUC_FAM_CTRL_en, DUC_FAM_STATUS_state, DUC_FAM_STATUS_start_err, [n], [n], 53, DUC_STATUS_rej_write, [], 52⟩ := by
  have h : ∀ m, m ≤ 149 → ¬ fFam n < m := by unfold fFam; omega
  unfold funcOf
  simp only [if_neg (h 24 (by decide)), if_neg (h 72 (by decide)), if_neg (h 88 (by decide)), if_neg (h 89 (by decide)), if_neg (h 97 (by decide)),
    if_neg (h 105 (by decide)), if_neg (h 113 (by decide)), if_neg (h 137 (by decide)), if_neg (h 149 (by decide))]
  simp [fFam]

theorem funcOf_state (k : Nat) : (funcOf k).state.w = 3 ∧ (funcOf k).state.no % 1024 ≠ TOP_IRQ_ST_raised.no % 1024 := by
  by_cases h : k < 149
  · have hall : ∀ f ∈ unitStates, f.w = 3 ∧ f.no % 1024 ≠ TOP_IRQ_ST_raised.no % 1024 := by simp [unitStates]; decide
    exact hall _ (funcOf_unit h)
  · have hk : k = fFam (k - 149) := by unfold fFam; omega
    rw [hk, funcOf_family]
    exact ⟨rfl, show DUC_FAM_STATUS_state.no % 1024 ≠ TOP_IRQ_ST_raised.no % 1024 by decide⟩

/-- A function is in the state it is set to. -/
theorem funcState_setFuncState {k st : Nat} (d : Dev) (hst : st < 8) : funcState k (setFuncState k st d) = st := by
  by_cases h : funcState k d = st
  · rw [setFuncState_same h, h]
  · obtain ⟨hw, hi⟩ := funcOf_state k
    rw [funcState, rd_setFuncState _ _ _ _ _ h, rd_raiseIrq_off _ _ hi, rd_wr_same, hw]
    exact Nat.mod_eq_of_lt hst

theorem funcState_family (n : Nat) (d : Dev) : funcState (fFam n) d = rd DUC_FAM_STATUS_state [n] d := by rw [funcState, funcOf_family]

theorem funcEn_family (n : Nat) (d : Dev) : funcEn (fFam n) d = rdB DUC_FAM_CTRL_en [n] d := by rw [funcEn, funcOf_family]

theorem funcOf_below_families {k : Nat} (h : k < 149) : DUC_FAM_STATUS_state.no % 1024 ≠ (funcOf k).state.no % 1024 := by
  have hall : ∀ f ∈ unitStates, DUC_FAM_STATUS_state.no % 1024 ≠ f.no % 1024 := by simp [unitStates]; decide
  exact hall _ (funcOf_unit h)

/-- Each element of a list keeps what a property says, so the run over the list does. -/
theorem forEach_mem_holds {α β : Type} {P : α → Prop} {xs : List β} {f : β → α → α} {a : α} (h : P a) (hf : ∀ x ∈ xs, ∀ a, P a → P (f x a)) :
    P (forEach xs f a) := by
  induction xs generalizing a with
  | nil => exact h
  | cons x rest ih => exact ih (hf x (.head _) a h) fun y hy => hf y (.tail _ hy)

/-! ### Raster families -/

/-- A new state of any other function leaves every raster family as it was. -/
theorem famState_setFuncState {k st n : Nat} (d : Dev) (h : k < 149) :
    rd DUC_FAM_STATUS_state [n] (setFuncState k st d) = rd DUC_FAM_STATUS_state [n] d :=
  rd_setFuncState_off d (funcOf_below_families h) (by decide)

theorem mem_gangHeads {h a : Nat} {d : Dev} (hh : h < 16) (ha : a ∈ gangHeads h d) : a < 16 := by
  unfold gangHeads at ha
  split at ha
  · obtain ⟨k, hk, rfl⟩ := List.mem_map.mp ha
    have := List.mem_range.mp hk
    omega
  · rw [List.mem_singleton.mp ha]; exact hh

theorem fHead_lt {h : Nat} (hh : h < 16) : fHead h < 149 := by unfold fHead; omega

@[simp] theorem rd_setDramRun (f : Fld) (ix : List Nat) (c : Nat) (r : DramRun) (d : Dev) : rd f ix (setDramRun c r d) = rd f ix d := rfl

/-- What a function of that frame leaves of the raster families. -/
theorem famState_of_kept {m n : Nat} {d x : Dev} (h : Kept m d x) (hm : Nat.testBit m 177 = false := by decide) :
    rd DUC_FAM_STATUS_state [n] x = rd DUC_FAM_STATUS_state [n] d := h.rd _ _ hm

theorem famState_dramFails {c n : Nat} (cause : Nat) (d : Dev) (hc : c < 12) :
    rd DUC_FAM_STATUS_state [n] (dramFails c cause d) = rd DUC_FAM_STATUS_state [n] d := by
  have hk : fDram c < 149 := by unfold fDram; omega
  unfold dramFails
  split
  · rfl
  · rw [rd_fire_off _ _ (by decide) (by decide) (by decide), famState_setFuncState _ hk,
      famState_of_kept (failSurfaces_keeps (Kept.refl _ _) (Sub.refl _))]
    simp (disch := decide) [dramOff]

theorem famState_eccEvents {c n : Nat} (ce : Nat) (ues : List Nat) (d : Dev) (hc : c < 12) :
    rd DUC_FAM_STATUS_state [n] (eccEvents c ce ues d) = rd DUC_FAM_STATUS_state [n] d := by
  have hsec : ∀ k key x, rd DUC_FAM_STATUS_state [n] (firePerSecond k key x) = rd DUC_FAM_STATUS_state [n] x := fun _ _ x =>
    famState_of_kept (firePerSecond_keeps (Kept.refl _ x) (Sub.refl _))
  unfold eccEvents
  simp (disch := decide) [apply_ite (rd DUC_FAM_STATUS_state [n]), famState_dramFails _ _ hc, hsec]

theorem famState_readErrors {n : Nat} {es : List EccObs} (d : Dev) (hes : ∀ e ∈ es, e.channel < 12) :
    rd DUC_FAM_STATUS_state [n] (readErrors es d) = rd DUC_FAM_STATUS_state [n] d :=
  forEach_mem_holds (P := fun x => rd DUC_FAM_STATUS_state [n] x = rd DUC_FAM_STATUS_state [n] d) rfl fun e he a ha =>
    forEach_holds (P := fun x => rd DUC_FAM_STATUS_state [n] x = rd DUC_FAM_STATUS_state [n] d) ((famState_eccEvents _ _ a (hes e he)).trans ha)
      fun _ x hx => (famState_of_kept (spoil_keeps (Kept.refl _ x) (Sub.refl _))).trans hx

/-! ### The heads at a frame boundary -/

section Heads
variable {n h : Nat}

/-- What each head of a list leaves of the raster families, all of them leave. -/
theorem famState_heads {hs : List Nat} {f : Nat → Dev → Dev} (d : Dev) (hh : ∀ a ∈ hs, a < 16)
    (hf : ∀ a x, a < 16 → rd DUC_FAM_STATUS_state [n] (f a x) = rd DUC_FAM_STATUS_state [n] x) :
    rd DUC_FAM_STATUS_state [n] (forEach hs f d) = rd DUC_FAM_STATUS_state [n] d :=
  forEach_mem_holds (P := fun x => rd DUC_FAM_STATUS_state [n] x = rd DUC_FAM_STATUS_state [n] d) rfl fun a ha x hx => (hf a x (hh a ha)).trans hx

@[simp] theorem rd_setHeadRun (f : Fld) (ix : List Nat) (a : Nat) (r : HeadRun) (d : Dev) : rd f ix (setHeadRun a r d) = rd f ix d := rfl

theorem famState_headStops (d : Dev) (hh : h < 16) : rd DUC_FAM_STATUS_state [n] (headStops h d) = rd DUC_FAM_STATUS_state [n] d := by
  have hgang := famState_heads (n := n) (hs := gangHeads h d) d (fun _ => mem_gangHeads hh)
    (f := fun a d => setFuncState (fHead a) 0 (setFuncState (fHead a) 3 (setHeadRun a {} d))) fun a x ha => by
    rw [famState_setFuncState _ (fHead_lt ha), famState_setFuncState _ (fHead_lt ha), rd_setHeadRun]
  unfold headStops
  simp only []
  split
  · exact (famState_of_kept (declareLoss_keeps (Kept.refl _ _) (Sub.refl _))).trans hgang
  · exact hgang

theorem famState_headLaunch (boundary : Bool) (d : Dev) (hh : h < 16) :
    rd DUC_FAM_STATUS_state [n] (headLaunch h boundary d) = rd DUC_FAM_STATUS_state [n] d := by
  have hstart := famState_heads (n := n) (hs := gangHeads h d) d (fun _ => mem_gangHeads hh)
    (f := fun a d => setFuncState (fHead a) 1 (wr QLT_HEAD_STATUS_gang_role [a] (if !inGang h d then 0 else if a = h then 1 else 2) d)) fun a x ha => by
    rw [famState_setFuncState _ (fHead_lt ha), rd_wr_off _ _ (by decide)]
  have hfail : rd DUC_FAM_STATUS_state [n] (startFails (fHead h) d) = rd DUC_FAM_STATUS_state [n] d :=
    famState_of_kept (startFails_keeps (Kept.refl _ d) (Sub.refl _))
  have hstop := famState_headStops (n := n) d hh
  have hoff := famState_setFuncState (st := 0) (n := n) d (fHead_lt hh)
  unfold headLaunch
  simp only []
  split
  · rfl
  split
  · split
    · rfl
    split
    · exact hstart
    · exact hfail
  split
  · exact hstop
  split
  · exact hoff
  · rfl

theorem famState_headRuns (t : Nat) (d : Dev) (hh : h < 16) :
    rd DUC_FAM_STATUS_state [n] (headRuns h t d) = rd DUC_FAM_STATUS_state [n] d := by
  have hgang := famState_heads (n := n) (hs := gangHeads h d) d (fun _ => mem_gangHeads hh) (f := fun a d => setFuncState (fHead a) 2 d) fun a x ha =>
    famState_setFuncState _ (fHead_lt ha)
  have hrec : ∀ k x, rd DUC_FAM_STATUS_state [n] (declareRecovery k x) = rd DUC_FAM_STATUS_state [n] x := fun _ x =>
    famState_of_kept (declareRecovery_keeps (Kept.refl _ x) (Sub.refl _))
  have hbound : ∀ x, rd DUC_FAM_STATUS_state [n] (headBoundary h t x) = rd DUC_FAM_STATUS_state [n] x := fun x =>
    famState_of_kept (headBoundary_keeps (Kept.refl _ x) (Sub.refl _))
  unfold headRuns
  simp only []
  split
  · rfl
  · rw [hbound]
    split
    · (repeat' split) <;> simp only [hrec, rd_setHeadRun, hgang]
    · exact hgang

theorem famState_quiltFrame (m t : Nat) (d : Dev) : rd DUC_FAM_STATUS_state [n] (quiltFrame m t d) = rd DUC_FAM_STATUS_state [n] d := by
  have hlt : ∀ a ∈ (List.range 16).filter (fun h => headFam h d == m), a < 16 := fun a ha => List.mem_range.mp (List.mem_filter.mp ha).1
  unfold quiltFrame
  rw [famState_heads _ hlt fun a x ha => famState_headRuns t x ha, famState_heads _ hlt, famState_heads _ hlt fun a x ha => famState_headLaunch true x ha,
    famState_heads _ hlt]
  · intro a x _
    split
    · exact famState_of_kept (headFrameEnds_keeps (Kept.refl _ x) (Sub.refl _))
    · rfl
  · intro a x _
    split
    · exact famState_of_kept (headBoundary_keeps (Kept.refl _ x) (Sub.refl _))
    · rfl

end Heads

/-! ### A frame boundary -/

theorem famState_famBoundary (m n : Nat) (d : Dev) : rd DUC_FAM_STATUS_state [n] (famBoundary m d) = rd DUC_FAM_STATUS_state [n] d := by
  have hdst : ∀ x : DstDesc, ∀ y, rd DUC_FAM_STATUS_state [n] (if x.kind = 1 ∨ x.kind = 3 then sdiOutFrame x (dstFrame x.index y) else dstFrame x.index y) =
      rd DUC_FAM_STATUS_state [n] y := fun x y => by
    have hframe := famState_of_kept (n := n) (dstFrame_keeps (i := x.index) (Kept.refl _ y) (Sub.refl _))
    split
    · exact (famState_of_kept (sdiOutFrame_keeps (Kept.refl _ _) (Sub.refl _))).trans hframe
    · exact hframe
  have hfirst : ∀ x, rd DUC_FAM_STATUS_state [n] (if m = 0 then firstFamily x else x) = rd DUC_FAM_STATUS_state [n] x := fun x => by
    split
    · exact famState_of_kept (firstFamily_keeps (Kept.refl _ x) (Sub.refl _))
    · rfl
  unfold famBoundary
  simp only []
  rw [famState_of_kept (refOutFpPulse_keeps (Kept.refl _ _) (Sub.refl _)), hfirst, famState_of_kept (twinBoundary_keeps (Kept.refl _ _) (Sub.refl _)),
    famState_quiltFrame]
  exact forEach_holds (P := fun x => rd DUC_FAM_STATUS_state [n] x = rd DUC_FAM_STATUS_state [n] d) rfl fun x y hy => (hdst x y).trans hy

theorem famState_rastersReturn (m n : Nat) (d : Dev) : rd DUC_FAM_STATUS_state [n] (rastersReturn m d) = rd DUC_FAM_STATUS_state [n] d :=
  famState_of_kept (rastersReturn_keeps (Kept.refl _ d) (Sub.refl _))

theorem famState_famStarts (n : Nat) (d : Dev) : rd DUC_FAM_STATUS_state [n] (famStarts n d) = 2 := by
  unfold famStarts
  refine forEach_holds (P := fun x => rd DUC_FAM_STATUS_state [n] x = 2) ?_ fun x y hy => ?_
  · rw [← funcState_family]; exact funcState_setFuncState d (by decide)
  · exact (famState_of_kept (dstStart_keeps (Kept.refl _ y) (Sub.refl _))).trans hy

theorem famState_famStops (n : Nat) (d : Dev) : rd DUC_FAM_STATUS_state [n] (famStops n d) = 0 := by
  unfold famStops
  simp only []
  rw [← funcState_family]
  exact funcState_setFuncState _ (by decide)

section Boundary
variable {n : Nat} {es : List EccObs} {d : Dev}

/-- The device at the boundary, its reads of DRAM reported. -/
def atBoundary (n : Nat) (es : List EccObs) (d : Dev) : Dev := readErrors es (atFrame n d)

theorem atBoundary_comes (n : Nat) (es : List EccObs) (d : Dev) : Comes (nextGrid (famPeriod n d) 0 (keyFam n) d) d (atBoundary n es d) :=
  (readErrors_keeps (Kept.refl _ (atFrame n d)) (Sub.refl _)).comes (comes_atGrid _ _ _ d)

theorem famState_atBoundary (hes : ∀ e ∈ es, e.channel < 12) : rd DUC_FAM_STATUS_state [n] (atBoundary n es d) = rd DUC_FAM_STATUS_state [n] d :=
  (famState_readErrors _ hes).trans (rd_atGrid _ _ _ _ _ d)

/-- Reading errors leave the enable of a family, safe state and time_set as they were. -/
theorem rd_enFields_atBoundary : funcEn (fFam n) (atBoundary n es d) = funcEn (fFam n) d ∧ inSafe (atBoundary n es d) = inSafe d ∧
    rdB RUL_STATUS_time_set [] (atBoundary n es d) = rdB RUL_STATUS_time_set [] d := by
  have hk := readErrors_keeps (es := es) (Kept.refl _ (atFrame n d)) (Sub.refl _)
  simp only [funcEn_family]
  exact ⟨(hk.rdB _ _ (by decide)).trans (by simp [rdB, atFrame]), (hk.rdB _ _ (by decide)).trans (by simp [rdB, atFrame, inSafe]),
    (hk.rdB _ _ (by decide)).trans (by simp [rdB, atFrame])⟩

/-- What happens to a family at its boundary, by its state. -/
theorem frameBoundary_eq (hes : ∀ e ∈ es, e.channel < 12) :
    (funcState (fFam n) d = 1 → frameBoundary n es d =
      if rdB RUL_STATUS_time_set [] d then famBoundary n (rastersReturn n (famStarts n (atBoundary n es d))) else atBoundary n es d) ∧
    (funcState (fFam n) d = 2 → frameBoundary n es d =
      if funcEn (fFam n) d || inSafe d then famBoundary n (atBoundary n es d) else famStops n (atBoundary n es d)) ∧
    (funcState (fFam n) d ≠ 1 → funcState (fFam n) d ≠ 2 → frameBoundary n es d = atBoundary n es d) := by
  obtain ⟨hen, hsafe, hset⟩ := rd_enFields_atBoundary (n := n) (es := es) (d := d)
  have hst : funcState (fFam n) (atBoundary n es d) = funcState (fFam n) d := by
    rw [funcState_family, funcState_family]; exact famState_atBoundary hes
  have hdef : frameBoundary n es d = if funcState (fFam n) (atBoundary n es d) = 1 ∧ rdB RUL_STATUS_time_set [] (atBoundary n es d) = true then
      famBoundary n (rastersReturn n (famStarts n (atBoundary n es d)))
    else if funcState (fFam n) (atBoundary n es d) = 2 then
      (if funcEn (fFam n) (atBoundary n es d) || inSafe (atBoundary n es d) then famBoundary n (atBoundary n es d) else famStops n (atBoundary n es d))
    else atBoundary n es d := rfl
  simp only [hdef, hen, hsafe, hset, hst]
  refine ⟨fun h => ?_, fun h => ?_, fun h1 h2 => ?_⟩
  · simp [h]
  · simp [h]
  · simp [h1, h2]

theorem frameBoundary_comes (hes : ∀ e ∈ es, e.channel < 12) : Comes (nextGrid (famPeriod n d) 0 (keyFam n) d) d (frameBoundary n es d) := by
  obtain ⟨hstarts, hruns, hstays⟩ := frameBoundary_eq (n := n) (d := d) hes
  have hcome := atBoundary_comes n es d
  by_cases h1 : funcState (fFam n) d = 1
  · rw [hstarts h1]
    split
    · exact (famBoundary_keeps (Kept.refl _ _) (Sub.refl _)).comes ((rastersReturn_keeps (Kept.refl _ _) (Sub.refl _)).comes
        ((famStarts_keeps (Kept.refl _ _) (Sub.refl _)).comes hcome))
    · exact hcome
  · by_cases h2 : funcState (fFam n) d = 2
    · rw [hruns h2]
      split
      · exact (famBoundary_keeps (Kept.refl _ _) (Sub.refl _)).comes hcome
      · exact (famStops_keeps (Kept.refl _ _) (Sub.refl _)).comes hcome
    · rw [hstays h1 h2]
      exact hcome

/-- A starting family runs once time is set, a running one that is no longer wanted stops, and any other stays. -/
theorem frameBoundary_state (hes : ∀ e ∈ es, e.channel < 12) :
    (funcState (fFam n) d = 1 → funcState (fFam n) (frameBoundary n es d) = if rdB RUL_STATUS_time_set [] d then 2 else 1) ∧
    (funcState (fFam n) d = 2 → funcState (fFam n) (frameBoundary n es d) = if funcEn (fFam n) d || inSafe d then 2 else 0) ∧
    (funcState (fFam n) d ≠ 1 → funcState (fFam n) d ≠ 2 → funcState (fFam n) (frameBoundary n es d) = funcState (fFam n) d) := by
  obtain ⟨hstarts, hruns, hstays⟩ := frameBoundary_eq (n := n) (d := d) hes
  have hat := famState_atBoundary (n := n) (d := d) hes
  refine ⟨fun h => ?_, fun h => ?_, fun h1 h2 => ?_⟩
  · rw [hstarts h, funcState_family, apply_ite (rd DUC_FAM_STATUS_state [n]), famState_famBoundary, famState_rastersReturn, famState_famStarts, hat,
      ← funcState_family, h]
  · rw [hruns h, funcState_family, apply_ite (rd DUC_FAM_STATUS_state [n]), famState_famBoundary, famState_famStops, hat, ← funcState_family, h]
  · rw [hstays h1 h2, funcState_family, hat, funcState_family]

end Boundary

/-! ### Switch points and samples -/

section Output
variable {i : Nat} {d : Dev}

theorem outputSwitch_absent (h : dstAt i d = none) : outputSwitch i d = d := by
  unfold outputSwitch switchPoint
  simp [h]

theorem switchPoint_comes {x : DstDesc} {off : Nat} (hx : dstAt i d = some x) (hoff : switchOffset i x.kind d = some off)
    (hr : famRunning (dstFam i d) d = true) : Comes (nextGrid (famPeriod (dstFam i d) d) off (keyDst i) d) d (switchPoint i d) := by
  have hcome := comes_atGrid (famPeriod (dstFam i d) d) off (keyDst i) d
  unfold switchPoint
  simp only [hx, hoff, hr, Bool.not_true, Bool.false_eq_true, if_false]
  split
  · refine (setSafeCarry_keeps (Kept.refl _ _) (Sub.refl _)).comes ?_
    split
    · exact (declareDst_keeps (Kept.refl _ _) (Sub.refl _)).comes hcome
    · exact hcome
  · exact (evalOutput_keeps (Kept.refl _ _) (Sub.refl _)).comes hcome

theorem outputSwitch_comes {t : Nat} {x : Dev} (h : Comes t x (switchPoint i x)) : Comes t x (outputSwitch i x) := by
  unfold outputSwitch
  extract_lets old a b
  have hb : Comes t x b := by
    unfold b
    split
    · exact (opaqueSwitch_keeps (Kept.refl _ a) (Sub.refl _)).comes h
    · exact h
  split
  · exact (txSwitch_keeps (Kept.refl _ b) (Sub.refl _)).comes hb
  · exact hb

theorem audioSample_comes (r : Nat) (d : Dev) : Comes (nextGrid (samplePeriod r) 0 (keyAudio r) d) d (audioSample r d) := by
  unfold audioSample
  exact (audioTakes_keeps (Kept.refl _ _) (Sub.refl _)).comes ((audioGives_keeps (Kept.refl _ _) (Sub.refl _)).comes
    ((shiftChans_keeps (Kept.refl _ _) (Sub.refl _)).comes (comes_atGrid (samplePeriod r) 0 (keyAudio r) d)))

theorem fadeCompletes_absent {j : Nat} (h : dstAt i d = none) : fadeCompletes i j d = d := by
  unfold fadeCompletes
  rw [h]

theorem fadeCompletes_idle {j c : Nat} {x : DstDesc} (hx : dstAt i d = some x) (hc : dstChan (dstPlace i d) x j = some c) (hf : (dchan c d).fade = 0) :
    fadeCompletes i j d = d := by
  unfold fadeCompletes
  simp [hx, hc, hf]

end Output

end Sys2Proof.Machine

namespace Sys2Proof
open Machine

/-- Settles O36: each output's instant is its grid's, and a family's state at its own boundary is decided by what it is there. -/
theorem outputsComeAtTheirGrids : Obligations.OutputsComeAtTheirGrids := by
  refine ⟨fun dst => ?_, fun rate => ?_, fun dst ch => ?_, fun fam reads => ?_⟩
  · refine carried_effect (fun _ => rfl) (fun _ _ => execSwitchPoint_keeps) (by decide +kernel)
      (fun d e ⟨h1, h2⟩ => ⟨h1, fun x off hx hoff hr => comes_quiet.mp (h2 x off hx hoff hr)⟩) fun _ d ho _ => ?_
    exact ⟨fun h => unchanged_of_eq ho (outputSwitch_absent h), fun x off hx hoff hr => comes_raises (outputSwitch_comes (switchPoint_comes hx hoff hr))⟩
  · refine carried_effect (fun _ => rfl) (fun _ _ => execAudioGridSample_keeps) (by decide +kernel) (fun d e h => comes_quiet.mp h) fun _ d _ _ => ?_
    exact comes_raises (audioSample_comes rate d)
  · refine carried_effect (fun _ => rfl) (fun _ _ => execCrossfadeComplete_keeps) (by decide +kernel) (fun _ _ h => h) fun _ d ho _ => ?_
    exact ⟨fun h => unchanged_of_eq ho (fadeCompletes_absent h), fun x c hx hc hf => unchanged_of_eq ho (fadeCompletes_idle hx hc hf)⟩
  · refine carried_effect (fun _ => rfl) (fun _ _ => execFrameBoundary_keeps) (by decide +kernel) (fun d e ⟨h1, h2⟩ => ⟨comes_quiet.mp h1, h2⟩) fun hw d _ _ => ?_
    simp only [Instr.wf, Bool.and_eq_true, List.all_eq_true, decide_eq_true_eq] at hw
    have hes := hw.2
    have hstate := frameBoundary_state (n := fam) (d := d) hes
    simp only [funcState_family] at hstate ⊢
    simp (disch := decide) only [rd_raises_off]
    exact ⟨comes_raises (frameBoundary_comes hes), hstate⟩

end Sys2Proof
end

section
set_option Elab.async false
set_option exponentiation.threshold 2048
/-! PROOFS. Digests, state transfer, masters and resynchronisation (O39, O54). -/

namespace Sys2Proof.Machine

/-! ### What stands of the faults -/

/-- The raw state and the grades of every source are as they were, whatever fired. -/
structure FaultsKept (d e : Dev) : Prop where
  raw : ∀ i, rd BLT_RAW_bits [i] e = rd BLT_RAW_bits [i] d
  sevs : ∀ i, rd BLT_SEV_sevs [i] e = rd BLT_SEV_sevs [i] d
  bad : e.blt.sevBad = d.blt.sevBad
  old : e.blt.sevOld = d.blt.sevOld

namespace FaultsKept
variable {d x e : Dev}

theorem refl (d : Dev) : FaultsKept d d := ⟨fun _ => rfl, fun _ => rfl, rfl, rfl⟩

theorem trans (h : FaultsKept d x) (g : FaultsKept x e) : FaultsKept d e :=
  ⟨fun i => (g.raw i).trans (h.raw i), fun i => (g.sevs i).trans (h.sevs i), g.bad.trans h.bad, g.old.trans h.old⟩

theorem kept {m : Nat} (h : FaultsKept d x) (hk : Kept m x e) (hb : Nat.land m 0x1000 = 0 := by decide)
    (hr : Nat.testBit m (33 + BLT_RAW_bits.no % 1024) = false := by decide) (hs : Nat.testBit m (33 + BLT_SEV_sevs.no % 1024) = false := by decide) :
    FaultsKept d e :=
  h.trans ⟨fun i => hk.rd _ _ hr, fun i => hk.rd _ _ hs, by rw [hk.blt hb], by rw [hk.blt hb]⟩

theorem of_regs (h : FaultsKept d x) (hr : e.regs = x.regs) (hb : e.blt = x.blt) : FaultsKept d e :=
  h.trans ⟨fun i => by rw [rd, rd, hr], fun i => by rw [rd, rd, hr], by rw [hb], by rw [hb]⟩

theorem wr {f : Fld} {ix : List Nat} {v : Nat} (h : FaultsKept d x) (hr : BLT_RAW_bits.no % 1024 ≠ f.no % 1024 := by decide)
    (hs : BLT_SEV_sevs.no % 1024 ≠ f.no % 1024 := by decide) : FaultsKept d (Machine.wr f ix v x) :=
  h.trans ⟨fun _ => rd_wr_off v x hr, fun _ => rd_wr_off v x hs, rfl, rfl⟩

theorem fire (n : Nat) (h : FaultsKept d x) : FaultsKept d (Machine.fire n x) :=
  h.trans ⟨fun _ => rd_fire_off n x (by decide) (by decide) (by decide), fun _ => rd_fire_off n x (by decide) (by decide) (by decide),
    (fire_grades n x).1, (fire_grades n x).2⟩

theorem ite {c : Prop} [Decidable c] {y : Dev} (hx : FaultsKept d x) (hy : FaultsKept d y) : FaultsKept d (if c then x else y) := by
  split
  · exact hx
  · exact hy

/-- A firing of the device found sets the sticky bit. -/
theorem fired (n : Nat) (h : FaultsKept d x) : Fired n d (Machine.fire n x) :=
  fired_fire (by rw [rawOf, rawOf, rdBit, rdBit, h.raw]) (severityOf_of_grades h.bad h.old h.sevs)

end FaultsKept

/-- What holds of either outcome holds of the choice. -/
theorem ite_holds {α : Type} {P : α → Prop} {c : Prop} [Decidable c] {x y : α} (hx : P x) (hy : P y) : P (if c then x else y) := by
  split
  · exact hx
  · exact hy

/-! ### A digest that has not come -/

/-- What the limit does to one link. -/
def digestLate (n : Nat) (d : Dev) : Dev :=
  if rdB SEA_LINK_ST_up [n] d && !(seaLink n d).digestSeen then
    let d := setSeaLink n { seaLink n d with digestSeen := true } d
    fire 245 (count SEA_DIGEST_CNT_mismatches [] 1 (wr SEA_STATUS_mismatch [] 1 (wr SEA_LINK_ST_digest_ok [n] 0 d)))
  else d

theorem digestTimeout_eq {d : Dev} (ht : tabGet 0 d.lastAt 3 ≠ 0) (hr : roleOf d ≠ 0) :
    digestTimeout d = forUpTo 24 digestLate (advanceTo (tabGet 0 d.lastAt 3 + unitsOfNib 5292000) d) := by
  unfold digestTimeout
  rw [if_neg (by simp [ht, hr])]
  rfl

section DigestLate
variable {n k : Nat} {d : Dev}

/-- A link whose partner's digest has not come. -/
def awaitsDigest (n : Nat) (d : Dev) : Prop := rdB SEA_LINK_ST_up [n] d = true ∧ (seaLink n d).digestSeen = false

theorem digestLate_of_awaits (h : awaitsDigest n d) : digestLate n d = fire 245 (count SEA_DIGEST_CNT_mismatches [] 1 (wr SEA_STATUS_mismatch [] 1
    (wr SEA_LINK_ST_digest_ok [n] 0 (setSeaLink n { seaLink n d with digestSeen := true } d)))) := by
  unfold digestLate
  exact if_pos (by simp [h.1, h.2])

theorem digestLate_of_not (h : ¬ awaitsDigest n d) : digestLate n d = d := by
  unfold digestLate
  refine if_neg fun hc => h ?_
  simpa [awaitsDigest] using hc

@[simp] theorem rd_setSeaLink (f : Fld) (ix : List Nat) (n : Nat) (x : SeaLink) (d : Dev) : rd f ix (setSeaLink n x d) = rd f ix d := rfl

theorem seaLink_setSeaLink_ne {x : SeaLink} (h : k ≠ n) : seaLink k (setSeaLink n x d) = seaLink k d := tabGet_set_ne _ _ _ h

theorem digestLate_shows (h : awaitsDigest n d) :
    rd SEA_LINK_ST_digest_ok [n] (digestLate n d) = 0 ∧ rd SEA_STATUS_mismatch [] (digestLate n d) = 1 := by
  rw [digestLate_of_awaits h]
  exact ⟨by simp (disch := decide) [rd_wr_same], by simp (disch := decide) [rd_wr_same]⟩

/-- What stands of another link, and what a late link left, is left by the next. -/
structure DigestLeft (d e : Dev) : Prop where
  up : ∀ k, rd SEA_LINK_ST_up [k] e = rd SEA_LINK_ST_up [k] d
  faults : FaultsKept d e
  ok : ∀ k, rd SEA_LINK_ST_digest_ok [k] d = 0 → rd SEA_LINK_ST_digest_ok [k] e = 0
  mismatch : rd SEA_STATUS_mismatch [] d = 1 → rd SEA_STATUS_mismatch [] e = 1
  sticky : stickyOf 245 d = true → stickyOf 245 e = true

theorem digestLate_left (n : Nat) (d : Dev) : DigestLeft d (digestLate n d) := by
  by_cases h : awaitsDigest n d
  · rw [digestLate_of_awaits h]
    refine ⟨fun k => by simp (disch := decide), ?_, fun k hk => ?_, fun _ => by simp (disch := decide) [rd_wr_same], ?_⟩
    · exact .fire 245 (.wr (.wr (.wr (.of_regs (.refl d) rfl rfl))))
    · by_cases he : k = n
      · subst he; simp (disch := decide) [rd_wr_same]
      · simp (disch := decide) [rd_wr_index (f := SEA_LINK_ST_digest_ok) _ _ (by decide) he, hk]
    · exact fun h => (fire_only_kept _ _).sticky (by decide) 245 (by decide) (by simpa (disch := decide) [stickyOf, rdBit] using h)
  · rw [digestLate_of_not h]
    exact ⟨fun _ => rfl, .refl d, fun _ h => h, id, id⟩

theorem seaLink_digestLate (h : k ≠ n) : seaLink k (digestLate n d) = seaLink k d := by
  by_cases ha : awaitsDigest n d
  · rw [digestLate_of_awaits ha, seaLink, (fire_only_kept _ _).sea (by decide)]
    exact seaLink_setSeaLink_ne h
  · rw [digestLate_of_not ha]

/-- After the limit has run over the links below `n`, those that awaited a digest show it. -/
structure DigestsLate (n : Nat) (d e : Dev) : Prop where
  up : ∀ k, rd SEA_LINK_ST_up [k] e = rd SEA_LINK_ST_up [k] d
  link : ∀ k, n ≤ k → seaLink k e = seaLink k d
  faults : FaultsKept d e
  late : ∀ k < n, awaitsDigest k d → rd SEA_LINK_ST_digest_ok [k] e = 0 ∧ rd SEA_STATUS_mismatch [] e = 1 ∧ Fired 245 d e

theorem digestsLate (n : Nat) (d : Dev) : DigestsLate n d (forUpTo n digestLate d) := by
  induction n with
  | zero => exact ⟨fun _ => rfl, fun _ _ => rfl, .refl d, fun k hk => absurd hk (Nat.not_lt_zero k)⟩
  | succ n ih =>
    have hleft := digestLate_left n (forUpTo n digestLate d)
    refine ⟨fun k => (hleft.up k).trans (ih.up k), fun k hk => (seaLink_digestLate (by omega)).trans (ih.link k (by omega)), ih.faults.trans hleft.faults,
      fun k hk haw => ?_⟩
    by_cases he : k = n
    · subst he
      have haw' : awaitsDigest k (forUpTo k digestLate d) := ⟨by rw [rdB, ih.up k]; exact haw.1, by rw [ih.link k (Nat.le_refl k)]; exact haw.2⟩
      obtain ⟨hok, hmis⟩ := digestLate_shows haw'
      refine ⟨hok, hmis, ?_⟩
      show Fired 245 d (digestLate k (forUpTo k digestLate d))
      rw [digestLate_of_awaits haw']
      exact FaultsKept.fired 245 (.wr (.wr (.wr (ih.faults.of_regs rfl rfl))))
    · obtain ⟨hok, hmis, hfired⟩ := ih.late k (by omega) haw
      exact ⟨hleft.ok k hok, hleft.mismatch hmis, fun hl hr hs => hleft.sticky (hfired hl hr hs)⟩

theorem awaitsDigest_advanceTo (t : Nat) : awaitsDigest k (advanceTo t d) ↔ awaitsDigest k d := by
  have hsea : (advanceTo t d).sea = d.sea := (advanceTo_keeps (Kept.refl _ d) (Sub.refl _)).sea (by decide)
  simp only [awaitsDigest, rdB, rd_advanceTo, seaLink, hsea]

theorem faultsKept_advanceTo (t : Nat) (d : Dev) : FaultsKept d (advanceTo t d) :=
  (FaultsKept.refl d).kept (advanceTo_keeps (Kept.refl _ d) (Sub.refl _))

theorem faultsKept_advanceDev (t : Nat) (d : Dev) : FaultsKept d (advanceDev t d) :=
  (FaultsKept.refl d).kept (advanceDev_keeps (Kept.refl _ d) (Sub.refl _))

/-- A firing of a device on which the faults stand as they did is one of the device found. -/
theorem FaultsKept.of_fired {x e : Dev} (h : FaultsKept d x) (hf : Fired n x e) : Fired n d e := fun hl hr hs =>
  hf hl (by rw [← hr, rawOf, rawOf, rdBit, rdBit, h.raw]) (by rw [severityOf_of_grades h.bad h.old h.sevs]; exact hs)

theorem digestLate_comes {t : Nat} {x : Dev} (h : Comes t d x) : Comes t d (digestLate n x) := by
  by_cases ha : awaitsDigest n x
  · rw [digestLate_of_awaits ha]
    refine (fire_only_kept 245 _).comes ?_
    exact h
  · rw [digestLate_of_not ha]; exact h

theorem digestTimeout_comes (ht : tabGet 0 d.lastAt 3 ≠ 0) (hr : roleOf d ≠ 0) :
    Comes (tabGet 0 d.lastAt 3 + unitsOfNib 5292000) d (digestTimeout d) := by
  rw [digestTimeout_eq ht hr]
  exact forUpTo_holds (P := Comes _ d) (comes_advanceTo _ d) fun _ _ h => digestLate_comes h

theorem digestTimeout_shows (ht : tabGet 0 d.lastAt 3 ≠ 0) (hr : roleOf d ≠ 0) (hk : k < 24) (haw : awaitsDigest k d) :
    rd SEA_LINK_ST_digest_ok [k] (digestTimeout d) = 0 ∧ rd SEA_STATUS_mismatch [] (digestTimeout d) = 1 ∧ Fired 245 d (digestTimeout d) := by
  rw [digestTimeout_eq ht hr]
  obtain ⟨hok, hmis, hfired⟩ := (digestsLate 24 (advanceTo (tabGet 0 d.lastAt 3 + unitsOfNib 5292000) d)).late k hk ((awaitsDigest_advanceTo _).mpr haw)
  exact ⟨hok, hmis, (faultsKept_advanceTo _ d).of_fired hfired⟩

end DigestLate

theorem comes_setSeaLink {t : Nat} {d x : Dev} (n : Nat) (l : SeaLink) (h : Comes t d x) : Comes t d (setSeaLink n l x) := h

theorem digestSnapshot_comes (d : Dev) : Comes (nextGrid 5292000000 0 3 d) d (digestSnapshot d) := by
  have ha : Comes (nextGrid 5292000000 0 3 d) d (atGrid 5292000000 0 3 d) := comes_atGrid _ _ _ d
  unfold digestSnapshot
  generalize nextGrid 5292000000 0 3 d = t at ha ⊢
  generalize atGrid 5292000000 0 3 d = a at ha ⊢
  refine ite_holds ha ?_
  extract_lets snap sea
  split
  split
  extract_lets v shown cleared sent
  have hshown : Comes t d shown := comes_wr (comes_wr (comes_with_sea ha))
  clear_value shown
  have hcleared : Comes t d cleared := forUpTo_holds (P := Comes t d) hshown fun n x hx => ite_holds (comes_setSeaLink n _ hx) hx
  clear_value cleared
  have hsent : Comes t d sent := (sendAllBut_keeps (Kept.refl _ cleared) (Sub.refl _)).comes hcleared
  clear_value sent
  refine forUpTo_holds (P := Comes t d) hsent fun n x hx => ?_
  split
  · exact ite_holds ((compareDigest_keeps (Kept.refl _ _) (Sub.refl _)).comes (comes_setSeaLink n _ hx)) hx
  · exact hx

/-! ### State transfer, resynchronisation and handover -/

section Transfer
variable {d : Dev}

theorem sendMsg_transfer (n : Nat) (b : SeaBody) (d : Dev) : (sendMsg n b d).sea.transfer = d.sea.transfer := by
  unfold sendMsg
  split <;> rfl

theorem askState_stays (h : d.sea.transfer ≠ 0 ∨ roleOf d = 0 ∨ selfActing d = true) : askState d = d := by
  unfold askState
  exact if_pos (by simpa [or_assoc] using h)

theorem askState_asks (h1 : d.sea.transfer = 0) (h2 : roleOf d ≠ 0) (h3 : selfActing d = false) {up : Nat} (hup : towardsMaster d = some up) :
    (askState d).sea.transfer = 1 := by
  unfold askState
  rw [if_neg (by simp [h1, h2, h3]), hup]
  exact sendMsg_transfer _ _ _

theorem resyncFails_shows (d : Dev) : rd SEA_CMD_ST_resync_fail [] (resyncFails d) = 1 ∧ (resyncFails d).sea.transfer = 0 ∧ (resyncFails d).sea.image = none :=
  ⟨rd_wr_same _ _ _ _, rfl, rfl⟩

theorem resync_eq (h1 : d.sea.transfer = 0) (h2 : roleOf d ≠ 0) (h3 : selfActing d = false) :
    (towardsMaster d = none → resync d = resyncFails d) ∧ (∀ up, towardsMaster d = some up → resync d = askState d) := by
  unfold resync
  exact ⟨fun h => if_pos (by simp [h1, h2, h3, h]), fun up h => if_neg (by simp [h])⟩

theorem resync_stays (h : roleOf d = 0 ∨ selfActing d = true ∨ d.sea.transfer ≠ 0) : resync d = d := by
  unfold resync
  rw [if_neg (by rcases h with h | h | h <;> simp [h]), askState_stays (h.elim (fun h => .inr (.inl h)) fun h => h.elim (fun h => .inr (.inr h)) .inl)]

theorem timeValidExpiry_stays (h : selfActing d = true ∨ d.sea.sendValid = false ∨ seamSelected d = true) : timeValidExpiry d = d := by
  unfold timeValidExpiry
  exact if_pos (by rcases h with h | h | h <;> simp [h])

theorem timeValidExpiry_eq (h1 : selfActing d = false) (h2 : d.sea.sendValid = true) (h3 : seamSelected d = false) :
    timeValidExpiry d = { advanceDev (d.sea.seamAt + rd SEA_TIMING_hold_ms [] d * msUnits) d with
      sea := { (advanceDev (d.sea.seamAt + rd SEA_TIMING_hold_ms [] d * msUnits) d).sea with sendValid := false } } := by
  unfold timeValidExpiry
  exact if_neg (by simp [h1, h2, h3])

theorem resyncApply_idle (h : d.sea.transfer = 0) : resyncApply d = d := by
  unfold resyncApply
  simp only [h]

theorem resyncApply_waits (h : d.sea.transfer ≠ 0) (hi : d.sea.image = none) : resyncApply d =
    if (towardsMaster d).isNone || !rdB SEA_LINK_ST_up [rd SEA_TIME_upstream [] d] d then resyncFails d else d := by
  unfold resyncApply
  obtain ⟨k, hk⟩ := Nat.exists_eq_succ_of_ne_zero h
  simp only [hk, hi]

theorem resyncApply_old {img : StateImage} (h : d.sea.transfer ≠ 0) (hi : d.sea.image = some img)
    (hl : img.index + 4096 < d.sea.waits.foldl (fun m x => max m x.1) 0) : resyncApply d = resyncFails d := by
  unfold resyncApply
  obtain ⟨k, hk⟩ := Nat.exists_eq_succ_of_ne_zero h
  simp only [hk, hi]
  exact if_pos hl

theorem handoverAsked_eq (h1 : roleOf d = 3) (h2 : selfActing d = true) : handoverAsked d = { d with sea := { d.sea with handover := true } } := by
  unfold handoverAsked
  exact if_pos (by simp [h1, h2])

theorem handoverAsked_stays (h : roleOf d ≠ 3 ∨ selfActing d = false) : handoverAsked d = d := by
  unfold handoverAsked
  exact if_neg (by rcases h with h | h <;> simp [h])

end Transfer

/-! ### Takeover -/

theorem faultsKept_raiseIrq (v : Nat) (d : Dev) : FaultsKept d (raiseIrq v d) := (FaultsKept.refl d).kept (raiseIrq_keeps (Kept.refl _ d) (Sub.refl _))

theorem faultsKept_notExecuted {d x : Dev} (b tag : Nat) (h : FaultsKept d x) : FaultsKept d (notExecuted b tag x) := by
  unfold notExecuted withRes
  extract_lets written told
  have htold : FaultsKept d told := by
    have hwr : FaultsKept d written := .wr (.wr h)
    exact hwr.ite (hwr.trans (faultsKept_raiseIrq 0 _))
  exact .fire 65 (.wr (.wr (.wr htold)))

theorem faultsKept_followMaster (m : Nat) (d : Dev) : FaultsKept d (followMaster m d) := by
  have hlose : ∀ x, FaultsKept d x → FaultsKept d (loseForwarded x) := fun x hx =>
    forUpTo_holds (P := FaultsKept d) hx fun b y hy => (faultsKept_notExecuted b _ hy).ite hy
  have hup : ∀ x, FaultsKept d x → FaultsKept d (chooseUpstream x) := fun x hx => hx.kept (chooseUpstream_keeps (Kept.refl _ x) (Sub.refl _))
  unfold followMaster
  exact (FaultsKept.refl d).ite (hup _ (hlose _ (.wr (.wr (.wr (.refl d))))))

theorem followMaster_acting {m : Nat} (d : Dev) (hm : m < 2 ^ SEA_TIME_acting.w) : rd SEA_TIME_acting [] (followMaster m d) = m := by
  unfold followMaster
  split
  · assumption
  · rw [(chooseUpstream_keeps (Kept.refl _ _) (Sub.refl _)).rd _ _ (by decide), (loseForwarded_keeps (Kept.refl _ _) (Sub.refl _)).rd _ _ (by decide), rd_wr_same]
    exact Nat.mod_eq_of_lt hm

section Takeover
variable {d : Dev}

theorem takeover_stays (h : roleOf d ≠ 3 ∨ selfActing d = true ∨ rdB RUL_STATUS_time_set [] d = false) : takeover d = d := by
  unfold takeover
  exact if_pos (by rcases h with h | h | h <;> simp [h])

/-- The standby as the acting master, before what it does on a wait for the fabric. -/
def actsAsMaster (d : Dev) : Dev :=
  let x := fire 247 (followMaster (selfMember d) d)
  { x with sea := { x.sea with transfer := 0, image := none, waits := [], gapAt := 0 } }

/-- The instant of a takeover: the master has been silent for takeover_ms. -/
def takeoverInstant (d : Dev) : Dev := advanceDev (d.sea.advancedAt + rd SEA_TIMING_takeover_ms [] d * msUnits) d

/-- A member that was waiting for the fabric starts up from its own settings. -/
def servesAgain (d : Dev) : Dev :=
  let d := wr TOP_BOOT_ST_phase [] 5 (startUp true d)
  { d with boot := { d.boot with configuredAt := d.devTime } }

theorem servesAgain_passes {t : Nat} {x : Dev} (h : Passes t d x) : Passes t d (servesAgain x) := by
  have hs := (startUp_keeps (restore := true) (Kept.refl _ x) (Sub.refl _)).passes h
  unfold servesAgain
  generalize startUp true x = y at hs ⊢
  exact hs

theorem servesAgain_fired {n : Nat} {x : Dev} (h : Fired n d x) (hn : n < 2048 := by decide) : Fired n d (servesAgain x) := by
  have hs := h.kept (startUp_keeps (restore := true) (Kept.refl _ x) (Sub.refl _)) hn
  unfold servesAgain
  generalize startUp true x = y at hs ⊢
  intro hl hr hg
  rw [← hs hl hr hg]
  exact congrArg (Nat.testBit · (n % 32)) (rd_wr_off (f := TOP_BOOT_ST_phase) (ix := []) (g := BLT_STICKY_bits) (jx := [n / 32]) 5 y (by decide))

theorem takeover_eq (h1 : roleOf d = 3) (h2 : selfActing d = false) (h3 : rdB RUL_STATUS_time_set [] d = true) :
    takeover d = if rd TOP_BOOT_ST_phase [] (takeoverInstant d) == 10 then servesAgain (actsAsMaster (takeoverInstant d))
      else actsAsMaster (takeoverInstant d) := by
  unfold takeover takeoverInstant
  rw [if_neg (by simp [h1, h2, h3])]
  generalize advanceDev (d.sea.advancedAt + rd SEA_TIMING_takeover_ms [] d * msUnits) d = x
  unfold servesAgain actsAsMaster
  simp only []

theorem actsAsMaster_fired (d : Dev) : Fired 247 d (actsAsMaster d) := (faultsKept_followMaster (selfMember d) d).fired 247

theorem actsAsMaster_passes {t : Nat} {x : Dev} (h : Passes t d x) : Passes t d (actsAsMaster x) := by
  have hf := (fire_only_kept 247 _).passes ((followMaster_keeps (m := selfMember x) (Kept.refl _ x) (Sub.refl _)).passes h)
  exact hf

theorem actsAsMaster_acting (h : selfMember d < 2 ^ SEA_TIME_acting.w) : rd SEA_TIME_acting [] (actsAsMaster d) = selfMember d := by
  show rd SEA_TIME_acting [] (fire 247 (followMaster (selfMember d) d)) = _
  rw [rd_fire_off _ _ (by decide) (by decide) (by decide), followMaster_acting _ h]

theorem takeover_acts (h1 : roleOf d = 3) (h2 : selfActing d = false) (h3 : rdB RUL_STATUS_time_set [] d = true) :
    Passes (d.sea.advancedAt + rd SEA_TIMING_takeover_ms [] d * msUnits) d (takeover d) ∧ Fired 247 d (takeover d) ∧
    (rd TOP_BOOT_ST_phase [] d ≠ 10 → selfMember d < 2 ^ SEA_TIME_acting.w → rd SEA_TIME_acting [] (takeover d) = selfMember d) := by
  have hat : Passes (d.sea.advancedAt + rd SEA_TIMING_takeover_ms [] d * msUnits) d (actsAsMaster (takeoverInstant d)) :=
    actsAsMaster_passes (passes_advanceDev _ d)
  have hfired : Fired 247 d (actsAsMaster (takeoverInstant d)) := (faultsKept_advanceDev _ d).of_fired (actsAsMaster_fired _)
  have hphase : rd TOP_BOOT_ST_phase [] (takeoverInstant d) = rd TOP_BOOT_ST_phase [] d := rd_advanceDev _ _ _ d
  have hmember : selfMember (takeoverInstant d) = selfMember d := rd_advanceDev _ _ _ d
  have hacting : selfMember d < 2 ^ SEA_TIME_acting.w → rd SEA_TIME_acting [] (actsAsMaster (takeoverInstant d)) = selfMember d := fun h =>
    (actsAsMaster_acting (hmember.symm ▸ h)).trans hmember
  rw [takeover_eq h1 h2 h3, hphase]
  generalize actsAsMaster (takeoverInstant d) = x at hat hfired hacting
  generalize d.sea.advancedAt + rd SEA_TIMING_takeover_ms [] d * msUnits = t at hat ⊢
  split
  · next h10 => exact ⟨servesAgain_passes hat, servesAgain_fired hfired, fun hne => absurd (by simpa using h10) hne⟩
  · exact ⟨hat, hfired, fun _ hm => hacting hm⟩

end Takeover

end Sys2Proof.Machine

namespace Sys2Proof
open Machine

/-- Settles O39: the limit runs over the links one by one, and a later link leaves what an earlier one left. -/
theorem digestsAndStateTransfer : Obligations.DigestsAndStateTransfer := by
  refine ⟨⟨?_, ?_⟩, ?_⟩
  · refine carried_effect (fun _ => rfl) (fun _ _ => execDigestSnapshot_keeps) (by decide +kernel) (fun d e h => comes_quiet.mp h) fun _ d _ _ => ?_
    exact comes_raises (digestSnapshot_comes d)
  · refine carried_effect (fun _ => rfl) (fun _ _ => execDigestTimeout_keeps) (by decide +kernel)
      (fun d e ⟨h1, h2⟩ => ⟨h1, fun ht hr => ⟨comes_quiet.mp (h2 ht hr).1, (h2 ht hr).2⟩⟩) fun _ d ho _ => ?_
    refine ⟨fun h => unchanged_of_eq ho ?_, fun ht hr => ⟨comes_raises (digestTimeout_comes ht hr), fun n hn hup hseen => ?_⟩⟩
    · unfold digestTimeout
      exact if_pos (by simpa using h)
    · obtain ⟨hok, hmis, hfired⟩ := digestTimeout_shows ht hr hn ⟨hup, hseen⟩
      simp (disch := decide) only [rd_raises_off]
      exact ⟨hok, hmis, fired_raises hfired⟩
  · refine carried_effect (fun _ => rfl) (fun _ _ => execStateTransferStart_keeps) (by decide +kernel) (fun _ _ h => h) fun _ d ho _ => ?_
    exact ⟨fun h => unchanged_of_eq ho (askState_stays h), fun h1 h2 h3 up hup => by rw [raises_sea]; exact askState_asks h1 h2 h3 hup⟩

/-- Settles O54: each command's conditions decide whether it does anything; a takeover fires before what it restores. -/
theorem mastersAndResynchronisation : Obligations.MastersAndResynchronisation := by
  refine ⟨?_, ?_, ?_, ?_, ?_⟩
  · refine carried_effect (fun _ => rfl) (fun _ _ => execTakeover_keeps) (by decide +kernel)
      (fun d e ⟨h1, h2⟩ => ⟨h1, fun hr hs ht => ⟨passes_quiet.mp (h2 hr hs ht).1, (h2 hr hs ht).2⟩⟩) fun _ d ho _ => ?_
    refine ⟨fun h => unchanged_of_eq ho (takeover_stays h), fun h1 h2 h3 => ?_⟩
    obtain ⟨hpass, hfired, hacting⟩ := takeover_acts h1 h2 h3
    rw [rd_raises_off _ _ (by decide)]
    exact ⟨passes_raises hpass, fired_raises hfired, hacting⟩
  · refine carried_effect (fun _ => rfl) (fun _ _ => execTimeValidExpiry_keeps) (by decide +kernel)
      (fun d e ⟨h1, h2⟩ => ⟨h1, fun hr hs ht => ⟨passes_quiet.mp (h2 hr hs ht).1, (h2 hr hs ht).2⟩⟩) fun _ d ho _ => ?_
    refine ⟨fun h => unchanged_of_eq ho (timeValidExpiry_stays h), fun h1 h2 h3 => ?_⟩
    rw [timeValidExpiry_eq h1 h2 h3]
    have hp := passes_advanceDev (d.sea.seamAt + rd SEA_TIMING_hold_ms [] d * msUnits) d
    generalize advanceDev (d.sea.seamAt + rd SEA_TIMING_hold_ms [] d * msUnits) d = x at hp ⊢
    exact ⟨passes_raises hp, by rw [raises_sea]⟩
  · refine carried_effect (fun _ => rfl) (fun _ _ => execResync_keeps) (by decide +kernel) (fun _ _ h => h) fun _ d ho _ => ?_
    refine ⟨fun h => unchanged_of_eq ho (resync_stays h), fun h1 h2 h3 => ⟨fun hn => ?_, fun up hup => ?_⟩⟩
    · obtain ⟨hfail, htr, -⟩ := resyncFails_shows d
      rw [(resync_eq h3 h1 h2).1 hn, rd_raises_off _ _ (by decide), raises_sea]
      exact ⟨hfail, htr⟩
    · rw [(resync_eq h3 h1 h2).2 up hup, raises_sea]
      exact askState_asks h3 h1 h2 hup
  · refine carried_effect (fun _ => rfl) (fun _ _ => execResyncApply_keeps) (by decide +kernel) (fun _ _ h => h) fun _ d ho _ => ?_
    obtain ⟨hfail, htr, himg⟩ := resyncFails_shows d
    refine ⟨fun h => unchanged_of_eq ho (resyncApply_idle h), fun h hi gone hg => ⟨fun hgone => ?_, fun hgone => unchanged_of_eq ho ?_⟩, fun img h hi hl => ?_⟩
    · rw [resyncApply_waits h hi, if_pos (hg ▸ hgone), rd_raises_off _ _ (by decide), raises_sea]
      exact ⟨hfail, htr⟩
    · rw [resyncApply_waits h hi, if_neg (by rw [← hg, hgone]; decide)]
    · rw [resyncApply_old h hi hl, rd_raises_off _ _ (by decide), raises_sea]
      exact ⟨hfail, htr, himg⟩
  · refine carried_effect (fun _ => rfl) (fun _ _ => execHandover_keeps) (by decide +kernel) (fun _ _ h => h) fun _ d ho _ => ?_
    exact ⟨fun h1 h2 => by rw [handoverAsked_eq h1 h2, raises_sea], fun h => unchanged_of_eq ho (handoverAsked_stays h)⟩

end Sys2Proof
end

section
set_option Elab.async false
set_option exponentiation.threshold 2048
/-! PROOFS. Layer commits (O40). -/

namespace Sys2Proof.Machine

section Commit
variable {l : Nat} {d : Dev}

theorem layerDone_shows (l code : Nat) (d : Dev) : rd QLT_LAYER_RES_state [l] (layerDone l code d) = 2 ∧
    rd QLT_LAYER_RES_code [l] (layerDone l code d) = code % 2 ^ QLT_LAYER_RES_code.w := by
  have hrun : ∀ (f : Fld) (ix : List Nat) x, rd f ix (setLayerRun l x (wr QLT_LAYER_RES_state [l] 2 (wr QLT_LAYER_RES_code [l] code d))) =
      rd f ix (wr QLT_LAYER_RES_state [l] 2 (wr QLT_LAYER_RES_code [l] code d)) := fun _ _ _ => rfl
  unfold layerDone
  simp only []
  rw [rd_raiseIrq_off _ _ (by decide), rd_raiseIrq_off _ _ (by decide), hrun, hrun, rd_wr_same, rd_wr_off _ _ (by decide), rd_wr_same]
  exact ⟨rfl, rfl⟩

theorem layerCommit_reserved (h : layerReserved l d = true) : layerCommit l d = wr QLT_STATUS_rej_write [] 1 d := by
  unfold layerCommit
  exact if_pos h

theorem layerCommit_busy (h : layerReserved l d = false) (hp : layerPending l d = true) :
    layerCommit l d = fire 197 (wr QLT_STATUS_busy [] 1 d) := by
  unfold layerCommit
  rw [if_neg (by simp [h]), if_pos hp]

theorem layerCommit_safe (h : layerReserved l d = false) (hp : layerPending l d = false) (hs : inSafe d = true) :
    layerCommit l d = layerDone l 1 d := by
  unfold layerCommit
  rw [if_neg (by simp [h]), if_neg (by simp [hp]), if_pos hs]

/-- A commit that is taken shows as pending, its code 0. -/
theorem layerCommit_taken (h : layerReserved l d = false) (hp : layerPending l d = false) (hs : inSafe d = false) :
    rd QLT_LAYER_RES_state [l] (layerCommit l d) = 1 ∧ rd QLT_LAYER_RES_code [l] (layerCommit l d) = 0 := by
  have hregs : (layerCommit l d).regs = (wr QLT_LAYER_RES_state [l] 1 (wr QLT_LAYER_RES_code [l] 0 d)).regs := by
    unfold layerCommit
    rw [if_neg (by simp [h]), if_neg (by simp [hp]), if_neg (by simp [hs])]
    simp only []
    split <;> rfl
  have hrd : ∀ (f : Fld) (ix : List Nat), rd f ix (layerCommit l d) = rd f ix (wr QLT_LAYER_RES_state [l] 1 (wr QLT_LAYER_RES_code [l] 0 d)) :=
    fun f ix => by rw [rd, rd, hregs]
  rw [hrd, hrd, rd_wr_same, rd_wr_off _ _ (by decide), rd_wr_same]
  exact ⟨rfl, rfl⟩

theorem commitLanding_stays (h : layerPending l d = false ∨ (layerRun l d).input = true) : commitLanding l d = d := by
  unfold commitLanding
  exact if_pos (by rcases h with h | h <;> simp [h])

/-- A landing on a layer of no head. -/
theorem commitLanding_headless (hp : layerPending l d = true) (hi : (layerRun l d).input = false) (hh : layerHead l d = none) :
    commitLanding l d = if inSafe d then layerDone l 1 d else landCommit l (advanceTo (unitsOfNib (layerRun l d).latch) d) := by
  unfold commitLanding
  rw [if_neg (by simp [hp, hi]), hh]

end Commit

end Sys2Proof.Machine

namespace Sys2Proof
open Machine

/-- Settles O40: a commit meets its conditions in the order reserved, pending, safe state. -/
theorem layerCommits : Obligations.LayerCommits := by
  refine ⟨fun layer => ?_, fun layer => ?_⟩
  · refine carried_effect (fun _ => rfl) (fun _ _ => execCommit_keeps) (by decide +kernel) (fun _ _ h => h) fun _ d _ _ => ?_
    simp (disch := decide) only [rd_raises_off]
    refine ⟨fun h => ?_, fun h hp => ?_, fun h hp hs => ?_, fun h hp hs => layerCommit_taken h hp hs⟩
    · rw [layerCommit_reserved h]
      exact ⟨rd_wr_same _ _ _ _, rd_wr_off _ _ (by decide)⟩
    · rw [layerCommit_busy h hp]
      refine ⟨by simp (disch := decide) [rd_wr_same], by simp (disch := decide), fired_raises ?_⟩
      exact FaultsKept.fired 197 (.wr (.refl d))
    · rw [layerCommit_safe h hp hs]
      exact layerDone_shows layer 1 d
  · refine carried_effect (fun _ => rfl) (fun _ _ => execCommitLanding_keeps) (by decide +kernel)
      (fun d e ⟨h1, h2⟩ => ⟨h1, fun hp hi hh => ⟨(h2 hp hi hh).1, fun hs => comes_quiet.mp ((h2 hp hi hh).2 hs)⟩⟩) fun _ d ho _ => ?_
    refine ⟨fun h => unchanged_of_eq ho (commitLanding_stays h), fun hp hi hh => ⟨fun hs => ?_, fun hs => comes_raises ?_⟩⟩
    · rw [commitLanding_headless hp hi hh, if_pos hs, rd_raises_off _ _ (by decide), rd_raises_off _ _ (by decide)]
      exact layerDone_shows layer 1 d
    · rw [commitLanding_headless hp hi hh, if_neg (by simp [hs])]
      exact (landCommit_keeps (Kept.refl _ _) (Sub.refl _)).comes (comes_advanceTo _ d)

end Sys2Proof
end

section
set_option Elab.async false
set_option exponentiation.threshold 2048
/-! PROOFS. Losses of sources, and SDI payload identifiers (O44). -/

namespace Sys2Proof.Machine

/-! ### The faults at a loss -/

section Loss
variable {d x : Dev}

theorem FaultsKept.count {f : Fld} {ix : List Nat} {n : Nat} (h : FaultsKept d x) (hr : BLT_RAW_bits.no % 1024 ≠ f.no % 1024 := by decide)
    (hs : BLT_SEV_sevs.no % 1024 ≠ f.no % 1024 := by decide) : FaultsKept d (Machine.count f ix n x) := .wr h hr hs

theorem FaultsKept.declareDst (i : Nat) (h : FaultsKept d x) : FaultsKept d (declareDst i x) := by
  unfold Machine.declareDst
  exact FaultsKept.ite h (.fire 66 (.count (.wr (h.of_regs rfl rfl))))

theorem FaultsKept.declareLoss (n : Nat) (h : FaultsKept d x) : FaultsKept d (declareLoss n x) := by
  unfold Machine.declareLoss
  refine FaultsKept.ite h ?_
  have hstop : ∀ y, FaultsKept d y → FaultsKept d (stopSource n (markSlots n true y)) := fun y hy =>
    (hy.kept (markSlots_keeps (Kept.refl _ y) (Sub.refl _))).kept (stopSource_keeps (Kept.refl _ _) (Sub.refl _))
  refine forEach_holds (P := FaultsKept d) (hstop _ (h.of_regs rfl rfl)) fun t y hy => ?_
  extract_lets run shown
  have hshown : FaultsKept d shown := FaultsKept.ite (hy.of_regs rfl rfl) hy
  clear_value shown
  exact FaultsKept.ite ((FaultsKept.declareDst t.index hshown).kept (startFill_keeps (Kept.refl _ _) (Sub.refl _))) hshown

theorem FaultsKept.leavePresent (n src : Nat) (h : FaultsKept d x) : FaultsKept d (leavePresent n src x) := by
  unfold Machine.leavePresent
  refine FaultsKept.ite ?_ h
  extract_lets counted fired cleared
  have hcounted : FaultsKept d counted := .count (.wr (.wr h))
  have hfired : FaultsKept d fired := FaultsKept.ite (hcounted.fire 112) hcounted
  clear_value fired
  have hcleared : FaultsKept d cleared := .wr hfired
  clear_value cleared
  exact FaultsKept.declareLoss src (hcleared.of_regs rfl rfl)

theorem FaultsKept.enterState (n src st : Nat) (h : FaultsKept d x) : FaultsKept d (enterState n src st x) := by
  unfold Machine.enterState
  extract_lets left r fresh
  have hleft : FaultsKept d left := FaultsKept.leavePresent n src h
  clear_value left
  have hfresh : FaultsKept d fresh := hleft.of_regs rfl rfl
  clear_value fresh
  exact .wr (FaultsKept.ite hfresh (.wr hfresh))

end Loss

/-! ### SDI inputs -/

section Sdi
variable {n l : Nat} {d : Dev}

theorem inState_enterState (src st : Nat) (d : Dev) (h : st < 8) : inState n (enterState n src st d) = st := by
  unfold enterState inState
  rw [rd_wr_same]
  exact Nat.mod_eq_of_lt h

/-- An input that is not in mismatch goes there with the cause of it. -/
theorem mismatch_shows {src cause : Nat} (hst : inState n d ≠ 4) (hn : n < 192) :
    inState n (mismatch n src cause d) = 4 ∧ rd SDI_IN_ST_cause [n] (mismatch n src cause d) = cause % 2 ^ SDI_IN_ST_cause.w ∧
    rd SDI_IN_STICKY_mismatch [n] (mismatch n src cause d) = 1 ∧ Fired 113 d (mismatch n src cause d) := by
  have heq : mismatch n src cause d = fire 113 (wr SDI_IN_STICKY_mismatch [n] 1 (wr SDI_IN_ST_cause [n] cause (enterState n src 4 d))) := by
    unfold mismatch
    rw [if_neg hst]
    exact if_pos hn
  have hent := inState_enterState (n := n) src 4 d (by decide)
  have hfaults : FaultsKept d (enterState n src 4 d) := .enterState n src 4 (.refl d)
  rw [heq]
  generalize enterState n src 4 d = x at hent hfaults
  refine ⟨?_, ?_, ?_, (FaultsKept.wr (.wr hfaults)).fired 113⟩
  · simpa (disch := decide) [inState] using hent
  · simp (disch := decide) [rd_wr_same]
  · simp (disch := decide) [rd_wr_same]

/-- What an identifier shows on its lane, before it is held against the declaration. -/
def psidShown (n l : Nat) (p : Psid) (d : Dev) : Dev :=
  let d := if rdB SDI_IN_ST_psid_present [l] d && rd SDI_IN_PSID_psid [l] d != p.raw then wr SDI_IN_STICKY_psid_chg [n] 1 d else d
  let d := wr SDI_IN_ST_psid_present [l] 1 (wr SDI_IN_PSID_psid [l] p.raw (wr SDI_IN_ST_link [l] p.link (wrB SDI_IN_ST_level_b [n] p.levelB d)))
  let r := sdiIn n d
  setSdiIn n { r with links := tabSet {} r.links l { tabGet {} r.links l with psidSeen := true } } d

/-- The declared content an identifier is held against. -/
def psidChecked (n : Nat) (s : SrcDesc) (lanes : List Nat) (p : Psid) (f : Fmt) (d : Dev) : Dev :=
  if p.scan ≠ f.scan then mismatch n s.num 4 d
  else if p.iface ≠ f.iface ∨ p.square ≠ f.square ∨ lanes.length < p.link then mismatch n s.num 5 d
  else if p.sampling ≠ f.sampling then mismatch n s.num 6 d
  else if p.depth ≠ f.depth then mismatch n s.num 7 d
  else d

theorem st352Body_eq (s : SrcDesc) (lanes : List Nat) (p : Psid) (h : inState n d ≠ 0) :
    st352Body n l s lanes p d = psidChecked n s lanes p (fmtOf s.fmt d) (psidShown n l p d) := by
  unfold st352Body
  exact if_neg h

@[simp] theorem rd_setSdiIn (f : Fld) (ix : List Nat) (n : Nat) (r : SdiIn) (d : Dev) : rd f ix (setSdiIn n r d) = rd f ix d := rfl

theorem psidShown_shows (n l : Nat) (p : Psid) (d : Dev) : rd SDI_IN_ST_psid_present [l] (psidShown n l p d) = 1 ∧
    rd SDI_IN_PSID_psid [l] (psidShown n l p d) = p.raw % 2 ^ SDI_IN_PSID_psid.w ∧
    (rdB SDI_IN_ST_psid_present [l] d = true → rd SDI_IN_PSID_psid [l] d ≠ p.raw → rd SDI_IN_STICKY_psid_chg [n] (psidShown n l p d) = 1) ∧
    inState n (psidShown n l p d) = inState n d ∧ FaultsKept d (psidShown n l p d) := by
  unfold psidShown
  extract_lets noted shown r
  have hnoted : FaultsKept d noted := FaultsKept.ite (.wr (.refl d)) (.refl d)
  have hstate : rd SDI_IN_ST_state [n] noted = rd SDI_IN_ST_state [n] d := by
    dsimp only [noted]
    split
    · exact rd_wr_off _ _ (by decide)
    · rfl
  have hchg : rdB SDI_IN_ST_psid_present [l] d = true → rd SDI_IN_PSID_psid [l] d ≠ p.raw → rd SDI_IN_STICKY_psid_chg [n] noted = 1 := fun h1 h2 => by
    dsimp only [noted]
    rw [if_pos (by simp [h1, h2]), rd_wr_same]
    rfl
  clear_value noted
  refine ⟨?_, ?_, fun h1 h2 => ?_, ?_, ?_⟩
  · simp (disch := decide) [shown, rd_wr_same]
  · simp (disch := decide) [shown, rd_wr_same]
  · simpa (disch := decide) [shown] using hchg h1 h2
  · simpa (disch := decide) [shown, inState] using hstate
  · have hshown : FaultsKept d shown := .wr (.wr (.wr (.wr hnoted)))
    exact hshown.of_regs rfl rfl

/-- What holds after every mismatch and before it holds after the check. -/
theorem psidChecked_holds {P : Dev → Prop} {s : SrcDesc} {lanes : List Nat} {p : Psid} {f : Fmt} (h : P d) (hm : ∀ cause, P (mismatch n s.num cause d)) :
    P (psidChecked n s lanes p f d) := by
  unfold psidChecked
  exact ite_holds (hm 4) (ite_holds (hm 5) (ite_holds (hm 6) (ite_holds (hm 7) h)))

theorem st352Body_shows (s : SrcDesc) (lanes : List Nat) (p : Psid) (h : inState n d ≠ 0) :
    rd SDI_IN_ST_psid_present [l] (st352Body n l s lanes p d) = 1 ∧
    rd SDI_IN_PSID_psid [l] (st352Body n l s lanes p d) = p.raw % 2 ^ SDI_IN_PSID_psid.w ∧
    (rdB SDI_IN_ST_psid_present [l] d = true → rd SDI_IN_PSID_psid [l] d ≠ p.raw → rd SDI_IN_STICKY_psid_chg [n] (st352Body n l s lanes p d) = 1) := by
  obtain ⟨hpresent, hpsid, hchg, -, -⟩ := psidShown_shows n l p d
  rw [st352Body_eq s lanes p h]
  refine psidChecked_holds (P := fun y => rd SDI_IN_ST_psid_present [l] y = 1 ∧ rd SDI_IN_PSID_psid [l] y = p.raw % 2 ^ SDI_IN_PSID_psid.w ∧
    (rdB SDI_IN_ST_psid_present [l] d = true → rd SDI_IN_PSID_psid [l] d ≠ p.raw → rd SDI_IN_STICKY_psid_chg [n] y = 1))
    ⟨hpresent, hpsid, hchg⟩ fun cause => ?_
  have hk := mismatch_keeps (n := n) (src := s.num) (cause := cause) (Kept.refl _ (psidShown n l p d)) (Sub.refl _)
  exact ⟨(hk.rd _ _ (by decide)).trans hpresent, (hk.rd _ _ (by decide)).trans hpsid, fun h1 h2 => (hk.rd _ _ (by decide)).trans (hchg h1 h2)⟩

theorem st352Body_mismatch {s : SrcDesc} {lanes : List Nat} {p : Psid} (h0 : inState n d ≠ 0) (h4 : inState n d ≠ 4) (hn : n < 192)
    (hscan : p.scan ≠ (fmtOf s.fmt d).scan) :
    inState n (st352Body n l s lanes p d) = 4 ∧ rd SDI_IN_ST_cause [n] (st352Body n l s lanes p d) = 4 ∧
    rd SDI_IN_STICKY_mismatch [n] (st352Body n l s lanes p d) = 1 ∧ Fired 113 d (st352Body n l s lanes p d) := by
  obtain ⟨-, -, -, hstate, hfaults⟩ := psidShown_shows n l p d
  rw [st352Body_eq s lanes p h0]
  unfold psidChecked
  rw [if_pos hscan]
  obtain ⟨hst, hcause, hsticky, hfired⟩ := mismatch_shows (src := s.num) (cause := 4) (hstate.symm ▸ h4) hn
  exact ⟨hst, hcause, hsticky, hfaults.of_fired hfired⟩

theorem st352Packet_absent (p : Psid) (h : laneSource' l d = none) : st352Packet l p d = d := by
  unfold st352Packet
  rw [h]

theorem st352Packet_eq (p : Psid) {s : SrcDesc} {lanes : List Nat} (h : laneSource' l d = some (s, lanes)) :
    st352Packet l p d = st352Body (lanes.headD l) l s lanes p d := by
  unfold st352Packet
  rw [h]

theorem st352Body_waits (s : SrcDesc) (lanes : List Nat) (p : Psid) (h : inState n d = 0) : st352Body n l s lanes p d = d := by
  unfold st352Body
  exact if_pos h

theorem sdiLine_absent (x : SdiLine) (h : laneSource' l d = none) : sdiLine l x d = d := by
  unfold sdiLine
  rw [h]

theorem sdiLine_waits (x : SdiLine) {s : SrcDesc} {lanes : List Nat} (h : laneSource' l d = some (s, lanes)) (hst : inState (lanes.headD l) d = 0) :
    sdiLine l x d = d := by
  unfold sdiLine
  rw [h]
  simp only [hst, ne_eq, not_true, and_false, if_false]
  unfold sdiLineBody
  exact if_pos hst

end Sdi

end Sys2Proof.Machine

namespace Sys2Proof
open Machine

/-- Settles O44: an identifier is shown first, then held against the declaration. -/
theorem sdiPayloadIdentifiers : Obligations.SdiPayloadIdentifiers := by
  refine ⟨fun lane psid => ?_, fun lane line => ?_⟩
  · refine carried_effect (fun _ => rfl) (fun _ _ => execSt352Packet_keeps) (by decide +kernel) (fun _ _ h => h) fun _ d ho _ => ?_
    refine ⟨fun h => unchanged_of_eq ho (st352Packet_absent psid h), fun s lanes h n hn => ?_⟩
    subst hn
    rw [st352Packet_eq psid h]
    refine ⟨fun hst => unchanged_of_eq ho (st352Body_waits s lanes psid hst), fun hst => ?_, fun h0 h4 hn hscan => ?_⟩
    · simp (disch := decide) only [rd_raises_off]
      exact st352Body_shows s lanes psid hst
    · obtain ⟨hst, hcause, hsticky, hfired⟩ := st352Body_mismatch (l := lane) (lanes := lanes) h0 h4 hn hscan
      simp (disch := decide) only [inState, rd_raises_off]
      exact ⟨hst, hcause, hsticky, fired_raises hfired⟩
  · refine carried_effect (fun _ => rfl) (fun _ _ => execSdiLine_keeps) (by decide +kernel) (fun _ _ h => h) fun _ d ho _ => ?_
    exact ⟨fun h => unchanged_of_eq ho (sdiLine_absent line h), fun s lanes h hst => unchanged_of_eq ho (sdiLine_waits line h hst)⟩

end Sys2Proof
end

section
set_option Elab.async false
set_option exponentiation.threshold 2048
/-! PROOFS. Ethernet links, pauses, transmission and received frames (O45, O46). -/

namespace Sys2Proof.Machine

/-! ### A MAC's queues and its pause -/

section Mac
variable {m k : Nat} {d : Dev}

@[simp] theorem rd_setMacRun (f : Fld) (ix : List Nat) (m : Nat) (r : MacRun) (d : Dev) : rd f ix (setMacRun m r d) = rd f ix d := rfl

@[simp] theorem macRun_wr (m : Nat) (f : Fld) (ix : List Nat) (v : Nat) (d : Dev) : macRun m (wr f ix v d) = macRun m d := rfl

@[simp] theorem macRun_wrB (m : Nat) (f : Fld) (ix : List Nat) (b : Bool) (d : Dev) : macRun m (wrB f ix b d) = macRun m d := rfl

@[simp] theorem macRun_setMacRun_same (m : Nat) (r : MacRun) (d : Dev) : macRun m (setMacRun m r d) = r := tabGet_set_same _ _ _ _

@[simp] theorem macRun_setMacRun_ne (r : MacRun) (d : Dev) (h : k ≠ m) : macRun k (setMacRun m r d) = macRun k d := tabGet_set_ne _ _ _ h

@[simp] theorem macRun_fire (m n : Nat) (d : Dev) : macRun m (fire n d) = macRun m d := by
  rw [macRun, macRun, (fire_only_kept n d).macs (by decide)]

@[simp] theorem macRun_raises (m : Nat) (b d : Dev) : macRun m (raises b d) = macRun m d := by rw [macRun, macRun, raises_macs]

@[simp] theorem macRun_advanceDev (m t : Nat) (d : Dev) : macRun m (advanceDev t d) = macRun m d := by
  rw [macRun, macRun, (advanceDev_keeps (Kept.refl _ d) (Sub.refl _)).macs (by decide)]

/-- The end of a pause clears what shows it, its end and whether its overflow has fired. -/
theorem endPause_shows (m : Nat) (d : Dev) : rd MAC_STATUS_paused [m] (endPause m d) = 0 ∧ rd MAC_PAUSE_quanta_left [m] (endPause m d) = 0 ∧
    macRun m (endPause m d) = { macRun m d with pauseEnd := 0, ovfFired := false } := by
  unfold endPause
  exact ⟨rd_wr_same _ _ _ _, by simp (disch := decide) [rd_wr_same], by simp⟩

theorem endPause_other (h : k ≠ m) : macRun k (endPause m d) = macRun k d ∧ rd MAC_STATUS_paused [k] (endPause m d) = rd MAC_STATUS_paused [k] d := by
  unfold endPause
  refine ⟨by simp [h], ?_⟩
  rw [rd_wr_index _ _ (by decide) h, rd_wr_off _ _ (by decide), rd_setMacRun]

theorem rd_endPause {f : Fld} {ix : List Nat} (m : Nat) (d : Dev) (h1 : f.no % 1024 ≠ MAC_STATUS_paused.no % 1024)
    (h2 : f.no % 1024 ≠ MAC_PAUSE_quanta_left.no % 1024) : rd f ix (endPause m d) = rd f ix d := by
  unfold endPause
  rw [rd_wr_off _ _ h1, rd_wr_off _ _ h2, rd_setMacRun]

theorem macRun_showQueues (k m : Nat) (d : Dev) : macRun k (showQueues m d) = macRun k d := by
  unfold showQueues
  simp only [macRun_wr]
  split <;> rfl

theorem FaultsKept.showQueues {d x : Dev} (m : Nat) (h : FaultsKept d x) : FaultsKept d (showQueues m x) := h.kept (showQueues_keeps (Kept.refl _ x) (Sub.refl _))

theorem FaultsKept.endPause {d x : Dev} (m : Nat) (h : FaultsKept d x) : FaultsKept d (endPause m x) := .wr (.wr (h.of_regs rfl rfl))

/-! ### A link that comes up or goes down -/

theorem running_mac (m : Nat) (d : Dev) (hm : m < 48) : running (fMac m) d = (rd MAC_STATUS_state [m] d == 2) := by
  have hk : funcOf (fMac m) = ⟨MAC_CTRL_en, MAC_STATUS_state, MAC_STICKY_start_err, [m], [m], 132, MAC_STICKY_rej_write, [m], 131⟩ := by
    unfold funcOf fMac
    rw [if_neg (by omega), if_pos (by omega)]
    simp
  rw [running, funcState, hk]

/-- A MAC whose link went down, before the loss is reported. -/
def queuesDropped (m : Nat) (d : Dev) : Dev :=
  let d := wr MAC_STATUS_link [m] 0 (wr MAC_STATUS_pcs_aligned [m] 0 (wr MAC_STATUS_fec_lock [m] 0 d))
  showQueues m (setMacRun m { macRun m d with media := [], mgmt := [] } (endPause m d))

theorem linkGoesDown_eq (m : Nat) (d : Dev) : linkGoesDown m d = if linkUp m d then
    (if running (fMac m) (queuesDropped m d) && !inSafe (queuesDropped m d) then
      fire 128 (count MAC_CNT1_link_downs [m] 1 (wr MAC_STICKY_link_down [m] 1 (queuesDropped m d))) else queuesDropped m d)
    else d := rfl

theorem queuesDropped_empties (m : Nat) (d : Dev) : (macRun m (queuesDropped m d)).media = [] ∧ (macRun m (queuesDropped m d)).mgmt = [] := by
  unfold queuesDropped
  simp only [macRun_showQueues, macRun_setMacRun_same]
  exact ⟨trivial, trivial⟩

theorem queuesDropped_other (d : Dev) (h : k ≠ m) : macRun k (queuesDropped m d) = macRun k d := by
  unfold queuesDropped
  simp only [macRun_showQueues, macRun_setMacRun_ne _ _ h, (endPause_other h).1, macRun_wr]

/-- What a field reads after the queues are dropped that shows neither the link nor queues nor a pause. -/
theorem rd_queuesDropped {f : Fld} (ix : List Nat) (d : Dev)
    (h : ∀ g ∈ [MAC_STATUS_link, MAC_STATUS_pcs_aligned, MAC_STATUS_fec_lock, MAC_STATUS_paused, MAC_PAUSE_quanta_left, MAC_TXQ_level_kib, MAC_TXQ_high_kib,
      MAC_STATUS_ts_level, MAC_STATUS_fw_q_level], f.no % 1024 ≠ g.no % 1024 := by decide) : rd f ix (queuesDropped m d) = rd f ix d := by
  simp only [List.forall_mem_cons] at h
  obtain ⟨h1, h2, h3, h4, h5, h6, h7, h8, h9, -⟩ := h
  unfold queuesDropped showQueues
  simp only [rd_wr_off _ _ h8, rd_wr_off _ _ h9, apply_ite (rd f ix), rd_wr_off _ _ h7, rd_wr_off _ _ h6, rd_setMacRun, rd_endPause _ _ h4 h5,
    rd_wr_off _ _ h1, rd_wr_off _ _ h2, rd_wr_off _ _ h3, ite_self]

theorem queuesDropped_shows (m : Nat) (d : Dev) : rd MAC_STATUS_link [m] (queuesDropped m d) = 0 ∧ rd MAC_STATUS_paused [m] (queuesDropped m d) = 0 := by
  have hq := fun x => showQueues_keeps (m := m) (Kept.refl _ x) (Sub.refl _)
  unfold queuesDropped
  refine ⟨((hq _).rd _ _ (by decide)).trans ?_, ((hq _).rd _ _ (by decide)).trans ?_⟩
  · rw [rd_setMacRun, rd_endPause _ _ (by decide) (by decide), rd_wr_same]; rfl
  · exact (endPause_shows m _).1

theorem faultsKept_queuesDropped (m : Nat) (d : Dev) : FaultsKept d (queuesDropped m d) := by
  have hwr : FaultsKept d (wr MAC_STATUS_link [m] 0 (wr MAC_STATUS_pcs_aligned [m] 0 (wr MAC_STATUS_fec_lock [m] 0 d))) := .wr (.wr (.wr (.refl d)))
  refine FaultsKept.showQueues m ?_
  exact (hwr.endPause m).of_regs rfl rfl

/-- Whether a loss is reported is decided by the MAC and safe state as they were. -/
theorem reports_queuesDropped (d : Dev) (hm : m < 48) :
    (running (fMac m) (queuesDropped m d) && !inSafe (queuesDropped m d)) = (running (fMac m) d && !inSafe d) := by
  rw [running_mac _ _ hm, running_mac _ _ hm, rd_queuesDropped, inSafe, rdB, rd_queuesDropped]
  rfl

theorem linkGoesDown_down (d : Dev) (h : linkUp m d = false) : linkGoesDown m d = d := by
  rw [linkGoesDown_eq, if_neg (by simp [h])]

theorem linkGoesDown_cases (d : Dev) (hm : m < 48) (h : linkUp m d = true) :
    (running (fMac m) d = true → inSafe d = false → linkGoesDown m d =
      fire 128 (count MAC_CNT1_link_downs [m] 1 (wr MAC_STICKY_link_down [m] 1 (queuesDropped m d)))) ∧
    (running (fMac m) d = false ∨ inSafe d = true → linkGoesDown m d = queuesDropped m d) := by
  rw [linkGoesDown_eq, if_pos h, reports_queuesDropped d hm]
  exact ⟨fun h1 h2 => by simp [h1, h2], fun h => by rcases h with h | h <;> simp [h]⟩

/-- What a link that was up shows once it is down. -/
theorem linkGoesDown_shows (d : Dev) (hm : m < 48) (h : linkUp m d = true) :
    linkUp m (linkGoesDown m d) = false ∧ (macRun m (linkGoesDown m d)).media = [] ∧ (macRun m (linkGoesDown m d)).mgmt = [] ∧
    rdB MAC_STATUS_paused [m] (linkGoesDown m d) = false ∧ running (fMac m) (linkGoesDown m d) = running (fMac m) d ∧
    (∀ k, k ≠ m → macRun k (linkGoesDown m d) = macRun k d) := by
  obtain ⟨hlink, hpaused⟩ := queuesDropped_shows m d
  obtain ⟨hmedia, hmgmt⟩ := queuesDropped_empties m d
  have hother := fun k => queuesDropped_other (m := m) (k := k) d
  have hstate : rd MAC_STATUS_state [m] (queuesDropped m d) = rd MAC_STATUS_state [m] d := rd_queuesDropped _ d
  obtain ⟨hreports, hquiet⟩ := linkGoesDown_cases d hm h
  simp only [running_mac _ _ hm, linkUp, rdB] at hreports hquiet ⊢
  by_cases hc : (rd MAC_STATUS_state [m] d == 2) = true ∧ inSafe d = false
  · rw [hreports hc.1 hc.2]
    simp (disch := decide) [hlink, hpaused, hmedia, hmgmt, hstate, count]
    exact hother
  · rw [hquiet (by by_cases h2 : (rd MAC_STATUS_state [m] d == 2) = true <;> simp_all)]
    simp [hlink, hpaused, hmedia, hmgmt, hstate]
    exact hother

theorem linkGoesDown_reports (d : Dev) (hm : m < 48) (h : linkUp m d = true) :
    (running (fMac m) d = true → inSafe d = false → rd MAC_STICKY_link_down [m] (linkGoesDown m d) = 1 ∧
      rd MAC_CNT1_link_downs [m] (linkGoesDown m d) = min (2 ^ MAC_CNT1_link_downs.w - 1) (rd MAC_CNT1_link_downs [m] d + 1) ∧
      Fired 128 d (linkGoesDown m d)) ∧
    (inSafe d = true → rd MAC_STICKY_link_down [m] (linkGoesDown m d) = rd MAC_STICKY_link_down [m] d ∧
      rd MAC_CNT1_link_downs [m] (linkGoesDown m d) = rd MAC_CNT1_link_downs [m] d) := by
  obtain ⟨hreports, hquiet⟩ := linkGoesDown_cases d hm h
  have hcount : rd MAC_CNT1_link_downs [m] (queuesDropped m d) = rd MAC_CNT1_link_downs [m] d := rd_queuesDropped _ d
  refine ⟨fun h1 h2 => ?_, fun hs => ?_⟩
  · rw [hreports h1 h2]
    refine ⟨by simp (disch := decide) [rd_wr_same], ?_, ((faultsKept_queuesDropped m d).wr.count).fired 128⟩
    rw [rd_fire_off _ _ (by decide) (by decide) (by decide), rd_count_same, rd_wr_off _ _ (by decide), hcount]
  · rw [hquiet (.inr hs)]
    exact ⟨rd_queuesDropped _ d, hcount⟩

/-- The remote fault is shown on top of what the loss of the link left. -/
theorem linkDown_eq (rfault : Bool) (d : Dev) :
    linkDown m rfault d = linkGoesDown m d ∨ linkDown m rfault d = wrB MAC_STATUS_rx_rfault [m] rfault (linkGoesDown m d) := by
  unfold linkDown
  simp only []
  split
  · exact .inr rfl
  · exact .inl rfl

theorem linkDown_running (rfault : Bool) (d : Dev) (h : running (fMac m) (linkGoesDown m d) = true) (hl : linkUp m (linkGoesDown m d) = false) :
    linkDown m rfault d = wrB MAC_STATUS_rx_rfault [m] rfault (linkGoesDown m d) := by
  unfold linkDown
  exact if_pos (by simp [h, hl])

theorem rd_linkDown {f : Fld} {ix : List Nat} (rfault : Bool) (d : Dev) (h : f.no % 1024 ≠ MAC_STATUS_rx_rfault.no % 1024) :
    rd f ix (linkDown m rfault d) = rd f ix (linkGoesDown m d) := by
  rcases linkDown_eq (m := m) rfault d with he | he
  · rw [he]
  · rw [he, rd_wrB_off _ _ h]

theorem macRun_linkDown (k : Nat) (rfault : Bool) (d : Dev) : macRun k (linkDown m rfault d) = macRun k (linkGoesDown m d) := by
  rcases linkDown_eq (m := m) rfault d with he | he <;> rw [he]
  rw [macRun_wrB]

theorem linkRises_eq (m : Nat) (d : Dev) :
    (running (fMac m) d && lanesReady m d && !linkUp m d && !inSafe d) = false → linkRises m d = d := fun h => by
  have hc : linkComesUp m d = d := by
    unfold linkComesUp
    exact if_neg (by simp [h])
  unfold linkRises
  simp [hc]

theorem linkRises_up (m : Nat) (d : Dev) (h : (running (fMac m) d && lanesReady m d && !linkUp m d && !inSafe d) = true) :
    linkUp m (linkRises m d) = true ∧ rd MAC_STATUS_rx_rfault [m] (linkRises m d) = 0 ∧ (linkRises m d).macs = d.macs := by
  have hc : linkComesUp m d = wr MAC_STATUS_link [m] 1 (wr MAC_STATUS_pcs_aligned [m] 1 (wrB MAC_STATUS_fec_lock [m] (usesFec m d)
      (wr MAC_STATUS_rx_rfault [m] 0 d))) := by
    unfold linkComesUp
    exact if_pos h
  have hlink : rd MAC_STATUS_link [m] (linkComesUp m d) = 1 := by rw [hc, rd_wr_same]; rfl
  have hfault : rd MAC_STATUS_rx_rfault [m] (linkComesUp m d) = 0 := by rw [hc]; simp (disch := decide) [rd_wr_same]
  have hmacs : (linkComesUp m d).macs = d.macs := by rw [hc]; rfl
  have hreport : linkRises m d = linkComesUp m d ∨ linkRises m d = reportAll (some m) (linkComesUp m d) := by
    unfold linkRises
    simp only []
    split
    · exact .inr rfl
    · exact .inl rfl
  have hk := reportAll_keeps (mac := some m) (Kept.refl _ (linkComesUp m d)) (Sub.refl _)
  rcases hreport with he | he
  · rw [he]
    exact ⟨by rw [linkUp, rdB, hlink]; rfl, hfault, hmacs⟩
  · rw [he]
    exact ⟨by rw [linkUp, rdB, hk.rd _ _ (by decide), hlink]; rfl, by rw [hk.rd _ _ (by decide), hfault], by rw [hk.macs (by decide), hmacs]⟩

/-! ### Pauses and transmission -/

theorem pauseExpiry_stays (h : rdB MAC_STATUS_paused [m] d = false) : pauseExpiry m d = d := by
  unfold pauseExpiry
  exact if_neg (by simp [h])

theorem pauseExpiry_ends (h : rdB MAC_STATUS_paused [m] d = true) : pauseExpiry m d = endPause m (advanceDev (macRun m d).pauseEnd d) := by
  unfold pauseExpiry
  exact if_pos h

theorem pauseEnWrite_cases (m : Nat) (en : Bool) (d : Dev) :
    (en = true ∨ rdB MAC_STATUS_paused [m] d = false → pauseEnWrite m en d = wrB MAC_PAUSE_pause_en [m] en d) ∧
    (en = false → rdB MAC_STATUS_paused [m] d = true → pauseEnWrite m en d = endPause m (wrB MAC_PAUSE_pause_en [m] en d)) := by
  have hp : rdB MAC_STATUS_paused [m] (wrB MAC_PAUSE_pause_en [m] en d) = rdB MAC_STATUS_paused [m] d := by
    rw [rdB, rdB, rd_wrB_off _ _ (by decide)]
  unfold pauseEnWrite
  simp only [hp]
  exact ⟨fun h => if_pos (by rcases h with h | h <;> simp [h]), fun h1 h2 => if_neg (by simp [h1, h2])⟩

theorem sendFrame_noLink {fw : List TxFrame} (h : linkUp m d = false) : sendFrame m fw d = d := by
  have hoffer : forEach fw (offerMgmt m) d = d :=
    forEach_holds (P := fun x => x = d) rfl fun f x hx => by
      subst hx
      unfold offerMgmt
      exact if_neg (by simp [h])
  unfold sendFrame transmitFrame
  simp [hoffer, h]

theorem sendFrame_held (h : rdB MAC_STATUS_paused [m] d = true ∨ inSafe d = true) : sendFrame m [] d = d := by
  unfold sendFrame transmitFrame
  rw [if_pos (by rcases h with h | h <;> simp [h, forEach])]
  rfl

theorem linkGoesDown_link (d : Dev) (hm : m < 48) : linkUp m (linkGoesDown m d) = false ∧
    running (fMac m) (linkGoesDown m d) = running (fMac m) d ∧ ∀ k, k ≠ m → macRun k (linkGoesDown m d) = macRun k d := by
  by_cases h : linkUp m d = true
  · obtain ⟨hlink, -, -, -, hrun, hother⟩ := linkGoesDown_shows d hm h
    exact ⟨hlink, hrun, hother⟩
  · have hl : linkUp m d = false := by simpa using h
    rw [linkGoesDown_down d hl]
    exact ⟨hl, rfl, fun _ _ => rfl⟩

end Mac

/-! ### Received frames -/

section Receive
variable {m : Nat} {d : Dev} {frame : RxFrame}

/-- The symbols the lanes of a frame corrected are counted, whatever becomes of the frame. -/
def symbolsTaken (m : Nat) (frame : RxFrame) (d : Dev) : Dev := forEach ((macLanes m d).zip frame.syms) (fun p d => symbolsCorrected p.1 p.2 d) d

theorem symbolsTaken_kept (m : Nat) (frame : RxFrame) (d : Dev) : Kept (fldMask LNS_SYMERR_corrected) d (symbolsTaken m frame d) :=
  forEach_keeps (Kept.refl _ d) fun _ _ h => symbolsCorrected_keeps h (by decide)

theorem rd_symbolsTaken {f : Fld} {ix : List Nat} (h : f.no % 1024 ≠ LNS_SYMERR_corrected.no % 1024) :
    rd f ix (symbolsTaken m frame d) = rd f ix d := by
  refine forEach_holds (P := fun x => rd f ix x = rd f ix d) rfl fun p x hx => ?_
  unfold symbolsCorrected
  split
  · exact hx
  · rw [rd_count_off _ _ h, hx]

theorem symbolsTaken_macs (m : Nat) (frame : RxFrame) (d : Dev) : (symbolsTaken m frame d).macs = d.macs :=
  (symbolsTaken_kept m frame d).macs (by decide)

theorem receiveFrame_idle (hm : m < 48) (h : running (fMac m) d = false ∨ linkUp m d = false) : receiveFrame m frame d = symbolsTaken m frame d := by
  unfold receiveFrame
  refine if_pos ?_
  show (!running (fMac m) (symbolsTaken m frame d) || !linkUp m (symbolsTaken m frame d)) = true
  simp only [running_mac _ _ hm, linkUp, rdB, rd_symbolsTaken (f := MAC_STATUS_state) (by decide), rd_symbolsTaken (f := MAC_STATUS_link) (by decide)] at h ⊢
  rcases h with h | h <;> simp [h]

theorem receiveFrame_live (hm : m < 48) (hr : running (fMac m) d = true) (hl : linkUp m d = true) :
    (frame.len < 64 → receiveFrame m frame d = count MAC_CNT0_runt [m] 1 (symbolsTaken m frame d)) ∧
    (64 ≤ frame.len → rd MAC_CFG_max_frame [m] d < frame.len → receiveFrame m frame d = count MAC_CNT0_oversize [m] 1 (symbolsTaken m frame d)) ∧
    (64 ≤ frame.len → frame.len ≤ rd MAC_CFG_max_frame [m] d → frame.bad = true →
      receiveFrame m frame d = count MAC_CNT0_fcs_err [m] 1 (symbolsTaken m frame d)) ∧
    (∀ quanta, 64 ≤ frame.len → frame.len ≤ rd MAC_CFG_max_frame [m] d → frame.bad = false → frame.body = .control 1 quanta →
      frame.dmac = pauseAddr ∨ frame.dmac = rd MAC_ADDR_addr [m] d → receiveFrame m frame d = pauseFrame m quanta (symbolsTaken m frame d)) := by
  have hlive : ¬ (!running (fMac m) (symbolsTaken m frame d) || !linkUp m (symbolsTaken m frame d)) = true := by
    simp only [running_mac _ _ hm, linkUp, rdB, rd_symbolsTaken (f := MAC_STATUS_state) (by decide), rd_symbolsTaken (f := MAC_STATUS_link) (by decide)] at hr hl ⊢
    simp [hr, hl]
  have hmax : rd MAC_CFG_max_frame [m] (symbolsTaken m frame d) = rd MAC_CFG_max_frame [m] d := rd_symbolsTaken (by decide)
  have haddr : rd MAC_ADDR_addr [m] (symbolsTaken m frame d) = rd MAC_ADDR_addr [m] d := rd_symbolsTaken (by decide)
  unfold receiveFrame
  simp only [show forEach ((macLanes m d).zip frame.syms) (fun p d => symbolsCorrected p.1 p.2 d) d = symbolsTaken m frame d from rfl, if_neg hlive, hmax,
    haddr]
  refine ⟨fun h => ?_, fun h1 h2 => ?_, fun h1 h2 h3 => ?_, fun quanta h1 h2 h3 h4 h5 => ?_⟩
  · simp only [rxFate, if_pos h]
  · simp only [rxFate, if_neg (Nat.not_lt.mpr h1), if_pos h2]
  · simp only [rxFate, if_neg (Nat.not_lt.mpr h1), if_neg (Nat.not_lt.mpr h2), if_pos h3]
  · simp only [rxFate, if_neg (Nat.not_lt.mpr h1), if_neg (Nat.not_lt.mpr h2), h3, h4, Bool.false_eq_true, if_false, true_and, if_pos h5]

/-- A pause frame counted and shown. -/
def pauseSeen (m : Nat) (d : Dev) : Dev := count MAC_CNT0_pause_rx [m] 1 (wr MAC_STICKY_pause_seen [m] 1 d)

/-- Transmission held for the quanta of a pause frame. -/
def pauseHeld (m quanta : Nat) (ovf : Bool) (d : Dev) : Dev :=
  let d := wr MAC_STATUS_paused [m] 1 (wr MAC_PAUSE_quanta_left [m] quanta d)
  setMacRun m { macRun m d with pauseEnd := d.devTime + quantaUnits m quanta d, ovfFired := ovf } d

theorem rd_pauseSeen {f : Fld} {ix : List Nat} (m : Nat) (d : Dev) (h1 : f.no % 1024 ≠ MAC_CNT0_pause_rx.no % 1024)
    (h2 : f.no % 1024 ≠ MAC_STICKY_pause_seen.no % 1024) : rd f ix (pauseSeen m d) = rd f ix d := by
  unfold pauseSeen
  rw [rd_count_off _ _ h1, rd_wr_off _ _ h2]

theorem pauseSeen_shows (m : Nat) (d : Dev) :
    rd MAC_CNT0_pause_rx [m] (pauseSeen m d) = min (2 ^ MAC_CNT0_pause_rx.w - 1) (rd MAC_CNT0_pause_rx [m] d + 1) ∧
    rd MAC_STICKY_pause_seen [m] (pauseSeen m d) = 1 ∧ FaultsKept d (pauseSeen m d) := by
  unfold pauseSeen
  refine ⟨?_, by simp (disch := decide) [rd_wr_same], .count (.wr (.refl d))⟩
  rw [rd_count_same, rd_wr_off _ _ (by decide)]

theorem rd_pauseHeld {f : Fld} {ix : List Nat} (m quanta : Nat) (ovf : Bool) (d : Dev) (h1 : f.no % 1024 ≠ MAC_STATUS_paused.no % 1024)
    (h2 : f.no % 1024 ≠ MAC_PAUSE_quanta_left.no % 1024) : rd f ix (pauseHeld m quanta ovf d) = rd f ix d := by
  unfold pauseHeld
  rw [rd_setMacRun, rd_wr_off _ _ h1, rd_wr_off _ _ h2]

theorem pauseHeld_shows (m quanta : Nat) (ovf : Bool) (d : Dev) : rd MAC_STATUS_paused [m] (pauseHeld m quanta ovf d) = 1 ∧
    (macRun m (pauseHeld m quanta ovf d)).pauseEnd = d.devTime + quantaUnits m quanta d ∧ FaultsKept d (pauseHeld m quanta ovf d) := by
  unfold pauseHeld
  extract_lets shown
  have hfaults : FaultsKept d shown := .wr (.wr (.refl d))
  refine ⟨?_, ?_, hfaults.of_regs rfl rfl⟩
  · rw [rd_setMacRun, rd_wr_same]; rfl
  · rw [macRun_setMacRun_same]
    show shown.devTime + quantaUnits m quanta shown = d.devTime + quantaUnits m quanta d
    have hspeed : rd MAC_CFG_speed [m] shown = rd MAC_CFG_speed [m] d := by dsimp only [shown]; simp (disch := decide)
    rw [quantaUnits, quantaUnits, portRate, portRate, hspeed]
    rfl

theorem pauseFrame_eq (m quanta : Nat) (d : Dev) :
    (rdB MAC_PAUSE_pause_en [m] d = false → pauseFrame m quanta d = fire 133 (pauseSeen m d)) ∧
    (rdB MAC_PAUSE_pause_en [m] d = true → quanta = 0 → pauseFrame m quanta d = fire 133 (endPause m (pauseSeen m d))) ∧
    (rdB MAC_PAUSE_pause_en [m] d = true → quanta ≠ 0 → ∃ ovf, pauseFrame m quanta d = fire 133 (pauseHeld m quanta ovf (pauseSeen m d))) := by
  have hen : rdB MAC_PAUSE_pause_en [m] (count MAC_CNT0_pause_rx [m] 1 (wr MAC_STICKY_pause_seen [m] 1 d)) = rdB MAC_PAUSE_pause_en [m] d := by
    simp (disch := decide) [rdB]
  unfold pauseFrame
  simp only [hen]
  refine ⟨fun h => if_pos (by simp [h]), fun h hq => ?_, fun h hq =>
    ⟨rdB MAC_STATUS_paused [m] (pauseSeen m d) && (macRun m (pauseSeen m d)).ovfFired, ?_⟩⟩
  · rw [if_neg (by simp [h]), if_pos hq]
    rfl
  · rw [if_neg (by simp [h]), if_neg hq]
    rfl

/-- What every pause frame shows, whether or not it holds transmission. -/
theorem pauseFrame_counts (m quanta : Nat) (d : Dev) :
    rd MAC_CNT0_pause_rx [m] (pauseFrame m quanta d) = min (2 ^ MAC_CNT0_pause_rx.w - 1) (rd MAC_CNT0_pause_rx [m] d + 1) ∧
    rd MAC_STICKY_pause_seen [m] (pauseFrame m quanta d) = 1 ∧ Fired 133 d (pauseFrame m quanta d) := by
  obtain ⟨hcnt, hseen, hfaults⟩ := pauseSeen_shows m d
  obtain ⟨hoff, hend, hheld⟩ := pauseFrame_eq m quanta d
  have hcounts : ∀ x, rd MAC_CNT0_pause_rx [m] x = rd MAC_CNT0_pause_rx [m] (pauseSeen m d) →
      rd MAC_STICKY_pause_seen [m] x = rd MAC_STICKY_pause_seen [m] (pauseSeen m d) → FaultsKept d x →
      rd MAC_CNT0_pause_rx [m] (fire 133 x) = min (2 ^ MAC_CNT0_pause_rx.w - 1) (rd MAC_CNT0_pause_rx [m] d + 1) ∧
      rd MAC_STICKY_pause_seen [m] (fire 133 x) = 1 ∧ Fired 133 d (fire 133 x) := fun x h1 h2 h3 => by
    refine ⟨?_, ?_, h3.fired 133⟩
    · rw [rd_fire_off _ _ (by decide) (by decide) (by decide), h1, hcnt]
    · rw [rd_fire_off _ _ (by decide) (by decide) (by decide), h2, hseen]
  by_cases hen : rdB MAC_PAUSE_pause_en [m] d = true
  · by_cases hq : quanta = 0
    · rw [hend hen hq]
      exact hcounts _ (rd_endPause _ _ (by decide) (by decide)) (rd_endPause _ _ (by decide) (by decide)) (hfaults.endPause m)
    · obtain ⟨ovf, heq⟩ := hheld hen hq
      rw [heq]
      exact hcounts _ (rd_pauseHeld _ _ _ _ (by decide) (by decide)) (rd_pauseHeld _ _ _ _ (by decide) (by decide))
        (hfaults.trans (pauseHeld_shows m quanta ovf _).2.2)
  · rw [hoff (by simpa using hen)]
    exact hcounts _ rfl rfl hfaults

theorem pauseFrame_holds (m quanta : Nat) (d : Dev) :
    (rdB MAC_PAUSE_pause_en [m] d = false → rd MAC_STATUS_paused [m] (pauseFrame m quanta d) = rd MAC_STATUS_paused [m] d) ∧
    (rdB MAC_PAUSE_pause_en [m] d = true → quanta = 0 → rdB MAC_STATUS_paused [m] (pauseFrame m quanta d) = false) ∧
    (rdB MAC_PAUSE_pause_en [m] d = true → quanta ≠ 0 → rdB MAC_STATUS_paused [m] (pauseFrame m quanta d) = true ∧
      (macRun m (pauseFrame m quanta d)).pauseEnd = d.devTime + quanta * 512 * secUnits / portRate m d) := by
  obtain ⟨hoff, hend, hheld⟩ := pauseFrame_eq m quanta d
  refine ⟨fun h => ?_, fun h hq => ?_, fun h hq => ?_⟩
  · rw [hoff h, rd_fire_off _ _ (by decide) (by decide) (by decide), rd_pauseSeen _ _ (by decide) (by decide)]
  · rw [hend h hq, rdB, rd_fire_off _ _ (by decide) (by decide) (by decide), (endPause_shows m _).1]
    rfl
  · obtain ⟨ovf, heq⟩ := hheld h hq
    obtain ⟨hpaused, hpend, -⟩ := pauseHeld_shows m quanta ovf (pauseSeen m d)
    refine ⟨?_, ?_⟩
    · rw [heq, rdB, rd_fire_off _ _ (by decide) (by decide) (by decide), hpaused]
      rfl
    · rw [heq, macRun_fire, hpend, quantaUnits, portRate, portRate, rd_pauseSeen _ _ (by decide) (by decide)]
      rfl

end Receive

end Sys2Proof.Machine

namespace Sys2Proof
open Machine

/-- Settles O45: a link's loss drops its queues before it is reported, and the remote fault is shown last. -/
theorem ethernetLinksAndPauses : Obligations.EthernetLinksAndPauses := by
  refine ⟨⟨fun mac => ?_, fun mac rfault => ?_⟩, fun mac => ?_, fun mac en => ?_, fun mac handed => ?_⟩
  · refine carried_effect (fun _ => rfl) (fun _ _ => execLinkUp_keeps) (by decide +kernel) (fun _ _ h => h) fun _ d ho _ => ?_
    rintro ready rfl
    refine ⟨fun h => unchanged_of_eq ho (linkRises_eq mac d h), fun h => ?_⟩
    obtain ⟨hlink, hfault, hmacs⟩ := linkRises_up mac d h
    simp only [linkUp, rdB] at hlink ⊢
    simp (disch := decide) only [rd_raises_off, raises_macs]
    exact ⟨hlink, hfault, hmacs⟩
  · refine carried_effect (fun _ => rfl) (fun _ _ => execLinkDown_keeps) (by decide +kernel) (fun _ _ h => h) fun hw d ho _ => ?_
    have hm : mac < 48 := by simpa [Instr.wf] using hw
    obtain ⟨hdown, hrun, hother⟩ := linkGoesDown_link d hm
    simp only [linkUp, rdB, macRun_raises, macRun_linkDown] at hdown ⊢
    simp (disch := decide) only [rd_raises_off, rd_linkDown]
    refine ⟨fun hl hr => unchanged_of_eq ho ?_, hdown, fun hl => ?_, fun hr => ?_, fun k _ hk => hother k hk⟩
    · have hsame := linkGoesDown_down (m := mac) d hl
      unfold linkDown
      rw [hsame]
      exact if_neg (by simp [hr])
    · obtain ⟨-, hmedia, hmgmt, hpaused, -, -⟩ := linkGoesDown_shows d hm hl
      obtain ⟨hloud, hsafe⟩ := linkGoesDown_reports d hm hl
      refine ⟨hmedia, hmgmt, hpaused, fun hr hs => ?_, hsafe⟩
      obtain ⟨hsticky, hcount, hfired⟩ := hloud hr hs
      refine ⟨hsticky, hcount, fired_raises ?_⟩
      rcases linkDown_eq (m := mac) rfault d with he | he <;> rw [he]
      · exact hfired
      · exact hfired.kept (wr_keeps (f := MAC_STATUS_rx_rfault) (Kept.refl _ _) (Sub.refl _))
    · rw [linkDown_running rfault d (hrun.trans hr) hdown]
      exact rdB_wrB_same _ _ _ _ (by decide)
  · refine carried_effect (fun _ => rfl) (fun _ _ => execPauseExpiry_keeps) (by decide +kernel)
      (fun d e ⟨h1, h2, h3⟩ => ⟨h1, fun hp => ⟨passes_quiet.mp (h2 hp).1, (h2 hp).2⟩, h3⟩) fun _ d ho _ => ?_
    simp only [rdB, macRun_raises]
    simp (disch := decide) only [rd_raises_off]
    refine ⟨fun h => unchanged_of_eq ho (pauseExpiry_stays h), fun h => ?_, fun k _ hk => ?_⟩
    · obtain ⟨hpaused, hleft, -⟩ := endPause_shows mac (advanceDev (macRun mac d).pauseEnd d)
      rw [pauseExpiry_ends h]
      refine ⟨passes_raises ?_, by rw [hpaused]; rfl, hleft⟩
      exact passes_wr (passes_wr (passes_advanceDev _ d))
    · unfold pauseExpiry
      split
      · obtain ⟨hrun, hpaused⟩ := endPause_other (d := advanceDev (macRun mac d).pauseEnd d) hk
        exact ⟨hrun.trans (macRun_advanceDev _ _ _), hpaused.trans (rd_advanceDev _ _ _ _)⟩
      · exact ⟨rfl, rfl⟩
  · refine carried_effect (fun _ => rfl) (fun _ _ => execPauseEnWrite_keeps) (by decide +kernel) (fun _ _ h => h) fun _ d ho _ => ?_
    obtain ⟨hkept, hends⟩ := pauseEnWrite_cases mac en d
    simp only [rdB, macRun_raises]
    simp (disch := decide) only [rd_raises_off]
    by_cases h : en = true ∨ rdB MAC_STATUS_paused [mac] d = false
    · rw [hkept h]
      refine ⟨rdB_wrB_same _ _ _ _ (by decide), fun hen => ?_, fun _ => rd_wrB_off _ _ (by decide), fun k _ hk => ⟨macRun_wrB _ _ _ _ _, ?_⟩⟩
      · rw [rd_wrB_off _ _ (by decide)]
        exact h.resolve_left (by simp [hen])
      · exact rd_wr_index _ _ (by decide) hk
    · obtain ⟨hen, hp⟩ : en = false ∧ rdB MAC_STATUS_paused [mac] d = true := by simpa using h
      obtain ⟨hpaused, -, -⟩ := endPause_shows mac (wrB MAC_PAUSE_pause_en [mac] en d)
      rw [hends hen hp]
      refine ⟨?_, fun _ => by rw [hpaused]; rfl, fun he => absurd he (by simp [hen]), fun k _ hk => ⟨?_, ?_⟩⟩
      · rw [rd_endPause _ _ (by decide) (by decide)]
        exact rdB_wrB_same _ _ _ _ (by decide)
      · rw [(endPause_other hk).1, macRun_wrB]
      · rw [rd_endPause _ _ (by decide) (by decide)]
        exact rd_wr_index _ _ (by decide) hk
  · refine carried_effect (fun _ => rfl) (fun _ _ => execTransmitFrame_keeps) (by decide +kernel) (fun _ _ h => h) fun _ d ho _ => ?_
    exact ⟨fun h => unchanged_of_eq ho (sendFrame_noLink h), fun _ hn h => unchanged_of_eq ho (by subst hn; exact sendFrame_held h)⟩

/-- Settles O46: a frame's first condition decides its fate, and its fate which counter counts it. -/
theorem receivedFramesMeetTheirFate : Obligations.ReceivedFramesMeetTheirFate := by
  intro mac frame
  refine carried_effect (fun _ => rfl) (fun _ _ => execReceiveFrame_keeps) (by decide +kernel) (fun _ _ h => h) fun hw d ho _ => ?_
  have hm : mac < 48 := of_decide_eq_true hw
  have hmacs : (symbolsTaken mac frame d).macs = d.macs := symbolsTaken_macs mac frame d
  have hrd : ∀ f ix, f.no % 1024 ≠ LNS_SYMERR_corrected.no % 1024 → rd f ix (symbolsTaken mac frame d) = rd f ix d := fun _ _ h => rd_symbolsTaken h
  have hruntNo := hrd MAC_CNT0_runt [mac] (by decide)
  have hoverNo := hrd MAC_CNT0_oversize [mac] (by decide)
  have hfcsNo := hrd MAC_CNT0_fcs_err [mac] (by decide)
  have hpauseNo := hrd MAC_CNT0_pause_rx [mac] (by decide)
  simp only [rdB, macRun_raises, raises_macs]
  simp (disch := decide) only [rd_raises_off]
  refine ⟨fun h => ?_, fun hr hl => ?_⟩
  · rw [receiveFrame_idle hm h]
    exact ⟨hruntNo, hoverNo, hfcsNo, hpauseNo, hmacs⟩
  · obtain ⟨hrunt, hover, hfcs, hpause⟩ := receiveFrame_live (frame := frame) hm hr hl
    refine ⟨fun h => ?_, fun h1 h2 => ?_, fun h1 h2 h3 => ?_, fun quanta h1 h2 h3 h4 h5 => ?_⟩
    · rw [hrunt h, rd_count_same, hruntNo]
      exact ⟨rfl, by rw [rd_count_off _ _ (by decide), hoverNo], by rw [rd_count_off _ _ (by decide), hfcsNo], hmacs⟩
    · rw [hover h1 h2, rd_count_same, hoverNo]
      exact ⟨rfl, by rw [rd_count_off _ _ (by decide), hruntNo], by rw [rd_count_off _ _ (by decide), hfcsNo], hmacs⟩
    · rw [hfcs h1 h2 h3, rd_count_same, hfcsNo]
      exact ⟨rfl, by rw [rd_count_off _ _ (by decide), hruntNo], hmacs⟩
    · rw [hpause quanta h1 h2 h3 h4 h5]
      obtain ⟨hcount, hseen, hfired⟩ := pauseFrame_counts mac quanta (symbolsTaken mac frame d)
      obtain ⟨hoff, hend, hheld⟩ := pauseFrame_holds mac quanta (symbolsTaken mac frame d)
      have hen : rdB MAC_PAUSE_pause_en [mac] (symbolsTaken mac frame d) = rdB MAC_PAUSE_pause_en [mac] d := by
        rw [rdB, rdB, hrd _ _ (by decide)]
      have hrate : portRate mac (symbolsTaken mac frame d) = portRate mac d := by rw [portRate, portRate, hrd _ _ (by decide)]
      have htime : (symbolsTaken mac frame d).devTime = d.devTime := (symbolsTaken_kept mac frame d).devTime (by decide)
      rw [hpauseNo] at hcount
      rw [hen, hrd MAC_STATUS_paused _ (by decide)] at hoff
      rw [hen] at hend
      rw [hen, hrate, htime] at hheld
      exact ⟨hcount, hseen, fired_raises ((FaultsKept.refl d).kept (symbolsTaken_kept mac frame d) |>.of_fired hfired), hoff, hend, hheld⟩

end Sys2Proof
end

section
set_option Elab.async false
set_option exponentiation.threshold 2048
/-! PROOFS. Media flows (O47). -/

namespace Sys2Proof.Machine

/-! ### Packets sent -/

section Send
variable {e : Nat} {d : Dev}

@[simp] theorem txRun_setTxRun (e : Nat) (r : TxRun) (d : Dev) : txRun e (setTxRun e r d) = r := tabGet_set_same _ _ _ _

@[simp] theorem rd_setTxRun (f : Fld) (ix : List Nat) (e : Nat) (r : TxRun) (d : Dev) : rd f ix (setTxRun e r d) = rd f ix d := rfl

@[simp] theorem txRun_wr (e : Nat) (f : Fld) (ix : List Nat) (v : Nat) (d : Dev) : txRun e (wr f ix v d) = txRun e d := rfl

theorem txRun_congr {x : Dev} (e : Nat) (h : x.flw = d.flw) : txRun e x = txRun e d := by rw [txRun, txRun, h]

/-- The counters of a leg are counters of packets, not the sequence number. -/
theorem txCounters_ne (g : Nat) : FLW_TX_seq.no % 1024 ≠ (txPkts g).no % 1024 ∧ FLW_TX_seq.no % 1024 ≠ (txDrops g).no % 1024 := by
  unfold txPkts txDrops
  split <;> decide

/-- What one leg of a packet leaves: the flow tables and the sequence number. -/
def LegLeaves (e : Nat) (d x : Dev) : Prop := x.flw = d.flw ∧ rd FLW_TX_seq [e] x = rd FLW_TX_seq [e] d

theorem legLeaves_countWrap {f : Fld} {x : Dev} (ix : List Nat) (h : LegLeaves e d x) (hf : FLW_TX_seq.no % 1024 ≠ f.no % 1024) :
    LegLeaves e d (countWrap f ix 1 x) := ⟨h.1, (rd_wr_off _ _ hf).trans h.2⟩

theorem sendRtp_leaves (e ts payload : Nat) (d : Dev) : ∃ seq, ((txRun e d).sent = true → seq = rd FLW_TX_seq [e] d) ∧
    LegLeaves e (setTxRun e { txRun e d with sent := true } (wr FLW_TX_seq [e] (seq + 1) (wr FLW_TX_ts [e] ts d))) (sendRtp e ts payload d) := by
  unfold sendRtp
  extract_lets r x first seq shown
  refine ⟨seq, fun h => if_pos h, ?_⟩
  refine forUpTo_holds (P := LegLeaves e shown) ⟨rfl, rfl⟩ fun g y hy => ?_
  split
  · next leg _ =>
    have hk := offerMedia_keeps (m := leg.mac) (f := { len := wireLen leg payload, entry := e + 1 }) (Kept.refl _ y) (Sub.refl _)
    have hoffer : LegLeaves e shown (offerMedia leg.mac { len := wireLen leg payload, entry := e + 1 } y).1 :=
      ⟨(hk.flw (by decide)).trans hy.1, (hk.rd _ _ (by decide)).trans hy.2⟩
    have hpkts := legLeaves_countWrap [e] hoffer (txCounters_ne g).1
    exact ite_holds (legLeaves_countWrap [e] hpkts (txCounters_ne g).2) hpkts
  · exact hy

/-- A packet sent is one above the last in its sequence. -/
theorem sendRtp_shows (e ts payload : Nat) (d : Dev) : txRun e (sendRtp e ts payload d) = { txRun e d with sent := true } ∧
    ((txRun e d).sent = true → rd FLW_TX_seq [e] (sendRtp e ts payload d) = (rd FLW_TX_seq [e] d + 1) % 2 ^ FLW_TX_seq.w) := by
  obtain ⟨seq, hseq, hflw, hrd⟩ := sendRtp_leaves e ts payload d
  refine ⟨(txRun_congr e hflw).trans (txRun_setTxRun _ _ _), fun h => ?_⟩
  rw [hrd, rd_setTxRun, rd_wr_same, hseq h]

theorem packetOffer_stays (h : dstAt (txRun e d).dst d = none ∨ rdB FLW_TX_valid [e] d = false ∨ inSafe d = true) : packetOffer e d = d := by
  unfold packetOffer
  extract_lets r x
  split
  · rfl
  · next t ht =>
    refine if_pos ?_
    rcases h with h | h | h
    · rw [h] at ht; cases ht
    · simp [h]
    · simp [h]

section Live
variable {x : DstDesc} (hx : dstAt (txRun e d).dst d = some x) (hv : rdB FLW_TX_valid [e] d = true) (hs : inSafe d = false)
include hx hv hs

theorem packetOffer_picture (hk : isAudio (txRun e d).desc.kind = false) (hf : (txRun e d).frames = []) : packetOffer e d = d := by
  unfold packetOffer
  simp [hx, hv, hs, hk, hf]

theorem packetOffer_silent (hk : isAudio (txRun e d).desc.kind = true) (ha : (txRun e d).audio = 0) : packetOffer e d = d := by
  unfold packetOffer
  simp [hx, hv, hs, hk, ha]

/-- The instant of an audio packet: two sample periods after its last sample. -/
def audioPacketAt (r : TxRun) (x : DstDesc) : Nat := unitsOfNib (r.audio * txSpp r.desc * samplePeriod x.rate + 2 * samplePeriod x.rate)

theorem packetOffer_audio (hk : isAudio (txRun e d).desc.kind = true) (ha : (txRun e d).audio ≠ 0) : ∃ ts bytes, packetOffer e d =
    sendRtp e ts bytes (setTxRun e { txRun e d with audio := (txRun e d).audio + 1 } (advanceTo (audioPacketAt (txRun e d) x) d)) := by
  have hpred : (txRun e d).audio - 1 + 1 = (txRun e d).audio := Nat.succ_pred_eq_of_ne_zero ha
  unfold packetOffer audioPacketAt
  simp only [hx, hv, hs, hk, ha, hpred, Bool.not_true, Bool.or_self, Bool.false_eq_true, if_false, if_true]
  exact ⟨_, _, rfl⟩

end Live

/-- What an audio packet's offer does: its instant, the packets counted and the sequence number. -/
theorem packetOffer_sends {x : DstDesc} (hx : dstAt (txRun e d).dst d = some x) (hv : rdB FLW_TX_valid [e] d = true) (hs : inSafe d = false)
    (hk : isAudio (txRun e d).desc.kind = true) (ha : (txRun e d).audio ≠ 0) :
    Comes (audioPacketAt (txRun e d) x) d (packetOffer e d) ∧ (txRun e (packetOffer e d)).audio = (txRun e d).audio + 1 ∧
    (txRun e (packetOffer e d)).sent = true ∧
    ((txRun e d).sent = true → rd FLW_TX_seq [e] (packetOffer e d) = (rd FLW_TX_seq [e] d + 1) % 2 ^ FLW_TX_seq.w) := by
  obtain ⟨ts, bytes, heq⟩ := packetOffer_audio hx hv hs hk ha
  rw [heq]
  have hcome := comes_advanceTo (audioPacketAt (txRun e d) x) d
  have hseq : rd FLW_TX_seq [e] (advanceTo (audioPacketAt (txRun e d) x) d) = rd FLW_TX_seq [e] d := rd_advanceTo _ _ _ d
  generalize audioPacketAt (txRun e d) x = t at hcome hseq ⊢
  generalize advanceTo t d = y at hcome hseq ⊢
  obtain ⟨hrun, hnum⟩ := sendRtp_shows e ts bytes (setTxRun e { txRun e d with audio := (txRun e d).audio + 1 } y)
  rw [txRun_setTxRun] at hrun hnum
  refine ⟨(sendRtp_keeps (Kept.refl _ _) (Sub.refl _)).comes ?_, by rw [hrun], by rw [hrun], fun h => ?_⟩
  · exact hcome
  · rw [hnum h, rd_setTxRun, hseq]

end Send

/-! ### Packets received -/

section Receive
variable {e : Nat} {d : Dev}

@[simp] theorem rd_setRxRun (f : Fld) (ix : List Nat) (e : Nat) (r : RxRun) (d : Dev) : rd f ix (setRxRun e r d) = rd f ix d := rfl

theorem packetRelease_stays (h : (rxRun e d).acquired = false ∨ rdB FLW_RX_valid [e] d = false) : packetRelease e d = d := by
  unfold packetRelease
  exact if_pos (by rcases h with h | h <;> simp [h])

theorem packetRelease_audio (h1 : (rxRun e d).acquired = true) (h2 : rdB FLW_RX_valid [e] d = true) (h3 : isPicture (rxRun e d).desc.kind = false)
    (h4 : isAudio (rxRun e d).desc.kind = true) : packetRelease e d =
    releaseAudio e ((rxRun e d).base + rxDelay (rxRun e d).desc d) (advanceTo (unitsOfNib ((rxRun e d).base + rxDelay (rxRun e d).desc d)) d) := by
  unfold packetRelease
  simp [h1, h2, h3, h4]

theorem FaultsKept.lossContent {x : Dev} (e : Nat) (h : FaultsKept d x) : FaultsKept d (lossContent e x) := by
  unfold Machine.lossContent
  extract_lets desc run y
  have hy : FaultsKept d y := FaultsKept.ite (h.kept (absentFlow_keeps (Kept.refl _ x) (Sub.refl _))) (FaultsKept.ite (h.of_regs rfl rfl) h)
  clear_value y
  exact FaultsKept.ite (hy.declareLoss _) hy

/-- A flow that was not lost is shown as lost, and fires. -/
theorem flowLost_shows (h1 : rdB FLW_RX_lost [e] d = false) (h2 : rdB FLW_RX_valid [e] d = true) :
    rd FLW_RX_lost [e] (flowLost e d) = 1 ∧ rd FLW_STATUS_flow_lost [] (flowLost e d) = 1 ∧ Fired 144 d (flowLost e d) := by
  unfold flowLost
  rw [if_neg (by simp [h1, h2])]
  extract_lets a b c
  have hb : FaultsKept d b := .wr (.count (.wr (.wr (.wr (.wr (.wr (.refl d)))))))
  have hlost : rd FLW_RX_lost [e] b = 1 := by dsimp only [b, a]; simp (disch := decide) [rd_wr_same]
  have hshown : rd FLW_STATUS_flow_lost [] b = 1 := by dsimp only [b]; simp (disch := decide) [rd_wr_same]
  clear_value b
  have hk := lossContent_keeps (e := e) (Kept.refl _ (setRxRun e (forgetTiming (rxRun e b)) b)) (Sub.refl _)
  refine ⟨?_, ?_, FaultsKept.fired 144 (FaultsKept.lossContent e ?_)⟩
  · rw [rd_fire_off _ _ (by decide) (by decide) (by decide), hk.rd _ _ (by decide), rd_setRxRun, hlost]
  · rw [rd_fire_off _ _ (by decide) (by decide) (by decide), hk.rd _ _ (by decide), rd_setRxRun, hshown]
  · exact hb.of_regs rfl rfl

theorem opaqueTimeout_stays (h : (rxRun e d).desc.kind ≠ 5 ∨ rdB FLW_RX_lost [e] d = true ∨ rdB FLW_RX_valid [e] d = false) : opaqueTimeout e d = d := by
  unfold opaqueTimeout
  exact if_neg (by rcases h with h | h | h <;> simp [h])

theorem opaqueTimeout_eq (h1 : (rxRun e d).desc.kind = 5) (h2 : rdB FLW_RX_lost [e] d = false) (h3 : rdB FLW_RX_valid [e] d = true) :
    opaqueTimeout e d = flowLost e (advanceTo (unitsOfNib ((rxRun e d).arrived + 2 * rxPeriod (rxRun e d).desc d)) d) := by
  unfold opaqueTimeout
  exact if_pos ⟨h1, by simp [h2], h3⟩

theorem opaqueTimeout_loses (h1 : (rxRun e d).desc.kind = 5) (h2 : rdB FLW_RX_lost [e] d = false) (h3 : rdB FLW_RX_valid [e] d = true) :
    Comes (unitsOfNib ((rxRun e d).arrived + 2 * rxPeriod (rxRun e d).desc d)) d (opaqueTimeout e d) ∧
    rd FLW_RX_lost [e] (opaqueTimeout e d) = 1 ∧ rd FLW_STATUS_flow_lost [] (opaqueTimeout e d) = 1 ∧ Fired 144 d (opaqueTimeout e d) := by
  rw [opaqueTimeout_eq h1 h2 h3]
  generalize unitsOfNib ((rxRun e d).arrived + 2 * rxPeriod (rxRun e d).desc d) = t
  have hcome := comes_advanceTo t d
  have hfaults := faultsKept_advanceTo t d
  obtain ⟨hlost, hshown, hfired⟩ := flowLost_shows (e := e) (d := advanceTo t d) (by rw [rdB, rd_advanceTo]; exact h2) (by rw [rdB, rd_advanceTo]; exact h3)
  exact ⟨(flowLost_keeps (Kept.refl _ _) (Sub.refl _)).comes hcome, hlost, hshown, hfaults.of_fired hfired⟩

end Receive

/-! ### Markers, membership and sequence numbers -/

section Marker
variable {i : Nat} {d : Dev}

theorem opaqueMarkerTimeout_stays (h : (dstRun i d).opaqueOld = none) : opaqueMarkerTimeout i d = d := by
  unfold opaqueMarkerTimeout
  simp only [h]

theorem opaqueMarkerTimeout_eq {x : Nat × Nat} (h : (dstRun i d).opaqueOld = some x) :
    opaqueMarkerTimeout i d = setDstRun i { dstRun i d with opaqueOld := none, opaqueWait := true } (advanceTo x.2 d) := by
  unfold opaqueMarkerTimeout
  simp only [h]

theorem dstRun_advanceTo (k t : Nat) (d : Dev) : dstRun k (advanceTo t d) = dstRun k d := by
  rw [dstRun, dstRun, (advanceTo_keeps (Kept.refl _ d) (Sub.refl _)).xpt (by decide)]

theorem opaqueMarkerTimeout_other {k : Nat} (d : Dev) (h : k ≠ i) : dstRun k (opaqueMarkerTimeout i d) = dstRun k d := by
  unfold opaqueMarkerTimeout
  extract_lets r
  split
  · exact (tabGet_set_ne _ _ _ h).trans (dstRun_advanceTo k _ d)
  · rfl

theorem reportRepeat_none (n : Nat) (h : d.flw.memb[n]? = none) : reportRepeat n d = d := by
  unfold reportRepeat
  simp only [h]

theorem reportRepeat_done {n : Nat} {m : Memb} (h : d.flw.memb[n]? = some m) (hl : m.left = 0) : reportRepeat n d = d := by
  unfold reportRepeat
  simp only [h]
  exact if_pos hl

/-- An owed report, and the list it leaves. -/
theorem reportRepeat_owed {n : Nat} {m : Memb} (h : d.flw.memb[n]? = some m) (hl : m.left ≠ 0) :
    ∃ flw, reportRepeat n d = sendReport m { advanceDev m.nextAt d with flw := flw } := by
  unfold reportRepeat
  simp only [h]
  exact ⟨_, if_neg hl⟩

theorem sendReport_count (m : Memb) (d : Dev) : rd FLW_MEMB_reports [] (sendReport m d) =
    if linkUp m.mac d then min (2 ^ FLW_MEMB_reports.w - 1) (rd FLW_MEMB_reports [] d + 1) else rd FLW_MEMB_reports [] d := by
  unfold sendReport
  rw [apply_ite (rd FLW_MEMB_reports []), rd_count_same]

theorem passes_with_flw {t : Nat} {b : Flw} {d x : Dev} (h : Passes t d x) : Passes t d { x with flw := b } := h

theorem rd_with_flw (f : Fld) (ix : List Nat) (b : Flw) (d : Dev) : rd f ix { d with flw := b } = rd f ix d := rfl

theorem reportRepeat_shows {n : Nat} {m : Memb} (h : d.flw.memb[n]? = some m) (hl : m.left ≠ 0) : Passes m.nextAt d (reportRepeat n d) ∧
    rd FLW_MEMB_reports [] (reportRepeat n d) =
      if linkUp m.mac d then min (2 ^ FLW_MEMB_reports.w - 1) (rd FLW_MEMB_reports [] d + 1) else rd FLW_MEMB_reports [] d := by
  obtain ⟨flw, heq⟩ := reportRepeat_owed h hl
  have hp := passes_advanceDev m.nextAt d
  have hrd := fun f ix => rd_advanceDev m.nextAt f ix d
  generalize advanceDev m.nextAt d = x at heq hp hrd
  rw [heq]
  refine ⟨(sendReport_keeps (Kept.refl _ _) (Sub.refl _)).passes (passes_with_flw hp), ?_⟩
  simp only [sendReport_count, linkUp, rdB, rd_with_flw, hrd]
  rfl

end Marker

theorem extendSeq_first {v : Nat} (hv : v < 65536) : extendSeq none v = v := Nat.mod_eq_of_lt hv

/-- The extension is the number of that residue nearest to the one expected. -/
theorem extendSeq_next (q : Nat) {v : Nat} (hv : v < 65536) : extendSeq (some q) v < 2 ^ 32 ∧ extendSeq (some q) v % 65536 = v ∧
    ∃ near : Int, -32768 ≤ near ∧ near < 32768 ∧ ((extendSeq (some q) v : Int) - ((q : Int) + 1 + near)) % 4294967296 = 0 := by
  obtain ⟨r, hr⟩ : ∃ r, r = (q + 1) % 2 ^ 32 := ⟨_, rfl⟩
  obtain ⟨near, hnear⟩ : ∃ near : Int, near = if ((v : Int) - r) % 65536 < 32768 then ((v : Int) - r) % 65536 else ((v : Int) - r) % 65536 - 65536 := ⟨_, rfl⟩
  have hx : extendSeq (some q) v = (((r : Int) + near) % (4294967296 : Int)).toNat := by rw [hnear, hr]; rfl
  rw [hx]
  have hbound : -32768 ≤ near ∧ near < 32768 ∧ ((r : Int) + near - v) % 65536 = 0 := by
    rw [hnear]
    split <;> omega
  refine ⟨by omega, by omega, near, hbound.1, hbound.2.1, by omega⟩

end Sys2Proof.Machine

namespace Sys2Proof
open Machine

/-- Settles O47: each command's entry decides whether it does anything; what it then sends, releases or loses comes at the entry's instant. -/
theorem mediaFlows : Obligations.MediaFlows := by
  refine ⟨⟨fun entry => ?_, fun entry => ?_, fun entry => ?_, fun dst => ?_, fun report => ?_⟩, fun q v hv => ⟨extendSeq_first hv, fun x hx => ?_⟩⟩
  · refine carried_effect (fun _ => rfl) (fun _ _ => execPacketOffer_keeps) (by decide +kernel) (fun d e ⟨h1, h2⟩ => ⟨h1, fun x hx hv hs => ?_⟩)
      fun _ d ho _ => ⟨fun h => unchanged_of_eq ho (packetOffer_stays h), fun x hx hv hs => ⟨fun hk hf => unchanged_of_eq ho (packetOffer_picture hx hv hs hk hf),
        fun hk ha => unchanged_of_eq ho (packetOffer_silent hx hv hs hk ha), fun hk ha => ?_⟩⟩
    · obtain ⟨hp, hn, ha⟩ := h2 x hx hv hs
      exact ⟨hp, hn, fun hk h0 => ⟨comes_quiet.mp (ha hk h0).1, (ha hk h0).2⟩⟩
    · obtain ⟨hcome, haudio, hsent, hseq⟩ := packetOffer_sends hx hv hs hk ha
      rw [rd_raises_off _ _ (by decide), txRun_congr entry (raises_flw d (packetOffer entry d))]
      exact ⟨comes_raises hcome, haudio, hsent, hseq⟩
  · refine carried_effect (fun _ => rfl) (fun _ _ => execPacketRelease_keeps) (by decide +kernel)
      (fun d e ⟨h1, h2⟩ => ⟨h1, fun ha hv hp hk => comes_quiet.mp (h2 ha hv hp hk)⟩) fun _ d ho _ => ?_
    refine ⟨fun h => unchanged_of_eq ho (packetRelease_stays h), fun ha hv hp hk => comes_raises ?_⟩
    rw [packetRelease_audio ha hv hp hk]
    exact (releaseAudio_keeps (Kept.refl _ _) (Sub.refl _)).comes (comes_advanceTo _ d)
  · refine carried_effect (fun _ => rfl) (fun _ _ => execOpaqueFlowTimeout_keeps) (by decide +kernel)
      (fun d e ⟨h1, h2⟩ => ⟨h1, fun hk hl hv => ⟨comes_quiet.mp (h2 hk hl hv).1, (h2 hk hl hv).2⟩⟩) fun _ d ho _ => ?_
    refine ⟨fun h => unchanged_of_eq ho (opaqueTimeout_stays h), fun hk hl hv => ?_⟩
    obtain ⟨hcome, hlost, hshown, hfired⟩ := opaqueTimeout_loses hk hl hv
    simp (disch := decide) only [rd_raises_off]
    exact ⟨comes_raises hcome, hlost, hshown, fired_raises hfired⟩
  · refine carried_effect (fun _ => rfl) (fun _ _ => execOpaqueMarkerTimeout_keeps) (by decide +kernel)
      (fun d e ⟨h1, h2, h3⟩ => ⟨h1, fun x hx => ⟨comes_quiet.mp (h2 x hx).1, (h2 x hx).2⟩, h3⟩) fun _ d ho _ => ?_
    have hrun : ∀ k, dstRun k (raises d (opaqueMarkerTimeout dst d)) = dstRun k (opaqueMarkerTimeout dst d) := fun k => by rw [dstRun, dstRun, raises_xpt]
    simp only [hrun]
    refine ⟨fun h => unchanged_of_eq ho (opaqueMarkerTimeout_stays h), fun x hx => ?_, fun k hk => opaqueMarkerTimeout_other d hk⟩
    have hcome := comes_advanceTo x.2 d
    rw [opaqueMarkerTimeout_eq hx, show dstRun dst (setDstRun dst { dstRun dst d with opaqueOld := none, opaqueWait := true } (advanceTo x.2 d)) =
      { dstRun dst d with opaqueOld := none, opaqueWait := true } from tabGet_set_same _ _ _ _]
    generalize advanceTo x.2 d = y at hcome ⊢
    exact ⟨comes_raises hcome, rfl, rfl⟩
  · refine carried_effect (fun _ => rfl) (fun _ _ => execReportRepeat_keeps) (by decide +kernel)
      (fun d e ⟨h1, h2⟩ => ⟨h1, fun m hm => ⟨(h2 m hm).1, fun hl => ⟨passes_quiet.mp ((h2 m hm).2 hl).1, ((h2 m hm).2 hl).2⟩⟩⟩) fun _ d ho _ => ?_
    refine ⟨fun h => unchanged_of_eq ho (reportRepeat_none report h), fun m hm => ⟨fun hl => unchanged_of_eq ho (reportRepeat_done hm hl), fun hl => ?_⟩⟩
    obtain ⟨hp, hcount⟩ := reportRepeat_shows hm hl
    rw [rd_raises_off _ _ (by decide)]
    exact ⟨passes_raises hp, hcount⟩
  · rw [hx]
    exact extendSeq_next q hv

end Sys2Proof
end

section
set_option Elab.async false
set_option exponentiation.threshold 2048
/-! PROOFS. The window behind BAR2 and overlays (O48). -/

namespace Sys2Proof.Machine

/-! ### Addresses of the window -/

section Window
variable {a k m off n : Nat} {d x : Dev}

/-- What an access through the window may change. -/
def windowMask : Nat := 0x1f8100000000000000040001000000000000000000000000000000000000000000000000000000000000000000000000000008000002000000000000200000000000000000000000000000000000000000000000000000000000000000000000000000000000000000000000000000000000000000000004000000033041

/-- An access leaves the apertures and the formats, so an address keeps naming the same byte. -/
theorem bar2Target_kept (a : Nat) (h : Kept windowMask d x) : bar2Target a x = bar2Target a d := by
  have hrd : ∀ f ix, Nat.testBit windowMask (33 + f.no % 1024) = false → rd f ix x = rd f ix d := fun f ix hf => h.rd f ix hf
  have hpat : x.pat = d.pat := h.pat (by decide)
  have hfmt : ∀ e, fmtOf e x = fmtOf e d := fun e => by simp only [fmtOf, fmtDef, hpat]
  have hsize : ∀ q, overlaySize q x = overlaySize q d := fun q => by
    rw [overlaySize, overlaySize, headFmt, headFmt, hfmt, hrd QLT_HEAD_FMT_fmt _ (by decide), h.rdB QLT_HEAD_FMT_gang _ (by decide)]
  simp only [bar2Target, hsize, hrd INK_WIN_offset _ (by decide), hrd INK_WIN_target _ (by decide), hrd INK_WIN_head _ (by decide),
    hrd INK_OVL_front _ (by decide)]

/-- Whether the overlay an address lies in waits for its flip. -/
def flipWaits (a : Nat) (d : Dev) : Bool := rdB INK_OVL_pending [rd INK_WIN_head [a / 33554432 % 32] d] d

theorem flipWaits_kept (a : Nat) (h : Kept windowMask d x) : flipWaits a x = flipWaits a d := by
  unfold flipWaits
  rw [h.rd INK_WIN_head _ (by decide), h.rdB INK_OVL_pending _ (by decide)]

/-! ### Bytes written -/

/-- One byte changes at most the byte its address names. -/
theorem bar2WriteByte_other (v : Nat) (h : Kept windowMask d x) (hk : ∀ w, bar2Target a d ≠ some (k, w)) :
    tabGet 0 (bar2WriteByte a v x).ink.bytes k = tabGet 0 x.ink.bytes k := by
  unfold bar2WriteByte
  rw [bar2Target_kept a h]
  split
  · next j heq =>
    split
    · rfl
    · exact tabGet_set_ne _ _ _ fun hj => hk true (hj ▸ heq)
  · rfl

theorem bar2WriteByte_writes (v : Nat) (h : Kept windowMask d x) (hk : bar2Target a d = some (k, true)) (hp : flipWaits a d = false) :
    tabGet 0 (bar2WriteByte a v x).ink.bytes k = v % 256 := by
  have hw : rdB INK_OVL_pending [rd INK_WIN_head [a / 33554432 % 32] x] x = false := (flipWaits_kept a h).trans hp
  unfold bar2WriteByte
  rw [bar2Target_kept a h, hk]
  simp only [hw, Bool.false_eq_true, if_false]
  exact tabGet_set_same _ _ _ _

/-- The bytes behind the window as an access found them, but for those its addresses name. -/
def BytesStay (k : Nat) (d x : Dev) : Prop := Kept windowMask d x ∧ tabGet 0 x.ink.bytes k = tabGet 0 d.ink.bytes k

theorem bytesStay_write {bytes : List Nat} (h : BytesStay k d x) (hk : ∀ i < bytes.length, ∀ w, bar2Target (a + i) d ≠ some (k, w)) :
    BytesStay k d (bar2Write a bytes x) := by
  have hall : BytesStay k d (forEach ((List.range bytes.length).zip bytes) (fun p y => bar2WriteByte (a + p.1) p.2 y) x) := by
    refine forEach_mem_holds (P := BytesStay k d) h fun p hp y hy => ?_
    have hi : p.1 < bytes.length := List.mem_range.mp (List.of_mem_zip hp).1
    exact ⟨bar2WriteByte_keeps hy.1 (by decide), (bar2WriteByte_other p.2 hy.1 (hk p.1 hi)).trans hy.2⟩
  unfold bar2Write
  split
  · split
    · refine ⟨fire_keeps (wr_keeps h.1 (by decide)) (by decide), ?_⟩
      rw [(fire_only_kept 164 _).ink (by decide)]
      exact h.2
    · exact hall
  · exact hall

theorem bar2Write_byte (v : Nat) (h : Kept windowMask d x) (hk : bar2Target a d = some (k, true)) (hp : flipWaits a d = false) :
    tabGet 0 (bar2Write a [v] x).ink.bytes k = v % 256 := by
  have hone : forEach ((List.range [v].length).zip [v]) (fun p y => bar2WriteByte (a + p.1) p.2 y) x = bar2WriteByte a v x := rfl
  have hw : rdB INK_OVL_pending [rd INK_WIN_head [a / 33554432 % 32] x] x = false := (flipWaits_kept a h).trans hp
  unfold bar2Write
  rw [bar2Target_kept a h, hk, hone]
  simp only [hw, Bool.false_eq_true, if_false]
  exact bar2WriteByte_writes v h hk hp

/-! ### An access -/

/-- The device with the channel behind the window woken. -/
def windowWoken (off : Nat) (d : Dev) : Dev := match bar2Channel off d with | some c => wakeChannel c d | none => d

theorem windowWoken_kept (off : Nat) (d : Dev) : Kept windowMask d (windowWoken off d) ∧ (windowWoken off d).ink = d.ink := by
  unfold windowWoken
  split
  · exact ⟨wakeChannel_keeps (Kept.refl _ d) (by decide), (wakeChannel_keeps (Kept.refl _ d) (Sub.refl _)).ink (by decide)⟩
  · exact ⟨Kept.refl _ d, rfl⟩

theorem windowAccess_barred {w : Option (List (Nat × Nat))} (h : canAsk m d = false) : windowAccess m off n w d = d := by
  unfold windowAccess
  exact if_pos (by simp [h])

/-- An access refused to its master ends in the default target. -/
theorem windowAccess_default {w : Option (List (Nat × Nat))} (hc : canAsk m d = true) (h : m = 3 ∨ (m = 5 ∧ d.nv.testOpen = false)) :
    windowAccess m off n w d = emit (.errorResponse m) (defaultTarget m off w.isSome d) := by
  unfold windowAccess
  rw [if_neg (by simp [hc]), if_pos (by rcases h with h | h <;> simp [h])]

theorem windowAccess_ink {w : Option (List (Nat × Nat))} (h : canAsk m d = false ∨ m = 3 ∨ (m = 5 ∧ d.nv.testOpen = false)) :
    (windowAccess m off n w d).ink = d.ink := by
  by_cases hc : canAsk m d = true
  · rw [windowAccess_default hc (h.resolve_left (by simp [hc]))]
    exact (emit_keeps (defaultTarget_keeps (Kept.refl _ d) (Sub.refl _)) (by decide)).ink (by decide)
  · rw [windowAccess_barred (by simpa using hc)]

theorem windowAccess_open {w : Option (List (Nat × Nat))} (hc : canAsk m d = true) (h : m < 3 ∨ m = 4 ∨ (m = 5 ∧ d.nv.testOpen = true)) :
    (w = none → windowAccess m off n w d = forUpTo n (fun k d => emit (.readData m (bar2Read (off + k) d)) d) (windowWoken off d)) ∧
    (∀ bs, w = some bs → windowAccess m off n w d =
      if decide (bs.map (·.1) = List.range bs.length) then bar2Write off (bs.map (·.2)) (windowWoken off d)
      else forEach bs (fun b d => bar2Write (off + b.1) [b.2] d) (windowWoken off d)) := by
  have hno : ¬ (m = 3 ∨ 5 < m ∨ m = 5 ∧ (!d.nv.testOpen) = true) := by
    rcases h with h | h | ⟨h, ht⟩
    · omega
    · omega
    · simp [h, ht]
  unfold windowAccess
  rw [if_neg (by simp [hc]), if_neg hno]
  exact ⟨fun h => by rw [h]; rfl, fun bs h => by rw [h]; rfl⟩

/-- The masters an access may come from, by whether it reaches the window. -/
theorem windowMasters (hm : m < 6) (d : Dev) :
    (canAsk m d = false ∨ m = 3 ∨ (m = 5 ∧ d.nv.testOpen = false)) ∨ (canAsk m d = true ∧ (m < 3 ∨ m = 4 ∨ (m = 5 ∧ d.nv.testOpen = true))) := by
  cases canAsk m d <;> cases d.nv.testOpen <;> simp <;> omega

theorem windowAccess_read (hm : m < 6) (d : Dev) : (windowAccess m off n none d).ink.bytes = d.ink.bytes := by
  rcases windowMasters hm d with h | ⟨hc, h⟩
  · rw [windowAccess_ink h]
  · rw [(windowAccess_open hc h).1 rfl]
    exact forUpTo_holds (P := fun y : Dev => y.ink.bytes = d.ink.bytes) (by rw [(windowWoken_kept off d).2]) fun _ _ hy => hy

/-- A write changes no byte that none of its addresses names. -/
theorem windowAccess_other {bs : List (Nat × Nat)} (hm : m < 6) (hk : ∀ b w, b ∈ bs → bar2Target (off + b.1) d ≠ some (k, w)) :
    tabGet 0 (windowAccess m off n (some bs) d).ink.bytes k = tabGet 0 d.ink.bytes k := by
  rcases windowMasters hm d with h | ⟨hc, h⟩
  · rw [windowAccess_ink h]
  · obtain ⟨hwoken, hink⟩ := windowWoken_kept off d
    have hstart : BytesStay k d (windowWoken off d) := ⟨hwoken, by rw [hink]⟩
    rw [(windowAccess_open hc h).2 bs rfl]
    split
    · next hfull =>
      refine (bytesStay_write hstart fun i hi w => ?_).2
      have hin : i ∈ bs.map (·.1) := by
        rw [of_decide_eq_true hfull]
        exact List.mem_range.mpr (by simpa using hi)
      obtain ⟨b, hb, rfl⟩ := List.mem_map.mp hin
      exact hk b w hb
    · refine (forEach_mem_holds (P := BytesStay k d) hstart fun b hb y hy => bytesStay_write hy fun i hi w => ?_).2
      have h0 : i = 0 := by simpa using hi
      rw [h0]
      exact hk b w hb

theorem windowAccess_byte {o v : Nat} (hc : canAsk m d = true) (h : m < 3 ∨ m = 4) (hk : bar2Target (off + o) d = some (k, true))
    (hp : flipWaits (off + o) d = false) : tabGet 0 (windowAccess m off n (some [(o, v)]) d).ink.bytes k = v % 256 := by
  have hwoken := (windowWoken_kept off d).1
  rw [(windowAccess_open hc (h.imp_right .inl)).2 _ rfl]
  split
  · next hfull =>
    have h0 : o = 0 := by simpa using hfull
    subst h0
    exact bar2Write_byte v hwoken hk hp
  · exact bar2Write_byte v hwoken hk hp

end Window

/-! ### Overlays -/

section Overlay
variable {h : Nat} {d : Dev}

theorem overlayExchange_stays (hs : rdB INK_OVL_pending [h] d = false ∨ famRunning (rd QLT_HEAD_FMT_fam [h] d) d = false) : overlayExchange h d = d := by
  unfold overlayExchange
  exact if_neg (by rcases hs with hs | hs <;> simp [hs])

theorem overlayExchange_eq (hp : rdB INK_OVL_pending [h] d = true) (hr : famRunning (rd QLT_HEAD_FMT_fam [h] d) d = true) : overlayExchange h d =
    wr INK_OVL_pending [h] 0 (wr INK_OVL_front [h] (1 - rd INK_OVL_front [h] (atGrid (famPeriod (rd QLT_HEAD_FMT_fam [h] d) d) 0 (60 + h) d))
      (atGrid (famPeriod (rd QLT_HEAD_FMT_fam [h] d) d) 0 (60 + h) d)) := by
  unfold overlayExchange
  exact if_pos (by simp [hp, hr])

theorem overlayExchange_other {k : Nat} (d : Dev) (hk : k ≠ h) : rd INK_OVL_front [k] (overlayExchange h d) = rd INK_OVL_front [k] d := by
  by_cases hc : rdB INK_OVL_pending [h] d = true ∧ famRunning (rd QLT_HEAD_FMT_fam [h] d) d = true
  · rw [overlayExchange_eq hc.1 hc.2, rd_wr_off _ _ (by decide), rd_wr_index _ _ (by decide) hk, rd_atGrid]
  · rw [overlayExchange_stays (by by_cases hp : rdB INK_OVL_pending [h] d = true <;> simp_all)]

end Overlay

end Sys2Proof.Machine

namespace Sys2Proof
open Machine

/-- Settles O48: every step of an access leaves what its addresses name, so a byte that none names stays. -/
theorem windowAndOverlays : Obligations.WindowAndOverlays := by
  refine ⟨fun master off size bytes => ?_, fun head => ?_, fun head => ?_⟩
  · refine carried_effect (fun _ => rfl) (fun _ _ => execBar2Access_keeps) (by decide +kernel) (fun _ _ h => h) fun hw d _ _ => ?_
    simp only [Instr.wf, Bool.and_eq_true, decide_eq_true_eq] at hw
    obtain ⟨hm, -⟩ := hw
    simp only [raises_ink]
    refine ⟨fun h => ?_, fun h => windowAccess_ink (.inl h), fun h => windowAccess_ink (.inr h), fun bs h => ⟨fun k hk => ?_, fun o v k hbs hc hma hk hp => ?_⟩⟩
    · subst h; exact windowAccess_read hm d
    · subst h; exact windowAccess_other hm hk
    · subst h hbs; exact windowAccess_byte hc hma hk hp
  · refine carried_effect (fun _ => rfl) (fun _ _ => execFlip_keeps) (by decide +kernel) (fun _ _ h => h) fun _ d _ _ => ?_
    have heq : overlayFlip head true d = wr INK_OVL_pending [head] 1 d := rfl
    simp (disch := decide) only [rd_raises_off, heq]
    exact ⟨rd_wr_same _ _ _ _, fun k _ => rd_wr_off _ _ (by decide), fun k _ hk => rd_wr_index _ _ (by decide) hk⟩
  · refine carried_effect (fun _ => rfl) (fun _ _ => execOverlayExchange_keeps) (by decide +kernel)
      (fun d e ⟨h1, h2⟩ => ⟨fun fam hf => ⟨(h1 fam hf).1, fun hp hr => ⟨comes_quiet.mp ((h1 fam hf).2 hp hr).1, ((h1 fam hf).2 hp hr).2⟩⟩, h2⟩) fun _ d ho _ => ?_
    simp (disch := decide) only [rd_raises_off]
    refine ⟨?_, fun k _ hk => overlayExchange_other d hk⟩
    rintro fam rfl
    refine ⟨fun h => unchanged_of_eq ho (overlayExchange_stays h), fun hp hr => ?_⟩
    have hcome := comes_atGrid (famPeriod (rd QLT_HEAD_FMT_fam [head] d) d) 0 (60 + head) d
    have hrd : rd INK_OVL_front [head] (atGrid (famPeriod (rd QLT_HEAD_FMT_fam [head] d) d) 0 (60 + head) d) = rd INK_OVL_front [head] d := rd_atGrid _ _ _ _ _ d
    rw [overlayExchange_eq hp hr]
    generalize atGrid (famPeriod (rd QLT_HEAD_FMT_fam [head] d) d) 0 (60 + head) d = y at hcome hrd ⊢
    refine ⟨comes_raises (comes_wr (comes_wr hcome)), rd_wr_same _ _ _ _, ?_⟩
    rw [rd_wr_off _ _ (by decide), rd_wr_same, hrd]

end Sys2Proof
end

section
set_option Elab.async false
set_option exponentiation.threshold 2048
/-! PROOFS. DRAM channels (O50). -/

namespace Sys2Proof.Machine

/-! ### A channel's function and its table -/

section Channel
variable {c k : Nat} {d x : Dev}

theorem funcOf_dram (hc : c < 12) : funcOf (fDram c) =
    ⟨DRC_CTRL_en, DRC_STATUS_state, DRC_STICKY_start_err, [c], [c], 178, DRC_STICKY_rej_write, [c], 180⟩ := by
  have hk : ∀ m, m ≤ 137 → ¬ fDram c < m := by unfold fDram; omega
  have hlt : fDram c < 149 := by unfold fDram; omega
  unfold funcOf
  rw [if_neg (hk 24 (by decide)), if_neg (hk 72 (by decide)), if_neg (hk 88 (by decide)), if_neg (hk 89 (by decide)), if_neg (hk 97 (by decide)),
    if_neg (hk 105 (by decide)), if_neg (hk 113 (by decide)), if_neg (hk 137 (by decide)), if_pos hlt]
  simp [fDram]

theorem funcState_dram (d : Dev) (hc : c < 12) : funcState (fDram c) d = rd DRC_STATUS_state [c] d := by rw [funcState, funcOf_dram hc]

theorem rd_setFuncState_dram {g : Fld} {jx : List Nat} (st : Nat) (d : Dev) (hc : c < 12) (hg : g.no % 1024 ≠ DRC_STATUS_state.no % 1024)
    (hi : g.no % 1024 ≠ TOP_IRQ_ST_raised.no % 1024) : rd g jx (setFuncState (fDram c) st d) = rd g jx d :=
  rd_setFuncState_off d (by rw [funcOf_dram hc]; exact hg) hi

theorem FaultsKept.setFuncState (n st : Nat) (h : FaultsKept d x) : FaultsKept d (setFuncState n st x) :=
  h.kept (setFuncState_keeps (Kept.refl _ x) (Sub.refl _))

@[simp] theorem dramRun_wr (c : Nat) (f : Fld) (ix : List Nat) (v : Nat) (d : Dev) : dramRun c (wr f ix v d) = dramRun c d := rfl

@[simp] theorem dramRun_setDramRun (c : Nat) (r : DramRun) (d : Dev) : dramRun c (setDramRun c r d) = r := tabGet_set_same _ _ _ _

theorem dramRun_congr (c : Nat) (h : x.drams = d.drams) : dramRun c x = dramRun c d := by rw [dramRun, dramRun, h]

@[simp] theorem dramRun_raises (c : Nat) (b d : Dev) : dramRun c (raises b d) = dramRun c d := dramRun_congr c (raises_drams b d)

@[simp] theorem dramRun_advanceDev (c t : Nat) (d : Dev) : dramRun c (advanceDev t d) = dramRun c d :=
  dramRun_congr c ((advanceDev_keeps (Kept.refl _ d) (Sub.refl _)).drams (by decide))

theorem rd_dramOff {f : Fld} {ix : List Nat} (c : Nat) (d : Dev) (h1 : f.no % 1024 ≠ DRC_INFO_cap_mib.no % 1024) (h2 : f.no % 1024 ≠ DRC_STATUS_sub.no % 1024)
    (h3 : f.no % 1024 ≠ DRC_STATUS_train_step.no % 1024) : rd f ix (dramOff c d) = rd f ix d := by
  unfold dramOff
  rw [rd_wr_off _ _ h1, rd_wr_off _ _ h2, rd_wr_off _ _ h3]

/-! ### Training -/

/-- What the end of a training sub-step does, by the channel's state and what was observed. -/
theorem substepEnd_eq (o : TrainObs) (d : Dev) :
    (rd DRC_STATUS_train_step [c] d = 0 ∨ (funcState (fDram c) d ≠ 1 ∧ funcState (fDram c) d ≠ 3) → substepEnd c o d = d) ∧
    (rd DRC_STATUS_train_step [c] d ≠ 0 → funcState (fDram c) d = 3 → substepEnd c o d = setFuncState (fDram c) 0 (dramOff c d)) ∧
    (rd DRC_STATUS_train_step [c] d ≠ 0 → funcState (fDram c) d = 1 →
      ((dramRun c d).restart = true → substepEnd c o d = beginDramTraining c d) ∧
      ((dramRun c d).restart = false → o.failed = true → substepEnd c o d =
        fire 178 (setFuncState (fDram c) 4 (wr DRC_STICKY_start_err [c] 1 (wr DRC_STATUS_failed_cause [c] 1 (dramOff c d))))) ∧
      ((dramRun c d).restart = false → o.failed = false → o.stepDone = true →
        ∃ y, (y = d ∨ y = writeTrained c o d) ∧ substepEnd c o d =
          if rd DRC_STATUS_train_step [c] d = 7 then dramRunning c y
          else wr DRC_STATUS_train_step [c] (if isFixed c y then 7 else rd DRC_STATUS_train_step [c] d + 1) y)) := by
  unfold substepEnd
  refine ⟨fun h => ?_, fun h0 h3 => ?_, fun h0 h1 => ⟨fun hr => ?_, fun hr hf => ?_, fun hr hf hd => ?_⟩⟩
  · by_cases h0 : rd DRC_STATUS_train_step [c] d = 0
    · exact if_pos h0
    · obtain ⟨h1, h3⟩ := h.resolve_left h0
      rw [if_neg h0, if_neg h3, if_pos h1]
  · rw [if_neg h0, if_pos h3]
  · rw [if_neg h0, if_neg (by omega), if_neg (by simp [h1]), if_pos hr]
  · rw [if_neg h0, if_neg (by omega), if_neg (by simp [h1]), if_neg (by simp [hr]), if_pos hf]
  · rw [if_neg h0, if_neg (by omega), if_neg (by simp [h1]), if_neg (by simp [hr]), if_neg (by simp [hf]), if_neg (by simp [hd])]
    exact ⟨_, by split <;> simp, rfl⟩

/-- The settings a training found are delays: the channel's state and what the host fixed stay. -/
theorem writeTrained_kept (c : Nat) (o : TrainObs) (d : Dev) : isFixed c (writeTrained c o d) = isFixed c d ∧
    rd DRC_STATUS_state [c] (writeTrained c o d) = rd DRC_STATUS_state [c] d := by
  have hk := writeTrained_keeps (c := c) (o := o) (Kept.refl _ d) (Sub.refl _)
  exact ⟨hk.rdBit _ _ _ (by decide), hk.rd _ _ (by decide)⟩

theorem beginDramTraining_shows (c : Nat) (d : Dev) : rd DRC_STATUS_train_step [c] (beginDramTraining c d) = 1 ∧
    (dramRun c (beginDramTraining c d)).restart = false := by
  unfold beginDramTraining
  refine ⟨by rw [rd_wr_same]; rfl, ?_⟩
  rw [dramRun_wr, dramRun_wr, dramRun_setDramRun]

theorem dramRunning_shows (d : Dev) (hc : c < 12) : funcState (fDram c) (dramRunning c d) = 2 ∧ rd DRC_STATUS_train_step [c] (dramRunning c d) = 0 := by
  unfold dramRunning
  extract_lets a run b
  have ha : rd DRC_STATUS_train_step [c] b = 0 := by
    show rd DRC_STATUS_train_step [c] a = 0
    dsimp only [a]
    rw [rd_wr_same]
    rfl
  clear_value b
  refine ⟨funcState_setFuncState _ (by decide), ?_⟩
  rw [rd_setFuncState_dram _ _ hc (by decide) (by decide), (stampTraining_keeps (Kept.refl _ b) (Sub.refl _)).rd _ _ (by decide), ha]

theorem trainingFailed_shows (d : Dev) (hc : c < 12) (x : Dev) (hx : x = fire 178 (setFuncState (fDram c) 4 (wr DRC_STICKY_start_err [c] 1
      (wr DRC_STATUS_failed_cause [c] 1 (dramOff c d))))) :
    funcState (fDram c) x = 4 ∧ rd DRC_STATUS_failed_cause [c] x = 1 ∧ rd DRC_STICKY_start_err [c] x = 1 ∧ Fired 178 d x := by
  subst hx
  refine ⟨?_, ?_, ?_, ?_⟩
  · rw [funcState_dram _ hc, rd_fire_off _ _ (by decide) (by decide) (by decide), ← funcState_dram _ hc]
    exact funcState_setFuncState _ (by decide)
  · rw [rd_fire_off _ _ (by decide) (by decide) (by decide), rd_setFuncState_dram _ _ hc (by decide) (by decide), rd_wr_off _ _ (by decide), rd_wr_same]
    rfl
  · rw [rd_fire_off _ _ (by decide) (by decide) (by decide), rd_setFuncState_dram _ _ hc (by decide) (by decide), rd_wr_same]
    rfl
  · have hoff : FaultsKept d (dramOff c d) := .wr (.wr (.wr (.refl d)))
    exact (FaultsKept.setFuncState _ _ (.wr (.wr hoff))).fired 178

/-- The next sub-step, or the channel running after the last. -/
theorem substepNext_shows {o : TrainObs} {y : Dev} (hy : y = d ∨ y = writeTrained c o d) (hc : c < 12) (h1 : funcState (fDram c) d = 1)
    (h : substepEnd c o d = if rd DRC_STATUS_train_step [c] d = 7 then dramRunning c y
      else wr DRC_STATUS_train_step [c] (if isFixed c y then 7 else rd DRC_STATUS_train_step [c] d + 1) y) :
    (rd DRC_STATUS_train_step [c] d = 7 → funcState (fDram c) (substepEnd c o d) = 2 ∧ rd DRC_STATUS_train_step [c] (substepEnd c o d) = 0) ∧
    (rd DRC_STATUS_train_step [c] d ≠ 7 → funcState (fDram c) (substepEnd c o d) = 1 ∧ rd DRC_STATUS_train_step [c] (substepEnd c o d) =
      if isFixed c d then 7 else (rd DRC_STATUS_train_step [c] d + 1) % 2 ^ DRC_STATUS_train_step.w) := by
  obtain ⟨hfixed, hstate⟩ : isFixed c y = isFixed c d ∧ rd DRC_STATUS_state [c] y = rd DRC_STATUS_state [c] d := by
    rcases hy with rfl | rfl
    · exact ⟨rfl, rfl⟩
    · exact writeTrained_kept c o d
  refine ⟨fun h7 => ?_, fun h7 => ?_⟩
  · rw [h, if_pos h7]
    exact dramRunning_shows y hc
  · rw [h, if_neg h7, rd_wr_same, hfixed, funcState_dram _ hc, rd_wr_off _ _ (by decide), hstate, ← funcState_dram _ hc]
    refine ⟨h1, ?_⟩
    split <;> rfl

theorem speedWrite_target (c v : Nat) (d : Dev) : rd DRC_SPEED_target [c] (speedWrite c v d) = v % 2 ^ DRC_SPEED_target.w := by
  have hbegin : ∀ y, rd DRC_SPEED_target [c] (beginDramTraining c y) = rd DRC_SPEED_target [c] y := fun y =>
    (beginDramTraining_keeps (Kept.refl _ y) (Sub.refl _)).rd _ _ (by decide)
  have hset : rd DRC_SPEED_target [c] (wr DRC_SPEED_target [c] v d) = v % 2 ^ DRC_SPEED_target.w := rd_wr_same _ _ _ _
  unfold speedWrite
  extract_lets a st speed
  have ha : rd DRC_SPEED_target [c] a = v % 2 ^ DRC_SPEED_target.w := hset
  clear_value a
  simp (disch := decide) [apply_ite (rd DRC_SPEED_target [c]), ha, hbegin]

/-- On a running channel a new target is pending while it differs from the speed in use. -/
theorem speedWrite_running {v : Nat} (hc : c < 12) (h : funcState (fDram c) d = 2) :
    rdB DRC_STATUS_target_pending [c] (speedWrite c v d) = (v != rd DRC_STATUS_speed [c] d) := by
  have hst : funcState (fDram c) (wr DRC_SPEED_target [c] v d) = 2 := by rw [funcState_dram _ hc, rd_wr_off _ _ (by decide), ← funcState_dram _ hc, h]
  have hspeed : rd DRC_STATUS_speed [c] (wr DRC_SPEED_target [c] v d) = rd DRC_STATUS_speed [c] d := rd_wr_off _ _ (by decide)
  unfold speedWrite
  simp only [hst, hspeed, if_true]
  exact rdB_wrB_same _ _ _ _ (by decide)

theorem channelStopped_cases (d : Dev) (stops : Bool)
    (hs : stops = (decide (funcState (fDram c) d = 3 ∧ rd DRC_STATUS_train_step [c] d = 0) && !placedOn c d)) :
    (stops = true → channelStopped c d = setFuncState (fDram c) 0 (setDramRun c {} (dramOff c d))) ∧ (stops = false → channelStopped c d = d) := by
  subst hs
  unfold channelStopped
  refine ⟨fun h => if_pos ?_, fun h => if_neg ?_⟩
  · simp only [Bool.and_eq_true, decide_eq_true_eq] at h
    exact ⟨h.1.1, h.1.2, h.2⟩
  · rintro ⟨h1, h2, h3⟩
    rw [h3, decide_eq_true ⟨h1, h2⟩] at h
    exact absurd h (by decide)

/-! ### Self-refresh -/

theorem beginEntering_sub (c : Nat) (d : Dev) : rd DRC_STATUS_sub [c] (beginEntering c d) = 1 := by
  unfold beginEntering
  rw [rd_setDramRun, rd_wr_same]
  rfl

/-- Whether a channel may enter self-refresh once its time has passed. -/
def dramIdle (c : Nat) (d : Dev) : Bool := dramActive c d && rdB DRC_SR_sr_en [c] d && !placedOn c d && !captureOn c d

theorem idleTimeout_stays (h : dramIdle c d = false) : idleTimeout c d = d := by
  unfold idleTimeout
  refine if_neg fun hc => ?_
  rw [show dramIdle c d = true from hc] at h
  exact absurd h (by decide)

theorem idleTimeout_idle (h : dramIdle c d = true) :
    Passes ((dramRun c d).idleFrom + rd DRC_SR_idle_us [c] d * usUnits) d (idleTimeout c d) ∧
    ((dramRun c d).pauseAt = 0 → rd DRC_STATUS_sub [c] (idleTimeout c d) = 1) ∧
    ((dramRun c d).pauseAt ≠ 0 → (dramRun c (idleTimeout c d)).idlePending = true) := by
  have heq : idleTimeout c d = if (dramRun c (advanceDev ((dramRun c d).idleFrom + rd DRC_SR_idle_us [c] d * usUnits) d)).pauseAt ≠ 0
      then setDramRun c { dramRun c (advanceDev ((dramRun c d).idleFrom + rd DRC_SR_idle_us [c] d * usUnits) d) with idlePending := true }
        (advanceDev ((dramRun c d).idleFrom + rd DRC_SR_idle_us [c] d * usUnits) d)
      else beginEntering c (advanceDev ((dramRun c d).idleFrom + rd DRC_SR_idle_us [c] d * usUnits) d) := by
    unfold idleTimeout
    exact if_pos h
  have hp := passes_advanceDev ((dramRun c d).idleFrom + rd DRC_SR_idle_us [c] d * usUnits) d
  rw [heq, dramRun_advanceDev]
  generalize (dramRun c d).idleFrom + rd DRC_SR_idle_us [c] d * usUnits = t at hp ⊢
  generalize advanceDev t d = y at hp ⊢
  refine ⟨ite_holds ?_ ?_, fun h0 => ?_, fun h0 => ?_⟩
  · exact (setDramRun_keeps (Kept.refl _ y) (Sub.refl _)).passes hp
  · exact (beginEntering_keeps (Kept.refl _ y) (Sub.refl _)).passes hp
  · rw [if_neg (by simp [h0])]
    exact beginEntering_sub c y
  · rw [if_pos h0, dramRun_setDramRun]

theorem running_dram (d : Dev) (hc : c < 12) : running (fDram c) d = (rd DRC_STATUS_state [c] d == 2) := by rw [running, funcState_dram _ hc]

theorem wakeChannel_refreshing (hc : c < 12) (hr : running (fDram c) d = true) (hs : rd DRC_STATUS_sub [c] d = 2) :
    rd DRC_STATUS_sub [c] (wakeChannel c d) = 3 ∧ rd DRC_SR_CNT_entries [c] (wakeChannel c d) = rd DRC_SR_CNT_entries [c] d := by
  have ht : ∀ f ix, rd f ix (touchChannel c d) = rd f ix d := fun _ _ => rfl
  have heq : wakeChannel c d = count DRC_SR_CNT_wakes [c] 1 (wr DRC_STATUS_sub [c] 3 (touchChannel c d)) := by
    rw [running_dram _ hc] at hr
    unfold wakeChannel
    simp only [running_dram _ hc, ht, hr, hs, Bool.not_true, Bool.false_eq_true, if_false, if_true]
  rw [heq]
  refine ⟨?_, ?_⟩
  · rw [rd_count_off _ _ (by decide), rd_wr_same]; rfl
  · rw [rd_count_off _ _ (by decide), rd_wr_off _ _ (by decide), ht]

theorem selfRefreshEntered_stays (h : running (fDram c) d = false ∨ rd DRC_STATUS_sub [c] d ≠ 1) : selfRefreshEntered c d = d := by
  unfold selfRefreshEntered
  exact if_neg (by rcases h with h | h <;> simp [h])

theorem selfRefreshEntered_shows (hc : c < 12) (h1 : running (fDram c) d = true) (h2 : rd DRC_STATUS_sub [c] d = 1) :
    rd DRC_SR_CNT_entries [c] (selfRefreshEntered c d) = min (2 ^ DRC_SR_CNT_entries.w - 1) (rd DRC_SR_CNT_entries [c] d + 1) ∧
    rd DRC_STATUS_sub [c] (selfRefreshEntered c d) = if (dramRun c d).wakePending then 3 else 2 := by
  have hrun : dramRun c (count DRC_SR_CNT_entries [c] 1 (wr DRC_STATUS_sub [c] 2 d)) = dramRun c d := rfl
  have hcount : rd DRC_SR_CNT_entries [c] (count DRC_SR_CNT_entries [c] 1 (wr DRC_STATUS_sub [c] 2 d)) =
      min (2 ^ DRC_SR_CNT_entries.w - 1) (rd DRC_SR_CNT_entries [c] d + 1) := by rw [rd_count_same, rd_wr_off _ _ (by decide)]
  have hsub : rd DRC_STATUS_sub [c] (count DRC_SR_CNT_entries [c] 1 (wr DRC_STATUS_sub [c] 2 d)) = 2 := by
    rw [rd_count_off _ _ (by decide), rd_wr_same]; rfl
  have hr : running (fDram c) (count DRC_SR_CNT_entries [c] 1 (wr DRC_STATUS_sub [c] 2 d)) = true := by
    rw [running_dram _ hc] at h1 ⊢
    rw [rd_count_off _ _ (by decide), rd_wr_off _ _ (by decide), h1]
  unfold selfRefreshEntered
  rw [if_pos (by simp [h1, h2])]
  simp only [hrun]
  generalize count DRC_SR_CNT_entries [c] 1 (wr DRC_STATUS_sub [c] 2 d) = y at hcount hsub hr ⊢
  split
  · obtain ⟨hwake, hentries⟩ := wakeChannel_refreshing (d := setDramRun c { dramRun c d with wakePending := false } y) hc hr hsub
    exact ⟨hentries.trans hcount, hwake⟩
  · exact ⟨hcount, hsub⟩

/-- A retraining whose every lane passes has not failed. -/
theorem evalRetrain_passes {lanes : List (Nat × Nat)} (h : maskOk lanes = true) : (evalRetrain c lanes d).2 = false := by
  unfold evalRetrain
  simp only [h, if_true]

theorem evalRetrain_leaves (c : Nat) (lanes : List (Nat × Nat)) (d : Dev) : (evalRetrain c lanes d).1.drams = d.drams ∧
    rd DRC_STATUS_sub [c] (evalRetrain c lanes d).1 = rd DRC_STATUS_sub [c] d := by
  have hk := evalRetrain_keeps (c := c) (lanes := lanes) (Kept.refl _ d) (Sub.refl _)
  exact ⟨hk.drams (by decide), hk.rd _ _ (by decide)⟩

theorem wakeComplete_stays {lanes : List (Nat × Nat)} (h : running (fDram c) d = false ∨ rd DRC_STATUS_sub [c] d ≠ 3) : wakeComplete c lanes d = d := by
  unfold wakeComplete
  exact if_neg (by rcases h with h | h <;> simp [h])

theorem wakeComplete_shows {lanes : List (Nat × Nat)} (h1 : running (fDram c) d = true) (h2 : rd DRC_STATUS_sub [c] d = 3)
    (h : isFixed c d = true ∨ maskOk lanes = true) :
    rd DRC_STATUS_sub [c] (wakeComplete c lanes d) = 0 ∧ (dramRun c (wakeComplete c lanes d)).idleFrom = d.devTime := by
  have hsub : rd DRC_STATUS_sub [c] (touchChannel c (wr DRC_STATUS_sub [c] 0 d)) = 0 := (rd_wr_same DRC_STATUS_sub [c] 0 d).trans rfl
  have hrun : (dramRun c (touchChannel c (wr DRC_STATUS_sub [c] 0 d))).idleFrom = d.devTime := by rw [touchChannel, dramRun_setDramRun]; rfl
  have hfixed : isFixed c (touchChannel c (wr DRC_STATUS_sub [c] 0 d)) = isFixed c d := by
    show Nat.testBit (rd TLR_CFG_fixed_mask [] (wr DRC_STATUS_sub [c] 0 d)) c = _
    rw [rd_wr_off _ _ (by decide)]
    rfl
  unfold wakeComplete
  rw [if_pos (by simp [h1, h2])]
  simp only [hfixed]
  generalize touchChannel c (wr DRC_STATUS_sub [c] 0 d) = y at hsub hrun ⊢
  by_cases hf : isFixed c d = true
  · rw [if_pos hf]
    exact ⟨hsub, hrun⟩
  · obtain ⟨hdrams, hkept⟩ := evalRetrain_leaves c lanes y
    have hok : (evalRetrain c lanes y).2 = false := evalRetrain_passes (h.resolve_left hf)
    rw [if_neg hf]
    simp only [hok, Bool.false_eq_true, if_false]
    exact ⟨hkept.trans hsub, by rw [dramRun_congr c hdrams, hrun]⟩

/-! ### Drift, scrub and temperature -/

/-- The move of a bit at a reading: one step at most, and 16 in all. -/
def driftMove (drift : List Int) (moves : Tab Nat) (b : Nat) : Nat :=
  ofSigned 16 (clampI (-16) 16 (toSigned 16 (tabGet 0 moves b) + clampI (-1) 1 (drift.getD b 0)))

/-- One bit's move and setting. -/
def moveBit (c : Nat) (drift : List Int) (moves : Tab Nat) (b : Nat) (d : Dev) : Dev :=
  let old := toSigned 16 (tabGet 0 moves b)
  let m := clampI (-16) 16 (old + clampI (-1) 1 (drift.getD b 0))
  let set := rd DRC_DLY_DQ_wr [c, b] d
  let r := dramRun c d
  setDramRun c { r with moves := tabSet 0 r.moves b (ofSigned 16 m) } (wr DRC_DLY_DQ_wr [c, b] (ofSigned 9 ((set : Int) + (m - old))) d)

theorem moves_moveBit (c : Nat) (drift : List Int) (moves : Tab Nat) (b : Nat) (d : Dev) :
    (dramRun c (moveBit c drift moves b d)).moves = tabSet 0 (dramRun c d).moves b (driftMove drift moves b) := by
  unfold moveBit
  extract_lets old m set r
  rw [dramRun_setDramRun]
  rfl

theorem moves_forUpTo (c : Nat) (drift : List Int) (moves : Tab Nat) (d : Dev) (n : Nat) :
    ∀ b < n, tabGet 0 (dramRun c (forUpTo n (moveBit c drift moves) d)).moves b = driftMove drift moves b := by
  induction n with
  | zero => exact fun b hb => absurd hb (Nat.not_lt_zero b)
  | succ n ih =>
    intro b hb
    show tabGet 0 (dramRun c (moveBit c drift moves n (forUpTo n (moveBit c drift moves) d))).moves b = _
    rw [moves_moveBit]
    by_cases h : b = n
    · subst h; exact tabGet_set_same _ _ _ _
    · rw [tabGet_set_ne _ _ _ h]; exact ih b (by omega)

theorem driftTracking_stays {drift : List Int} (h : isFixed c d = false ∨ running (fDram c) d = false) : driftTracking c drift d = d := by
  unfold driftTracking
  exact if_pos (by rcases h with h | h <;> simp [h])

theorem dramRun_fire (c n : Nat) (d : Dev) : dramRun c (fire n d) = dramRun c d := dramRun_congr c ((fire_only_kept n d).drams (by decide))

theorem driftTracking_moves {drift : List Int} (hf : isFixed c d = true) (hr : running (fDram c) d = true) :
    (dramRun c (driftTracking c drift d)).moves = (dramRun c (forUpTo 80 (moveBit c drift (dramRun c d).moves) d)).moves := by
  unfold driftTracking
  rw [if_neg (by simp [hf, hr])]
  extract_lets r old want above moved most shown was run limited noted
  have hall : moved = forUpTo 80 (moveBit c drift (dramRun c d).moves) d := rfl
  rw [← hall]
  clear_value moved
  have hmoved : (dramRun c limited).moves = (dramRun c moved).moves := by
    show (dramRun c (setDramRun c { dramRun c shown with limited := above } shown)).moves = _
    rw [dramRun_setDramRun]
    rfl
  rw [← hmoved]
  clear_value limited
  split
  · split
    · rfl
    · rw [dramRun_fire]; rfl
  · rfl

theorem rd_ce_eccEvents (c ce : Nat) (ues : List Nat) (d : Dev) :
    rd DRC_ECC_CNT_ce [c] (eccEvents c ce ues d) = min (2 ^ DRC_ECC_CNT_ce.w - 1) (rd DRC_ECC_CNT_ce [c] d + ce) := by
  have hsec : ∀ k key x, rd DRC_ECC_CNT_ce [c] (firePerSecond k key x) = rd DRC_ECC_CNT_ce [c] x := fun _ _ x =>
    (firePerSecond_keeps (Kept.refl _ x) (Sub.refl _)).rd _ _ (by decide)
  have hfail : ∀ k x, rd DRC_ECC_CNT_ce [c] (dramFails c k x) = rd DRC_ECC_CNT_ce [c] x := fun _ x =>
    (dramFails_keeps (Kept.refl _ x) (Sub.refl _)).rd _ _ (by decide)
  unfold eccEvents
  simp (disch := decide) [apply_ite (rd DRC_ECC_CNT_ce [c]), hsec, hfail, rd_count_same]

theorem rd_ue_eccEvents {ues : List Nat} (c ce : Nat) (d : Dev) (h : ues ≠ []) : rd DRC_STICKY_ue [c] (eccEvents c ce ues d) = 1 := by
  have hsec : ∀ k key x, rd DRC_STICKY_ue [c] (firePerSecond k key x) = rd DRC_STICKY_ue [c] x := fun _ _ x =>
    (firePerSecond_keeps (Kept.refl _ x) (Sub.refl _)).rd _ _ (by decide)
  have hfail : ∀ k x, rd DRC_STICKY_ue [c] (dramFails c k x) = rd DRC_STICKY_ue [c] x := fun _ x =>
    (dramFails_keeps (Kept.refl _ x) (Sub.refl _)).rd _ _ (by decide)
  unfold eccEvents
  simp (disch := decide) [apply_ite (rd DRC_STICKY_ue [c]), hsec, hfail, h, rd_wr_same]

theorem patrolScrub_stays {ce : Nat} {ues : List Nat} (h : dramActive c d = false) : patrolScrub c ce ues d = d := by
  unfold patrolScrub
  exact if_neg (by simp [h])

theorem patrolScrub_shows {ce : Nat} {ues : List Nat} (h : dramActive c d = true) : Passes (dramRun c d).scrubAt d (patrolScrub c ce ues d) ∧
    rd DRC_ECC_CNT_ce [c] (patrolScrub c ce ues d) = min (2 ^ DRC_ECC_CNT_ce.w - 1) (rd DRC_ECC_CNT_ce [c] d + ce) ∧
    (ues ≠ [] → rd DRC_STICKY_ue [c] (patrolScrub c ce ues d) = 1) := by
  unfold patrolScrub
  rw [if_pos h]
  extract_lets at_ run
  have hp : Passes (dramRun c d).scrubAt d at_ := passes_advanceDev _ d
  have hce : rd DRC_ECC_CNT_ce [c] at_ = rd DRC_ECC_CNT_ce [c] d := rd_advanceDev _ _ _ d
  clear_value at_
  refine ⟨(eccEvents_keeps (Kept.refl _ _) (Sub.refl _)).passes ((setDramRun_keeps (Kept.refl _ at_) (Sub.refl _)).passes hp), ?_, fun hu => ?_⟩
  · rw [rd_ce_eccEvents, rd_setDramRun, hce]
  · exact rd_ue_eccEvents c ce _ hu

theorem refreshRead_stays {rates : List Nat} {high : Bool} (h : running (fDram c) d = false) : refreshRead c rates high d = d := by
  unfold refreshRead
  exact if_neg (by simp [h])

theorem refreshRead_shows {rates : List Nat} {high : Bool} (h : running (fDram c) d = true) : rdB DRC_TEMP_high [c] (refreshRead c rates high d) = high ∧
    (high = true → rdB DRC_TEMP_high [c] d = false → rd DRC_STICKY_temp_high [c] (refreshRead c rates high d) = 1 ∧
      Fired 181 d (refreshRead c rates high d)) := by
  unfold refreshRead
  rw [if_pos h]
  extract_lets was shown
  have hhigh : rdB DRC_TEMP_high [c] shown = high := by
    show rdB DRC_TEMP_high [c] (wr DRC_TEMP_rate [c] (rates.foldl max 0) (wrB DRC_TEMP_high [c] high d)) = high
    rw [rdB, rd_wr_off _ _ (by decide)]
    exact rdB_wrB_same _ _ _ _ (by decide)
  have hfaults : FaultsKept d shown := .wr (.wr (.refl d))
  clear_value shown
  refine ⟨?_, fun h1 h2 => ?_⟩
  · split
    · rw [rdB, rd_fire_off _ _ (by decide) (by decide) (by decide), rd_wr_off _ _ (by decide)]
      exact hhigh
    · exact hhigh
  · rw [if_pos (by simp [h1, was, h2])]
    refine ⟨?_, hfaults.wr.fired 181⟩
    rw [rd_fire_off _ _ (by decide) (by decide) (by decide), rd_wr_same]
    rfl

end Channel

end Sys2Proof.Machine

namespace Sys2Proof
open Machine

/-- Settles O50: each command meets its channel's state first, and what it then shows of the channel stands after what it fires. -/
theorem dramChannels : Obligations.DramChannels := by
  refine ⟨fun ch obs => ?_, fun ch target => ?_, fun ch => ?_, fun ch drift => ?_, fun ch => ?_, fun ch => ?_, fun ch lanes => ?_, fun ch ce ues => ?_,
    fun ch rates high => ?_⟩
  · refine carried_effect (fun _ => rfl) (fun _ _ => execTrainingSubstepEnd_keeps) (by decide +kernel) (fun _ _ h => h) fun hw d ho _ => ?_
    have hc : ch < 12 := of_decide_eq_true hw
    have hst : ∀ x, funcState (fDram ch) (raises d x) = funcState (fDram ch) x := fun x => by
      rw [funcState_dram _ hc, funcState_dram _ hc, rd_raises_off _ _ (by decide)]
    obtain ⟨hstays, hstops, htrains⟩ := substepEnd_eq (c := ch) obs d
    rintro st step rfl rfl
    simp only [hst, dramRun_raises]
    simp (disch := decide) only [rd_raises_off]
    refine ⟨fun h => unchanged_of_eq ho (hstays h), fun h0 h3 => ?_, fun h0 h1 hr => ?_, fun h0 h1 hr hf => ?_, fun h0 h1 hr hf hd => ?_⟩
    · rw [hstops h0 h3]
      exact funcState_setFuncState _ (by decide)
    · rw [(htrains h0 h1).1 hr]
      exact beginDramTraining_shows ch d
    · obtain ⟨hs, hcause, herr, hfired⟩ := trainingFailed_shows d hc _ ((htrains h0 h1).2.1 hr hf)
      exact ⟨hs, hcause, herr, fired_raises hfired⟩
    · obtain ⟨y, hy, heq⟩ := (htrains h0 h1).2.2 hr hf hd
      exact substepNext_shows hy hc h1 heq
  · refine carried_effect (fun _ => rfl) (fun _ _ => execSpeedTargetWrite_keeps) (by decide +kernel) (fun _ _ h => h) fun hw d _ _ => ?_
    simp only [Instr.wf, Bool.and_eq_true, decide_eq_true_eq] at hw
    obtain ⟨hc, -⟩ := hw
    simp only [rdB]
    simp (disch := decide) only [rd_raises_off]
    exact ⟨speedWrite_target ch target d, fun h => speedWrite_running hc h⟩
  · refine carried_effect (fun _ => rfl) (fun _ _ => execChannelStopped_keeps) (by decide +kernel) (fun _ _ h => h) fun hw d ho _ => ?_
    have hc : ch < 12 := of_decide_eq_true hw
    intro stops hs
    obtain ⟨hstop, hstay⟩ := channelStopped_cases d stops hs
    refine ⟨fun h => ?_, fun h => unchanged_of_eq ho (hstay h)⟩
    rw [hstop h, funcState_dram _ hc, rd_raises_off _ _ (by decide), ← funcState_dram _ hc]
    exact funcState_setFuncState _ (by decide)
  · refine carried_effect (fun _ => rfl) (fun _ _ => execDriftTracking_keeps) (by decide +kernel) (fun _ _ h => h) fun _ d ho _ => ?_
    refine ⟨fun h => unchanged_of_eq ho (driftTracking_stays h), fun hf hr b hb => ?_⟩
    rw [dramRun_raises, driftTracking_moves hf hr]
    exact moves_forUpTo ch drift _ d 80 b hb
  · refine carried_effect (fun _ => rfl) (fun _ _ => execIdleTimeout_keeps) (by decide +kernel)
      (fun d e h idle hi => ⟨(h idle hi).1, fun ht => ⟨passes_quiet.mp ((h idle hi).2 ht).1, ((h idle hi).2 ht).2⟩⟩) fun _ d ho _ => ?_
    intro idle hi
    refine ⟨fun h => unchanged_of_eq ho (idleTimeout_stays (hi.symm.trans h)), fun h => ?_⟩
    obtain ⟨hp, hsub, hpend⟩ := idleTimeout_idle (c := ch) (d := d) (hi.symm.trans h)
    rw [dramRun_raises, rd_raises_off _ _ (by decide)]
    exact ⟨passes_raises hp, hsub, hpend⟩
  · refine carried_effect (fun _ => rfl) (fun _ _ => execSelfRefreshEntered_keeps) (by decide +kernel) (fun _ _ h => h) fun hw d ho _ => ?_
    have hc : ch < 12 := of_decide_eq_true hw
    simp (disch := decide) only [rd_raises_off]
    exact ⟨fun h => unchanged_of_eq ho (selfRefreshEntered_stays h), fun h1 h2 => selfRefreshEntered_shows hc h1 h2⟩
  · refine carried_effect (fun _ => rfl) (fun _ _ => execWakeComplete_keeps) (by decide +kernel) (fun _ _ h => h) fun _ d ho _ => ?_
    simp (disch := decide) only [rd_raises_off, dramRun_raises]
    exact ⟨fun h => unchanged_of_eq ho (wakeComplete_stays h), fun h1 h2 h => wakeComplete_shows h1 h2 h⟩
  · refine carried_effect (fun _ => rfl) (fun _ _ => execPatrolScrub_keeps) (by decide +kernel)
      (fun d e ⟨h1, h2⟩ => ⟨h1, fun h => ⟨passes_quiet.mp (h2 h).1, (h2 h).2⟩⟩) fun _ d ho _ => ?_
    simp (disch := decide) only [rd_raises_off]
    refine ⟨fun h => unchanged_of_eq ho (patrolScrub_stays h), fun h => ?_⟩
    obtain ⟨hp, hshows⟩ := patrolScrub_shows (ce := ce) (ues := ues) h
    exact ⟨passes_raises hp, hshows⟩
  · refine carried_effect (fun _ => rfl) (fun _ _ => execRefreshRateRead_keeps) (by decide +kernel) (fun _ _ h => h) fun _ d ho _ => ?_
    refine ⟨fun h => unchanged_of_eq ho (refreshRead_stays h), fun h => ?_⟩
    obtain ⟨hhigh, hfirst⟩ := refreshRead_shows (rates := rates) (high := high) h
    simp only [rdB] at hhigh hfirst ⊢
    simp (disch := decide) only [rd_raises_off]
    exact ⟨hhigh, fun h1 h2 => ⟨(hfirst h1 h2).1, fired_raises (hfirst h1 h2).2⟩⟩

end Sys2Proof
end

section
set_option Elab.async false
set_option exponentiation.threshold 2048
/-! PROOFS. Audio ports and Gather (O51). -/

namespace Sys2Proof.Machine

/-! ### An AES input's lock -/

section Input
variable {s : Nat} {d x : Dev}

theorem sideState_input (d : Dev) (h8 : 8 ≤ s) (h16 : s < 16) : sideState s d = rd APT_AIN_STATUS_lock [s - 8] d := by
  unfold sideState
  rw [if_neg (by omega), if_pos h16]

theorem setSideState_input (st : Nat) (d : Dev) (h8 : 8 ≤ s) (h16 : s < 16) : setSideState s st d = wr APT_AIN_STATUS_lock [s - 8] st d := by
  unfold setSideState
  rw [if_neg (by omega), if_pos h16]

theorem sideOn_input (d : Dev) (h8 : 8 ≤ s) (h16 : s < 16) : sideOn s d = running (portFunc s) d := by
  unfold sideOn sidePort
  rw [if_pos h16, if_neg (by omega), if_pos h16, Bool.and_true]

@[simp] theorem rd_setSide (f : Fld) (ix : List Nat) (s : Nat) (y : Side) (d : Dev) : rd f ix (setSide s y d) = rd f ix d := rfl

/-- An event of a port leaves the faults as they stand. -/
theorem FaultsKept.portEvent (k : Nat) (h : FaultsKept d x) : FaultsKept d (portEvent k x) := by
  unfold Machine.portEvent
  exact FaultsKept.ite h.wr (FaultsKept.ite h.wr (FaultsKept.ite h.wr h))

/-- A lock that is lost before its loss is reported. -/
def lockCleared (s : Nat) (d : Dev) : Dev :=
  let p := sidePort s
  let x := side s d
  let locked := decide (sideState s d = 2)
  let ramp : Ramp := if locked && s < 16 && !x.priming then { mode := 1, x := if x.ramp.mode = 0 then fullRamp else x.ramp.x } else {}
  let d := setSideState s 0 (setSide s { x with valid := 0, invalid := 0, n := 0, meas := none, buf := [], sent := {}, priming := true, ramp := ramp } d)
  let d := if s < 8 ∨ 16 ≤ s then wr APT_TDM_FREQ_freq [p] 0 d else wr APT_AIN_FREQ_freq [p - 8] 0 d
  showSide s d

theorem lockCleared_input (d : Dev) (h8 : 8 ≤ s) (h16 : s < 16) : sideState s (lockCleared s d) = 0 ∧ FaultsKept d (lockCleared s d) := by
  unfold lockCleared
  extract_lets p y locked ramp cleared shown
  have hcleared : FaultsKept d cleared := by
    dsimp only [cleared]
    rw [setSideState_input _ _ h8 h16]
    exact .wr (.of_regs (.refl d) rfl rfl)
  have hstate : rd APT_AIN_STATUS_lock [s - 8] cleared = 0 := by
    dsimp only [cleared]
    rw [setSideState_input _ _ h8 h16, rd_wr_same]
    rfl
  have hshown : shown = wr APT_AIN_FREQ_freq [p - 8] 0 cleared := if_neg (by omega)
  clear_value cleared
  have hfaults : FaultsKept d shown := hshown ▸ FaultsKept.wr hcleared
  refine ⟨?_, hfaults.kept (showSide_keeps (Kept.refl _ _) (Sub.refl _))⟩
  rw [sideState_input _ h8 h16, (showSide_keeps (Kept.refl _ _) (Sub.refl _)).rd _ _ (by decide), hshown, rd_wr_off _ _ (by decide), hstate]

theorem sideLost_eq (d : Dev) (h8 : 8 ≤ s) (h16 : s < 16) : sideLost s d = if sideState s d = 2 then
    portPresence s (fire 208 (count APT_AIN_CNT1_losses [sidePort s - 8] 1 (portSticky APT_AIN_STICKY_lost (sidePort s) (lockCleared s d))))
    else lockCleared s d := by
  have hp : ¬ sidePort s < 8 := by unfold sidePort; rw [if_pos h16]; omega
  have hdef : sideLost s d = if decide (sideState s d = 2) = true then portPresence s (fire 208
      (if sidePort s < 8 then count APT_TDM_CNT1_losses [sidePort s] 1 (portSticky APT_TDM_STICKY_lost (sidePort s) (lockCleared s d))
        else count APT_AIN_CNT1_losses [sidePort s - 8] 1 (portSticky APT_AIN_STICKY_lost (sidePort s) (lockCleared s d))))
      else lockCleared s d := rfl
  rw [hdef, if_neg hp]
  simp only [decide_eq_true_eq]

/-- An input that loses its lock is unlocked, and a locked one fires. -/
theorem sideLost_shows (d : Dev) (h8 : 8 ≤ s) (h16 : s < 16) :
    sideState s (sideLost s d) = 0 ∧ (sideState s d = 2 → Fired 208 d (sideLost s d)) := by
  obtain ⟨hstate, hfaults⟩ := lockCleared_input d h8 h16
  rw [sideLost_eq d h8 h16]
  by_cases h : sideState s d = 2
  · rw [if_pos h]
    have hpres := fun y => portPresence_keeps (s := s) (Kept.refl _ y) (Sub.refl _)
    refine ⟨?_, fun _ => ?_⟩
    · rw [sideState_input _ h8 h16] at hstate ⊢
      rw [(hpres _).rd _ _ (by decide), rd_fire_off _ _ (by decide) (by decide) (by decide), rd_count_off _ _ (by decide), portSticky, ← hstate]
      generalize lockCleared s d = y
      unfold portEvent
      simp (disch := decide) [apply_ite (rd APT_AIN_STATUS_lock [s - 8])]
    · refine Fired.kept ?_ (hpres _)
      exact (FaultsKept.count (FaultsKept.portEvent _ (.wr hfaults))).fired 208
  · rw [if_neg h]
    exact ⟨hstate, fun h2 => absurd h2 h⟩

/-- A valid frame at an unlocked input that runs begins its acquisition. -/
theorem sideFrame_begins {f : PortFrame} (h8 : 8 ≤ s) (h16 : s < 16) (hr : running (portFunc s) d = true) (hv : f.valid = true)
    (hst : sideState s d = 0) : sideState s (sideFrame s f d) = 1 := by
  unfold sideFrame
  rw [if_neg (by simp [sideOn_input d h8 h16, hr])]
  extract_lets y st z seen shown
  rw [if_pos hv, if_pos hst, setSideState_input _ _ h8 h16, sideState_input _ h8 h16, rd_wr_same]
  rfl

/-- The third invalid frame in a row ends a lock. -/
theorem sideFrame_loses {f : PortFrame} (h8 : 8 ≤ s) (h16 : s < 16) (hr : running (portFunc s) d = true) (hv : f.valid = false)
    (hi : 2 ≤ (side s d).invalid) (hst : sideState s d = 2) : ∃ y, sideFrame s f d = sideLost s (setSide s y d) := by
  unfold sideFrame
  rw [if_neg (by simp [sideOn_input d h8 h16, hr])]
  extract_lets y st z seen shown invalid
  have hz : z.invalid = (side s d).invalid := by
    dsimp only [z]
    split <;> rfl
  rw [if_neg (by simp [hv]), if_neg (by omega), if_pos ⟨by omega, .inr hst⟩]
  exact ⟨_, rfl⟩

theorem portSides_input {p : Nat} (h8 : 8 ≤ p) : portSides p = [p] := if_neg (by omega)

theorem portMaster_input {p : Nat} (d : Dev) (h8 : 8 ≤ p) : portMaster p d = false := by
  unfold portMaster
  rw [decide_eq_false (by omega), Bool.false_and]

theorem portFrame_input {p : Nat} (f : PortFrame) (d : Dev) (h8 : 8 ≤ p) : portFrame p f d = sideFrame p f d := by
  unfold portFrame
  rw [portSides_input h8, if_neg (by simp [portMaster_input _ h8])]
  exact congrArg (sideFrame p f) (if_neg (by omega))

theorem portFrame_master {p : Nat} {f : PortFrame} (h : portMaster p d = true) (hv : f.valid = false) : portFrame p f d = d := by
  unfold portFrame
  simp [h, hv]

theorem portClockLoss_input {p : Nat} (d : Dev) (h8 : 8 ≤ p) : portClockLoss p d =
    if sideOn p d ∧ (sideState p d = 1 ∨ sideState p d = 2) then sideLost p d else d := by
  unfold portClockLoss
  rw [if_neg (by simp [portMaster_input d h8]), portSides_input h8]
  rfl

end Input

/-! ### Ports and Gather that stop -/

section Stop
variable {p : Nat} {d : Dev}

/-- A port that has stopped, its queues emptied and its sides unlocked, before its function shows it. -/
def portEmptied (p : Nat) (d : Dev) : Dev :=
  let d := { d with apt := { d.apt with stopping := tabSet 0 d.apt.stopping p 0, masks := tabSet none d.apt.masks p none } }
  let d := forEach (if p < 8 then [p, 16 + p] else if p < 16 then [p] else [p + 8]) (fun s d =>
    let d := setSide s {} d
    if s < 24 then showSide s (setSideState s 0 d) else d) d
  if p < 8 then wr APT_TDM_STATUS_mask_pending [p] 0 (wr APT_TDM_FREQ_freq [p] 0 d)
    else if p < 16 then wr APT_AIN_FREQ_freq [p - 8] 0 d else d

theorem portEmptied_passes {t : Nat} {x : Dev} (h : Passes t d x) : Passes t d (portEmptied p x) := by
  unfold portEmptied
  extract_lets apt freed unlocked
  have hfreed : Passes t d freed := h
  clear_value freed
  have hunlocked : Passes t d unlocked := forEach_holds (P := Passes t d) hfreed fun s y hy => by
    have hside : Passes t d (setSide s {} y) := hy
    exact ite_holds ((showSide_keeps (Kept.refl _ _) (Sub.refl _)).passes ((setSideState_keeps (Kept.refl _ _) (Sub.refl _)).passes hside)) hside
  exact ite_holds (passes_wr (passes_wr hunlocked)) (ite_holds (passes_wr hunlocked) hunlocked)

theorem portStopComplete_stays (h : funcState (portFunc p) d ≠ 3) : portStopComplete p d = d := if_pos h

theorem portStopComplete_eq (h : funcState (portFunc p) d = 3) : portStopComplete p d =
    portPresence p (setFuncState (portFunc p) 0 (portEmptied p (advanceDev (tabGet 0 d.apt.stopping p - 1 + 5 * msUnits) d))) := by
  unfold portStopComplete
  rw [if_neg (by simp [h])]
  rfl

/-- A source's presence is not a function's state. -/
theorem funcState_portPresence (d : Dev) (hp : p < 24) : funcState (portFunc p) (portPresence p d) = funcState (portFunc p) d := by
  have hall : ∀ f ∈ unitStates, ∀ ix, rd f ix (portPresence p d) = rd f ix d := by
    have hk := portPresence_keeps (s := p) (Kept.refl _ d) (Sub.refl _)
    simp only [unitStates, List.forall_mem_cons, List.not_mem_nil, false_implies, implies_true, and_true]
    refine ⟨fun ix => hk.rd _ ix ?_, fun ix => hk.rd _ ix ?_, fun ix => hk.rd _ ix ?_, fun ix => hk.rd _ ix ?_, fun ix => hk.rd _ ix ?_,
      fun ix => hk.rd _ ix ?_, fun ix => hk.rd _ ix ?_, fun ix => hk.rd _ ix ?_, fun ix => hk.rd _ ix ?_⟩ <;> decide
  refine hall _ (funcOf_unit ?_) _
  unfold portFunc fTdm fAin fAout
  (repeat' split) <;> omega

theorem funcState_raises (k : Nat) (b d : Dev) : funcState k (raises b d) = funcState k d := rd_raises_off _ _ (funcOf_state k).2

theorem portStopComplete_stops (d : Dev) (hp : p < 24) (h : funcState (portFunc p) d = 3) :
    Passes (tabGet 0 d.apt.stopping p - 1 + 5 * msUnits) d (portStopComplete p d) ∧ funcState (portFunc p) (portStopComplete p d) = 0 := by
  rw [portStopComplete_eq h]
  refine ⟨?_, ?_⟩
  · refine (portPresence_keeps (Kept.refl _ _) (Sub.refl _)).passes ((setFuncState_keeps (Kept.refl _ _) (Sub.refl _)).passes ?_)
    exact portEmptied_passes (passes_advanceDev _ _)
  · rw [funcState_portPresence _ hp]
    exact funcState_setFuncState _ (by decide)

theorem gatherStopComplete_stays (h : funcState fGather d ≠ 3) : gatherStopComplete d = d := if_pos h

theorem gatherStopComplete_stops (h : funcState fGather d = 3) : Passes (d.gth.stopAt + 5 * msUnits) d (gatherStopComplete d) ∧
    funcState fGather (gatherStopComplete d) = 0 ∧
    (gatherStopComplete d).gth.nodes = [] ∧ (gatherStopComplete d).gth.outs = [] ∧ (gatherStopComplete d).gth.ins = [] := by
  have hk := fun y => setFuncState_keeps (k := fGather) (st := 0) (Kept.refl _ y) (Sub.refl _)
  unfold gatherStopComplete
  rw [if_neg (by simp [h])]
  extract_lets y
  have hy : Passes (d.gth.stopAt + 5 * msUnits) d y := passes_advanceDev _ _
  clear_value y
  have hset : ∀ x, Passes (d.gth.stopAt + 5 * msUnits) d (setGth x y) := fun _ => hy
  refine ⟨(setFuncState_keeps (Kept.refl _ _) (Sub.refl _)).passes (hset _), funcState_setFuncState _ (by decide), ?_⟩
  rw [(hk _).gth (by decide)]
  exact ⟨rfl, rfl, rfl⟩

end Stop

/-! ### Gains and biquads -/

section Gains
variable {node : Nat} {word : Nat} {d : Dev}

theorem showGainQueue_gth (d : Dev) : (showGainQueue d).gth = d.gth := by
  unfold showGainQueue
  exact ite_holds (P := fun x : Dev => x.gth = d.gth) rfl rfl

theorem gainWrite_queued (hs : funcState fGather d = 2) (hq : d.gth.queue.length < 16384) :
    (gainWrite node word d).gth = { d.gth with queue := d.gth.queue ++ [(node, word % 2 ^ 28)] } := by
  have heq : gainWrite node word d = showGainQueue (setGth { d.gth with queue := d.gth.queue ++ [(node, word % 2 ^ 28)] } d) := by
    unfold gainWrite
    rw [if_pos hs, if_neg (by omega)]
  rw [heq, showGainQueue_gth]
  rfl

theorem gainWrite_full (hs : funcState fGather d = 2) (hq : 16384 ≤ d.gth.queue.length) :
    gainWrite node word d = fire 225 (wr GTH_STICKY_q_full [] 1 d) := by
  unfold gainWrite
  rw [if_pos hs, if_pos hq]

theorem gainWrite_stored (hs : funcState fGather d ≠ 2) : gainWrite node word d = putGain node word d := if_neg hs

theorem biquadWrite_gth {o b c w : Nat} (h : c ≠ 4) : (biquadWrite o b c w d).gth = d.gth := by
  unfold biquadWrite
  rw [if_pos h]
  rfl

theorem rd_biquadWrite (f : Fld) (ix : List Nat) (o b c w : Nat) (d : Dev) :
    rd f ix (biquadWrite o b c w d) = rd f ix (wr GTH_BQ_coef [o, b, c] w d) := by
  unfold biquadWrite
  exact ite_holds (P := fun x => rd f ix x = rd f ix (wr GTH_BQ_coef [o, b, c] w d)) rfl rfl

theorem biquadWrite_bqPend (o b w : Nat) (d : Dev) : tabGet [] (biquadWrite o b 4 w d).gth.bqPend (4 * o + b) =
    (List.range 5).map (fun k => rd GTH_BQ_coef [o, b, k] (biquadWrite o b 4 w d)) := by
  have h : (biquadWrite o b 4 w d).gth.bqPend = tabSet [] d.gth.bqPend (4 * o + b)
      ((List.range 5).map (fun k => rd GTH_BQ_coef [o, b, k] (wr GTH_BQ_coef [o, b, 4] w d))) := rfl
  simp only [rd_biquadWrite]
  rw [h, tabGet_set_same]

end Gains

end Sys2Proof.Machine

namespace Sys2Proof
open Machine

/-- Settles O51. -/
theorem audioPortsAndGather : Obligations.AudioPortsAndGather := by
  unfold Obligations.AudioPortsAndGather
  refine ⟨fun port frame => ?_, fun port => ?_, fun port => ?_, fun node word => ?_, fun output biquad coef word => ?_, ?_⟩
  · refine carried_effect (fun _ => rfl) (fun _ _ => execPortFrame_keeps) (by decide +kernel) (fun _ _ h => h) fun hw d ho _ => ?_
    have hc : port < 16 := of_decide_eq_true hw
    refine ⟨fun hm hv => unchanged_of_eq ho (portFrame_master hm hv), fun h8 hr => ?_⟩
    rw [sideState_input _ h8 hc, sideState_input _ h8 hc, rd_raises_off _ _ (by decide), ← sideState_input _ h8 hc, ← sideState_input _ h8 hc,
      portFrame_input _ _ h8]
    refine ⟨fun hv hst => sideFrame_begins h8 hc hr hv hst, fun hv hi hst => ?_⟩
    obtain ⟨y, hy⟩ := sideFrame_loses h8 hc hr hv hi hst
    rw [hy]
    obtain ⟨hs, hfired⟩ := sideLost_shows (setSide port y d) h8 hc
    exact ⟨hs, fired_raises (hfired ((sideState_input _ h8 hc).trans ((sideState_input d h8 hc).symm.trans hst)))⟩
  · refine carried_effect (fun _ => rfl) (fun _ _ => execPortClockLoss_keeps) (by decide +kernel) (fun _ _ h => h) fun hw d ho _ => ?_
    have hc : port < 16 := of_decide_eq_true hw
    refine ⟨fun hm => unchanged_of_eq ho (if_pos hm), fun h8 hr hst => ?_⟩
    rw [sideState_input (raises _ _) h8 hc, rd_raises_off _ _ (by decide), ← sideState_input _ h8 hc, portClockLoss_input _ h8,
      if_pos ⟨(sideOn_input d h8 hc).trans hr, hst⟩]
    obtain ⟨hs, hfired⟩ := sideLost_shows d h8 hc
    exact ⟨hs, fun h2 => fired_raises (hfired h2)⟩
  · refine carried_effect (fun _ => rfl) (fun _ _ => execPortStopComplete_keeps) (by decide +kernel)
      (fun _ _ h => ⟨h.1, fun h3 => ⟨passes_quiet.mp (h.2 h3).1, (h.2 h3).2⟩⟩) fun hw d ho _ => ?_
    refine ⟨fun h => unchanged_of_eq ho (portStopComplete_stays h), fun h => ?_⟩
    obtain ⟨hp, hs⟩ := portStopComplete_stops d (of_decide_eq_true hw) h
    exact ⟨passes_raises hp, (funcState_raises _ _ _).trans hs⟩
  · refine carried_effect (fun _ => rfl) (fun _ _ => execGainWrite_keeps) (by decide +kernel) (fun _ _ h => h) fun _ d _ _ => ?_
    rw [raises_gth, rd_raises_off _ _ (by decide)]
    refine ⟨fun hs hq => ?_, fun hs hq => ?_, fun hs => ?_⟩
    · rw [gainWrite_queued hs hq]
      exact ⟨rfl, rfl⟩
    · rw [gainWrite_full hs hq]
      refine ⟨?_, ?_, fired_raises ((FaultsKept.wr (.refl d)).fired 225)⟩
      · exact (fire_keeps (Kept.refl _ _) (Sub.refl _)).gth (by decide)
      · rw [rd_fire_off _ _ (by decide) (by decide) (by decide), rd_wr_same]
        rfl
    · rw [gainWrite_stored hs]
      exact ⟨rfl, tabGet_set_same _ _ _ _, fun k hk => tabGet_set_ne _ _ _ hk⟩
  · refine carried_effect (fun _ => rfl) (fun _ _ => execBiquadCoefficientWrite_keeps) (by decide +kernel) (fun _ _ h => h) fun _ d _ _ => ?_
    simp (disch := decide) only [raises_gth, rd_raises_off]
    refine ⟨(rd_biquadWrite _ _ _ _ _ _ _).trans (rd_wr_same _ _ _ _), fun h => biquadWrite_gth h, fun h => ?_⟩
    subst h
    exact biquadWrite_bqPend output biquad word d
  · refine carried_effect (fun _ => rfl) (fun _ _ => execGatherStopComplete_keeps) (by decide +kernel)
      (fun _ _ h => ⟨h.1, fun h3 => ⟨passes_quiet.mp (h.2 h3).1, (h.2 h3).2⟩⟩) fun _ d ho _ => ?_
    refine ⟨fun h => unchanged_of_eq ho (gatherStopComplete_stays h), fun h => ?_⟩
    obtain ⟨hp, hs, hgth⟩ := gatherStopComplete_stops h
    refine ⟨passes_raises hp, (funcState_raises _ _ _).trans hs, ?_⟩
    rw [raises_gth]
    exact hgth

end Sys2Proof

end

section
set_option Elab.async false
set_option exponentiation.threshold 2048
/-! PROOFS. Attestation and update sessions (O55). -/

namespace Sys2Proof.Machine

/-! ### Results, and the record in flash -/

section Results
variable {d x : Dev}

theorem updResult_shows (code detail : Nat) (d : Dev) :
    rd UPD_RES_code [] (updResult code detail d) = code % 2 ^ UPD_RES_code.w ∧ rd UPD_RES_busy [] (updResult code detail d) = 0 := by
  unfold updResult
  refine ⟨?_, ?_⟩
  · rw [rd_raiseIrq_off _ _ (by decide), rd_wr_same]
  · rw [rd_raiseIrq_off _ _ (by decide), rd_wr_off _ _ (by decide), rd_wr_off _ _ (by decide), rd_wr_same]
    rfl

@[simp] theorem updResult_nv (code detail : Nat) (d : Dev) : (updResult code detail d).nv = d.nv :=
  (updResult_keeps (Kept.refl _ d) (Sub.refl _)).nv (by decide)

theorem fired_updResult {n : Nat} {code detail : Nat} (h : Fired n d x) (hn : n < 2048 := by decide) : Fired n d (updResult code detail x) :=
  h.kept (updResult_keeps (Kept.refl _ x) (Sub.refl _)) hn

@[simp] theorem fire_nv (n : Nat) (d : Dev) : (fire n d).nv = d.nv := (fire_keeps (Kept.refl _ d) (Sub.refl _)).nv (by decide)

@[simp] theorem setNv_nv (v : Nv) (d : Dev) : (setNv v d).nv = v :=
  (showUpdate_keeps (d := { d with nv := v }) (Kept.refl _ _) (Sub.refl _)).nv (by decide)

theorem openSess_congr (h : x.nv = d.nv) : openSess x = openSess d := by rw [openSess, openSess, h]

theorem openSess_raises (b d : Dev) : openSess (raises b d) = openSess d := openSess_congr (raises_nv b d)

end Results

/-! ### Attestation -/

section Attestation
variable {d : Dev}

theorem attestStart_busy (h : rdB THM_ATT_ST_busy [] d = true) : attestStart d = d := if_pos h

theorem attestStart_begins (h : rdB THM_ATT_ST_busy [] d = false) : rd THM_ATT_ST_busy [] (attestStart d) = 1 ∧
    rd THM_ATT_ST_done [] (attestStart d) = 0 ∧ rd THM_ATT_ST_err [] (attestStart d) = 0 ∧
    (attestStart d).boot.nonce = some ((List.range 12).foldl (fun acc k => acc * 2 ^ 32 + rd THM_ATT_NONCE_word [k] d) 0) := by
  unfold attestStart
  rw [if_neg (by simp [h])]
  refine ⟨?_, ?_, ?_, rfl⟩
  · rw [rd_wr_same]; rfl
  · rw [rd_wr_off _ _ (by decide), rd_wr_same]; rfl
  · rw [rd_wr_off _ _ (by decide), rd_wr_off _ _ (by decide), rd_wr_same]; rfl

theorem attestDone_idle (h : d.boot.nonce = none) : attestDone d = d := by
  unfold attestDone
  rw [h]

/-- The signing that ends, before its result is shown. -/
def attestEnded (d : Dev) : Dev := wr THM_ATT_ST_busy [] 0 { d with boot := { d.boot with nonce := none } }

/-- The signature is shown. -/
def attestSigned (nonce : Nat) (d : Dev) : Dev :=
  let sig := Config.ecdsaSign (beBytes 48 (Config.sha384 (attestBytes nonce d)))
  forUpTo 24 (fun k d => wr THM_ATT_SIG_word [k] (sig / 2 ^ (32 * (23 - k))) d) d

theorem attestDone_eq {nonce : Nat} (h : d.boot.nonce = some nonce) : attestDone d =
    if !d.nv.keys then raiseIrq 4 (wr THM_ATT_ST_err [] 1 (attestEnded d))
    else raiseIrq 4 (wr THM_ATT_ST_done [] 1 (wr THM_ATT_AT_ntw [] (ntwWord (attestSigned nonce (attestEnded d)).ntw) (attestSigned nonce (attestEnded d)))) := by
  unfold attestDone
  rw [h]
  rfl

/-- The words of the signature are all that showing it writes. -/
theorem attestSigned_left (nonce : Nat) (d : Dev) :
    rd THM_ATT_ST_busy [] (attestSigned nonce d) = rd THM_ATT_ST_busy [] d ∧ (attestSigned nonce d).boot = d.boot := by
  unfold attestSigned
  exact forUpTo_holds (P := fun x => rd THM_ATT_ST_busy [] x = rd THM_ATT_ST_busy [] d ∧ x.boot = d.boot) ⟨rfl, rfl⟩
    fun k x hx => ⟨(rd_wr_off _ _ (by decide)).trans hx.1, hx.2⟩

theorem raiseIrq_boot (v : Nat) (d : Dev) : (raiseIrq v d).boot = d.boot := (raiseIrq_keeps (Kept.refl _ d) (Sub.refl _)).boot (by decide)

theorem attestEnded_busy (d : Dev) : rd THM_ATT_ST_busy [] (attestEnded d) = 0 := rd_wr_same _ _ _ _

theorem attestDone_erased {nonce : Nat} (h : d.boot.nonce = some nonce) (hk : d.nv.keys = false) : rd THM_ATT_ST_busy [] (attestDone d) = 0 ∧
    (attestDone d).boot.nonce = none ∧ rd THM_ATT_ST_err [] (attestDone d) = 1 ∧
    ∀ k, rd THM_ATT_SIG_word [k] (attestDone d) = rd THM_ATT_SIG_word [k] d := by
  rw [attestDone_eq h, if_pos (by simp [hk]), raiseIrq_boot]
  simp (disch := decide) only [rd_raiseIrq_off, rd_wr_off, rd_wr_same]
  exact ⟨attestEnded_busy d, rfl, rfl, fun k => rd_wr_off _ _ (by decide)⟩

theorem attestDone_signs {nonce : Nat} (h : d.boot.nonce = some nonce) (hk : d.nv.keys = true) : rd THM_ATT_ST_busy [] (attestDone d) = 0 ∧
    (attestDone d).boot.nonce = none ∧ rd THM_ATT_ST_done [] (attestDone d) = 1 := by
  obtain ⟨hbusy, hboot⟩ := attestSigned_left nonce (attestEnded d)
  rw [attestDone_eq h, if_neg (by simp [hk]), raiseIrq_boot, wr_boot, wr_boot, hboot]
  simp (disch := decide) only [rd_raiseIrq_off, rd_wr_off, rd_wr_same]
  exact ⟨hbusy.trans (attestEnded_busy d), rfl, rfl⟩

end Attestation

/-! ### Offers and pieces -/

section Offers
variable {d : Dev} {h : List Nat} {source : Nat} {v : OfferView}

theorem updOffer_eq (v : OfferView) (d : Dev) : updOffer v d =
    updResult (offer ((List.range 64).map (fun r => rd UPD_HDR_word [r] d)) 0 v d).1 0 (offer ((List.range 64).map (fun r => rd UPD_HDR_word [r] d)) 0 v d).2 := rfl

theorem offer_code : (offer h source v d).1 = offerCode h v d := by
  unfold offer
  extract_lets code nv start
  by_cases h1 : code = 1
  · rw [if_pos h1]; exact h1.symm
  · rw [if_neg h1]
    by_cases h0 : code = 0
    · rw [if_neg (not_not_intro h0)]
      split <;> exact h0.symm
    · rw [if_pos h0]

theorem offer_busy (hc : offerCode h v d = 1) : (offer h source v d).2 = fire 274 d := by
  unfold offer
  simp only [hc, if_true]

theorem offer_fails (h0 : offerCode h v d ≠ 0) (h1 : offerCode h v d ≠ 1) : (offer h source v d).2 = fire 272 d := by
  unfold offer
  simp only [if_neg h1, if_pos h0]

theorem offer_opens (hc : offerCode h v d = 0) (ho : openSess d = none) : ∃ x, (offer h source v d).2.nv.sess = some x ∧ x.hdr = h ∧ x.state = 1 ∧
    x.target = 1 - d.nv.active ∧ x.pieces = [] := by
  have hactive : (if hdrType h = 3 then d.nv else { d.nv with prevState := 1, generation := d.nv.generation + 1 }).active = d.nv.active :=
    ite_holds (P := fun y : Nv => y.active = d.nv.active) rfl rfl
  unfold offer
  simp only [hc, ho, if_neg (show ¬ (0 : Nat) = 1 by decide), if_neg (show ¬ (0 : Nat) ≠ 0 by decide), setNv_nv]
  exact ⟨_, rfl, rfl, rfl, congrArg (1 - ·) hactive, rfl⟩

theorem offer_joins {s : Sess} (hc : offerCode h v d = 0) (ho : openSess d = some s) : ∃ y, (offer h source v d).2.nv.sess = some y ∧ y.hdr = s.hdr ∧
    y.pieces = s.pieces ∧ source ∈ y.sources := by
  unfold offer
  simp only [hc, ho, if_neg (show ¬ (0 : Nat) = 1 by decide), if_neg (show ¬ (0 : Nat) ≠ 0 by decide), setSess, setNv_nv]
  refine ⟨_, rfl, rfl, rfl, ?_⟩
  by_cases hm : source ∈ s.sources
  · simp [hm]
  · simp [hm]

theorem putPiece_refused {digest : Option Nat} {i : Nat} {bytes : List Nat} {fails : Bool} (ho : ∀ s, openSess d = some s → s.state ≠ 1) :
    putPiece digest i bytes fails d = (9, d) := by
  unfold putPiece
  cases hs : openSess d with
  | none => rfl
  | some s =>
    simp only [Bool.or_eq_true]
    exact if_pos (.inl (bne_iff_ne.mpr (ho s hs)))

theorem updPut_busy (fails : Bool) (d : Dev) : rd UPD_RES_busy [] (updPut fails d) = 0 := (updResult_shows _ _ _).2

theorem updPut_refused {fails : Bool} (ho : ∀ s, openSess d = some s → s.state ≠ 1) :
    rd UPD_RES_code [] (updPut fails d) = 9 ∧ (updPut fails d).nv = d.nv := by
  have heq : updPut fails d = updResult 9 0 d := by
    unfold updPut
    rw [putPiece_refused ho]
  rw [heq]
  exact ⟨(updResult_shows 9 0 d).1, updResult_nv 9 0 d⟩

theorem answerUpdate_stays {mac src first : Nat} {v6 : Bool} {work : Dev → Nat × Dev} (hu : updatesTaken d = false) :
    answerUpdate mac src v6 work first d = d := if_pos (by simp [hu])

theorem pieceDatagram_stays {digest i : Nat} {bytes : List Nat} {fails : Bool} (hu : updatesTaken d = false ∨ openSess d = none) :
    pieceDatagram digest i bytes fails d = d := by
  unfold pieceDatagram
  obtain hu | hu := hu
  · rw [if_neg (by simp [hu])]
  · rw [putPiece_refused (by simp [hu])]
    exact ite_self d

end Offers

/-! ### The end of a session -/

section Ends
variable {d : Dev} {s : Sess}

theorem openSess_endSession (d : Dev) : openSess (endSession d) = none := by
  unfold endSession
  cases hs : d.nv.sess with
  | none => simp [openSess, hs]
  | some s => simp [openSess, hs, setSess]

theorem faultsKept_endSession (d : Dev) : FaultsKept d (endSession d) := (FaultsKept.refl d).kept (endSession_keeps (Kept.refl _ d) (Sub.refl _))

theorem openSess_fire (n : Nat) (d : Dev) : openSess (fire n d) = openSess d := openSess_congr (fire_nv n d)

theorem openSess_updResult (code detail : Nat) (d : Dev) : openSess (updResult code detail d) = openSess d := openSess_congr (updResult_nv code detail d)

theorem updAbort_idle (h : openSess d = none) : updAbort d = updResult 9 0 d := by
  unfold updAbort
  rw [h]

theorem updAbort_eq (h : openSess d ≠ none) : updAbort d = updResult 0 0 (fire 275 (endSession d)) := by
  obtain ⟨s, hs⟩ := Option.ne_none_iff_exists'.mp h
  unfold updAbort
  rw [hs]

variable {ok : Bool} {patErr : Nat} {r : KeyRec}

theorem finalCheckDone_idle (h : openSess d = none) : finalCheckDone ok patErr r d = d := by
  unfold finalCheckDone
  rw [h]

theorem finalCheckDone_stays (h : openSess d = some s) (hs : s.state ≠ 2) : finalCheckDone ok patErr r d = d := by
  unfold finalCheckDone
  rw [h]
  exact if_pos hs

theorem finalCheckDone_fails (h : openSess d = some s) (hs : s.state = 2) :
    ∃ detail, finalCheckDone false patErr r d = updResult 12 detail (fire 276 (endSession d)) := by
  unfold finalCheckDone
  rw [h]
  exact ⟨_, if_neg (not_not_intro hs)⟩

theorem finalCheckDone_firmware (h : openSess d = some s) (hs : s.state = 2) (ht : hdrType s.hdr = 1) :
    finalCheckDone true patErr r d = setSess (some { s with state := 3, rec_ := (r.slot, r.revoke, r.key) }) d := by
  unfold finalCheckDone
  rw [h]
  simp [hs, ht]

theorem sessionExpiry_stays (h : (openSess d = none ∨ rdB RUL_STATUS_time_set [] d = false) ∨ (openSess d = some s ∧ s.start = none)) :
    sessionExpiry d = d := by
  unfold sessionExpiry
  split
  · rename_i s' hs
    split
    · rename_i t ht
      obtain (hn | hset) | ⟨hx, hstart⟩ := h
      · simp [hs] at hn
      · exact if_pos (by simp [hset])
      · rw [hs, Option.some.injEq] at hx
        subst hx
        simp [ht] at hstart
    · rfl
  · rfl

/-- The instant at which a session is 30 days old. -/
def expiryAt (first : Nat) : Nat := unitsOfNib ((first + 2592000) * Config.nibsPerSec)

theorem sessionExpiry_eq {first : Nat} (h : openSess d = some s) (hs : s.start = some first) (ht : rdB RUL_STATUS_time_set [] d = true) :
    sessionExpiry d = if ntwSecond d + 86400 ≤ first then fire 275 (endSession d) else fire 275 (endSession (advanceTo (expiryAt first) d)) := by
  unfold sessionExpiry
  rw [h]
  simp only [hs, ht, Bool.not_true, Bool.false_eq_true, if_false]
  rfl

theorem sessionExpiry_ends {first : Nat} (h : openSess d = some s) (hs : s.start = some first) (ht : rdB RUL_STATUS_time_set [] d = true) :
    openSess (sessionExpiry d) = none ∧ Fired 275 d (sessionExpiry d) ∧
      (first < ntwSecond d + 86400 → Comes (expiryAt first) d (sessionExpiry d)) := by
  rw [sessionExpiry_eq h hs ht]
  by_cases hlate : ntwSecond d + 86400 ≤ first
  · rw [if_pos hlate, openSess_fire]
    exact ⟨openSess_endSession d, (faultsKept_endSession d).fired 275, fun hlt => absurd hlt (by omega)⟩
  · rw [if_neg hlate, openSess_fire]
    refine ⟨openSess_endSession _, ((faultsKept_advanceTo _ d).trans (faultsKept_endSession _)).fired 275, fun _ => ?_⟩
    exact (fire_keeps (Kept.refl _ _) (Sub.refl _)).comes ((endSession_keeps (Kept.refl _ _) (Sub.refl _)).comes (comes_advanceTo _ d))

end Ends

end Sys2Proof.Machine

namespace Sys2Proof
open Machine

/-- Settles O55. -/
theorem updateSessions : Obligations.UpdateSessions := by
  unfold Obligations.UpdateSessions
  refine ⟨?_, ?_, fun view => ?_, fun fails => ?_, fun mac addr v6 header view => ?_, fun digest index bytes fails => ?_,
    fun mac addr v6 digest first => ?_, fun ok view key => ?_, ?_, ?_⟩
  · refine carried_effect (fun _ => rfl) (fun _ _ => execAttestationStart_keeps) (by decide +kernel) (fun _ _ h => h) fun _ d ho _ => ?_
    refine ⟨fun h => unchanged_of_eq ho (attestStart_busy h), fun h => ?_⟩
    simp (disch := decide) only [rd_raises_off, raises_boot]
    exact attestStart_begins h
  · refine carried_effect (fun _ => rfl) (fun _ _ => execAttestationDone_keeps) (by decide +kernel) (fun _ _ h => h) fun _ d ho _ => ?_
    refine ⟨fun h => unchanged_of_eq ho (attestDone_idle h), fun h => ?_⟩
    obtain ⟨nonce, hn⟩ := Option.ne_none_iff_exists'.mp h
    simp (disch := decide) only [rd_raises_off, raises_boot]
    cases hk : d.nv.keys with
    | false =>
      obtain ⟨hbusy, hnonce, herr⟩ := attestDone_erased hn hk
      exact ⟨hbusy, hnonce, fun _ => herr, nofun⟩
    | true =>
      obtain ⟨hbusy, hnonce, hdone⟩ := attestDone_signs hn hk
      exact ⟨hbusy, hnonce, nofun, fun _ => hdone⟩
  · refine carried_effect (fun _ => rfl) (fun _ _ => execOffer_keeps) (by decide +kernel) (fun _ _ h => h) fun _ d ho _ => ?_
    rintro h code rfl hcode
    have hd : ({ d with out := [] } : Dev) = d := (unchanged_of_eq ho rfl).symm.trans (raises_self d)
    rw [hd] at hcode
    subst hcode
    obtain ⟨hres, hbusy⟩ := updResult_shows (offer ((List.range 64).map (fun r => rd UPD_HDR_word [r] d)) 0 view d).1 0
      (offer ((List.range 64).map (fun r => rd UPD_HDR_word [r] d)) 0 view d).2
    rw [rd_raises_off _ _ (by decide), rd_raises_off _ _ (by decide), raises_nv, updOffer_eq]
    rw [offer_code] at hres hbusy
    rw [updResult_nv, offer_code]
    refine ⟨hres, hbusy, fun h1 => ?_, fun h0 h1 => ?_, fun h0 hs => ?_, fun h0 s hs => ?_⟩
    · rw [offer_busy h1]
      exact ⟨fire_nv 274 d, fired_raises (fired_updResult ((FaultsKept.refl d).fired 274))⟩
    · rw [offer_fails h0 h1]
      exact ⟨fire_nv 272 d, fired_raises (fired_updResult ((FaultsKept.refl d).fired 272))⟩
    · exact offer_opens h0 hs
    · exact offer_joins h0 hs
  · refine carried_effect (fun _ => rfl) (fun _ _ => execPut_keeps) (by decide +kernel) (fun _ _ h => h) fun _ d _ _ => ?_
    rw [rd_raises_off _ _ (by decide), rd_raises_off _ _ (by decide), raises_nv]
    refine ⟨updPut_busy fails d, fun h => updPut_refused (by simp [h]), fun x hx h1 => updPut_refused fun s hs => ?_⟩
    rw [hx, Option.some.injEq] at hs
    exact hs ▸ h1
  · refine carried_effect (fun _ => rfl) (fun _ _ => execOfferDatagram_keeps) (by decide +kernel) (fun _ _ h => h) fun _ d ho _ => ?_
    exact fun h => unchanged_of_eq ho (answerUpdate_stays h)
  · refine carried_effect (fun _ => rfl) (fun _ _ => execPiece_keeps) (by decide +kernel) (fun _ _ h => h) fun _ d ho _ => ?_
    exact fun h => unchanged_of_eq ho (pieceDatagram_stays h)
  · refine carried_effect (fun _ => rfl) (fun _ _ => execQuery_keeps) (by decide +kernel) (fun _ _ h => h) fun _ d ho _ => ?_
    exact fun h => unchanged_of_eq ho (answerUpdate_stays h)
  · refine carried_effect (fun _ => rfl) (fun _ _ => execFinalCheckDone_keeps) (by decide +kernel) (fun _ _ h => h) fun _ d ho _ => ?_
    refine ⟨fun h => unchanged_of_eq ho (finalCheckDone_idle h), fun s hs => ⟨fun h2 => unchanged_of_eq ho (finalCheckDone_stays hs h2),
      fun h2 hok => ?_, fun h2 hok ht => ?_⟩⟩
    · subst hok
      obtain ⟨detail, heq⟩ := finalCheckDone_fails (patErr := sessionPatErr view d) (r := key) hs h2
      rw [openSess_raises, rd_raises_off _ _ (by decide), heq, openSess_updResult, openSess_fire]
      exact ⟨openSess_endSession d, (updResult_shows _ _ _).1, fired_raises (fired_updResult ((faultsKept_endSession d).fired 276))⟩
    · subst hok
      rw [openSess_raises, finalCheckDone_firmware hs h2 ht, openSess, setSess, setNv_nv]
      exact ⟨_, rfl, rfl, rfl⟩
  · refine carried_effect (fun _ => rfl) (fun _ _ => execAbort_keeps) (by decide +kernel) (fun _ _ h => h) fun _ d _ _ => ?_
    rw [rd_raises_off _ _ (by decide), raises_nv, openSess_raises]
    refine ⟨fun h => ?_, fun h => ?_⟩
    · rw [updAbort_idle h]
      exact ⟨(updResult_shows 9 0 d).1, updResult_nv 9 0 d⟩
    · rw [updAbort_eq h, openSess_updResult, openSess_fire]
      exact ⟨openSess_endSession d, (updResult_shows _ _ _).1, fired_raises (fired_updResult ((faultsKept_endSession d).fired 275))⟩
  · refine carried_effect (fun _ => rfl) (fun _ _ => execSessionExpiry_keeps) (by decide +kernel)
      (fun _ _ h => ⟨h.1, fun x hx => ⟨(h.2 x hx).1, fun first hs ht => ?_⟩⟩) fun _ d ho _ => ?_
    · obtain ⟨hopen, hfired, hcomes⟩ := (h.2 x hx).2 first hs ht
      exact ⟨hopen, hfired, fun hlt => comes_quiet.mp (hcomes hlt)⟩
    · refine ⟨fun h => unchanged_of_eq ho (sessionExpiry_stays (s := {}) (.inl h)), fun s hs =>
        ⟨fun hn => unchanged_of_eq ho (sessionExpiry_stays (.inr ⟨hs, hn⟩)), fun first hn ht => ?_⟩⟩
      obtain ⟨hopen, hfired, hcomes⟩ := sessionExpiry_ends hs hn ht
      exact ⟨(openSess_raises _ _).trans hopen, fired_raises hfired, fun hlt => comes_raises (hcomes hlt)⟩

end Sys2Proof

end

section
set_option Elab.async false
set_option exponentiation.threshold 2048
/-! PROOFS. The PCIe endpoint (O58): PCIE_PERST_N takes down a link that reads 1, and no other value of its field. -/

namespace Sys2Proof.Machine

/-- A device whose TOP_PCIE_ST.link_up, a field of one bit, holds 2. -/
def strayLink : State := { dev := { regs := [(fldKey TOP_PCIE_ST_link_up [], 2)] } }

theorem strayLink_awake : Awake strayLink := rfl

theorem rd_strayLink : rd TOP_PCIE_ST_link_up [] strayLink.dev = 2 := by decide

/-- A link that does not read 1 does not fall. -/
theorem linkFalls_stays {d : Dev} (h : rdB TOP_PCIE_ST_link_up [] d = false) : linkFalls d = d := if_neg (by simp [h])

/-- PCIE_PERST_N low leaves link_up as it was where it does not read 1. -/
theorem perstPin_link {d : Dev} (ha : heldDown d = false) (h : rd TOP_PCIE_ST_link_up [] d ≠ 1) :
    rd TOP_PCIE_ST_link_up [] (perstPin true none d) = rd TOP_PCIE_ST_link_up [] d := by
  obtain ⟨y, hy, hedge⟩ : ∃ y : Dev, y.regs = d.regs ∧ perstPin true none d = wr TOP_PCIE_STICKY_perst [] 1 (resetConfig (linkFalls y)) := by
    unfold heldDown at ha
    unfold perstPin
    rw [if_neg (by simp [ha])]
    exact ⟨{ d with pins := { d.pins with perstLow := true } }, rfl, rfl⟩
  have hlink : rd TOP_PCIE_ST_link_up [] y = rd TOP_PCIE_ST_link_up [] d := rd_congr _ _ hy
  have hoff : rdB TOP_PCIE_ST_link_up [] y = false := beq_eq_false_iff_ne.mpr (hlink ▸ h)
  rw [hedge, linkFalls_stays hoff, rd_wr_off _ _ (by decide), (resetConfig_keeps (Kept.refl _ y) (Sub.refl _)).rd _ _ (by decide), hlink]

end Sys2Proof.Machine

namespace Sys2Proof
open Machine

/-- Refutes O58: on a device whose one-bit link_up holds 2, which the statement's states include, the link does not read 1, so PCIE_PERST_N low does
not take it down, and link_up still reads 2 where the clause asks for 0. -/
theorem not_pcieAndInterrupts : ¬ Obligations.PcieAndInterrupts := by
  rintro ⟨hperst, -⟩
  obtain ⟨t, ht, -, -, -, -, hlow⟩ := hperst true none rfl strayLink strayLink_awake
  have hnext : exec (.pciePerstN true none) strayLink = .next { strayLink with dev := perstPin true none (quiet strayLink.dev) } :=
    performAlways_next (c := .pciePerstN true none) (f := perstPin true none) rfl
  rw [hnext, Host.Outcome.next.injEq] at ht
  subst ht
  have hstays : rd TOP_PCIE_ST_link_up [] (perstPin true none strayLink.dev) = 2 := (perstPin_link strayLink_awake (by decide)).trans rd_strayLink
  exact absurd (hstays.symm.trans (hlow rfl).1) (by decide)

end Sys2Proof

end
